-- ==== Sys2Proof/Word.lean ====
section
/-!
DEFINITION. The words of the model (spec/00_scope.md, "Numbers, bits and bytes") and their plainest arithmetic.
Register contents, cells and accumulator bits are bit vectors; counts, indexes and decoded fields are natural numbers.
-/

namespace Sys2Proof

/-- A byte of memory or of a packet's data. -/
abbrev Byte := BitVec 8

/-- A 32-bit register (R705). -/
abbrev Reg := BitVec 32

/-- A 64-bit word: a counter, a Bartas register, an accelerator physical address. -/
abbrev Word64 := BitVec 64

/-- A 16-byte cell (spec/02, "cell"). -/
abbrev Cell := BitVec 128

end Sys2Proof
end

