-- ==== Sys2Proof/Syntax/Lha.lean ====
section
/-!
DEFINITION. Messages of the host attachment (Tables 6.2 and 6.3) and the operands of a Bartas instruction (spec/10).
-/

namespace Sys2Proof.Machine

/-- An LHA message on a module (R232, Table 6.2). Data cells are bytes in wire order, 16 to a cell. -/
structure LhaMsg where
  module : Nat := 0
  lver : Nat := 1
  chan : Nat := 0
  mop : Nat := 0
  ctx : Nat := 0
  asid : Nat := 0
  acquire : Bool := false
  release : Bool := false
  relaxed : Bool := false
  flagNode : Bool := false
  flagAll : Bool := false
  /-- Reserved bits [93:92] and [70:64]. -/
  rsvdHi : Nat := 0
  rsvdLo : Nat := 0
  tag : Nat := 0
  len : Nat := 0
  addr : Nat := 0
  data : List Byte := []
  deriving DecidableEq, Repr, Inhabited

end Sys2Proof.Machine
end

