-- ==== Sys2Proof/Syntax/Packets.lean ====
section
/-!
DEFINITION. What travels: packets (spec/02, Tables 2.5 to 2.10), flits and link-control messages (spec/13, Tables 13.4 to 13.12), the operands of the commands.
Decoded fields are natural numbers whose widths Sys2Proof/WellFormed.lean checks; cells and data bytes are bit vectors.
-/

namespace Sys2Proof.Machine

/-- The two orderable parts (R1). A command that binds both parts names the one it is sent to (R3). -/
inductive Part where
  | sw
  | ep
  deriving DecidableEq, Repr

/-- The seven flag bits of a header cell (Table 2.5). -/
structure HdrFlags where
  flagStore : Bool := false
  acquire : Bool := false
  release : Bool := false
  relaxed : Bool := false
  measured : Bool := false
  replay : Bool := false
  encrypted : Bool := false
  deriving DecidableEq, Repr, Inhabited

/-- A packet: header cell, data bytes, authentication cell, check cell (R48, R51, R64). -/
structure Packet where
  ver : Nat := 1
  op : Nat := 0
  vc : Nat := 1
  flags : HdrFlags := {}
  src : Nat := 0
  dst : Nat := 0
  pitch : Nat := 0
  tag : Nat := 0
  len : Nat := 0
  woff : Nat := 0
  seq : Nat := 0
  data : List Byte := []
  auth : Option Cell := none
  crc : BitVec 64 := 0
  key : Nat := 0
  /-- Reserved bits [31:19] of the check cell. -/
  rsvd : Nat := 0
  merged : Bool := false
  cmode : Nat := 0
  counter : Nat := 0
  deriving DecidableEq, Repr, Inhabited

/-- Types of flit (Table 13.5). -/
inductive FlitType where
  | data
  | ctrl
  | idle
  | reserved (code : Nat)
  deriving DecidableEq, Repr, Inhabited

/-- A flit (Tables 13.4 to 13.6): link header, up to 15 content cells, CRC-32 and sideband. -/
structure Flit where
  ftype : FlitType := .idle
  fseq : Nat := 0
  ack : Nat := 0
  nak : Bool := false
  cvcA : Nat := 0
  credA : Nat := 0
  cvcB : Nat := 0
  credB : Nat := 0
  cells : List Cell := []
  pickLo : Nat := 0
  cn : Nat := 0
  crc : BitVec 32 := 0
  deriving DecidableEq, Repr, Inhabited

/-- Identity that an IDENT message carries (Table 13.9). -/
structure Ident where
  serial : Nat := 0
  port : Nat := 0
  plane : Nat := 0
  node : Nat := 0
  nodeValid : Bool := false
  domain : Nat := 0
  pitch : Nat := 0
  deriving DecidableEq, Repr, Inhabited

/-- Capabilities that a CAPS message carries (Table 13.9). -/
structure Caps where
  lverMax : Nat := 1
  kind : Nat := 1
  commonRef : Bool := false
  spread : Bool := false
  eyeScan : Bool := true
  replayFlits : Nat := 512
  deriving DecidableEq, Repr, Inhabited

/-- Link-control messages (Table 13.9). -/
inductive LinkMsg where
  | caps (c : Caps)
  | ident (i : Ident)
  | wire (result other : Nat)
  | creditInit (grants : List Nat)
  | admission (code : Nat)
  deriving DecidableEq, Repr, Inhabited

/-- A lane-control set (Table 13.12): the command and its arguments. -/
structure LaneSet where
  cmd : Nat := 1
  arg0 : Nat := 0
  arg1 : Nat := 0
  arg2 : Nat := 0
  arg3 : Nat := 0
  deriving DecidableEq, Repr, Inhabited

/-- A training set as read on one channel (Table 13.2, R529). `inverted`: D10.2 was read in place of D21.5 (R530). -/
structure TrainingSet where
  chan : Nat := 0
  role : Nat := 0
  stage : Nat := 3
  exitMet : Bool := false
  commonRef : Bool := false
  spread : Bool := false
  dsk : Nat := 0
  inverted : Bool := false
  /-- Skew measured for the channel, in code groups after the earliest channel. -/
  skew : Nat := 0
  deriving DecidableEq, Repr, Inhabited

/-- A pick marker as received on a port (Table 13.3): announced roles of the 34 channels, the pick number its channels carry,
the sender's state and kind, the echo and turn fields, the channel whose identity differed, if any, and the arrival time in half nanoseconds
from the receiver's own boundary. -/
structure Marker where
  roles : List Nat := []
  pn : Nat := 0
  state : Nat := 1
  fromSwitch : Bool := true
  echo : Nat := 0
  turn : Nat := 0
  /-- Channels whose marker carried the identity of another channel (R514), with the identity read. -/
  wrongIds : List (Nat × Nat) := []
  arrival : Int := 0
  deriving DecidableEq, Repr, Inhabited

/-- Inputs of the pick timing (R302). -/
inductive SyncInput where
  | a
  | b
  deriving DecidableEq, Repr, Inhabited

/-- An optical report (Table 12.8). Powers in 0.01 dBm. -/
structure OptReport where
  port : Nat := 0
  commonRef : Bool := false
  lanes : Nat := 32
  txTap : Int := 0
  rxIn : Int := 0
  pick : Nat := 0
  /-- Ring-drop power of channels 0 to 33; `none` for a channel whose role is out. -/
  drop : List (Option Int) := []
  deriving DecidableEq, Repr, Inhabited

/-- A ring of a port (R473): a transmit or a receive ring, and its channel. -/
structure RingId where
  tx : Bool := false
  chan : Nat := 0
  deriving DecidableEq, Repr, Inhabited

/-- A message that software hands to an engine of the end-point (R72): destination domain and node, receive queue, and its bytes.
The spec gives `MSG_SEND` no descriptor and no LHA message: it comes as the operand of `REQUEST_SEND` (notes/assumptions/36.md). -/
structure OutMsg where
  domain : Nat := 0
  node : Nat := 0
  queue : Nat := 0
  data : List Byte := []
  deriving DecidableEq, Repr, Inhabited

/-- For what `REQUEST_SEND` acts: an engine, and the message that its software hands over first, if any (R68, R72). -/
structure Sender where
  engine : Nat
  msg : Option OutMsg := none
  deriving DecidableEq, Repr, Inhabited

/-- What the code of a unit says at its output (R273): the single-bit errors it corrects, and whether the unit is bad. -/
structure UnitCheck where
  corrected : Nat := 0
  bad : Bool := false
  deriving DecidableEq, Repr, Inhabited

end Sys2Proof.Machine
end

