-- ==== Sys2Proof/Syntax/Management.lean ====
section
/-!
DEFINITION. What the management commands carry (spec/17) and what the outside world tells a part at a boundary or at a sample (spec/12, 14, 15).
-/

namespace Sys2Proof.Machine

/-- Transports of Zhevseler (Table 17.3). -/
inductive Transport where
  | guyA
  | guyB
  | inband
  | i3c
  deriving DecidableEq, Repr, Inhabited

/-- A Zhevseler packet as it reaches a part (R670, Table 17.1): header fields, payload bytes, and how it came. The row of the opcode table names the opcode.
`length` is the header's LENGTH in words and `size` the packet length in bytes; `srcNode` and `plane` are those of the `MGMT` packet of an in-band command;
`session` is the session of the `SPDM_MSG` that encloses the packet, if one does. -/
structure ZPacket where
  part : Part := .sw
  transport : Transport := .guyA
  version : Nat := 1
  replyFlag : Bool := false
  noReply : Bool := false
  rsvdFlags : Nat := 0
  length : Nat := 0
  size : Nat := 16
  tag : Nat := 0
  kind : Nat := 0
  index : Nat := 0
  payload : List Byte := []
  srcNode : Nat := 0
  plane : Nat := 0
  session : Option Nat := none
  deriving DecidableEq, Repr, Inhabited

/-- Operand of an SPDM request: the part it reaches; the session it belongs to, or opens (0 outside a session); the root public key of the requester's
chain where MUT_AUTH carries one; the certificate slot or measurement index asked for (0xFF: every block); whether what the requester signed or authenticated is good. -/
structure SpdmReq where
  part : Part := .sw
  session : Nat := 0
  chain : List Byte := []
  index : Nat := 0
  good : Bool := true
  deriving DecidableEq, Repr, Inhabited

/-- Code errors that a receiver found on one channel in a pick (R509, R511): code violations and disparity errors. -/
structure LaneErr where
  port : Nat := 0
  chan : Nat := 0
  code : Nat := 0
  disp : Nat := 0
  deriving DecidableEq, Repr, Inhabited

/-- What the part measures of itself at a boundary (R338, R559, R561, R564, R597, R599): facts of the silicon, given by the outside.
Powers in 0.1 W, slack in ps, eye heights in threshold steps, headroom in GHz. -/
structure BoundaryIn where
  part : Part := .sw
  /-- Pick power of the pick just ended (R597). -/
  pickPower : Nat := 0
  /-- Estimates of the pick that opens: power that does not scale with traffic (R602), of full traffic on every port, of the staked and of the loose traffic offered (R599). -/
  floor : Nat := 0
  full : Nat := 0
  staked : Nat := 0
  loose : Nat := 0
  /-- Worst canary slack and its die (R564). -/
  slack : Int := 100
  slackDie : Nat := 0
  /-- Worst slack on the fabric die, or on the end-point die (R565). -/
  coreSlack : Int := 100
  /-- Lowest eye height and heater headroom with their ports (Table 14.3). -/
  eyeMin : Nat := 64
  eyePort : Nat := 0
  heaterMin : Int := 100
  heaterPort : Nat := 0
  /-- Rows in which a correctable error recurred at one address within 1,000 picks (R561). -/
  rows : Nat := 0
  /-- Stacks in which some of those rows lie. -/
  dramRows : List Nat := []
  /-- Memory errors of the DRAM stacks in the pick just ended: stack, and whether the error was lasting (R555, Table 14.2). -/
  dramEcc : List (Nat × Bool) := []
  /-- Flits that an adapter retry of the host attachment has delivered in the pick just ended (R231). -/
  lhaRetries : Nat := 0
  /-- Code errors that the receivers found in the pick just ended, outside lane checks (R511). -/
  laneErrs : List LaneErr := []
  /-- Standby shafts whose self-check fails (R272). -/
  badShafts : List Nat := []
  /-- The VDD_CORE target has stayed unmet for 1 s (R566). -/
  avsUnmet : Bool := false
  deriving DecidableEq, Repr, Inhabited

/-- One monitor sample of a port (Table 12.6). Powers in 0.01 dBm; an absent reading was not sampled now.
`dark` is how many whole microseconds the receiver input has stayed below its threshold. -/
structure MonitorIn where
  tap : Option Int := none
  dist : Option Int := none
  rxIn : Option Int := none
  /-- Every lane lost its light at once (R489). -/
  allDark : Bool := false
  /-- Light has returned to a paused port. -/
  lightBack : Bool := false
  /-- Whole microseconds for which the receiver input has stayed at −15.0 dBm or more. -/
  brightUs : Nat := 0
  drop : List (Nat × Int) := []
  /-- Tracking errors of transmit and receive rings in 0.1 GHz, by channel (Table 12.15). -/
  txErr : List (Nat × Int) := []
  rxErr : List (Nat × Int) := []
  /-- Output and bias of the comb that feeds the port. -/
  combOut : Option Int := none
  combBias : Option Nat := none
  combLockErr : Option Int := none
  deriving DecidableEq, Repr, Inhabited

/-- One reading of a sensor channel (R595): channel number and raw value (1/64 °C, mV, 1/4 mV or current units, R624). -/
structure SensorIn where
  chan : Nat := 0
  raw : Int := 0
  deriving DecidableEq, Repr, Inhabited

/-- Who reads a register: the owner of a LO/HI capture (R713). -/
inductive Requester where
  | lha (ctx : Nat)
  | session (id : Nat)
  | transport (t : Transport)
  deriving DecidableEq, Repr

end Sys2Proof.Machine
end

