-- ==== Sys2Proof/Syntax.lean ====
section
/-!
DEFINITION. The commands: one constructor for each row of the table of operations and events, in its order, with what the sender gives (ports, packets, messages, samples of the silicon).
Who sends a command, and what it stands for, is the rule that its comment cites.
-/

namespace Sys2Proof

open Sys2Proof.Machine

/-- A command to one of the two parts. -/
inductive Instr where
  /-- A write through the normal view to a register that has no row of its own stores, ignores or posts the value according to its field types. R16. -/
  | registerWrite (part : Part) (addr value : Nat)
  /-- A write through the set, clear or toggle view performs one atomic read-modify-write of the RW fields and ignores the other fields. R706. -/
  | viewWrite (part : Part) (addr value : Nat)
  /-- A write to an RE register clears it only when the written sequence equals its nonzero sequence; the internal count is kept. R716. -/
  | eventRegisterClear (part : Part) (addr value : Nat)
  /-- A read of a LO word captures its HI word for that requester, so the next HI read returns the captured value. R118. -/
  | loWordRead (part : Part) (who : Requester) (addr : Nat)
  /-- A posted write into a slow domain takes effect and the block's BUSY bit clears. R714. -/
  | wpWriteComplete (part : Part) (block : Nat)
  /-- A write to ID_CNT_CLEAR clears every saturating counter of the named page, or of every page, within 1 µs. R723. -/
  | idCntClear (part : Part) (value : Nat)
  /-- A write to TEL_HWM_CLR sets the depth and delay high-water marks of each queue whose bit is 1 to zero. R339. -/
  | telHwmClr (part : Part) (port value : Nat)
  /-- A write of any value to THERM_HWM clears the hottest median held since the last write. R623. -/
  | thermHwmClear (part : Part) (value : Nat)
  /-- At each pick boundary, the part takes the scheduled work of the pick: commits, re-routing, collective state changes, spare switching, telemetry and calendar turnover. R33. -/
  | pickBoundary (b : BoundaryIn)
  /-- A PICK_SYNC pulse marks a boundary and codes a symbol of the pick-number frame. R302. -/
  | pickSyncPulse (part : Part) (input : SyncInput) (width : Nat) (offset : Int)
  /-- After 10 s in HOLDOVER the timebase enters EXPIRED and discards staged sets not yet committed under R310. R306. -/
  | holdoverExpired (part : Part)
  /-- A received pick marker gives the round trip, the far roles, the identity sign and the end-point's pick reference. R512. -/
  | pickMarker (part : Part) (port : Nat) (m : Marker)
  /-- A SCHEDULED set writes its entries at the boundary that opens its pick, before any packet or command of that pick. R691. -/
  | stagedSetCommit (part : Part) (set : Nat)
  /-- A scheduled FENCE or TAKEOVER change commits at its pick, before every set 0 to 7 of that pick. R763. -/
  | membershipCommit (part : Part)
  /-- The source accepts the head packet of a staked flow once the flow has budget for its cells in the pick. R323. -/
  | stakedAccept (flow : Nat)
  /-- At each timing-wheel slot, every flow whose eligible time has come sends its head packet and advances its eligible time. R325. -/
  | wheelSlot (slot : Nat)
  /-- At each flit slot the transmitter sends a DATA, CTRL or IDLE flit, filling it from the egress queues. R517. -/
  | flitSend (part : Part) (port tick : Nat)
  /-- A received flit is accepted or discarded by its CRC, type and sequence, and its ACK, NAK and credit fields are used. R519. -/
  | flitReceived (part : Part) (port : Nat) (f : Flit)
  /-- When the oldest unacknowledged flit has waited REPLAY_TMO, the transmitter replays every unacknowledged flit. R522. -/
  | replayTimeout (part : Part) (port : Nat)
  /-- A received training set advances stages 3 to 6 of training when both ends report the exit condition. R529. -/
  | trainingSet (part : Part) (port : Nat) (t : TrainingSet) (ownMet : Bool)
  /-- A training stage that reaches its timeout fails the raise and strikes the port. R528. -/
  | stageTimeout (part : Part) (port : Nat)
  /-- A received CAPS message fixes the link version and capabilities at stage 7. R531. -/
  | caps (part : Part) (port : Nat) (c : Caps)
  /-- A received IDENT message records the far identity and drives the wiring check and admission. R532. -/
  | ident (part : Part) (port : Nat) (x : Ident)
  /-- A received WIRE message reports the far end's wiring result. R534. -/
  | wire (part : Part) (port result other : Nat)
  /-- A received CREDIT_INIT message sets the initial credit grants of every VC at stage 10. R527. -/
  | creditInit (part : Part) (port : Nat) (grants : List Nat)
  /-- A received ADMIT message tells the end-point that its port is admitted or in standby. R536. -/
  | admitMsg (port code : Nat)
  /-- A CHECK lane-control set starts a lane check in which both ends send check sets and mark bad channels. R540. -/
  | laneCtrlCheck (part : Part) (port : Nat) (lanes : LaneSet) (bad : List (Nat × Bool))
  /-- A MOVE request for a lane onto a spare channel is answered MOVE_OK or MOVE_NO. R543. -/
  | move (part : Part) (port : Nat) (lanes : LaneSet)
  /-- A MOVE_OK answer lets both transmitters apply the move after their markers of pick E. R543. -/
  | moveOk (part : Part) (port : Nat) (lanes : LaneSet)
  /-- A MOVE_NO answer makes the requester send WIDTH instead. R543. -/
  | moveNo (part : Part) (port : Nat) (lanes : LaneSet)
  /-- A WIDTH request narrows or widens the port at pick E to the largest width the good channels allow. R543. -/
  | width (part : Part) (port : Nat) (lanes : LaneSet)
  /-- A WIDTH_OK answer confirms the width change at pick E. R543. -/
  | widthOk (part : Part) (port : Nat) (lanes : LaneSet)
  /-- A requester repeats its lane-control set every 250 ns until the answer arrives or its pick has passed. R542. -/
  | laneCtrlRetry (part : Part) (port : Nat)
  /-- A DRAIN set stops new DATA and CTRL flits, and DRAIN_DONE is sent once the replay buffer is empty. R545. -/
  | drain (part : Part) (port : Nat)
  /-- Once each end has sent and received DRAIN_DONE, the port is PAUSED. R545. -/
  | drainDone (part : Part) (port : Nat)
  /-- A received STRIKE set takes the port out of RAISED and STANDBY and is answered STRIKE_DONE. R547. -/
  | strike (part : Part) (port : Nat)
  /-- A received STRIKE_DONE lets an orderly strike go on to empty its replay buffers. R546. -/
  | strikeDone (part : Part) (port : Nat)
  /-- Once the replay buffers are empty, flits stop, every channel carries the idle-spare pattern and credits lapse. R546. -/
  | strikeComplete (part : Part) (port : Nat)
  /-- Step 3 of an orderly strike running past 10 µs turns it into an abrupt strike. R547. -/
  | strikeStepTimeout (part : Part) (port : Nat)
  /-- Writing PORT_LINK_CMD.RAISE clears the failed-raise wait and starts a raise. R538. -/
  | linkCmdRaise (part : Part) (port : Nat)
  /-- Writing PORT_LINK_CMD.STRIKE starts an orderly strike, cold when COLD is written with it. R546. -/
  | linkCmdStrike (part : Part) (port : Nat) (cold : Bool)
  /-- Writing PORT_LINK_CMD.CHECK starts a lane check. R540. -/
  | linkCmdCheck (part : Part) (port : Nat)
  /-- Writing PORT_LINK_CMD.CLR_LANE clears the code-violation and disparity counts of lane table 0x0. R552. -/
  | linkCmdClrLane (part : Part) (port : Nat)
  /-- Writing PORT_EYE_CMD.START begins an eye scan of one channel or of every channel. R550. -/
  | eyeStart (part : Part) (port value : Nat)
  /-- Writing PORT_EYE_CMD.STOP stops the eye scan in progress. R551. -/
  | eyeStop (part : Part) (port : Nat)
  /-- A finished scan records WIDTH and HEIGHT in lane table 0x2 and, with AUTO, starts the next channel. R551. -/
  | eyeScanDone (part : Part) (port : Nat) (results : List (Nat × Nat × Nat)) (counts : List Nat)
  /-- At each monitor sample the part reads optical power at its monitor points and acts on the thresholds. R483. -/
  | monitorSample (part : Part) (port : Nat) (m : MonitorIn)
  /-- A warm re-raise completes, both ends send IDENT, and the port resumes or is struck for a changed identity. R537. -/
  | warmReraiseDone (part : Part) (port : Nat) (x : Ident)
  /-- Receiver input below −15 dBm for 100 µs closes the shutter, strikes the port and puts it into PROBE. R499. -/
  | openFibre (part : Part) (port : Nat)
  /-- Transmit-tap power above +13 dBm for 10 µs closes the port's shutter and strikes the port. R498. -/
  | launchLimit (part : Part) (port : Nat)
  /-- A port in PROBE opens its shutter for 2 ms in every 100 ms at a low launch power. R500. -/
  | probePulse (part : Part) (port : Nat)
  /-- Far probe light seen at the receiver starts the port's own pulse and the eye-safe light-up stage. R500. -/
  | probeSet (part : Part) (port : Nat)
  /-- LASER_EN going low turns every comb DARK within 50 µs by a hardware path. R497. -/
  | laserEnLow (part : Part)
  /-- LASER_EN going high lets enabled combs enter WARMING when the part is not in bivouac. R470. -/
  | laserEnHigh (part : Part)
  /-- A warming comb that locks at its setpoint becomes LIT, or STANDBY for the spare. R470. -/
  | combLocked (part : Part) (comb : Nat)
  /-- A comb not locked within 20 ms of warming is RETIRED. R470. -/
  | combWarmTimeout (part : Part) (comb : Nat)
  /-- A comb whose locker stays unlocked for more than 1 ms is retired. R472. -/
  | combLockerLost (part : Part) (comb : Nat)
  /-- A comb whose output stays more than 3 dB below setpoint for 5 µs is retired. R472. -/
  | combOutputLow (part : Part) (comb : Nat)
  /-- The spare comb's light reaches the four ports of the position, and warm re-raise begins. R469. -/
  | spareLightArrived (part : Part) (engine : Nat)
  /-- Each temperature sample moves every heater of the port by −COEF times the change in its sensor. R477. -/
  | feedforwardSample (part : Part) (port : Nat) (temp : Int)
  /-- A tracking loop reporting loss of lock locates a slip on its own ring and starts a lane check. R478. -/
  | ringLockLost (part : Part) (port : Nat) (r : RingId)
  /-- A parked ring that relocks on its own line within 10 ms counts as a transient slip and its channel becomes spare. R481. -/
  | ringRelock (part : Part) (port : Nat) (r : RingId)
  /-- A ring not relocked 10 ms after a slip counts as a lasting slip and its channel becomes out. R481. -/
  | slipRelockTimeout (part : Part) (port : Nat) (r : RingId)
  /-- A received optical report gives the far ring-drop powers used for lane and comb margins. R486. -/
  | opticalReport (part : Part) (port : Nat) (r : OptReport)
  /-- A ring's tracking loop holds its error within ±10 GHz for 5 µs, so the ring is locked and stage 2 of training can end. R476. -/
  | ringsLocked (part : Part) (port : Nat) (r : RingId)
  /-- A packet that the switch does not consume passes the checks of Table 7.1 and is routed to its output by the node-alias table. R261. -/
  | packetForward (port : Nat) (p : Packet)
  /-- A waiting packet is admitted to the shared buffer once blocks are free, and its link credits are returned. R266. -/
  | bufferAdmission (port : Nat)
  /-- At each matcher slot each shaft computes a match from the requests present and transfers the previous slot's units. R277. -/
  | matcherSlot (slot : Nat) (bad : List Nat)
  /-- A spray unit reaching the reed is checked, held and released in sequence order, releasing packets to egress. R281. -/
  | sprayUnitArrival (input output seq : Nat) (high : Bool) (check : UnitCheck)
  /-- A receipt returns the unit's blocks, or a negative receipt makes the input re-send the unit on the next shaft. R283. -/
  | reedReceipt (input output seq : Nat) (high negative : Bool)
  /-- A reed still lacking a unit 4 µs after a later one arrived discards its units and strikes the output. R284. -/
  | reedHoleTimeout (input output : Nat)
  /-- A packet 40 picks inside the switch is discarded and its output port is struck. R121. -/
  | packetAgeDiscard (output : Nat)
  /-- A group bus sends a cast packet once every tapping output has room for it. R287. -/
  | castSend (group : Nat)
  /-- The switch takes the home's answer to a merged request and answers every member of the batch. R296. -/
  | combineAnswer (port : Nat) (p : Packet)
  /-- A merged request unanswered for 8 picks is forgotten, and its members get no answer. R297. -/
  | mergedForget (output batch : Nat)
  /-- A MSG_SEND from a domain port is checked and sent to the selvedge port for its domain, or answered DOMAIN_UNREACHABLE. R72. -/
  | msgSendRoute (port : Nat) (p : Packet)
  /-- A MSG_SEND arriving on a selvedge port takes its ingress pitch and is routed to its destination node. R74. -/
  | msgSendSelvedge (port : Nat) (p : Packet)
  /-- The switch routes a MSG_ACK toward its sender's domain and node, or drops and counts it. R75. -/
  | msgAckRoute (port : Nat) (p : Packet)
  /-- The source end-point assigns SEQ and tag, chooses a plane and sends a request once no hold of R94, R98, R100 or R101 remains. R94. -/
  | requestSend (sender : Sender)
  /-- An arriving READ is checked at the home and served from accelerator memory, answered by READ_RSP. R95. -/
  | read (plane : Nat) (p : Packet)
  /-- An arriving WRITE is checked at the home and all its bytes are written, answered by WRITE_ACK. R96. -/
  | write (plane : Nat) (p : Packet)
  /-- An arriving WRITE_MASKED writes only the bytes its mask selects. R55. -/
  | writeMasked (plane : Nat) (p : Packet)
  /-- An arriving WRITE_FLAG_NODE is held until every lower SEQ from its source is applied or refused. R97. -/
  | writeFlagNode (plane : Nat) (p : Packet)
  /-- An arriving WRITE_FLAG_ALL is held at the home like a node flag store. R97. -/
  | writeFlagAll (plane : Nat) (p : Packet)
  /-- An arriving ATOMIC performs its read-modify-write and writes the result table before answering. R106. -/
  | atomic (plane : Nat) (p : Packet)
  /-- A merged request from the combiner is applied once all its receipt entries are held. R136. -/
  | mergedRequest (plane : Nat) (p : Packet)
  /-- A COMBINE_RECEIPT delivers member entries of a batch and may complete it for application. R136. -/
  | combineReceipt (plane : Nat) (p : Packet)
  /-- A held flagged store is applied once every lower SEQ is applied or refused. R97. -/
  | flagHoldRelease (src seq : Nat)
  /-- A flagged store held for 256 picks is discarded unanswered and counted. R99. -/
  | flagHoldDiscard (src seq : Nat)
  /-- A batch not complete within 4 picks is discarded unanswered and counted. R136. -/
  | combineBatchDrop (plane batch : Nat)
  /-- A matching READ_RSP completes its read and retires the tag, or is dropped as stray. R71. -/
  | readRsp (plane : Nat) (p : Packet)
  /-- A matching WRITE_ACK completes the store by its status, or marks a plane down and re-issues. R140. -/
  | writeAck (plane : Nat) (p : Packet)
  /-- A matching ATOMIC_RSP returns the old value to the issuing engine. R109. -/
  | atomicRsp (plane : Nat) (p : Packet)
  /-- The receiving end-point checks a MSG_SEND, writes it into its receive queue and answers with MSG_ACK. R77. -/
  | msgSend (plane : Nat) (p : Packet)
  /-- A matching MSG_ACK completes the message with its status. R140. -/
  | msgAck (plane : Nat) (p : Packet)
  /-- The duplicate record of a sender silent for 1,000 picks is discarded. R80. -/
  | msgDupExpiry (sender : Nat)
  /-- A request unanswered for EP_RSP_TIMEOUT.PICKS times out and is re-issued or completed TIMEOUT. R124. -/
  | responseTimeout (tag : Nat)
  /-- 64 picks after its last issue, a request whose own fabric port went down is re-issued. R125. -/
  | portDownReissue (tag : Nat)
  /-- A fence completes once every request in its scope has completed, reporting its error count. R112. -/
  | fenceComplete (engine : Nat)
  /-- A write to EP_CTR_SUB subtracts the value from the counter atomically. R117. -/
  | ctrSub (index value : Nat)
  /-- A write to EP_RLC_INVAL invalidates every line, a node's lines or a pair's lines. R167. -/
  | rlcInval (value : Nat)
  /-- A write to EP_RLC_ADVICE_n invalidates the lines of the pairs it covers. R162. -/
  | rlcAdviceWrite (index value : Nat)
  /-- A write to a remote key table entry invalidates the lines of its node and window. R162. -/
  | keyTableWrite (addr value : Nat)
  /-- Writing EP_RLC_CTRL.EN as 0 invalidates every line. R162. -/
  | rlcDisable
  /-- An LHA LD is accepted and turned into a READ, a cache hit or an MRD, then answered by LD_RSP. R241. -/
  | ld (m : LhaMsg)
  /-- An LHA ST becomes a WRITE or MWR and is answered once acknowledged. R241. -/
  | st (m : LhaMsg)
  /-- An LHA ST_MASKED becomes a masked or flagged store, or an MWR_MASKED. R241. -/
  | stMasked (m : LhaMsg)
  /-- An LHA AT becomes an ATOMIC or MAT and is answered by AT_RSP. R241. -/
  | lhaAt (m : LhaMsg)
  /-- An LHA FENCE starts a fence with the context as its engine, answered by FENCE_RSP. R241. -/
  | lhaFence (m : LhaMsg)
  /-- KERNEL_START invalidates the whole remote-line cache before KS_ACK is sent. R242. -/
  | kernelStart (m : LhaMsg)
  /-- An LHA REG_RD reads a register for a privileged context and is answered by REG_RSP. R720. -/
  | regRd (m : LhaMsg)
  /-- An LHA REG_WR writes a register before REG_ACK, or is refused on a management-only page. R243. -/
  | regWr (m : LhaMsg)
  /-- An MRD_RSP delivers accelerator memory data for a remote read, walk or engine read. R246. -/
  | mrdRsp (m : LhaMsg)
  /-- An MWR_ACK completes a write at the home, so the request is applied and answered. R87. -/
  | mwrAck (m : LhaMsg)
  /-- A MAT_RSP completes a domain-scope atomic at the home. R247. -/
  | matRsp (m : LhaMsg)
  /-- An LHA CREDIT message returns header and cell credits for the receiver's channels. R237. -/
  | credit (m : LhaMsg)
  /-- A UCIe module that finishes training gets an OFFER from the end-point. R252. -/
  | moduleTrained (module : Nat) (fast : Bool)
  /-- With no ACCEPT within 1 ms, the end-point repeats OFFER. R252. -/
  | offerRetry (module : Nat)
  /-- An ACCEPT fixes the module's LHA version and credits and attaches the module. R252. -/
  | accept (m : LhaMsg)
  /-- QUIESCE clears SERVE, aborts collectives and engines, disables contexts and wait slots, and waits for outstanding work. R255. -/
  | quiesce (m : LhaMsg)
  /-- Once every EREQ and accepted AREQ is answered, QUIESCE_DONE is sent and QUIESCED is set. R255. -/
  | quiesceComplete
  /-- A module whose link goes down is taken out of L, its EREQ are answered as POISON and EREQ pause. R256. -/
  | moduleLinkLost (module : Nat)
  /-- An EREQ unanswered for 200 µs makes its module lost. R256. -/
  | ereqTimeout (module : Nat)
  /-- After the 100 µs pause, EREQ resume, and a re-attached module rejoins L. R256. -/
  | ereqPauseEnd
  /-- A notice waiting for ENOTE credit is sent once credit arrives, in event order. R251. -/
  | noticeSend
  /-- Writing EP_LHA_CTRL.SERVE as 1 serves inbound requests from the next pick and clears QUIESCED. R254. -/
  | serveWrite
  /-- A write of EP_PWR_ALERT_IN.ALERT acts on the end-point as the power alert land does on the switch. R610. -/
  | pwrAlertInWrite (value : Nat)
  /-- An LHA message with a reserved channel or MOP, or that breaks Table 6.2 or 6.3, is answered MALFORMED if it is an AREQ and otherwise dropped, and is counted. R233. -/
  | lhaMalformedMessage (m : LhaMsg)
  /-- A doorbell write advances the submission producer count, or is ignored and recorded as RING_OVERRUN. R185. -/
  | ceDoorbell (engine value : Nat)
  /-- Writing EP_CE_CTRL.EN as 1 moves a disabled engine to IDLE. R194. -/
  | ceEnable (engine : Nat)
  /-- Writing EP_CE_CTRL.EN as 0 moves a running or faulted engine to ABORTING, then DISABLED. R194. -/
  | ceDisable (engine : Nat)
  /-- Writing EP_CE_CTRL.RESUME moves a faulted engine to RUNNING at the next descriptor. R194. -/
  | ceResume (engine : Nat)
  /-- Writing EP_CE_CTRL.ABORT moves the engine to ABORTING. R194. -/
  | ceAbort (engine : Nat)
  /-- A COPY descriptor cuts its rows into pieces and issues reads, writes and host accesses for them. R189. -/
  | copy (engine : Nat)
  /-- A QCOPY descriptor quantises local elements with residuals and writes the packed output. R219. -/
  | qcopy (engine : Nat) (fails : List (Nat × Bool))
  /-- An ATOMIC descriptor sends one atomic and writes the result into its operand block. R187. -/
  | ceAtomic (engine : Nat)
  /-- A FLAG descriptor sends a release or flagged masked store of the flag value. R187. -/
  | ceFlag (engine : Nat)
  /-- A FENCE descriptor starts a fence and holds later descriptors until it completes. R191. -/
  | ceFence (engine : Nat)
  /-- A NOP descriptor completes without any request. R187. -/
  | nop (engine : Nat)
  /-- A finished descriptor's completion record is written in ring order once the completion ring has room. R192. -/
  | ceCompletion (engine : Nat)
  /-- Writing OPEN resets a measurement slot's digest and counts and binds it to an engine. R223. -/
  | measSlotOpen (slot value : Nat)
  /-- Writing CLOSE freezes a measurement slot. R223. -/
  | measSlotClose (slot : Nat)
  /-- A doorbell on the translation command ring posts commands to start in ring order. R208. -/
  | xqDoorbell (value : Nat)
  /-- INVALIDATE blocks the range, invalidates its TLB entries and drains earlier requests. R210. -/
  | invalidate
  /-- Once the range has drained, INVALIDATE completes OK and updates the epoch done. R210. -/
  | invalidateDrained (slot : Nat)
  /-- 64 µs after the block point, an undrained range completes DRAIN_STUCK. R210. -/
  | invalidateStuck (slot : Nat)
  /-- MIGRATE checks, blocks and drains a range, copies it to NEW_PA and rewrites its leaves. R215. -/
  | migrate
  /-- Once the mover's copy finishes, the leaves are rewritten, the range invalidated and issues released. R215. -/
  | migrateCopyDone (slot : Nat)
  /-- ADVISE RESIDENT pins the range's translations in the shared TLB. R217. -/
  | adviseResident
  /-- ADVISE READ_MOSTLY sets the remote advice bits of the pairs the range's global leaves name. R217. -/
  | adviseReadMostly
  /-- ADVISE STREAMING records the range as one of the 16 streaming ranges. R217. -/
  | adviseStreaming
  /-- ADVISE EVICT drops and unpins translations and invalidates the cached lines of the range's pairs. R217. -/
  | adviseEvict
  /-- ADVISE NORMAL unpins the range, removes streaming ranges inside it and clears advice bits. R217. -/
  | adviseNormal
  /-- The switch records, answers or refuses an INTENT, and compares digests once all members are present. R362. -/
  | intent (port : Nat) (p : Packet)
  /-- The switch stages a CONTRIB chunk, or discards it as late, duplicate or out of range. R369. -/
  | contrib (port : Nat) (p : Packet)
  /-- An ABORT of kind ABORT from a member is an abort cause for its collective. R377. -/
  | abort (port : Nat) (p : Packet)
  /-- An ABORT of kind RECEIVED records that a member has sent and received everything on the plane. R374. -/
  | received (port : Nat) (p : Packet)
  /-- An ABORT of kind QUERY is answered with the retained record, NONE, or later by the terminal report. R379. -/
  | query (port : Nat) (p : Packet)
  /-- A collective still gathering INTENT_WAIT after its first intent commits ABORTED_TIMEOUT. R360. -/
  | intentWaitExpired (handle : Nat)
  /-- A collective with a silent member for STALL picks commits ABORTED_STALL. R382. -/
  | collStall (handle : Nat)
  /-- A doorbell on the collective ring posts descriptors to the end-point. R387. -/
  | collDoorbell (value : Nat)
  /-- A collective descriptor takes a member record, computes plane parts and sends INTENT on each raised plane. R391. -/
  | collDescriptorStart
  /-- A GRANT ADMIT lets the member send CONTRIB chunks below the limit on that plane. R367. -/
  | grantAdmit (plane : Nat) (p : Packet) (fails : List (Nat × Bool))
  /-- A GRANT CREDIT advances the member's chunk limit. R368. -/
  | grantCredit (plane : Nat) (p : Packet)
  /-- A RESULT chunk is written into DST, and RECEIVED is sent once all are acknowledged. R374. -/
  | result (plane : Nat) (p : Packet)
  /-- An ABORT_NOTICE fixes the plane's aborted state and makes the member abort its other open planes. R394. -/
  | abortNotice (plane : Nat) (p : Packet)
  /-- A DONE fixes the plane's completed state, and the member state is formed once all planes are known. R395. -/
  | done (plane : Nat) (p : Packet)
  /-- A RESEND makes the member send the named chunks again with the same bytes, ahead of new chunks. R393. -/
  | resend (plane : Nat) (p : Packet)
  /-- When EP_COLL_WAIT passes with planes unknown, the member forms an UNKNOWN state and writes its record. R391. -/
  | collWaitExpired (member : Nat)
  /-- Bartas ADD writes RA plus RB into RD. R408. -/
  | barAdd (core ctx rd ra rb : Nat)
  /-- Bartas SUB writes RA minus RB into RD. R408. -/
  | barSub (core ctx rd ra rb : Nat)
  /-- Bartas AND writes RA AND RB into RD. R408. -/
  | barAnd (core ctx rd ra rb : Nat)
  /-- Bartas OR writes RA OR RB into RD. R408. -/
  | barOr (core ctx rd ra rb : Nat)
  /-- Bartas XOR writes RA XOR RB into RD. R408. -/
  | barXor (core ctx rd ra rb : Nat)
  /-- Bartas SLL shifts RA left by RB[5:0]. R408. -/
  | barSll (core ctx rd ra rb : Nat)
  /-- Bartas SRL shifts RA right logically by RB[5:0]. R408. -/
  | barSrl (core ctx rd ra rb : Nat)
  /-- Bartas SRA shifts RA right arithmetically by RB[5:0]. R408. -/
  | barSra (core ctx rd ra rb : Nat)
  /-- Bartas MUL keeps the low 64 bits of the product. R408. -/
  | barMul (core ctx rd ra rb : Nat)
  /-- Bartas MULHU keeps the high 64 bits of the unsigned product. R408. -/
  | barMulhu (core ctx rd ra rb : Nat)
  /-- Bartas DIVU divides unsigned, giving all ones on division by zero. R408. -/
  | barDivu (core ctx rd ra rb : Nat)
  /-- Bartas REMU gives the unsigned remainder, or RA on division by zero. R408. -/
  | barRemu (core ctx rd ra rb : Nat)
  /-- Bartas SLT sets RD to 1 when RA is less than RB, signed. R408. -/
  | barSlt (core ctx rd ra rb : Nat)
  /-- Bartas SLTU sets RD to 1 when RA is less than RB, unsigned. R408. -/
  | barSltu (core ctx rd ra rb : Nat)
  /-- Bartas MIN writes the signed minimum of RA and RB. R408. -/
  | barMin (core ctx rd ra rb : Nat)
  /-- Bartas MAX writes the signed maximum of RA and RB. R408. -/
  | barMax (core ctx rd ra rb : Nat)
  /-- Bartas ADDI adds the sign-extended immediate to RA. R408. -/
  | barAddi (core ctx rd ra imm : Nat)
  /-- Bartas ANDI ANDs RA with the zero-extended immediate. R408. -/
  | barAndi (core ctx rd ra imm : Nat)
  /-- Bartas ORI ORs RA with the zero-extended immediate. R408. -/
  | barOri (core ctx rd ra imm : Nat)
  /-- Bartas XORI XORs RA with the zero-extended immediate. R408. -/
  | barXori (core ctx rd ra imm : Nat)
  /-- Bartas LUI loads the sign-extended immediate times 2^16. R408. -/
  | barLui (core ctx rd ra imm : Nat)
  /-- Bartas SLLI shifts RA left by the immediate. R408. -/
  | barSlli (core ctx rd ra imm : Nat)
  /-- Bartas SRLI shifts RA right logically by the immediate. R408. -/
  | barSrli (core ctx rd ra imm : Nat)
  /-- Bartas BEQ branches when RD equals RA. R408. -/
  | barBeq (core ctx rd ra imm : Nat)
  /-- Bartas BNE branches when RD differs from RA. R408. -/
  | barBne (core ctx rd ra imm : Nat)
  /-- Bartas BLT branches when RD is less than RA, signed. R408. -/
  | barBlt (core ctx rd ra imm : Nat)
  /-- Bartas BGE branches when RD is at least RA, signed. R408. -/
  | barBge (core ctx rd ra imm : Nat)
  /-- Bartas BLTU branches when RD is less than RA, unsigned. R408. -/
  | barBltu (core ctx rd ra imm : Nat)
  /-- Bartas BGEU branches when RD is at least RA, unsigned. R408. -/
  | barBgeu (core ctx rd ra imm : Nat)
  /-- Bartas JAL saves PC plus 1 in x31 and jumps by OFFSET. R408. -/
  | barJal (core ctx off : Nat)
  /-- Bartas JR jumps to the word in RA. R408. -/
  | barJr (core ctx rd ra rb : Nat)
  /-- Bartas LD loads 64 bits from a local address. R408. -/
  | barLd (core ctx rd ra imm : Nat)
  /-- Bartas LW loads 32 bits zero-extended from a local address. R408. -/
  | barLw (core ctx rd ra imm : Nat)
  /-- Bartas ST stores 64 bits to a local address. R408. -/
  | barSt (core ctx rd ra imm : Nat)
  /-- Bartas SW stores the low 32 bits to a local address. R408. -/
  | barSw (core ctx rd ra imm : Nat)
  /-- Bartas DLD loads 64 bits from the DRAM space through the line buffer. R408. -/
  | barDld (core ctx rd ra imm : Nat)
  /-- Bartas DST stores 64 bits into the line buffer for the DRAM space. R408. -/
  | barDst (core ctx rd ra imm : Nat)
  /-- Bartas FLUSH writes the line buffer's lines over a DRAM range to the shared cache. R177. -/
  | barFlush (core ctx rd ra rb : Nat)
  /-- Bartas CPY copies bytes between local and DRAM spaces. R408. -/
  | barCpy (core ctx rd ra rb rn mode : Nat)
  /-- Bartas CWAIT blocks until every CPY of the context has completed. R408. -/
  | barCwait (core ctx rd ra rb : Nat)
  /-- Bartas VCVT converts block images into accumulator form. R408. -/
  | barVcvt (core ctx rd ra rb rn mode fails : Nat)
  /-- Bartas VACC accumulates two operands with the mode's accumulation step. R408. -/
  | barVacc (core ctx rd ra rb rn mode fails : Nat)
  /-- Bartas VFIN rounds an accumulator into OTYPE block images and updates the counts and tripwire. R409. -/
  | barVfin (core ctx rd ra rb rn mode fails : Nat)
  /-- Bartas VQNT re-quantises ETYPE images into OTYPE. R409. -/
  | barVqnt (core ctx rd ra rb rn mode fails : Nat)
  /-- Bartas VMRG keeps the best value and index pairs of two lists. R459. -/
  | barVmrg (core ctx rd ra rb rn mode : Nat)
  /-- Bartas VSPR joins two index-sorted lists, accumulating equal indices. R459. -/
  | barVspr (core ctx rd ra rb rn mode fails : Nat)
  /-- Bartas VMOV moves bytes between local addresses on the accumulator lane. R408. -/
  | barVmov (core ctx rd ra rb rn mode : Nat)
  /-- Bartas VWAIT blocks until every vector instruction of the context completes. R408. -/
  | barVwait (core ctx rd ra rb : Nat)
  /-- Bartas SWAIT blocks until a member's chunk is staged. R410. -/
  | barSwait (core ctx rd ra rb : Nat)
  /-- Bartas SALL blocks until a chunk of every member is staged. R410. -/
  | barSall (core ctx rd ra rb : Nat)
  /-- Bartas SREL releases staged chunks and advances the members' limits. R411. -/
  | barSrel (core ctx rd ra rb : Nat)
  /-- Bartas SCNT returns the highest chunk staged for a rank. R408. -/
  | barScnt (core ctx rd ra rb : Nat)
  /-- Bartas RCAST sends chunks as RESULT casts to every member. R413. -/
  | barRcast (core ctx rd ra rb rn mode : Nat)
  /-- Bartas RSEND sends chunks as RESULT to one member. R413. -/
  | barRsend (core ctx rd ra rb rn mode : Nat)
  /-- Bartas RWAIT blocks until every RESULT of the context has left the switch. R408. -/
  | barRwait (core ctx rd ra rb : Nat)
  /-- Bartas PICK returns the current pick number. R408. -/
  | barPick (core ctx rd ra rb : Nat)
  /-- Bartas ABRT stops the context and ends the collective as ABORTED_MANAGER. R415. -/
  | barAbrt (core ctx rd ra rb : Nat)
  /-- Bartas END ends the context once its vector work, copies and results have completed. R412. -/
  | barEnd (core ctx rd ra rb : Nat)
  /-- A context blocked in a wait instruction becomes ready once its condition holds. R410. -/
  | contextResume (core ctx : Nat)
  /-- A context whose watchdog count reaches WDOG is stopped under R415. R416. -/
  | watchdogFire (core ctx : Nat)
  /-- PROG_LOAD delivers a container piece, and the last piece runs the load checks and installs the program. R422. -/
  | progLoad (z : ZPacket)
  /-- PROG_UNLOAD frees a program slot unless a valid handle names it. R424. -/
  | progUnload (z : ZPacket)
  /-- A partial container with no piece for 10 s is discarded. R696. -/
  | progPieceTimeout (slot : Nat)
  /-- A failed photonic engine has its 16 ports struck abruptly and its combs retired. R559. -/
  | peFailure (engine : Nat)
  /-- A failed DRAM stack ends every collective holding a range on it and shrinks the pitch shares. R560. -/
  | dramStackFailure (stack : Nat) (row : Bool)
  /-- FENCE stages a new epoch and fenced set for a named pick on the switch. R571. -/
  | fence (z : ZPacket)
  /-- TAKEOVER stages the alias, pitch, epoch and unfence that move a fenced ID to a spare port. R576. -/
  | takeover (z : ZPacket)
  /-- A membership notice updates the end-point's epoch and enters or leaves the fenced state. R574. -/
  | membNotice (plane : Nat) (p : Packet)
  /-- UNIT_TEST admits or refuses a disruptive test of a core, shaft or lane. R584. -/
  | unitTest (z : ZPacket)
  /-- A test ends, returning the unit to service or failing it. R586. -/
  | unitTestDone (part : Part) (pass : Bool)
  /-- LEDGER_CLEAR clears the loss record of the named unit. R700. -/
  | ledgerClear (z : ZPacket)
  /-- LEDGER_READ returns half of a ledger record. R700. -/
  | ledgerRead (z : ZPacket)
  /-- FW_STAGE_BEGIN erases the inactive slot and starts staging an image. R694. -/
  | fwStageBegin (z : ZPacket)
  /-- FW_STAGE_DATA writes the next piece of the image in offset order. R694. -/
  | fwStageData (z : ZPacket)
  /-- FW_STAGE_END checks the digest, verifies the image and sets STAGED. R694. -/
  | fwStageEnd (z : ZPacket)
  /-- FW_ACTIVATE schedules activation of the staged image at pick A. R695. -/
  | fwActivate (z : ZPacket)
  /-- At pick A the management complex loads the staged image and restarts while the data path runs on. R588. -/
  | fwActivationPick (part : Part)
  /-- The management restart completes and commands and training resume. R589. -/
  | fwRestartDone (part : Part)
  /-- The trial image passes and becomes the boot image, or fails and the part falls back. R591. -/
  | fwTrialEnd (part : Part) (passed : Bool)
  /-- A guy line goes down or up, and the change is recorded. R580. -/
  | guyLinkChange (part : Part) (lineB up : Bool)
  /-- The erase of the inactive image slot started by FW_STAGE_BEGIN finishes, possibly after suspension, and the command is answered. R694. -/
  | flashEraseComplete (part : Part)
  /-- The island samples every sensor channel and updates medians and filtered values. R595. -/
  | sensorSample (part : Part) (samples : List SensorIn)
  /-- After 10 s below 85 °C without a qualifying rise, the ramp alarm ends. R612. -/
  | rampAlarmEnd (part : Part)
  /-- After 10 ms of good supply, the flash-write inhibit ends. R615. -/
  | flashInhibitEnd (part : Part)
  /-- POWER_CAP sets or refuses a power cap and renews the lease. R603. -/
  | powerCap (z : ZPacket)
  /-- When the lease lapses, the cap is discarded and the orphan cap governs. R606. -/
  | leaseExpired (part : Part)
  /-- THERMAL_ALERT starts or ends a ramp alarm. R612. -/
  | thermalAlert (z : ZPacket)
  /-- PWR_ALERT_N asserted makes the reserve limit govern and pauses Bartas programs. R608. -/
  | powerAlertAssert
  /-- PWR_ALERT_N deasserted starts the PWR_ALERT_HOLD count. R610. -/
  | powerAlertDeassert
  /-- After PWR_ALERT_HOLD picks, the reserve limit and the pause end. R610. -/
  | alertHoldExpired (part : Part)
  /-- BIVOUAC schedules entry into bivouac at a pick, or is refused. R619. -/
  | bivouac (z : ZPacket)
  /-- At the entry pick the part aborts collectives, strikes ports, darkens combs, self-refreshes DRAM and gates the core. R619. -/
  | bivouacEntry (part : Part)
  /-- WAKE starts the wake path, or is refused when the part is not ready. R621. -/
  | wake (z : ZPacket)
  /-- The wake reaches AWAKE and every command is served again. R621. -/
  | wakeComplete (part : Part) (passed : List (Nat × Nat))
  /-- RESET_N asserted darkens the combs and holds the part in reset. R745. -/
  | resetAssert (part : Part)
  /-- RESET_N released starts the island and the wake with secure boot. R622. -/
  | resetRelease (part : Part)
  /-- Secure boot verifies the image, derives the keys and starts the image, or stays in bivouac. R645. -/
  | secureBootDone (part : Part) (okA okB : Bool)
  /-- A rail outside its condition for 10 µs takes the part through the trip steps into bivouac. R749. -/
  | railFault (part : Part)
  /-- Every rail, VAUX included, is lost at once, and the part loses all state while flash is left as R616 gives. R748. -/
  | suddenPowerLoss (part : Part)
  /-- When a closing pitch's scrub ends, the pitch becomes FREE and its resources are released. R632. -/
  | pitchScrubDone (pitch : Nat)
  /-- An end-point that changed pitch finishes its scrub and takes the new pitch. R633. -/
  | epScrubDone
  /-- The scrub of a Bartas core moved between pitches, or of a shrunk cache share or released DRAM units, finishes and the resource may join its new owner. R634. -/
  | resourceScrubDone (kind unit : Nat)
  /-- A debug unlock erases traffic keys, scrubs every pitch and records the unlock. R651. -/
  | debugUnlock (part : Part)
  /-- OWNER_ENROL writes an owner root key hash into the next free owner slot. R650. -/
  | ownerEnrol (z : ZPacket)
  /-- OWNER_RELEASE, signed by the owner, releases the current owner slot. R650. -/
  | ownerRelease (z : ZPacket)
  /-- PITCH_ENROL writes a pitch's tenant and signer key hashes. R654. -/
  | pitchEnrol (z : ZPacket)
  /-- PITCH_KEY_SET writes a traffic key into the pitch's inactive phase. R664. -/
  | pitchKeySet (z : ZPacket)
  /-- SPDM_MSG carries an SPDM message, executing an enclosed command in the session's role. R678. -/
  | spdmMsg (z : ZPacket) (enclosed : Option Nat)
  /-- The SPDM responder answers GET_VERSION. R652. -/
  | getVersion (r : SpdmReq)
  /-- The SPDM responder answers GET_CAPABILITIES. R652. -/
  | getCapabilities (r : SpdmReq)
  /-- The SPDM responder answers NEGOTIATE_ALGORITHMS. R652. -/
  | negotiateAlgorithms (r : SpdmReq)
  /-- The SPDM responder returns its certificate chain digests. R652. -/
  | getDigests (r : SpdmReq)
  /-- The SPDM responder returns its certificate chain. R652. -/
  | getCertificate (r : SpdmReq)
  /-- The SPDM responder signs a challenge with its alias key. R652. -/
  | challenge (r : SpdmReq)
  /-- The SPDM responder returns the measurement blocks allowed to the session's role. R655. -/
  | getMeasurements (r : SpdmReq)
  /-- KEY_EXCHANGE opens a session whose role comes from the requester's chain. R653. -/
  | keyExchange (r : SpdmReq)
  /-- FINISH completes the session handshake. R652. -/
  | finish (r : SpdmReq)
  /-- HEARTBEAT keeps an SPDM session alive. R652. -/
  | heartbeat (r : SpdmReq)
  /-- KEY_UPDATE refreshes the session keys. R652. -/
  | keyUpdate (r : SpdmReq)
  /-- END_SESSION closes an SPDM session. R652. -/
  | endSession (r : SpdmReq)
  /-- IDENTIFY returns the part's kind, serial, steppings, versions and MAC addresses. R684. -/
  | identify (z : ZPacket)
  /-- REG_READ returns consecutive registers, zeroing words the role may not read. R685. -/
  | regRead (z : ZPacket)
  /-- REG_WRITE writes one register, or answers REG_IGNORED. R686. -/
  | regWriteCmd (z : ZPacket)
  /-- ECHO returns its payload words. R684. -/
  | echo (z : ZPacket)
  /-- RELAY sends an enclosed packet in-band toward another part. R677. -/
  | relay (z : ZPacket)
  /-- The enclosed reply arrives and is returned as the RELAY reply. R677. -/
  | relayReply (part : Part) (tag : Nat) (enclosed : List Byte)
  /-- With no enclosed reply within 10 ms, RELAY answers RELAY_TIMEOUT. R677. -/
  | relayTimeout (part : Part) (tag : Nat)
  /-- STAGE_WRITE adds register entries to a staged set. R688. -/
  | stageWrite (z : ZPacket)
  /-- CHECK evaluates a staged set's conflicts without changing state. R689. -/
  | check (z : ZPacket)
  /-- COMMIT_AT schedules a conflict-free set at a pick, or refuses it. R690. -/
  | commitAt (z : ZPacket)
  /-- CANCEL discards an open or scheduled set. R692. -/
  | cancel (z : ZPacket)
  /-- STAGE_STATUS returns the state of sets 0 to 7. R693. -/
  | stageStatus (z : ZPacket)
  /-- PORT_RAISE starts a raise of a port. R698. -/
  | portRaise (z : ZPacket)
  /-- PORT_STRIKE strikes a port in order and replies once it is STRUCK. R698. -/
  | portStrike (z : ZPacket)
  /-- COLL_ABORT is an abort cause for one collective, answered once it commits. R697. -/
  | collAbort (z : ZPacket)
  /-- COLL_STATUS returns a collective's condition and record. R697. -/
  | collStatus (z : ZPacket)
  /-- XLT_CMD runs one translation command and returns its completion record. R702. -/
  | xltCmd (z : ZPacket)
  /-- A kept tag and reply older than 10 s may be dropped, so a repeat is executed afresh. R581. -/
  | tagRecordExpired (part : Part) (tag : Nat)
  /-- An I3C private read returns the ready reply, or is NACKed until it is ready. R676. -/
  | i3cPrivateRead (part : Part)
  /-- ENTDAA assigns the part its I3C dynamic address. R676. -/
  | entdaa (part : Part) (addr : Nat)
  /-- A guy line answers ARP for its IPv4 address. R674. -/
  | arpRequest (part : Part) (lineB : Bool) (addr : Nat)
  /-- A guy line answers neighbour discovery for its IPv6 address. R674. -/
  | neighbourSolicit (part : Part) (lineB : Bool) (addr : Nat)
  /-- A Zhevseler packet that is short, has a bad MAGIC, an unlisted opcode or an unexpected REPLY flag is answered with its check's status or dropped and counted in GUY_REJECT. R672. -/
  | zhevselerPacketRejected (z : ZPacket) (magic opcode : Nat)
  /-- An end-point receives a packet whose opcode is reserved, or whose VC or data-cell count its opcode does not allow, and treats it as malformed. R53. -/
  | reservedOpcodePacket (plane : Nat) (p : Packet)
  deriving DecidableEq, Repr

end Sys2Proof
end

