-- ==== Sys2Proof/Machine/Store.lean ====
section
/-!
DEFINITION. Sparse tables keyed by a natural number, in one canonical form, and byte memories over `Host.Cell`.
Nothing here is taken from the spec: it is how the model writes the arrays the spec gives (registers, ports, slots, memories) as plain data.
-/

namespace Sys2Proof.Machine

/-- A sparse table: keys strictly rising in every table the model builds. -/
abbrev Tab (α : Type) := List (Nat × α)

/-- The entry of a key, if the table lists it. -/
def Tab.find {α : Type} (t : Tab α) (k : Nat) : Option α :=
  match t with
  | [] => none
  | (j, v) :: r => if j = k then some v else Tab.find r k

/-- The entry of a key, or what an unlisted key reads as. -/
def Tab.get {α : Type} (t : Tab α) (d : α) (k : Nat) : α := (Tab.find t k).getD d

/-- Put an entry in its place in the rising order. -/
def Tab.put {α : Type} (t : Tab α) (k : Nat) (v : α) : Tab α :=
  match t with
  | [] => [(k, v)]
  | (j, w) :: r => if j = k then (k, v) :: r else if k < j then (k, v) :: (j, w) :: r else (j, w) :: Tab.put r k v

/-- Take every entry of a key out of the table. -/
def Tab.del {α : Type} (t : Tab α) (k : Nat) : Tab α := t.filter (fun e => e.1 != k)

/-- Store a value in the canonical form: a value equal to the default is not listed. -/
def Tab.set {α : Type} [DecidableEq α] (t : Tab α) (d : α) (k : Nat) (v : α) : Tab α :=
  if v = d then Tab.del t k else Tab.put t k v

/-- Change the entry of a key through a function, starting from the default where the key is unlisted. -/
def Tab.upd {α : Type} (t : Tab α) (d : α) (k : Nat) (f : α → α) : Tab α := Tab.put t k (f (Tab.get t d k))

/-- Keys strictly rising. -/
def Tab.rising {α : Type} (t : Tab α) : Bool :=
  match t with
  | [] => true
  | [_] => true
  | (i, _) :: (j, v) :: r => decide (i < j) && Tab.rising ((j, v) :: r)

/-- The canonical form: keys strictly rising and no entry equal to the default. -/
def Tab.wf {α : Type} [DecidableEq α] (t : Tab α) (d : α) : Bool :=
  Tab.rising t && t.all (fun e => e.2 != d)

/-- A byte memory: the bytes that differ from zero, by address. -/
abbrev Memory := List Host.Cell

/-- What a byte that nothing has written reads as. DESIGN CHOICE (notes/assumptions/2.md): zero. -/
def Memory.blank : Byte := 0

/-- One byte of a memory. -/
def Memory.byte (m : Memory) (a : Nat) : Byte := Tab.get m Memory.blank a

/-- Write one byte, keeping the canonical form. -/
def Memory.setByte (m : Memory) (a : Nat) (b : Byte) : Memory := Tab.set m Memory.blank a b

/-- `n` bytes from an address, lowest first. -/
def Memory.read (m : Memory) (a : Nat) : Nat → List Byte
  | 0 => []
  | n + 1 => Memory.byte m a :: Memory.read m (a + 1) n

/-- Write bytes from an address, lowest first. -/
def Memory.write (m : Memory) (a : Nat) : List Byte → Memory
  | [] => m
  | b :: bs => Memory.write (Memory.setByte m a b) (a + 1) bs

/-- Zero `n` bytes from an address, by dropping every listed byte of the range. -/
def Memory.zero (m : Memory) (a n : Nat) : Memory := m.filter (fun e => e.1 < a || a + n ≤ e.1)

/-- The canonical form of a memory. -/
def Memory.wf (m : Memory) : Bool := Tab.wf m Memory.blank

/-- The little-endian number of a list of bytes (R7). -/
def leNat : List Byte → Nat
  | [] => 0
  | b :: bs => b.toNat + 256 * leNat bs

/-- `n` little-endian bytes of a number (R7). -/
def leBytes (v : Nat) : Nat → List Byte
  | 0 => []
  | n + 1 => BitVec.ofNat 8 v :: leBytes (v / 256) n

/-- The number of a list of bytes, most significant first (R8). -/
def beNat (bs : List Byte) : Nat := bs.foldl (fun a b => a * 256 + b.toNat) 0

/-- `n` bytes of a number, most significant first (R8). -/
def beBytes (v n : Nat) : List Byte := (leBytes v n).reverse

/-- Bits [hi:lo] of a number. -/
def bits (v hi lo : Nat) : Nat := v / 2 ^ lo % 2 ^ (hi + 1 - lo)

/-- One bit of a number. -/
def bit (v i : Nat) : Bool := v / 2 ^ i % 2 == 1

/-- Bits [hi:lo] of a register as a number. -/
def fld (v : Reg) (hi lo : Nat) : Nat := bits v.toNat hi lo

/-- One bit of a register. -/
def flag (v : Reg) (i : Nat) : Bool := bit v.toNat i

/-- A register with bits [hi:lo] replaced. -/
def setFld (v : Reg) (hi lo x : Nat) : Reg :=
  BitVec.ofNat 32 (v.toNat - bits v.toNat hi lo * 2 ^ lo + x % 2 ^ (hi + 1 - lo) * 2 ^ lo)

/-- Put an integer in its place in an ascending list. -/
def insertInt (v : Int) : List Int → List Int
  | [] => [v]
  | a :: r => if v ≤ a then v :: a :: r else a :: insertInt v r

/-- A list of integers in ascending order. -/
def sortInts (l : List Int) : List Int := l.foldr insertInt []

/-- 1 for true, 0 for false. -/
def b2n (b : Bool) : Nat := if b then 1 else 0

/-- Add to a count that saturates at `top`. -/
def satAdd (top a b : Nat) : Nat := min top (a + b)

/-- Two's complement of an integer in `w` bits. -/
def twos (w : Nat) (i : Int) : Nat := (i % (2 ^ w : Int)).toNat

/-- The signed value of a `w`-bit two's-complement number. -/
def untwos (w v : Nat) : Int := if v < 2 ^ (w - 1) then (v : Int) else (v : Int) - 2 ^ w

end Sys2Proof.Machine
end

