-- ==== Sys2Proof/Machine/StateLink.lean ====
section
/-!
DEFINITION. The state of the timebase (spec/08), of a link port (spec/13), of its egress queues (spec/08) and of the optics (spec/12), which both parts hold.
-/

namespace Sys2Proof.Machine

/-- Timebase states (Table 8.2, coded as `PICK_STATUS.STATE`). -/
inductive TimeState where
  | acquiring
  | locked
  | holdover
  | slewing
  | expired
  deriving DecidableEq, Repr

/-- The code of a timebase state in `PICK_STATUS.STATE`. -/
def TimeState.code : TimeState → Nat
  | .acquiring => 0
  | .locked => 1
  | .holdover => 2
  | .slewing => 3
  | .expired => 4

/-- One PICK_SYNC input (R302, R303, R305). -/
structure SyncState where
  qualified : Bool := false
  /-- Position of the next symbol in the frame being received; `none` outside a frame. -/
  pos : Option Nat := none
  /-- Number and CRC bits collected so far, most significant first. -/
  acc : Nat := 0
  /-- An error symbol has been seen in this frame. -/
  bad : Bool := false
  /-- Number of the last valid frame. -/
  lastQ : Option Nat := none
  /-- Every edge since that frame lay within 20 ns (R305). -/
  edgesGood : Bool := true
  /-- Consecutive missed or misplaced edges. -/
  misses : Nat := 0
  /-- Consecutive valid frames that met both conditions; an input that has been disqualified needs two (R305). -/
  goodFrames : Nat := 0
  fresh : Bool := true
  /-- When its last edge came, or was due where that edge alone was out of place: ns of the own count. -/
  lastEdge : Option Int := none
  slipped : Bool := false
  /-- Offset of the last edge from the own boundary, in nanoseconds; `none` with no edge. -/
  offset : Option Int := none
  deriving DecidableEq, Repr

/-- The pick timebase of a part (R306 to R309). -/
structure Timebase where
  st : TimeState := .acquiring
  pick : Nat := 0
  /-- Nanoseconds into the pick, as the last command that names an instant gave it. -/
  ns : Nat := 0
  source : Option SyncInput := none
  inA : SyncState := {}
  inB : SyncState := {}
  /-- Picks spent in HOLDOVER or EXPIRED since entry. -/
  holdPicks : Nat := 0
  /-- Milliseconds of them that `ID_CNT_CLEAR` has taken from `PICK_HOLD_TIME`. -/
  holdBase : Nat := 0
  /-- Offset still to slew away, in nanoseconds. -/
  slew : Int := 0
  /-- SOURCE_MISMATCH has been recorded; only a reset leaves the state (R307). -/
  mismatch : Bool := false
  /-- Reference port of an end-point (R308). -/
  refPort : Option Nat := none
  /-- Offsets of an end-point's ports, in nanoseconds (R309). -/
  offsets : Tab Int := []
  /-- Skewed ports of an end-point (R309). -/
  skewed : List Nat := []
  deriving DecidableEq, Repr

/-- States of a port (Table 13.11). -/
inductive LinkState where
  | struck
  | raising
  | quarantined
  | standby
  | raised
  | paused
  deriving DecidableEq, Repr

/-- The code of a port state in `PORT_LINK_STATUS.STATE`. -/
def LinkState.code : LinkState → Nat
  | .struck => 0
  | .raising => 1
  | .quarantined => 2
  | .standby => 3
  | .raised => 4
  | .paused => 5

/-- A MOVE or WIDTH exchange that waits for its pick E (R543). -/
structure Exchange where
  isWidth : Bool := false
  role : Nat := 0
  fromCh : Nat := 0
  toCh : Nat := 0
  cause : Nat := 0
  lanes : Nat := 32
  pickE : Nat := 0
  mine : Bool := true
  answered : Bool := false
  deriving DecidableEq, Repr

/-- A strike in progress (Table 13.13). `step` is the step being done. -/
structure StrikeRun where
  step : Nat := 1
  cause : Nat := 0x30
  cold : Bool := false
  startPick : Nat := 0
  deriving DecidableEq, Repr

/-- Roles by default (Table 12.1), coded as in indirect table 0x3: data lane n, 0x20 clock, 0x21 spare, 0x22 out, 0x23 parked. -/
def defaultRoles : List Nat :=
  List.range 16 ++ [0x20] ++ (List.range 16).map (· + 16) ++ [0x21]

/-- Training and service state of a port (R528 to R551). -/
structure LinkTrain where
  st : LinkState := .struck
  /-- Stage of training, 0 when not raising. -/
  stage : Nat := 0
  warm : Bool := false
  /-- The warm re-raise of a paused port, through stages 2, 3, 5 and 6 only (R537). -/
  resume : Bool := false
  version : Nat := 0
  commonRef : Bool := false
  laneRev : Bool := false
  roles : List Nat := defaultRoles
  /-- Roles announced by the far end's last marker and how many boundaries running (R515). -/
  farRoles : List Nat := defaultRoles
  farRolesSeen : Nat := 0
  /-- Own and far exit conditions of the present stage (R529). -/
  ownExit : Bool := false
  farExit : Bool := false
  /-- Channels the far end proposes as out (R530). -/
  farOut : List Nat := []
  /-- A MOVE and a WIDTH that wait for their picks: one exchange of each kind at a time (R544). -/
  exchange : Option Exchange := none
  widthEx : Option Exchange := none
  /-- Start pick of a lane check, whether it has found a bad channel (R540, R541), and the channels marked bad. -/
  check : Option Nat := none
  checkBad : Bool := false
  badChans : List Nat := []
  /-- Last pick in which a channel showed an error (R543). -/
  chanErr : Tab Nat := []
  /-- Picks at which checks ended with no bad channel (R541). -/
  cleanChecks : List Nat := []
  holdUntil : Nat := 0
  failedRaises : Nat := 0
  /-- Three raises failed: only PORT_LINK_CMD.RAISE raises (R538). -/
  needCmd : Bool := false
  /-- A raise has been asked for while the hold still runs. -/
  raiseAsked : Bool := false
  /-- Rings stayed locked, so that the next raise may be warm (R549). -/
  ringsKept : Bool := false
  strike : Option StrikeRun := none
  drainSent : Bool := false
  drainRecv : Bool := false
  doneSent : Bool := false
  doneRecv : Bool := false
  /-- A DRAIN that waits for the pick E of an exchange (R544). -/
  drainLater : Bool := false
  /-- Cause and start of an abrupt strike that the far end is told of (R547). -/
  telling : Option (Nat × Nat) := none
  pausedAt : Nat := 0
  deriving DecidableEq, Repr

/-- What a port knows of its far end (R531 to R536). -/
structure FarEnd where
  caps : Option Caps := none
  ident : Option Ident := none
  /-- WIRE result received. -/
  wire : Option Nat := none
  /-- ADMIT code received by an end-point. -/
  admitCode : Nat := 0
  /-- CREDIT_INIT has been received. -/
  credits : Bool := false
  /-- Result of the own wiring check: 0 pass, 1 mismatch, 2 pair. -/
  ownWire : Nat := 0
  /-- The identity that the port was raised with, which a resume must match (R537). -/
  bound : Option Ident := none
  deriving DecidableEq, Repr

/-- A flit held for replay and the time it was last sent, in nanoseconds since the domain epoch. -/
structure HeldFlit where
  flit : Flit
  sentAt : Nat := 0
  deriving DecidableEq, Repr

/-- Flit layer of a port (R517 to R526). -/
structure FlitLayer where
  /-- FSEQ that the next new DATA or CTRL flit takes. -/
  txNext : Nat := 0
  /-- FSEQ expected next from the far end. -/
  rxNext : Nat := 0
  /-- Unacknowledged flits, oldest first. -/
  replay : List HeldFlit := []
  /-- How many of them still wait to be sent again. -/
  replaying : Nat := 0
  /-- A NAK is to be set in the next header. -/
  nakDue : Bool := false
  /-- A NAK has been sent and no flit accepted since (R521). -/
  nakSent : Bool := false
  /-- FSEQ expected at the last discard that raised NAK (R523). -/
  nakAt : Option Nat := none
  /-- FSEQ of the flit NAKed once for a version error (R524). -/
  verAt : Option Nat := none
  /-- Cells of the packet being sent that have not left yet (R81). -/
  txCells : List Cell := []
  /-- Cells received of a packet not yet whole. -/
  rxCells : List Cell := []
  /-- Packets received whole and not yet taken by a packet command, oldest first. -/
  rxPackets : List Packet := []
  /-- Link-control messages waiting to be sent. -/
  ctrlOut : List LinkMsg := []
  /-- The flit on the wire: the last one sent. -/
  wire : Flit := {}
  /-- Lane-control sets sent in this pick, and those that wait for a later one (R508). -/
  laneOut : List LaneSet := []
  laneWait : List LaneSet := []
  /-- Flit slots used in this pick. -/
  slots : Nat := 0
  /-- The VC whose credit count the next header carries first. -/
  credTurn : Nat := 0
  deriving DecidableEq, Repr

/-- The flit layer as a strike or stage 7 leaves it: flits and messages are gone, lane-control sets stay. -/
def FlitLayer.cleared (f : FlitLayer) : FlitLayer := { laneOut := f.laneOut, laneWait := f.laneWait }

/-- One more lane-control set: at most 4 go in a pick, unless a lane check runs (R508). -/
def FlitLayer.addLane (f : FlitLayer) (checking : Bool) (s : LaneSet) : FlitLayer :=
  if checking then { f with laneOut := f.laneOut ++ f.laneWait ++ [s], laneWait := [] }
  else if f.laneOut.length < 4 then { f with laneOut := f.laneOut ++ [s] }
  else { f with laneWait := f.laneWait ++ [s] }

/-- A pick opens: sets that waited go, and flit slots are counted anew. -/
def FlitLayer.newPick (f : FlitLayer) : FlitLayer := { f with laneOut := f.laneWait.take 4, laneWait := f.laneWait.drop 4, slots := 0 }

/-- The exchanges under way. -/
def LinkTrain.exchanges (t : LinkTrain) : List Exchange := t.exchange.toList ++ t.widthEx.toList

/-- Credits of one virtual channel (R526). -/
structure VcCredit where
  /-- Grant received at stage 10. -/
  grant : Nat := 0
  /-- Latest cumulative count received. -/
  latest : Nat := 0
  /-- Cells sent since stage 10, modulo 16,384. -/
  sent : Nat := 0
  /-- Cells freed here since stage 10, modulo 16,384. -/
  freed : Nat := 0
  deriving DecidableEq, Repr

/-- Marker measurements of a port (R512 to R515, R535). -/
structure MarkerState where
  /-- Bits [7:0] of the number in the last marker received. -/
  lastFar : Nat := 0
  /-- Picks whose echo has arrived. -/
  echoes : List Nat := []
  /-- Last round trips, newest first, in half nanoseconds. -/
  rtts : List Int := []
  missRun : Nat := 0
  farLocked : Bool := false
  farState : Nat := 0
  farPick : Nat := 0
  deriving DecidableEq, Repr

/-- A packet in an egress queue. `released`: its shaper lets it go (R325). `flow`: the staked flow it was accepted by. -/
structure QEntry where
  pkt : Packet
  at_ : Nat := 0
  released : Bool := true
  flow : Option Nat := none
  /-- A re-issue, which no loose limit delays (R337). -/
  reissue : Bool := false
  /-- Picks inside the switch (R121), and the input it came by. -/
  age : Nat := 0
  input : Option Nat := none
  /-- PITCH with which it arrived, where a selvedge port has rewritten it (R74, R75); the group bus whose tap buffer holds it (R287). -/
  arrived : Option Nat := none
  tap : Option Nat := none
  deriving DecidableEq, Repr

/-- One sample of a queue (R338). -/
structure QSample where
  depth : Nat := 0
  delay : Nat := 0
  deriving DecidableEq, Repr

/-- Egress queues of a port (R328, R329, R333, R338). -/
structure Egress where
  q : Tab (List QEntry) := []
  deficit : Tab Nat := []
  /-- Weighted queue whose turn it is, 3 to 10, and whether it has taken its quantum. -/
  turn : Nat := 3
  taken : Bool := false
  /-- Cells sent in this pick by queue 2, by queue 1, and by the queues that gate GL limits (R328, R600). -/
  resCells : Nat := 0
  stakedCells : Nat := 0
  looseCells : Nat := 0
  /-- VC5 cells freed but not yet returned, and returned in this pick (R600). -/
  vc5Held : Nat := 0
  vc5Back : Nat := 0
  /-- Next eligible times of the per-pitch shapers (switch), in 1/1,024 slot. -/
  shaper : Tab Nat := []
  /-- Loose limit L of an end-point plane, and its shaper's next eligible time (R337). -/
  loose : Option Nat := none
  looseElig : Nat := 0
  /-- Congestion level seen in this pick (R337) and the level of the last pick. -/
  level : Nat := 0
  lastLevel : Nat := 0
  /-- Ring of samples: key 64 q + (pick mod 64). -/
  ring : Tab QSample := []
  deriving DecidableEq, Repr

/-- Optical states of a port (`PE_PORT_STATE.OSTATE`). -/
inductive OState where
  | dark
  | probe
  | lighting
  | lit
  | paused
  deriving DecidableEq, Repr

/-- The code of an optical state. -/
def OState.code : OState → Nat
  | .dark => 0
  | .probe => 1
  | .lighting => 2
  | .lit => 3
  | .paused => 4

/-- One ring of a port: heater code, lock, tracking error in 0.1 GHz (Table 12.15), and the pick of a slip being relocked (R481). -/
structure Ring where
  heater : Nat := 0
  locked : Bool := false
  err : Int := 0
  slipAt : Option Nat := none
  deriving DecidableEq, Repr

/-- Optics of a port (R473 to R500). Powers in 0.01 dBm. -/
structure PortOptics where
  ostate : OState := .dark
  opened : Bool := false
  limit : Bool := false
  shutter : Bool := false
  tap : Int := 0
  dist : Int := 0
  rxIn : Int := 0
  drop : Tab Int := []
  tx : Tab Ring := []
  rx : Tab Ring := []
  farReport : Option OptReport := none
  baseline : Tab Int := []
  /-- Baseline offset of each channel below the median (stage 0x6). -/
  chanBase : Tab Int := []
  /-- The same offsets at the far receiver, from its reports (stage 0x7). -/
  farBase : Tab Int := []
  /-- Pick at which the probe pulse in progress ends (R500). -/
  pulseEnd : Option Nat := none
  /-- Far probe light has been seen in this light-up (stage 1). -/
  farLight : Bool := false
  sensorLast : Int := 0
  deriving DecidableEq, Repr

/-- A port: link, flits, credits, markers, egress, optics. -/
structure Port where
  t : LinkTrain := {}
  far : FarEnd := {}
  fl : FlitLayer := {}
  cred : Tab VcCredit := []
  mark : MarkerState := {}
  eg : Egress := {}
  op : PortOptics := {}
  /-- Lane tables 0x0 to 0x2 (Table 13.17), key 64 × table + channel. -/
  lane : Tab Reg := []
  /-- Eye scan in progress, its channel (`none`: every channel), and the counts of the last single-channel scan. -/
  eyeBusy : Bool := false
  eyeChan : Option Nat := none
  eyeLast : Nat := 0
  eyeMap : Tab Nat := []
  deriving DecidableEq, Repr

/-- Comb states (Table 12.3). -/
inductive CombState where
  | dark
  | warming
  | lit
  | standby
  | retired
  deriving DecidableEq, Repr

/-- The code of a comb state in `COMB_STATUS.STATE`. -/
def CombState.code : CombState → Nat
  | .dark => 0
  | .warming => 1
  | .lit => 2
  | .standby => 3
  | .retired => 4

/-- A comb source (R470 to R472). Bias in 0.1 mA, output in 0.01 dBm, lock error in 0.1 GHz. -/
structure Comb where
  st : CombState := .dark
  pos : Nat := 0
  locked : Bool := false
  out : Int := 0
  bias : Nat := 0
  lockErr : Int := 0
  /-- Picks lit or in standby that have not made a whole hour yet. -/
  litPicks : Nat := 0
  deriving DecidableEq, Repr

/-- A swap of the spare in progress on an engine (R491, R493, R494). -/
structure SwapRun where
  pos : Nat := 0
  /-- Boundary S of the sequence. -/
  start : Nat := 0
  /-- 0 waiting for S, 1 draining, 2 light moving, 3 re-raising. -/
  phase : Nat := 0
  auto : Bool := false
  /-- The position's own comb was retired: no drain, the ports are paused already (R493). -/
  urgent : Bool := false
  deriving DecidableEq, Repr

/-- A photonic engine of the switch, or the end-point's photonic page. -/
structure Engine where
  /-- Positions that want the spare. -/
  want : List Nat := []
  /-- The spare is in use (`PE_STATUS.SWAP_DONE`). -/
  swapDone : Bool := false
  swap : Option SwapRun := none
  temps : Tab Int := []
  /-- Declared failed: struck at the next boundary (R559). -/
  failing : Bool := false
  failed : Bool := false
  deriving DecidableEq, Repr

/-- The optics of a part: combs, engines, the LASER_EN pin. -/
structure Optics where
  combs : Tab Comb := []
  engines : Tab Engine := []
  laserEn : Bool := false
  deriving DecidableEq, Repr

end Sys2Proof.Machine
end

