-- ==== Sys2Proof/Machine/StateCommon.lean ====
section
/-!
DEFINITION. The state that both parts hold beside their ports and optics: the register file (spec/18), staged sets, the Zhevseler executor and its kept replies (spec/17),
resilience, ledger, tests and firmware (spec/14), power, heat and bivouac (spec/15), security (spec/16).
-/

namespace Sys2Proof.Machine

/-- A HI word captured by a read of its LO word (R118, R713). -/
structure Capture where
  who : Requester
  addr : Nat
  value : Reg
  deriving DecidableEq, Repr

/-- A posted write waiting in a slow domain: block base, register address, value (R714). -/
structure Posted where
  block : Nat
  addr : Nat
  value : Reg
  deriving DecidableEq, Repr

/-- The register file of a part. Registers whose content another field of the state gives are read through that field. -/
structure RegFile where
  /-- Registers that differ from their reset value, by address. -/
  cur : Tab Reg := []
  /-- Values still in force for registers written in this pick whose writes act from the next boundary. -/
  old : Tab Reg := []
  /-- Internal sequence counts of RE registers (R716). -/
  seqs : Tab Nat := []
  captures : List Capture := []
  posted : List Posted := []
  deriving DecidableEq, Repr

/-- States of a staged set (Table 17.7). -/
inductive SetState where
  | empty
  | opened
  | scheduled
  | committed
  | cancelled
  deriving DecidableEq, Repr

/-- The code of a set state (Table 17.7). -/
def SetState.code : SetState → Nat
  | .empty => 0
  | .opened => 1
  | .scheduled => 2
  | .committed => 3
  | .cancelled => 4

/-- One entry of a staged set (R688). -/
structure StageEntry where
  addr : Nat
  value : Nat
  mask : Nat
  deriving DecidableEq, Repr

/-- A staged set (R687, R693). -/
structure StagedSet where
  st : SetState := .empty
  entries : List StageEntry := []
  /-- Entry count that a committed or cancelled set held. -/
  held : Nat := 0
  pick : Nat := 0
  tag : Nat := 0
  deriving DecidableEq, Repr

/-- A scheduled FENCE or TAKEOVER change (R693, R763). `fenced`: the fenced set of a FENCE, bit i for node i; `move`: node, port and pitch of a takeover. -/
structure MembChange where
  pick : Nat
  epoch : Nat
  fenced : Nat
  move : Option (Nat × Nat × Nat) := none
  deriving DecidableEq, Repr

/-- A staged reservation that was lowered or removed, policed at its old value until a pick (R318). -/
structure OldResv where
  index : Nat
  a : Reg
  b : Reg
  until_ : Nat
  deriving DecidableEq, Repr

/-- The staging engine of a part. -/
structure Staging where
  sets : Tab StagedSet := []
  memb : List MembChange := []
  /-- The membership change that committed last (R582). -/
  last : Option MembChange := none
  oldResv : List OldResv := []
  deriving DecidableEq, Repr

/-- Where a reply goes (R671, R673, R675). -/
structure ZReturn where
  transport : Transport := .guyA
  srcNode : Nat := 0
  plane : Nat := 0
  session : Option Nat := none
  /-- The command came with NO_REPLY = 1: it is never answered. -/
  mute : Bool := false
  deriving DecidableEq, Repr

/-- A Zhevseler reply: OPCODE | 0x8000 with its status word and data (R671). `inner`: the session and the reply that the secured message of an `SPDM_MSG` reply holds (R678). -/
structure ZReply where
  ret : ZReturn
  op : Nat
  tag : Nat
  kind : Nat := 0
  index : Nat := 0
  status : Nat := 0
  detail : Nat := 0
  data : List Byte := []
  inner : Option (Nat × List Byte) := none
  deriving DecidableEq, Repr

/-- A command still executing (R680): its opcode, tag, target, what it waits for, and the duplicates that also wait (R581). -/
structure ZExec where
  op : Nat
  tag : Nat
  kind : Nat := 0
  index : Nat := 0
  ret : ZReturn
  /-- TAG of the packet that a RELAY encloses (R677). -/
  inner : Nat := 0
  /-- Collective named by COLL_ABORT: handle, group, sequence. -/
  coll : Option (Nat × Nat × Nat) := none
  dups : List ZReturn := []
  deriving DecidableEq, Repr

/-- A kept tag and reply (R581). -/
structure ZKept where
  tag : Nat
  reply : ZReply
  at_ : Nat
  deriving DecidableEq, Repr

/-- The Zhevseler executor and its lines. -/
structure Mgmt where
  executing : List ZExec := []
  kept : List ZKept := []
  /-- Replies sent in this pick. -/
  replies : List ZReply := []
  /-- In-band replies not yet handed to a port; empty between commands. -/
  outbox : List ZReply := []
  lineA : Bool := true
  lineB : Bool := true
  /-- ARP and neighbour-discovery answers sent in this pick: line and address. -/
  neigh : List (Bool × Nat) := []
  i3cAddr : Option Nat := none
  /-- The I3C reply that waits to be read. -/
  i3cReply : Option ZReply := none
  deriving DecidableEq, Repr

/-- Loss record of a unit (R557): times lost, times it has returned, out of service now. -/
structure LossRec where
  times : Nat := 0
  back : Nat := 0
  out : Bool := false
  deriving DecidableEq, Repr

/-- One ledger record (Table 14.4), its error and loss arrays by unit kind. -/
structure LedgerRec where
  day : Nat := 0
  pick : Nat := 0
  vdd : Nat := 0
  slackMin : Int := 0
  slackMean : Int := 0
  slackDie : Nat := 0
  biasPct : Nat := 0
  biasComb : Nat := 0
  marginMin : Int := 0
  marginPort : Nat := 0
  eyeMin : Nat := 0
  eyePort : Nat := 0
  heaterMin : Int := 0
  heaterPort : Nat := 0
  errors : List (Nat × Nat) := []
  lost : List Nat := []
  proj : List Nat := []
  deriving DecidableEq, Repr

/-- The margin ledger (R564 to R569). Loss records are keyed 65536 × unit kind + unit index. -/
structure Ledger where
  /-- Records in flash, newest first, at most 4,096. -/
  records : List LedgerRec := []
  /-- Records held back by the flash-write inhibit (R568). -/
  waiting : List LedgerRec := []
  lastDay : Option Nat := none
  /-- Worst slack of the day, its die, the sum of the day's worst slacks and how many. -/
  slackMin : Int := 32767
  slackDie : Nat := 0
  slackSum : Int := 0
  slackCount : Nat := 0
  loss : Tab LossRec := []
  /-- Errors counted over the day by unit kind: transient, lasting. -/
  errors : Tab (Nat × Nat) := []
  /-- Present AVS target in mV, and the value fused at manufacture. -/
  avs : Nat := 0
  avsFused : Nat := 0
  spareRows : Nat := 1024
  avsUnmet : Bool := false
  warn : Bool := false
  /-- Samples of the last quiet pick: eye and heater minima with their ports. -/
  eyeMin : Nat := 64
  eyePort : Nat := 0
  heaterMin : Int := 0
  heaterPort : Nat := 0
  deriving DecidableEq, Repr

/-- A disruptive test (R584 to R586): kind 1 core, 2 shaft, 3 lane loopback. -/
structure TestRun where
  kind : Nat
  unit : Nat
  chan : Nat := 0
  start : Nat
  running : Bool := false
  /-- Code of the state the unit held before the test: of a core or a shaft, or the role of a channel. -/
  before : Nat := 0
  /-- The test has run: whether it passed. The boundary settles it. -/
  ended : Option Bool := none
  deriving DecidableEq, Repr

/-- A firmware image as the part knows it (Table 16.8). -/
structure FwImage where
  digest : List Byte := []
  version : Nat := 0
  svn : Nat := 0
  bump : Bool := false
  deriving DecidableEq, Repr

/-- An image being staged (R694). -/
structure FwStaging where
  total : Nat := 0
  kind : Nat := 0
  svn : Nat := 0
  data : List Byte := []
  /-- The erase of the slot has finished. -/
  erased : Bool := false
  /-- The erase is suspended by the flash-write inhibit (R616). -/
  suspended : Bool := false
  deriving DecidableEq, Repr

/-- Firmware slots and activation (R587 to R591, R645). -/
structure Firmware where
  /-- Running slot: false A, true B. -/
  slotB : Bool := false
  imgA : FwImage := {}
  imgB : FwImage := {}
  staging : Option FwStaging := none
  staged : Option FwImage := none
  pending : Option Nat := none
  restart : Bool := false
  trial : Bool := false
  fellBack : Bool := false
  deriving DecidableEq, Repr

/-- An image of a slot. -/
def Firmware.img (f : Firmware) (slotB : Bool) : FwImage := if slotB then f.imgB else f.imgA

/-- The running image. -/
def Firmware.running (f : Firmware) : FwImage := f.img f.slotB

/-- Power limits and gates (R599 to R610). Powers in 0.1 W. -/
structure Power where
  cap : Option Nat := none
  /-- Lowest caps in force in the pick before last, in the last pick and in this one. -/
  low2 : Option Nat := none
  low1 : Option Nat := none
  low0 : Option Nat := none
  /-- Picks left on the lease; 0 when not live. -/
  lease : Nat := 0
  belowFloor : Bool := false
  /-- The alert input is asserted; it was asserted during this pick; picks since it was deasserted. -/
  alert : Bool := false
  alertSeen : Bool := false
  alertHold : Nat := 0
  /-- The reserve limit governs, and Bartas programs are paused. -/
  reserve : Bool := false
  paused : Bool := false
  gl : Nat := 64
  gs : Nat := 64
  floor : Nat := 0
  pickPower : Nat := 0
  /-- Governing limit of this pick, and what governs it (`PWR_STATUS.GOV`). -/
  limit : Nat := 0
  gov : Nat := 0
  /-- Cells moved in this pick. -/
  cells : Nat := 0
  floorAbove : Bool := false
  deriving DecidableEq, Repr

/-- One sensor channel (R596): last samples newest first, median, filtered value. The filtered value is kept in 1/128 of a unit. -/
structure Sensor where
  samples : List Int := []
  median : Int := 0
  filt : Int := 0
  deriving DecidableEq, Repr

/-- Thermal state (R611 to R616). -/
structure Thermal where
  sensors : Tab Sensor := []
  /-- Ramp alarm: `some true` started by command, `some false` by a rise. -/
  ramp : Option Bool := none
  /-- Filtered hottest junction readings of the last 100 ms that no later one undercuts: pick and value, newest first. -/
  history : List (Nat × Int) := []
  /-- The pick since which the hottest reading has stayed below 85 °C with no qualifying rise. -/
  coolSince : Option Nat := none
  tripped : Bool := false
  throttle : Bool := false
  flashInhibit : Bool := false
  /-- The pick since which both supplies have been good. -/
  goodSince : Option Nat := none
  deriving DecidableEq, Repr

/-- Power states (Table 15.5). -/
inductive BivState where
  | awake
  | entering
  | bivouac
  | waking
  deriving DecidableEq, Repr

/-- The code of a power state in `BIV_STATUS.STATE`. -/
def BivState.code : BivState → Nat
  | .awake => 0
  | .entering => 1
  | .bivouac => 2
  | .waking => 3

/-- The bivouac island's view of the part (R618 to R622). -/
structure Bivouac where
  st : BivState := .waking
  cause : Nat := 3
  entryPick : Option Nat := none
  wakeAt : Nat := 0
  /-- RESET_N is asserted. -/
  inReset : Bool := false
  /-- Secure boot has ended in this wake. -/
  booted : Bool := false
  /-- VAUX and every rail are lost (R748). -/
  dead : Bool := false
  /-- A rail fault holds the part in bivouac until WAKE (R749). -/
  railFault : Bool := false
  /-- DRAM is in self-refresh. -/
  selfRefresh : Bool := false
  deriving DecidableEq, Repr

/-- Roles of a session (R653, R679). -/
inductive SessionRole where
  | measure
  | session
  | tenant (pitch : Nat)
  | manager
  deriving DecidableEq, Repr

/-- An SPDM session (R652, R653). -/
structure Session where
  role : SessionRole := .measure
  established : Bool := false
  /-- Root public key of the requester's chain (97 bytes); none without mutual authentication. -/
  chain : List Byte := []
  /-- KEY_UPDATE count of the session's keys. -/
  keyGen : Nat := 0
  deriving DecidableEq, Repr

/-- An owner slot (Table 16.6). -/
structure OwnerSlot where
  hash : List Byte
  released : Bool := false
  deriving DecidableEq, Repr

/-- Keys enrolled for a pitch (R654). -/
structure Enrolment where
  tenant : List Byte := []
  signers : List (List Byte) := []
  deriving DecidableEq, Repr

/-- A traffic key slot (R664). -/
structure TrafficKey where
  key : List Byte
  deriving DecidableEq, Repr

/-- A certificate of the chain of slot 0 (R649, R652): its subject's public key, the image digest it carries, and the public key that signed it. -/
structure KeyCert where
  subject : List Byte := []
  digest : List Byte := []
  issuer : List Byte := []
  deriving DecidableEq, Repr

/-- An SPDM response that the part has sent (R652): request code, session, and the blocks or bytes it carries. -/
structure SpdmRsp where
  req : String
  session : Nat
  ok : Bool := true
  data : List Byte := []
  blocks : List (Nat × List Byte) := []
  /-- Public key that signs it, or none (R649); and the chain that GET_CERTIFICATE returns below the root: identity and alias. -/
  signer : List Byte := []
  certs : List KeyCert := []
  deriving DecidableEq, Repr

/-- What the security block derives at boot (R649): private keys, the compound secret, the alias certificate. No register, command or reply shows a secret. -/
structure BootKeys where
  identity : Nat := 0
  compound : List Byte := []
  alias_ : Nat := 0
  cert : KeyCert := {}
  deriving DecidableEq, Repr

/-- Security state (R644 to R667). -/
structure Security where
  /-- The unique secret (Table 16.6), 48 bytes, and whether it is closed until the next reset (Table 16.7). -/
  unique : List Byte := List.replicate 48 0
  uniqueClosed : Bool := false
  keysAtBoot : BootKeys := {}
  vendorHashes : List (List Byte × Bool) := []
  svnFloor : Nat := 0
  owners : List OwnerSlot := []
  debugLock : Bool := true
  bootOk : Bool := false
  bootDigest : List Byte := []
  devid : List Byte := []
  /-- SHA-384 of the boot ROM (Table 16.10). -/
  romDigest : List Byte := List.replicate 48 0
  /-- SPDM connection state: version, capabilities, algorithms negotiated. -/
  negotiated : Nat := 0
  sessions : Tab Session := []
  enrol : Tab Enrolment := []
  /-- Traffic keys by 2 × pitch + phase. -/
  keys : Tab TrafficKey := []
  /-- Pick at which the active phase of a pitch committed. -/
  phaseAt : Tab Nat := []
  /-- What `ID_CNT_CLEAR` has taken from `EP_SEC_KEY_AGE`. -/
  ageBase : Nat := 0
  unlocked : Bool := false
  /-- Encryption counter of this pick, and the highest pick used under the current phase (R659, R663). -/
  ctr : Nat := 0
  encHigh : Nat := 0
  encHold : Bool := false
  /-- End-point: the EP_PITCH that waits for the scrub, and whether the scrub runs (R633). -/
  scrubTo : Option Nat := none
  scrubOn : Bool := false
  rsp : List SpdmRsp := []
  deriving DecidableEq, Repr

/-- Identity that hardware loads at start-up (Table 18.6). -/
structure Identity where
  serial : Nat := 0
  macA : Nat := 0
  macB : Nat := 0
  deriving DecidableEq, Repr

/-- Everything that both parts hold. -/
structure Common where
  part : Part
  id : Identity := {}
  rf : RegFile := {}
  time : Timebase := {}
  ports : Tab Port := []
  opt : Optics := {}
  stage : Staging := {}
  mgmt : Mgmt := {}
  ledger : Ledger := {}
  test : Option TestRun := none
  fw : Firmware := {}
  pwr : Power := {}
  therm : Thermal := {}
  biv : Bivouac := {}
  sec : Security := {}
  /-- The part has been admitted to a domain (R718). -/
  admitted : Bool := false
  /-- The model's own: how many free values have been drawn. No rule reads it. -/
  free : Nat := 0
  deriving DecidableEq, Repr

end Sys2Proof.Machine
end

