-- ==== Sys2Proof/Machine/StateEp.lean ====
section
/-!
DEFINITION. The state of the end-point's own machinery: host attachment (spec/06), home (spec/03, 04), source of requests (spec/03), remote-line cache (spec/04), translation and copy engines (spec/05), receive queues (spec/02).
Engines are numbered as units: 0 to 31 the copy engines, 32 + c requester context c.
-/

namespace Sys2Proof.Machine

/-- Header and cell credits of one channel. -/
structure ChanCred where
  hdr : Nat := 0
  cells : Nat := 0
  deriving DecidableEq, Repr

/-- What an access into accelerator memory is for: where its answer goes. -/
inductive Purp where
  /-- A read or write of home request `h`, at a byte offset of it. -/
  | home (h off : Nat)
  /-- The read and the masked write of a home atomic, and its system-scope atomic (R247). -/
  | atomRead (h : Nat)
  | atomWrite (h : Nat)
  | atomMat (h : Nat)
  /-- The result-table write before an answer (R110), and the read that answers a duplicate (R70). -/
  | artWrite (h : Nat)
  | artRead (h : Nat)
  /-- A walk's read of an entry (R202). -/
  | walk (w : Nat)
  /-- One line of a piece's local source, the destination write of a piece, an atomic's operand block (R189, R187). -/
  | line (piece line : Nat)
  | localWrite (engine idx : Nat)
  | opRead (engine idx : Nat)
  | opWrite (engine idx : Nat)
  /-- A QCOPY's source and residual bytes, and read-back of a measured copy (R220, R224). -/
  | qRead (engine idx kind off : Nat)
  | backRead (engine idx off : Nat)
  /-- Descriptor fetch and completion record of an engine (R184, R192). -/
  | desc (engine idx : Nat)
  | cpl (engine : Nat) (notify : Bool) (code : Nat)
  /-- Translation commands: fetch, completion, leaf rewrite, mover. -/
  | xqDesc (idx : Nat)
  | xqCpl (slot status : Nat)
  | leafWrite (slot : Nat)
  | moverRead (slot off : Nat)
  | moverWrite (slot off : Nat)
  /-- A direct access to local memory (Table 6.6). -/
  | areq (id : Nat)
  /-- Receive queues: descriptor read, second read of CONSUMER, body, record header, producer (R77). -/
  | rqDesc (q : Nat)
  | rqAgain (q : Nat)
  | rqBody (q : Nat)
  | rqHead (q : Nat)
  | rqProd (q : Nat)
  /-- Collectives: descriptor, source bytes, residual write, result write, completion record of a member. -/
  | collDesc (idx : Nat)
  | collSrc (member plane stream off : Nat)
  | collResid (member : Nat)
  | collDst (member plane chunk : Nat)
  | collRec (member : Nat)
  deriving DecidableEq, Repr

/-- An access of the end-point into accelerator memory (EREQ). -/
structure Ereq where
  id : Nat
  purp : Purp
  mop : Nat
  addr : Nat
  len : Nat
  data : List Byte := []
  module : Nat := 0
  tag : Nat := 0
  sent : Bool := false
  sentPick : Nat := 0
  /-- Translation it was made through, and its unit (R210): address space, first address and bytes of the leaf. -/
  span : Option (Nat × Nat × Nat) := none
  unit : Nat := 0
  /-- Piece or operand block that it belongs to, numbered in order of translation (R210); 0 for none. -/
  piece : Nat := 0
  /-- Instant at which an access of a staked packet first waited for credit, in ns (Table 8.16). -/
  since : Option Nat := none
  deriving DecidableEq, Repr

/-- A notice waiting for credit (Table 6.8). -/
structure Note where
  kind : Nat
  source : Nat
  infoA : Nat := 0
  infoB : Nat := 0
  pick : Nat := 0
  deriving DecidableEq, Repr

/-- An accepted AREQ: the message, the leaf once known, how many local answers are missing, data gathered. -/
structure Areq where
  id : Nat
  msg : LhaMsg
  started : Bool := false
  deriving DecidableEq, Repr

/-- The host attachment (spec/06). -/
structure Lha where
  /-- Modules attached, in ascending order: L of R245. -/
  attached : List Nat := []
  trained : List Nat := []
  /-- Trained modules that run at 32 GT/s. -/
  fast : List Nat := []
  /-- Modules lost since reset, which an attach brings back (R258). -/
  lost : List Nat := []
  /-- Pick at which the last OFFER left, by module. -/
  offered : Tab Nat := []
  version : Nat := 0
  /-- Modules whose loss still waits for AREQ to drain. -/
  draining : List Nat := []
  quiescing : Bool := false
  /-- QUIESCE_DONE is owed (not when every module was lost, R258). -/
  owesDone : Bool := false
  quiesced : Bool := false
  /-- The pause of R256 ends at this pick. -/
  pauseEnd : Option Nat := none
  /-- Modules that rejoin L when the pause ends. -/
  joining : List Nat := []
  /-- Credits granted by the accelerator: key 3 × module + 0 EREQ, 1 ERSP, 2 ENOTE. -/
  cred : Tab ChanCred := []
  /-- Credits to return: key 2 × module + 0 AREQ, 1 ARSP. -/
  due : Tab ChanCred := []
  /-- Messages sent in this pick. -/
  out : List LhaMsg := []
  /-- Answers waiting for ERSP credit, notices waiting for ENOTE credit. -/
  ersp : List LhaMsg := []
  notes : List Note := []
  /-- A notice has waited for credit in this pick (R251). -/
  noteWaited : Bool := false
  /-- Next tag by module. -/
  nextTag : Tab Nat := []
  nextAreq : Nat := 0
  areqs : List Areq := []
  nextEreq : Nat := 0
  ereqs : List Ereq := []
  deriving DecidableEq, Repr

/-- Progress of a home request. -/
inductive HomeSt where
  /-- Waits for a granule that an atomic holds, or behind one that does. -/
  | waiting
  /-- A flagged store held under R97 since a pick. -/
  | held (since : Nat)
  /-- Its accesses are in progress. -/
  | busy
  deriving DecidableEq, Repr

/-- A request being served at home. `plane` is 8 for a request of the end-point itself (R21). -/
structure HomeReq where
  id : Nat
  plane : Nat
  pkt : Packet
  arrival : Nat
  /-- Physical address, by the window base in force when its header arrived (R46). -/
  pa : Nat := 0
  st : HomeSt := .waiting
  /-- Answers of the accelerator still missing. -/
  left : Nat := 0
  data : Tab (List Byte) := []
  /-- Old value and CMP_OK of an atomic. -/
  old : Nat := 0
  cmpOk : Bool := false
  /-- A duplicate atomic answered from the result table (R70). -/
  fromTable : Bool := false
  /-- A merged request: key of its batch (R137). -/
  batch : Option Nat := none
  deriving DecidableEq, Repr

/-- The sequence record of a source (R70). `low` is the lowest SEQ not yet applied or refused. -/
structure SrcRec where
  low : Nat := 0
  finished : List Nat := []
  refused : List Nat := []
  /-- SEQ accepted and not yet applied or refused. -/
  open_ : List Nat := []
  /-- Copies held behind an open SEQ. -/
  copies : List HomeReq := []
  deriving DecidableEq, Repr

/-- A receipt entry of a batch: index, source, SEQ, FETCH, operand (Table 3.13). -/
structure BatchEntry where
  index : Nat
  src : Nat
  seq : Nat
  fetch : Bool := false
  operand : Nat := 0
  deriving DecidableEq, Repr

/-- A merged batch being gathered (R136), keyed 4,096 × port + batch number. -/
structure Batch where
  req : Option Packet := none
  total : Option Nat := none
  atomic : Bool := false
  entries : List BatchEntry := []
  first : Nat := 0
  /-- Physical address of the merged request (R46). -/
  pa : Nat := 0
  /-- Status of a failed check, with its detail. -/
  refusal : Option (Nat × Nat) := none
  started : Bool := false
  /-- Result-table writes still missing (step 2 of R136). -/
  artLeft : Nat := 0
  deriving DecidableEq, Repr

/-- A message being received into a queue (R77): the packet, its plane, its pick, whether CONSUMER has been read again. -/
structure RqJob where
  pkt : Packet
  plane : Nat
  arrival : Nat
  replayed : Bool := false
  desc : List Byte := []
  again : Bool := false
  left : Nat := 0
  /-- Copies that wait for the same answer. -/
  copies : List (Nat × Packet) := []
  deriving DecidableEq, Repr

/-- A receive queue: own producer count, whether it was last seen enabled, jobs in order. -/
structure RxQueue where
  prod : Nat := 0
  enabled : Bool := false
  jobs : List RqJob := []
  deriving DecidableEq, Repr

/-- The duplicate record of a sender (R80): pick last heard, SEQ delivered. -/
structure MsgSender where
  last : Nat := 0
  seqs : List Nat := []
  deriving DecidableEq, Repr

/-- The home side. -/
structure Home where
  nextId : Nat := 0
  reqs : List HomeReq := []
  recs : Tab SrcRec := []
  batches : Tab Batch := []
  rq : Tab RxQueue := []
  senders : Tab MsgSender := []
  deriving DecidableEq, Repr

/-- What the completion of a request does. -/
inductive Cont where
  | none
  /-- A direct access (R241). -/
  | areq (id : Nat)
  /-- A read of a piece: first line index and line count (R189). -/
  | piece (p first n : Nat)
  /-- A store of a descriptor. -/
  | store (engine idx : Nat)
  | atomic (engine idx : Nat)
  /-- A read-back of a measured copy. -/
  | back (engine idx off : Nat)
  deriving DecidableEq, Repr

/-- Progress of an issued request. -/
inductive SrcSt where
  | issued
  /-- SEQ and tag assigned, waiting for budget of staked flow f (R323). -/
  | accepting (f : Nat)
  /-- In an egress queue or beyond. -/
  | sent
  /-- To be re-issued once 64 picks have passed since the last issue (Table 3.11). -/
  | reissue (due : Nat)
  deriving DecidableEq, Repr

/-- A request of the source side (Table 3.1). Identifiers rise in issue order. -/
structure SrcReq where
  id : Nat
  engine : Nat
  op : Nat
  dst : Nat
  woff : Nat
  len : Nat := 0
  data : List Byte := []
  flags : HdrFlags := {}
  key : Nat := 0
  cmode : Nat := 0
  counter : Nat := 0
  ready : Bool := true
  st : SrcSt := .issued
  tag : Nat := 0
  seq : Nat := 0
  plane : Nat := 0
  vc : Nat := 1
  lastIssue : Nat := 0
  timeouts : Nat := 0
  reissues : Nat := 0
  /-- The answer may fill the remote-line cache (R159, R164). -/
  mayFill : Bool := false
  /-- A fill has been refused by an event of Table 4.4. -/
  fillLost : Bool := false
  cont : Cont := .none
  /-- Translation it was issued through: address space, virtual page start and bytes (R210). -/
  span : Option (Nat × Nat × Nat) := none
  deriving DecidableEq, Repr

/-- A fence waiting (R112): the engine, whether it covers every engine, the node it is limited to, the identifiers below which requests are covered. -/
structure FenceRun where
  engine : Nat
  all : Bool := false
  node : Option Nat := none
  before : Nat := 0
  /-- The direct access or the descriptor that waits for it. -/
  areq : Option Nat := none
  idx : Nat := 0
  /-- Requests of its scope that completed with another status than OK or OK_DUPLICATE (R115). -/
  errors : Nat := 0
  deriving DecidableEq, Repr

/-- A request that failed, and the engines whose fences have reported it (R115). -/
structure FailRec where
  id : Nat
  engine : Nat
  node : Nat
  reported : List Nat := []
  deriving DecidableEq, Repr

/-- A request that has completed, with what its engine is told (Table 3.15). -/
structure SrcDone where
  req : SrcReq
  status : Nat
  /-- Status detail of the response (Table 2.9). -/
  detail : Nat := 0
  dup : Bool := false
  /-- MEASURED of the answer; `none` where the request completed without one. -/
  measured : Option Bool := none
  data : List Byte := []
  deriving DecidableEq, Repr

/-- A staked or loose flow (R323 to R325): budget left in the pick, next eligible time in 1/1,024 slot, requests and packets waiting for acceptance. -/
structure FlowState where
  budget : Nat := 0
  elig : Nat := 0
  /-- Packets waiting for acceptance, in order: packet, and the request's identifier or none for a response. -/
  wait : List (Packet × Option Nat) := []
  deriving DecidableEq, Repr

/-- The source side. -/
structure Source where
  nextId : Nat := 0
  reqs : List SrcReq := []
  /-- Next SEQ by destination. -/
  seqs : Tab Nat := []
  /-- Next SEQ of messages by 256 × destination domain + node (R72). -/
  msgSeqs : Tab Nat := []
  nextTag : Nat := 0
  fences : List FenceRun := []
  fails : List FailRec := []
  /-- Pick at which bit k of `EP_PATH_DOWN_d` was set, key 8 d + k. -/
  downAt : Tab Nat := []
  /-- Flows by number in the flow table. -/
  flows : Tab FlowState := []
  /-- Epoch under which the end-point is fenced (R141). -/
  fencedEpoch : Option Nat := none
  /-- Completed requests whose engines have not been told yet; empty between commands. -/
  done : List SrcDone := []
  deriving DecidableEq, Repr

/-- A leaf of a page table (Table 5.7): first virtual address, bytes, target, permissions, whether it is global. -/
structure Leaf where
  asid : Nat
  va : Nat
  bytes : Nat
  target : Nat
  global_ : Bool
  w : Bool
  at_ : Bool
  /-- Address of the entry it was read from. -/
  entry : Nat := 0
  deriving DecidableEq, Repr

/-- A table entry in the walk cache: level of the table entry, address space, first virtual address it covers, next table's address. -/
structure TableEntry where
  level : Nat
  asid : Nat
  va : Nat
  next : Nat
  deriving DecidableEq, Repr

/-- A walk in progress (R198). `kind` 0 demand, 1 prefetch, 2 for a translation command. -/
structure Walk where
  id : Nat
  asid : Nat
  va : Nat
  unit : Nat
  level : Nat
  table : Nat
  kind : Nat := 0
  retried : Bool := false
  /-- Begun before a block point that covers it: its result is discarded (R211). -/
  stale : Bool := false
  deriving DecidableEq, Repr

/-- States of a translation command in progress. -/
inductive XqSt where
  | fetching
  | waiting
  | walking
  | draining
  | copying
  | rewriting
  | finishing
  deriving DecidableEq, Repr

/-- A translation command (Table 5.9) from the ring or from XLT_CMD. Slots are numbered as the commands come. -/
structure XqCmd where
  slot : Nat
  st : XqSt := .fetching
  body : List Byte := []
  cmd : Nat := 0
  asid : Nat := 0
  kind : Nat := 0
  epoch : Nat := 0
  va : Nat := 0
  length : Nat := 0
  newPa : Nat := 0
  /-- Block point (R210): its pick, and the identifiers below which requests, accesses and pieces were translated before it. -/
  blockAt : Nat := 0
  beforeReq : Nat := 0
  beforeEreq : Nat := 0
  beforePiece : Nat := 0
  /-- Issues to the range wait. -/
  blocking : Bool := false
  cursor : Nat := 0
  leaves : List Leaf := []
  count : Nat := 0
  /-- Leaf writes still missing. -/
  left : Nat := 0
  /-- The mover's last read failed and is read once more. -/
  retried : Bool := false
  /-- From XLT_CMD: its tag (R702). -/
  fromMgmt : Option Nat := none
  deriving DecidableEq, Repr

/-- Translation state. -/
structure Xlt where
  /-- Micro-TLBs by unit (0 to 31, 32 for the direct path). -/
  micro : Tab (List Leaf) := []
  shared : List Leaf := []
  tables : List TableEntry := []
  nextWalk : Nat := 0
  walks : List Walk := []
  /-- Pages that the prefetcher has still to walk: address space and page address (R206). -/
  ahead : List (Nat × Nat) := []
  /-- Faults of demand walks that have just ended, for the accesses that wait: address space, 64 KiB page. Empty between commands. -/
  faults : List (Nat × Nat) := []
  cmds : List XqCmd := []
  nextSlot : Nat := 0
  /-- Ring: producer, commands asked for, commands read, records written; the slots of ring commands in order. -/
  prod : Nat := 0
  asked : Nat := 0
  cons : Nat := 0
  cplProd : Nat := 0
  order : List Nat := []
  /-- Records of finished ring commands not yet written, by slot (R192). -/
  done : Tab (List Byte) := []
  /-- Records of finished XLT_CMD commands, by tag; taken by the same step. -/
  mgmtDone : List (Nat × List Byte) := []
  /-- Pinned translations and streaming ranges: address space, start, bytes. -/
  pins : List (Nat × Nat × Nat) := []
  streams : List (Nat × Nat × Nat) := []
  deriving DecidableEq, Repr

/-- States of a copy engine (Table 5.5). -/
inductive CeState where
  | disabled
  | idle
  | running
  | faulted
  | aborting
  deriving DecidableEq, Repr

/-- The code of an engine state. -/
def CeState.code : CeState → Nat
  | .disabled => 0
  | .idle => 1
  | .running => 2
  | .faulted => 3
  | .aborting => 4

/-- A descriptor in progress: where its issue stands and what it has gathered. -/
structure CeJob where
  idx : Nat
  /-- The descriptor's bytes read so far: 64, or 128 for a QCOPY. -/
  bytes : List Byte := []
  fetched : Bool := false
  /-- Its command has started it; every request of it has been issued. -/
  started : Bool := false
  issuedAll : Bool := false
  row : Nat := 0
  off : Nat := 0
  /-- Requests, local accesses and units not yet complete. -/
  left : Nat := 0
  errors : Nat := 0
  /-- Failed request earliest in issue order: its place and status. -/
  first : Option (Nat × Nat) := none
  dup : Bool := false
  reissued : Bool := false
  code : Nat := 0
  /-- Faulting virtual address. -/
  va : Nat := 0
  qsat : Nat := 0
  qnan : Nat := 0
  /-- A `READ_RSP` came with MEASURED = 0; the source is global. -/
  unmeasured : Bool := false
  srcGlobal : Bool := false
  /-- Bytes for the measured hash by offset in the descriptor's order; input and residuals of a QCOPY by offset. -/
  hash : Tab (List Byte) := []
  input : Tab (List Byte) := []
  resid : Tab (List Byte) := []
  /-- What a QCOPY has still to write, in order: whether it is residuals, virtual address, bytes. Its blocks whose residue check fails, and whether the second run fails as well (R457). -/
  todo : List (Bool × Nat × List Byte) := []
  fails : List (Nat × Bool) := []
  /-- Read-back of a measured copy: 0 not begun, 1 in progress, 2 done. -/
  back : Nat := 0
  /-- Translation of an ATOMIC's operand block, and its place in the order of translations (R210). -/
  span : Option (Nat × Nat × Nat) := none
  piece : Nat := 0
  deriving DecidableEq, Repr

/-- A piece of a copy (R189): source lines that arrive, and destination units not yet handed on. -/
structure Piece where
  id : Nat
  engine : Nat
  idx : Nat
  /-- Byte offset of the piece in the descriptor's order, and its place in issue order. -/
  at_ : Nat
  ord : Nat
  srcOff : Nat
  dst : Nat
  dstGlobal : Bool
  lines : Tab (List Byte) := []
  bad : List Nat := []
  /-- Destination units: offset in the piece, bytes, request that waits for the bytes (`none`: a local write). -/
  units : List (Nat × Nat × Option Nat) := []
  span : Option (Nat × Nat × Nat) := none
  dspan : Option (Nat × Nat × Nat) := none
  deriving DecidableEq, Repr

/-- A copy engine (spec/05). -/
structure CopyEngine where
  st : CeState := .disabled
  prod : Nat := 0
  cons : Nat := 0
  /-- Slots asked for from the ring, and whether one read is outstanding. -/
  asked : Nat := 0
  asking : Bool := false
  jobs : List CeJob := []
  cplProd : Nat := 0
  /-- ABORTING came from EN = 0. -/
  toDisabled : Bool := false
  deriving DecidableEq, Repr

/-- A measurement slot (R223 to R225). -/
structure MeasSlot where
  opened : Bool := false
  /-- CLOSE has frozen it (R223). -/
  frozen : Bool := false
  broken : Bool := false
  engine : Nat := 0
  pitch : Nat := 0
  digest : List Byte := List.replicate 48 0
  count : Nat := 0
  bytes : Nat := 0
  deriving DecidableEq, Repr

/-- A plane of a collective as its member sees it (R391). Units are block images (or one list), numbered from 0 within the plane's part. -/
structure MemPlane where
  /-- First array block and blocks of the plane part (R352). -/
  first : Nat := 0
  blocks : Nat := 0
  /-- ADMIT has come; the latest LIMIT. -/
  granted : Bool := false
  limit : Nat := 0
  /-- Next chunk to send, and chunks named by RESEND that go first. -/
  next : Nat := 0
  again : List Nat := []
  /-- Images read or quantised, by unit; the unit being read; reads of it not yet translated (stream, offset, bytes), bytes that have come by stream and offset, reads not yet answered. -/
  images : Tab (List Byte) := []
  reading : Option Nat := none
  ask : List (Nat × Nat × Nat) := []
  buf : Tab (List Byte) := []
  left : Nat := 0
  /-- RESULT chunks whose bytes have all been acknowledged; writes not yet acknowledged, by chunk; writes not yet translated: chunk, address, bytes. -/
  acked : List Nat := []
  writing : Tab Nat := []
  todo : List (Nat × Nat × List Byte) := []
  /-- Pairs of a list result, once its first chunk has come. -/
  listLen : Option Nat := none
  received : Bool := false
  /-- Terminal state learned (0: unknown), its commit pick and counts. -/
  state : Nat := 0
  commit : Nat := 0
  sat : Nat := 0
  nan : Nat := 0
  under : Nat := 0
  /-- The port was down or has been lost; ABORT has been sent; QUERY is owed once the port is raised. -/
  lost : Bool := false
  abortSent : Bool := false
  query : Bool := false
  deriving DecidableEq, Repr

/-- A range still to be checked at the start of a collective (R388): address, bytes; `aux` for the one address in AUX. -/
structure MemCheck where
  va : Nat
  len : Nat
  aux : Bool := false
  deriving DecidableEq, Repr

/-- A started descriptor (R389): its place in the ring, its 128 bytes, and its planes. -/
structure MemRec where
  id : Nat
  idx : Nat
  bytes : List Byte
  /-- It counts against the 128 member records. -/
  held : Bool := true
  /-- Members of its group in rank order. -/
  members : List Nat := []
  checks : List MemCheck := []
  /-- AUX as it goes into the digest. -/
  aux : Nat := 0
  started : Bool := false
  /-- Blocks of its next unit whose residue check fails when it quantises, and whether the second run fails as well (R457). -/
  fails : List (Nat × Bool) := []
  planes : Tab MemPlane := []
  /-- Residual writes not yet acknowledged, and not yet translated: address, bytes. -/
  residLeft : Nat := 0
  resid : List (Nat × List Byte) := []
  /-- Pick since which step 4 of R391 has ended on every plane still unknown. -/
  waitFrom : Option Nat := none
  /-- State formed (R395), and what the record shows for a plane of the mask whose state is not known. -/
  outcome : Option Nat := none
  fill : Nat := 0x1F
  /-- Its completion record has been asked for. -/
  writing : Bool := false
  deriving DecidableEq, Repr

/-- The collective member of an end-point (spec/09). -/
structure Member where
  /-- Descriptor ring, counted in slots: producer, asked for, read. -/
  prod : Nat := 0
  asked : Nat := 0
  asking : Bool := false
  cons : Nat := 0
  /-- Half-read descriptor, and descriptors that wait to start, with their place in the ring; descriptors read so far. -/
  half : List Byte := []
  waiting : List (Nat × List Byte) := []
  taken : Nat := 0
  recs : List MemRec := []
  nextRec : Nat := 0
  cplProd : Nat := 0
  deriving DecidableEq, Repr

/-- The end-point. -/
structure EpState where
  c : Common := { part := .ep }
  lha : Lha := {}
  home : Home := {}
  src : Source := {}
  /-- Remote-line cache: lines of 64 bytes keyed by (16 node + window) × 2^42 + line (R159). -/
  rlc : Tab (List Byte) := []
  xlt : Xlt := {}
  ces : Tab CopyEngine := []
  /-- Responses of the end-point to its own requests, not yet taken by the source side (R21). -/
  loop : List Packet := []
  /-- Packets that wait until the part may encrypt again (R663): plane, queue, entry. -/
  clear : List (Nat × Nat × QEntry) := []
  pieces : List Piece := []
  nextPiece : Nat := 1
  meas : Tab MeasSlot := []
  coll : Member := {}
  deriving DecidableEq, Repr

end Sys2Proof.Machine
end

