-- ==== Sys2Proof/Machine/StateCore.lean ====
section
/-!
DEFINITION. The state of the switch core (spec/07): input stages, shared buffer, virtual-output queues, shafts and matchers, reeds, group buses, hot-line combiners; policing of staked traffic (spec/08); the selvedge route table (R72, R74).
A triple of input, output and core class is keyed by (input × 512 + output) × 2 + (1 for HIGH).
-/

namespace Sys2Proof.Machine

/-- Kinds of buffer block (Table 7.3, R264). -/
inductive BlockKind where
  | resMgmt
  | resRsp
  | resStaked
  | priv
  | common
  deriving DecidableEq, Repr

/-- A packet inside the switch, from the input stage to its release by the reed. -/
structure CorePkt where
  id : Nat
  pkt : Packet
  input : Nat
  output : Nat
  high : Bool
  /-- Staked cells beyond the reservations (R320). -/
  excess : Bool := false
  /-- Picks inside the switch, not counting those in which its output is PAUSED (R121). -/
  age : Nat := 0
  /-- Admitted to the buffer; the blocks it took, for 16 cells each in order. -/
  admitted : Bool := false
  blocks : List BlockKind := []
  /-- Excess that waits, admitted, until earlier packets of its input, output and VC in class HIGH have left (R262, R320). -/
  parked : Bool := false
  /-- Cells, by place in the packet, that no receipt has covered yet; how many cells the reed has not yet released. -/
  unreceipted : List Nat := []
  unreleased : Nat := 0
  /-- PITCH with which it arrived, before a selvedge port's rewriting (R74, R75). -/
  arrived : Nat := 0
  deriving DecidableEq, Repr

/-- Cells of one packet that stand together: the packet, the place of the first in it, and how many. -/
structure CellRun where
  pkt : Nat
  first : Nat := 0
  n : Nat
  deriving DecidableEq, Repr

/-- A closed spray unit at its input (R269 to R271): where it waits. -/
structure SprayUnitRec where
  seq : Nat
  shaft : Nat
  cells : List CellRun := []
  /-- It has been sent and neither receipt has come. -/
  sent : Bool := false
  /-- Shaft of an earlier attempt that failed (R273). -/
  failedOn : Option Nat := none
  deriving DecidableEq, Repr

/-- A virtual-output queue (R268 to R270). Units stand in the order in which they were assigned to their shafts (R271). -/
structure Voq where
  /-- Cells waiting for a unit, in arrival order; the first up to 16 are the open unit. -/
  backlog : List CellRun := []
  nextSeq : Nat := 0
  units : List SprayUnitRec := []
  deriving DecidableEq, Repr

/-- A unit on its way through a shaft; held by a reed, with the instant of its arrival (ns). -/
structure WireUnit where
  key : Nat
  seq : Nat
  shaft : Nat
  cells : List CellRun
  at_ : Nat := 0
  deriving DecidableEq, Repr

/-- A reed's view of a triple (R281): sequence released next, units held. -/
structure Reed where
  next : Nat := 0
  held : List WireUnit := []
  deriving DecidableEq, Repr

/-- Shaft states (Table 7.5). -/
inductive ShaftState where
  | active
  | standby
  | test
  | failed
  deriving DecidableEq, Repr

/-- The code of a shaft state. -/
def ShaftState.code : ShaftState → Nat
  | .active => 0
  | .standby => 1
  | .test => 2
  | .failed => 3

/-- A shaft (R272 to R274). -/
structure Shaft where
  st : ShaftState := .active
  /-- Picks of its transient errors, newest first. -/
  errs : List Nat := []
  /-- Declared failed: the cause that the boundary records. -/
  due : Option Nat := none
  /-- Taken for a test at the next boundary. -/
  takeForTest : Bool := false
  /-- Its last slot result failed parity (R273). -/
  retry : Bool := false
  /-- Match computed for the next slot: input and output pairs. -/
  match_ : List (Nat × Nat) := []
  deriving DecidableEq, Repr

/-- An entry of a watch table (R291). The line: destination node × 2^46 + woff div 64. -/
structure WatchEntry where
  line : Nat
  count : Nat := 0
  srcs : List Nat := []
  combining : Bool := false
  deriving DecidableEq, Repr

/-- A batch of the combiner (R133): open, or its merged request sent at a pick. Members are requests in reed order with their inputs. -/
structure CombBatch where
  number : Nat
  line : Nat
  members : List (Nat × Packet) := []
  sentAt : Option Nat := none
  deriving DecidableEq, Repr

/-- The combiner of an output. -/
structure Combiner where
  watch : List WatchEntry := []
  batches : List CombBatch := []
  nextBatch : Nat := 0
  deriving DecidableEq, Repr

/-- A cast packet that waits for a group bus (R285 to R287); `ord`: its place among the packets that the switch has generated (R373). -/
structure CastJob where
  bus : Nat
  pkt : Packet
  ord : Nat
  deriving DecidableEq, Repr

/-- A packet of the switch's own that waits for the injection lane of a port (R640), with its place among those generated (R373). -/
structure LaneJob where
  port : Nat
  pkt : Packet
  ord : Nat
  deriving DecidableEq, Repr

/-- An entry of the selvedge route table: selvedge port (0 to 31), ingress pitch. -/
structure SelvRoute where
  port : Nat
  pitch : Option Nat := none
  deriving DecidableEq, Repr

/-- The switch core. -/
structure Core where
  nextPkt : Nat := 0
  pkts : List CorePkt := []
  voqs : Tab Voq := []
  wire : List WireUnit := []
  reeds : Tab Reed := []
  /-- Receipts on their way: triple, sequence, negative. -/
  receipts : List (Nat × Nat × Bool) := []
  shafts : Tab Shaft := (List.range 8).map (fun s => (s, ({} : Shaft))) ++ [(8, { st := .standby })]
  /-- Shafts by rotation position. -/
  rotation : List Nat := List.range 8
  /-- Grant and accept pointers, and credits taken, keyed shaft × 512 + port. -/
  grant : Tab Nat := []
  accept : Tab Nat := []
  credit : Tab Nat := []
  combiners : Tab Combiner := []
  casts : List CastJob := []
  /-- Buses that have waited for room in this pick (R287). -/
  castWaits : List Nat := []
  /-- Packets of the switch's own that wait for the injection lane of a port, oldest first (R640, R373). -/
  lane : List LaneJob := []
  /-- Place of the next packet that the switch generates (R373). -/
  nextOrd : Nat := 0
  /-- Staked cells counted in this pick, keyed input × 512 + output (R320). -/
  police : Tab Nat := []
  selv : Tab SelvRoute := []
  /-- Port directions above their staked limit at the last boundary (R321): 2 × port, plus 1 toward the end-point. -/
  aboveLimit : List Nat := []
  deriving DecidableEq, Repr

end Sys2Proof.Machine
end

