-- ==== Sys2Proof/Machine/StateSw.lean ====
section
/-!
DEFINITION. The state of the switch: what both parts hold, the core (spec/07), collectives (spec/09), Bartas cores and programs (spec/10), package DRAM, pitches and their scrubs (spec/16).
-/

namespace Sys2Proof.Machine

/-- States of a collective at the switch (Table 9.5). -/
inductive CollSt where
  | gathering
  | queued
  | running
  | committed
  deriving DecidableEq, Repr

/-- An abort cause (R377) or a refusal: state code of Table 9.4, node named, members named, odd fields. -/
structure CollCause where
  state : Nat
  node : Nat := 0
  count : Nat := 0
  odd : Nat := 0
  deriving DecidableEq, Repr

/-- What the switch holds of one member of a collective, in rank order. -/
structure CollMember where
  node : Nat
  /-- Cells 0 and 1 of its INTENT (Table 9.2). -/
  intent : Option (Nat × Nat) := none
  /-- LIMIT granted (R368), and chunks that have left staging. -/
  limit : Nat := 0
  left : Nat := 0
  /-- Chunks staged, by chunk index. -/
  staged : Tab (List Byte) := []
  /-- Highest chunk index that arrived, plus one; indices below it that may still be staged (R384). -/
  top : Nat := 0
  want : List Nat := []
  /-- Picks of the first and last CONTRIB (R383), and chunks staged in all. -/
  first : Option Nat := none
  last : Option Nat := none
  chunks : Nat := 0
  received : Bool := false
  /-- Picks for which it has been silent while it owed (R382), and whether it was heard in this pick. -/
  silent : Nat := 0
  heard : Bool := false
  /-- Every `RESULT` due to it had left the switch when the pick began (R382). -/
  out : Bool := false
  deriving DecidableEq, Repr

/-- A collective at the switch. -/
structure CollRec where
  handle : Nat
  group : Nat
  seq : Nat
  pitch : Nat
  st : CollSt := .gathering
  members : List CollMember := []
  /-- Pick of the first INTENT, and pick in which the intents became complete. -/
  firstPick : Option Nat := none
  fullPick : Option Nat := none
  /-- The digest has been compared and the outcome waits for the boundary. -/
  decided : Bool := false
  /-- The earliest abort cause. -/
  cause : Option CollCause := none
  /-- The digest in force: cells 0 and 1. -/
  dig : Nat × Nat := (0, 0)
  slot : Nat := 0
  admitPick : Nat := 0
  /-- The firmware image whose shipped program serves it: the one that ran when it was admitted (R590). -/
  image : FwImage := {}
  /-- Core and context that hold each CTX. -/
  ctxs : List (Nat × Nat) := []
  bobbins : Nat := 0
  /-- DRAM range: stack, offset in the stack, size; cache partition in bytes. -/
  dram : Nat × Nat × Nat := (0, 0, 0)
  cache : Nat := 0
  /-- Units of a shipped program that have been worked, and CTX numbers that have executed END. -/
  worked : List Nat := []
  ended : List Nat := []
  /-- RESULT chunks sent: unit (or CTX of a user program), chunk index, and whether it has left the switch. -/
  results : List (Nat × Nat) := []
  sat : Nat := 0
  under : Nat := 0
  nan : Nat := 0
  flagged : Bool := false
  replay : Bool := false
  /-- Member images already examined for special inputs: rank × 2^40 + block. -/
  seen : List Nat := []
  /-- Pick in which the completion condition became true (R375). -/
  done : Option Nat := none
  /-- Pick of the commit; the resources return at the next boundary (R378). -/
  commitPick : Option Nat := none
  deriving DecidableEq, Repr

/-- A retained terminal record (R379): sequence, handle, cells 0 and 1 of the report. -/
structure CollKept where
  seq : Nat
  handle : Nat
  c0 : Nat
  c1 : Nat
  deriving DecidableEq, Repr

/-- A group's sequence base A (R362), the later sequences already admitted or committed, and its retained records, newest first. -/
structure GroupRec where
  base : Nat := 0
  past : List Nat := []
  kept : List CollKept := []
  deriving DecidableEq, Repr

/-- What a context is blocked on (R410, R412). -/
inductive BarWait where
  | chunk (rank idx : Nat)
  | allChunk (idx : Nat)
  | results
  | align (block : Nat)
  | finish
  deriving DecidableEq, Repr

/-- A context of a Bartas core (R400). -/
structure BarCtx where
  /-- Collective slot, and CTX within the collective. -/
  slot : Nat
  idx : Nat
  /-- Registers that differ from zero. -/
  regs : Tab Word64 := []
  pc : Nat := 0
  wait : Option BarWait := none
  wdog : Nat := 0
  /-- It was ready for at least one cycle of this pick (R416). -/
  ready : Bool := false
  /-- Scratchpad pages of its scratch and of its bobbins, in order, and pages that stage its chunks. -/
  scratch : List Nat := []
  bobs : List Nat := []
  stage : Nat := 0
  /-- Scratch size declared. -/
  size : Nat := 0
  /-- By rank: chunks below this number have been shown staged by a wait (R404, R410). -/
  shown : Tab Nat := []
  /-- Alignment exponents kept (R447): array block index, exponents; newest first. -/
  exps : List (Nat × List Int) := []
  /-- Local addresses of accumulator elements in whose computation a step has saturated (R454). -/
  satAt : List Nat := []
  /-- It has read a special input with NAN_ABORT = 1 (R454). -/
  tripped : Bool := false
  ended : Bool := false
  stopped : Bool := false
  deriving DecidableEq, Repr

/-- One byte of a core-side line buffer (R177, R178): its value, and whether the core wrote it. -/
structure LineByte where
  val : Byte := 0
  dirty : Bool := false
  deriving DecidableEq, Repr

/-- States of a Bartas core (`BAR_STATE`). -/
inductive BarState where
  | service
  | test
  | retired
  deriving DecidableEq, Repr

/-- The code of a core state. -/
def BarState.code : BarState → Nat
  | .service => 0
  | .test => 1
  | .retired => 2

/-- A Bartas core. -/
structure BarCore where
  st : BarState := .service
  ctxs : Tab BarCtx := []
  /-- The context that issued last (R400). -/
  last : Nat := 15
  /-- The 4 MiB scratchpad. -/
  pad : Memory := []
  /-- The line buffer, by DRAM address. -/
  lines : Tab LineByte := []
  /-- Declared failed in this pick (R384). -/
  failed : Bool := false
  /-- Out of its pool until scrubbed, with the pitch it then joins (R426). -/
  scrub : Bool := false
  deriving DecidableEq, Repr

/-- A loaded program (R418, R423): header fields, code words, digest. -/
structure Prog where
  pitch : Nat := 0
  flags : Nat := 0
  entry : Nat := 0
  scratch : Nat := 512
  ctxDiv : Nat := 0
  ctxMax : Nat := 1
  minM : Nat := 2
  maxM : Nat := 256
  stage : Nat := 0
  bobCtx : Nat := 0
  bobExact : Nat := 0
  bobFixed : Nat := 0
  dram : List Nat := []
  cache : Nat := 0
  wdog : Nat := 1
  code : List Nat := []
  digest : List Byte := []
  deriving DecidableEq, Repr

/-- A container being delivered in pieces (R696): pitch, bytes so far, pick of the last piece. -/
structure ProgLoad where
  pitch : Nat
  bytes : List Byte := []
  at_ : Nat := 0
  deriving DecidableEq, Repr

/-- What a scrub of Table 16.3 is about. -/
inductive ScrubKind where
  | core
  | cache
  | port
  | dram
  | tables
  deriving DecidableEq, Repr

/-- A scrub in progress: kind, unit (core, port, pitch, or stack × 65,536 + 64 MiB unit), pitch the unit leaves, start pick. -/
structure Scrub where
  kind : ScrubKind
  unit : Nat
  pitch : Nat
  start : Nat
  deriving DecidableEq, Repr

/-- States of a pitch (`PITCH_STATE_p`). -/
inductive PitchSt where
  | free
  | active
  | scrubbing
  deriving DecidableEq, Repr

/-- The code of a pitch state. -/
def PitchSt.code : PitchSt → Nat
  | .free => 0
  | .active => 1
  | .scrubbing => 2

/-- The switch. -/
structure SwState where
  c : Common := { part := .sw }
  core : Core := {}
  groups : Tab GroupRec := []
  colls : List CollRec := []
  /-- Latest member and lag of the last collective of a slot, until the next admission into it (R383). -/
  slotLag : Tab (Nat × Nat) := []
  cores : Tab BarCore := []
  /-- Package DRAM: stack × 2^36 + offset. -/
  dram : Memory := []
  /-- Stacks declared failed, and stacks declared failed in this pick (R560). -/
  stacksLost : List Nat := []
  stacksDue : List Nat := []
  progs : Tab Prog := []
  /-- Partial containers, by slot (R696). -/
  loads : Tab ProgLoad := []
  /-- Pitch states; an unlisted pitch is FREE. -/
  pitches : Tab PitchSt := [(0, .active)]
  scrubs : List Scrub := []
  deriving DecidableEq, Repr

end Sys2Proof.Machine
end

