-- ==== Sys2Proof/Machine/State.lean ====
section
/-!
DEFINITION. The whole state, the reasons a step can stop, and the state after reset.
-/

namespace Sys2Proof.Machine

/-- Why a step stops with a fault. -/
inductive Fault where
  /-- A command names a port, comb, engine, core, context, queue or slot that the part does not have (R1, R3: the spec gives no such unit). Raised by every command with such an operand. Safe. -/
  | noUnit
  deriving DecidableEq, Repr

/-- Why a command is refused. -/
inductive Refusal where
  /-- The command has no meaning in the model yet; raised by Dispatch.lean's arms only. Safe. -/
  | notModelled (mnemonic : String)
  deriving DecidableEq, Repr

/-- One switch and one end-point, and the commands that wait for them, first in, first out. -/
structure State where
  sw : SwState := {}
  ep : EpState := {}
  pending : List Instr := []
  deriving DecidableEq, Repr

/-- The state that both parts hold in common, of one part. -/
def State.common (s : State) : Part → Common
  | .sw => s.sw.c
  | .ep => s.ep.c

/-- Both parts after reset: registers at the values of their tables, ports struck and dark, the island booting, no command waiting (R743 to R745, R16). -/
def State.reset : State := {}

end Sys2Proof.Machine
end

