-- ==== Sys2Proof/Config.lean ====
section
/-!
DEFINITION. What the spec leaves to an implementation or leaves open: constants with no body, so that no proof can see a value of them.
Each is named in the assumption log (notes/assumptions/), which says which rule leaves it open.
-/

namespace Sys2Proof.Config

/-- A fresh free value: applied to the counter `State.free`, which the step advances. -/
opaque freeValue : Nat → Nat

/-- The power sum of ring-drop powers in 0.01 dBm, to the register's unit (Table 12.9 gives the sum and no rounding). -/
opaque powerSum : List Int → Int

/-- The heater code after a feed-forward change: old code, change in 0.01 GHz / 64 (R477 gives the change in frequency, and no scale of the code). -/
opaque heaterCode : Nat → Int → Nat

/-- Which set of the remote-line cache a line falls in; only the number of sets and ways is given (R159). -/
opaque rlcSet : Nat → Nat

/-- Which line of a full set a fill replaces: the line filled, the lines held (R163 leaves it open). -/
opaque rlcVictim : Nat → List Nat → Nat

/-- Which set of the shared TLB a page falls in, and which leaf of a full TLB or walk cache a new one replaces (spec/05 gives only sizes). -/
opaque tlbSet : Nat → Nat → Nat

/-- Which entry of a full translation cache a new one replaces: the number of entries held. -/
opaque tlbVictim : Nat → Nat → Nat

/-- Which clean byte a full core-side line buffer gives up, by place (R177 gives its size alone). -/
opaque lineVictim : Nat → Nat

/-- Salt, info string and output length of a key derivation, by what it derives: 0 the device identity key, 1 the compound secret, 2 the alias key (R649 names HKDF-SHA-384 and no inputs but the secrets). -/
opaque kdfInputs : Nat → List Byte × List Byte × Nat

/-- The private key that the bytes of a derivation give (R649 does not say how). -/
opaque keyScalar : List Byte → Nat

/-- The bytes of an SPDM response, whose layout is SPDM 1.2's: number of the free value drawn (R652). -/
opaque spdmMessage : Nat → List Byte

/-- A DSP0277 secured message: session, updates of its keys, number of the free value drawn, application data (R652, R678). -/
opaque securedMessage : Nat → Nat → Nat → List Byte → List Byte

/-- Result chunks due to a member on a plane where the spec does not state their number: all-to-all-v, expert dispatch and combine, user programs (R374, Table 9.11). Arguments: member record, plane. -/
opaque resultsDue : Nat → Nat → Nat

/-- The members of a collective group in rank order as an end-point knows them when it starts a descriptor: pick, group (spec/09 gives no register of an end-point that names them). -/
opaque groupMembers : Nat → Nat → List Nat

end Sys2Proof.Config
end

