-- ==== Sys2Proof/Machine/Codec.lean ====
section
/-!
DEFINITION. Packets as cells (Table 2.5, Table 2.10), the CRC-64 of a packet (R66), the CRC-32 of a flit (R518), CRC-8 of a pick frame (R303), flits as bytes (Tables 13.4 to 13.6),
link-control messages as bytes (Table 13.9), Zhevseler headers (Table 17.1).
-/

namespace Sys2Proof.Machine

/-- One bit into a CRC register of `w` bits, most significant bit first. -/
def crcBit (w poly reg : Nat) (b : Bool) : Nat :=
  let top := reg / 2 ^ (w - 1) % 2
  let shifted := reg * 2 % 2 ^ w
  if top = (if b then 0 else 1) then shifted ^^^ poly else shifted

/-- One byte into a CRC register, bit 7 first. -/
def crcByte (w poly reg : Nat) (b : Byte) : Nat :=
  [7, 6, 5, 4, 3, 2, 1, 0].foldl (fun r i => crcBit w poly r (bit b.toNat i)) reg

/-- A CRC over bytes, no bits reflected. -/
def crcBytes (w poly init xorOut : Nat) (bs : List Byte) : Nat :=
  bs.foldl (crcByte w poly) init ^^^ xorOut

/-- CRC-64, ECMA-182 polynomial, all ones in, XORed with all ones (R66). -/
def crc64 (bs : List Byte) : BitVec 64 :=
  BitVec.ofNat 64 (crcBytes 64 0x42F0E1EBA9EA3693 (2 ^ 64 - 1) (2 ^ 64 - 1) bs)

/-- CRC-32, IEEE 802.3 polynomial, not reflected (R518). -/
def crc32 (bs : List Byte) : BitVec 32 :=
  BitVec.ofNat 32 (crcBytes 32 0x04C11DB7 (2 ^ 32 - 1) (2 ^ 32 - 1) bs)

/-- CRC-8, polynomial 0x07, initial 0x00, over the 64 bits of a pick number (R303). -/
def crc8 (q : Nat) : Nat := crcBytes 8 0x07 0 0 (beBytes q 8)

/-- The 16 bytes of a cell in wire order (R8). -/
def cellBytes (c : Cell) : List Byte := beBytes c.toNat 16

/-- The flags field of a header cell, FLAG_STORE in its top bit (Table 2.5). -/
def HdrFlags.bits7 (f : HdrFlags) : Nat :=
  b2n f.flagStore * 64 + b2n f.acquire * 32 + b2n f.release * 16 + b2n f.relaxed * 8 +
  b2n f.measured * 4 + b2n f.replay * 2 + b2n f.encrypted

/-- The flags of a 7-bit field. -/
def flagsOf (v : Nat) : HdrFlags :=
  { flagStore := bit v 6, acquire := bit v 5, release := bit v 4, relaxed := bit v 3,
    measured := bit v 2, replay := bit v 1, encrypted := bit v 0 }

/-- The header cell (Table 2.5). -/
def Packet.header (p : Packet) : Cell :=
  BitVec.ofNat 128
    (p.ver % 16 * 2 ^ 124 + p.op % 256 * 2 ^ 116 + p.vc % 8 * 2 ^ 113 + p.flags.bits7 * 2 ^ 106 +
     p.src % 256 * 2 ^ 98 + p.dst % 256 * 2 ^ 90 + p.pitch % 16 * 2 ^ 86 + p.tag % 2 ^ 18 * 2 ^ 68 +
     p.len % 16 * 2 ^ 64 + p.woff % 2 ^ 52 * 2 ^ 12 + p.seq % 4096)

/-- Bits [63:0] of the check cell: key, MERGED, CMODE, COUNTER (Table 2.10). -/
def Packet.checkLow (p : Packet) : Nat :=
  p.key % 2 ^ 32 * 2 ^ 32 + p.rsvd % 2 ^ 13 * 2 ^ 19 + b2n p.merged * 2 ^ 18 + p.cmode % 4 * 2 ^ 16 + p.counter % 2 ^ 16

/-- The check cell (Table 2.10). -/
def Packet.check (p : Packet) : Cell := BitVec.ofNat 128 (p.crc.toNat * 2 ^ 64 + p.checkLow)

/-- The CRC-64 that a packet must carry: header with DST and PITCH as zero, data, authentication cell, low half of the check cell (R66). -/
def Packet.goodCrc (p : Packet) : BitVec 64 :=
  crc64 (cellBytes (Packet.header { p with dst := 0, pitch := 0 }) ++ p.data ++
    (match p.auth with | some a => cellBytes a | none => []) ++ beBytes p.checkLow 8)

/-- The packet with its CRC computed (R67). -/
def Packet.seal (p : Packet) : Packet := { p with crc := p.goodCrc }

/-- The CRC check of a final receiver (R67). -/
def Packet.crcOk (p : Packet) : Bool := p.crc == p.goodCrc

/-- Data cells of a LEN code (Table 2.6); `none` for a reserved code. -/
def lenCells : Nat → Option Nat
  | 0x0 => some 0
  | 0x4 => some 4
  | 0x8 => some 8
  | 0xC => some 12
  | 0xF => some 16
  | _ => none

/-- Smallest LEN code that holds a number of bytes (R79); 0xF for anything above 192. -/
def lenCode (n : Nat) : Nat :=
  if n = 0 then 0 else if n ≤ 64 then 4 else if n ≤ 128 then 8 else if n ≤ 192 then 0xC else 0xF

/-- Cells that a packet takes on the wire (R51, R83). -/
def Packet.cellCount (p : Packet) : Nat := 2 + p.data.length / 16 + (if p.auth.isSome then 1 else 0)

/-- Cells of a list of data bytes, 16 bytes each, lowest address first on the wire. -/
def cellsOf : Nat → List Byte → List Cell
  | 0, _ => []
  | n + 1, bs => BitVec.ofNat 128 (beNat (bs.take 16)) :: cellsOf n (bs.drop 16)

/-- The cells of a packet in order (R51). -/
def Packet.cells (p : Packet) : List Cell :=
  [p.header] ++ cellsOf (p.data.length / 16) p.data ++ p.auth.toList ++ [p.check]

/-- Data cells that follow a header cell of an opcode and LEN code (R50, R51): none for READ. -/
def dataCells (op len : Nat) : Nat := if op = 0x01 then 0 else (lenCells len).getD 0

/-- Cells that the packet opened by a header cell takes. -/
def headerSpan (h : Cell) : Nat :=
  let v := h.toNat
  2 + dataCells (bits v 123 116) (bits v 67 64) + bits v 106 106

/-- A packet from its cells, the first being the header; missing cells read as zero. -/
def packetOf (cs : List Cell) : Packet :=
  let h := (cs.headD 0).toNat
  let nd := dataCells (bits h 123 116) (bits h 67 64)
  let enc := bit h 106
  let chk := (cs.getD (1 + nd + b2n enc) 0).toNat
  { ver := bits h 127 124, op := bits h 123 116, vc := bits h 115 113, flags := flagsOf (bits h 112 106),
    src := bits h 105 98, dst := bits h 97 90, pitch := bits h 89 86, tag := bits h 85 68, len := bits h 67 64,
    woff := bits h 63 12, seq := bits h 11 0,
    data := ((cs.drop 1).take nd).flatMap cellBytes,
    auth := if enc then some (cs.getD (1 + nd) 0) else none,
    crc := BitVec.ofNat 64 (bits chk 127 64), key := bits chk 63 32, rsvd := bits chk 31 19,
    merged := bit chk 18, cmode := bits chk 17 16, counter := bits chk 15 0 }

/-- The code of a flit type (Table 13.5). -/
def FlitType.code : FlitType → Nat
  | .data => 1
  | .ctrl => 2
  | .idle => 3
  | .reserved k => k

/-- The link header of a flit (Table 13.5). -/
def Flit.headerNat (f : Flit) : Nat :=
  f.ftype.code % 16 * 2 ^ 60 + f.fseq % 4096 * 2 ^ 48 + f.ack % 4096 * 2 ^ 36 + b2n f.nak * 2 ^ 35 +
  f.cvcA % 8 * 2 ^ 32 + f.credA % 2 ^ 14 * 2 ^ 18 + f.cvcB % 8 * 2 ^ 15 + f.credB % 2 ^ 14 * 2

/-- Bytes 0 to 247 and 252 to 255 of a flit, which the CRC-32 covers (R518). -/
def Flit.covered (f : Flit) : List Byte :=
  beBytes f.headerNat 8 ++ ((f.cells ++ List.replicate (15 - f.cells.length) 0).take 15).flatMap cellBytes ++
  beBytes (f.pickLo % 2 ^ 16 * 2 ^ 16 + f.cn % 4 * 2 ^ 14) 4

/-- The flit with its CRC computed. -/
def Flit.seal (f : Flit) : Flit := { f with crc := crc32 f.covered }

/-- The CRC check of a receiver (R519). -/
def Flit.crcOk (f : Flit) : Bool := f.crc == crc32 f.covered

/-- The bytes of a link-control message (Table 13.9). -/
def LinkMsg.bytes : LinkMsg → List Byte
  | .caps c =>
    [1, 0, 0, 0, BitVec.ofNat 8 (c.lverMax % 16 * 16 + c.kind % 16),
     BitVec.ofNat 8 (b2n c.commonRef + 2 * b2n c.spread + 4 * b2n c.eyeScan)] ++ beBytes c.replayFlits 2
  | .ident i =>
    [2, 0, 0, 0] ++ beBytes i.serial 8 ++ beBytes i.port 2 ++ [BitVec.ofNat 8 i.plane, BitVec.ofNat 8 i.node,
      BitVec.ofNat 8 (b2n i.nodeValid)] ++ beBytes (i.domain % 4096) 2 ++ [BitVec.ofNat 8 (i.pitch % 16)]
  | .wire r o => [3, 0, 0, 0, BitVec.ofNat 8 r] ++ beBytes o 2
  | .creditInit g => [4, 0, 0, 0] ++ g.flatMap (fun x => beBytes (x % 2 ^ 14) 2)
  | .admission k => [5, 0, 0, 0, BitVec.ofNat 8 k]

/-- The content cells of a CTRL flit that carries a message; the rest of the content is zero (R531). -/
def LinkMsg.cells (m : LinkMsg) : List Cell :=
  cellsOf 15 (m.bytes ++ List.replicate (240 - m.bytes.length) 0)

/-- A Zhevseler packet as bytes: header (Table 17.1) and payload. -/
def zBytes (flags op tag kind index : Nat) (payload : List Byte) : List Byte :=
  beBytes 0x5A48 2 ++ [1, BitVec.ofNat 8 flags] ++ beBytes op 2 ++ beBytes (payload.length / 4) 2 ++
  beBytes tag 4 ++ beBytes (kind * 2 ^ 24 + index) 4 ++ payload

/-- A byte of a payload; zero beyond its end. -/
def pb (l : List Byte) (i : Nat) : Nat := (l.getD i 0).toNat

/-- `n` bytes of a payload from an offset, as a number, most significant first. -/
def pn (l : List Byte) (i n : Nat) : Nat := beNat ((l.drop i).take n)

/-- A notice as R671 and R672 ask: whole header, NO_REPLY = 1, the opcode, the length and target 0. -/
def noticeOk (b : List Byte) (op : Nat) : Bool :=
  pn b 0 2 == 0x5A48 && pb b 2 == 1 && pb b 3 == 2 && pn b 4 2 == op && pn b 6 2 * 4 + 16 == b.length && pn b 12 4 == 0

/-- The payload padded with zeros to a whole number of words. -/
def padWord (l : List Byte) : List Byte := l ++ List.replicate ((4 - l.length % 4) % 4) 0

end Sys2Proof.Machine
end

