-- ==== Sys2Proof/Machine/Float.lean ====
section
/-!
DEFINITION. Binary floating-point values as exact dyadic numbers, their addition, multiplication and comparison, and rounding to nearest even with subnormals kept (R106, and the base of spec/11).
-/

namespace Sys2Proof.Machine

/-- A floating-point value: a NaN, an infinity, or (−1)^neg × m × 2^e. -/
inductive Fp where
  | nan
  | inf (neg : Bool)
  | fin (neg : Bool) (m : Nat) (e : Int)
  deriving DecidableEq, Repr

/-- An IEEE-like format: widths of exponent and fraction, and bias. -/
structure FpFmt where
  ebits : Nat
  mbits : Nat
  bias : Nat
  deriving DecidableEq, Repr

/-- binary32. -/
def fp32 : FpFmt := { ebits := 8, mbits := 23, bias := 127 }

/-- bfloat16. -/
def bf16 : FpFmt := { ebits := 8, mbits := 7, bias := 127 }

/-- The value of a code. -/
def FpFmt.decode (f : FpFmt) (c : Nat) : Fp :=
  let m := c % 2 ^ f.mbits
  let e := c / 2 ^ f.mbits % 2 ^ f.ebits
  let neg := bit c (f.ebits + f.mbits)
  if e = 2 ^ f.ebits - 1 then (if m = 0 then .inf neg else .nan)
  else if e = 0 then .fin neg m (1 - (f.bias : Int) - f.mbits)
  else .fin neg (2 ^ f.mbits + m) ((e : Int) - f.bias - f.mbits)

/-- The canonical quiet NaN of a format (R106). -/
def FpFmt.qnan (f : FpFmt) : Nat := (2 ^ f.ebits - 1) * 2 ^ f.mbits + 2 ^ (f.mbits - 1)

/-- The code of an infinity. -/
def FpFmt.infCode (f : FpFmt) (neg : Bool) : Nat := b2n neg * 2 ^ (f.ebits + f.mbits) + (2 ^ f.ebits - 1) * 2 ^ f.mbits

/-- `m` divided by 2^k, rounded to the nearest integer, ties to even. -/
def rneShift (m k : Nat) : Nat :=
  let q := m / 2 ^ k
  let r := m % 2 ^ k
  if k = 0 then m
  else if 2 ^ (k - 1) < r ∨ (r = 2 ^ (k - 1) ∧ q % 2 = 1) then q + 1 else q

/-- Number of significant bits. -/
def bitLen (m : Nat) : Nat := if m = 0 then 0 else Nat.log2 m + 1

/-- The significand and exponent of m × 2^e rounded by `rnd` to a format's precision, subnormals kept. -/
def FpFmt.quantum (f : FpFmt) (m : Nat) (e : Int) : Int :=
  max (e + bitLen m - (f.mbits + 1)) (1 - (f.bias : Int) - f.mbits)

/-- The code of (−1)^neg × r × 2^q for a significand on the format's grid; overflow gives infinity. -/
def FpFmt.pack (f : FpFmt) (neg : Bool) (r : Nat) (q : Int) : Nat :=
  let r' := if 2 ^ (f.mbits + 1) ≤ r then r / 2 else r
  let q' := if 2 ^ (f.mbits + 1) ≤ r then q + 1 else q
  let s := b2n neg * 2 ^ (f.ebits + f.mbits)
  if r' < 2 ^ f.mbits then s + r'
  else
    let e := q' + f.bias + f.mbits
    if (2 ^ f.ebits - 1 : Int) ≤ e then f.infCode neg else s + e.toNat * 2 ^ f.mbits + (r' - 2 ^ f.mbits)

/-- Round a value to a format, nearest even, subnormals kept. -/
def FpFmt.encode (f : FpFmt) : Fp → Nat
  | .nan => f.qnan
  | .inf neg => f.infCode neg
  | .fin neg m e =>
    let q := f.quantum m e
    f.pack neg (if q ≤ e then m * 2 ^ (e - q).toNat else rneShift m (q - e).toNat) q

/-- A signed significand. -/
def sgn (neg : Bool) (m : Nat) : Int := if neg then -(m : Int) else m

/-- A finite value from a signed significand; zero takes the sign given. -/
def Fp.ofInt (m : Int) (e : Int) (zneg : Bool) : Fp := .fin (if m = 0 then zneg else decide (m < 0)) m.natAbs e

/-- Exact sum; opposite infinities give NaN; an exact zero is positive unless both are negative zeros. -/
def Fp.add : Fp → Fp → Fp
  | .nan, _ => .nan
  | _, .nan => .nan
  | .inf a, .inf b => if a = b then .inf a else .nan
  | .inf a, _ => .inf a
  | _, .inf b => .inf b
  | .fin a m e, .fin b n k =>
    let q := min e k
    Fp.ofInt (sgn a m * 2 ^ (e - q).toNat + sgn b n * 2 ^ (k - q).toNat) q (a && b)

/-- Exact product; zero times infinity is NaN. -/
def Fp.mul : Fp → Fp → Fp
  | .nan, _ => .nan
  | _, .nan => .nan
  | .inf a, .inf b => .inf (a != b)
  | .inf a, .fin b n _ => if n = 0 then .nan else .inf (a != b)
  | .fin a m _, .inf b => if m = 0 then .nan else .inf (a != b)
  | .fin a m e, .fin b n k => .fin (a != b) (m * n) (e + k)

/-- The opposite value. -/
def Fp.neg : Fp → Fp
  | .nan => .nan
  | .inf a => .inf (!a)
  | .fin a m e => .fin (!a) m e

/-- Strict order of two values that are not NaN, −0 below +0 (R106). -/
def Fp.below : Fp → Fp → Bool
  | .nan, _ => false
  | _, .nan => false
  | .inf a, .inf b => a && !b
  | .inf a, _ => a
  | _, .inf b => !b
  | .fin a m e, .fin b n k =>
    let q := min e k
    let x := sgn a m * 2 ^ (e - q).toNat
    let y := sgn b n * 2 ^ (k - q).toNat
    if x = y then a && !b else decide (x < y)

/-- Is a value a NaN? -/
def Fp.isNan : Fp → Bool
  | .nan => true
  | _ => false

/-- Sum of two codes, rounded once (R106). -/
def FpFmt.addCode (f : FpFmt) (a b : Nat) : Nat := f.encode ((f.decode a).add (f.decode b))

/-- The lesser of two codes (R106). -/
def FpFmt.minCode (f : FpFmt) (a b : Nat) : Nat :=
  let x := f.decode a
  let y := f.decode b
  if x.isNan && y.isNan then f.qnan else if x.isNan then b else if y.isNan then a else if y.below x then b else a

/-- The greater of two codes (R106). -/
def FpFmt.maxCode (f : FpFmt) (a b : Nat) : Nat :=
  let x := f.decode a
  let y := f.decode b
  if x.isNan && y.isNan then f.qnan else if x.isNan then b else if y.isNan then a else if x.below y then b else a

end Sys2Proof.Machine
end

