-- ==== Sys2Proof/Machine/Packets.lean ====
section
/-!
DEFINITION. What makes a packet legal (R49, R50, R53, R55, R57, R65, R79, R104) and where its first bad field lies (R761); the atomic operations (R103 to R106); building answers (R58, R61, R75, R109).
-/

namespace Sys2Proof.Machine

/-- Opcodes of Table 2.7. -/
def opRead : Nat := 0x01
/-- `WRITE`. -/
def opWrite : Nat := 0x02
/-- `WRITE_FLAG_NODE`. -/
def opFlagNode : Nat := 0x03
/-- `WRITE_FLAG_ALL`. -/
def opFlagAll : Nat := 0x04
/-- `ATOMIC`. -/
def opAtomic : Nat := 0x05
/-- `WRITE_MASKED`. -/
def opMasked : Nat := 0x06
/-- `READ_RSP`. -/
def opReadRsp : Nat := 0x10
/-- `WRITE_ACK`. -/
def opWriteAck : Nat := 0x11
/-- `ATOMIC_RSP`. -/
def opAtomicRsp : Nat := 0x12
/-- `CONTRIB`. -/
def opContrib : Nat := 0x20
/-- `RESULT`. -/
def opResult : Nat := 0x21
/-- `INTENT`. -/
def opIntent : Nat := 0x22
/-- `GRANT`. -/
def opGrant : Nat := 0x23
/-- `ABORT_NOTICE`. -/
def opAbortNotice : Nat := 0x24
/-- `ABORT`. -/
def opAbort : Nat := 0x25
/-- `DONE`. -/
def opDone : Nat := 0x26
/-- `RESEND`. -/
def opResend : Nat := 0x27
/-- `MSG_SEND`. -/
def opMsgSend : Nat := 0x30
/-- `MSG_ACK`. -/
def opMsgAck : Nat := 0x31
/-- `MGMT`. -/
def opMgmt : Nat := 0x40

/-- Requests that name memory (0x01 to 0x06). -/
def isRequest (op : Nat) : Bool := decide (1 ≤ op) && decide (op ≤ 6)

/-- Stores in the sense of R100. -/
def isStore (op : Nat) : Bool := decide (2 ≤ op) && decide (op ≤ 6)

/-- Flagged stores. -/
def isFlagged (op : Nat) : Bool := op == 3 || op == 4

/-- Masked-line opcodes (R55). -/
def isMasked (op : Nat) : Bool := op == 3 || op == 4 || op == 6

/-- Opcodes listed in Table 2.7. -/
def opListed (op : Nat) : Bool :=
  isRequest op || (decide (0x10 ≤ op) && decide (op ≤ 0x12)) || (decide (0x20 ≤ op) && decide (op ≤ 0x27)) || op == 0x30 || op == 0x31 || op == 0x40

/-- Virtual channels that an opcode's row allows (Table 2.7). -/
def vcAllowed (op vc : Nat) : Bool :=
  if isRequest op then vc == 1 || vc == 3
  else if op = 0x10 ∨ op = 0x11 ∨ op = 0x12 then vc == 2 || vc == 4
  else if op = 0x20 ∨ op = 0x22 ∨ op = 0x25 then vc == 5
  else if 0x20 ≤ op ∧ op ≤ 0x27 then vc == 6
  else if op = 0x30 ∨ op = 0x31 then vc == 7
  else vc == 0

/-- LEN codes that an opcode's row allows (Tables 2.6 and 2.7). A `READ_RSP` or `ATOMIC_RSP` carries data only with status OK. -/
def lenAllowed (p : Packet) : Bool :=
  let some4 := p.len == 4 || p.len == 8 || p.len == 0xC || p.len == 0xF
  let ok := p.woff / 2 ^ 36 == 0
  if p.op = 0x01 ∨ p.op = 0x02 ∨ p.op = 0x20 ∨ p.op = 0x21 ∨ p.op = 0x30 ∨ p.op = 0x40 then some4
  else if isMasked p.op then p.len == 8
  else if p.op = 0x05 then p.len == 4
  else if p.op = 0x10 then (if ok then some4 else p.len == 0)
  else if p.op = 0x11 ∨ p.op = 0x31 then p.len == 0
  else if p.op = 0x12 then (if ok then p.len == 4 else p.len == 0)
  else p.len == 4

/-- The number in data cell i of a packet. -/
def Packet.cell (p : Packet) (i : Nat) : Nat := beNat ((p.data.drop (16 * i)).take 16)

/-- Byte offset within the window that a request names (Table 2.8). -/
def Packet.offset (p : Packet) : Nat := p.woff % 2 ^ 48

/-- Window that a request names (Table 2.8). -/
def Packet.window (p : Packet) : Nat := p.woff / 2 ^ 48 % 16

/-- Bytes that a LEN code names. -/
def lenBytes (len : Nat) : Nat := 16 * (lenCells len).getD 0

/-- AOP of an `ATOMIC` (Table 3.2). -/
def aopOf (cell0 : Nat) : Nat := bits cell0 127 120
/-- ATYPE. -/
def atypeOf (cell0 : Nat) : Nat := bits cell0 119 116
/-- SCOPE. -/
def scopeOf (cell0 : Nat) : Nat := bits cell0 115 114
/-- FETCH. -/
def fetchOf (cell0 : Nat) : Bool := bit cell0 113

/-- Width in bytes of an ATYPE (Table 3.3); 0 for a reserved one. -/
def atypeWidth : Nat → Nat
  | 0 => 4 | 1 => 4 | 2 => 8 | 3 => 8 | 4 => 4 | 5 => 2 | 8 => 4 | 9 => 8 | 10 => 16
  | _ => 0

/-- Legal combinations of AOP and ATYPE (Table 3.4). -/
def atomLegal (aop atype : Nat) : Bool :=
  match aop with
  | 1 => [0, 2, 4, 5].contains atype
  | 2 => [0, 1, 2, 3, 4, 5].contains atype
  | 3 => [0, 1, 2, 3, 4, 5].contains atype
  | 4 => [8, 9, 10].contains atype
  | 5 => [8, 9, 10].contains atype
  | 6 => [8, 9].contains atype
  | 7 => [8, 9].contains atype
  | 8 => [8, 9].contains atype
  | _ => false

/-- The four cells of an atomic are legal (R104, R105): operation, scope, and every reserved bit zero. -/
def atomCellsLegal (c0 c1 c2 c3 : Nat) : Bool :=
  let w := atypeWidth (atypeOf c0)
  atomLegal (aopOf c0) (atypeOf c0) && scopeOf c0 != 3 && bits c0 112 0 == 0 &&
  decide (c1 < 2 ^ (8 * w)) && decide (c2 < 2 ^ (8 * w)) && c3 == 0

/-- First bad flag of a header (R49), as a bit position. -/
def badFlag (p : Packet) : Option Nat :=
  let f := p.flags
  let many := decide (1 < b2n f.acquire + b2n f.release + b2n f.relaxed)
  if f.flagStore != isFlagged p.op then some 112
  else if f.acquire && (many || !(p.op == 1 || p.op == 5)) then some 111
  else if f.release && (many || !isStore p.op) then some 110
  else if f.relaxed && many then some 109
  else if f.measured && !(p.op == 2 || p.op == 6 || p.op == 0x10) then some 108
  else if f.replay && !(isRequest p.op || p.op == 0x30) then some 107
  else if f.encrypted && dataCells p.op p.len == 0 then some 106
  else none

/-- First bad field of a packet's header other than its destination (R761), as a bit position. -/
def badHeader (p : Packet) : Option Nat :=
  if p.ver ≠ 1 then some 127
  else if !opListed p.op then some 123
  else if !vcAllowed p.op p.vc then some 115
  else badFlag p

/-- First bad field of a request from its LEN on (R50, R55, R57, R65, R104, R761): 0xFE a data cell, 0xFF the check cell. -/
def badRequest (p : Packet) : Option Nat :=
  let w := atypeWidth (atypeOf (p.cell 0))
  let bytes := if p.op = 5 then w else if isMasked p.op then 64 else lenBytes p.len
  let align := if p.op = 5 then w else 64
  if !lenAllowed p then some 67
  else if (0 < align ∧ p.offset % align ≠ 0) ∨ 4096 < p.offset % 4096 + bytes then some 59
  else if p.op = 5 ∧ !atomCellsLegal (p.cell 0) (p.cell 1) (p.cell 2) (p.cell 3) then some 0xFE
  else if isMasked p.op ∧ (bits (p.cell 4) 63 0 ≠ 0 ∨ p.cell 5 ≠ 0 ∨ p.cell 6 ≠ 0 ∨ p.cell 7 ≠ 0) then some 0xFE
  else if p.merged ∧ ¬ ((p.op = 5 ∨ p.op = 6) ∧ p.src = 0) then some 0xFF
  else if p.cmode = 3 ∨ (p.cmode ≠ 0 ∧ ¬ (p.op = 2 ∨ isMasked p.op)) then some 0xFF
  else none

/-- The legality check of step 2 of Table 2.4 for a request at node `own`: position of the first bad field. -/
def badAtHome (own : Nat) (p : Packet) : Option Nat :=
  match badHeader p with
  | some k => some k
  | none => if p.dst ≠ own then some 97 else badRequest p

/-- Mask of a masked-line packet: bit i selects byte i (R55). -/
def Packet.mask (p : Packet) : Nat := bits (p.cell 4) 127 64

/-- Number of ones in the low `n` bits of a number. -/
def ones (v : Nat) : Nat → Nat
  | 0 => 0
  | n + 1 => b2n (bit v n) + ones v n

/-- What a counted write adds to its counter (R65). -/
def Packet.countAdd (p : Packet) : Nat :=
  let masked := isMasked p.op
  match p.cmode with
  | 1 => if masked then ones p.mask 64 else p.data.length
  | 2 => if masked then (if p.mask = 0 then 0 else 1) else p.data.length / 64
  | _ => 0

/-- Signed value of an operand of `w` bytes. -/
def sval (w v : Nat) : Int := untwos (8 * w) v

/-- The value that an atomic stores (Table 3.4, R106): old value, operand, compare value, all of the type's width. -/
def atomStore (aop atype old x cmp : Nat) : Nat :=
  let w := atypeWidth atype
  let signed := atype == 0 || atype == 2
  let fmt := if atype = 5 then bf16 else fp32
  let isFp := atype == 4 || atype == 5
  match aop with
  | 1 => if isFp then fmt.addCode old x else (old + x) % 2 ^ (8 * w)
  | 2 => if isFp then fmt.minCode old x else if signed then (if sval w x < sval w old then x else old) else min old x
  | 3 => if isFp then fmt.maxCode old x else if signed then (if sval w old < sval w x then x else old) else max old x
  | 4 => x
  | 5 => if old = cmp then x else old
  | 6 => old &&& x
  | 7 => old ||| x
  | 8 => old ^^^ x
  | _ => old

/-- The cells of an `ATOMIC_RSP` (Table 3.6) as data bytes. -/
def atomRspData (old : Nat) (cmpOk combined fromTable : Bool) : List Byte :=
  beBytes old 16 ++ beBytes (b2n cmpOk + 2 * b2n combined + 4 * b2n fromTable) 16 ++ List.replicate 32 0

/-- Status codes (Table 2.9, R142). -/
def stOk : Nat := 0x0000
/-- OK_DUPLICATE. -/
def stDup : Nat := 0x0001
/-- NODE_ABSENT. -/
def stAbsent : Nat := 0x0010
/-- FENCED. -/
def stFenced : Nat := 0x0011
/-- DOMAIN_UNREACHABLE. -/
def stUnreachable : Nat := 0x0012
/-- MALFORMED. -/
def stMalformed : Nat := 0x0020
/-- WINDOW_DISABLED. -/
def stWindow : Nat := 0x0021
/-- PITCH_MISMATCH. -/
def stPitch : Nat := 0x0022
/-- KEY_MISMATCH. -/
def stKey : Nat := 0x0023
/-- PERMISSION. -/
def stPerm : Nat := 0x0024
/-- BOUNDS. -/
def stBounds : Nat := 0x0025
/-- COUNTER_FAULT. -/
def stCounter : Nat := 0x0026
/-- ADDRESS_FAULT, local. -/
def stAddress : Nat := 0x0027
/-- POISONED. -/
def stPoison : Nat := 0x0030
/-- QUEUE_FULL. -/
def stFull : Nat := 0x0040
/-- QUEUE_DISABLED. -/
def stDisabled : Nat := 0x0041
/-- TIMEOUT, local. -/
def stTimeout : Nat := 0x0080

/-- Codes listed in Table 2.9. -/
def statusListed (k : Nat) : Bool :=
  [0, 1, 0x10, 0x11, 0x12, 0x20, 0x21, 0x22, 0x23, 0x24, 0x25, 0x26, 0x27, 0x30, 0x40, 0x41].contains k

/-- Status code of a response (Table 2.8). -/
def Packet.status (p : Packet) : Nat := bits p.woff 51 36

/-- Status detail of a response (Table 2.8). -/
def Packet.detail (p : Packet) : Nat := bits p.woff 35 4

/-- WOFF of a response with a status and a detail (Table 2.8). -/
def rspWoff (status detail : Nat) : Nat := status % 2 ^ 16 * 2 ^ 36 + detail % 2 ^ 32 * 16

/-- Opcode of the answer to a request (Table 2.7). -/
def answerOp (op : Nat) : Nat := if op = 1 then 0x10 else if op = 5 then 0x12 else if op = 0x30 then 0x31 else 0x11

/-- The response to a request (R54, R58, R61): SRC and DST exchanged, TAG and SEQ echoed. -/
def respond (q : Packet) (pitch status detail : Nat) (data : List Byte) : Packet :=
  Packet.seal
    { op := answerOp q.op, vc := if q.vc = 3 then 4 else 2, src := q.dst, dst := q.src, pitch := pitch, tag := q.tag,
      len := lenCode data.length, woff := rspWoff status detail, seq := q.seq, data := data }

/-- Destination domain, source domain, queue and length of a `MSG_SEND` (Table 2.8). -/
def Packet.msgDstDomain (p : Packet) : Nat := bits p.woff 51 40
/-- Source domain of a `MSG_SEND`. -/
def Packet.msgSrcDomain (p : Packet) : Nat := bits p.woff 39 28
/-- Receive queue of a `MSG_SEND`. -/
def Packet.msgQueue (p : Packet) : Nat := bits p.woff 27 20
/-- Length in bytes of a `MSG_SEND`. -/
def Packet.msgLen (p : Packet) : Nat := bits p.woff 19 12 + 1

/-- The `MSG_ACK` to a `MSG_SEND` (R75). -/
def msgAnswer (q : Packet) (status : Nat) : Packet :=
  Packet.seal
    { op := opMsgAck, vc := 7, src := q.dst, dst := q.src, pitch := q.pitch, tag := q.tag,
      woff := status % 2 ^ 16 * 2 ^ 36 + q.msgQueue * 2 ^ 28 + q.msgSrcDomain * 2 ^ 16 + q.msgDstDomain * 16, seq := q.seq }

/-- Destination domain of a `MSG_ACK` (R75). -/
def Packet.ackDomain (p : Packet) : Nat := bits p.woff 27 16
/-- Source domain of a `MSG_ACK`. -/
def Packet.ackFrom (p : Packet) : Nat := bits p.woff 15 4

/-- The length rules of a message (R79). -/
def msgLenOk (p : Packet) : Bool := decide (p.msgLen ≤ lenBytes p.len) && lenCode p.msgLen == p.len

/-- A `MGMT` packet that carries a Zhevseler packet (R62): target 0 the switch, 1 the node in DST. -/
def mgmtPacket (src dst pitch target : Nat) (body : List Byte) : Packet :=
  let len := lenCode body.length
  Packet.seal
    { op := opMgmt, vc := 0, src := src, dst := dst, pitch := pitch, len := len,
      woff := target % 16 * 2 ^ 48 + (body.length - 1) % 256 * 2 ^ 40,
      data := body ++ List.replicate (lenBytes len - body.length) 0 }

/-- Target of a `MGMT` packet (Table 2.8). -/
def Packet.mgmtTarget (p : Packet) : Nat := bits p.woff 51 48

/-- The Zhevseler packet that a `MGMT` packet carries. -/
def Packet.mgmtBody (p : Packet) : List Byte := p.data.take (bits p.woff 47 40 + 1)

/-- The bytes of a masked line: 64 bytes of the line, the mask cell (R55), three reserved cells. -/
def maskedData (line : List Byte) (mask : Nat) : List Byte :=
  line ++ beBytes (mask % 2 ^ 64 * 2 ^ 64) 16 ++ List.replicate 48 0

end Sys2Proof.Machine
end

