-- ==== Sys2Proof/Machine/RegTable.lean ====
section
/-!
DEFINITION. The registers of both parts: one row per register of the register tables of spec/ (Tables 2.2, 3.8, 3.16, 4.5, 5.17 to 5.21, 6.13, 7.9, 7.10, 8.11 to 8.18, 9.15 to 9.17,
10.11 to 10.13, 11.9, 12.12 to 12.16, 13.14 to 13.18, 14.9 to 14.11, 15.7 to 15.9, 16.12 to 16.14, 17.10, 18.3 to 18.11).
A row gives the address of the register (an array of one or two indexes), the masks of its RW, WO and WP fields (OPEN of a measurement slot counts in both of the first two, since writing 1 resets the slot even where it reads 1), whether it is an RE register, its reset value,
its saturating fields (R723), when it is staged-only (Table 18.5), whether a write acts from the next pick boundary (R46, R345, R704) and its slow domain (Table 18.2).
-/

namespace Sys2Proof.Machine

/-- When a register changes only through a staged set (Table 18.5). -/
inductive StagedOnly where
  | never
  | always
  | admitted
  deriving DecidableEq, Repr

/-- The slow domain a WP register belongs to (Table 18.2). -/
inductive SlowDomain where
  | none
  | photonic
  | comb
  | dram
  deriving DecidableEq, Repr

/-- One register, or an array of `n` by `m` registers at `base + i * stride + j * step`. -/
structure RegRow where
  name : String
  base : Nat
  n : Nat := 1
  stride : Nat := 4
  m : Nat := 1
  step : Nat := 4
  rw : Nat := 0
  wo : Nat := 0
  wp : Nat := 0
  re : Bool := false
  reset : Nat := 0
  /-- Reset values of single entries that differ from `reset`, by index `i * m + j`. -/
  except : List (Nat × Nat) := []
  sat : List (Nat × Nat) := []
  staged : StagedOnly := .never
  edge : Bool := false
  slow : SlowDomain := .none
  deriving DecidableEq, Repr

/-- Register rows of the switch, part 1, in address order. -/
def swRegs1 : List RegRow := [
  { name := "ID_PART", base := 0x0 },
  { name := "ID_STEPPING", base := 0x4 },
  { name := "ID_SERIAL_LO", base := 0x8 },
  { name := "ID_SERIAL_HI", base := 0xc },
  { name := "ID_VERSIONS", base := 0x10 },
  { name := "ID_MAC_A_LO", base := 0x14 },
  { name := "ID_MAC_A_HI", base := 0x18 },
  { name := "ID_MAC_B_LO", base := 0x1c },
  { name := "ID_MAC_B_HI", base := 0x20 },
  { name := "ID_HOLE_CNT", base := 0x24, sat := [(15, 0), (31, 16)] },
  { name := "ID_CNT_CLEAR", base := 0x28, wo := 0xfffff001 },
  { name := "ID_STATUS", base := 0x2c },
  { name := "GEN_CAPS_0", base := 0x40 },
  { name := "GEN_CAPS_i", base := 0x44, n := 3, stride := 4 },
  { name := "PICK_NOW_LO", base := 0x10000 },
  { name := "PICK_NOW_HI", base := 0x10004 },
  { name := "PICK_STATUS", base := 0x10008 },
  { name := "PICK_CTRL", base := 0x1000c, rw := 1, edge := true },
  { name := "PICK_PHASE_A", base := 0x10010 },
  { name := "PICK_PHASE_B", base := 0x10014 },
  { name := "PICK_EVENT", base := 0x10018, re := true },
  { name := "PICK_HOLD_TIME", base := 0x1001c, sat := [(31, 0)] },
  { name := "PICK_FRAME_ERR", base := 0x10020, sat := [(15, 0), (31, 16)] },
  { name := "QUIET_START_LO_j", base := 0x10040, n := 4, stride := 0x10, rw := 0xffffffff, staged := .admitted },
  { name := "QUIET_START_HI_j", base := 0x10044, n := 4, stride := 0x10, rw := 0xffffffff, staged := .admitted },
  { name := "QUIET_CTRL_j", base := 0x10048, n := 4, stride := 0x10, rw := 0xffff1f7f, staged := .admitted },
  { name := "BIV_STATUS", base := 0x20000 },
  { name := "BIV_CTRL", base := 0x20004, rw := 0x71, reset := 0x30, staged := .admitted },
  { name := "BIV_EVENT", base := 0x20008, re := true },
  { name := "BIV_WAKE_TIME", base := 0x2000c, sat := [(15, 0)] },
  { name := "BIV_SENSOR_SEL", base := 0x20010, rw := 0xff },
  { name := "BIV_SENSOR_MED", base := 0x20014 },
  { name := "BIV_SENSOR_FILT", base := 0x20018 },
  { name := "PWR_STATUS", base := 0x40000 },
  { name := "PWR_NOW", base := 0x40004 },
  { name := "PWR_CAP_NOW", base := 0x40008 },
  { name := "PWR_FLOOR", base := 0x4000c },
  { name := "PWR_GATE", base := 0x40010 },
  { name := "PWR_LEASE_LEFT", base := 0x40014 },
  { name := "PWR_ORPHAN", base := 0x40018, rw := 0xffff, reset := 0x2ee0, staged := .admitted } ]

/-- Register rows of the switch, part 2, in address order. -/
def swRegs2 : List RegRow := [
  { name := "PWR_RESERVE", base := 0x4001c, rw := 0x7f, reset := 8, staged := .admitted },
  { name := "PWR_ALERT_HOLD", base := 0x40020, rw := 0xffff, reset := 0x2710, staged := .admitted },
  { name := "PWR_EVENT", base := 0x40024, re := true },
  { name := "SUPPLY_VAUX", base := 0x40028 },
  { name := "SUPPLY_V12", base := 0x4002c },
  { name := "THERM_STATUS", base := 0x40040 },
  { name := "THERM_RAMP", base := 0x40044, rw := 0x7fff, reset := 0x2004, staged := .admitted },
  { name := "THERM_HWM", base := 0x40048 },
  { name := "THERM_EVENT", base := 0x4004c, re := true },
  { name := "SEC_STATUS", base := 0x80000 },
  { name := "SEC_SVN", base := 0x80004 },
  { name := "SEC_KEY_PHASE", base := 0x80008, rw := 0xffff, staged := .always },
  { name := "SEC_AUTH_FAIL", base := 0x8000c, sat := [(31, 0)] },
  { name := "SEC_KEY_AGE", base := 0x80010 },
  { name := "SEC_EVENT", base := 0x80014, re := true },
  { name := "SEC_BOOT_DIGEST_j", base := 0x80040, n := 12, stride := 4 },
  { name := "SEC_DEVID_HASH_j", base := 0x80080, n := 12, stride := 4 },
  { name := "PORT_LINK_CTRL", base := 0x100000, n := 288, stride := 0x1000, rw := 7, reset := 7, staged := .admitted },
  { name := "PORT_LINK_STATUS", base := 0x100004, n := 288, stride := 0x1000 },
  { name := "PORT_LINK_EVENT", base := 0x100008, n := 288, stride := 0x1000, re := true },
  { name := "PORT_LINK_CMD", base := 0x10000c, n := 288, stride := 0x1000, wo := 0x1f },
  { name := "PORT_LINK_CFG", base := 0x100010, n := 288, stride := 0x1000, rw := 0xffff0fff, reset := 0x80005e },
  { name := "PORT_FLIT_ERR", base := 0x100014, n := 288, stride := 0x1000, sat := [(15, 0), (31, 16)] },
  { name := "PORT_CRC_ERR", base := 0x100018, n := 288, stride := 0x1000, sat := [(31, 0)] },
  { name := "PORT_VER_ERR", base := 0x10001c, n := 288, stride := 0x1000, sat := [(31, 0)] },
  { name := "PORT_CHECK_CNT", base := 0x100020, n := 288, stride := 0x1000, sat := [(15, 0), (31, 16)] },
  { name := "PORT_DELAY", base := 0x100024, n := 288, stride := 0x1000 },
  { name := "PORT_ECHO_MISS", base := 0x100028, n := 288, stride := 0x1000, sat := [(31, 16)] },
  { name := "PORT_PICK_MISMATCH", base := 0x10002c, n := 288, stride := 0x1000, sat := [(31, 0)] },
  { name := "PORT_FAR_SERIAL_LO", base := 0x100030, n := 288, stride := 0x1000 },
  { name := "PORT_FAR_SERIAL_HI", base := 0x100034, n := 288, stride := 0x1000 },
  { name := "PORT_FAR_ID", base := 0x100038, n := 288, stride := 0x1000 },
  { name := "PORT_FAR_DOMAIN", base := 0x10003c, n := 288, stride := 0x1000 },
  { name := "PORT_WIRE_SERIAL_LO", base := 0x100040, n := 288, stride := 0x1000, rw := 0xffffffff, staged := .admitted },
  { name := "PORT_WIRE_SERIAL_HI", base := 0x100044, n := 288, stride := 0x1000, rw := 0xffffffff, staged := .admitted },
  { name := "PORT_WIRE_FAR", base := 0x100048, n := 288, stride := 0x1000, rw := 0x8fff0fff, staged := .admitted },
  { name := "PORT_LINK_ALARM", base := 0x10004c, n := 288, stride := 0x1000 },
  { name := "PORT_CRED_v", base := 0x100050, n := 288, stride := 0x1000, m := 8, step := 4 },
  { name := "PORT_LANE_SEL", base := 0x100070, n := 288, stride := 0x1000, rw := 0xf3f },
  { name := "PORT_LANE_DATA", base := 0x100074, n := 288, stride := 0x1000 } ]

/-- Register rows of the switch, part 3, in address order. -/
def swRegs3 : List RegRow := [
  { name := "PORT_EYE_CTRL", base := 0x100080, n := 288, stride := 0x1000, rw := 0x77f, reset := 0x440 },
  { name := "PORT_EYE_CMD", base := 0x100084, n := 288, stride := 0x1000, wo := 3 },
  { name := "PORT_EYE_STATUS", base := 0x100088, n := 288, stride := 0x1000 },
  { name := "PORT_EYE_MAP_SEL", base := 0x10008c, n := 288, stride := 0x1000, rw := 0xfff },
  { name := "PORT_EYE_MAP_DATA", base := 0x100090, n := 288, stride := 0x1000, sat := [(15, 0)] },
  { name := "PORT_SRC_MISMATCH", base := 0x100300, n := 288, stride := 0x1000, sat := [(31, 0)] },
  { name := "PORT_PITCH_MISMATCH", base := 0x100304, n := 288, stride := 0x1000, sat := [(31, 0)] },
  { name := "PORT_SELVEDGE_VIOL", base := 0x100308, n := 288, stride := 0x1000, sat := [(31, 0)] },
  { name := "PORT_FENCED_CNT", base := 0x10030c, n := 288, stride := 0x1000, sat := [(31, 0)] },
  { name := "PORT_NODE_ABSENT_CNT", base := 0x100310, n := 288, stride := 0x1000, sat := [(31, 0)] },
  { name := "PORT_OUT_DROP", base := 0x100314, n := 288, stride := 0x1000, sat := [(31, 0)] },
  { name := "PORT_BUF_PRIV", base := 0x100318, n := 288, stride := 0x1000 },
  { name := "PORT_BUF_COMMON", base := 0x10031c, n := 288, stride := 0x1000 },
  { name := "PORT_CAST_PITCH_DROP", base := 0x100320, n := 288, stride := 0x1000, sat := [(31, 0)] },
  { name := "PORT_E2E_CRC_ERR", base := 0x100324, n := 288, stride := 0x1000, sat := [(31, 0)] },
  { name := "PORT_EGR_CTRL", base := 0x100340, n := 288, stride := 0x1000, rw := 0x7f, reset := 0x5a, edge := true },
  { name := "PORT_SK_IN", base := 0x100344, n := 288, stride := 0x1000 },
  { name := "PORT_SK_OUT", base := 0x100348, n := 288, stride := 0x1000 },
  { name := "PORT_SK_STATUS", base := 0x10034c, n := 288, stride := 0x1000 },
  { name := "PORT_SK_OVERRUN", base := 0x100350, n := 288, stride := 0x1000, sat := [(31, 0)] },
  { name := "PORT_CN_THRESH", base := 0x100354, n := 288, stride := 0x1000, rw := 0xffff, reset := 0x400, edge := true },
  { name := "PORT_CN_SENT", base := 0x100358, n := 288, stride := 0x1000, sat := [(31, 0)] },
  { name := "PORT_GATE_w", base := 0x100360, n := 288, stride := 0x1000, m := 8, step := 4, rw := 0x3ffbffff, reset := 0x40000, staged := .admitted },
  { name := "PORT_DRR_q", base := 0x100380, n := 288, stride := 0x1000, m := 8, step := 4, rw := 0x1fff, reset := 0x80, edge := true },
  { name := "PORT_SELV_QMAP_LO", base := 0x1003a0, n := 288, stride := 0x1000, rw := 0x77777777, reset := 0x76543210, edge := true },
  { name := "PORT_SELV_QMAP_HI", base := 0x1003a4, n := 288, stride := 0x1000, rw := 0x77777777, reset := 0x76543210, edge := true },
  { name := "PORT_PSHP_p", base := 0x1003c0, n := 288, stride := 0x1000, m := 16, step := 4, rw := 0xfff1fff, edge := true },
  { name := "PE_STATUS", base := 0x300000, n := 18, stride := 0x1000 },
  { name := "PE_CTRL", base := 0x300004, n := 18, stride := 0x1000, wp := 1, reset := 1, slow := .photonic },
  { name := "PE_SWAP", base := 0x300008, n := 18, stride := 0x1000, wp := 0x37, staged := .admitted, slow := .photonic },
  { name := "PE_EVENT", base := 0x30000c, n := 18, stride := 0x1000, re := true },
  { name := "PE_TEMP_s", base := 0x300010, n := 18, stride := 0x1000, m := 8, step := 4 },
  { name := "PE_SLIP_CNT", base := 0x300030, n := 18, stride := 0x1000, sat := [(15, 0), (31, 16)] },
  { name := "PE_WRITE_DROP", base := 0x300034, n := 18, stride := 0x1000, sat := [(31, 0)] },
  { name := "PE_IND_SEL", base := 0x300038, n := 18, stride := 0x1000, wp := 0xff3f, slow := .photonic },
  { name := "PE_IND_DATA", base := 0x30003c, n := 18, stride := 0x1000 },
  { name := "PE_PORT_STATE_p", base := 0x300040, n := 18, stride := 0x1000, m := 16, step := 0x20 },
  { name := "PE_PORT_TXPWR_p", base := 0x300044, n := 18, stride := 0x1000, m := 16, step := 0x20 },
  { name := "PE_PORT_RXPWR_p", base := 0x300048, n := 18, stride := 0x1000, m := 16, step := 0x20 },
  { name := "PE_PORT_MARGIN_p", base := 0x30004c, n := 18, stride := 0x1000, m := 16, step := 0x20 } ]

/-- Register rows of the switch, part 4, in address order. -/
def swRegs4 : List RegRow := [
  { name := "PE_PORT_TXCFG_p", base := 0x300050, n := 18, stride := 0x1000, m := 16, step := 0x20, wp := 0x3f0f3f, reset := 0x380428, slow := .photonic },
  { name := "PE_PORT_FF_p", base := 0x300054, n := 18, stride := 0x1000, m := 16, step := 0x20, wp := 0x7fff, slow := .photonic },
  { name := "PE_PORT_MODE_p", base := 0x300058, n := 18, stride := 0x1000, m := 16, step := 0x20, wp := 3, slow := .photonic },
  { name := "PE_PORT_LOSS_p", base := 0x30005c, n := 18, stride := 0x1000, m := 16, step := 0x20, re := true },
  { name := "COMB_STATUS", base := 0x400000, n := 90, stride := 0x1000 },
  { name := "COMB_CTRL", base := 0x400004, n := 90, stride := 0x1000, wp := 1, reset := 1, slow := .comb },
  { name := "COMB_OUT", base := 0x400008, n := 90, stride := 0x1000 },
  { name := "COMB_BIAS", base := 0x40000c, n := 90, stride := 0x1000 },
  { name := "COMB_BIAS_PCT", base := 0x400010, n := 90, stride := 0x1000 },
  { name := "COMB_SETPOINT", base := 0x400014, n := 90, stride := 0x1000, wp := 0xffff, slow := .comb },
  { name := "COMB_LOCK_ERR", base := 0x400018, n := 90, stride := 0x1000 },
  { name := "COMB_EVENT", base := 0x40001c, n := 90, stride := 0x1000, re := true },
  { name := "COMB_HOURS", base := 0x400020, n := 90, stride := 0x1000, sat := [(31, 0)] },
  { name := "COMB_WRITE_DROP", base := 0x400024, n := 90, stride := 0x1000, sat := [(31, 0)] },
  { name := "CORE_STATUS", base := 0x500000 },
  { name := "CORE_SHAFT_EVENT", base := 0x500004, re := true },
  { name := "CORE_BUF_FREE", base := 0x500008 },
  { name := "CORE_SHAFT_STATE_s", base := 0x500010, n := 9, stride := 0x10 },
  { name := "CORE_SHAFT_ERR_s", base := 0x500014, n := 9, stride := 0x10, sat := [(15, 0), (31, 16)] },
  { name := "CORE_SHAFT_UNITS_s", base := 0x500018, n := 9, stride := 0x10 },
  { name := "CORE_REED_SKIP", base := 0x5000c0, sat := [(31, 0)] },
  { name := "CORE_REED_EVENT", base := 0x5000c4, re := true },
  { name := "CAL_STATUS", base := 0x5000d0 },
  { name := "CAL_EVENT", base := 0x5000d4, re := true },
  { name := "CORE_PITCH_GUAR_p", base := 0x501000, n := 16, stride := 0x10, rw := 0x3ffff, staged := .admitted },
  { name := "CORE_PITCH_LIMIT_p", base := 0x501004, n := 16, stride := 0x10, rw := 0x3ffff, reset := 0x30000, staged := .admitted },
  { name := "CORE_PITCH_USE_p", base := 0x501008, n := 16, stride := 0x10 },
  { name := "CORE_HL_CTRL", base := 0x502000, rw := 1, reset := 1, staged := .admitted },
  { name := "CORE_HL_ACTIVE", base := 0x502004 },
  { name := "CORE_HL_BATCHES", base := 0x502008, sat := [(31, 0)] },
  { name := "CORE_HL_MEMBERS", base := 0x50200c, sat := [(31, 0)] },
  { name := "CORE_HL_FORGOT", base := 0x502010, sat := [(31, 0)] },
  { name := "CORE_HL_EVENT", base := 0x502014, re := true },
  { name := "LINK_SWITCH_ID", base := 0x503000, rw := 0x7fff, staged := .admitted },
  { name := "LINK_WIRE_EVENT", base := 0x503004, re := true },
  { name := "LINK_WIRE_PAIR", base := 0x503008 },
  { name := "CORE_ALIAS_i", base := 0x504000, n := 256, stride := 4, rw := 0x800000ff, reset := 0x80000000, staged := .admitted },
  { name := "CORE_CAST_STALL_b", base := 0x505000, n := 32, stride := 4, sat := [(31, 0)] },
  { name := "CAL_RESV_A_r", base := 0x510000, n := 32, stride := 0x1000, m := 128, step := 8, rw := 0xfffff1, staged := .admitted },
  { name := "CAL_RESV_B_r", base := 0x510004, n := 32, stride := 0x1000, m := 128, step := 8, rw := 0x1fff1fff, staged := .admitted } ]

/-- Register rows of the switch, part 5, in address order. -/
def swRegs5 : List RegRow := [
  { name := "BAR_STATE", base := 0x600000, n := 64, stride := 0x1000 },
  { name := "BAR_PITCH", base := 0x600004, n := 64, stride := 0x1000, rw := 0xf1, staged := .always },
  { name := "BAR_ERR", base := 0x600008, n := 64, stride := 0x1000, sat := [(15, 0), (31, 16)] },
  { name := "BAR_EVENT", base := 0x60000c, n := 64, stride := 0x1000, re := true },
  { name := "BAR_INSTR", base := 0x600010, n := 64, stride := 0x1000 },
  { name := "BAR_VBYTES", base := 0x600014, n := 64, stride := 0x1000, sat := [(31, 0)] },
  { name := "BAR_PAGES", base := 0x600018, n := 64, stride := 0x1000 },
  { name := "BAR_CTX_c", base := 0x600040, n := 64, stride := 0x1000, m := 16, step := 0x10 },
  { name := "BAR_CTX_PC_c", base := 0x600044, n := 64, stride := 0x1000, m := 16, step := 0x10 },
  { name := "BAR_CTX_WDOG_c", base := 0x600048, n := 64, stride := 0x1000, m := 16, step := 0x10 },
  { name := "BAR_SLOT_s", base := 0x680000, n := 64, stride := 0x40 },
  { name := "BAR_SLOT_MEMBERS_s", base := 0x680004, n := 64, stride := 0x40 },
  { name := "BAR_SLOT_DIGEST_s_j", base := 0x680010, n := 64, stride := 0x40, m := 12, step := 4 },
  { name := "BAR_CODE_FREE", base := 0x681000 },
  { name := "BAR_LOAD_EVENT", base := 0x681004, re := true },
  { name := "COLL_STATUS", base := 0x700000 },
  { name := "COLL_CORES", base := 0x700004 },
  { name := "COLL_RETIRED_LO", base := 0x700008 },
  { name := "COLL_RETIRED_HI", base := 0x70000c },
  { name := "COLL_EVENT", base := 0x700010, re := true },
  { name := "COLL_LATE_DROP", base := 0x700014, sat := [(31, 0)] },
  { name := "COLL_DUP_DROP", base := 0x700018, sat := [(31, 0)] },
  { name := "COLL_INTENT_REFUSED", base := 0x70001c, sat := [(31, 0)] },
  { name := "COLL_REPLAYS", base := 0x700020, sat := [(31, 0)] },
  { name := "COLL_MSEL", base := 0x700040, rw := 0xff03ff },
  { name := "COLL_MFIRST", base := 0x700044 },
  { name := "COLL_MLAST", base := 0x700048 },
  { name := "COLL_MCHUNKS", base := 0x70004c },
  { name := "COLL_POOL_p", base := 0x701000, n := 16, stride := 0x10 },
  { name := "COLL_HANDLE_A_h", base := 0x710000, n := 4096, stride := 8, rw := 0xff03fff1, staged := .always },
  { name := "COLL_HANDLE_B_h", base := 0x710004, n := 4096, stride := 8, rw := 0xffffffff, reset := 0x3e8, staged := .always },
  { name := "COLL_SLOT_A_s", base := 0x720000, n := 1024, stride := 0x20 },
  { name := "COLL_SLOT_SEQ_s", base := 0x720004, n := 1024, stride := 0x20 },
  { name := "COLL_SLOT_ADMIT_s", base := 0x720008, n := 1024, stride := 0x20 },
  { name := "COLL_SLOT_CORES_s", base := 0x72000c, n := 1024, stride := 0x20 },
  { name := "COLL_SLOT_LAG_s", base := 0x720010, n := 1024, stride := 0x20 },
  { name := "COLL_SLOT_BOB_s", base := 0x720014, n := 1024, stride := 0x20 },
  { name := "COLL_GROUP_g", base := 0x740000, n := 1024, stride := 0x40, rw := 0xf1, staged := .always },
  { name := "COLL_GROUP_NEXT_g", base := 0x740004, n := 1024, stride := 0x40 },
  { name := "COLL_GROUP_MEM_g_j", base := 0x740010, n := 1024, stride := 0x40, m := 8, step := 4, rw := 0xffffffff, staged := .always } ]

/-- Register rows of the switch, part 6, in address order. -/
def swRegs6 : List RegRow := [
  { name := "DRAM_STATUS", base := 0x800000 },
  { name := "DRAM_EVENT", base := 0x800004, re := true },
  { name := "DRAM_CFG", base := 0x800008, wp := 0xff02, reset := 0x1802, slow := .dram },
  { name := "DRAM_WRITE_DROP", base := 0x80000c, sat := [(31, 0)] },
  { name := "DRAM_ECC_s", base := 0x800010, n := 2, stride := 4, sat := [(15, 0), (31, 16)] },
  { name := "PITCH_CTRL_p", base := 0x900000, n := 16, stride := 0x20, rw := 0xf, except := [(0, 0x1)], staged := .always },
  { name := "PITCH_STATE_p", base := 0x900004, n := 16, stride := 0x20 },
  { name := "PITCH_DRAM0_p", base := 0x900008, n := 16, stride := 0x20, rw := 0x1ff01ff, staged := .always },
  { name := "PITCH_DRAM1_p", base := 0x90000c, n := 16, stride := 0x20, rw := 0x1ff01ff, staged := .always },
  { name := "PITCH_CACHE_p", base := 0x900010, n := 16, stride := 0x20, rw := 0x7ff, staged := .always },
  { name := "PITCH_SEAL_LO_p", base := 0x900014, n := 16, stride := 0x20, rw := 0xffffffff, staged := .always },
  { name := "PITCH_SEAL_HI_p", base := 0x900018, n := 16, stride := 0x20, rw := 0xffffffff, staged := .always },
  { name := "PITCH_KEYS_p", base := 0x90001c, n := 16, stride := 0x20 },
  { name := "PITCH_PORT_MAP_j", base := 0x900200, n := 32, stride := 4, rw := 0xffffffff, staged := .always },
  { name := "PITCH_EVENT", base := 0x900280, re := true },
  { name := "PITCH_SCRUB_TIME", base := 0x900284 },
  { name := "PITCH_XDROP", base := 0x900288, sat := [(31, 0)] },
  { name := "RES_STATUS", base := 0xa00000 },
  { name := "RES_EVENT", base := 0xa00004, re := true },
  { name := "RES_PE_FAILED", base := 0xa00008 },
  { name := "RES_ROW_REPAIR", base := 0xa0000c, sat := [(15, 0)] },
  { name := "GUY_DUP_DROP", base := 0xa00010, sat := [(31, 0)] },
  { name := "GUY_LINK_EVENT", base := 0xa00014, re := true },
  { name := "GUY_IPV4_A", base := 0xa00018, rw := 0xffffffff, edge := true },
  { name := "GUY_IPV4_B", base := 0xa0001c, rw := 0xffffffff, edge := true },
  { name := "GUY_CMD_CNT", base := 0xa00020, sat := [(31, 0)] },
  { name := "GUY_REJECT", base := 0xa00024, sat := [(31, 0)] },
  { name := "STAGE_EVENT", base := 0xa00028, re := true },
  { name := "MEMB_EPOCH", base := 0xa00040, rw := 0xffffffff, staged := .always },
  { name := "MEMB_FENCED_j", base := 0xa00044, n := 8, stride := 4, rw := 0xffffffff, staged := .always },
  { name := "MEMB_SUSPECT_j", base := 0xa00080, n := 8, stride := 4 },
  { name := "LEDGER_CTRL", base := 0xa00100, rw := 0xff03, reset := 0x1903 },
  { name := "LEDGER_STATUS", base := 0xa00104, sat := [(23, 16)] },
  { name := "LEDGER_AVS", base := 0xa00108 },
  { name := "LEDGER_SLACK", base := 0xa0010c },
  { name := "LEDGER_PROJ_q", base := 0xa00110, n := 5, stride := 4 },
  { name := "LEDGER_EVENT", base := 0xa00130, re := true },
  { name := "LEDGER_BASE", base := 0xa00134 },
  { name := "TEST_STATUS", base := 0xa00200 },
  { name := "TEST_EVENT", base := 0xa00204, re := true } ]

/-- Register rows of the switch, part 7, in address order. -/
def swRegs7 : List RegRow := [
  { name := "FW_STATUS", base := 0xa00300 },
  { name := "FW_ACT_PICK_LO", base := 0xa00304 },
  { name := "FW_ACT_PICK_HI", base := 0xa00308 },
  { name := "FW_VERSION", base := 0xa0030c },
  { name := "FW_EVENT", base := 0xa00310, re := true },
  { name := "TEL_SEL", base := 0xa10000, n := 288, stride := 0x1000, rw := 0x1f, edge := true },
  { name := "TEL_NEWEST_LO", base := 0xa10004, n := 288, stride := 0x1000 },
  { name := "TEL_NEWEST_HI", base := 0xa10008, n := 288, stride := 0x1000 },
  { name := "TEL_HWM_CLR", base := 0xa1000c, n := 288, stride := 0x1000, wo := 0x7ff },
  { name := "TEL_LOST", base := 0xa10010, n := 288, stride := 0x1000, sat := [(31, 0)] },
  { name := "TEL_HWM_q", base := 0xa10040, n := 288, stride := 0x1000, m := 11, step := 4 },
  { name := "TEL_RING_j", base := 0xa10100, n := 288, stride := 0x1000, m := 64, step := 4 } ]

/-- Every register of the switch. -/
def swRegs : List RegRow :=
  swRegs1 ++ swRegs2 ++ swRegs3 ++ swRegs4 ++ swRegs5 ++ swRegs6 ++ swRegs7

/-- Register rows of the end-point, part 1, in address order. -/
def epRegs1 : List RegRow := [
  { name := "ID_PART", base := 0x0 },
  { name := "ID_STEPPING", base := 0x4 },
  { name := "ID_SERIAL_LO", base := 0x8 },
  { name := "ID_SERIAL_HI", base := 0xc },
  { name := "ID_VERSIONS", base := 0x10 },
  { name := "ID_MAC_A_LO", base := 0x14 },
  { name := "ID_MAC_A_HI", base := 0x18 },
  { name := "ID_MAC_B_LO", base := 0x1c },
  { name := "ID_MAC_B_HI", base := 0x20 },
  { name := "ID_HOLE_CNT", base := 0x24, sat := [(15, 0), (31, 16)] },
  { name := "ID_CNT_CLEAR", base := 0x28, wo := 0xfffff001 },
  { name := "ID_STATUS", base := 0x2c },
  { name := "GEN_CAPS_0", base := 0x40 },
  { name := "GEN_CAPS_i", base := 0x44, n := 3, stride := 4 },
  { name := "EP_CE_CTRL", base := 0x10000, n := 16, stride := 0x1000, rw := 0x1f1f03f1, wo := 6, reset := 0x4040000 },
  { name := "EP_CE_STATE", base := 0x10004, n := 16, stride := 0x1000 },
  { name := "EP_CE_RING_LO", base := 0x10008, n := 16, stride := 0x1000, rw := 0xfffff000 },
  { name := "EP_CE_RING_HI", base := 0x1000c, n := 16, stride := 0x1000, rw := 0xffffffff },
  { name := "EP_CE_CPL_LO", base := 0x10010, n := 16, stride := 0x1000, rw := 0xfffff000 },
  { name := "EP_CE_CPL_HI", base := 0x10014, n := 16, stride := 0x1000, rw := 0xffffffff },
  { name := "EP_CE_DOORBELL", base := 0x10018, n := 16, stride := 0x1000, wo := 0xffffffff },
  { name := "EP_CE_CONSUMER", base := 0x1001c, n := 16, stride := 0x1000 },
  { name := "EP_CE_CPL_PROD", base := 0x10020, n := 16, stride := 0x1000 },
  { name := "EP_CE_CPL_CONS", base := 0x10024, n := 16, stride := 0x1000, rw := 0xffffffff },
  { name := "EP_CE_TAGQ", base := 0x10028, n := 16, stride := 0x1000, rw := 0x3ffff, reset := 0x1000 },
  { name := "EP_CE_FAULT", base := 0x1002c, n := 16, stride := 0x1000, re := true },
  { name := "EP_CE_FAULT_VA_LO", base := 0x10030, n := 16, stride := 0x1000 },
  { name := "EP_CE_FAULT_VA_HI", base := 0x10034, n := 16, stride := 0x1000 },
  { name := "EP_WIN_CTRL", base := 0x30000, n := 16, stride := 0x20, rw := 0xf0f, edge := true },
  { name := "EP_WIN_KEY", base := 0x30004, n := 16, stride := 0x20, rw := 0xffffffff, edge := true },
  { name := "EP_WIN_BASE_LO", base := 0x30008, n := 16, stride := 0x20, rw := 0xffff0000, edge := true },
  { name := "EP_WIN_BASE_HI", base := 0x3000c, n := 16, stride := 0x20, rw := 0xffffffff, edge := true },
  { name := "EP_WIN_SIZE_LO", base := 0x30010, n := 16, stride := 0x20, rw := 0xffff0000, edge := true },
  { name := "EP_WIN_SIZE_HI", base := 0x30014, n := 16, stride := 0x20, rw := 0xffff, edge := true },
  { name := "EP_WIN_FAULT", base := 0x30018, n := 16, stride := 0x20, re := true },
  { name := "EP_REMOTE_KEY", base := 0x34000, n := 4096, stride := 4, rw := 0xffffffff },
  { name := "EP_PLANE_HASH", base := 0x40000, rw := 0x3f, staged := .always },
  { name := "EP_RSP_TIMEOUT", base := 0x40004, rw := 0xffff, reset := 0x64 },
  { name := "EP_PORT_DOWN", base := 0x40008 },
  { name := "EP_REMOTE_STATUS", base := 0x4000c } ]

/-- Register rows of the end-point, part 2, in address order. -/
def epRegs2 : List RegRow := [
  { name := "EP_FAILOVER_EVENT", base := 0x40010, re := true },
  { name := "EP_STRAY_RSP", base := 0x40014, sat := [(31, 0)] },
  { name := "EP_E2E_CRC_ERR", base := 0x40018, sat := [(31, 0)] },
  { name := "EP_REISSUE_CNT", base := 0x4001c, sat := [(15, 0), (31, 16)] },
  { name := "EP_PLANE_MAP_n", base := 0x40020, n := 8, stride := 4, rw := 0x77777777, reset := 0x76543210, staged := .always },
  { name := "EP_ART_BASE_LO", base := 0x40040, rw := 0xfe000000 },
  { name := "EP_ART_BASE_HI", base := 0x40044, rw := 0xffffffff },
  { name := "EP_FLAG_HOLD_DROP", base := 0x40048, sat := [(31, 0)] },
  { name := "EP_COMBINE_APPLIED", base := 0x4004c, sat := [(31, 0)] },
  { name := "EP_COMBINE_DROP", base := 0x40050, sat := [(31, 0)] },
  { name := "EP_CAST_FILTERED", base := 0x40054, sat := [(31, 0)] },
  { name := "EP_RQ_TABLE_BASE_LO", base := 0x40058, rw := 0xffffc000 },
  { name := "EP_RQ_TABLE_BASE_HI", base := 0x4005c, rw := 0xffffffff },
  { name := "EP_RQ_FAULT", base := 0x40060, re := true },
  { name := "EP_PATH_DOWN_d", base := 0x41000, n := 256, stride := 4 },
  { name := "EP_RLC_CTRL", base := 0x42000, rw := 1 },
  { name := "EP_RLC_INVAL", base := 0x42004, wo := 0xfff7 },
  { name := "EP_RLC_HIT", base := 0x42008, sat := [(31, 0)] },
  { name := "EP_RLC_FILL", base := 0x4200c, sat := [(31, 0)] },
  { name := "EP_RLC_INV_CNT", base := 0x42010, sat := [(31, 0)] },
  { name := "EP_RLC_FILL_SKIP", base := 0x42014, sat := [(31, 0)] },
  { name := "EP_RLC_ADVICE_n", base := 0x42100, n := 128, stride := 4, rw := 0xffffffff },
  { name := "EP_CE_CTRL", base := 0x50000, n := 16, stride := 0x1000, rw := 0x1f1f03f1, wo := 6, reset := 0x4040000 },
  { name := "EP_CE_STATE", base := 0x50004, n := 16, stride := 0x1000 },
  { name := "EP_CE_RING_LO", base := 0x50008, n := 16, stride := 0x1000, rw := 0xfffff000 },
  { name := "EP_CE_RING_HI", base := 0x5000c, n := 16, stride := 0x1000, rw := 0xffffffff },
  { name := "EP_CE_CPL_LO", base := 0x50010, n := 16, stride := 0x1000, rw := 0xfffff000 },
  { name := "EP_CE_CPL_HI", base := 0x50014, n := 16, stride := 0x1000, rw := 0xffffffff },
  { name := "EP_CE_DOORBELL", base := 0x50018, n := 16, stride := 0x1000, wo := 0xffffffff },
  { name := "EP_CE_CONSUMER", base := 0x5001c, n := 16, stride := 0x1000 },
  { name := "EP_CE_CPL_PROD", base := 0x50020, n := 16, stride := 0x1000 },
  { name := "EP_CE_CPL_CONS", base := 0x50024, n := 16, stride := 0x1000, rw := 0xffffffff },
  { name := "EP_CE_TAGQ", base := 0x50028, n := 16, stride := 0x1000, rw := 0x3ffff, reset := 0x1000 },
  { name := "EP_CE_FAULT", base := 0x5002c, n := 16, stride := 0x1000, re := true },
  { name := "EP_CE_FAULT_VA_LO", base := 0x50030, n := 16, stride := 0x1000 },
  { name := "EP_CE_FAULT_VA_HI", base := 0x50034, n := 16, stride := 0x1000 },
  { name := "EP_XLT_CTRL", base := 0x60000, rw := 0x7f03, reset := 0x2002 },
  { name := "EP_XLT_STATUS", base := 0x60004 },
  { name := "EP_XLT_MISS", base := 0x60008, sat := [(31, 0)] },
  { name := "EP_XLT_WALK_RETRY", base := 0x6000c, sat := [(15, 0), (31, 16)] } ]

/-- Register rows of the end-point, part 3, in address order. -/
def epRegs3 : List RegRow := [
  { name := "EP_XLT_PF_CNT", base := 0x60010, sat := [(31, 0)] },
  { name := "EP_XLT_PF_FAULT", base := 0x60014, sat := [(31, 0)] },
  { name := "EP_XQ_RING_LO", base := 0x60018, rw := 0xfffff000 },
  { name := "EP_XQ_RING_HI", base := 0x6001c, rw := 0xffffffff },
  { name := "EP_XQ_CPL_LO", base := 0x60020, rw := 0xfffff000 },
  { name := "EP_XQ_CPL_HI", base := 0x60024, rw := 0xffffffff },
  { name := "EP_XQ_CTRL", base := 0x60028, rw := 0x1f01, reset := 0x400 },
  { name := "EP_XQ_DOORBELL", base := 0x6002c, wo := 0xffffffff },
  { name := "EP_XQ_CONSUMER", base := 0x60030 },
  { name := "EP_XQ_CPL_PROD", base := 0x60034 },
  { name := "EP_XQ_CPL_CONS", base := 0x60038, rw := 0xffffffff },
  { name := "EP_DIRECT_TAGQ", base := 0x6003c, rw := 0x3ffff, reset := 0x20000 },
  { name := "EP_XLT_ROOT_LO_a", base := 0x61000, n := 64, stride := 0x10, rw := 0xfffff001 },
  { name := "EP_XLT_ROOT_HI_a", base := 0x61004, n := 64, stride := 0x10, rw := 0xffffffff },
  { name := "EP_XLT_EPOCH_DONE_a", base := 0x61008, n := 64, stride := 0x10 },
  { name := "EP_XLT_STREAM_CTRL_s", base := 0x62010, n := 63, stride := 0x10, rw := 0xffff1f01 },
  { name := "EP_XLT_STREAM_DLO_s", base := 0x62014, n := 63, stride := 0x10, rw := 0xffffffff },
  { name := "EP_XLT_STREAM_DHI_s", base := 0x62018, n := 63, stride := 0x10, rw := 0xffffffff },
  { name := "EP_QU_STATUS", base := 0x70000 },
  { name := "EP_QU_BLOCKS", base := 0x70004, sat := [(31, 0)] },
  { name := "EP_QU_RESIDUE", base := 0x70008, sat := [(15, 0), (31, 16)] },
  { name := "EP_QU_RETIRED", base := 0x7000c },
  { name := "EP_MEAS_EXPORT", base := 0x70010, rw := 0xffff },
  { name := "EP_QU_NAN", base := 0x70014, sat := [(31, 0)] },
  { name := "EP_MEAS_RX_BYTES_LO", base := 0x70018 },
  { name := "EP_MEAS_RX_BYTES_HI", base := 0x7001c },
  { name := "EP_MEAS_SLOT_CTRL_m", base := 0x71000, n := 16, stride := 0x40, rw := 0x1f01, wo := 3 },
  { name := "EP_MEAS_COUNT_m", base := 0x71004, n := 16, stride := 0x40 },
  { name := "EP_MEAS_BYTES_LO_m", base := 0x71008, n := 16, stride := 0x40 },
  { name := "EP_MEAS_BYTES_HI_m", base := 0x7100c, n := 16, stride := 0x40 },
  { name := "EP_MEAS_DIGEST_m_j", base := 0x71010, n := 16, stride := 0x40, m := 12, step := 4 },
  { name := "EP_LHA_CTRL", base := 0x80000, rw := 0xf1, reset := 0xf0, edge := true },
  { name := "EP_LHA_STATUS", base := 0x80004 },
  { name := "EP_LHA_EVENT", base := 0x80008, re := true },
  { name := "EP_LHA_STEER", base := 0x8000c, rw := 0x3f },
  { name := "EP_LHA_RETRY", base := 0x80010, sat := [(15, 0), (31, 16)] },
  { name := "EP_LHA_MALFORMED", base := 0x80014, sat := [(31, 0)] },
  { name := "EP_NOTE_STALL", base := 0x80018, sat := [(31, 0)] },
  { name := "EP_LHA_CTX_c", base := 0x81000, n := 256, stride := 4, rw := 0x3ff, except := [(0, 0x3)] },
  { name := "EP_NOTE_ROUTE_n", base := 0x84000, n := 1351, stride := 4, rw := 0xff01 } ]

/-- Register rows of the end-point, part 4, in address order. -/
def epRegs4 : List RegRow := [
  { name := "EP_PICK_NOW_LO", base := 0x90000 },
  { name := "EP_PICK_NOW_HI", base := 0x90004 },
  { name := "EP_PICK_STATUS", base := 0x90008 },
  { name := "EP_PICK_EVENT", base := 0x9000c, re := true },
  { name := "EP_PICK_OFFSET_k", base := 0x90010, n := 8, stride := 4 },
  { name := "EP_THR_CTRL", base := 0x90040, rw := 0xfffffff3, reset := 0x8000962, edge := true },
  { name := "EP_THR_MIN", base := 0x90044, rw := 0x1fff, reset := 0x177, edge := true },
  { name := "EP_THR_RATE_k", base := 0x90060, n := 8, stride := 4 },
  { name := "EP_THR_DEC_k", base := 0x90080, n := 8, stride := 4, sat := [(31, 0)] },
  { name := "EP_SK_ENGINE", base := 0x900a0, rw := 0xffffffff, edge := true },
  { name := "EP_SK_EREQ_WAIT", base := 0x900a4, rw := 0xffffffff },
  { name := "EP_SK_CTX_n", base := 0x900c0, n := 8, stride := 4, rw := 0xffffffff, edge := true },
  { name := "EP_GATE_k_w", base := 0x90100, n := 64, stride := 4, rw := 0x3ffbffff, reset := 0x40000, staged := .admitted },
  { name := "EP_DRR_k_q", base := 0x90200, n := 64, stride := 4, rw := 0x1fff, reset := 0x80, edge := true },
  { name := "TEL_SEL", base := 0x91000, n := 4, stride := 0x1000, rw := 0x1f, edge := true },
  { name := "TEL_NEWEST_LO", base := 0x91004, n := 4, stride := 0x1000 },
  { name := "TEL_NEWEST_HI", base := 0x91008, n := 4, stride := 0x1000 },
  { name := "TEL_HWM_CLR", base := 0x9100c, n := 4, stride := 0x1000, wo := 0x7ff },
  { name := "TEL_LOST", base := 0x91010, n := 4, stride := 0x1000, sat := [(31, 0)] },
  { name := "TEL_HWM_q", base := 0x91040, n := 4, stride := 0x1000, m := 11, step := 4 },
  { name := "TEL_RING_j", base := 0x91100, n := 4, stride := 0x1000, m := 64, step := 4 },
  { name := "TEL_SEL", base := 0x91200, n := 4, stride := 0x1000, rw := 0x1f, edge := true },
  { name := "TEL_NEWEST_LO", base := 0x91204, n := 4, stride := 0x1000 },
  { name := "TEL_NEWEST_HI", base := 0x91208, n := 4, stride := 0x1000 },
  { name := "TEL_HWM_CLR", base := 0x9120c, n := 4, stride := 0x1000, wo := 0x7ff },
  { name := "TEL_LOST", base := 0x91210, n := 4, stride := 0x1000, sat := [(31, 0)] },
  { name := "TEL_HWM_q", base := 0x91240, n := 4, stride := 0x1000, m := 11, step := 4 },
  { name := "TEL_RING_j", base := 0x91300, n := 4, stride := 0x1000, m := 64, step := 4 },
  { name := "EP_SHP_FLOW_f", base := 0x98000, n := 8, stride := 0x1000, m := 256, step := 4, rw := 0xfffbfff, staged := .admitted },
  { name := "EP_COLL_CTRL", base := 0xa0000, rw := 0x1f1f03f1, reset := 0x4040000 },
  { name := "EP_COLL_STATUS", base := 0xa0004 },
  { name := "EP_COLL_RING_LO", base := 0xa0008, rw := 0xfffff000 },
  { name := "EP_COLL_RING_HI", base := 0xa000c, rw := 0xffffffff },
  { name := "EP_COLL_CPL_LO", base := 0xa0010, rw := 0xfffff000 },
  { name := "EP_COLL_CPL_HI", base := 0xa0014, rw := 0xffffffff },
  { name := "EP_COLL_DOORBELL", base := 0xa0018, wo := 0xffffffff },
  { name := "EP_COLL_CONSUMER", base := 0xa001c },
  { name := "EP_COLL_CPL_PROD", base := 0xa0020 },
  { name := "EP_COLL_CPL_CONS", base := 0xa0024, rw := 0xffffffff },
  { name := "EP_COLL_WAIT", base := 0xa0028, rw := 0xffff, reset := 0x2710 } ]

/-- Register rows of the end-point, part 5, in address order. -/
def epRegs5 : List RegRow := [
  { name := "EP_COLL_EVENT", base := 0xa002c, re := true },
  { name := "EP_COLL_RESENT", base := 0xa0030, sat := [(31, 0)] },
  { name := "EP_PE_STATUS", base := 0xb0000 },
  { name := "EP_PE_CTRL", base := 0xb0004, wp := 1, reset := 1, slow := .photonic },
  { name := "EP_PE_SWAP", base := 0xb0008, wp := 0x11, staged := .admitted, slow := .photonic },
  { name := "EP_PE_EVENT", base := 0xb000c, re := true },
  { name := "EP_PE_TEMP_s", base := 0xb0010, m := 8, step := 4 },
  { name := "EP_PE_SLIP_CNT", base := 0xb0030, sat := [(15, 0), (31, 16)] },
  { name := "EP_PE_WRITE_DROP", base := 0xb0034, sat := [(31, 0)] },
  { name := "EP_PE_IND_SEL", base := 0xb0038, wp := 0xff3f, slow := .photonic },
  { name := "EP_PE_IND_DATA", base := 0xb003c },
  { name := "EP_PE_PORT_STATE_p", base := 0xb0040, m := 8, step := 0x20 },
  { name := "EP_PE_PORT_TXPWR_p", base := 0xb0044, m := 8, step := 0x20 },
  { name := "EP_PE_PORT_RXPWR_p", base := 0xb0048, m := 8, step := 0x20 },
  { name := "EP_PE_PORT_MARGIN_p", base := 0xb004c, m := 8, step := 0x20 },
  { name := "EP_PE_PORT_TXCFG_p", base := 0xb0050, m := 8, step := 0x20, wp := 0x3f0f3f, reset := 0x380428, slow := .photonic },
  { name := "EP_PE_PORT_FF_p", base := 0xb0054, m := 8, step := 0x20, wp := 0x7fff, slow := .photonic },
  { name := "EP_PE_PORT_MODE_p", base := 0xb0058, m := 8, step := 0x20, wp := 3, slow := .photonic },
  { name := "EP_PE_PORT_LOSS_p", base := 0xb005c, m := 8, step := 0x20, re := true },
  { name := "EP_PE_SWAP_PICK_LO", base := 0xb0240, rw := 0xffffffff, staged := .admitted },
  { name := "EP_PE_SWAP_PICK_HI", base := 0xb0244, rw := 0xffffffff, staged := .admitted },
  { name := "EP_COMB_STATUS", base := 0xb1000, n := 3, stride := 0x1000 },
  { name := "EP_COMB_CTRL", base := 0xb1004, n := 3, stride := 0x1000, wp := 1, reset := 1, slow := .comb },
  { name := "EP_COMB_OUT", base := 0xb1008, n := 3, stride := 0x1000 },
  { name := "EP_COMB_BIAS", base := 0xb100c, n := 3, stride := 0x1000 },
  { name := "EP_COMB_BIAS_PCT", base := 0xb1010, n := 3, stride := 0x1000 },
  { name := "EP_COMB_SETPOINT", base := 0xb1014, n := 3, stride := 0x1000, wp := 0xffff, slow := .comb },
  { name := "EP_COMB_LOCK_ERR", base := 0xb1018, n := 3, stride := 0x1000 },
  { name := "EP_COMB_EVENT", base := 0xb101c, n := 3, stride := 0x1000, re := true },
  { name := "EP_COMB_HOURS", base := 0xb1020, n := 3, stride := 0x1000, sat := [(31, 0)] },
  { name := "EP_COMB_WRITE_DROP", base := 0xb1024, n := 3, stride := 0x1000, sat := [(31, 0)] },
  { name := "EP_LINK_CTRL", base := 0xc0000, n := 8, stride := 0x1000, rw := 7, reset := 7, staged := .admitted },
  { name := "EP_LINK_STATUS", base := 0xc0004, n := 8, stride := 0x1000 },
  { name := "EP_LINK_EVENT", base := 0xc0008, n := 8, stride := 0x1000, re := true },
  { name := "EP_LINK_CMD", base := 0xc000c, n := 8, stride := 0x1000, wo := 0x1f },
  { name := "EP_LINK_CFG", base := 0xc0010, n := 8, stride := 0x1000, rw := 0xffff0fff, reset := 0x80005e },
  { name := "EP_FLIT_ERR", base := 0xc0014, n := 8, stride := 0x1000, sat := [(15, 0), (31, 16)] },
  { name := "EP_CRC_ERR", base := 0xc0018, n := 8, stride := 0x1000, sat := [(31, 0)] },
  { name := "EP_VER_ERR", base := 0xc001c, n := 8, stride := 0x1000, sat := [(31, 0)] },
  { name := "EP_CHECK_CNT", base := 0xc0020, n := 8, stride := 0x1000, sat := [(15, 0), (31, 16)] } ]

/-- Register rows of the end-point, part 6, in address order. -/
def epRegs6 : List RegRow := [
  { name := "EP_DELAY", base := 0xc0024, n := 8, stride := 0x1000 },
  { name := "EP_ECHO_MISS", base := 0xc0028, n := 8, stride := 0x1000, sat := [(31, 16)] },
  { name := "EP_PICK_MISMATCH", base := 0xc002c, n := 8, stride := 0x1000, sat := [(31, 0)] },
  { name := "EP_FAR_SERIAL_LO", base := 0xc0030, n := 8, stride := 0x1000 },
  { name := "EP_FAR_SERIAL_HI", base := 0xc0034, n := 8, stride := 0x1000 },
  { name := "EP_FAR_ID", base := 0xc0038, n := 8, stride := 0x1000 },
  { name := "EP_FAR_DOMAIN", base := 0xc003c, n := 8, stride := 0x1000 },
  { name := "EP_LINK_ALARM", base := 0xc004c, n := 8, stride := 0x1000 },
  { name := "EP_CRED_v", base := 0xc0050, n := 8, stride := 0x1000, m := 8, step := 4 },
  { name := "EP_LANE_SEL", base := 0xc0070, n := 8, stride := 0x1000, rw := 0xf3f },
  { name := "EP_LANE_DATA", base := 0xc0074, n := 8, stride := 0x1000 },
  { name := "EP_EYE_CTRL", base := 0xc0080, n := 8, stride := 0x1000, rw := 0x77f, reset := 0x440 },
  { name := "EP_EYE_CMD", base := 0xc0084, n := 8, stride := 0x1000, wo := 3 },
  { name := "EP_EYE_STATUS", base := 0xc0088, n := 8, stride := 0x1000 },
  { name := "EP_EYE_MAP_SEL", base := 0xc008c, n := 8, stride := 0x1000, rw := 0xfff },
  { name := "EP_EYE_MAP_DATA", base := 0xc0090, n := 8, stride := 0x1000, sat := [(15, 0)] },
  { name := "EP_LINK_NODE", base := 0xc8000, rw := 0xfff01ff, staged := .admitted },
  { name := "EP_RES_STATUS", base := 0xd0000 },
  { name := "EP_RES_EVENT", base := 0xd0004, re := true },
  { name := "EP_RES_ROW_REPAIR", base := 0xd000c, sat := [(15, 0)] },
  { name := "EP_GUY_DUP_DROP", base := 0xd0010, sat := [(31, 0)] },
  { name := "EP_GUY_LINK_EVENT", base := 0xd0014, re := true },
  { name := "EP_GUY_IPV4_A", base := 0xd0018, rw := 0xffffffff, edge := true },
  { name := "EP_GUY_IPV4_B", base := 0xd001c, rw := 0xffffffff, edge := true },
  { name := "EP_GUY_CMD_CNT", base := 0xd0020, sat := [(31, 0)] },
  { name := "EP_GUY_REJECT", base := 0xd0024, sat := [(31, 0)] },
  { name := "EP_STAGE_EVENT", base := 0xd0028, re := true },
  { name := "EP_MEMB_EPOCH", base := 0xd0040 },
  { name := "EP_LEDGER_CTRL", base := 0xd0100, rw := 0xff03, reset := 0x1903 },
  { name := "EP_LEDGER_STATUS", base := 0xd0104, sat := [(23, 16)] },
  { name := "EP_LEDGER_AVS", base := 0xd0108 },
  { name := "EP_LEDGER_SLACK", base := 0xd010c },
  { name := "EP_LEDGER_PROJ_q", base := 0xd0110, n := 5, stride := 4 },
  { name := "EP_LEDGER_EVENT", base := 0xd0130, re := true },
  { name := "EP_LEDGER_BASE", base := 0xd0134 },
  { name := "EP_TEST_STATUS", base := 0xd0200 },
  { name := "EP_TEST_EVENT", base := 0xd0204, re := true },
  { name := "EP_FW_STATUS", base := 0xd0300 },
  { name := "EP_FW_ACT_PICK_LO", base := 0xd0304 },
  { name := "EP_FW_ACT_PICK_HI", base := 0xd0308 } ]

/-- Register rows of the end-point, part 7, in address order. -/
def epRegs7 : List RegRow := [
  { name := "EP_FW_VERSION", base := 0xd030c },
  { name := "EP_FW_EVENT", base := 0xd0310, re := true },
  { name := "EP_PWR_STATUS", base := 0xe0000 },
  { name := "EP_PWR_NOW", base := 0xe0004 },
  { name := "EP_PWR_CAP_NOW", base := 0xe0008 },
  { name := "EP_PWR_FLOOR", base := 0xe000c },
  { name := "EP_PWR_GATE", base := 0xe0010 },
  { name := "EP_PWR_LEASE_LEFT", base := 0xe0014 },
  { name := "EP_PWR_ORPHAN", base := 0xe0018, rw := 0xffff, reset := 0x320, staged := .admitted },
  { name := "EP_PWR_RESERVE", base := 0xe001c, rw := 0x7f, reset := 8, staged := .admitted },
  { name := "EP_PWR_ALERT_HOLD", base := 0xe0020, rw := 0xffff, reset := 0x2710, staged := .admitted },
  { name := "EP_PWR_EVENT", base := 0xe0024, re := true },
  { name := "EP_SUPPLY_VAUX", base := 0xe0028 },
  { name := "EP_PWR_ALERT_IN", base := 0xe0030, rw := 1 },
  { name := "EP_THERM_STATUS", base := 0xe0040 },
  { name := "EP_THERM_RAMP", base := 0xe0044, rw := 0x7fff, reset := 0x2004, staged := .admitted },
  { name := "EP_THERM_HWM", base := 0xe0048 },
  { name := "EP_THERM_EVENT", base := 0xe004c, re := true },
  { name := "EP_BIV_STATUS", base := 0xe1000 },
  { name := "EP_BIV_CTRL", base := 0xe1004, rw := 0x71, reset := 0x30, staged := .admitted },
  { name := "EP_BIV_EVENT", base := 0xe1008, re := true },
  { name := "EP_BIV_WAKE_TIME", base := 0xe100c, sat := [(15, 0)] },
  { name := "EP_BIV_SENSOR_SEL", base := 0xe1010, rw := 0xff },
  { name := "EP_BIV_SENSOR_MED", base := 0xe1014 },
  { name := "EP_BIV_SENSOR_FILT", base := 0xe1018 },
  { name := "EP_PITCH", base := 0xf0000, rw := 0x1f, staged := .always },
  { name := "EP_SEC_STATUS", base := 0xf0004 },
  { name := "EP_SEC_KEY_PHASE", base := 0xf0008, rw := 1, staged := .always },
  { name := "EP_SEC_AUTH_FAIL", base := 0xf000c, sat := [(31, 0)] },
  { name := "EP_SEC_CLEAR_DROP", base := 0xf0010, sat := [(31, 0)] },
  { name := "EP_SEC_KEY_AGE", base := 0xf0014, sat := [(31, 0)] },
  { name := "EP_SEC_EVENT", base := 0xf0018, re := true },
  { name := "EP_SEC_SVN", base := 0xf001c },
  { name := "EP_SEC_BOOT_DIGEST_j", base := 0xf0040, n := 12, stride := 4 },
  { name := "EP_DOMAIN_CFG", base := 0xf1000, rw := 0xf, reset := 1, staged := .always },
  { name := "EP_CTR_LO", base := 0x1000000, n := 65536, stride := 8, rw := 0xffffffff },
  { name := "EP_CTR_HI", base := 0x1000004, n := 65536, stride := 8, rw := 0xffffffff },
  { name := "EP_CTR_CTRL", base := 0x1080000, n := 65536, stride := 4, rw := 0xf1, edge := true },
  { name := "EP_CTR_WAIT_CTRL", base := 0x10c0000, n := 1024, stride := 0x10, rw := 0xffff0001 },
  { name := "EP_CTR_WAIT_TGT_LO", base := 0x10c0004, n := 1024, stride := 0x10, rw := 0xffffffff } ]

/-- Register rows of the end-point, part 8, in address order. -/
def epRegs8 : List RegRow := [
  { name := "EP_CTR_WAIT_TGT_HI", base := 0x10c0008, n := 1024, stride := 0x10, rw := 0xffffffff },
  { name := "EP_CTR_SUB", base := 0x1100000, n := 65536, stride := 4, wo := 0xffffffff } ]

/-- Every register of the end-point. -/
def epRegs : List RegRow :=
  epRegs1 ++ epRegs2 ++ epRegs3 ++ epRegs4 ++ epRegs5 ++ epRegs6 ++ epRegs7 ++ epRegs8

end Sys2Proof.Machine
end

