-- ==== Sys2Proof/Machine/Regs.lean ====
section
/-!
DEFINITION. The register file: where a register lies (Tables 18.12 and 18.13, R709, R710), its reset value, reading and writing it from the hardware's side,
latching an event (R716), saturating counts (R723), and the addresses of the blocks that both parts hold.
-/

namespace Sys2Proof.Machine

/-- The register rows of a part. -/
def rowsOf : Part → List RegRow
  | .sw => swRegs
  | .ep => epRegs

/-- Index of an address in a row, if the row holds it. -/
def RegRow.index (r : RegRow) (a : Nat) : Option Nat :=
  if a < r.base then none
  else
    let d := a - r.base
    let i := if r.n = 1 then 0 else d / r.stride
    let e := d - i * r.stride
    let j := if r.m = 1 then 0 else e / r.step
    if i < r.n ∧ j < r.m ∧ e = j * r.step then some (i * r.m + j) else none

/-- The row of an address and its index there. -/
def findRow (rows : List RegRow) (a : Nat) : Option (RegRow × Nat) :=
  match rows with
  | [] => none
  | r :: rs =>
    match r.index a with
    | some i => some (r, i)
    | none => findRow rs a

/-- The register that stands at an address of a part. -/
def regAt (p : Part) (a : Nat) : Option (RegRow × Nat) := findRow (rowsOf p) a

/-- Reset value of an entry of a row, with the resets that depend on the index: node i of the alias table names port i (Table 7.11),
the replay time-out of a selvedge port (Table 13.14) and the quanta of the weighted queues (Table 8.13). -/
def RegRow.resetAt (r : RegRow) (i : Nat) : Nat :=
  match Tab.find r.except i with
  | some v => v
  | none =>
    if r.base = 0x504000 then r.reset + i
    else if r.base = 0x100010 ∧ 256 ≤ i then 0x8000BC
    else if (r.base = 0x100380 ∨ r.base = 0x90200) ∧ (i % 8 = 0 ∨ i % 8 = 2) then 0x100
    else if (r.base = 0x100380 ∨ r.base = 0x90200) ∧ i % 8 = 1 then 0x200
    else r.reset

/-- Value of a register after RESET_N is released. A register whose Reset column says HW and whose value no other field gives reads zero: DESIGN CHOICE (notes/assumptions/1.md). -/
def resetOf (p : Part) (a : Nat) : Reg :=
  match regAt p a with
  | some (r, i) => BitVec.ofNat 32 (r.resetAt i)
  | none => 0

/-- The value a register holds. -/
def Common.rd (c : Common) (a : Nat) : Reg :=
  match Tab.find c.rf.cur a with
  | some v => v
  | none => resetOf c.part a

/-- The value of a register in force in this pick (R46, R345). -/
def Common.rdForce (c : Common) (a : Nat) : Reg :=
  match Tab.find c.rf.old a with
  | some v => v
  | none => c.rd a

/-- Bits of a register as a number. -/
def Common.rf' (c : Common) (a hi lo : Nat) : Nat := fld (c.rd a) hi lo

/-- Store a register from the hardware's side. -/
def Common.wr (c : Common) (a : Nat) (v : Reg) : Common :=
  { c with rf := { c.rf with cur := Tab.set c.rf.cur (resetOf c.part a) a v } }

/-- Store bits [hi:lo] of a register from the hardware's side. -/
def Common.wrF (c : Common) (a hi lo x : Nat) : Common := c.wr a (setFld (c.rd a) hi lo x)

/-- Store a register that software writes: where its writes act from the next boundary, the value in force is kept beside it (R46, R345). -/
def Common.swStore (c : Common) (edge : Bool) (a : Nat) (v : Reg) : Common :=
  let c1 := if edge && (Tab.find c.rf.old a).isNone then { c with rf := { c.rf with old := Tab.put c.rf.old a (c.rd a) } } else c
  c1.wr a v

/-- Add to a saturating field of a register. -/
def Common.bumpBy (c : Common) (a hi lo n : Nat) : Common :=
  c.wrF a hi lo (satAdd (2 ^ (hi + 1 - lo) - 1) (fld (c.rd a) hi lo) n)

/-- Count one event in a saturating 32-bit register. -/
def Common.bump (c : Common) (a : Nat) : Common := c.bumpBy a 31 0 1

/-- Count one event in the transient half [15:0] of a pair. -/
def Common.bumpLo (c : Common) (a : Nat) : Common := c.bumpBy a 15 0 1

/-- Count one event in the lasting half [31:16] of a pair. -/
def Common.bumpHi (c : Common) (a : Nat) : Common := c.bumpBy a 31 16 1

/-- Add to a wrapping 32-bit count. -/
def Common.wrapBy (c : Common) (a n : Nat) : Common := c.wr a (BitVec.ofNat 32 ((c.rd a).toNat + n))

/-- The sequence count after one more event: modulo 65,536, passing over 0 (R716). -/
def nextSeq (s : Nat) : Nat := if s = 65535 then 1 else s + 1

/-- Latch an event in an RE register: the next sequence in [31:16], the fields below (R716). -/
def Common.event (c : Common) (a low : Nat) : Common :=
  let s := nextSeq (Tab.get c.rf.seqs 0 a)
  let c' := c.wr a (BitVec.ofNat 32 (s * 65536 + low % 65536))
  { c' with rf := { c'.rf with seqs := Tab.put c'.rf.seqs a s } }

/-- The set, clear and toggle views of a register page (R705). -/
inductive View where
  | normal
  | setBits
  | clearBits
  | toggle
  deriving DecidableEq, Repr

/-- Where an address leads: a register's own address seen through a view, or a hole (R709). -/
inductive Target where
  | reg (a : Nat) (v : View)
  | hole
  deriving DecidableEq, Repr

/-- A page as the register maps give it: the base of the page that answers, and its offset mask. -/
structure PageHit where
  base : Nat
  mask : Nat
  deriving DecidableEq, Repr

/-- Index bits of a photonic-engine page: bits [7:5] ignored, and bits [3:1] when bit 4 is 1 (Table 18.12). -/
def enginePage (i : Nat) : Nat :=
  let j := i % 32
  if 16 ≤ j then 16 + j % 2 else j

/-- The page of the switch that an address reaches (Table 18.12) (R728). -/
def swPage (a : Nat) : Option PageHit :=
  let pg := a / 0x1000
  if pg < 0x10 then some ⟨0, 0x07C⟩
  else if pg < 0x20 then some ⟨0x10000, 0x07C⟩
  else if pg < 0x40 then some ⟨0x20000, 0x01C⟩
  else if pg < 0x80 then some ⟨0x40000, 0x07C⟩
  else if pg < 0x100 then some ⟨0x80000, 0x0FC⟩
  else if pg < 0x300 then
    let n := pg - 0x100
    let n' := if n < 288 then n else 256 + n % 32
    some ⟨0x100000 + n' * 0x1000, 0x3FC⟩
  else if pg < 0x400 then some ⟨0x300000 + enginePage (pg - 0x300) * 0x1000, 0x3FC⟩
  else if pg < 0x500 then
    let n := (pg - 0x400) % 128
    if n < 90 then some ⟨0x400000 + n * 0x1000, 0x03C⟩ else none
  else if pg = 0x500 then some ⟨0x500000, 0x0FC⟩
  else if pg = 0x501 then some ⟨0x501000, 0x0FC⟩
  else if pg = 0x502 then some ⟨0x502000, 0x01C⟩
  else if pg = 0x503 then some ⟨0x503000, 0x00C⟩
  else if pg = 0x504 then some ⟨0x504000, 0x3FC⟩
  else if pg = 0x505 then some ⟨0x505000, 0x07C⟩
  else if 0x510 ≤ pg ∧ pg < 0x530 then some ⟨pg * 0x1000, 0x3FC⟩
  else if 0x600 ≤ pg ∧ pg < 0x680 then some ⟨0x600000 + (pg - 0x600) % 64 * 0x1000, 0x1FC⟩
  else if pg = 0x681 then some ⟨0x681000, 0x004⟩
  else if pg = 0x700 then some ⟨0x700000, 0x07C⟩
  else if pg = 0x701 then some ⟨0x701000, 0x0FC⟩
  else if 0x800 ≤ pg ∧ pg < 0x900 then some ⟨0x800000, 0x01C⟩
  else if 0x900 ≤ pg ∧ pg < 0xA00 then some ⟨0x900000, 0x3FC⟩
  else if pg = 0xA00 then some ⟨0xA00000, 0x3FC⟩
  else if 0xA10 ≤ pg ∧ pg < 0xB30 then some ⟨pg * 0x1000, 0x1FC⟩
  else none

/-- Table regions of the switch (Table 18.1). -/
def swTable (a : Nat) : Bool :=
  (0x680000 ≤ a && a < 0x681000) || (0x710000 ≤ a && a < 0x718000) ||
  (0x720000 ≤ a && a < 0x728000) || (0x740000 ≤ a && a < 0x750000)

/-- The page of the end-point that an address reaches (Table 18.13) (R729). -/
def epPage (a : Nat) : Option PageHit :=
  let pg := a / 0x1000
  if pg < 0x10 then some ⟨0, 0x07C⟩
  else if pg < 0x20 then some ⟨pg * 0x1000, 0x03C⟩
  else if pg = 0x30 then some ⟨0x30000, 0x1FC⟩
  else if pg = 0x40 then some ⟨0x40000, 0x07C⟩
  else if pg = 0x41 then some ⟨0x41000, 0x3FC⟩
  else if pg = 0x42 then some ⟨0x42000, 0x3FC⟩
  else if 0x50 ≤ pg ∧ pg < 0x60 then some ⟨pg * 0x1000, 0x03C⟩
  else if pg = 0x60 then some ⟨0x60000, 0x03C⟩
  else if pg = 0x61 then some ⟨0x61000, 0x3FC⟩
  else if pg = 0x62 then some ⟨0x62000, 0x3FC⟩
  else if pg = 0x70 then some ⟨0x70000, 0x01C⟩
  else if pg = 0x71 then some ⟨0x71000, 0x3FC⟩
  else if pg = 0x80 then some ⟨0x80000, 0x01C⟩
  else if pg = 0x81 then some ⟨0x81000, 0x3FC⟩
  else if pg = 0x90 then some ⟨0x90000, 0x3FC⟩
  else if 0x91 ≤ pg ∧ pg < 0x95 then some ⟨pg * 0x1000, 0x3FC⟩
  else if 0x98 ≤ pg ∧ pg < 0xA0 then some ⟨pg * 0x1000, 0x3FC⟩
  else if pg = 0xA0 then some ⟨0xA0000, 0x03C⟩
  else if pg = 0xB0 then some ⟨0xB0000, 0x3FC⟩
  else if 0xB1 ≤ pg ∧ pg < 0xB4 then some ⟨pg * 0x1000, 0x03C⟩
  else if 0xC0 ≤ pg ∧ pg < 0xC8 then some ⟨pg * 0x1000, 0x0FC⟩
  else if pg = 0xC8 then some ⟨0xC8000, 0x000⟩
  else if pg = 0xD0 then some ⟨0xD0000, 0x3FC⟩
  else if pg = 0xE0 then some ⟨0xE0000, 0x07C⟩
  else if pg = 0xE1 then some ⟨0xE1000, 0x01C⟩
  else if pg = 0xF0 then some ⟨0xF0000, 0x07C⟩
  else if pg = 0xF1 then some ⟨0xF1000, 0x000⟩
  else none

/-- Table regions of the end-point (Table 18.1). -/
def epTable (a : Nat) : Bool :=
  (0x34000 ≤ a && a < 0x38000) || (0x84000 ≤ a && a < 0x8551C) ||
  (0x1000000 ≤ a && a < 0x1080000) || (0x1080000 ≤ a && a < 0x10C0000) ||
  (0x10C0000 ≤ a && a < 0x10C4000) || (0x1100000 ≤ a && a < 0x1140000)

/-- The offset rules that override a page's mask: port pages (offsets 0x100 to 0x2FF reach o AND 0x0FF, Table 18.12) and the window page (Table 18.13). -/
def pageOffset (p : Part) (h : PageHit) (o : Nat) : Nat :=
  match p with
  | .sw =>
    if 0x100000 ≤ h.base ∧ h.base < 0x300000 ∧ 0x100 ≤ o ∧ o < 0x300 then o &&& 0x0FF
    else o &&& h.mask
  | .ep =>
    if h.base = 0x30000 then
      let o' := o &&& h.mask
      if o' % 0x20 = 0x1C then o' - 0x10 else o'
    else o &&& h.mask

/-- The view that a page offset names (R705). -/
def viewOf (o : Nat) : View :=
  match o / 0x400 % 4 with
  | 0 => .normal
  | 1 => .setBits
  | 2 => .clearBits
  | _ => .toggle

/-- What an address of a part reaches (R705, R709, R710). Bits [1:0] are dropped: a misaligned access is refused before it comes here (R708). -/
def decodeAddr (p : Part) (a0 : Nat) : Target :=
  let a := a0 / 4 * 4
  let table := match p with | .sw => swTable a | .ep => epTable a
  if table then
    match regAt p a with
    | some _ => .reg a .normal
    | none => .hole
  else
    match (match p with | .sw => swPage a | .ep => epPage a) with
    | none => .hole
    | some h =>
      let o := a % 0x1000
      let b := h.base + pageOffset p h (o % 0x400)
      match regAt p b with
      | some _ => .reg b (viewOf o)
      | none => .hole

/-- Link registers of a port (R552). -/
def linkA (p : Part) (n off : Nat) : Nat :=
  match p with
  | .sw => 0x100000 + n * 0x1000 + off
  | .ep => 0xC0000 + n * 0x1000 + off

/-- Photonic-engine registers (R503, R505); the end-point has one page. -/
def peA (p : Part) (g off : Nat) : Nat :=
  match p with
  | .sw => 0x300000 + g * 0x1000 + off
  | .ep => 0xB0000 + off

/-- The engine of a port and the port's place in it. -/
def engineOf (p : Part) (n : Nat) : Nat × Nat :=
  match p with
  | .sw => (n / 16, n % 16)
  | .ep => (0, n)

/-- Per-port registers of a photonic engine (Table 12.12). -/
def pePortA (p : Part) (n off : Nat) : Nat :=
  let e := engineOf p n
  peA p e.1 (off + e.2 * 0x20)

/-- Comb registers (R504, R505). -/
def combA (p : Part) (k off : Nat) : Nat :=
  match p with
  | .sw => 0x400000 + k * 0x1000 + off
  | .ep => 0xB1000 + k * 0x1000 + off

/-- Resilience block (R592, R593). -/
def resA (p : Part) (off : Nat) : Nat :=
  match p with
  | .sw => 0xA00000 + off
  | .ep => 0xD0000 + off

/-- Power and thermal block (R623, R625). -/
def pwrA (p : Part) (off : Nat) : Nat :=
  match p with
  | .sw => 0x40000 + off
  | .ep => 0xE0000 + off

/-- Bivouac block (R624, R625). -/
def bivA (p : Part) (off : Nat) : Nat :=
  match p with
  | .sw => 0x20000 + off
  | .ep => 0xE1000 + off

/-- Queue-sample block of a port or plane (R344). -/
def telA (p : Part) (n off : Nat) : Nat :=
  match p with
  | .sw => 0xA10000 + n * 0x1000 + off
  | .ep => 0x91000 + n / 2 * 0x1000 + n % 2 * 0x200 + off

/-- The port whose queue samples lie at an address, and the offset (R344). -/
def telPlace (p : Part) (a : Nat) : Option (Nat × Nat) :=
  match p with
  | .sw => if 0xA10000 ≤ a ∧ a < 0xB30000 then some ((a - 0xA10000) / 0x1000, a % 0x1000) else none
  | .ep => if 0x91000 ≤ a ∧ a < 0x95000 then some ((a - 0x91000) / 0x1000 * 2 + a % 0x1000 / 0x200, a % 0x200) else none

/-- `SEC_EVENT` and its counterpart. -/
def secEventA : Part → Nat
  | .sw => 0x80014
  | .ep => 0xF0018

/-- `SEC_AUTH_FAIL` and its counterpart. -/
def secAuthA : Part → Nat
  | .sw => 0x8000C
  | .ep => 0xF000C

/-- Number of ports of a part. -/
def portCount : Part → Nat
  | .sw => 288
  | .ep => 8

/-- Number of combs of a part (R468). -/
def combCount : Part → Nat
  | .sw => 90
  | .ep => 3

/-- Number of photonic engines of a part. -/
def engineCount : Part → Nat
  | .sw => 18
  | .ep => 1

/-- A port of a part. -/
def Common.port (c : Common) (n : Nat) : Port := Tab.get c.ports {} n

/-- Change a port. -/
def Common.modPort (c : Common) (n : Nat) (f : Port → Port) : Common :=
  { c with ports := Tab.upd c.ports {} n f }

/-- Change the training state of a port. -/
def Common.modTrain (c : Common) (n : Nat) (f : LinkTrain → LinkTrain) : Common :=
  c.modPort n (fun p => { p with t := f p.t })

/-- Change the flit layer of a port. -/
def Common.modFlit (c : Common) (n : Nat) (f : FlitLayer → FlitLayer) : Common :=
  c.modPort n (fun p => { p with fl := f p.fl })

/-- Change the egress queues of a port. -/
def Common.modEgress (c : Common) (n : Nat) (f : Egress → Egress) : Common :=
  c.modPort n (fun p => { p with eg := f p.eg })

/-- Change the optics of a port. -/
def Common.modOptics (c : Common) (n : Nat) (f : PortOptics → PortOptics) : Common :=
  c.modPort n (fun p => { p with op := f p.op })

/-- A comb of a part. -/
def Common.comb (c : Common) (k : Nat) : Comb := Tab.get c.opt.combs {} k

/-- Change a comb. -/
def Common.modComb (c : Common) (k : Nat) (f : Comb → Comb) : Common :=
  { c with opt := { c.opt with combs := Tab.upd c.opt.combs {} k f } }

/-- A photonic engine. -/
def Common.engine (c : Common) (g : Nat) : Engine := Tab.get c.opt.engines {} g

/-- Change a photonic engine. -/
def Common.modEngine (c : Common) (g : Nat) (f : Engine → Engine) : Common :=
  { c with opt := { c.opt with engines := Tab.upd c.opt.engines {} g f } }

/-- The pick number of a part. -/
def Common.pick (c : Common) : Nat := c.time.pick

/-- Now, in nanoseconds since the domain epoch. -/
def Common.now (c : Common) : Nat := c.time.pick * 1000 + c.time.ns

/-- A quiet pick (R34). -/
def quiet (p : Nat) : Bool := p % 1024 == 0

/-- Apply a function to a value for each element of a list, in order. -/
def each {α σ : Type} (l : List α) (s : σ) (f : σ → α → σ) : σ := l.foldl f s

/-- Count a transient error of a unit kind for the day's ledger record (R555, Table 14.4). -/
def Common.errTransient (c : Common) (kind : Nat) : Common :=
  { c with ledger := { c.ledger with errors := Tab.upd c.ledger.errors (0, 0) kind (fun e => (satAdd 65535 e.1 1, e.2)) } }

/-- Count a lasting error of a unit kind (R555, Table 14.4). -/
def Common.errLasting (c : Common) (kind : Nat) : Common :=
  { c with ledger := { c.ledger with errors := Tab.upd c.ledger.errors (0, 0) kind (fun e => (e.1, satAdd 65535 e.2 1)) } }

end Sys2Proof.Machine
end

