-- ==== Sys2Proof/Machine/Sha.lean ====
section
/-!
DEFINITION. SHA-384 with HMAC and HKDF over it, which the spec names (R223, R645, R647, R649, R652): FIPS 180-4, RFC 2104 and RFC 5869.
PRESUMED (notes/assumptions/3.md): the spec names the functions and does not restate them.
The constants are not listed: they are computed as FIPS 180-4 explains them, from roots of primes.
-/

namespace Sys2Proof.Machine

/-- The largest number below r + 2^n, and not below r, whose k-th power does not exceed v. -/
def rootBits (k v : Nat) : Nat → Nat → Nat
  | 0, r => r
  | n + 1, r => rootBits k v n (if (r + 2 ^ n) ^ k ≤ v then r + 2 ^ n else r)

/-- The first 64 bits of the fractional part of the k-th root of p. -/
def fracRoot (k p : Nat) : Word64 := BitVec.ofNat 64 (rootBits k (p * 2 ^ (64 * k)) 70 0)

/-- The first 80 primes. -/
def shaPrimes : List Nat :=
  (List.range 410).filter (fun p => decide (2 ≤ p) && (List.range 21).all (fun d => decide (d < 2) || p == d || p % d != 0))

/-- A block in work: the 16 words of the message schedule that come next, and the last four words of each of the two running sequences, newest first.
The first sequence holds FIPS 180-4's a to d, the second its e to h. -/
structure ShaRun where
  win : List Word64
  top : List Word64
  low : List Word64

/-- Exclusive-or of a word rotated right by each of some distances. -/
def rotXor (x : Word64) (ds : List Nat) : Word64 := ds.foldl (fun a d => a ^^^ x.rotateRight d) 0

/-- One round: the word in front of the window goes in, the schedule's next word comes in behind. -/
def ShaRun.turn (r : ShaRun) (k : Word64) : ShaRun :=
  let w := fun i => r.win.getD i 0
  let t := fun i => r.top.getD i 0
  let l := fun i => r.low.getD i 0
  let fresh := l 3 + rotXor (l 0) [14, 18, 41] + (l 2 ^^^ (l 0 &&& (l 1 ^^^ l 2))) + k + w 0
  let mix := rotXor (t 0) [28, 34, 39] + ((t 0 &&& (t 1 ||| t 2)) ||| (t 1 &&& t 2))
  { win := r.win.drop 1 ++ [w 0 + (rotXor (w 1) [1, 8] ^^^ (w 1 >>> 7)) + w 9 + (rotXor (w 14) [19, 61] ^^^ (w 14 >>> 6))],
    top := (fresh + mix) :: r.top.take 3,
    low := (t 3 + fresh) :: r.low.take 3 }

/-- The eight chaining words after one block of 128 bytes. -/
def shaBlock (h : List Word64) (b : List Byte) : List Word64 :=
  let start : ShaRun := { win := (List.range 16).map (fun i => BitVec.ofNat 64 (beNat ((b.drop (8 * i)).take 8))), top := h.take 4, low := h.drop 4 }
  let r := (shaPrimes.map (fracRoot 3)).foldl ShaRun.turn start
  (h.zip (r.top ++ r.low)).map (fun e => e.1 + e.2)

/-- Every one of `n` blocks of a padded message. -/
def shaBlocks : Nat → List Byte → List Word64 → List Word64
  | 0, _, h => h
  | n + 1, m, h => shaBlocks n (m.drop 128) (shaBlock h (m.take 128))

/-- SHA-384 of a message: 48 bytes. -/
def sha384 (m : List Byte) : List Byte :=
  let blocks := (m.length + 144) / 128
  let padded := m ++ 0x80 :: (List.replicate (128 * blocks - m.length - 17) 0 ++ beBytes (8 * m.length) 16)
  let words := shaBlocks blocks padded ((shaPrimes.drop 8).take 8 |>.map (fracRoot 2))
  (words.take 6).flatMap (fun w => beBytes w.toNat 8)

/-- HMAC-SHA-384 (RFC 2104). -/
def hmac384 (key msg : List Byte) : List Byte :=
  let k := if 128 < key.length then sha384 key else key
  let pad := fun (b : Byte) => (k ++ List.replicate (128 - k.length) 0).map (fun x => x ^^^ b)
  sha384 (pad 0x5C ++ sha384 (pad 0x36 ++ msg))

/-- The blocks of HKDF's second step from block i on: `n` of them, `last` the one before. -/
def hkdfBlocks (prk info : List Byte) : Nat → Nat → List Byte → List Byte
  | 0, _, _ => []
  | n + 1, i, last =>
    let t := hmac384 prk (last ++ info ++ [BitVec.ofNat 8 i])
    t ++ hkdfBlocks prk info n (i + 1) t

/-- HKDF-SHA-384 (RFC 5869): `len` bytes from input keying material under a salt and an info string. -/
def hkdf384 (salt ikm info : List Byte) (len : Nat) : List Byte := (hkdfBlocks (hmac384 salt ikm) info ((len + 47) / 48) 1 []).take len

end Sys2Proof.Machine
end

