-- ==== Sys2Proof/Machine/Crypt.lean ====
section
/-!
DEFINITION. AES-256-GCM and ECDSA P-384 as the standards that the spec names give them (R419, R645, R660, R703), and confidential traffic (R658 to R666).
-/

namespace Sys2Proof.Machine

/-! ### AES-256 (PRESUMED: FIPS 197, which the spec names and does not restate) -/

/-- Doubling in the AES field. -/
def gf2 (a : Nat) : Nat := if 128 ≤ a then (2 * a) % 256 ^^^ 0x1B else 2 * a

/-- Product in the AES field, by the low `n` bits of the second factor. -/
def gfMul : Nat → Nat → Nat → Nat
  | 0, _, _ => 0
  | n + 1, a, b => (if b % 2 = 1 then a else 0) ^^^ gfMul n (gf2 a) (b / 2)

/-- Inverse in the AES field, a^254; 0 for 0. -/
def gfInv (a : Nat) : Nat :=
  let m := gfMul 8
  let a2 := m a a
  let a3 := m a2 a
  let a12 := let x := m a3 a3; m x x
  let a15 := m a12 a3
  let a30 := m a15 a15
  let a60 := m a30 a30
  let a120 := m a60 a60
  let a240 := m a120 a120
  m (m a240 a12) a2

/-- Rotate a byte left. -/
def rotByte (b k : Nat) : Nat := (b * 2 ^ k % 256) ||| (b / 2 ^ (8 - k))

/-- The AES S-box. -/
def aesSub (a : Nat) : Nat :=
  let b := gfInv a
  b ^^^ rotByte b 1 ^^^ rotByte b 2 ^^^ rotByte b 3 ^^^ rotByte b 4 ^^^ 0x63

/-- XOR of two byte lists. -/
def xorList (a b : List Nat) : List Nat := List.zipWith (· ^^^ ·) a b

/-- Words of the AES-256 key schedule, newest first: `n` more words on a schedule that holds `i`. -/
def aesExpand : Nat → Nat → List (List Nat) → List (List Nat)
  | 0, _, ws => ws
  | n + 1, i, ws =>
    let t := ws.headD []
    let t1 := if i % 8 = 0 then
        xorList ((t.drop 1 ++ t.take 1).map aesSub) [2 ^ (i / 8 - 1), 0, 0, 0]
      else if i % 8 = 4 then t.map aesSub else t
    aesExpand n (i + 1) (xorList (ws.getD 7 []) t1 :: ws)

/-- The 15 round keys of a 32-byte key. -/
def aesKeys (key : List Byte) : List (List Nat) :=
  let k := key.map (·.toNat)
  let first := (List.range 8).map (fun i => (k.drop (4 * i)).take 4)
  let ws := (aesExpand 52 8 first.reverse).reverse
  (List.range 15).map (fun r => ((ws.drop (4 * r)).take 4).flatten)

/-- ShiftRows on a state of 16 bytes, column by column. -/
def aesShift (s : List Nat) : List Nat := (List.range 16).map (fun i => s.getD ((i + 4 * (i % 4)) % 16) 0)

/-- MixColumns. -/
def aesMix (s : List Nat) : List Nat :=
  (List.range 16).map (fun i =>
    let c := i / 4 * 4
    let a := fun k => s.getD (c + (i + k) % 4) 0
    gf2 (a 0) ^^^ (gf2 (a 1) ^^^ a 1) ^^^ a 2 ^^^ a 3)

/-- The rounds after the first key addition. -/
def aesRounds : List (List Nat) → List Nat → List Nat
  | [], s => s
  | [k], s => xorList (aesShift (s.map aesSub)) k
  | k :: ks, s => aesRounds ks (xorList (aesMix (aesShift (s.map aesSub))) k)

/-- One block enciphered, as a number most significant byte first. -/
def aesBlock (ks : List (List Nat)) (b : Nat) : Nat :=
  let s := (beBytes b 16).map (·.toNat)
  match ks with
  | [] => 0
  | k :: r => (aesRounds r (xorList s k)).foldl (fun a x => a * 256 + x) 0

/-! ### GCM (PRESUMED: NIST SP 800-38D) -/

/-- Product in the GCM field: bits of the first factor from bit 127 down. -/
def gcmMul (x : Nat) : Nat → Nat → Nat → Nat
  | 0, _, z => z
  | n + 1, v, z =>
    let z1 := if bit x n then z ^^^ v else z
    gcmMul x n (if v % 2 = 1 then v / 2 ^^^ 0xE1 * 2 ^ 120 else v / 2) z1

/-- GHASH over blocks. -/
def ghash (h : Nat) (bs : List Nat) : Nat := bs.foldl (fun y b => gcmMul (y ^^^ b) 128 h 0) 0

/-- Blocks of 16 bytes, the last padded with zeros. -/
def gcmBlocks : Nat → List Byte → List Nat
  | 0, _ => []
  | n + 1, l => if l.isEmpty then [] else beNat (l.take 16 ++ List.replicate (16 - l.length) 0) :: gcmBlocks n (l.drop 16)

/-- The key stream of `n` blocks after the first counter block. -/
def gcmStream (ks : List (List Nat)) (iv : Nat) : Nat → Nat → List Byte
  | 0, _ => []
  | n + 1, i => beBytes (aesBlock ks (iv * 2 ^ 32 + i)) 16 ++ gcmStream ks iv n (i + 1)

/-- Encipher or decipher bytes under a 96-bit initialisation vector. -/
def gcmCipher (key : List Byte) (iv : Nat) (m : List Byte) : List Byte :=
  List.zipWith (· ^^^ ·) m (gcmStream (aesKeys key) iv ((m.length + 15) / 16) 2)

/-- The 128-bit tag of a ciphertext. -/
def gcmTag (key : List Byte) (iv : Nat) (aad c : List Byte) : Nat :=
  let ks := aesKeys key
  let h := aesBlock ks 0
  let bs := gcmBlocks (aad.length + 1) aad ++ gcmBlocks (c.length + 1) c ++ [aad.length * 8 * 2 ^ 64 + c.length * 8]
  ghash h bs ^^^ aesBlock ks (iv * 2 ^ 32 + 1)

/-! ### ECDSA on P-384 (PRESUMED: FIPS 186, SEC 1) -/

/-- The prime of P-384. -/
def ecP : Nat := 2 ^ 384 - 2 ^ 128 - 2 ^ 96 + 2 ^ 32 - 1
/-- The order of its base point. -/
def ecN : Nat := 0xFFFFFFFFFFFFFFFFFFFFFFFFFFFFFFFFFFFFFFFFFFFFFFFFC7634D81F4372DDF581A0DB248B0A77AECEC196ACCC52973
/-- The coefficient b. -/
def ecB : Nat := 0xB3312FA7E23EE7E4988E056BE3F82D19181D9C6EFE8141120314088F5013875AC656398D8A2ED19D2A85C8EDD3EC2AEF
/-- The base point. -/
def ecG : Nat × Nat :=
  (0xAA87CA22BE8B05378EB1C71EF320AD746E1D3B628BA79B9859F741E082542A385502F25DBF55296C3A545E3872760AB7,
   0x3617DE4A96262C6F5D9E98BF9292DC29F8F41DBD289A147CE9DA3113B5F0B8C00A60B1CE1D7E819D7A431D7C90EA0E5F)

/-- Power modulo m, by the low `n` bits of the exponent. -/
def powMod (m : Nat) : Nat → Nat → Nat → Nat
  | 0, _, _ => 1
  | n + 1, b, e => (if e % 2 = 1 then b else 1) * powMod m n (b * b % m) (e / 2) % m

/-- Inverse modulo a prime. -/
def invMod (m a : Nat) : Nat := powMod m 384 (a % m) (m - 2)

/-- Difference modulo m. -/
def subMod (m a b : Nat) : Nat := (a + m - b % m) % m

/-- Double a point in Jacobian coordinates (Z = 0 is the point at infinity). -/
def ecDouble (p : Nat × Nat × Nat) : Nat × Nat × Nat :=
  let m := ecP
  let (x, y, z) := p
  let z2 := z * z % m
  let a := 3 * (subMod m x z2) * (x + z2) % m
  let y2 := y * y % m
  let s := 4 * x * y2 % m
  let x3 := subMod m (a * a % m) (2 * s)
  (x3, subMod m (a * subMod m s x3 % m) (8 * y2 * y2), 2 * y * z % m)

/-- Add two points in Jacobian coordinates. -/
def ecAdd (p q : Nat × Nat × Nat) : Nat × Nat × Nat :=
  let m := ecP
  let (x1, y1, z1) := p
  let (x2, y2, z2) := q
  if z1 = 0 then q
  else if z2 = 0 then p
  else
    let a := z1 * z1 % m
    let b := z2 * z2 % m
    let u1 := x1 * b % m
    let u2 := x2 * a % m
    let s1 := y1 * b % m * z2 % m
    let s2 := y2 * a % m * z1 % m
    if u1 = u2 then (if s1 = s2 then ecDouble p else (1, 1, 0))
    else
      let h := subMod m u2 u1
      let r := subMod m s2 s1
      let h2 := h * h % m
      let h3 := h * h2 % m
      let v := u1 * h2 % m
      let x3 := subMod m (subMod m (r * r % m) h3) (2 * v)
      (x3, subMod m (r * subMod m v x3 % m) (s1 * h3), h * z1 % m * z2 % m)

/-- A multiple of a point, by the low `n` bits of the factor. -/
def ecMul : Nat → Nat → Nat × Nat × Nat → Nat × Nat × Nat
  | 0, _, _ => (1, 1, 0)
  | n + 1, k, p =>
    let r := ecMul n (k / 2) (ecDouble p)
    if k % 2 = 1 then ecAdd p r else r

/-- A point lies on the curve. -/
def ecOn (x y : Nat) : Bool :=
  decide (x < ecP) && decide (y < ecP) && y * y % ecP == (x * x % ecP * x + 3 * (ecP - x) + ecB) % ecP

/-- ECDSA with SHA-384: an uncompressed public key of 97 bytes, a message, r and s. -/
def ecdsaOk (key msg : List Byte) (r s : Nat) : Bool :=
  let x := pn key 1 48
  let y := pn key 49 48
  if pb key 0 ≠ 4 ∨ !ecOn x y ∨ r = 0 ∨ ecN ≤ r ∨ s = 0 ∨ ecN ≤ s then false
  else
    let e := beNat (sha384 msg)
    let w := invMod ecN s
    let p := ecAdd (ecMul 384 (e * w % ecN) (ecG.1, ecG.2, 1)) (ecMul 384 (r * w % ecN) (x, y, 1))
    if p.2.2 = 0 then false
    else
      let z := invMod ecP p.2.2
      p.1 * z % ecP * z % ecP % ecN == r

/-- The public key of a private key: an uncompressed point of 97 bytes. -/
def ecPublic (d : Nat) : List Byte :=
  let p := ecMul 384 (d % ecN) (ecG.1, ecG.2, 1)
  let z := invMod ecP p.2.2
  4 :: (beBytes (p.1 * z % ecP * z % ecP) 48 ++ beBytes (p.2.1 * z % ecP * z % ecP * z % ecP) 48)

/-! ### The keys of a boot (R649) -/

/-- One derivation: HKDF-SHA-384 of a secret, under the inputs that the spec leaves open. -/
def deriveKey (what : Nat) (secret : List Byte) : List Byte :=
  let k := Config.kdfInputs what
  hkdf384 k.1 secret k.2.1 k.2.2

/-- The keys of a unique secret and an image digest: identity from the secret alone, compound from both, alias from the compound secret; the alias certificate carries the digest and is signed by the identity key. -/
def bootKeys (unique digest : List Byte) : BootKeys :=
  let ident := Config.keyScalar (deriveKey 0 unique)
  let compound := deriveKey 1 (unique ++ digest)
  let al := Config.keyScalar (deriveKey 2 compound)
  { identity := ident, compound := compound, alias_ := al, cert := { subject := ecPublic al, digest := digest, issuer := ecPublic ident } }

/-- The part derives its keys for an image that it boots or restarts on; the identity key's hash is `SEC_DEVID_HASH`. -/
def Security.derive (x : Security) (digest : List Byte) : Security :=
  let k := bootKeys x.unique digest
  { x with bootDigest := digest, keysAtBoot := k, devid := sha384 k.cert.issuer, uniqueClosed := true }

/-! ### Confidential packets -/

/-- The initialisation vector (R659). -/
def gcmIv (fromSwitch : Bool) (plane src pick ctr : Nat) : Nat :=
  pick % 2 ^ 64 * 2 ^ 32 + src % 256 * 2 ^ 24 + (if fromSwitch then plane % 8 * 2 ^ 21 + 2 ^ 20 else 0) + ctr % 2 ^ 19

/-- The additional data of a packet (R660): header with DST and PITCH as zero, low 32 bits of the authentication cell, low half of the check cell. -/
def Packet.aad (p : Packet) (authLow : Nat) : List Byte :=
  cellBytes (Packet.header { p with dst := 0, pitch := 0 }) ++ beBytes authLow 4 ++ beBytes p.checkLow 8

/-- The plane that a part names in an initialisation vector: its own for a switch. -/
def Common.ivPlane (c : Common) : Nat :=
  match c.part with
  | .sw => c.rf' 0x503000 14 12
  | .ep => 0

/-- Active phase of a pitch (R664). -/
def Common.phase (c : Common) (pitch : Nat) : Nat :=
  match c.part with
  | .sw => c.rf' 0x80008 pitch pitch
  | .ep => c.rf' 0xF0008 0 0

/-- Slot of the traffic keys: a switch keeps two for each pitch, an end-point two for its own. -/
def Common.keySlot (c : Common) (pitch phase : Nat) : Nat :=
  match c.part with
  | .sw => 2 * pitch + phase
  | .ep => phase

/-- The active key of a pitch. -/
def Common.activeKey (c : Common) (pitch : Nat) : Option TrafficKey := Tab.find c.sec.keys (c.keySlot pitch (c.phase pitch))

/-- Encrypt a packet afresh under the active key (R658 to R660, R663) and compute its CRC. `none` while the part may not encrypt. -/
def Common.encrypt (c : Common) (pitch : Nat) (p : Packet) : Option (Packet × Common) :=
  if c.sec.encHold then none
  else
    match c.activeKey pitch with
    | none => none
    | some k =>
      let q := { p with flags := { p.flags with encrypted := true } }
      let low := c.sec.ctr % 2 ^ 19 * 2 ^ 13 + c.pick % 4096 * 2 + c.phase pitch
      let iv := gcmIv (c.part == .sw) c.ivPlane p.src c.pick c.sec.ctr
      let ct := gcmCipher k.key iv p.data
      let tag := gcmTag k.key iv (q.aad low) ct / 2 ^ 32
      some (Packet.seal { q with data := ct, auth := some (BitVec.ofNat 128 (tag * 2 ^ 32 + low)) },
        { c with sec := { c.sec with ctr := c.sec.ctr + 1, encHigh := max c.sec.encHigh c.pick } })

/-- The pick nearest to `own` whose low 12 bits are given (R661). -/
def pickNear12 (own low : Nat) : Nat :=
  let base := own / 4096 * 4096 + low % 4096
  if own + 2048 < base then base - 4096 else if base + 2048 < own then base + 4096 else base

/-- The sender's pick that an authentication cell names. -/
def Common.senderPick (c : Common) (p : Packet) : Nat := pickNear12 c.pick (bits ((p.auth.getD 0).toNat) 12 1)

/-- Authenticate and decrypt a packet (R661): the packet with its plaintext, or `none` where the check fails. `plane` is the one it came by and `fromSwitch` who sealed it. -/
def Common.decrypt (c : Common) (pitch plane : Nat) (fromSwitch : Bool) (p : Packet) : Option Packet :=
  let a := (p.auth.getD 0).toNat
  let low := a % 2 ^ 32
  let pk := c.senderPick p
  match Tab.find c.sec.keys (c.keySlot pitch (a % 2)) with
  | none => none
  | some k =>
    let iv := gcmIv fromSwitch plane p.src pk (bits low 31 13)
    if pk + 64 < c.pick ∨ c.pick + 4 < pk ∨ gcmTag k.key iv (p.aad low) p.data / 2 ^ 32 ≠ a / 2 ^ 32 then none
    else some { p with data := gcmCipher k.key iv p.data }

/-- Count a failed authentication (R661). -/
def Common.authFailed (c : Common) (pitch : Nat) : Common :=
  (c.bump (secAuthA c.part)).event (secEventA c.part) (0x5 * 4096 + (match c.part with | .sw => pitch * 256 | .ep => 0))

end Sys2Proof.Machine
end

