-- ==== Sys2Proof/Machine/Numeric.lean ====
section
/-!
DEFINITION. Number formats, block images and the reduction arithmetic of spec/11: decoding (R431 to R438), FP32 mode (R441 to R443), exact mode (R444 to R446), choosing the output scale and encoding (R449 to R453), lists (R458, R459).
-/

namespace Sys2Proof.Machine

/-- What an element code stands for (Table 11.2, R433). `codes`: how many NaN or infinity codes the format has: 0 none, 1 only all ones (E4M3), 2 as IEEE. -/
inductive ElemKind where
  | fp (f : FpFmt) (codes : Nat)
  | int (frac : Nat)
  | tern
  | sign
  deriving DecidableEq, Repr

/-- Scales of Table 11.1. -/
inductive ScaleKind where
  | none
  | e8m0
  | bf16
  deriving DecidableEq, Repr

/-- A format of Table 11.1: element width and kind, scale, elements to a scale group (and to a format block), and the bound u. -/
structure NumFmt where
  width : Nat
  elem : ElemKind
  scale : ScaleKind := .none
  group : Nat := 32
  u : Int := 0
  deriving DecidableEq, Repr

/-- FP16. -/
def fp16 : FpFmt := { ebits := 5, mbits := 10, bias := 15 }
/-- E4M3. -/
def e4m3 : FpFmt := { ebits := 4, mbits := 3, bias := 7 }
/-- E5M2. -/
def e5m2 : FpFmt := { ebits := 5, mbits := 2, bias := 15 }
/-- E3M2. -/
def e3m2 : FpFmt := { ebits := 3, mbits := 2, bias := 3 }
/-- E2M3. -/
def e2m3 : FpFmt := { ebits := 2, mbits := 3, bias := 1 }
/-- E2M1. -/
def e2m1 : FpFmt := { ebits := 2, mbits := 1, bias := 1 }

/-- The format of a code (Table 11.1); `none` for a reserved code. -/
def numFmt (code : Nat) : Option NumFmt :=
  match code with
  | 0x00 => some { width := 32, elem := .fp fp32 2 }
  | 0x01 => some { width := 16, elem := .fp bf16 2 }
  | 0x02 => some { width := 16, elem := .fp fp16 2 }
  | 0x10 => some { width := 8, elem := .fp e4m3 1, u := 9 }
  | 0x11 => some { width := 8, elem := .fp e5m2 2, u := 16 }
  | 0x12 => some { width := 6, elem := .fp e3m2 0, u := 5 }
  | 0x13 => some { width := 6, elem := .fp e2m3 0, u := 3 }
  | 0x14 => some { width := 4, elem := .fp e2m1 0, u := 3 }
  | 0x18 => some { width := 8, elem := .int 0, u := 8 }
  | 0x19 => some { width := 4, elem := .int 0, u := 4 }
  | 0x20 => some { width := 8, elem := .fp e4m3 1, scale := .e8m0, u := 9 }
  | 0x21 => some { width := 8, elem := .fp e5m2 2, scale := .e8m0, u := 16 }
  | 0x22 => some { width := 6, elem := .fp e3m2 0, scale := .e8m0, u := 5 }
  | 0x23 => some { width := 6, elem := .fp e2m3 0, scale := .e8m0, u := 3 }
  | 0x24 => some { width := 4, elem := .fp e2m1 0, scale := .e8m0, u := 3 }
  | 0x28 => some { width := 8, elem := .int 6, scale := .e8m0, u := 2 }
  | 0x30 => some { width := 2, elem := .tern, scale := .bf16, group := 64 }
  | 0x31 => some { width := 1, elem := .sign, scale := .bf16, group := 128 }
  | _ => none

/-- The format of a code that is known to be listed; a reserved code reads as FP32 and is never used. -/
def fmtOf (code : Nat) : NumFmt := (numFmt code).getD { width := 32, elem := .fp fp32 2 }

/-- Bytes of one scale. -/
def NumFmt.scaleBytes (f : NumFmt) : Nat :=
  match f.scale with
  | .none => 0
  | .e8m0 => 1
  | .bf16 => 2

/-- Elements of a block (R351). -/
def blockElems : Nat := 8192

/-- Bytes of the element area of a block image (Table 11.3). -/
def NumFmt.elemArea (f : NumFmt) : Nat := 1024 * f.width

/-- Chunks of 256 bytes of a block image (Table 9.1). -/
def NumFmt.chunks (f : NumFmt) : Nat := (f.elemArea + blockElems / f.group * f.scaleBytes + 255) / 256

/-- Has the format 8 bits or fewer (R431)? -/
def NumFmt.narrow (f : NumFmt) : Bool := decide (f.width ≤ 8)

/-- The value of an element code alone (R432, R433). -/
def NumFmt.elemValue (f : NumFmt) (c : Nat) : Fp :=
  match f.elem with
  | .fp g codes =>
    let m := c % 2 ^ g.mbits
    let e := c / 2 ^ g.mbits % 2 ^ g.ebits
    let neg := bit c (g.ebits + g.mbits)
    if codes = 2 then g.decode c
    else if codes = 1 ∧ e = 2 ^ g.ebits - 1 ∧ m = 2 ^ g.mbits - 1 then .nan
    else if e = 0 then .fin neg m (1 - (g.bias : Int) - g.mbits)
    else .fin neg (2 ^ g.mbits + m) ((e : Int) - g.bias - g.mbits)
  | .int frac =>
    let v := untwos f.width c
    Fp.ofInt v (-(frac : Int)) false
  | .tern => if c = 0 then .fin false 0 0 else if c = 1 then .fin false 1 0 else if c = 3 then .fin true 1 0 else .nan
  | .sign => .fin (c == 1) 1 0

/-- The value of a scale code (R433). -/
def NumFmt.scaleValue (f : NumFmt) (c : Nat) : Fp :=
  match f.scale with
  | .none => .fin false 1 0
  | .e8m0 => if c = 0xFF then .nan else .fin false 1 ((c : Int) - 127)
  | .bf16 => bf16.decode c

/-- Is a value a NaN or an infinity? -/
def Fp.special : Fp → Bool
  | .fin _ _ _ => false
  | _ => true

/-- Numbers of `w` bits, lowest first (R434). -/
def splitBits (w : Nat) : Nat → Nat → List Nat
  | 0, _ => []
  | n + 1, x => x % 2 ^ w :: splitBits w n (x / 2 ^ w)

/-- The bit string of numbers of `w` bits (R434). -/
def joinBits (w : Nat) : List Nat → Nat
  | [] => 0
  | c :: r => c % 2 ^ w + 2 ^ w * joinBits w r

/-- A block image taken apart: codes of its elements and of its scales. -/
structure BlockImage where
  codes : List Nat
  scales : List Nat := []
  deriving DecidableEq, Repr

/-- The image that bytes spell (Table 11.3). -/
def NumFmt.image (f : NumFmt) (bs : List Byte) : BlockImage :=
  { codes := splitBits f.width blockElems (leNat (bs.take f.elemArea)),
    scales := if f.scale = .none then [] else splitBits (8 * f.scaleBytes) (blockElems / f.group) (leNat (bs.drop f.elemArea)) }

/-- The bytes of an image, padded to whole chunks (R435). -/
def NumFmt.imageBytes (f : NumFmt) (i : BlockImage) : List Byte :=
  leBytes (joinBits f.width i.codes) f.elemArea ++
    leBytes (joinBits (8 * f.scaleBytes) i.scales) (256 * f.chunks - f.elemArea)

/-- Element values of one scale group, all given the group's scale (R440). -/
def NumFmt.groupValues (f : NumFmt) (scale : Nat) (codes : List Nat) : List Fp :=
  let s := f.scaleValue scale
  codes.map (fun c => if f.scale = .none then f.elemValue c else (f.elemValue c).mul s)

/-- Cut a list into pieces of `n`; `fuel` bounds their number. -/
def pieces {α : Type} (n : Nat) : Nat → List α → List (List α)
  | 0, _ => []
  | fuel + 1, l => if l.isEmpty then [] else l.take n :: pieces n fuel (l.drop n)

/-- Values of an image, group by group (R440). -/
def NumFmt.values (f : NumFmt) (i : BlockImage) : List Fp :=
  let gs := pieces f.group (blockElems / f.group) i.codes
  let ss := if f.scale = .none then gs.map (fun _ => 0) else i.scales
  (List.zipWith (fun s g => f.groupValues s g) ss gs).flatten

/-- The largest finite value of a binary format: significand and exponent (Table 11.2). -/
def FpFmt.top (f : FpFmt) (codes : Nat) : Nat × Int :=
  match codes with
  | 2 => (2 ^ (f.mbits + 1) - 1, 2 ^ f.ebits - 2 - (f.bias : Int) - f.mbits)
  | 1 => (2 ^ (f.mbits + 1) - 2, 2 ^ f.ebits - 1 - (f.bias : Int) - f.mbits)
  | _ => (2 ^ (f.mbits + 1) - 1, 2 ^ f.ebits - 1 - (f.bias : Int) - f.mbits)

/-- The code of the largest finite value of a sign. -/
def FpFmt.topCode (f : FpFmt) (codes : Nat) (neg : Bool) : Nat :=
  let s := b2n neg * 2 ^ (f.ebits + f.mbits)
  match codes with
  | 2 => s + (2 ^ f.ebits - 1) * 2 ^ f.mbits - 1
  | 1 => s + 2 ^ (f.ebits + f.mbits) - 2
  | _ => s + 2 ^ (f.ebits + f.mbits) - 1

/-- A code rounded to a format with a finite overflow brought to the largest finite value (R441): code, saturated. -/
def FpFmt.encodeSat (f : FpFmt) (v : Fp) : Nat × Bool :=
  let c := f.encode v
  match v with
  | .fin neg _ _ => if c = f.infCode neg then (f.topCode 2 neg, true) else (c, false)
  | _ => (c, false)

/-- FP32-mode sum of two accumulators (R441). -/
def addSat (a b : Nat) : Nat × Bool := fp32.encodeSat ((fp32.decode a).add (fp32.decode b))

/-- FP32-mode ⊕ by ROP (R441, R442): 1 least, 2 greatest, otherwise the sum. -/
def fp32Join (rop a b : Nat) : Nat × Bool :=
  let x := fp32.decode a
  let y := fp32.decode b
  if rop = 1 then (if x.isNan || y.isNan then fp32.qnan else if y.below x then b else a, false)
  else if rop = 2 then (if x.isNan || y.isNan then fp32.qnan else if x.below y then b else a, false)
  else addSat a b

/-- A finished value (R449): a NaN, an infinity, or ± num ÷ den × 2^e. -/
inductive Rat2 where
  | nan
  | inf (neg : Bool)
  | fin (neg : Bool) (num den : Nat) (e : Int)
  deriving DecidableEq, Repr

/-- A dyadic value as a finished value. -/
def Fp.toRat : Fp → Rat2
  | .nan => .nan
  | .inf n => .inf n
  | .fin n m e => .fin n m 1 e

/-- Is a finished value special? -/
def Rat2.special : Rat2 → Bool
  | .fin _ _ _ _ => false
  | _ => true

/-- Compare a ÷ b × 2^e with c ÷ d × 2^k: is the first at most the second? -/
def ratLe (a b : Nat) (e : Int) (c d : Nat) (k : Int) : Bool :=
  let q := min e k
  decide (a * d * 2 ^ (e - q).toNat ≤ c * b * 2 ^ (k - q).toNat)

/-- The exponent of the leading bit of a positive num ÷ den × 2^e. -/
def ratLog (num den : Nat) (e : Int) : Int :=
  let l : Int := (bitLen num : Int) - bitLen den
  if ratLe 1 1 l num den 0 then e + l else e + l - 1

/-- How a value between two neighbours is rounded: to nearest even, or by a 24-bit draw (R451). -/
abbrev Draw := Option Nat

/-- num ÷ den × 2^(e − q) rounded to a whole number of grid steps; `neg` is the sign that the stochastic rule needs (R450, R451). -/
def roundGrid (neg : Bool) (num den : Nat) (e q : Int) (draw : Draw) : Nat :=
  let n := num * 2 ^ (e - q).toNat
  let d := den * 2 ^ (q - e).toNat
  let k := n / d
  let r := n % d
  match draw with
  | none => if d < 2 * r ∨ (2 * r = d ∧ k % 2 = 1) then k + 1 else k
  | some z =>
    if r = 0 then k
    else if neg then (if z * d < (d - r) * 2 ^ 24 then k else k + 1)
    else if z * d < r * 2 ^ 24 then k + 1 else k

/-- The code of a finite value in a binary format: nearest even or stochastic, beyond the largest finite value that value (R450). -/
def FpFmt.roundCode (f : FpFmt) (codes : Nat) (neg : Bool) (num den : Nat) (e : Int) (draw : Draw) : Nat × Bool :=
  let t := f.top codes
  let s := b2n neg * 2 ^ (f.ebits + f.mbits)
  let low : Int := 1 - (f.bias : Int) - f.mbits
  if num = 0 then (s, false)
  else if !ratLe num den e t.1 1 t.2 then (f.topCode codes neg, true)
  else
    let q := max (ratLog num den e - f.mbits) low
    let r := roundGrid neg num den e q draw
    -- on the lowest grid the code counts steps; above it each binade adds 2^mbits steps
    (s + r + (q - low).toNat * 2 ^ f.mbits, false)

/-- The code of v = y ÷ s in an element format (R450): code, saturated. -/
def NumFmt.elemCode (f : NumFmt) (neg : Bool) (num den : Nat) (e : Int) (draw : Draw) : Nat × Bool :=
  match f.elem with
  | .fp g codes => g.roundCode codes neg num den e draw
  | .int frac =>
    let topMag := if neg then 2 ^ (f.width - 1) else 2 ^ (f.width - 1) - 1
    if !ratLe num den e topMag 1 (-(frac : Int)) then (twos f.width (sgn neg topMag), true)
    else (twos f.width (sgn neg (roundGrid neg num den e (-(frac : Int)) draw)), false)
  | .tern =>
    let r := if ratLe 1 1 0 num den e then 1 else roundGrid neg num den e 0 draw
    (if r = 0 then 0 else if neg then 3 else 1, !ratLe num den e 1 1 0)
  | .sign => (b2n (neg && num != 0), false)

/-- The code of a special finished value (Table 11.5). -/
def NumFmt.specialCode (f : NumFmt) (v : Rat2) : Nat :=
  let neg := match v with
    | .inf n => n
    | _ => false
  let isNan := v == .nan
  if f.scale = .e8m0 then 0
  else
    match f.elem with
    | .fp g 2 =>
      if isNan then (if f.width = 8 then 0x7F else g.qnan) else g.infCode neg
    | .fp _ 1 => if isNan then 0x7F else if neg then 0xFF else 0x7F
    | .fp g codes => if isNan then 0 else g.topCode codes neg
    | .int _ => if isNan then 0 else if neg then 2 ^ (f.width - 1) else 2 ^ (f.width - 1) - 1
    | .tern => 2
    | .sign => b2n (neg && !isNan)

/-- The stochastic draw of an element (R451). -/
def drawOf (seed i : Nat) : Nat :=
  let m := 2 ^ 64
  let z := (seed ^^^ (i * 0x9E3779B97F4A7C15 % m)) % m
  let z := (z ^^^ (z / 2 ^ 30)) * 0xBF58476D1CE4E5B9 % m
  let z := (z ^^^ (z / 2 ^ 27)) * 0x94D049BB133111EB % m
  let z := z ^^^ (z / 2 ^ 31)
  z / 2 ^ 40

/-- The larger of two finite magnitudes. -/
def ratMax (a b : Nat × Nat × Int) : Nat × Nat × Int := if ratLe a.1 a.2.1 a.2.2 b.1 b.2.1 b.2.2 then b else a

/-- The sum of two finite magnitudes. -/
def ratAdd (a b : Nat × Nat × Int) : Nat × Nat × Int :=
  let q := min a.2.2 b.2.2
  let x := a.1 * 2 ^ (a.2.2 - q).toNat
  let y := b.1 * 2 ^ (b.2.2 - q).toNat
  if a.2.1 = b.2.1 then (x + y, a.2.1, q) else (x * b.2.1 + y * a.2.1, a.2.1 * b.2.1, q)

/-- Magnitudes of the finite values of a group. -/
def finMags (ys : List Rat2) : List (Nat × Nat × Int) :=
  ys.filterMap (fun y => match y with
    | .fin _ n d e => some (n, d, e)
    | _ => none)

/-- The smallest X with num ÷ den × 2^e at most m × 2^(k + X), clamped (Table 11.4). -/
def mxExponent (num den : Nat) (e : Int) (m : Nat) (k : Int) : Int :=
  if num = 0 then -127
  else
    let x := ratLog num den e - (k + bitLen m) + 1
    let x := if ratLe num den e m 1 (k + (x - 1)) then x - 1 else if ratLe num den e m 1 (k + x) then x else x + 1
    max (-127) (min 127 x)

/-- Largest finite element of an MX format: significand and exponent. -/
def NumFmt.elemTop (f : NumFmt) : Nat × Int :=
  match f.elem with
  | .fp g codes => g.top codes
  | .int frac => (2 ^ (f.width - 1) - 1, -(frac : Int))
  | _ => (1, 0)

/-- What a group encodes to: scale code, element codes, and which elements saturated. -/
structure GroupOut where
  scale : Nat := 0
  codes : List Nat := []
  sat : List Bool := []
  deriving DecidableEq, Repr

/-- The scale of an output group (R449): code, and whether it was clamped so that every element counts as saturated. -/
def NumFmt.chooseScale (f : NumFmt) (ys : List Rat2) : Nat × Bool :=
  let mags := finMags ys
  let a := mags.foldl ratMax (0, 1, 0)
  let special := ys.any Rat2.special
  let toBf (m : Nat × Nat × Int) : Nat × Bool := bf16.roundCode 2 false m.1 m.2.1 m.2.2 none
  match f.scale with
  | .none => (0, false)
  | .e8m0 => if special then (0xFF, false) else ((mxExponent a.1 a.2.1 a.2.2 f.elemTop.1 f.elemTop.2 + 127).toNat, false)
  | .bf16 =>
    if f.elem = .sign then
      (if special then (0x7FC0, false)
       else
         let s := mags.foldl ratAdd (0, 1, 0)
         toBf (s.1, s.2.1 * 128, s.2.2))
    else toBf a

/-- The sign of a finished value as an S1 element shows it: 1 when y < 0 (R450), or by the sign of an infinity (Table 11.5). -/
def Rat2.s1 : Rat2 → Nat
  | .fin neg num _ _ => b2n (neg && num != 0)
  | .inf neg => b2n neg
  | .nan => 0

/-- One element under its group's scale (R450, R453). -/
def NumFmt.encodeElem (f : NumFmt) (scale : Nat) (y : Rat2) (draw : Draw) : Nat × Bool :=
  match y with
  | .fin neg num den e =>
    if f.elem = .sign then (y.s1, false)
    else
      match f.scale with
      | .none => f.elemCode neg num den e draw
      | .e8m0 => if scale = 0xFF then (0, false) else f.elemCode neg num den (e - ((scale : Int) - 127)) draw
      | .bf16 =>
        match bf16.decode scale with
        | .fin _ m k => if m = 0 then (0, false) else f.elemCode neg num (den * m) (e - k) draw
        | _ => (0, false)
  | v => (f.specialCode v, false)

/-- Encode one output scale group (R449 to R453). -/
def NumFmt.encodeGroup (f : NumFmt) (ys : List Rat2) (draws : List Draw) : GroupOut :=
  let s := f.chooseScale ys
  let es := List.zipWith (fun y d => f.encodeElem s.1 y d) ys draws
  { scale := s.1, codes := es.map (·.1), sat := es.map (fun e => e.2 || s.2) }

/-- Encode a block: its image, and which elements saturated. -/
def NumFmt.encodeBlock (f : NumFmt) (ys : List Rat2) (draws : List Draw) : BlockImage × List Bool :=
  let n := blockElems / f.group
  let gs := List.zipWith (fun y d => f.encodeGroup y d) (pieces f.group n ys) (pieces f.group n draws)
  ({ codes := (gs.map (·.codes)).flatten, scales := if f.scale = .none then [] else gs.map (·.scale) }, (gs.map (·.sat)).flatten)

/-- Draws for `n` elements from array index `i` on; `none` under nearest even. -/
def drawsFrom (stoch : Bool) (seed : Nat) : Nat → Nat → List Draw
  | _, 0 => []
  | i, n + 1 => (if stoch then some (drawOf seed i) else none) :: drawsFrom stoch seed (i + 1) n

/-! ### Exact mode -/

/-- Reserved accumulator codes (R446). -/
def exNan : Nat := 2 ^ 63
/-- +∞. -/
def exPosInf : Nat := 2 ^ 63 - 1
/-- −∞. -/
def exNegInf : Nat := 2 ^ 63 + 1

/-- The bound exponent of one member's group (R444); `none` for a scale that gives no bound. -/
def NumFmt.bound (f : NumFmt) (scale : Nat) : Option Int :=
  match f.scale with
  | .none => some f.u
  | .e8m0 => if scale = 0xFF then none else some ((scale : Int) - 127 + f.u)
  | .bf16 =>
    match bf16.decode scale with
    | .fin _ m e => if m = 0 then none else some (e + bitLen m)
    | _ => none

/-- The alignment exponent of a group from the members' scales (R444). -/
def NumFmt.align (f : NumFmt) (scales : List Nat) : Int :=
  match scales.filterMap f.bound with
  | [] => 0
  | u :: us => us.foldl max u

/-- Alignment exponents of a block from every member's image. -/
def NumFmt.alignBlock (f : NumFmt) (imgs : List BlockImage) : List Int :=
  (List.range (blockElems / f.group)).map (fun g => f.align (imgs.map (fun i => i.scales.getD g 0)))

/-- An input in exact form (R445): accumulator code, flushed. -/
def exOf (t : Int) (v : Fp) : Nat × Bool :=
  match v with
  | .nan => (exNan, false)
  | .inf neg => (if neg then exNegInf else exPosInf, false)
  | .fin neg m e =>
    if m = 0 then (0, false)
    else if !ratLe 1 1 (t - 48) m 1 e then (0, true)
    else
      let k := e - (t - 55)
      (twos 64 (sgn neg (m * 2 ^ k.toNat / 2 ^ (-k).toNat)), false)

/-- Exact ⊕ (R446): code, saturated. -/
def exJoin (a b : Nat) : Nat × Bool :=
  if a = exNan ∨ b = exNan then (exNan, false)
  else if a = exPosInf ∨ a = exNegInf then
    (if (b = exPosInf ∨ b = exNegInf) ∧ a ≠ b then exNan else a, false)
  else if b = exPosInf ∨ b = exNegInf then (b, false)
  else
    let s := untwos 64 a + untwos 64 b
    let top : Int := 2 ^ 63 - 2
    if top < s then (twos 64 top, true) else if s < -top then (twos 64 (-top), true) else (twos 64 s, false)

/-- The value of an exact accumulator divided by `div` (R443, R445). -/
def exValue (t : Int) (div a : Nat) : Rat2 :=
  if a = exNan then .nan
  else if a = exPosInf then .inf false
  else if a = exNegInf then .inf true
  else
    let v := untwos 64 a
    .fin (decide (v < 0)) v.natAbs div (t - 55)

/-- The finished value of an FP32-mode accumulator (R443): for mean, divided in binary32. -/
def fp32Value (mean : Bool) (m a : Nat) : Rat2 :=
  match fp32.decode a with
  | .fin neg n e =>
    if mean then (fp32.decode (fp32.roundCode 2 neg n m e none).1).toRat else .fin neg n 1 e
  | .inf neg => .inf neg
  | .nan => .nan

/-- The tree of R370 over a list, joining neighbours; each join may saturate. `fuel` is at least the list's length. -/
def treeLevel {α : Type} (join : α → α → α) : List α → List α
  | a :: b :: r => join a b :: treeLevel join r
  | l => l

/-- The tree of R370. -/
def treeJoin {α : Type} (join : α → α → α) (d : α) : Nat → List α → α
  | 0, l => l.headD d
  | fuel + 1, l => match l with
    | [] => d
    | [a] => a
    | l => treeJoin join d fuel (treeLevel join l)

/-- A working element: accumulator code, and whether a step of its computation saturated (R454). -/
abbrev Acc := Nat × Bool

/-- Join two working elements. -/
def accJoin (exact : Bool) (rop : Nat) (a b : Acc) : Acc :=
  let r := if exact then exJoin a.1 b.1 else fp32Join rop a.1 b.1
  (r.1, r.2 || a.2 || b.2)

/-! ### Lists -/

/-- A pair of a list (Table 11.6): index and value code. -/
abbrev Pair := Nat × Nat

/-- Does pair `a` come before pair `b` of a top-k list (Table 11.6)? Value descending, −0 below +0, NaN below every number, ties by index. -/
def topkBefore (f : NumFmt) (a b : Pair) : Bool :=
  let x := f.elemValue a.2
  let y := f.elemValue b.2
  if x.isNan && y.isNan then decide (a.1 ≤ b.1)
  else if x.isNan then false
  else if y.isNan then true
  else if y.below x then true
  else if x.below y then false
  else decide (a.1 ≤ b.1)

/-- Merge two ordered lists by `before`, the first list's pair going first on a tie. -/
def mergeBy {α : Type} (before : α → α → Bool) : Nat → List α → List α → List α
  | 0, a, b => a ++ b
  | _ + 1, [], b => b
  | _ + 1, a, [] => a
  | fuel + 1, x :: xs, y :: ys =>
    if before x y then x :: mergeBy before fuel xs (y :: ys) else y :: mergeBy before fuel (x :: xs) ys

/-- Join neighbours of equal index in list order (R459). -/
def joinEqual {α : Type} (join : α → α → α) : Nat → List (Nat × α) → List (Nat × α)
  | 0, l => l
  | fuel + 1, (i, a) :: (j, b) :: r =>
    if i = j then joinEqual join fuel ((i, join a b) :: r) else (i, a) :: joinEqual join fuel ((j, b) :: r)
  | _ + 1, l => l

/-- The union of two index-sorted lists, equal indices joined (R459). -/
def unionJoin {α : Type} (join : α → α → α) : Nat → List (Nat × α) → List (Nat × α) → List (Nat × α)
  | 0, a, b => a ++ b
  | _ + 1, [], b => b
  | _ + 1, a, [] => a
  | fuel + 1, (i, a) :: xs, (j, b) :: ys =>
    if i < j then (i, a) :: unionJoin join fuel xs ((j, b) :: ys)
    else if j < i then (j, b) :: unionJoin join fuel ((i, a) :: xs) ys
    else (i, join a b) :: unionJoin join fuel xs ys

end Sys2Proof.Machine
end

