-- ==== Sys2Proof/Machine/Egress.lean ====
section
/-!
DEFINITION. Egress queues of a port (R328 to R333, R336 to R339): which queue a packet enters, which packet leaves next, gate windows, shapers, gates of R600, high-water marks.
-/

namespace Sys2Proof.Machine

/-- A selvedge port of the switch. -/
def selvedge (p : Part) (n : Nat) : Bool := p == .sw && decide (256 ≤ n)

/-- Data lanes among the roles of a port. -/
def dataLanes (roles : List Nat) : Nat := (roles.filter (· < 32)).length

/-- Data lanes in use on a port. -/
def Port.width (p : Port) : Nat := dataLanes p.t.roles

/-- Flit slots in a pick at a width (R508). -/
def flitSlots (w : Nat) : Nat := 125 * w / 8

/-- Flit slots of a pick that lane-control sets, and the four check sets of a lane check begun in it, leave free (R508, R540). -/
def Port.slotLimit (p : Port) (pick : Nat) : Nat :=
  (4000 - 8 * p.fl.laneOut.length - (if p.t.check = some pick then 256 else 0)) * p.width / 256

/-- Content cells in a pick at a width (Table 8.4). -/
def contentCells (w : Nat) : Nat := 15 * flitSlots w

/-- A port that is in service: RAISED or PAUSED (R536). -/
def Port.inService (p : Port) : Bool := p.t.st == .raised || p.t.st == .paused

/-- Entries of an egress queue. -/
def Egress.queue (e : Egress) (q : Nat) : List QEntry := Tab.get e.q [] q

/-- Replace the entries of an egress queue. -/
def Egress.setQueue (e : Egress) (q : Nat) (l : List QEntry) : Egress := { e with q := Tab.set e.q [] q l }

/-- Cells that a queue holds. -/
def queueCells (l : List QEntry) : Nat := l.foldl (fun a e => a + e.pkt.cellCount) 0

/-- Cells held by the queues 3 to 10. -/
def Egress.weightedCells (e : Egress) : Nat :=
  [3, 4, 5, 6, 7, 8, 9, 10].foldl (fun a q => a + queueCells (e.queue q)) 0

/-- No weighted queue holds a packet. -/
def Egress.weightedEmpty (e : Egress) : Bool :=
  [3, 4, 5, 6, 7, 8, 9, 10].all (fun q => (e.queue q).isEmpty)

/-- The weighted queue that a pitch's messages take on a selvedge port (`PORT_SELV_QMAP`, R328). -/
def Common.selvQueue (c : Common) (n pitch : Nat) : Nat :=
  let r := c.rdForce (linkA c.part n (if pitch < 8 then 0x3A0 else 0x3A4))
  3 + fld r (4 * (pitch % 8) + 2) (4 * (pitch % 8))

/-- The egress queue of a packet (Table 8.7); `excess` sends a VC3 or VC4 packet by W0 or W1 of a switch port (R320). -/
def Common.queueOf (c : Common) (n : Nat) (p : Packet) (excess : Bool) : Nat :=
  if p.vc = 0 then 0
  else if selvedge c.part n then c.selvQueue n p.pitch
  else if p.vc = 3 then (if excess ∧ c.part = .sw then 3 else 1)
  else if p.vc = 4 then (if excess ∧ c.part = .sw then 4 else 1)
  else if p.vc = 6 then 2
  else if p.vc = 1 then 3
  else if p.vc = 2 then 4
  else if p.vc = 5 then 5
  else 6

/-- Raise the depth high-water mark of a queue to its present depth (R339). -/
def Common.markDepth (c : Common) (n q : Nat) : Common :=
  let d := min 0xFFFF (queueCells ((c.port n).eg.queue q))
  let a := telA c.part n (0x40 + 4 * q)
  if fld (c.rd a) 15 0 < d then c.wrF a 15 0 d else c

/-- Raise the delay high-water mark of a queue by the sojourn of a packet that leaves (R339). -/
def Common.markDelay (c : Common) (n q at_ : Nat) : Common :=
  let d := min 0xFFFF ((c.now - at_) / 16)
  let a := telA c.part n (0x40 + 4 * q)
  if fld (c.rd a) 31 16 < d then c.wrF a 31 16 d else c

/-- The congestion that an end-point's own queues W0, W2 and W3 show now (R337). -/
def Common.ownLevel (c : Common) (n : Nat) : Nat :=
  let g := (c.port n).eg
  let k := queueCells (g.queue 3) + queueCells (g.queue 5) + queueCells (g.queue 6)
  let t := fld (c.rdForce 0x90040) 31 16
  if 4 * t < k then 2 else if t < k then 1 else 0

/-- Raise the congestion level that an end-point plane has seen in this pick (R337). -/
def Common.noteLevel (c : Common) (n lv : Nat) : Common :=
  match c.part with
  | .sw => c
  | .ep => c.modEgress n (fun g => { g with level := max g.level lv })

/-- Put a packet at the end of a queue; packets that the reed releases at one instant stand by ascending input port (R282). -/
def QEntry.place (e : QEntry) (l : List QEntry) : List QEntry :=
  let after := fun (x : QEntry) => match e.input, x.input with
    | some i, some j => x.at_ == e.at_ && decide (i < j)
    | _, _ => false
  let k := (l.reverse.takeWhile after).length
  l.take (l.length - k) ++ e :: l.drop (l.length - k)

/-- Put a packet into its queue. -/
def Common.enqueue (c : Common) (n q : Nat) (e : QEntry) : Common :=
  let c1 := (c.modEgress n (fun g => g.setQueue q (e.place (g.queue q)))).markDepth n q
  c1.noteLevel n (c1.ownLevel n)

/-- Put a packet at the head of a queue (re-issues, Table 8.7). -/
def Common.enqueueHead (c : Common) (n q : Nat) (e : QEntry) : Common :=
  let c1 := (c.modEgress n (fun g => g.setQueue q (e :: g.queue q))).markDepth n q
  c1.noteLevel n (c1.ownLevel n)

/-- Address of gate window w of a port (R330). -/
def gateA (p : Part) (n w : Nat) : Nat :=
  match p with
  | .sw => 0x100000 + n * 0x1000 + 0x360 + 4 * w
  | .ep => 0x90100 + (n * 8 + w) * 4

/-- Address of the quantum of weighted queue q (0 to 7). -/
def drrA (p : Part) (n q : Nat) : Nat :=
  match p with
  | .sw => 0x100000 + n * 0x1000 + 0x380 + 4 * q
  | .ep => 0x90200 + (n * 8 + q) * 4

/-- A gate window lets a packet of queue q occupy the ticks from `t` to `e` (R330): it ends before the window starts, or begins after it and ends before the window of the next pick. -/
def gateLets (g : Reg) (q t e : Nat) : Bool :=
  !flag g 29 || flag g (18 + q) || decide (e ≤ fld g 8 0) || (decide (fld g 17 9 ≤ t) && decide (e ≤ 500 + fld g 8 0))

/-- Ticks in which `k` cells leave at a width, whole flits and whole ticks. -/
def ticksOf (k w : Nat) : Nat := if w = 0 then 0 else ((k + 14) / 15 * 32 + w - 1) / w

/-- All eight windows let the packet start; past tick 500 every queue is admitted (R330). -/
def Common.gatesLet (c : Common) (n q t k w : Nat) : Bool :=
  decide (500 ≤ t) ||
  (List.range 8).all (fun i => gateLets (c.rd (gateA c.part n i)) q t (t + ticksOf k w))

/-- Cells of a virtual channel that may be sent now (R526). -/
def VcCredit.room (v : VcCredit) : Nat := (v.grant + v.latest + 16384 - v.sent % 16384) % 16384

/-- A packet has credit on its virtual channel (R526). -/
def Port.hasCredit (p : Port) (k : Packet) : Bool :=
  decide (k.cellCount ≤ (Tab.get p.cred {} k.vc).room)

/-- The first entry that may go: released, its VC in credit, and no released entry of its VC before it. -/
def firstReady (p : Port) (ok : Packet → Bool) : List QEntry → List Nat → Option QEntry
  | [], _ => none
  | e :: r, seen =>
    if e.released && !seen.contains e.pkt.vc then
      if p.hasCredit e.pkt && ok e.pkt then some e else firstReady p ok r (e.pkt.vc :: seen)
    else firstReady p ok r seen

/-- The address of the per-pitch shaper of a switch port (R333). -/
def pshpA (n pitch : Nat) : Nat := 0x100000 + n * 0x1000 + 0x3C0 + 4 * pitch

/-- Now in 1/1,024 of a timing-wheel slot: 65,536 to a pick (R325). -/
def Common.wheelNow (c : Common) : Nat := c.time.pick * 65536 + c.time.ns * 65536 / 1000

/-- The switch's per-pitch shaper holds a packet of this pitch (R333). -/
def Common.shaperHolds (c : Common) (n pitch : Nat) : Bool :=
  match c.part with
  | .ep => false
  | .sw =>
    fld (c.rdForce (pshpA n pitch)) 12 0 != 0 &&
    decide (c.wheelNow < Tab.get (c.port n).eg.shaper 0 pitch)

/-- Next eligible time after `k` cells: the previous one, not earlier than now less the burst allowance, plus k × unit / rate slots (Table 8.6). -/
def nextElig (prev now burst unit k rate : Nat) : Nat :=
  max prev (now - burst) + k * unit * 1024 / max 1 rate

/-- Charge a packet to the switch's per-pitch shaper (Table 8.6). -/
def Common.chargeShaper (c : Common) (n pitch k : Nat) : Common :=
  match c.part with
  | .ep => c
  | .sw =>
    let r := c.rdForce (pshpA n pitch)
    let rate := fld r 12 0
    if rate = 0 then c
    else
      let burst := max 19 (fld r 27 16) * 64 * 1024 / rate
      c.modEgress n (fun g => { g with shaper := Tab.upd g.shaper 0 pitch (fun t => nextElig t c.wheelNow burst 64 k rate) })

/-- Cells that a gate of n admits in a pick (R600). -/
def gateCells (g w : Nat) : Nat := g * contentCells w / 64

/-- Gate GL lets a packet of `k` cells go by a weighted queue or queue 2 of a switch port (Table 15.2). -/
def Common.glLets (c : Common) (n k : Nat) : Bool :=
  c.part == .ep || c.pwr.gl == 64 ||
  decide ((c.port n).eg.looseCells + k ≤ gateCells c.pwr.gl (c.port n).width)

/-- Gate GS lets a packet of `k` cells go by queue 1 of a switch port (Table 15.2). -/
def Common.gsLets (c : Common) (n k : Nat) : Bool :=
  c.part == .ep || c.pwr.gs == 64 ||
  decide ((c.port n).eg.stakedCells + k ≤ gateCells c.pwr.gs (c.port n).width)

/-- Queue 2 has sent its share of the pick (R328). -/
def Common.resCapped (c : Common) (n : Nat) : Bool :=
  c.part == .sw &&
  decide (fld (c.rdForce (linkA .sw n 0x340)) 6 0 * contentCells (c.port n).width ≤ 100 * (c.port n).eg.resCells)

/-- Which packets of queue q may start at tick `t` (R330, R333, R600), in a flit that holds `used` cells already. -/
def Common.mayStart (c : Common) (n q t : Nat) (k : Packet) (used : Nat := 0) : Bool :=
  c.gatesLet n q t (used + k.cellCount) (c.port n).width &&
  (if q = 0 then true
   else if q = 1 then c.gsLets n k.cellCount
   else if q = 2 then c.glLets n k.cellCount
   else c.glLets n k.cellCount && !c.shaperHolds n k.pitch)

/-- Take an entry out of its queue and account for it: deficit, cells of the pick, shaper, high-water mark, credit (R329, R339, R526). -/
def Common.takeEntry (c : Common) (n q : Nat) (e : QEntry) : Common :=
  let k := e.pkt.cellCount
  let c1 := (c.markDelay n q e.at_).modPort n (fun p =>
    { p with
      eg := { p.eg.setQueue q ((p.eg.queue q).erase e) with
        deficit := (if 3 ≤ q then Tab.upd p.eg.deficit 0 q (fun d => if (p.eg.queue q).length ≤ 1 then 0 else d - k) else p.eg.deficit),
        resCells := p.eg.resCells + (if q = 2 then k else 0),
        stakedCells := p.eg.stakedCells + (if q = 1 then k else 0),
        looseCells := p.eg.looseCells + (if 2 ≤ q then k else 0) },
      cred := Tab.upd p.cred {} e.pkt.vc (fun v => { v with sent := (v.sent + k) % 16384 }) })
  let c2 := { c1 with pwr := { c1.pwr with cells := c1.pwr.cells + k } }
  if 3 ≤ q then c2.chargeShaper n e.pkt.pitch k else c2

/-- The weighted queue after q in turn. -/
def nextTurn (q : Nat) : Nat := if q < 10 then q + 1 else 3

/-- Deficit round robin over the weighted queues (R329), at most `fuel` turns. -/
def Common.drr (c : Common) (n t used : Nat) : Nat → Option (QEntry × Common)
  | 0 => none
  | fuel + 1 =>
    let p := c.port n
    let q := p.eg.turn
    let pass := c.modEgress n (fun g => { g with turn := nextTurn q, taken := false })
    match firstReady p (fun k => c.mayStart n q t k used) (p.eg.queue q) [] with
    | none => Common.drr pass n t used fuel
    | some e =>
      let quantum := max 16 (fld (c.rdForce (drrA c.part n (q - 3))) 12 0)
      let d := Tab.get p.eg.deficit 0 q + (if p.eg.taken then 0 else quantum)
      if e.pkt.cellCount ≤ d then
        let c1 := c.modEgress n (fun g => { g with taken := true, deficit := Tab.put g.deficit q d })
        some (e, c1.takeEntry n q e)
      else
        let c1 := c.modEgress n (fun g => { g with turn := nextTurn q, taken := false, deficit := Tab.put g.deficit q d })
        Common.drr c1 n t used fuel

/-- The packet that the port sends next at tick `t` (R328): queue 0, then 1, then 2, then the weighted queues. In STANDBY only VC0 goes (R536). `used`: cells that its flit holds already. -/
def Common.serve (c : Common) (n t : Nat) (used : Nat := 0) : Option (QEntry × Common) :=
  let p := c.port n
  let ready := fun q => firstReady p (fun k => c.mayStart n q t k used) (p.eg.queue q) []
  match ready 0 with
  | some e => some (e, c.takeEntry n 0 e)
  | none =>
    if p.t.st != .raised then none
    else
      match ready 1 with
      | some e => some (e, c.takeEntry n 1 e)
      | none =>
        match (if c.resCapped n && !p.eg.weightedEmpty then none else ready 2) with
        | some e => some (e, c.takeEntry n 2 e)
        | none => c.drr n t used 32

/-- Return cells of a virtual channel to the far end (R526); VC5 credits of a domain port go back at the rate of gate GL (Table 15.2). -/
def Common.freeCells (c : Common) (n vc k : Nat) : Common :=
  let back := fun (p : Port) (x : Nat) => Tab.upd p.cred {} vc (fun v => { v with freed := (v.freed + x) % 16384 })
  c.modPort n (fun p =>
    if vc = 5 ∧ c.part = .sw ∧ c.pwr.gl < 64 then
      if p.eg.vc5Back + k ≤ gateCells c.pwr.gl p.width then
        { p with cred := back p k, eg := { p.eg with vc5Back := p.eg.vc5Back + k } }
      else { p with eg := { p.eg with vc5Held := p.eg.vc5Held + k } }
    else { p with cred := back p k })

/-- At a boundary the held VC5 credits go back as far as the gate of the new pick lets (R600). -/
def Common.returnVc5 (c : Common) (n : Nat) : Common :=
  c.modPort n (fun p =>
    let x := min p.eg.vc5Held (gateCells c.pwr.gl p.width)
    { p with
      cred := Tab.upd p.cred {} 5 (fun v => { v with freed := (v.freed + x) % 16384 }),
      eg := { p.eg with vc5Held := p.eg.vc5Held - x, vc5Back := x, resCells := 0, stakedCells := 0, looseCells := 0 } })

/-- Take a packet that a packet command handles out of the port's list of received packets. -/
def Common.takeRx (c : Common) (n : Nat) (p : Packet) : Common :=
  c.modFlit n (fun f => { f with rxPackets := f.rxPackets.erase p })

/-- The congestion level of a switch output: cells of its weighted queues against PORT_CN_THRESH (R336). -/
def Common.congestion (c : Common) (n : Nat) : Nat :=
  let k := (c.port n).eg.weightedCells
  let t := fld (c.rdForce (linkA .sw n 0x354)) 15 0
  if 16 * t < k then 3 else if 4 * t < k then 2 else if t < k then 1 else 0

end Sys2Proof.Machine
end

