-- ==== Sys2Proof/Machine/Link.lean ====
section
/-!
DEFINITION. Operations on a link port that both parts share (spec/13): events, strikes, raises and their stages, lane exchanges, drain and pause.
Consequences that a port's leaving or entering service has for the rest of its part are drawn where the command ends (Sys2Proof/Machine/Ops.lean).
-/

namespace Sys2Proof.Machine

/-- Causes of `PORT_LINK_EVENT` (Table 13.16). -/
def causeRaised : Nat := 0x01
/-- Standby. -/
def causeStandby : Nat := 0x02
/-- Admitted. -/
def causeAdmitted : Nat := 0x03
/-- Stage timeout. -/
def causeTimeout : Nat := 0x10
/-- Ends differ in mode (R529). -/
def causeMode : Nat := 0x11
/-- Link version 0 (R531). -/
def causeVersion : Nat := 0x12
/-- Fewer than 8 data lanes (R530, R543). -/
def causeLanes : Nat := 0x13
/-- Fibre too long (R535). -/
def causeReach : Nat := 0x14
/-- Pick numbers differ (R535). -/
def causePick : Nat := 0x15
/-- Wiring mismatch. -/
def causeWiring : Nat := 0x20
/-- Wiring pair. -/
def causePair : Nat := 0x21
/-- Identity changed at resume (R537). -/
def causeIdentity : Nat := 0x22
/-- Strike command. -/
def causeCommand : Nat := 0x30
/-- Far end struck. -/
def causeFar : Nat := 0x31
/-- Light lost or launch limit. -/
def causeLight : Nat := 0x32
/-- Struck by the core (R121, R284). -/
def causeCore : Nat := 0x33
/-- Struck for a bad CRC-64 (R122, R67). -/
def causeCrc : Nat := 0x34
/-- Four clean checks in 1,000 picks (R541). -/
def causeChecks : Nat := 0x35

/-- Record an event of a port (`PORT_LINK_EVENT`). -/
def Common.linkEvent (c : Common) (n cause stage : Nat) : Common :=
  c.event (linkA c.part n 0x008) (cause * 256 + stage % 16 * 16)

/-- Send a lane-control set (R508). -/
def Common.sendLane (c : Common) (n : Nat) (s : LaneSet) : Common :=
  c.modPort n (fun p => { p with fl := p.fl.addLane p.t.check.isSome s })

/-- Queue a link-control message for a CTRL flit. -/
def Common.sendCtrl (c : Common) (n : Nat) (m : LinkMsg) : Common :=
  c.modFlit n (fun f => { f with ctrlOut := f.ctrlOut ++ [m] })

/-- The position of a port's comb in its engine, and the engine (Table 12.2). -/
def posOf (p : Part) (n : Nat) : Nat × Nat :=
  match p with
  | .sw => (n / 16, n % 16 / 4)
  | .ep => (0, n / 4)

/-- The spare comb of an engine (Table 12.2). -/
def spareOf (p : Part) (g : Nat) : Nat :=
  match p with
  | .sw => 5 * g + 4
  | .ep => 2

/-- The position's own comb (Table 12.2). -/
def combAt (p : Part) (g pos : Nat) : Nat :=
  match p with
  | .sw => 5 * g + pos
  | .ep => pos

/-- The comb that feeds a position now: the spare once it has been swapped in. -/
def Common.feeding (c : Common) (g pos : Nat) : Nat :=
  let s := c.comb (spareOf c.part g)
  if s.st == .lit && s.pos == pos then spareOf c.part g else combAt c.part g pos

/-- The comb of a port is lit. -/
def Common.lit (c : Common) (n : Nat) : Bool :=
  let w := posOf c.part n
  (c.comb (c.feeding w.1 w.2)).st == .lit

/-- Role of a channel. -/
def roleOf (roles : List Nat) (ch : Nat) : Nat := roles.getD ch 0x22

/-- A code group of 8b/10b: a control group K or a data group D, by its byte (IEEE 802.3 Clause 36: Kx.y and Dx.y have the byte 32 y + x). -/
inductive CodeGroup where
  | k (b : Nat)
  | d (b : Nat)
  deriving DecidableEq, Repr

/-- Kx.y (Table 13.1). -/
def CodeGroup.kxy (x y : Nat) : CodeGroup := .k (32 * y + x)

/-- One step of PRBS7, x⁷ + x⁶ + 1: the bit sent, and the next content of its seven stages. -/
def prbs7 (r : Nat) : Nat × Nat :=
  let b := (r / 64 + r / 32) % 2
  (b, (2 * r + b) % 128)

/-- Eight bits of PRBS7 as a byte, the first bit sent in bit 0, and the stages after them. -/
def prbsByte (r : Nat) : Nat × Nat := (List.range 8).foldl (fun a i => let t := prbs7 a.2; (a.1 + t.1 * 2 ^ i, t.2)) (0, r)

/-- Data groups of PRBS7: `n` of them. -/
def prbsGroups : Nat → Nat → List CodeGroup
  | 0, _ => []
  | n + 1, r => let t := prbsByte r; .d t.1 :: prbsGroups n t.2

/-- The check set of a channel (Table 13.2): 64 code groups, seeded with the channel number plus 1. -/
def checkSet (ch : Nat) : List CodeGroup := .kxy 28 5 :: .kxy 28 2 :: prbsGroups 62 (ch + 1)

/-- The pick marker of a channel (Tables 13.2 and 13.3). -/
def markerSet (ch role pick state : Nat) (fromSwitch : Bool) (echo turn : Nat) : List CodeGroup :=
  [.kxy 28 5, .kxy 28 1, .d (ch % 64), .d role, .d (pick / 256 ^ (ch % 8) % 256), .d (state % 8 + 8 * b2n fromSwitch), .d (echo % 256), .d (min 255 turn)]

/-- A training set, as an end sends it (Tables 13.2, R529): D21.5 is 0xB5. -/
def TrainingSet.groups (s : TrainingSet) : List CodeGroup :=
  [.kxy 28 5, .kxy 28 3, .d s.chan, .d s.role, .d s.stage, .d (b2n s.exitMet + 2 * b2n s.commonRef + 4 * b2n s.spread), .d s.dsk, .d 0xB5]

/-- CHK of a set: the exclusive-or of the data bytes in groups 2 to 6 (R510). -/
def chkOf (l : List Nat) : Nat := l.foldl (· ^^^ ·) 0

/-- A set of two control groups, five data bytes, and CHK. -/
def checkedSet (y : Nat) (l : List Nat) : List CodeGroup := [.kxy 28 5, .kxy 28 y] ++ (l ++ [chkOf l]).map .d

/-- A lane-control set on a lane (Tables 13.2, 13.12). -/
def LaneSet.groups (s : LaneSet) : List CodeGroup := checkedSet 4 [s.cmd, s.arg0, s.arg1, s.arg2, s.arg3]

/-- The probe set of a channel (Table 13.2). -/
def probeSet (ch : Nat) : List CodeGroup := checkedSet 6 [ch, 0xB5, 0xB5, 0xB5, 0xB5]

/-- A pick of the idle-spare pattern (R508, R511): the marker, check sets back to back through the 4,000 code groups of the flit stream, fill to the end of `groups` code groups. -/
def idleSparePick (marker : List CodeGroup) (ch groups : Nat) : List CodeGroup :=
  marker ++ ((List.replicate 63 (checkSet ch)).flatten).take 4000 ++ List.replicate (groups - 4008) (.kxy 28 0)

/-- What a channel of a port carries (R466, R467, Table 13.11). -/
inductive LaneContent where
  | dark
  | training
  | clock
  | idleSpare
  | flits
  deriving DecidableEq, Repr

/-- What channel `ch` carries at this end: nothing without light or where it is out or parked, training sets in stages 3 to 6, the idle-spare pattern on a spare and on every channel of a port that is struck and lit. -/
def Port.carries (p : Port) (lit forwarded : Bool) (ch : Nat) : LaneContent :=
  let role := roleOf p.t.roles ch
  if !lit ∨ !p.op.shutter ∨ 34 ≤ ch ∨ 0x22 ≤ role then .dark
  else if p.t.st = .struck then .idleSpare
  else if (p.t.st = .raising ∨ p.t.st = .paused) ∧ p.t.stage ≤ 6 then .training
  else if role = 0x21 then .idleSpare
  else if role = 0x20 then (if forwarded then .clock else .idleSpare)
  else .flits

/-- The channel that holds a role, if one does. -/
def chanOf (roles : List Nat) (role : Nat) : Option Nat :=
  (List.range 34).find? (fun ch => roleOf roles ch == role)

/-- A ring of a port. -/
def Port.ring (p : Port) (r : RingId) : Ring :=
  if r.tx then Tab.get p.op.tx {} r.chan else Tab.get p.op.rx {} r.chan

/-- Change a ring of a port. -/
def Common.modRing (c : Common) (n : Nat) (r : RingId) (f : Ring → Ring) : Common :=
  c.modOptics n (fun o =>
    if r.tx then { o with tx := Tab.upd o.tx {} r.chan f } else { o with rx := Tab.upd o.rx {} r.chan f })

/-- Both rings of a channel are locked. -/
def Port.chanLocked (p : Port) (ch : Nat) : Bool :=
  (Tab.get p.op.tx {} ch).locked && (Tab.get p.op.rx {} ch).locked

/-- Every ring of every channel that is not out is locked (stage 2). -/
def Port.ringsLocked (p : Port) : Bool :=
  (List.range 34).all (fun ch => roleOf p.t.roles ch == 0x22 || p.chanLocked ch)

/-- The leading end of a port: the switch of a domain port, the lower serial number of a selvedge port (R515). -/
def Common.leading (c : Common) (n : Nat) : Bool :=
  match c.part with
  | .ep => false
  | .sw =>
    if n < 256 then true
    else decide (c.id.serial < ((c.port n).far.ident.getD {}).serial)

/-- HOLD of a port in picks, at least 128 (Table 13.14). -/
def Common.holdOf (c : Common) (n : Nat) : Nat := max 128 (c.rf' (linkA c.part n 0x010) 31 16)

/-- Step 1 of a strike (Table 13.13): the port leaves service; exchanges, checks and drains end (R544). -/
def Common.leaveRaised (c : Common) (n : Nat) : Common :=
  let kept := (c.port n).ringsLocked && (c.port n).t.st != .raising
  c.modPort n (fun p =>
    { p with
      t := { p.t with
        st := .struck, stage := 0, resume := false, exchange := none, widthEx := none, check := none, badChans := [], cleanChecks := [],
        drainSent := false, drainRecv := false, doneSent := false, doneRecv := false, drainLater := false,
        ringsKept := kept, raiseAsked := false, holdUntil := c.pick + c.holdOf n },
      far := { p.far with admitCode := 0 } })

/-- Step 4 of a strike: flits stop, unacknowledged flits are discarded, credits lapse; a cold strike closes the shutter and goes to PROBE (R548). -/
def Common.completeStrike (c : Common) (n : Nat) : Common :=
  let cold := ((c.port n).t.strike.map (·.cold)).getD false
  c.modPort n (fun p =>
    { p with
      t := { p.t with strike := none, ringsKept := p.t.ringsKept && !cold },
      fl := p.fl.cleared,
      cred := [],
      mark := {},
      op := if cold then { p.op with shutter := false, ostate := .probe } else p.op })

/-- Complete the strike when its third step has emptied the replay buffer. -/
def Common.strikeSettled (c : Common) (n : Nat) : Common :=
  let p := c.port n
  match p.t.strike with
  | some k => if k.step = 3 ∧ p.fl.replay = [] then c.completeStrike n else c
  | none => c

/-- An orderly strike (Table 13.13) with its cause already recorded: step 1 done, STRIKE sent. -/
def Common.strikeRun (c : Common) (n cause : Nat) (cold : Bool) : Common :=
  let c1 := (c.leaveRaised n).modTrain n (fun t => { t with strike := some { step := 2, cause := cause, cold := cold, startPick := c.pick } })
  c1.sendLane n { cmd := 0x09, arg0 := cause }

/-- An orderly strike (R546). A port that is struck already stays struck; a strike that comes cold while an orderly one runs makes that one cold. -/
def Common.strikeOrderly (c : Common) (n cause : Nat) (cold : Bool) : Common :=
  let p := c.port n
  if p.t.st = .struck then
    match p.t.strike with
    | some k => c.modTrain n (fun t => { t with strike := some { k with cold := k.cold || cold } })
    | none =>
      if cold then c.modPort n (fun p => { p with t := { p.t with ringsKept := false }, op := { p.op with shutter := false, ostate := .probe } })
      else c
  else (c.linkEvent n cause p.t.stage).strikeRun n cause cold

/-- Tell the far end of an abrupt strike: STRIKE every 250 ns for 2 µs (R547). -/
def Common.tellStrike (c : Common) (n cause : Nat) : Common :=
  (c.modTrain n (fun t => { t with telling := some (cause, c.now) })).sendLane n { cmd := 0x09, arg0 := cause }

/-- An abrupt strike (R547): steps 1 and 4 at once; with the shutter open the far end is told. -/
def Common.strikeAbrupt (c : Common) (n cause : Nat) : Common :=
  let p := c.port n
  if p.t.st = .struck ∧ p.t.strike = none then c
  else
    let c1 := if p.t.st = .struck then c else (c.linkEvent n cause p.t.stage).leaveRaised n
    let c2 := (c1.modTrain n (fun t => { t with strike := none })).completeStrike n
    if p.op.shutter then c2.tellStrike n cause else c2

/-- A failed raise (R538): the cause and the stage are recorded, the port is struck; the third failure running waits for a command. -/
def Common.failRaise (c : Common) (n cause : Nat) : Common :=
  let p := c.port n
  let c1 := ((c.linkEvent n cause p.t.stage).strikeRun n cause false)
  c1.modTrain n (fun t => { t with failedRaises := t.failedRaises + 1, needCmd := t.needCmd || decide (2 ≤ t.failedRaises), warm := false })

/-- Own IDENT (R532): the far end's view of the node, plane and domain on a switch; `EP_LINK_NODE` and `EP_PITCH.ID` on an end-point. -/
def Common.ownIdent (c : Common) (n : Nat) : Ident :=
  match c.part with
  | .sw =>
    let r := c.rd 0x503000
    let far := ((c.port n).far.ident.getD {})
    { serial := c.id.serial, port := n, plane := fld r 14 12, node := far.node, nodeValid := far.nodeValid, domain := fld r 11 0, pitch := 0 }
  | .ep =>
    let r := c.rd 0xC8000
    { serial := c.id.serial, port := n, plane := n, node := fld r 7 0, nodeValid := flag r 8, domain := fld r 27 16, pitch := c.rf' 0xF0000 3 0 }

/-- Own CAPS (Table 13.9): version 1, the part's kind, its mode, its replay buffer. -/
def Common.ownCaps (c : Common) (n : Nat) : Caps :=
  { lverMax := 1, kind := (match c.part with | .sw => 1 | .ep => 2),
    commonRef := flag (c.rd (pePortA c.part n 0x058)) 0, spread := flag (c.rd (pePortA c.part n 0x058)) 1,
    eyeScan := true, replayFlits := if selvedge c.part n then 2048 else 512 }

/-- Grants that an end gives at stage 10 (Table 13.7). -/
def ownGrants (p : Part) (n : Nat) : List Nat :=
  match p with
  | .ep => [128, 3072, 3072, 2048, 2048, 0, 4096, 1024]
  | .sw => if n < 256 then [128, 3072, 3072, 2048, 2048, 3072, 0, 1024] else [128, 0, 0, 0, 0, 0, 0, 12288]

/-- Unacknowledged flits that a port holds at most (R520). -/
def replayMax (p : Part) (n : Nat) : Nat := if selvedge p n then 2047 else 511

/-- Every CTRL flit of the port has left and been acknowledged. -/
def Port.ctrlAcked (p : Port) : Bool :=
  p.fl.ctrlOut.isEmpty && p.fl.replay.all (fun h => h.flit.ftype != .ctrl)

/-- The wiring check of an end (R533): the far identity against the plan on a switch, against its own place on an end-point. -/
def Common.wiringPasses (c : Common) (n : Nat) : Bool :=
  match (c.port n).far.ident with
  | none => false
  | some i =>
    let kind := ((c.port n).far.caps.getD {}).kind
    match c.part with
    | .sw =>
      let w := c.rd (linkA .sw n 0x048)
      let serial := (c.rd (linkA .sw n 0x040)).toNat + (c.rd (linkA .sw n 0x044)).toNat * 2 ^ 32
      let plane := c.rf' 0x503000 14 12
      !flag w 31 ||
      ((serial == 0 || serial == i.serial) && fld w 8 0 == i.port && fld w 11 9 == i.plane &&
       (if n < 256 then kind == 2 && i.port == plane
        else kind == 1 && i.plane == plane && i.domain == fld w 27 16))
    | .ep => kind == 1 && i.plane == n && decide (i.port < 256) && i.domain == c.rf' 0xC8000 27 16

/-- The identity that the plan of port `n` expects, met by an identity: the test of R534. -/
def Common.planExpects (c : Common) (n : Nat) (i : Ident) : Bool :=
  let w := c.rd (linkA .sw n 0x048)
  let serial := (c.rd (linkA .sw n 0x040)).toNat + (c.rd (linkA .sw n 0x044)).toNat * 2 ^ 32
  flag w 31 && (serial == 0 || serial == i.serial) && fld w 8 0 == i.port && fld w 11 9 == i.plane

/-- The quarantined port whose plan expects the identity of port `n` while the plan of `n` expects that port's (R534). -/
def Common.pairOf (c : Common) (n : Nat) : Option Nat :=
  match c.part, (c.port n).far.ident with
  | .sw, some i =>
    (c.ports.find? (fun e =>
      e.1 != n && e.2.t.st == .quarantined && c.planExpects e.1 i &&
      (match e.2.far.ident with | some j => c.planExpects n j | none => false))).map (·.1)
  | _, _ => none

/-- Quarantine a port whose own check failed (R533, R534). -/
def Common.quarantine (c : Common) (n : Nat) : Common :=
  let c1 := c.modTrain n (fun t => { t with st := .quarantined, stage := 0 })
  match c1.pairOf n with
  | some m =>
    let c2 := (((c1.event 0x503004 (0x8000 + n)).wr 0x503008 (BitVec.ofNat 32 m)).linkEvent n causePair 9).linkEvent m causePair 9
    let c3 := (c2.modPort n (fun p => { p with far := { p.far with ownWire := 2 } })).modPort m (fun p => { p with far := { p.far with ownWire := 2 } })
    (c3.sendCtrl n (.wire 2 m)).sendCtrl m (.wire 2 n)
  | none =>
    let c2 := match c.part with | .sw => c1.event 0x503004 n | .ep => c1
    ((c2.linkEvent n causeWiring 9).modPort n (fun p => { p with far := { p.far with ownWire := 1 } })).sendCtrl n (.wire 1 0)

/-- Data and spare channels of a list of roles that are not in `bad`: the good channels of R543. -/
def goodChans (roles bad : List Nat) : List Nat :=
  (List.range 34).filter (fun ch => (decide (roleOf roles ch < 32) || roleOf roles ch == 0x21) && !bad.contains ch)

/-- The largest width that a number of good channels allows (R543); 0 below 8. -/
def widthFor (k : Nat) : Nat := if 32 ≤ k then 32 else if 24 ≤ k then 24 else if 16 ≤ k then 16 else if 8 ≤ k then 8 else 0

/-- Roles at a width: lanes 0 to W − 1 on the good channels in ascending order, the other good ones spare (R543). -/
def rolesAtWidth (roles bad : List Nat) (w : Nat) : List Nat :=
  let good := goodChans roles bad
  (List.range 34).map (fun ch =>
    match good.findIdx? (· == ch) with
    | some k => if k < w then k else 0x21
    | none => if decide (roleOf roles ch < 32) then 0x22 else roleOf roles ch)

/-- Roles formed by the leading end from the union of out proposals (R530, R465, R467). -/
def formRoles (out : List Nat) (commonRef : Bool) : List Nat :=
  let start := defaultRoles.map (fun r => if commonRef && r == 0x20 then 0x21 else r)
  let roles0 := (List.range 34).map (fun ch => if out.contains ch then 0x22 else roleOf start ch)
  let lost := (List.range 34).filter (fun ch => out.contains ch && roleOf start ch != 0x21)
  let wanted := (lost.filter (fun ch => roleOf start ch == 0x20)) ++ (lost.filter (fun ch => decide (roleOf start ch < 32)))
  let step := fun (acc : List Nat × List Nat) (ch : Nat) =>
    match chanOf acc.1 0x21 with
    | some sp => (acc.1.set sp (roleOf start ch), acc.2)
    | none => (acc.1, acc.2 ++ [ch])
  let r := wanted.foldl step (roles0, [])
  if r.2.any (fun ch => decide (roleOf start ch < 32)) then
    rolesAtWidth r.1 [] (widthFor (goodChans r.1 []).length)
  else r.1

/-- Channels whose own rings failed stage 2 (R530). -/
def Port.ownOut (p : Port) : List Nat := (List.range 34).filter (fun ch => !p.chanLocked ch)

/-- Data lanes are announced in descending channel order (R530). -/
def laneReversed (roles : List Nat) : Bool :=
  match roles.filter (· < 32) with
  | a :: r => decide ((a :: r).getLastD 0 < a)
  | [] => false

/-- Spread of the last round trips (Table 13.14), in half nanoseconds. -/
def rttSpread (l : List Int) : Nat :=
  match l with
  | [] => 0
  | a :: r => (r.foldl max a - r.foldl min a).toNat

/-- Sixteen consecutive round trips lie within 4 ns of their mean (R535). -/
def rttSettled (l : List Int) : Bool :=
  l.length == 16 && l.all (fun r => decide (-128 ≤ 16 * r - l.sum) && decide (16 * r - l.sum ≤ 128))

/-- The one-way delay of 16 round trips, in half nanoseconds: half their mean (R535). -/
def rttDelay (l : List Int) : Nat := (l.sum / 32).toNat

/-- The longest one-way delay of a port, in half nanoseconds: 40 ns and 5 ns a metre for 50 m or 100 m (R525, R535). -/
def reachMax (p : Part) (n : Nat) : Nat := if selvedge p n then 1080 else 580

/-- Ring-drop powers of channels whose role is a data lane or clock, in 0.01 dBm, give the lowest lane margin over −14.00 dBm (R486). -/
def lowMargin (roles : List Nat) (drop : Nat → Option Int) : Option Int :=
  let l := (List.range 34).filterMap (fun ch => if roleOf roles ch ≤ 0x20 then (drop ch).map (· + 1400) else none)
  match l with
  | [] => none
  | a :: r => some (r.foldl min a)

/-- A power register of 16 bits in two's complement. -/
def power16 (v : Nat) : Int := untwos 16 v

/-- The middle of a list of powers: the lower of the two middle ones for an even number. -/
def median (l : List Int) : Int := (sortInts l).getD ((l.length - 1) / 2) 0

/-- Loss of stages 0x1 to 0x5 of Table 12.9 at a port, in 0.01 dB, where their powers are known. `sum` gives the power sum of ring drops. -/
def Common.stageLoss (c : Common) (n : Nat) (sum : List Int → Int) (k : Nat) : Option Int :=
  let p := c.port n
  let w := posOf c.part n
  let cb := c.comb (c.feeding w.1 w.2)
  match k with
  | 1 => some (power16 (c.rf' (combA c.part (c.feeding w.1 w.2) 0x014) 15 0) - cb.out)
  | 2 => some (cb.out - p.op.dist - 600)
  | 3 => some (p.op.dist - p.op.tap)
  | 4 => p.op.farReport.map (fun r => r.txTap - p.op.rxIn)
  | 5 => if p.op.drop = [] then none else some (p.op.rxIn - sum (p.op.drop.map (·.2)))
  | _ => none

/-- Offset of each channel's drop power below the port's median (stage 0x6). -/
def dropOffsets (drop : Tab Int) : Tab Int :=
  let m := median (drop.map (·.2))
  drop.map (fun e => (e.1, m - e.2))

/-- Offsets of the far receiver's drop powers, from its report (stage 0x7). -/
def farOffsets (r : OptReport) : Tab Int :=
  dropOffsets ((List.range 34).filterMap (fun ch => (r.drop.getD ch none).map (fun v => (ch, v))))

/-- Baselines of the stages whose losses are known and have none yet (R487). -/
def Common.baselines (c : Common) (n : Nat) (sum : List Int → Int) : Common :=
  let add := fun (b : Tab Int) k =>
    match Tab.find b k, c.stageLoss n sum k with
    | none, some v => Tab.put b k v
    | _, _ => b
  c.modOptics n (fun o =>
    { o with
      baseline := [1, 2, 3, 4, 5].foldl add o.baseline,
      chanBase := if o.chanBase = [] then dropOffsets o.drop else o.chanBase,
      farBase := if o.farBase = [] then (match o.farReport with | some r => farOffsets r | none => []) else o.farBase })

/-- Enter stage 12 (R536): the port waits for the next boundary on a switch, for ADMIT on an end-point. -/
def Common.enterStage12 (c : Common) (n : Nat) : Common :=
  c.modPort n (fun p =>
    { p with t := { p.t with stage := 12, failedRaises := 0, needCmd := false, warm := false }, far := { p.far with bound := p.far.ident } })

/-- Work done on entering a stage (Table 13.8). -/
def Common.enterStage (c : Common) (n k : Nat) : Common :=
  let c1 := c.modTrain n (fun t => { t with stage := k, ownExit := false, farExit := false })
  match k with
  | 1 => c1.modPort n (fun p => { p with
      t := { p.t with roles := defaultRoles, farRoles := defaultRoles, farRolesSeen := 0, farOut := [], badChans := [] },
      far := {}, lane := p.lane.filter (fun e => e.1 / 64 != 1),
      op := { p.op with baseline := [], chanBase := [], farBase := [] } })
  | 2 => c1.modPort n (fun p => { p with op := { p.op with ostate := .lighting, opened := false, limit := false } })
  | 3 => c1.modTrain n (fun t => { t with commonRef := if t.warm then t.commonRef else flag (c.rd (pePortA c.part n 0x058)) 0 })
  | 7 => (c1.modPort n (fun p => { p with fl := p.fl.cleared, cred := [], mark := {}, far := {} })).sendCtrl n (.caps (c.ownCaps n))
  | 8 => c1.sendCtrl n (.ident (c.ownIdent n))
  | 10 => c1.sendCtrl n (.creditInit (ownGrants c.part n))
  | _ => c1

/-- Stage 9: the own wiring check, WIRE to the far end, and quarantine on a failure (R533). -/
def Common.wiringCheck (c : Common) (n : Nat) : Common :=
  if c.wiringPasses n then
    let c1 := (c.modPort n (fun p => { p with far := { p.far with ownWire := 0 } })).sendCtrl n (.wire 0 0)
    match (c.port n).far.wire with
    | some 0 => c1.enterStage n 10
    | some _ => (c1.linkEvent n causeWiring 9).modTrain n (fun t => { t with st := .quarantined, stage := 0 })
    | none => c1
  else c.quarantine n

/-- Leave stages 7, 8 and 10 once the own message is acknowledged and the far one received (Table 13.8). -/
def Common.ctrlSettled (c : Common) (n : Nat) : Common :=
  let p := c.port n
  if p.t.st = .raising ∧ p.ctrlAcked then
    if p.t.stage = 7 ∧ p.far.caps.isSome then c.enterStage n 8
    else if p.t.stage = 8 ∧ p.far.ident.isSome then (c.enterStage n 9).wiringCheck n
    else if p.t.stage = 10 ∧ p.far.credits then c.enterStage n 11
    else c
  else c

/-- A quarantined port is checked again; if the check passes it goes on at stage 10 (R534). -/
def Common.recheck (c : Common) (n : Nat) : Common :=
  let p := c.port n
  if p.t.st = .quarantined ∧ c.wiringPasses n ∧ (p.far.wire = none ∨ p.far.wire = some 0 ∨ p.far.ownWire ≠ 0) then
    ((c.modPort n (fun p => { p with t := { p.t with st := .raising }, far := { p.far with ownWire := 0 } })).sendCtrl n (.wire 0 0)).enterStage n 10
  else c

/-- The stage after a ring or training stage; a resume goes through stages 2, 3, 5 and 6 only (R537). -/
def nextStage (resume : Bool) (k : Nat) : Nat := if resume then (if k = 3 then 5 else k + 1) else k + 1

/-- Leave stage 2 once every ring is locked (Table 13.8). -/
def Common.ringsSettled (c : Common) (n : Nat) : Common :=
  let p := c.port n
  if (p.t.st = .raising ∨ (p.t.st = .paused ∧ p.t.resume)) ∧ p.t.stage = 2 ∧ p.ringsLocked then c.enterStage n 3 else c

/-- A raise may start (R501, R539): the port is enabled and struck, its strike is over, its comb is lit. -/
def Common.mayRaise (c : Common) (n : Nat) : Bool :=
  let p := c.port n
  flag (c.rd (linkA c.part n 0x000)) 0 && p.t.st == .struck && p.t.strike.isNone && c.lit n && c.biv.st == .awake && !c.fw.restart

/-- Start a raise: warm at stage 2 when the rings stayed locked, cold at stage 1 otherwise (R549). -/
def Common.startRaise (c : Common) (n : Nat) : Common :=
  let warm := (c.port n).t.ringsKept && (c.port n).ringsLocked
  let c1 := c.modTrain n (fun t => { t with st := .raising, warm := warm, raiseAsked := false, failedRaises := t.failedRaises })
  if warm then (c1.enterStage n 2).ringsSettled n
  else (c1.modOptics n (fun o => { o with ostate := .probe })).enterStage n 1

/-- Ask for a raise: it starts at once, or when the hold of R549 has run out and the port may be raised. -/
def Common.askRaise (c : Common) (n : Nat) : Common :=
  if (c.port n).t.st ≠ .struck then c
  else if c.mayRaise n && decide ((c.port n).t.holdUntil ≤ c.pick) then c.startRaise n
  else c.modTrain n (fun t => { t with raiseAsked := true })

/-- Own and far ends have met the exit condition of stages 3 to 6 (R529): go on, with the work that ends the stage. -/
def Common.stageDone (c : Common) (n : Nat) : Common :=
  let p := c.port n
  let k := p.t.stage
  if !(p.t.ownExit && p.t.farExit) then c
  else if p.t.resume then
    if k = 6 then c.modTrain n (fun t => { t with stage := 7, ownExit := false, farExit := false }) else c.enterStage n (nextStage true k)
  else if k = 4 then
    let roles :=
      if p.t.warm || !c.leading n then p.t.roles else formRoles (p.ownOut ++ p.t.farOut) p.t.commonRef
    let c1 := c.modTrain n (fun t => { t with roles := roles, laneRev := laneReversed roles })
    if dataLanes roles < 8 then c1.failRaise n causeLanes else c1.enterStage n 5
  else if k = 3 ∨ k = 5 ∨ k = 6 then c.enterStage n (k + 1)
  else c

/-- What one training set tells on its channel (R529, R530): a mode that differs fails stage 3; polarity and the leading end's role at stage 4; skew at stage 6 (R466). -/
def Common.trainingSet (c : Common) (n : Nat) (s : TrainingSet) (ownMet : Bool) : Common :=
  let p := c.port n
  let mode := c.rd (pePortA c.part n 0x058)
  if !(p.t.st == .raising || (p.t.st == .paused && p.t.resume)) then c
  else if p.t.stage < 3 ∨ 6 < p.t.stage then c
  else if p.t.stage = 3 ∧ p.t.resume = false ∧ (s.commonRef ≠ flag mode 0 ∨ s.spread ≠ flag mode 1) then c.failRaise n causeMode
  else
    let setLane := fun (l : Tab Reg) (hi lo v : Nat) => Tab.upd l 0 (64 + s.chan) (fun r => setFld r hi lo v)
    let c1 := c.modPort n (fun p =>
      { p with
        t := { p.t with
          ownExit := p.t.ownExit || ownMet,
          farExit := p.t.farExit || (s.exitMet && s.stage == p.t.stage),
          farOut := (if p.t.stage = 4 ∧ s.role = 0x22 ∧ !p.t.farOut.contains s.chan then p.t.farOut ++ [s.chan] else p.t.farOut),
          roles := (if p.t.stage = 4 ∧ p.t.warm = false ∧ p.t.resume = false ∧ !c.leading n then p.t.roles.set s.chan s.role else p.t.roles) },
        lane := (if p.t.stage = 4 then setLane p.lane 0 0 (b2n s.inverted) else if p.t.stage = 6 then setLane p.lane 15 8 s.skew else p.lane) })
    c1.stageDone n

/-- CAPS received (R531). -/
def Common.recvCaps (c : Common) (n : Nat) (k : Caps) : Common :=
  let c1 := c.modPort n (fun p => { p with far := { p.far with caps := some k }, t := { p.t with version := min 1 k.lverMax } })
  if (c.port n).t.st = .raising ∧ (c.port n).t.stage = 7 then
    if min 1 k.lverMax = 0 then c1.failRaise n causeVersion else c1.ctrlSettled n
  else c1

/-- A channel that either end of the port may take as a target (R543): spare, locked here, and no error in the last 16 picks. -/
def Common.goodTarget (c : Common) (n ch : Nat) : Bool :=
  let p := c.port n
  roleOf p.t.roles ch == 0x21 && p.chanLocked ch &&
  (match Tab.find p.t.chanErr ch with | some e => decide (e + 16 < c.pick) | none => true)

/-- A spare that was marked bad is good again once it may be a target (R543). -/
def Common.recoverSpares (c : Common) (n : Nat) : Common :=
  c.modTrain n (fun t => { t with badChans := t.badChans.filter (fun ch => !c.goodTarget n ch) })

/-- The requester's pick E: its first boundary at least one round trip and 200 ns away (R543). -/
def Common.exchangePick (c : Common) (n : Nat) : Nat :=
  c.pick + (c.time.ns + c.rf' (linkA c.part n 0x024) 15 0 + 200 + 999) / 1000

/-- The WIDTH set of an exchange. -/
def Exchange.set (x : Exchange) : LaneSet :=
  if x.isWidth then { cmd := 0x05, arg0 := x.lanes, arg3 := x.pickE % 256 }
  else { cmd := 0x02, arg0 := x.role, arg1 := x.fromCh, arg2 := x.toCh % 64 + x.cause % 4 * 64, arg3 := x.pickE % 256 }

/-- Request a width (R543): the largest that the good channels allow; fewer than 8 good data channels strike the port. -/
def Common.requestWidth (c : Common) (n : Nat) : Common :=
  let p := c.port n
  let w := widthFor (goodChans p.t.roles p.t.badChans).length
  if w = 0 then c.strikeOrderly n causeLanes false
  else if p.t.widthEx.isSome then c
  else
    let x : Exchange := { isWidth := true, lanes := w, pickE := c.exchangePick n }
    (c.modTrain n (fun t => { t with widthEx := some x })).sendLane n x.set

/-- Request that the lane of a channel moves to a spare, or a narrower width with no spare (R543). -/
def Common.requestMove (c : Common) (n ch cause : Nat) : Common :=
  let p := c.port n
  let role := roleOf p.t.roles ch
  let c0 := c.modTrain n (fun t => { t with badChans := if t.badChans.contains ch then t.badChans else t.badChans ++ [ch] })
  if p.t.exchange.isSome then c0
  else if role ≤ 0x20 then
    match (List.range 34).find? (fun t => c0.goodTarget n t) with
    | some t =>
      let x : Exchange := { role := role, fromCh := ch, toCh := t, cause := cause, pickE := c.exchangePick n }
      (c0.modTrain n (fun t => { t with exchange := some x })).sendLane n x.set
    | none => c0.requestWidth n
  else c0

/-- Start a lane check (R540); `own`: this end starts it and tells the far end. -/
def Common.startCheck (c : Common) (n : Nat) (own : Bool) : Common :=
  let p := c.port n
  if p.t.check.isSome ∨ !(p.t.st == .raised || p.t.st == .standby) then c
  else
    let c1 := (c.bumpLo (linkA c.part n 0x020)).modTrain n (fun t => { t with check := some c.pick, checkBad := false })
    if own then c1.sendLane n { cmd := 0x01 } else c1

/-- Mark channels bad: each is an error of that channel now, and the end asks for the first data or clock channel's move (R540). -/
def Common.markBad (c : Common) (n : Nat) (bad : List Nat) (cause : Nat) : Common :=
  let c1 := c.modTrain n (fun t =>
    { t with
      checkBad := t.checkBad || !bad.isEmpty,
      chanErr := bad.foldl (fun m ch => Tab.put m ch c.pick) t.chanErr,
      badChans := t.badChans ++ bad.filter (fun ch => !t.badChans.contains ch) })
  match bad.find? (fun ch => decide (roleOf (c.port n).t.roles ch ≤ 0x20)) with
  | some ch => c1.requestMove n ch cause
  | none => c1

/-- A drain reaches the port, sent or received (R545): DRAIN_DONE follows once the replay buffer is empty. -/
def Common.drainStep (c : Common) (n : Nat) : Common :=
  let p := c.port n
  if (p.t.drainSent || p.t.drainRecv) ∧ p.t.doneSent = false ∧ p.fl.replay = [] then
    (c.modTrain n (fun t => { t with doneSent := true })).sendLane n { cmd := 0x08 }
  else c

/-- Pause a raised port (R489, R545). -/
def Common.pausePort (c : Common) (n : Nat) : Common :=
  if (c.port n).t.st = .raised then
    (c.linkEvent n 0x44 0).modPort n (fun p =>
      { p with
        t := { p.t with
          st := .paused, pausedAt := c.pick, resume := false, stage := 0,
          drainSent := false, drainRecv := false, doneSent := false, doneRecv := false, drainLater := false },
        op := { p.op with ostate := .paused } })
  else c

/-- Pause the port once each end has sent and received DRAIN_DONE (R545). -/
def Common.drainSettled (c : Common) (n : Nat) : Common :=
  let c1 := c.drainStep n
  let p := c1.port n
  if p.t.doneSent && p.t.doneRecv then c1.pausePort n else c1

/-- Send a drain request (R491, R545); it waits for the pick of an exchange under way (R544). -/
def Common.askDrain (c : Common) (n : Nat) : Common :=
  if (c.port n).t.st ≠ .raised then c
  else ((c.modTrain n (fun t => { t with drainSent := true })).sendLane n { cmd := 0x07 }).drainSettled n

/-- A drain request received (R544, R545); one that is repeated after DRAIN_DONE was sent is answered again (R542). -/
def Common.recvDrain (c : Common) (n : Nat) : Common :=
  let p := c.port n
  if p.t.doneSent ∨ (p.t.st = .paused ∧ p.fl.replay = []) then c.sendLane n { cmd := 0x08 }
  else if p.t.st ≠ .raised then c
  else if p.t.exchanges ≠ [] then c.modTrain n (fun t => { t with drainLater := true })
  else (c.modTrain n (fun t => { t with drainRecv := true })).drainSettled n

/-- Begin the warm re-raise of a paused port (R489, R537). -/
def Common.startResume (c : Common) (n : Nat) : Common :=
  if (c.port n).t.st = .paused then
    ((c.modTrain n (fun t => { t with resume := true })).enterStage n 2).ringsSettled n
  else c

/-- A paused port resumes (R537). -/
def Common.resumePort (c : Common) (n : Nat) : Common :=
  (c.linkEvent n 0x45 0).modPort n (fun p =>
    { p with t := { p.t with st := .raised, resume := false, stage := 0 }, op := { p.op with ostate := .lit } })

/-- Apply an exchange at its pick (R543): the roles change, and waiting work goes on. -/
def Common.applyExchange (c : Common) (n : Nat) (x : Exchange) : Common :=
  let c1 :=
    if x.isWidth then
      (c.modTrain n (fun t => { t with widthEx := none, roles := rolesAtWidth t.roles t.badChans x.lanes, badChans := [] })).linkEvent n 0x41 0
    else
      (c.modTrain n (fun t =>
        { t with
          exchange := none, roles := (t.roles.set x.fromCh (if x.cause = 0 then 0x22 else 0x23)).set x.toCh x.role,
          badChans := t.badChans.filter (· != x.fromCh) })).linkEvent n 0x40 0
  let c2 :=
    match (c1.port n).t.badChans.find? (fun ch => decide (roleOf (c1.port n).t.roles ch ≤ 0x20)) with
    | some ch => c1.requestMove n ch 0
    | none => c1
  if (c2.port n).t.drainLater && (c2.port n).t.exchanges.isEmpty then
    (c2.modTrain n (fun t => { t with drainLater := false, drainRecv := true })).drainSettled n
  else c2

/-- The pick nearest to now whose low eight bits are given (ARG3 of Table 13.12). -/
def pickNear (now low : Nat) : Nat :=
  let d := (low + 256 - now % 256) % 256
  if d < 128 then now + d else now + d - 256

/-- A MOVE request received (R543). -/
def Common.recvMove (c : Common) (n : Nat) (s : LaneSet) : Common :=
  let p := c.port n
  let e := pickNear c.pick s.arg3
  let x : Exchange := { role := s.arg0, fromCh := s.arg1, toCh := s.arg2 % 64, cause := s.arg2 / 64 % 4, pickE := e, mine := false, answered := true }
  let ok := { s with cmd := 0x03 }
  let no := { s with cmd := 0x04 }
  if !(p.t.st == .raised || p.t.st == .standby) then c
  else
    match p.t.exchange with
    | some y =>
      if y.mine = false ∧ y.isWidth = false ∧ y.fromCh = x.fromCh ∧ y.toCh = x.toCh then c.sendLane n ok
      else if y.mine ∧ y.isWidth = false ∧ y.fromCh = x.fromCh then
        if c.leading n then c
        else (c.modTrain n (fun t => { t with exchange := some x })).sendLane n ok
      else c.sendLane n no
    | none =>
      if c.goodTarget n x.toCh ∧ c.pick ≤ e then (c.modTrain n (fun t => { t with exchange := some x })).sendLane n ok
      else c.sendLane n no

/-- A WIDTH request received (R543). Where both ends ask for a width, the leading end's request stands, as for a move (DESIGN CHOICE, notes/assumptions/85.md). -/
def Common.recvWidth (c : Common) (n : Nat) (s : LaneSet) : Common :=
  let p := c.port n
  let x : Exchange := { isWidth := true, lanes := s.arg0, pickE := pickNear c.pick s.arg3, mine := false, answered := true }
  let mineStands : Bool := match p.t.widthEx with
    | some y => y.mine && c.leading n
    | none => false
  if !(p.t.st == .raised || p.t.st == .standby) || mineStands then c
  else (c.modTrain n (fun t => { t with widthEx := some x })).sendLane n { s with cmd := 0x06 }

/-- An answer to the own exchange (R543). -/
def Common.recvAnswer (c : Common) (n : Nat) (isWidth : Bool) (s : LaneSet) : Common :=
  match (if isWidth then (c.port n).t.widthEx else (c.port n).t.exchange) with
  | some x =>
    if x.mine ∧ x.isWidth = isWidth ∧ s.arg0 = x.set.arg0 ∧ s.arg1 = x.set.arg1 ∧ s.arg2 = x.set.arg2 ∧ s.arg3 = x.set.arg3 then
      c.modTrain n (fun t => if isWidth then { t with widthEx := some { x with answered := true } } else { t with exchange := some { x with answered := true } })
    else c
  | none => c

/-- MOVE_NO received: the requester asks for a width instead (R543). -/
def Common.recvMoveNo (c : Common) (n : Nat) (s : LaneSet) : Common :=
  match (c.port n).t.exchange with
  | some x =>
    if x.mine ∧ x.isWidth = false ∧ s.arg1 = x.fromCh ∧ s.arg2 = x.set.arg2 then
      (c.modTrain n (fun t => { t with exchange := none })).requestWidth n
    else c
  | none => c

/-- Sets that are repeated every 250 ns at an instant: those whose answer or pick has not come, and an abrupt strike's for 2 µs (R542, R547). -/
def Port.repeats (p : Port) (now : Nat) : List LaneSet :=
  (match p.t.strike with | some k => if k.step = 2 then [{ cmd := 0x09, arg0 := k.cause }] else [] | none => []) ++
  (match p.t.telling with | some w => if now ≤ w.2 + 2000 then [{ cmd := 0x09, arg0 := w.1 }] else [] | none => []) ++
  (p.t.exchanges.filter (fun x => x.mine && !x.answered && decide (now / 1000 ≤ x.pickE))).map Exchange.set ++
  (if p.t.drainSent && !p.t.doneRecv then [{ cmd := 0x07 }] else [])

/-- A slip located on an own ring (R478, R479): the ring is parked, and its lane asks for a spare. -/
def Common.parkRing (c : Common) (n : Nat) (r : RingId) (cause : Nat) : Common :=
  let c1 := (c.modRing n r (fun g => { g with locked := false, slipAt := some c.pick })).modTrain n (fun t => { t with checkBad := t.checkBad || t.check.isSome })
  c1.requestMove n r.chan cause

/-- A STRIKE set received (Table 13.13): step 1, and STRIKE_DONE. -/
def Common.recvStrike (c : Common) (n : Nat) : Common :=
  let p := c.port n
  let done : LaneSet := { cmd := 0x0A }
  if p.t.st = .struck then c.sendLane n done
  else
    let c1 := ((c.linkEvent n causeFar p.t.stage).leaveRaised n).modTrain n (fun t => { t with strike := some { step := 3, cause := causeFar, startPick := c.pick } })
    (c1.sendLane n done).strikeSettled n

/-- STRIKE_DONE received: an orderly strike goes on to empty its replay buffer (R546). -/
def Common.recvStrikeDone (c : Common) (n : Nat) : Common :=
  match (c.port n).t.strike with
  | some k =>
    if k.step = 2 then (c.modTrain n (fun t => { t with strike := some { k with step := 3 } })).strikeSettled n else c
  | none => c

end Sys2Proof.Machine
end

