-- ==== Sys2Proof/Machine/OpticsOps.lean ====
section
/-!
DEFINITION. Light (spec/12): combs and their retirement, the spare and its swap, slips, monitors, loss localisation, eye safety. Losses of units and their records (R555 to R557).
-/

namespace Sys2Proof.Machine

/-- Key of a unit's loss record. -/
def unitKey (kind unit : Nat) : Nat := kind * 65536 + unit

/-- A unit leaves service for good (R556): `RES_EVENT` and the ledger. -/
def Common.unitLost (c : Common) (kind unit : Nat) : Common :=
  let c1 := (c.event (resA c.part 0x004) (kind * 4096 + 1024 + unit % 512)).errLasting kind
  { c1 with ledger := { c1.ledger with loss := Tab.upd c1.ledger.loss {} (unitKey kind unit) (fun r => { times := r.times + 1, out := true }) } }

/-- A unit returns to service (R557). -/
def Common.unitBack (c : Common) (kind unit : Nat) : Common :=
  let c1 := c.event (resA c.part 0x004) (kind * 4096 + 2048 + unit % 512)
  { c1 with ledger := { c1.ledger with loss := Tab.upd c1.ledger.loss {} (unitKey kind unit) (fun r => { r with back := r.back + 1, out := false }) } }

/-- Record `PE_EVENT` of an engine: cause, position, port of the engine (Table 12.12). -/
def Common.peEvent (c : Common) (g cause pos port : Nat) : Common :=
  c.event (peA c.part g 0x00C) (cause * 4096 + pos % 4 * 1024 + port % 16 * 16)

/-- Record `COMB_EVENT` of a comb (Table 12.16). -/
def Common.combEvent (c : Common) (k cause : Nat) : Common := c.event (combA c.part k 0x01C) (cause * 256)

/-- The engine of a comb and its position; `none` for the spare (Table 12.2). -/
def combPlace (p : Part) (k : Nat) : Nat × Option Nat :=
  match p with
  | .sw => (k / 5, if k % 5 = 4 then none else some (k % 5))
  | .ep => (0, if k = 2 then none else some k)

/-- Ports that a position feeds (Table 12.2). -/
def posPorts (p : Part) (g pos : Nat) : List Nat :=
  match p with
  | .sw => (List.range 4).map (fun i => 16 * g + 4 * pos + i)
  | .ep => (List.range 4).map (fun i => 4 * pos + i)

/-- The part is out of bivouac, so that its combs may light (R470). -/
def Common.mayLight (c : Common) : Bool := c.opt.laserEn && (c.biv.st == .awake || c.biv.st == .waking)

/-- A dark comb starts warming when LASER_EN, its enable and the power state let it (R470). -/
def Common.warmComb (c : Common) (k : Nat) : Common :=
  if (c.comb k).st = .dark ∧ c.mayLight ∧ flag (c.rd (combA c.part k 0x004)) 0 then
    c.modComb k (fun b => { b with st := .warming, locked := false })
  else c

/-- Every comb that may starts warming. -/
def Common.warmCombs (c : Common) : Common := each (List.range (combCount c.part)) c (fun c k => c.warmComb k)

/-- Every comb that is not retired goes dark (R470, R497). -/
def Common.darkCombs (c : Common) (interlock : Bool) : Common :=
  each (List.range (combCount c.part)) c (fun c k =>
    let b := c.comb k
    if b.st = .dark ∨ b.st = .retired then c
    else
      let c1 := c.modComb k (fun b => { b with st := .dark, locked := false, bias := 0 })
      if interlock then c1.combEvent k 0x04 else c1)

/-- The distribution switch moves a position to the spare (R469, R491): the old comb goes dark and is retired; the spare feeds the position. -/
def Common.moveSpare (c : Common) (g : Nat) (w : SwapRun) : Common :=
  let old := combAt c.part g w.pos
  let sp := spareOf c.part g
  let c1 :=
    if (c.comb old).st = .retired then c
    else ((c.modComb old (fun b => { b with st := .retired, bias := 0, locked := false })).combEvent old 0x05).unitLost 0x6 old
  let c2 := c1.modComb sp (fun b => { b with st := .lit, pos := w.pos })
  c2.modEngine g (fun e => { e with swap := some { w with phase := 2 }, want := e.want.filter (· != w.pos) })

/-- The spare is retired before its swap has moved the position: the swap is off. Ports paused for it resume where their own comb is lit, and are struck where it is not (R495; DESIGN CHOICE, notes/assumptions/44.md). -/
def Common.spareGone (c : Common) (g : Nat) : Common :=
  match (c.engine g).swap with
  | none => c
  | some w =>
    if 2 ≤ w.phase then c
    else
      let c1 := c.modEngine g (fun e => { e with swap := none })
      if w.phase = 0 then c1
      else if (c.comb (combAt c.part g w.pos)).st = .lit then each (posPorts c.part g w.pos) c1 (fun c n => (c.pausePort n).startResume n)
      else (each (posPorts c.part g w.pos) c1 (fun c n => c.strikeOrderly n causeLight false)).peEvent g 0x5 w.pos 0

/-- Retire a comb (R472): its ports go to the spare at once if it stands by (R493), and are struck if there is none (R495). -/
def Common.retireComb (c : Common) (k : Nat) : Common :=
  let b := c.comb k
  if b.st = .retired then c
  else
    let g := (combPlace c.part k).1
    let c1 := ((c.modComb k (fun b => { b with st := .retired, bias := 0, locked := false })).combEvent k 0x05).unitLost 0x6 k
    let pos : Option Nat :=
      match (combPlace c.part k).2 with
      | some p => some p
      | none => if b.st = .lit then some b.pos else none
    match pos with
    | none => c1.spareGone g
    | some p =>
      if (combPlace c.part k).2.isSome && (c.comb (spareOf c.part g)).st == .lit && (c.comb (spareOf c.part g)).pos == p then c1
      else if (combPlace c.part k).2.isSome && b.st == .lit && (c.comb (spareOf c.part g)).st == .standby then
        let c2 := each (posPorts c.part g p) c1 (fun c n => c.pausePort n)
        c2.modEngine g (fun e => { e with swap := some { pos := p, start := c.pick, phase := 1, urgent := true } })
      else
        let c2 := each (posPorts c.part g p) c1 (fun c n => c.strikeOrderly n causeLight false)
        if (c.comb (spareOf c.part g)).st = .standby then c2 else c2.peEvent g 0x5 p 0

/-- Start a swap at its boundary (Table 12.10): the drain request on the four ports. -/
def Common.startSwap (c : Common) (g : Nat) (w : SwapRun) : Common :=
  let c1 := c.modEngine g (fun e => { e with swap := some { w with phase := 1, start := c.pick } })
  each (posPorts c.part g w.pos) c1 (fun c n => c.askDrain n)

/-- The swap that a staged PE_SWAP or EP_PE_SWAP names for this boundary, if any (R490). -/
def Common.stagedSwap (c : Common) (g : Nat) : Option Nat :=
  match c.part with
  | .sw =>
    let r := c.rd (peA .sw g 0x008)
    let j := fld r 2 1
    let start := (c.rd (0x10040 + j * 0x10)).toNat + (c.rd (0x10044 + j * 0x10)).toNat * 2 ^ 32
    if flag r 0 && flag (c.rd (0x10048 + j * 0x10)) 0 && start == c.pick then some (fld r 5 4) else none
  | .ep =>
    let r := c.rd 0xB0008
    let start := (c.rd 0xB0240).toNat + (c.rd 0xB0244).toNat * 2 ^ 32
    if flag r 0 && start == c.pick then some (fld r 4 4) else none

/-- A swap is staged on an engine (R494). -/
def Common.swapIsStaged (c : Common) (g : Nat) : Bool := flag (c.rd (peA c.part g 0x008)) 0

/-- The boundary's work on an engine's swap (Table 12.10, R492, R493). -/
def Common.swapBoundary (c : Common) (g : Nat) : Common :=
  let c0 : Common :=
    match c.stagedSwap g, (c.engine g).swap with
    | some pos, none =>
      if (c.comb (spareOf c.part g)).st = .standby then c.startSwap g { pos := pos, start := c.pick } else c
    | _, _ => c
  match (c0.engine g).swap with
  | none => c0
  | some w =>
    let ports := posPorts c.part g w.pos
    let raisedAll := ports.all (fun n => (c0.port n).t.st != .paused)
    match w.phase with
    | 0 => if w.start ≤ c.pick then c0.startSwap g w else c0
    | 1 =>
      if w.urgent then c0.moveSpare g w
      else if w.start < c.pick ∧ (ports.all (fun n => (c0.port n).t.st != .raised) ∨ w.start + 2 ≤ c.pick) then
        (each ports c0 (fun c n => c.pausePort n)).moveSpare g w
      else c0
    | _ =>
      if w.phase = 3 ∧ raisedAll then
        (c0.modEngine g (fun e => { e with swap := none, swapDone := true })).peEvent g 0x3 w.pos 0
      else if w.urgent = false ∧ w.start + 15 ≤ c.pick then
        let late := ports.filter (fun n => (c0.port n).t.st == .paused)
        let c1 := (each late c0 (fun c n => c.strikeOrderly n causeLight false)).modEngine g (fun e => { e with swap := none, swapDone := true })
        match late with
        | [] => c1.peEvent g 0x3 w.pos 0
        | n :: _ => c1.peEvent g 0x4 w.pos (n % 16)
      else c0

/-- The spare's light has reached the four ports (R469): warm re-raise begins. -/
def Common.spareArrived (c : Common) (g : Nat) : Common :=
  match (c.engine g).swap with
  | some w =>
    if w.phase = 2 then
      each (posPorts c.part g w.pos) (c.modEngine g (fun e => { e with swap := some { w with phase := 3 } })) (fun c n => c.startResume n)
    else c
  | none => c

/-- The far receiver's lowest lane margin on a port, from its latest report (R486). -/
def Common.farMargin (c : Common) (n : Nat) : Option Int :=
  let p := c.port n
  match p.op.farReport with
  | some r => lowMargin p.t.roles (fun ch => r.drop.getD ch none)
  | none => none

/-- A comb's margin: the lowest far margin over the ports it feeds, with the port that has it (R486). -/
def Common.combMargin (c : Common) (g pos : Nat) : Option (Int × Nat) :=
  let l := (posPorts c.part g pos).filterMap (fun n => (c.farMargin n).map (fun m => (m, n)))
  match l with
  | [] => none
  | a :: r => some (r.foldl (fun b x => if x.1 < b.1 then x else b) a)

/-- BOL bias of a comb in 0.1 mA (Table 12.16). -/
def Common.bol (c : Common) (k : Nat) : Nat := c.rf' (combA c.part k 0x00C) 31 16

/-- Quiet-pick work on a position's comb: whether it wants the spare (R488). -/
def Common.wantSpare (c : Common) (g pos : Nat) : Common :=
  let k := combAt c.part g pos
  let b := c.comb k
  let e := c.engine g
  if b.st ≠ .lit ∨ (c.comb (spareOf c.part g)).st ≠ .standby then c
  else
    let m := c.combMargin g pos
    let low := match m with | some x => decide (x.1 < 150) | none => false
    let hot := decide (0 < c.bol k) && decide (144 * c.bol k ≤ 100 * b.bias)
    let port := match m with | some x => (engineOf c.part x.2).2 | none => 0
    if (low || hot) && !e.want.contains pos then
      (c.peEvent g (if low then 0x1 else 0x2) pos (if low then port else 0)).modEngine g (fun e => { e with want := e.want ++ [pos] })
    else c

/-- The autonomous swap (R494): a position that wants the spare has a margin below 0.5 dB and no swap is staged; it starts at the first quiet pick at least two picks away. -/
def Common.autoSwap (c : Common) (g pos : Nat) : Common :=
  let e := c.engine g
  match c.combMargin g pos with
  | some x =>
    if e.want.contains pos && decide (x.1 < 50) && flag (c.rd (peA c.part g 0x004)) 0 && !c.swapIsStaged g && e.swap.isNone &&
        (c.comb (combAt c.part g pos)).st == .lit && (c.comb (spareOf c.part g)).st == .standby then
      (c.modEngine g (fun e => { e with swap := some { pos := pos, start := (c.pick + 1025) / 1024 * 1024, auto := true } })).peEvent g 0x6 pos (engineOf c.part x.2).2
    else c
  | none => c

/-- Quiet-pick work on a port's drive (R474): a far margin below 2.5 dB raises DRIVE by one code, never above DRIVE_MAX. -/
def Common.raiseDrive (c : Common) (n : Nat) : Common :=
  match c.farMargin n with
  | some m =>
    let a := pePortA c.part n 0x050
    let r := c.rd a
    if m < 250 ∧ fld r 5 0 < fld r 21 16 then c.wrF a 5 0 (fld r 5 0 + 1) else c
  | none => c

/-- The first entry of a list of offsets that exceeds its baseline by 1.5 dB or more: channel and excess. -/
def offsetExcess (now base : Tab Int) : Option (Nat × Int) :=
  now.findSome? (fun e =>
    match Tab.find base e.1 with
    | some b => if 150 ≤ e.2 - b then some (e.1, e.2 - b) else none
    | none => none)

/-- One comb line low at the far receivers of every port of the port's comb (Table 12.9, code 0x7). -/
def Common.lineLow (c : Common) (n : Nat) : Option (Nat × Int) :=
  let w := posOf c.part n
  let ports := posPorts c.part w.1 w.2
  let off := fun m => match (c.port m).op.farReport with | some r => farOffsets r | none => []
  (List.range 34).findSome? (fun ch =>
    let ex := ports.map (fun m =>
      match Tab.find (off m) ch, Tab.find (c.port m).op.farBase ch with
      | some v, some b => some (v - b)
      | _, _ => none)
    if ex.all (fun x => match x with | some v => decide (150 ≤ v) | none => false) then
      some (ch, ((ex.headD none).getD 0))
    else none)

/-- Quiet-pick work of loss localisation (R487): at most one stage, the one with the lowest code. -/
def Common.localise (c : Common) (n : Nat) : Common :=
  let p := c.port n
  if p.t.st ≠ .raised ∧ p.t.st ≠ .standby then c
  else
    let c0 := c.baselines n Config.powerSum
    let o := (c0.port n).op
    let rec5 := [1, 2, 3, 4, 5].findSome? (fun k =>
      match Tab.find o.baseline k, c.stageLoss n Config.powerSum k with
      | some b, some v => if 150 ≤ v - b then some (k, 0, v - b) else none
      | _, _ => none)
    let rec67 := match c.lineLow n with
      | some x => some (7, x.1, x.2)
      | none => (offsetExcess (dropOffsets o.drop) o.chanBase).map (fun x => (6, x.1, x.2))
    match (match rec5 with | some x => some x | none => rec67) with
    | some x => c0.event (pePortA c.part n 0x05C) (x.1 * 4096 + x.2.1 * 64 + min 63 (x.2.2.toNat / 25))
    | none => c0

/-- Engines of a part. -/
def engines (p : Part) : List Nat := List.range (engineCount p)

/-- Positions of an engine. -/
def positions : Part → List Nat
  | .sw => [0, 1, 2, 3]
  | .ep => [0, 1]

/-- Ports that the model has an entry for. -/
def Common.listed (c : Common) : List Nat := c.ports.map (·.1)

/-- Hours lit or in standby (`COMB_HOURS`), counted in picks. -/
def Common.combHours (c : Common) : Common :=
  each (c.opt.combs.map (·.1)) c (fun c k =>
    let b := c.comb k
    if b.st = .lit ∨ b.st = .standby then
      if b.litPicks + 1 = 3600000000 then (c.modComb k (fun b => { b with litPicks := 0 })).bump (combA c.part k 0x020)
      else c.modComb k (fun b => { b with litPicks := b.litPicks + 1 })
    else c)

/-- The optical work of a pick boundary: swaps, probe pulses that end, the checks of a quiet pick. -/
def Common.opticsBoundary (c : Common) : Common :=
  let c1 := each (engines c.part) c (fun c g => c.swapBoundary g)
  let c2 := each c1.listed c1 (fun c n =>
    match (c.port n).op.pulseEnd with
    | some e => if e ≤ c.pick then c.modOptics n (fun o => { o with pulseEnd := none, shutter := o.shutter && o.ostate != .probe }) else c
    | none => c)
  let c3 := c2.combHours
  let c4 := if quiet c.pick then each (engines c.part) c3 (fun c g => each (positions c.part) c (fun c pos => c.wantSpare g pos)) else c3
  let c5 := each ((engines c.part).filter (fun g => (c4.engine g).want != [])) c4 (fun c g => each (positions c.part) c (fun c pos => c.autoSwap g pos))
  if quiet c.pick then each c5.listed c5 (fun c n => (c.raiseDrive n).localise n) else c5

/-- A port starts a probe pulse (R500). -/
def Common.probePulse (c : Common) (n : Nat) : Common :=
  if (c.port n).op.ostate = .probe then
    c.modOptics n (fun o => { o with shutter := true, pulseEnd := some (c.pick + 2000) })
  else c

/-- Far probe light seen (R500, stage 1): the own pulse starts, a port that may be raised goes into stage 1, and in stage 1 the shutter opens fully. -/
def Common.probeSeen (c : Common) (n : Nat) : Common :=
  let c1 := c.probePulse n
  let p := c1.port n
  let c2 :=
    if p.t.st = .struck ∧ p.op.ostate = .probe ∧ flag (c.rd (linkA c.part n 0x000)) 1 ∧ p.t.needCmd = false ∧ c1.mayRaise n ∧ p.t.holdUntil ≤ c.pick then
      (c1.modTrain n (fun t => { t with ringsKept := false })).startRaise n
    else c1
  if (c2.port n).t.st = .raising ∧ (c2.port n).t.stage = 1 then
    c2.modOptics n (fun o => { o with shutter := true, pulseEnd := none, farLight := true })
  else c2

/-- The shutter of a port closes for light (R498, R499): the port is struck abruptly and goes to PROBE. -/
def Common.shutterStrike (c : Common) (n : Nat) : Common :=
  let c1 := c.modOptics n (fun o => { o with shutter := false })
  let c2 := c1.strikeAbrupt n causeLight
  c2.modPort n (fun p => { p with t := { p.t with ringsKept := false }, op := { p.op with ostate := .probe, farLight := false, pulseEnd := none } })

/-- Tracking errors that a sample brings are kept with their rings (R476, Table 12.15). -/
def keepErr (rings : Tab Ring) (l : List (Nat × Int)) : Tab Ring := l.foldl (fun t e => Tab.upd t {} e.1 (fun r => { r with err := e.2 })) rings

/-- A monitor sample of a port (Table 12.6): readings are kept; a comb output more than 1.0 dB low warns, a bias reaching its maximum is recorded. -/
def Common.monitor (c : Common) (n : Nat) (m : MonitorIn) : Common :=
  let w := posOf c.part n
  let k := c.feeding w.1 w.2
  let old := c.comb k
  let c1 := c.modOptics n (fun o =>
    { o with
      tap := m.tap.getD o.tap, dist := m.dist.getD o.dist, rxIn := m.rxIn.getD o.rxIn,
      drop := m.drop.foldl (fun d e => Tab.put d e.1 e.2) o.drop,
      tx := keepErr o.tx m.txErr, rx := keepErr o.rx m.rxErr })
  let c2 :=
    if m.combOut.isNone ∧ m.combBias.isNone ∧ m.combLockErr.isNone then c1
    else c1.modComb k (fun b => { b with out := m.combOut.getD b.out, bias := m.combBias.getD b.bias, lockErr := m.combLockErr.getD b.lockErr })
  let set := power16 (c.rf' (combA c.part k 0x014) 15 0)
  let c3 : Common := match m.combOut with
    | some v => if v < set - 100 ∧ ¬ old.out < set - 100 ∧ old.st ≠ .dark then c2.combEvent k 0x02 else c2
    | none => c2
  let c4 : Common := match m.combBias with
    | some v => if 0 < c.bol k ∧ 16 * c.bol k ≤ 10 * v ∧ 10 * old.bias < 16 * c.bol k then c3.combEvent k 0x03 else c3
    | none => c3
  let c5 := if m.allDark then c4.pausePort n else c4
  let c6 := if m.lightBack ∧ (c5.port n).t.resume = false then c5.startResume n else c5
  if (c6.port n).t.st = .raising ∧ (c6.port n).t.stage = 1 ∧ (c6.port n).op.farLight ∧ (c6.port n).op.shutter ∧ 100 ≤ m.brightUs then
    (c6.enterStage n 2).ringsSettled n
  else c6

/-- A feed-forward sample (R477): every heater of the port moves by −COEF × ΔT; the engine's sensor reads the new temperature (1/64 °C). -/
def Common.feedForward (c : Common) (n : Nat) (temp : Int) : Common :=
  let ff := c.rd (pePortA c.part n 0x054)
  let dt := temp - (c.port n).op.sensorLast
  let mv := fun (t : Tab Ring) =>
    (List.range 34).foldl (fun t ch => Tab.upd t {} ch (fun r => { r with heater := Config.heaterCode r.heater (-(fld ff 11 0 : Int) * dt) % 16384 })) t
  let g := (engineOf c.part n).1
  (c.modOptics n (fun o => { o with tx := mv o.tx, rx := mv o.rx, sensorLast := temp })).modEngine g
    (fun e => { e with temps := Tab.put e.temps (fld ff 14 12) temp })

/-- A ring locks on its own line (R476). -/
def Common.lockRing (c : Common) (n : Nat) (r : RingId) : Common :=
  (c.modRing n r (fun g => { g with locked := true, slipAt := none })).ringsSettled n

/-- A parked ring relocks within 10 ms (R481): a transient slip, its channel becomes spare. -/
def Common.relockRing (c : Common) (n : Nat) (r : RingId) : Common :=
  match ((c.port n).ring r).slipAt with
  | some s =>
    if c.pick ≤ s + 10000 then
      let c1 := ((c.bumpLo (peA c.part (engineOf c.part n).1 0x030)).errTransient 0x1).lockRing n r
      c1.modTrain n (fun t => { t with roles := if roleOf t.roles r.chan = 0x23 then t.roles.set r.chan 0x21 else t.roles })
    else c
  | none => c.lockRing n r

/-- A ring not relocked 10 ms after its slip (R481): a lasting slip, its channel is out. -/
def Common.slipLasting (c : Common) (n : Nat) (r : RingId) : Common :=
  match ((c.port n).ring r).slipAt with
  | some s =>
    if s + 10000 ≤ c.pick then
      let g := engineOf c.part n
      let c1 := ((c.bumpHi (peA c.part g.1 0x030)).peEvent g.1 0x9 (posOf c.part n).2 g.2).unitLost 0x1 n
      (c1.modRing n r (fun g => { g with slipAt := none })).modTrain n (fun t =>
        { t with roles := if roleOf t.roles r.chan = 0x23 ∨ roleOf t.roles r.chan = 0x21 then t.roles.set r.chan 0x22 else t.roles })
    else c
  | none => c

end Sys2Proof.Machine
end

