-- ==== Sys2Proof/Machine/TimeOps.lean ====
section
/-!
DEFINITION. Counting picks (R302 to R310), markers and round trips (R512 to R515, R535), and what each port does at a pick boundary (R536, R538, R540, R541, R543, R549, R570).
-/

namespace Sys2Proof.Machine

/-- `PICK_EVENT` of a switch, `EP_PICK_EVENT` of an end-point: new state, cause, input or port. -/
def Common.pickEvent (c : Common) (cause low : Nat) : Common :=
  c.event (match c.part with | .sw => 0x10018 | .ep => 0x9000C) (c.time.st.code * 4096 + cause * 256 + low)

/-- Change the timebase. -/
def Common.modTime (c : Common) (f : Timebase → Timebase) : Common := { c with time := f c.time }

/-- Code of an input in `PICK_EVENT` and `PICK_STATUS.SOURCE`. -/
def SyncInput.code : SyncInput → Nat
  | .a => 1
  | .b => 2

/-- The state of an input. -/
def Timebase.inp (t : Timebase) : SyncInput → SyncState
  | .a => t.inA
  | .b => t.inB

/-- Replace the state of an input. -/
def Timebase.setInp (t : Timebase) (i : SyncInput) (s : SyncState) : Timebase :=
  match i with
  | .a => { t with inA := s }
  | .b => { t with inB := s }

/-- The other input. -/
def SyncInput.other : SyncInput → SyncInput
  | .a => .b
  | .b => .a

/-- The input that `PICK_CTRL.PREFER_B` selects. -/
def Common.preferred (c : Common) : SyncInput := if flag (c.rdForce 0x1000C) 0 then .b else .a

/-- The input that the switch follows while LOCKED: the preferred one when both are qualified (R306). -/
def Common.follow (c : Common) : Option SyncInput :=
  let a := c.time.inA.qualified
  let b := c.time.inB.qualified
  if a && b then some c.preferred else if a then some .a else if b then some .b else none

/-- Enter HOLDOVER (Table 8.2), its 10 s measured afresh. -/
def Common.enterHoldover (c : Common) : Common :=
  (c.modTime (fun t => { t with st := .holdover, source := none, holdPicks := 0, holdBase := 0, slew := 0 }))

/-- Disqualify an input (R305); a switch that loses its input follows the other, or goes to HOLDOVER (Table 8.2). -/
def Common.disqualify (c : Common) (i : SyncInput) : Common :=
  let s := c.time.inp i
  if s.qualified = false ∧ ¬ (c.time.st = .slewing ∧ c.time.source = some i) then
    c.modTime (fun t => t.setInp i { s with goodFrames := 0, fresh := false })
  else
    let c1 := c.modTime (fun t => t.setInp i { s with qualified := false, goodFrames := 0, fresh := false })
    let c2 : Common :=
      match c1.time.st with
      | .locked => match c1.follow with | some j => c1.modTime (fun t => { t with source := some j }) | none => c1.enterHoldover
      | .slewing => if c1.time.source = some i then c1.enterHoldover else c1
      | _ => c1
    c2.pickEvent 0x1 i.code

/-- An edge missed or misplaced on an input; the third running disqualifies it (R305). -/
def Common.badEdge (c : Common) (i : SyncInput) : Common :=
  let s := c.time.inp i
  let c1 := c.modTime (fun t => t.setInp i { s with misses := s.misses + 1, edgesGood := false })
  if 3 ≤ s.misses + 1 then c1.disqualify i else c1

/-- An input becomes qualified (R305). After SOURCE_MISMATCH the state stays (R307). -/
def Common.qualify (c : Common) (i : SyncInput) : Common :=
  if (c.time.inp i).qualified then c
  else
    let c1 := c.modTime (fun t => t.setInp i { t.inp i with qualified := true })
    let c2 : Common :=
      if c1.time.mismatch then c1 else
      match c1.time.st with
      | .locked => c1.modTime (fun t => { t with source := c1.follow })
      | .holdover => c1.modTime (fun t => { t with st := .locked, source := some i, slew := 0 })
      | .expired => c1.modTime (fun t => { t with st := .locked, source := some i, slew := 0 })
      | _ => c1
    c2.pickEvent 0x2 i.code

/-- Start to slew toward a source that the own count lags by `behind` nanoseconds; past 10^6 picks the part keeps its state and records SOURCE_MISMATCH (R306, R307). -/
def Common.slewTo (c : Common) (i : SyncInput) (behind : Int) : Common :=
  if c.time.mismatch then c
  else if 1000000000 < behind.natAbs then (c.modTime (fun t => { t with mismatch := true })).pickEvent 0x5 i.code
  else (c.modTime (fun t => { t with st := .slewing, source := some i, slew := behind })).pickEvent 0x2 i.code

/-- Move a pick that the part noted under its old count to the new one. -/
def movePick (old new t : Nat) : Nat := t + new - old

/-- The part takes a new pick number: what it holds of its own measure of time, counted from the old number, moves along (R306, R309). -/
def Common.renumber (c : Common) (new : Nat) : Common :=
  let m := movePick c.pick new
  { c with
    time := { c.time with pick := new },
    ports := c.ports.map (fun (e : Nat × Port) => (e.1, { e.2 with t := { e.2.t with holdUntil := m e.2.t.holdUntil }, op := { e.2.op with pulseEnd := e.2.op.pulseEnd.map m } })),
    mgmt := { c.mgmt with kept := c.mgmt.kept.map (fun (k : ZKept) => { k with at_ := m k.at_ }) },
    therm := { c.therm with history := c.therm.history.map (fun (e : Nat × Int) => (m e.1, e.2)), coolSince := c.therm.coolSince.map m, goodSince := c.therm.goodSince.map m },
    biv := { c.biv with wakeAt := m c.biv.wakeAt } }

/-- Shift the instants of edges when the own count takes a new number. -/
def SyncState.shift (s : SyncState) (d : Int) : SyncState := { s with lastEdge := s.lastEdge.map (· + d) }

/-- A valid frame naming Q whose last pulse marks the pick `due`, `offset` ns from the own boundary (R303, R305, R306). -/
def Common.validFrame (c : Common) (i : SyncInput) (q due : Nat) (offset : Int) : Common :=
  let s := c.time.inp i
  let behind : Int := ((q : Int) + 72 - due) * 1000 - offset
  let good := q + 72 == due && decide (offset.natAbs ≤ 20)
  let s1 := { s with lastQ := some q, edgesGood := true, goodFrames := if !good then 0 else if 0 < s.goodFrames ∧ s.edgesGood then s.goodFrames + 1 else 1 }
  let c1 := c.modTime (fun t => t.setInp i s1)
  let ready : Bool := good && (s.fresh || decide (2 ≤ s1.goodFrames))
  match c.time.st with
  | .acquiring =>
    let d : Int := ((q : Int) + 72 - due) * 1000 - offset
    let c2 := (c1.renumber (q + 72)).modTime (fun t => { t with st := .locked, ns := 0, source := some i, inA := t.inA.shift d, inB := t.inB.shift d })
    (c2.modTime (fun t => t.setInp i { t.inp i with qualified := true })).pickEvent 0x2 i.code
  | .locked =>
    if q + 72 ≠ due then c1.disqualify i
    else if ready then c1.qualify i else c1
  | .slewing => c1
  | _ =>
    if behind.natAbs ≤ 20 then (if ready ∨ c.time.st = .expired then c1.qualify i else c1)
    else c1.slewTo i behind

/-- The symbol of a pulse (Table 8.1): 0, 1, 2 for frame start, 3 for an error. `offset`: the edge less its due time. -/
def symbolOf (width : Nat) (offset : Int) : Nat :=
  if 100 < offset.natAbs then 3
  else if 150 ≤ width ∧ width ≤ 250 then 0
  else if 350 ≤ width ∧ width ≤ 450 then 1
  else if 550 ≤ width ∧ width ≤ 650 then 2
  else 3

/-- An invalid frame on an input (`PICK_FRAME_ERR`). -/
def Common.frameErr (c : Common) (i : SyncInput) : Common :=
  let c1 := match i with | .a => c.bumpLo 0x10020 | .b => c.bumpHi 0x10020
  c1.modTime (fun t => t.setInp i { t.inp i with goodFrames := 0 })

/-- Pulses that did not come: an error symbol for each (Table 8.1). -/
def Common.skipSymbols (c : Common) (i : SyncInput) (n : Nat) : Common :=
  match (c.time.inp i).pos with
  | none => c
  | some k =>
    if n = 0 then c
    else if k + n ≤ 72 then c.modTime (fun t => t.setInp i { t.inp i with pos := some (k + n), bad := true })
    else (c.modTime (fun t => t.setInp i { t.inp i with pos := none })).frameErr i

/-- One symbol of a frame (R303). -/
def Common.frameSymbol (c : Common) (i : SyncInput) (sym due : Nat) (offset : Int) : Common :=
  let s := c.time.inp i
  let put := fun (c : Common) (s : SyncState) => c.modTime (fun t => t.setInp i s)
  if sym = 2 then
    let c1 := if s.pos.isSome then c.frameErr i else c
    c1.modTime (fun t => t.setInp i { t.inp i with pos := some 1, acc := 0, bad := false })
  else
    match s.pos with
    | none => c
    | some k =>
      let s1 := { s with pos := some (k + 1), acc := s.acc * 2 + sym % 2, bad := s.bad || sym == 3 }
      if k < 72 then put c s1
      else
        let c1 := put c { s1 with pos := none }
        let q := s1.acc / 256
        if !s1.bad && crc8 q == s1.acc % 256 then c1.validFrame i q due offset else c1.frameErr i

/-- A pulse of PICK_SYNC (R302, R305) of a width in ns, its edge `offset` ns from the own boundary. The pick whose boundary it marks is the next one when the edge comes before the boundary.
Its symbol is judged by the input's own train of pulses, one a pick; its place by the own boundary, and for the source of a slew by that train (notes/assumptions/83.md). -/
def Common.syncPulse (c : Common) (i : SyncInput) (width : Nat) (offset : Int) : Common :=
  let due := if offset < 0 then c.pick + 1 else c.pick
  let s := c.time.inp i
  let at_ : Int := (due : Int) * 1000 + offset
  let gap : Int := match s.lastEdge with | some l => at_ - l | none => 1000
  let n := max 1 ((gap + 500) / 1000).toNat
  let off : Int := gap - 1000 * (n : Int)
  let steady := decide (off.natAbs ≤ 100)
  let c1 := (c.skipSymbols i (n - 1)).modTime (fun t => t.setInp i
    { t.inp i with lastEdge := some (if steady || s.slipped then at_ else at_ - off), slipped := !steady, offset := some offset })
  let source : Bool := c.time.st == .slewing && c.time.source == some i
  let c2 :=
    if c1.time.st = .acquiring then c1
    else if 20 < (if source then off else offset).natAbs then c1.badEdge i
    else c1.modTime (fun t => t.setInp i { t.inp i with misses := 0 })
  let behind : Int := -offset
  let c3 := if c2.time.st = .slewing ∧ c2.time.source = some i ∧ c2.time.slew.natAbs ≤ 500 then c2.modTime (fun t => { t with slew := behind }) else c2
  c3.frameSymbol i (symbolOf width off) due offset

/-- An edge due in the pick that ends and not seen is missed (R305). -/
def Common.missEdge (c : Common) (i : SyncInput) : Common :=
  let s := c.time.inp i
  let seen : Bool := match s.lastEdge with | some l => decide (((c.pick : Int) + 1) * 1000 ≤ l + 1100) | none => false
  if seen ∨ c.time.st = .acquiring then c
  else
    let c1 := c.modTime (fun t => t.setInp i { s with offset := none })
    if s.lastQ.isSome ∨ s.qualified then c1.badEdge i else c1

/-- Slewing moves 5 ns in a pick and ends at 20 ns (R307). -/
def Common.slewStep (c : Common) : Common :=
  if c.time.st = .slewing then
    let d : Int := if c.time.slew < 0 then c.time.slew + 5 else c.time.slew - 5
    let c1 := c.modTime (fun t => { t with slew := d })
    if d.natAbs ≤ 20 then
      let c2 := c1.modTime (fun t => { t with st := .locked, slew := 0 })
      match c.part, c.time.source with
      | .sw, some i => (c2.modTime (fun t => t.setInp i { t.inp i with qualified := true, goodFrames := max 2 (t.inp i).goodFrames })).pickEvent 0x4 i.code
      | _, _ => c2.pickEvent 0x5 (c.time.refPort.getD 0)
    else c1
  else c

/-- A pick number opens: the encryption counter starts afresh (R659), and an end-point whose pick has stepped back holds its encryption until the pick passes the highest one used (R663). -/
def Common.openPick (c : Common) (was : Nat) : Common :=
  { c with sec := { c.sec with ctr := 0, encHold := (c.sec.encHold || decide (c.pick < was)) && decide (c.pick ≤ c.sec.encHigh) } }

/-- The timebase at a boundary: the next pick opens. A part in ACQUIRING has no pick number; it counts its boundaries from 0 to measure time (DESIGN CHOICE, notes/assumptions/21.md). -/
def Common.tick (c : Common) : Common :=
  let c0 := match c.part with | .sw => (c.missEdge .a).missEdge .b | .ep => c
  let held := c0.time.st == .holdover || c0.time.st == .expired
  let c1 := c0.modTime (fun t => { t with pick := (t.pick + 1) % 2 ^ 64, ns := 0, holdPicks := if held then t.holdPicks + 1 else t.holdPicks })
  (c1.openPick c0.pick).slewStep

/-- The ports whose markers an end-point follows: its raised ones (R308). -/
def Common.markerPorts (c : Common) : List Nat := (List.range 8).filter (fun k => (c.port k).t.st == .raised)

/-- The reference port of an end-point (R308). -/
def Common.refPort (c : Common) : Option Nat :=
  match c.markerPorts.find? (fun k => (c.port k).mark.farLocked) with
  | some k => some k
  | none => c.markerPorts.head?

/-- An end-point follows its reference port (R308, R309): a change slews toward the new one; with none it is in HOLDOVER. -/
def Common.followRef (c : Common) : Common :=
  if c.part = .sw ∨ c.time.st = .acquiring ∨ c.time.mismatch then c
  else
    let r := c.refPort
    match r with
    | none =>
      if c.time.st = .holdover ∨ c.time.st = .expired then c.modTime (fun t => { t with refPort := none })
      else (c.enterHoldover.modTime (fun t => { t with refPort := none })).pickEvent 0x1 0
    | some k =>
      if r = c.time.refPort ∧ c.time.st ≠ .holdover then c
      else
        let behind : Int := -(Tab.get c.time.offsets 0 k)
        let c1 := c.modTime (fun t => { t with refPort := r })
        if c.time.st = .expired then c1
        else if 1000000000 < behind.natAbs then (c1.modTime (fun t => { t with mismatch := true })).pickEvent 0x1 k
        else if behind.natAbs ≤ 20 then (c1.modTime (fun t => { t with st := .locked, slew := 0 })).pickEvent 0x1 k
        else (c1.modTime (fun t => { t with st := .slewing, slew := behind })).pickEvent 0x1 k

/-- An end-point adopts the pick number that port k brings (R309, R535). It is in HOLDOVER until a port is raised (notes/assumptions/23.md). -/
def Common.adoptPick (c : Common) (k pn : Nat) : Common :=
  ((((c.renumber pn).enterHoldover).modTime (fun t => { t with refPort := none })).openPick c.pick).pickEvent 0x1 k

/-- The skew of an end-point's port (R309). -/
def Common.noteOffset (c : Common) (k : Nat) (off : Int) : Common :=
  if c.part = .sw then c
  else
    let c1 := c.modTime (fun t => { t with offsets := Tab.put t.offsets k off })
    let c2 := c1.wr (0x90010 + 4 * k) (BitVec.ofInt 32 off)
    if 100 < off.natAbs ∧ ¬ c.time.skewed.contains k then (c2.modTime (fun t => { t with skewed := t.skewed ++ [k] })).pickEvent 0x2 k
    else if off.natAbs ≤ 50 ∧ c.time.skewed.contains k then (c2.modTime (fun t => { t with skewed := t.skewed.filter (· != k) })).pickEvent 0x3 k
    else c2

/-- Stage 11 settles (R535): length, the switch's timebase, the end-point's pick number. -/
def Common.alignDone (c : Common) (n : Nat) (m : Marker) (offset : Int) : Common :=
  let p := c.port n
  if p.t.st ≠ .raising ∨ p.t.stage ≠ 11 ∨ !rttSettled p.mark.rtts then c
  else
    let d := rttDelay p.mark.rtts
    let c1 := c.wr (linkA c.part n 0x024) (BitVec.ofNat 32 (min 65535 d + 65536 * min 65535 (rttSpread p.mark.rtts)))
    let done := fun (c : Common) => (c.enterStage12 n).baselines n Config.powerSum
    if reachMax c.part n < d then c1.failRaise n causeReach
    else
      match c.part with
      | .sw => if selvedge .sw n ∨ c.time.st ≠ .acquiring then done c1 else c1
      | .ep =>
        let others := (List.range 8).any (fun k => k != n && (c.port k).inService)
        if !c.time.mismatch ∧ (c.time.st = .acquiring ∨ c.time.st = .expired ∨ !others) then done (c1.adoptPick n m.pn)
        else if offset.natAbs ≤ 500 then done c1
        else c1.failRaise n causePick

/-- A pick marker received (R512 to R515, R535): round trip, the far end's roles and state, identity signs, the end-point's offset. -/
def Common.recvMarker (c : Common) (n : Nat) (m : Marker) : Common :=
  let p := c.port n
  let back := (c.pick + 256 - m.echo % 256) % 256
  let sent := c.pick - back
  let rtt : Int := m.arrival + 2000 * (back : Int) - 8 * (m.turn : Int)
  let d : Int := (c.rf' (linkA c.part n 0x024) 15 0 : Nat)
  let offset : Int := (m.arrival - d) / 2 - ((m.pn : Int) - c.pick) * 1000
  let roles := m.roles
  let c1 := c.modPort n (fun q =>
    { q with
      t := { q.t with
        farRolesSeen := (if roles = q.t.farRoles then q.t.farRolesSeen + 1 else 1),
        farRoles := roles },
      mark := { q.mark with
        lastFar := m.pn % 256, echoes := (if q.mark.echoes.contains sent then q.mark.echoes else q.mark.echoes ++ [sent]),
        rtts := (rtt :: q.mark.rtts).take 16, farLocked := m.state == 1, farState := m.state, farPick := m.pn } })
  let c2 := if p.t.st = .struck ∨ (p.t.st = .raising ∧ p.t.stage < 12) then c1 else c1.noteOffset n offset
  let slipped := m.wrongIds.filter (fun w => w.2 + 1 == w.1 || w.2 == w.1 + 1)
  let c3 :=
    if p.t.st = .raised ∨ p.t.st = .standby then
      each slipped c2 (fun c w => ((c.startCheck n true).parkRing n { tx := false, chan := w.1 } 1))
    else c2
  let c4 := if (c3.port n).mark.rtts.length = 16 then c3.wrF (linkA c.part n 0x024) 31 16 (min 65535 (rttSpread (c3.port n).mark.rtts)) else c3
  (c4.alignDone n m offset).followRef

/-- Missed echoes at the boundary that opens a pick (R513, R570): counted in every state but PAUSED; the fiftieth running makes the port suspect. -/
def Common.echoBoundary (c : Common) (n : Nat) : Common :=
  let p := c.port n
  if c.pick < 2 ∨ p.t.st = .paused then c.modPort n (fun p => { p with mark := { p.mark with echoes := [] } })
  else
    let due := c.pick - 2
    let keep := fun (p : Port) (run : Nat) => { p with mark := { p.mark with missRun := run, echoes := p.mark.echoes.filter (fun e => due < e) } }
    let a := linkA c.part n 0x028
    if p.mark.echoes.contains due then (c.modPort n (fun p => keep p 0)).wrF a 15 0 0
    else
      let run := p.mark.missRun + 1
      let c1 := ((c.modPort n (fun p => keep p run)).wrF a 15 0 (min 65535 run)).bumpHi a
      if run = 50 then c1.linkEvent n 0x43 0 else c1

/-- The pitch of a domain port (R626). -/
def Common.portPitch (c : Common) (n : Nat) : Nat := c.rf' (0x900200 + n / 8 * 4) (4 * (n % 8) + 3) (4 * (n % 8))

/-- The port that a node's alias entry names, if the entry is valid (Table 7.11). -/
def Common.aliasOf (c : Common) (node : Nat) : Option Nat :=
  let r := c.rd (0x504000 + node * 4)
  if flag r 31 then some (fld r 7 0) else none

/-- The conditions of R536 for a port of the switch. -/
def Common.admissible (c : Common) (n : Nat) : Bool :=
  let open_ := flag (c.rd (linkA .sw n 0x000)) 2
  if selvedge .sw n then open_
  else
    match (c.port n).far.ident with
    | none => false
    | some i => open_ && i.nodeValid && c.aliasOf i.node == some n && i.pitch == c.portPitch n

/-- Admission at a pick boundary (R536), by the switch. -/
def Common.admission (c : Common) (n : Nat) : Common :=
  let p := c.port n
  let put := fun (c : Common) (st : LinkState) (cause : Nat) =>
    (c.linkEvent n cause 0).modPort n (fun p => { p with t := { p.t with st := st, stage := 0 }, op := { p.op with ostate := .lit } })
  if c.part = .ep then c
  else
    let ok := c.admissible n
    let tell := fun (c : Common) (k : Nat) => if selvedge .sw n then c else c.sendCtrl n (.admission k)
    match p.t.st with
    | .raising =>
      if p.t.stage = 12 then (if ok then tell (put c .raised causeRaised) 1 else tell (put c .standby causeStandby) 2) else c
    | .standby => if ok then tell (put c .raised causeAdmitted) 1 else c
    | .raised => if ok then c else tell (put c .standby causeStandby) 2
    | _ => c

/-- ADMIT received by an end-point (R536). -/
def Common.recvAdmit (c : Common) (n code : Nat) : Common :=
  let p := c.port n
  let c0 := c.modPort n (fun p => { p with far := { p.far with admitCode := code } })
  let put := fun (c : Common) (st : LinkState) (cause : Nat) =>
    (c.linkEvent n cause 0).modPort n (fun p => { p with t := { p.t with st := st, stage := 0 }, op := { p.op with ostate := .lit } })
  let raise := fun (c : Common) (cause : Nat) => (put c .raised cause).modEgress n (fun g => { g with loose := none })
  match p.t.st, code with
  | .raising, 1 => if p.t.stage = 12 then raise c0 causeRaised else c0
  | .raising, 2 => if p.t.stage = 12 then put c0 .standby causeStandby else c0
  | .standby, 1 => raise c0 causeAdmitted
  | .raised, 2 => put c0 .standby causeStandby
  | _, _ => c0

/-- A lane check ends at the second boundary after it began (R540); the fourth clean one within 1,000 picks strikes the port (R541). -/
def Common.checkBoundary (c : Common) (n : Nat) : Common :=
  match (c.port n).t.check with
  | none => c
  | some s =>
    if c.pick < s + 2 then c
    else
      let c1 := c.modTrain n (fun t => { t with check := none })
      let p := c1.port n
      if !p.t.checkBad then
        let recent := c.pick :: p.t.cleanChecks.filter (fun q => decide (c.pick < q + 1000))
        let c2 := ((c1.bumpHi (linkA c.part n 0x020)).linkEvent n 0x42 0).modTrain n (fun t => { t with cleanChecks := recent })
        if 4 ≤ recent.length then c2.strikeOrderly n causeChecks false else c2
      else c1

/-- Roles received at two boundaries running are adopted by the end that does not lead (R515). -/
def Common.adoptRoles (c : Common) (n : Nat) : Common :=
  let p := c.port n
  if (p.t.st = .raised ∨ p.t.st = .standby) ∧ !c.leading n ∧ 2 ≤ p.t.farRolesSeen ∧ p.t.farRoles ≠ p.t.roles ∧ p.t.exchanges = [] then
    c.modTrain n (fun t => { t with roles := t.farRoles })
  else c

/-- The exchanges whose picks have come are applied (R543). -/
def Common.exchangeBoundary (c : Common) (n : Nat) : Common :=
  each ((c.port n).t.exchanges.filter (fun x => decide (x.pickE ≤ c.pick))) c (fun c x => c.applyExchange n x)

/-- At a quiet pick the leading end asks for the full width that the good channels allow (R482, R543). -/
def Common.restoreWidth (c : Common) (n : Nat) : Common :=
  let p := c.port n
  if quiet c.pick ∧ c.leading n ∧ (p.t.st = .raised ∨ p.t.st = .standby) ∧ p.t.exchanges = [] ∧ p.width < 32 ∧
     p.width < widthFor (goodChans p.t.roles p.t.badChans).length then c.requestWidth n
  else c

/-- Raises that wait for a boundary (R538, R549): one asked for while the hold ran, and the automatic one at a quiet pick. -/
def Common.raiseBoundary (c : Common) (n : Nat) : Common :=
  let t := (c.port n).t
  if c.mayRaise n && decide (t.holdUntil ≤ c.pick) &&
     (t.raiseAsked || (flag (c.rd (linkA c.part n 0x000)) 1 && !t.needCmd && quiet c.pick)) then c.startRaise n
  else c

/-- One sample of a queue at a boundary (R338). -/
def Common.sampleQueue (c : Common) (g : Egress) (q : Nat) : QSample :=
  { depth := min 0xFFFF (queueCells (g.queue q)),
    delay := match g.queue q with | e :: _ => min 0xFFFF ((c.now - e.at_) / 16) | [] => 0 }

/-- Queue samples of a port (R338); a frozen ring records nothing. -/
def Common.sampleBoundary (c : Common) (n : Nat) : Common :=
  let a := telA c.part n 0x000
  let queues := List.range 11
  if flag (c.rd a) 4 then c.bumpBy (telA c.part n 0x010) 31 0 11
  else
    let c1 := c.modEgress n (fun g =>
      { g with ring := queues.foldl (fun r q => Tab.set r {} (64 * q + c.pick % 64) (c.sampleQueue g q)) g.ring })
    (c1.wr (telA c.part n 0x004) (BitVec.ofNat 32 c.pick)).wr (telA c.part n 0x008) (BitVec.ofNat 32 (c.pick / 2 ^ 32))

/-- The loose limit L of an end-point plane at a boundary (R337). -/
def Common.looseBoundary (c : Common) (n : Nat) : Common :=
  if c.part = .sw then c
  else
    let p := c.port n
    let ctrl := c.rd 0x90040
    let top := contentCells p.width
    let s := fld ctrl 1 0 + 1
    let l := p.eg.loose.getD top
    let l1 :=
      match p.eg.level with
      | 0 => l + fld ctrl 15 4
      | 1 => l - l / 2 ^ s
      | 2 => l - 2 * (l / 2 ^ s)
      | _ => l / 2
    let l2 := min (max l1 (c.rf' 0x90044 12 0)) top
    let c1 := c.modEgress n (fun g => { g with loose := some l2, lastLevel := p.eg.level, level := 0 })
    let c2 := c1.noteLevel n (c1.ownLevel n)
    if p.eg.level = 0 then c2 else c2.bump (0x90080 + 4 * n)

/-- Count code violations and disparity errors of a channel in lane table 0x0 (Table 13.17). -/
def countLane (l : Tab Reg) (ch code disp : Nat) : Tab Reg :=
  Tab.upd l 0 ch (fun r => setFld (setFld r 15 0 (min 65535 (fld r 15 0 + code))) 31 16 (min 65535 (fld r 31 16 + disp)))

/-- A receiver counts the code errors of a channel that carries code groups, among them every spare (R509, R511), and remembers when the channel last showed one (R543). -/
def Common.laneError (c : Common) (e : LaneErr) : Common :=
  if portCount c.part ≤ e.port ∨ 34 ≤ e.chan ∨ 0x22 ≤ roleOf (c.port e.port).t.roles e.chan ∨ e.code + e.disp = 0 then c
  else
    c.modPort e.port (fun p =>
      { p with lane := countLane p.lane e.chan e.code e.disp, t := { p.t with chanErr := Tab.put p.t.chanErr e.chan c.pick } })

/-- What each listed port does at a boundary. -/
def Common.portBoundary (c : Common) (n : Nat) : Common :=
  let c1 := (c.modFlit n FlitLayer.newPick).recoverSpares n
  let c2 := (c1.exchangeBoundary n).adoptRoles n
  let c3 := (c2.checkBoundary n).admission n
  let c4 := (c3.restoreWidth n).raiseBoundary n
  (c4.looseBoundary n).returnVc5 n

/-- The port work of a boundary: markers' echoes on every port, the rest on every port the model lists, samples last. -/
def Common.portsBoundary (c : Common) : Common :=
  let all := List.range (portCount c.part)
  let c1 := if c.time.st = .acquiring then c else each all c (fun c n => c.echoBoundary n)
  let c2 := each (if quiet c.pick then all else c1.listed) c1 (fun c n => c.portBoundary n)
  let frozen := c2.rf.cur.filterMap (fun e => match telPlace c2.part e.1 with | some (n, 0) => if flag e.2 4 ∧ !c2.listed.contains n then some n else none | _ => none)
  each (c2.listed ++ frozen) c2 (fun c n => c.sampleBoundary n)

end Sys2Proof.Machine
end

