-- ==== Sys2Proof/Machine/SwCore.lean ====
section
/-!
DEFINITION. The switch core (spec/07): ingress checks (Table 7.1), buffer admission (R263 to R267), spray units, shafts and matchers (R268 to R279), the reed (R281 to R284), casts (R285 to R288), seal slots (R640), policing (R320).
-/

namespace Sys2Proof.Machine

/-- Change what both parts hold. -/
def SwState.mod (s : SwState) (f : Common → Common) : SwState := { s with c := f s.c }

/-- Change the core. -/
def SwState.modCore (s : SwState) (f : Core → Core) : SwState := { s with core := f s.core }

/-- Plane of the switch (R61, Table 13.18). -/
def Common.plane (c : Common) : Nat := c.rf' 0x503000 14 12

/-- Domain of the switch. -/
def Common.swDomain (c : Common) : Nat := c.rf' 0x503000 11 0

/-- A core counter of a port (Table 7.9). -/
def coreA (n off : Nat) : Nat := 0x100000 + n * 0x1000 + off

/-! ### Pitches -/

/-- SEALED (Table 16.13). -/
def Common.sealed (c : Common) (p : Nat) : Bool := flag (c.rd (0x900000 + p * 0x20)) 1

/-- CONFIDENTIAL (Table 16.13). -/
def Common.confidential (c : Common) (p : Nat) : Bool := flag (c.rd (0x900000 + p * 0x20)) 2

/-- The sealed pitch that holds a seal slot (R640). -/
def Common.sealHolder (c : Common) (slot : Nat) : Option Nat :=
  (List.range 16).find? (fun p => c.sealed p && bit ((c.rd (0x900018 + p * 0x20)).toNat * 2 ^ 32 + (c.rd (0x900014 + p * 0x20)).toNat) (slot % 64))

/-- Seal slots that a transfer of `dur` ns which starts now touches. -/
def Common.sealSlots (c : Common) (dur : Nat) : List Nat :=
  let a := c.time.ns * 64 / 1000
  let b := (c.time.ns + dur - 1) * 64 / 1000
  (List.range (b + 1 - a)).map (· + a)

/-- A shared path may start a transfer of a pitch now (R640). -/
def Common.sealLets (c : Common) (pitch dur : Nat) : Bool :=
  (c.sealSlots (max 1 dur)).all (fun k => c.sealHolder k == (if c.sealed pitch then some pitch else none))

/-- Nanoseconds that a packet occupies a 128 GB/s path. -/
def laneNs (p : Packet) : Nat := (p.cellCount + 7) / 8

/-! ### Sending from the switch -/

/-- Put a packet into an output's egress queue. `arrived`: the PITCH that it came with, where that was rewritten; `tap`: the group bus that brings it. -/
def SwState.enq (s : SwState) (n : Nat) (p : Packet) (excess : Bool) (input : Option Nat) (age : Nat) (arrived tap : Option Nat := none) : SwState :=
  s.mod (fun c => c.enqueue n (c.queueOf n p excess) { pkt := p, at_ := c.now, age := age, input := input, arrived := arrived, tap := tap })

/-- Is a node fenced on this plane (R571)? -/
def Common.fenced (c : Common) (node : Nat) : Bool := flag (c.rd (0xA00044 + node / 32 * 4)) (node % 32)

/-- The node that a domain port's alias entry names, if one does. -/
def Common.nodeAt (c : Common) (n : Nat) : Option Nat := (List.range 256).find? (fun i => c.aliasOf i == some n)

/-- A domain port whose node is fenced: the switch sends little more there than markers and CTRL flits (R572). -/
def Common.fencedPort (c : Common) (n : Nat) : Bool := (List.range 256).any (fun i => c.fenced i && c.aliasOf i == some n)

/-- Output ports that tap a group bus: rows 0 to 15, columns 16 to 31 (R286, R572). -/
def Common.taps (c : Common) (bus : Nat) : List (Nat × Nat) :=
  (List.range 16).filterMap (fun k =>
    let node := if bus < 16 then bus * 16 + k else k * 16 + (bus - 16)
    if c.fenced node then none else (c.aliasOf node).map (fun o => (o, node)))

/-- Two packets of the switch's own belong to one collective: handle, group and sequence agree (R373). -/
def sameColl (p q : Packet) : Bool :=
  let mine := fun (x : Packet) => x.src == 0 && [opGrant, opResult, opAbortNotice, opDone, opResend].contains x.op
  mine p && mine q && p.woff / 2 ^ 30 == q.woff / 2 ^ 30 && p.seq == q.seq

/-- A cast of the same collective, generated before place `ord`, still has to reach a port (R373). -/
def SwState.castBefore (s : SwState) (n ord : Nat) (p : Packet) : Bool :=
  s.core.casts.any (fun j => decide (j.ord < ord) && sameColl j.pkt p && (s.c.taps j.bus).any (fun t => t.1 == n))

/-- Send a packet of the switch's own by the injection lane of its port (R60, R640), behind what was generated earlier for the same member of its collective (R373). A port that is not in service takes nothing. -/
def SwState.originate (s : SwState) (n : Nat) (p : Packet) : SwState :=
  if !(s.c.port n).inService && (s.c.port n).t.st != .standby then s
  else if s.c.sealLets p.pitch (laneNs p) && s.core.lane.all (fun e => e.port != n) && !s.castBefore n s.core.nextOrd p then s.enq n p false none 0
  else s.modCore (fun k => { k with lane := k.lane ++ [{ port := n, pkt := p, ord := k.nextOrd }], nextOrd := k.nextOrd + 1 })

/-- Let waiting packets of the injection lanes go, in order on each lane: a row whose seal slot has not come stops, and so does a port with an earlier cast to come (R640, R373). -/
def SwState.pumpLane (s : SwState) : List LaneJob → List Nat → List Nat → SwState
  | [], _, _ => s
  | e :: r, rows, ports =>
    if rows.contains (e.port / 16) || !s.c.sealLets e.pkt.pitch (laneNs e.pkt) then SwState.pumpLane s r (e.port / 16 :: rows) ports
    else if ports.contains e.port || s.castBefore e.port e.ord e.pkt then SwState.pumpLane s r rows (e.port :: ports)
    else SwState.pumpLane ((s.modCore (fun k => { k with lane := k.lane.erase e })).enq e.port e.pkt false none 0) r rows ports

/-- Send a packet of the switch's own to a node, by its alias (R60). -/
def SwState.toNode (s : SwState) (node : Nat) (p : Packet) : SwState :=
  match s.c.aliasOf node with
  | some n => if s.c.fenced node then s else s.originate n (Packet.seal { p with dst := node })
  | none => s

/-! ### Answers that the switch gives itself -/

/-- The answer NODE_ABSENT with the plane's index to a request, on the port it came by (R24, R61, R123). A merged request has no sender to answer. -/
def SwState.answerAbsent (s : SwState) (input : Nat) (p : Packet) : SwState :=
  if p.merged then s
  else
    let q := if p.op = opMsgSend then msgAnswer p stAbsent else respond p p.pitch stAbsent s.c.plane []
    (s.mod (fun c => c.bump (coreA input 0x310))).originate input q

/-- Does the switch answer a packet that it cannot deliver (R24, R75, R123)? -/
def answerable (p : Packet) : Bool := isRequest p.op || p.op == opMsgSend

/-- Dispose of a packet whose output is struck or not raised (step 10 of Table 7.1). -/
def SwState.outputDown (s : SwState) (input : Nat) (p : Packet) : SwState :=
  if answerable p then s.answerAbsent input p else s.mod (fun c => c.bump (coreA input 0x314))

/-! ### Buffer (R263 to R267) -/

/-- Blocks of 256 bytes that a packet takes. -/
def packetBlocks (p : Packet) : Nat := (16 * p.cellCount + 255) / 256

/-- Blocks that a packet still holds: each one returns on the receipt for the data it holds (R267). -/
def CorePkt.holds (p : CorePkt) : List BlockKind :=
  ((List.range p.blocks.length).filter (fun i => p.unreceipted.any (fun c => c / 16 == i))).filterMap (fun i => p.blocks[i]?)

/-- Blocks of a kind that an input holds. -/
def Core.held (k : Core) (input : Nat) (kind : BlockKind) : Nat :=
  k.pkts.foldl (fun a p => if p.input = input then a + p.holds.count kind else a) 0

/-- The pitch of a packet that has come by an input: its port's; a selvedge port belongs to none, and its messages have their ingress pitch (R626). -/
def Common.pitchOf (c : Common) (input : Nat) (p : Packet) : Nat := if selvedge .sw input then p.pitch else c.portPitch input

/-- Common blocks that a pitch holds. -/
def SwState.pitchUse (s : SwState) (pitch : Nat) : Nat :=
  s.core.pkts.foldl (fun a p => if s.c.pitchOf p.input p.pkt = pitch then a + p.holds.count .common else a) 0

/-- Guarantee and limit of a pitch (Table 7.10). -/
def Common.guarantee (c : Common) (pitch : Nat) : Nat := c.rf' (0x501000 + pitch * 0x10) 17 0
/-- `CORE_PITCH_LIMIT_p.BLOCKS`. -/
def Common.blockLimit (c : Common) (pitch : Nat) : Nat := c.rf' (0x501004 + pitch * 0x10) 17 0

/-- The common pool (R263). -/
def commonPool : Nat := 196608

/-- Common blocks that no guarantee holds and nothing uses, when `pitch` uses `more` blocks above those it holds. -/
def SwState.unheld (s : SwState) (pitch more : Nat) : Nat :=
  commonPool - (List.range 16).foldl (fun a p => a + max (s.c.guarantee p) (s.pitchUse p + (if p = pitch then more else 0))) 0

/-- The reserve of a VC and its size (Table 7.3). -/
def reserveOf (vc : Nat) : Option (BlockKind × Nat) :=
  if vc = 0 then some (.resMgmt, 16) else if vc = 2 ∨ vc = 4 then some (.resRsp, 512) else if vc = 3 then some (.resStaked, 256) else none

/-- The next block for a packet of an input, VC and pitch, given blocks already taken for it (R264). -/
def SwState.blockFor (s : SwState) (input vc pitch : Nat) (got : List BlockKind) : Option BlockKind :=
  let have_ := fun k => s.core.held input k + got.count k
  let use := s.pitchUse pitch + got.count .common
  let fromReserve := match reserveOf vc with
    | some (k, n) => if have_ k < n then some k else none
    | none => none
  match fromReserve with
  | some k => some k
  | none =>
    if have_ .priv < 1264 then some .priv
    else if use < s.c.guarantee pitch then some .common
    else if !s.c.sealed pitch && decide (use < s.c.blockLimit pitch) && decide (0 < s.unheld pitch (got.count .common)) then some .common
    else none

/-- All the blocks of a packet in order, or none (R264). -/
def SwState.takeBlocks (s : SwState) (input vc pitch : Nat) : Nat → List BlockKind → Option (List BlockKind)
  | 0, got => some got
  | n + 1, got =>
    match s.blockFor input vc pitch got with
    | some k => SwState.takeBlocks s input vc pitch n (got ++ [k])
    | none => none

/-! ### Virtual-output queues -/

/-- Key of a triple. -/
def tripleKey (input output : Nat) (high : Bool) : Nat := (input * 512 + output) * 2 + b2n high

/-- Core class of a VC (Table 7.4). -/
def vcHigh (vc : Nat) : Bool := vc == 0 || vc == 3 || vc == 4

/-- Cells of a backlog or a unit. -/
def cellSum (l : List CellRun) : Nat := l.foldl (fun a e => a + e.n) 0

/-- The first `n` cells of a backlog, and the rest. -/
def takeCells : Nat → List CellRun → List CellRun × List CellRun
  | _, [] => ([], [])
  | n, e :: r =>
    if n = 0 then ([], e :: r)
    else if n < e.n then ([{ e with n := n }], { e with first := e.first + n, n := e.n - n } :: r)
    else
      let t := takeCells (n - e.n) r
      (e :: t.1, t.2)

/-- The shaft of a unit with a sequence, by rotation position (R271): in ascending order of index until a standby takes the position of the shaft it replaces (Table 7.5, notes/assumptions/82.md). -/
def Core.shaftFor (k : Core) (input seq : Nat) : Nat := k.rotation.getD ((seq + input) % max 1 k.rotation.length) 99

/-- Close the open unit of a queue (R269, R270). -/
def Core.closeUnit (k : Core) (input : Nat) (v : Voq) : Voq :=
  let t := takeCells 16 v.backlog
  { v with backlog := t.2, nextSeq := (v.nextSeq + 1) % 4096, units := v.units ++ [{ seq := v.nextSeq, shaft := k.shaftFor input v.nextSeq, cells := t.1 }] }

/-- Close every unit that is full, within the limit of R270. -/
def Core.closeFull (k : Core) (input : Nat) : Nat → Voq → Voq
  | 0, v => v
  | n + 1, v => if 16 ≤ cellSum v.backlog ∧ v.units.length < 1024 then Core.closeFull k input n (k.closeUnit input v) else v

/-- At a slot boundary an open unit also closes when no closed unit of its queue waits for a shaft (R269). -/
def Core.closeAtSlot (k : Core) (input : Nat) (v : Voq) : Voq :=
  if v.backlog ≠ [] ∧ v.units.all (·.sent) ∧ v.units.length < 1024 then k.closeUnit input v else v

/-- A packet admitted to the buffer enters its virtual-output queue (R268, R269). -/
def Core.queueCells (k : Core) (p : CorePkt) : Core :=
  { k with voqs := Tab.upd k.voqs {} (tripleKey p.input p.output p.high) (fun v => k.closeFull p.input 1024 { v with backlog := v.backlog ++ [{ pkt := p.id, n := p.pkt.cellCount }] }) }

/-- Change a packet inside the core. -/
def Core.modPkt (k : Core) (id : Nat) (f : CorePkt → CorePkt) : Core := { k with pkts := k.pkts.map (fun p => if p.id = id then f p else p) }

/-- A packet of class NORMAL must wait behind earlier packets of its input, output and VC (R262, R320): those in class HIGH or parked in the core, and those in the staked egress queue. -/
def SwState.mustPark (s : SwState) (p : CorePkt) : Bool :=
  p.excess && !p.high &&
  (s.core.pkts.any (fun q => decide (q.id < p.id) && q.input == p.input && q.output == p.output && q.pkt.vc == p.pkt.vc && q.unreleased != 0 && (q.high || q.parked)) ||
   ((s.c.port p.output).eg.queue 1).any (fun e => e.input == some p.input && e.pkt.vc == p.pkt.vc))

/-- Admit one packet of an input if it heads its VC and blocks are free; its credits go back (R264, R266). It enters its queue, or is parked. -/
def SwState.admitOne (s : SwState) (p : CorePkt) : SwState :=
  match s.takeBlocks p.input p.pkt.vc (s.c.pitchOf p.input p.pkt) (packetBlocks p.pkt) [] with
  | none => s
  | some bs =>
    let q := { p with admitted := true, blocks := bs, parked := s.mustPark p }
    (s.modCore (fun k => let k1 := k.modPkt p.id (fun _ => q); if q.parked then k1 else k1.queueCells q)).mod (fun c => c.freeCells p.input p.pkt.vc p.pkt.cellCount)

/-- Parked packets that need wait no longer enter their queues, in order of arrival. -/
def SwState.unpark (s : SwState) : SwState :=
  each (s.core.pkts.filter (·.parked)) s (fun s p =>
    if s.mustPark p then s
    else
      let q := { p with parked := false }
      s.modCore (fun k => (k.modPkt p.id (fun _ => q)).queueCells q))

/-- `BUFFER_ADMISSION` (R264, R266): every packet that heads its VC in the input stage of a port is admitted while blocks are free; `fuel` bounds them. -/
def SwState.admitPort (s : SwState) (n : Nat) : Nat → SwState
  | 0 => s
  | fuel + 1 =>
    let heads := (List.range 8).filterMap (fun vc => s.core.pkts.find? (fun p => p.input == n && !p.admitted && p.pkt.vc == vc))
    let s1 := each heads s (fun s p => s.admitOne p)
    if s1.core.pkts.any (fun p => p.input == n && !p.admitted) && s1.core != s.core then SwState.admitPort s1 n fuel else s1

/-! ### Policing of staked traffic (R319, R320) -/

/-- A port lies in a quiet span at a pick (R312). -/
def Common.inSpan (c : Common) (n pick : Nat) : Bool :=
  (List.range 4).any (fun j =>
    let q := c.rd (0x10048 + j * 0x10)
    let start := (c.rd (0x10044 + j * 0x10)).toNat * 2 ^ 32 + (c.rd (0x10040 + j * 0x10)).toNat
    flag q 0 && decide (start ≤ pick) && decide (pick ≤ start + fld q 6 1) && fld q 12 8 == n / 16 && flag q (16 + n % 16))

/-- Reservations listed: number, words A and B. -/
def Common.reservations (c : Common) : List (Nat × Reg × Reg) :=
  c.rf.cur.filterMap (fun e =>
    let o := e.1 - 0x510000
    if 0x510000 ≤ e.1 ∧ e.1 < 0x530000 ∧ o % 8 = 0 ∧ o % 0x1000 < 0x400 ∧ flag e.2 0 then some (o / 0x1000 * 128 + o % 0x1000 / 8, e.2, c.rd (e.1 + 4)) else none)

/-- Ports of a reservation's two nodes (R314). -/
def Common.resvPorts (c : Common) (a : Reg) : Option Nat × Option Nat := (c.aliasOf (fld a 15 8), c.aliasOf (fld a 23 16))

/-- A reservation as it counts: number, word A, and its FWD and REV. -/
structure ResvTerm where
  index : Nat
  a : Reg
  fwd : Nat
  rev : Nat
  deriving DecidableEq, Repr

/-- Take a reservation into a list: terms of one number between the same two nodes count once, at the greater value (R318). -/
def ResvTerm.join (l : List ResvTerm) (t : ResvTerm) : List ResvTerm :=
  if l.any (fun x => x.index == t.index && fld x.a 23 8 == fld t.a 23 8) then
    l.map (fun x => if x.index = t.index ∧ fld x.a 23 8 = fld t.a 23 8 then { x with fwd := max x.fwd t.fwd, rev := max x.rev t.rev } else x)
  else l ++ [t]

/-- Reservations as they count at a pick: the valid ones, and those lowered or removed in the pick or in the seven before it at their old values (R318). -/
def Common.resvTerms (c : Common) (pick : Nat) : List ResvTerm :=
  let now := c.reservations.map (fun (r : Nat × Reg × Reg) => ({ index := r.1, a := r.2.1, fwd := fld r.2.2 12 0, rev := fld r.2.2 28 16 } : ResvTerm))
  let old := (c.stage.oldResv.filter (fun r => decide (pick < r.until_))).map (fun (o : OldResv) => ({ index := o.index, a := o.a, fwd := fld o.b 12 0, rev := fld o.b 28 16 } : ResvTerm))
  (now ++ old).foldl ResvTerm.join []

/-- Terms that one reservation places on a pair of ports (Table 8.3). -/
def Common.resvTerm (c : Common) (input output : Nat) (t : ResvTerm) : Nat :=
  let p := c.resvPorts t.a
  (if p = (some input, some output) then t.fwd else 0) + (if p = (some output, some input) then t.rev else 0)

/-- Cells that reservations in force allow on a pair of ports in this pick (R318 to R320). -/
def Common.stakedAllowed (c : Common) (input output : Nat) : Nat :=
  if quiet c.pick || c.time.st == .expired || c.inSpan input c.pick || c.inSpan output c.pick then 0
  else (c.resvTerms c.pick).foldl (fun a t => a + c.resvTerm input output t) 0

/-- Police a staked packet of a pair (R320): excess cells are counted; later packets of the same input, output and VC follow them. -/
def SwState.police (s : SwState) (input output : Nat) (p : Packet) : Bool × SwState :=
  if p.vc ≠ 3 ∧ p.vc ≠ 4 then (false, s)
  else
    let key := input * 512 + output
    let n := Tab.get s.core.police 0 key + p.cellCount
    let extra := min p.cellCount (n - s.c.stakedAllowed input output)
    let s1 := (s.modCore (fun k => { k with police := Tab.put k.police key n })).mod (fun c => c.bumpBy (coreA input 0x350) 31 0 extra)
    let behind := s.core.pkts.any (fun q => q.input == input && q.output == output && q.pkt.vc == p.vc && q.excess) ||
      ((s.c.port output).eg.queue (if p.vc = 3 then 3 else 4)).any (fun e => e.pkt.vc == p.vc && e.input == some input)
    (decide (0 < extra) || behind, s1)

/-- Staked packets that wait to leave by a port in a quiet span are carried as excess and counted (R313): those in its staked egress queue move to W0 or W1, those in the core take that path when the reed releases them. -/
def SwState.spanPort (s : SwState) (n : Nat) : SwState :=
  let note := fun (s : SwState) (input k : Nat) => s.mod (fun c => c.bumpBy (coreA input 0x350) 31 0 k)
  let here := (s.c.port n).eg.queue 1
  let s1 := each here (s.mod (fun c => c.modEgress n (fun g => g.setQueue 1 []))) (fun s e =>
    let s1 := s.mod (fun c => c.enqueue n (c.queueOf n e.pkt true) e)
    match e.input with | some i => note s1 i e.pkt.cellCount | none => s1)
  each (s1.core.pkts.filter (fun p => p.output == n && (p.pkt.vc == 3 || p.pkt.vc == 4) && !p.excess)) s1 (fun s p =>
    note (s.modCore (fun k => k.modPkt p.id (fun p => { p with excess := true, high := p.high && p.admitted }))) p.input p.pkt.cellCount)

/-- The ports of the quiet spans of this pick. -/
def SwState.spanBoundary (s : SwState) : SwState := each ((List.range 256).filter (fun n => s.c.inSpan n s.c.pick)) s (fun s n => s.spanPort n)

/-! ### Ingress (Table 7.1) -/

/-- Drop a packet and count it. -/
def SwState.drop (s : SwState) (n : Nat) (p : Packet) (reg : Nat) : SwState :=
  (s.mod (fun c => c.bump (coreA n reg))).mod (fun c => c.freeCells n p.vc p.cellCount)

/-- What a selvedge port carries beside link-local management: messages on VC7 (R29). -/
def Packet.crosses (p : Packet) : Bool := p.vc == 7 && (p.op == opMsgSend || p.op == opMsgAck)

/-- A packet is disposed of: its credits go back (R266). -/
def SwState.dispose (s : SwState) (n : Nat) (p : Packet) : SwState := s.mod (fun c => c.freeCells n p.vc p.cellCount)

/-- Steps 1, 3, 4 and 5 of Table 7.1: `none` once the packet has been disposed of (R22, R29, R52). -/
def SwState.ingressChecks (s : SwState) (n : Nat) (p : Packet) : SwState × Bool :=
  let s0 := s.mod (fun c => c.takeRx n p)
  if p.ver ≠ 1 then (s0.drop n p 0x01C, false)
  else if selvedge .sw n then (s0, true)
  else if p.merged ∨ s.c.aliasOf p.src ≠ some n then (s0.drop n p 0x300, false)
  else if p.pitch ≠ s.c.portPitch n then (s0.drop n p 0x304, false)
  else if s.c.fenced p.src then
    let s1 := s0.drop n p 0x30C
    let epoch := (s.c.rd 0xA00040).toNat
    let ans := if isRequest p.op then some (respond p p.pitch stFenced epoch []) else if p.op = opMsgSend then some (msgAnswer p stFenced) else none
    (match ans with
     | some a => s1.originate n a
     | none => s1, false)
  else (s0, true)

/-- Steps 10 and 11 of Table 7.1: toward an output. Toward a selvedge port only messages on VC7 go (R29). `arrived`: the PITCH with which the packet came. -/
def SwState.toOutput (s : SwState) (n output : Nat) (p : Packet) (arrived : Nat := p.pitch) : SwState :=
  if selvedge .sw output && !p.crosses then (s.mod (fun c => c.bump (coreA output 0x308))).dispose n p
  else if !(s.c.port output).inService then (s.outputDown n { p with pitch := arrived }).dispose n p
  else
    let r := s.police n output p
    let s1 := r.2
    let q : CorePkt := { id := s1.core.nextPkt, pkt := p, input := n, output := output, high := vcHigh p.vc && !r.1, excess := r.1,
                         unreceipted := List.range p.cellCount, unreleased := p.cellCount, arrived := arrived }
    let s2 := s1.modCore (fun k => { k with nextPkt := k.nextPkt + 1, pkts := k.pkts ++ [q] })
    s2.admitPort n 64

/-- The output of a packet to a node of this domain (step 9, R24, R572, R627): `none` where the alias entry counts as not valid. -/
def SwState.outputFor (s : SwState) (p : Packet) : Option Nat × SwState :=
  if s.c.fenced p.dst then (none, s)
  else
    match s.c.aliasOf p.dst with
    | none => (none, s)
    | some o => if s.c.portPitch o ≠ p.pitch then (none, s.mod (fun c => c.bump 0x900288)) else (some o, s)

/-- Step 9 for a packet of an input (R24). `arrived`: the PITCH with which it came; an answer carries that (R75). -/
def SwState.toDst (s : SwState) (n : Nat) (p : Packet) (arrived : Nat := p.pitch) : SwState :=
  match s.outputFor p with
  | (some o, s1) => s1.toOutput n o p arrived
  | (none, s1) =>
    let s2 := if answerable p then s1.answerAbsent n { p with pitch := arrived } else if p.op = opMsgAck then s1.mod (fun c => c.bump (coreA n 0x308)) else s1
    s2.dispose n p

/-- The selvedge port that the route table gives for a domain (R72). -/
def SwState.selvedgeFor (s : SwState) (domain : Nat) : Option Nat := (Tab.find s.core.selv domain).map (fun r => 256 + r.port % 32)

/-- `MSG_SEND` from a domain port (R72, R73, R30). -/
def SwState.msgRoute (s : SwState) (n : Nat) (p : Packet) : SwState :=
  if p.msgDstDomain = s.c.swDomain then s.toDst n p
  else
    match s.selvedgeFor p.msgDstDomain with
    | some o => s.toOutput n o p
    | none => (s.originate n (msgAnswer p stUnreachable)).dispose n p

/-- `MSG_SEND` on a selvedge port (R74, R31). The CRC does not cover PITCH (R66), and stands as it came. -/
def SwState.msgSelvedge (s : SwState) (n : Nat) (p : Packet) : SwState :=
  match (Tab.find s.core.selv p.msgSrcDomain).bind (·.pitch) with
  | none => s.drop n p 0x308
  | some pitch => s.toDst n { p with pitch := pitch } p.pitch

/-- `MSG_ACK` (R75). -/
def SwState.ackRoute (s : SwState) (n : Nat) (p : Packet) : SwState :=
  if selvedge .sw n then
    if p.ackDomain ≠ s.c.swDomain then s.drop n p 0x308
    else
      match (Tab.find s.core.selv p.ackFrom).bind (·.pitch) with
      | none => s.drop n p 0x308
      | some pitch => s.toDst n { p with pitch := pitch } p.pitch
  else if p.ackDomain = s.c.swDomain then s.toDst n p
  else
    match s.selvedgeFor p.ackDomain with
    | some o => s.toOutput n o p
    | none => s.drop n p 0x308

/-- Which packets the switch itself consumes (steps 2, 6 and 7 of Table 7.1). -/
def consumed (n : Nat) (p : Packet) : Bool :=
  if selvedge .sw n then p.op == opMgmt && p.vc == 0 && p.mgmtTarget == 0 && p.src == 0 && p.dst == 0
  else p.op == opContrib || p.op == opIntent || p.op == opAbort || (p.op == opMgmt && p.mgmtTarget == 0)

/-! ### Matchers (R277 to R279) -/

/-- A request at a matcher: input, output, class. -/
structure MatchReq where
  i : Nat
  o : Nat
  high : Bool
  deriving DecidableEq, Repr

/-- Credits that reed o has left for a shaft (R279). -/
def Core.creditLeft (k : Core) (shaft o : Nat) : Nat := 32 - Tab.get k.credit 0 (shaft * 512 + o)

/-- Requests of a shaft at a slot boundary (R277). -/
def Core.requests (k : Core) (shaft : Nat) : List MatchReq :=
  k.voqs.filterMap (fun e =>
    let o := e.1 / 2 % 512
    if e.2.units.any (fun u => u.shaft == shaft && !u.sent) ∧ 0 < k.creditLeft shaft o then some { i := e.1 / 1024, o := o, high := e.1 % 2 == 1 } else none)

/-- Distance from a pointer, going round the 288 ports. -/
def ringDist (ptr x : Nat) : Nat := (x + 288 - ptr % 288) % 288

/-- The candidate nearest at or after a pointer, high-class candidates first. -/
def nearest (ptr : Nat) (port : MatchReq → Nat) (l : List MatchReq) : Option MatchReq :=
  let l1 := if l.any (·.high) then l.filter (·.high) else l
  l1.foldl (fun b r => match b with
    | none => some r
    | some q => if ringDist ptr (port r) < ringDist ptr (port q) then some r else some q) none

/-- One iteration of grants and accepts over unmatched ports: the pairs accepted. -/
def Core.matchRound (k : Core) (shaft : Nat) (reqs : List MatchReq) (done : List MatchReq) : List MatchReq :=
  let live := reqs.filter (fun r => !done.any (fun d => d.i == r.i || d.o == r.o))
  let outs := (List.range 288).filter (fun o => live.any (fun r => r.o == o))
  let grants := outs.filterMap (fun o => nearest (Tab.get k.grant 0 (shaft * 512 + o)) (·.i) (live.filter (fun r => r.o == o)))
  let ins := (List.range 288).filter (fun i => grants.any (fun r => r.i == i))
  ins.filterMap (fun i => nearest (Tab.get k.accept 0 (shaft * 512 + i)) (·.o) (grants.filter (fun r => r.i == i)))

/-- The match of a shaft for one slot, with its pointers moved and its credits taken (R277, R279). -/
def Core.computeMatch (k : Core) (shaft : Nat) : Core :=
  let reqs := k.requests shaft
  let a := k.matchRound shaft reqs []
  let b := a ++ k.matchRound shaft reqs a
  let m := b ++ k.matchRound shaft reqs b
  let g := a.foldl (fun t r => Tab.put t (shaft * 512 + r.o) ((r.i + 1) % 288)) k.grant
  let acc := a.foldl (fun t r => Tab.put t (shaft * 512 + r.i) ((r.o + 1) % 288)) k.accept
  let cr := m.foldl (fun t r => Tab.upd t 0 (shaft * 512 + r.o) (· + 1)) k.credit
  { k with grant := g, accept := acc, credit := cr, shafts := Tab.upd k.shafts {} shaft (fun x => { x with match_ := m.map (fun r => (r.i, r.o)) }) }

/-- Give back the credit of a shaft at a reed. -/
def Core.returnCredit (k : Core) (shaft o : Nat) : Core := { k with credit := Tab.upd k.credit 0 (shaft * 512 + o) (· - 1) }

/-- Move the head unit of a matched pair onto the wire, HIGH before NORMAL (R277). -/
def Core.transferOne (k : Core) (shaft i o : Nat) : Core :=
  let head := fun (h : Bool) => ((Tab.get k.voqs {} (tripleKey i o h)).units.find? (fun u => u.shaft == shaft && !u.sent)).map (fun u => (tripleKey i o h, u))
  match (match head true with
    | some x => some x
    | none => head false) with
  | none => k.returnCredit shaft o
  | some (key, u) =>
    { k with
      voqs := Tab.upd k.voqs {} key (fun v => { v with units := v.units.map (fun x => if x.seq = u.seq then { x with sent := true } else x) }),
      wire := k.wire ++ [{ key := key, seq := u.seq, shaft := shaft, cells := u.cells }] }

/-- Shafts that are ACTIVE. -/
def Core.active (k : Core) : List Nat := (k.shafts.filter (fun e => e.2.st == .active)).map (·.1)

/-- Units carried by a shaft are counted (Table 7.10). -/
def shaftA (shaft off : Nat) : Nat := 0x500010 + shaft * 0x10 + off

/-- A transient error of a shaft: cause 1 unit errors, 2 matcher. 16 within 1,000 picks declare it failed, for the cause of the last (R273, R274). -/
def SwState.shaftTransient (s : SwState) (shaft cause : Nat) : SwState :=
  let s1 := s.mod (fun c => (c.bumpLo (shaftA shaft 4)).errTransient 3)
  s1.modCore (fun k => { k with shafts := Tab.upd k.shafts {} shaft (fun x =>
    let es := (s.c.pick :: x.errs).take 16
    let many := decide (es.length = 16) && es.all (fun e => decide (s.c.pick < e + 1000))
    { x with errs := es, due := if many && x.due.isNone then some cause else x.due }) })

/-- A lasting error of a shaft declares it failed (R273, R274): cause 1 unit errors, 2 matcher. -/
def SwState.shaftLasting (s : SwState) (shaft cause : Nat) : SwState :=
  let s1 := s.mod (fun c => (c.bumpHi (shaftA shaft 4)).errLasting 3)
  s1.modCore (fun k => { k with shafts := Tab.upd k.shafts {} shaft (fun x => { x with due := if x.due.isNone then some cause else x.due, match_ := [] }) })

/-- One shaft at a slot boundary: transfer what was matched, then compute the next match (R278); a parity failure is computed again (R273). -/
def SwState.shaftSlot (s : SwState) (bad : List Nat) (shaft : Nat) : SwState :=
  let x := Tab.get s.core.shafts {} shaft
  if x.due.isSome then s
  else
    let s1 := each x.match_ s (fun s m => (s.modCore (fun k => k.transferOne shaft m.1 m.2)).mod (fun c => c.wrapBy (shaftA shaft 8) 1))
    let s2 := s1.modCore (fun k => { k with shafts := Tab.upd k.shafts {} shaft (fun x => { x with match_ := [], retry := false }) })
    if bad.contains shaft then
      if x.retry then s2.shaftLasting shaft 2
      else s2.modCore (fun k => { k with shafts := Tab.upd k.shafts {} shaft (fun x => { x with retry := true }) })
    else
      let s3 := if x.retry then s2.shaftTransient shaft 2 else s2
      s3.modCore (fun k => k.computeMatch shaft)

/-- `MATCHER_SLOT` (R269, R277, R278): open units close, then every active shaft works; the slot fixes the instant of the pick. -/
def SwState.matcherSlot (s : SwState) (slot : Nat) (bad : List Nat) : SwState :=
  let s0 := s.mod (fun c => { c with time := { c.time with ns := max c.time.ns (min 999 (slot * 16)) } })
  let s1 := (s0.pumpLane s0.core.lane [] []).unpark
  let s2 := s1.modCore (fun k => { k with voqs := k.voqs.map (fun e => (e.1, k.closeAtSlot (e.1 / 1024) e.2)) })
  each s2.core.active s2 (fun s n => s.shaftSlot bad n)

/-! ### Purging an output -/

/-- Every packet inside the switch toward an output is disposed of (R123, R572): requests are answered, others dropped; sequences of the output start afresh. -/
def SwState.purge (s : SwState) (o : Nat) : SwState :=
  let gone := s.core.pkts.filter (fun p => p.output == o)
  let s1 := each gone s (fun s p =>
    let s1 := s.outputDown p.input { p.pkt with pitch := p.arrived }
    if p.admitted then s1 else s1.dispose p.input p.pkt)
  let queued := (s.c.port o).eg.q.flatMap (·.2)
  let s2 := each queued s1 (fun s e =>
    match e.input with
    | some i => s.outputDown i { e.pkt with pitch := e.arrived.getD e.pkt.pitch }
    | none => s)
  let mine := fun (key : Nat) => key / 2 % 512 == o
  let s3 := s2.mod (fun c => c.modEgress o (fun g => { g with q := [] }))
  s3.modCore (fun k =>
    { k with
      pkts := k.pkts.filter (fun p => p.output != o), voqs := k.voqs.filter (fun e => !mine e.1), wire := k.wire.filter (fun u => !mine u.key),
      reeds := k.reeds.filter (fun e => !mine e.1), receipts := k.receipts.filter (fun r => !mine r.1), credit := k.credit.filter (fun e => e.1 % 512 != o),
      shafts := k.shafts.map (fun e => (e.1, { e.2 with match_ := e.2.match_.filter (fun m => m.2 != o) })), lane := k.lane.filter (fun e => e.port != o) })

/-! ### Receipts (R267, R273, R283) -/

/-- The next active shaft in ascending order after one (R273). -/
def Core.nextActive (k : Core) (shaft : Nat) : Nat :=
  let a := k.active
  ((a.filter (fun x => decide (shaft < x))) ++ a).headD shaft

/-- Cells of a unit have their receipt; a packet that is receipted and released in full is gone (R267). -/
def Core.receiptCells (k : Core) (cells : List CellRun) : Core :=
  let k1 := each cells k (fun k e => k.modPkt e.pkt (fun p => { p with unreceipted := p.unreceipted.filter (fun i => decide (i < e.first) || decide (e.first + e.n ≤ i)) }))
  { k1 with pkts := k1.pkts.filter (fun p => !p.unreceipted.isEmpty || p.unreleased != 0) }

/-- A unit of a queue is assigned anew: it goes to the end of the queue of its shaft (R271, R273). -/
def Voq.assign (v : Voq) (seq : Nat) (f : SprayUnitRec → SprayUnitRec) : Voq :=
  { v with units := v.units.filter (fun x => x.seq != seq) ++ (v.units.filter (fun x => x.seq == seq)).map f }

/-- `REED_RECEIPT` (R273, R283). -/
def SwState.receipt (s : SwState) (input output seq : Nat) (high negative : Bool) : SwState :=
  let key := tripleKey input output high
  if !s.core.receipts.contains (key, seq, negative) then s
  else
    let s0 := s.modCore (fun k => { k with receipts := k.receipts.erase (key, seq, negative) })
    match (Tab.get s.core.voqs {} key).units.find? (fun u => u.seq == seq) with
    | none => s0
    | some u =>
      if negative then
        let again := fun (s1 : SwState) => s1.modCore (fun k =>
          { k with voqs := Tab.upd k.voqs {} key (fun v => v.assign seq (fun x => { x with sent := false, failedOn := some u.shaft, shaft := s.core.nextActive u.shaft })) })
        match u.failedOn with
        | some first => again ((s0.shaftLasting first 1).shaftLasting u.shaft 1)
        | none => again s0
      else
        let s1 := match u.failedOn with
          | some first => s0.shaftTransient first 1
          | none => s0
        let s2 := s1.modCore (fun k =>
          { (k.receiptCells u.cells) with voqs := Tab.upd k.voqs {} key (fun v => k.closeFull input 1024 { v with units := v.units.filter (fun x => x.seq != seq) }) })
        s2.admitPort input 64

/-! ### Shafts at a boundary (R272, R274, R427) -/

/-- Record `CORE_SHAFT_EVENT`. -/
def Common.shaftEvent (c : Common) (shaft cause : Nat) : Common := c.event 0x500004 (shaft * 4096 + cause * 256)

/-- A shaft leaves ACTIVE; a standby takes its rotation position, or the position closes (Table 7.5). -/
def Core.leaveActive (k : Core) (shaft : Nat) (st : ShaftState) : Core :=
  let stand := k.shafts.find? (fun e => e.2.st == .standby)
  let out := { k with
    shafts := (Tab.upd k.shafts {} shaft (fun x => { x with st := st, due := none, takeForTest := false, retry := false, match_ := [] })),
    credit := k.credit.filter (fun e => e.1 / 512 != shaft) }
  match stand with
  | some (b, _) => { out with shafts := Tab.upd out.shafts {} b (fun x => { x with st := .active }), rotation := k.rotation.map (fun x => if x = shaft then b else x) }
  | none => { out with rotation := k.rotation.filter (· != shaft) }

/-- Units assigned to a shaft that have no receipt are sent again on the active shafts, with their sequence (R274). -/
def Core.reassign (k : Core) (shaft : Nat) : Core :=
  { k with
    voqs := k.voqs.map (fun e => (e.1, { e.2 with
      units := e.2.units.filter (fun u => u.shaft != shaft) ++ (e.2.units.filter (fun u => u.shaft == shaft)).map (fun u => { u with shaft := k.shaftFor (e.1 / 1024) u.seq, sent := false }) })),
    wire := k.wire.filter (fun u => u.shaft != shaft) }

/-- Failures and tests of shafts take effect at a boundary. -/
def SwState.shaftBoundary (s : SwState) (badStandby : List Nat) : SwState :=
  let s1 := each (List.range 9) s (fun s n =>
    let x := Tab.get s.core.shafts {} n
    match x.due with
    | some cause =>
      let s1 := s.mod (fun c => (c.shaftEvent n cause).unitLost 3 n)
      if x.st = .active then s1.modCore (fun k => (k.leaveActive n .failed).reassign n)
      else s1.modCore (fun k => { k with shafts := Tab.upd k.shafts {} n (fun x => { x with st := .failed, due := none }) })
    | none =>
      if x.takeForTest then
        let s1 := s.mod (fun c => c.shaftEvent n 4)
        if x.st = .active then s1.modCore (fun k => (k.leaveActive n .test).reassign n)
        else s1.modCore (fun k => { k with shafts := Tab.upd k.shafts {} n (fun x => { x with st := .test, takeForTest := false }) })
      else s)
  each badStandby s1 (fun s n =>
    if (Tab.get s.core.shafts {} n).st = .standby then
      (s.modCore (fun k => { k with shafts := Tab.upd k.shafts {} n (fun x => { x with st := .failed }) })).mod (fun c => (c.shaftEvent n 3).unitLost 3 n)
    else s)

/-- A shaft returns from a test: to ACTIVE where `back`, otherwise to STANDBY (Tables 7.5, 14.7). -/
def Core.shaftReturn (k : Core) (shaft : Nat) (back : Bool) : Core :=
  if back then
    { k with shafts := Tab.upd k.shafts {} shaft (fun x => { x with st := .active }), rotation := sortNats (shaft :: k.rotation) }
  else { k with shafts := Tab.upd k.shafts {} shaft (fun x => { x with st := .standby }) }
where
  insertNat (v : Nat) : List Nat → List Nat
    | [] => [v]
    | a :: r => if v ≤ a then v :: a :: r else a :: insertNat v r
  sortNats (l : List Nat) : List Nat := l.foldr insertNat []

/-! ### Casts (R285 to R288) -/

/-- An output has room for a cast in its 16 KiB buffer for the tap of a bus (R287): what the bus has brought to egress queue 2 and has not left. -/
def Common.tapRoom (c : Common) (bus o : Nat) (p : Packet) : Bool :=
  decide (queueCells (((c.port o).eg.queue 2).filter (fun e => e.tap == some bus)) + p.cellCount ≤ 1024)

/-- Which outputs need room for a cast: those of its pitch that are in service (R287, R628). -/
def Common.needsRoom (c : Common) (p : Packet) (o : Nat) : Bool := c.portPitch o == p.pitch && (c.port o).inService

/-- Every output that needs it has room for a cast on a bus (R287). -/
def Common.castRoom (c : Common) (bus : Nat) (p : Packet) : Bool := ((c.taps bus).filter (fun t => c.needsRoom p t.1)).all (fun t => c.tapRoom bus t.1 p)

/-- Note that a bus waits for room, if the cast at its head lacks it (R287). -/
def SwState.castWait (s : SwState) (bus : Nat) : SwState :=
  match s.core.casts.find? (fun j => j.bus == bus) with
  | none => s
  | some j => if s.c.castRoom bus j.pkt || s.core.castWaits.contains bus then s else s.modCore (fun k => { k with castWaits := k.castWaits ++ [bus] })

/-- A packet of the same collective, generated earlier, still waits for the injection lane of a member that the cast reaches (R373). -/
def SwState.laneBefore (s : SwState) (j : CastJob) : Bool :=
  s.core.lane.any (fun e => decide (e.ord < j.ord) && sameColl e.pkt j.pkt && (s.c.taps j.bus).any (fun t => t.1 == e.port))

/-- `CAST_SEND` (R287, R288, R640): the cast at the head of a bus goes to every tap once all have room. -/
def SwState.castSend (s : SwState) (bus : Nat) : SwState :=
  match s.core.casts.find? (fun j => j.bus == bus) with
  | none => s
  | some j =>
    if !s.c.castRoom bus j.pkt then s.castWait bus
    else if !s.c.sealLets j.pkt.pitch (laneNs j.pkt) || s.laneBefore j then s
    else
      let s1 := s.modCore (fun k => { k with casts := k.casts.erase j })
      (each (s.c.taps bus) s1 (fun s t =>
        if s.c.portPitch t.1 ≠ j.pkt.pitch then s.mod (fun c => c.bump (coreA t.1 0x320))
        else if (s.c.port t.1).inService then s.enq t.1 (Packet.seal { j.pkt with dst := t.2 }) false none 0 none (some bus)
        else s)).castWait bus

/-- Picks in which a bus has waited for room are counted at the boundary (R287). -/
def SwState.castStalls (s : SwState) : SwState :=
  let s1 := each (List.range 32) s (fun s b => s.castWait b)
  each s1.core.castWaits (s1.modCore (fun k => { k with castWaits := [] })) (fun s b => s.mod (fun c => c.bump (0x505000 + 4 * b)))

/-- Congestion field of flits that leave a port toward its end-point: the highest level among the outputs for which its input holds a packet in a virtual-output queue (R336); 0 on a selvedge port (Table 13.6). -/
def SwState.cnFor (s : SwState) (n : Nat) : Nat :=
  if selvedge .sw n then 0
  else (s.core.pkts.filter (fun p => p.input == n && p.admitted && !p.parked && !p.unreceipted.isEmpty)).foldl (fun a p => max a (s.c.congestion p.output)) 0

end Sys2Proof.Machine
end

