-- ==== Sys2Proof/Machine/SwComb.lean ====
section
/-!
DEFINITION. The reed (R281 to R284), ages inside the switch (R121) and the hot-line combiners (R132 to R139, R290 to R298).
-/

namespace Sys2Proof.Machine

/-! ### Batches (R132 to R135) -/

/-- The line that a request addresses: destination node × 2^46 + woff div 64. -/
def lineOf (p : Packet) : Nat := p.dst * 2 ^ 46 + p.woff / 64

/-- The 4 KiB unit that a request addresses. -/
def unitOf (p : Packet) : Nat := lineOf p / 64

/-- Bytes that a request touches. -/
def touched (p : Packet) : Nat :=
  if p.op = opAtomic then atypeWidth (atypeOf (p.cell 0)) else if isMasked p.op then 64 else lenBytes p.len

/-- The request touches exactly one 64-byte line (R291). -/
def oneLine (p : Packet) : Bool := decide (0 < touched p) && decide (p.offset % 64 + touched p ≤ 64)

/-- Operations of a batch kind (R132): writes, and the atomics that combine. -/
def combines (p : Packet) : Bool :=
  (p.op == opWrite && p.len == 4) || p.op == opMasked ||
  (p.op == opAtomic &&
    (let aop := aopOf (p.cell 0)
     let ty := atypeOf (p.cell 0)
     (aop == 1 && (ty == 0 || ty == 2)) || [2, 3, 6, 7, 8].contains aop))

/-- A request that the combiner may merge (R132, R293). -/
def mergeable (p : Packet) : Bool :=
  let f := p.flags
  combines p && p.vc == 1 && !f.acquire && !f.release && !f.replay && !f.encrypted && !f.measured && !f.flagStore && p.cmode == 0 &&
  p.crcOk && (badHeader p).isNone && (badRequest p).isNone

/-- Two members may stand in one batch (R133). -/
def joins (a b : Packet) : Bool :=
  a.pitch == b.pitch && a.key == b.key &&
  (if a.op = opAtomic then
     b.op == opAtomic && aopOf (a.cell 0) == aopOf (b.cell 0) && atypeOf (a.cell 0) == atypeOf (b.cell 0) && scopeOf (a.cell 0) == scopeOf (b.cell 0) && a.woff == b.woff
   else b.op != opAtomic)

/-- Mask and line bytes of a write member. -/
def memberMask (p : Packet) : Nat := if p.op = opWrite then 2 ^ 64 - 1 else p.mask

/-- Lay a member's bytes over a line (R134). -/
def overlay (line : List Byte) (p : Packet) : List Byte :=
  (List.range 64).map (fun i => if bit (memberMask p) i then p.data.getD i 0 else line.getD i 0)

/-- Union of two masks. -/
def orMask (a : Nat) (p : Packet) : Nat := a ||| memberMask p

/-- Operand of an `ATOMIC` (Table 3.2). -/
def operandOf (p : Packet) : Nat := p.cell 1 % 2 ^ 64

/-- The first cell of the merged `ATOMIC`: AOP, ATYPE and SCOPE of its members, FETCH = 1. -/
def mergedCell0 (p : Packet) : Nat :=
  aopOf (p.cell 0) * 2 ^ 120 + atypeOf (p.cell 0) * 2 ^ 116 + scopeOf (p.cell 0) * 2 ^ 114 + 2 ^ 113

/-- Operands combined in reed order (R134). -/
def combineOperands (ms : List Packet) : Nat :=
  match ms with
  | [] => 0
  | m :: r => r.foldl (fun a p => atomStore (aopOf (p.cell 0)) (atypeOf (p.cell 0)) a (operandOf p) 0) (operandOf m)

/-- The merged request of a batch (R134, R173). -/
def CombBatch.request (b : CombBatch) : Packet :=
  let ms := b.members.map (·.2)
  match ms with
  | [] => {}
  | m :: _ =>
    let isAtom := m.op == opAtomic
    let data := if isAtom then beBytes (mergedCell0 m) 16 ++ beBytes (combineOperands ms) 16 ++ List.replicate 32 0
      else maskedData (ms.foldl overlay (List.replicate 64 0)) (ms.foldl orMask 0)
    Packet.seal
      { op := if isAtom then opAtomic else opMasked, vc := 1, src := 0, dst := m.dst, pitch := m.pitch, tag := b.number,
        len := lenCode data.length, woff := if isAtom then m.woff else m.woff / 64 * 64, seq := b.number, data := data, key := m.key, merged := true }

/-- One entry of a receipt (Table 3.13). -/
def receiptEntry (p : Packet) : List Byte :=
  if p.op = opAtomic then
    beBytes (p.src * 2 ^ 88 + p.seq % 4096 * 2 ^ 76 + b2n (fetchOf (p.cell 0)) * 2 ^ 75 + operandOf p) 12
  else beBytes (p.src * 2 ^ 24 + p.seq % 4096 * 2 ^ 12) 4

/-- Receipts of a batch from an index on (R135): 56 write entries or 18 atomic entries in each. -/
def receiptsFrom (b : CombBatch) (home pitch : Nat) : Nat → Nat → List Packet → List Packet
  | 0, _, _ => []
  | fuel + 1, first, ms =>
    match ms with
    | [] => []
    | m :: _ =>
      let isAtom := m.op == opAtomic
      let here := ms.take (if isAtom then 18 else 56)
      let body := beBytes ((if isAtom then 2 else 1) * 4096 + b.number) 2 ++ beBytes b.members.length 2 ++ beBytes first 2 ++ beBytes here.length 2 ++
        List.replicate 8 0 ++ here.flatMap receiptEntry
      mgmtPacket 0 home pitch 1 (zBytes 2 0x0510 b.number 0 0 body) ::
        receiptsFrom b home pitch fuel (first + here.length) (ms.drop here.length)

/-- Receipts of a batch. -/
def CombBatch.receipts (b : CombBatch) : List Packet :=
  match b.members with
  | [] => []
  | m :: _ => receiptsFrom b m.2.dst m.2.pitch (b.members.length + 1) 0 (b.members.map (·.2))

/-! ### Acting on a combiner -/

/-- The combiner of an output. -/
def SwState.combiner (s : SwState) (o : Nat) : Combiner := Tab.get s.core.combiners {} o

/-- Change the combiner of an output. -/
def SwState.modComb (s : SwState) (o : Nat) (f : Combiner → Combiner) : SwState :=
  s.modCore (fun k => { k with combiners := Tab.set k.combiners {} o (f (Tab.get k.combiners {} o)) })

/-- Close an open batch (R134, R135, R295): its merged request and receipts leave the output at once. -/
def SwState.closeBatch (s : SwState) (o : Nat) (b : CombBatch) : SwState :=
  let s1 := s.modComb o (fun m => { m with batches := m.batches.map (fun x => if x = b then { x with sentAt := some s.c.pick } else x) })
  let s2 := s1.enq o b.request false none 0
  let s3 := each b.receipts s2 (fun s p => s.enq o p false none 0)
  s3.mod (fun c => (c.bump 0x502008).bumpBy 0x50200C 31 0 b.members.length)

/-- Close every open batch of an output that satisfies a condition. -/
def SwState.closeWhere (s : SwState) (o : Nat) (f : CombBatch → Bool) : SwState :=
  each ((s.combiner o).batches.filter (fun b => b.sentAt.isNone && f b)) s (fun s b => s.closeBatch o b)

/-- A line combines at an output. -/
def Combiner.isHot (m : Combiner) (line : Nat) : Bool := m.watch.any (fun w => w.line == line && w.combining)

/-- Count a request in the watch table (R291). -/
def Combiner.watchOne (m : Combiner) (p : Packet) : Combiner :=
  let line := lineOf p
  let hit := fun (w : WatchEntry) => { w with count := w.count + 1, srcs := if w.srcs.contains p.src then w.srcs else p.src :: w.srcs }
  if m.watch.any (fun w => w.line == line) then { m with watch := m.watch.map (fun w => if w.line = line then hit w else w) }
  else if m.watch.length < 64 then { m with watch := m.watch ++ [hit { line := line }] }
  else m

/-- Add a member to an open batch of its line that it may join. -/
def SwState.joinBatch (s : SwState) (o input : Nat) (p : Packet) (b : CombBatch) : SwState :=
  s.modComb o (fun m => { m with batches := m.batches.map (fun x => if x = b then { x with members := x.members ++ [(input, p)] } else x) })

/-- Open a batch (R133, R297); its number is counted per output (R134). -/
def SwState.openBatch (s : SwState) (o input : Nat) (p : Packet) : SwState :=
  s.modComb o (fun m =>
    { m with
      nextBatch := (m.nextBatch + 1) % 4096,
      batches := m.batches ++ [{ number := m.nextBatch, line := lineOf p, members := [(input, p)] }] })

/-- A request released by the reed on a line that combines (R132, R133, R297): it joins a batch, opens one, or passes (`false`). While the output holds 256 batches every request passes. -/
def SwState.tryMerge (s : SwState) (o input : Nat) (p : Packet) : SwState × Bool :=
  let m := s.combiner o
  if mergeable p && m.isHot (lineOf p) then
    match m.batches.find? (fun b => decide (m.batches.length < 256) && b.sentAt.isNone && b.line == lineOf p && ((b.members.head?).map (fun h => joins h.2 p)).getD false) with
    | some b => (s.joinBatch o input p b, true)
    | none =>
      let s1 := s.closeWhere o (fun b => b.line == lineOf p)
      if (s1.combiner o).batches.length < 256 then (s1.openBatch o input p, true) else (s1, false)
  else (s, false)

/-- A packet that the reed releases at an output (R290 to R294, R262). -/
def SwState.release (s : SwState) (q : CorePkt) : SwState :=
  let p := q.pkt
  let on := flag (s.c.rd 0x502000) 0
  let counted := on && decide (2 ≤ p.op) && decide (p.op ≤ 6) && oneLine p
  let s1 := if counted then s.modComb q.output (fun m => m.watchOne p) else s
  if on && p.vc == 1 && isRequest p.op then
    let joinsOpen := (s1.combiner q.output).batches.find? (fun b =>
      decide ((s1.combiner q.output).batches.length < 256) && b.sentAt.isNone && b.line == lineOf p && mergeable p && ((b.members.head?).map (fun h => joins h.2 p)).getD false)
    let near := fun (b : CombBatch) => b.line / 64 == unitOf p || (b.line == lineOf p)
    let s2 := s1.closeWhere q.output (fun b => near b && some b != joinsOpen)
    match s2.tryMerge q.output q.input p with
    | (s3, true) => s3
    | (s3, false) => s3.enq q.output p q.excess (some q.input) q.age (some q.arrived)
  else s1.enq q.output p q.excess (some q.input) q.age (some q.arrived)

/-! ### Reed (R281 to R283) -/

/-- Cells of a unit are released: packets whose last cell this is leave the reed, in the order of the unit. -/
def SwState.releaseCells (s : SwState) (cells : List CellRun) : SwState :=
  each cells s (fun s e =>
    match s.core.pkts.find? (fun p => p.id == e.pkt) with
    | none => s
    | some q =>
      let left := q.unreleased - e.n
      let s1 := s.modCore (fun k => k.modPkt q.id (fun p => { p with unreleased := left }))
      if left = 0 ∧ 0 < q.unreleased then
        (s1.release q).modCore (fun k => { k with pkts := k.pkts.filter (fun p => p.id != q.id || !p.unreceipted.isEmpty) })
      else s1)

/-- Release every unit in sequence (R281). -/
def SwState.reedRun (s : SwState) (key : Nat) : Nat → SwState
  | 0 => s
  | fuel + 1 =>
    let r := Tab.get s.core.reeds {} key
    match r.held.find? (fun u => u.seq == r.next) with
    | none => s
    | some u =>
      let s1 := s.modCore (fun k =>
        { (k.returnCredit u.shaft (key / 2 % 512)) with
          reeds := Tab.put k.reeds key { r with next := (r.next + 1) % 4096, held := r.held.filter (fun v => v.seq != u.seq) } })
      SwState.reedRun (s1.releaseCells u.cells) key fuel

/-- A unit's sequence has been released already: it lies behind the next one by less than half the circle (R270). -/
def behindSeq (next seq : Nat) : Bool := decide (2048 ≤ (seq + 4096 - next) % 4096)

/-- Since when a triple lacks a unit while it holds one of higher sequence: the earliest arrival among those held (R284). -/
def Reed.holeSince (r : Reed) : Option Nat :=
  match r.held with
  | [] => none
  | u :: us => some ((us.map (·.at_)).foldl min u.at_)

/-- `SPRAY_UNIT_ARRIVAL` (R273, R281 to R283): a unit reaches its output over its shaft, good or bad. Each single-bit error that its code corrects counts as transient for the shaft (R273, notes/assumptions/82.md). -/
def SwState.unitArrival (s : SwState) (input output seq : Nat) (high : Bool) (check : UnitCheck) : SwState :=
  let key := tripleKey input output high
  match s.core.wire.find? (fun u => u.key == key && u.seq == seq) with
  | none => s
  | some u =>
    let s0 := each (List.range check.corrected) s (fun s _ => s.shaftTransient u.shaft 1)
    let s1 := s0.modCore (fun k => { k with wire := k.wire.erase u, receipts := k.receipts ++ [(key, seq, check.bad)] })
    let r := Tab.get s1.core.reeds {} key
    if check.bad || behindSeq r.next seq || r.held.any (fun v => v.seq == seq) then s1.modCore (fun k => k.returnCredit u.shaft output)
    else (s1.modCore (fun k => { k with reeds := Tab.put k.reeds key { r with held := r.held ++ [{ u with at_ := s.c.now }] } })).reedRun key 1025

/-! ### Strikes by the core -/

/-- The watch table and every batch of an output are cleared, sent or open: its members receive no answer, and its lines stop combining (R298, Table 16.3). -/
def SwState.combClear (s : SwState) (o : Nat) : SwState :=
  let lines := ((s.combiner o).watch.filter (·.combining)).length
  each (List.range lines) (s.modComb o (fun m => { m with watch := [], batches := [] })) (fun s _ => s.mod (fun c => c.event 0x502014 (2 * 2 ^ 14 + o)))

/-- A port struck by its core stays struck for at least 128 picks; its combiner discards what it holds (R298). -/
def SwState.combDiscard (s : SwState) (o : Nat) : SwState :=
  let sent := ((s.combiner o).batches.filter (fun b => b.sentAt.isSome)).length
  (s.mod (fun c => c.bumpBy 0x502010 31 0 sent)).combClear o

/-- Strike an output at once for a reason inside the switch (R67, R121, R284). -/
def SwState.strikeCore (s : SwState) (o cause : Nat) : SwState := (s.mod (fun c => c.strikeAbrupt o cause)).purge o |>.combDiscard o

/-- `REED_HOLE_TIMEOUT` (R284). -/
def SwState.reedTimeout (s : SwState) (input output : Nat) : SwState :=
  let late := [false, true].any (fun h =>
    match (Tab.get s.core.reeds {} (tripleKey input output h)).holeSince with
    | some t => decide (t + 4000 ≤ s.c.now)
    | none => false)
  if late then
    let s1 := s.mod (fun c => (c.bump 0x5000C0).event 0x5000C4 output)
    let held := s1.core.reeds.filter (fun e => e.1 / 2 % 512 == output)
    let ids := held.flatMap (fun e => e.2.held.flatMap (fun u => u.cells.map (·.pkt)))
    let s2 := s1.modCore (fun k => { k with pkts := k.pkts.filter (fun p => !ids.contains p.id) })
    s2.strikeCore output causeCore
  else s

/-- Packets toward an output that have been 40 picks inside the switch. -/
def SwState.aged (s : SwState) (o : Nat) : Bool :=
  s.core.pkts.any (fun p => p.output == o && decide (40 ≤ p.age)) || ((s.c.port o).eg.q.any (fun e => e.2.any (fun x => decide (40 ≤ x.age))))

/-- `PACKET_AGE_DISCARD` (R121): the packets discarded are unanswered; the output is struck, and what else is queued is disposed of under R123. -/
def SwState.ageDiscard (s : SwState) (o : Nat) : SwState :=
  if s.aged o then
    let gone := s.core.pkts.filter (fun p => p.output == o && decide (40 ≤ p.age) && !p.admitted)
    let s1 := each gone s (fun s p => s.dispose p.input p.pkt)
    let s2 := s1.modCore (fun k => { k with pkts := k.pkts.filter (fun p => !(p.output == o && decide (40 ≤ p.age))) })
    let s3 := s2.mod (fun c => c.modEgress o (fun g => { g with q := g.q.map (fun e => (e.1, e.2.filter (fun x => decide (x.age < 40)))) }))
    s3.strikeCore o causeCore
  else s

/-- Ages grow at a boundary (R121): picks in which the output is PAUSED do not count. -/
def SwState.growAges (s : SwState) : SwState :=
  let held := fun (o : Nat) => (s.c.port o).t.st == .paused
  let s1 := s.modCore (fun k => { k with pkts := k.pkts.map (fun p => if held p.output then p else { p with age := p.age + 1 }) })
  s1.mod (fun c =>
    { c with ports := c.ports.map (fun e =>
        if e.2.t.st = .paused then e
        else (e.1, { e.2 with eg := { e.2.eg with q := e.2.eg.q.map (fun q => (q.1, q.2.map (fun x => { x with age := x.age + 1 }))) } })) })

/-! ### Answers (R138, R296, R297) -/

/-- Answers to the members of an answered batch in reed order (R138). -/
def memberAnswers (home status detail old : Nat) : List (Nat × Packet) → List (Nat × Packet)
  | [] => []
  | (input, p) :: r =>
    let w := atypeWidth (atypeOf (p.cell 0))
    let fetched := p.op == opAtomic && fetchOf (p.cell 0) && status == stOk
    let data := if p.op = opAtomic ∧ status = stOk then atomRspData (if fetched then old else 0) false true false else []
    let a := Packet.seal { (respond p p.pitch status detail data) with src := home }
    let next := if p.op = opAtomic then atomStore (aopOf (p.cell 0)) (atypeOf (p.cell 0)) (old % 2 ^ (8 * w)) (operandOf p) 0 else old
    (input, a) :: memberAnswers home status detail next r

/-- The batch that a `COMBINE_ANSWER` from a port answers. -/
def SwState.answered (s : SwState) (n : Nat) (l : List Byte) : Option CombBatch :=
  let kind := pn l 0 2 / 4096
  (s.combiner n).batches.find? (fun b =>
    b.sentAt.isSome && b.number == pn l 0 2 % 4096 && ((b.members.head?).map (fun h => if h.2.op = opAtomic then kind == 2 else kind == 1)).getD false)

/-- A packet consumed by the switch whose CRC-64 fails (R67): counted, and its port is struck. -/
def SwState.endToEndError (s : SwState) (n : Nat) : SwState := (s.mod (fun c => c.bump (coreA n 0x324))).strikeCore n causeCrc

/-- `PACKET_FORWARD` (R261). A packet that the switch consumes is checked as at any final receiver (R67). -/
def SwState.forward (s : SwState) (n : Nat) (p : Packet) : SwState :=
  match s.ingressChecks n p with
  | (s1, false) => s1
  | (s1, true) =>
    if consumed n p then let s2 := s1.dispose n p; if p.crcOk then s2 else s2.endToEndError n
    else if selvedge .sw n && !p.crosses then s1.drop n p 0x308
    else if p.op = opMsgSend then (if selvedge .sw n then s1.msgSelvedge n p else s1.msgRoute n p)
    else if p.op = opMsgAck then s1.ackRoute n p
    else s1.toDst n p

/-- `COMBINE_ANSWER` (R138, R296). -/
def SwState.combineAnswer (s : SwState) (n : Nat) (p : Packet) : SwState :=
  match s.ingressChecks n p with
  | (s1, false) => s1
  | (s1, true) =>
    let s2 := s1.dispose n p
    if !p.crcOk then s2.endToEndError n
    else
      let l := p.mgmtBody.drop 16
      match (if (badHeader p).isNone && lenAllowed p && noticeOk p.mgmtBody 0x0511 then s2.answered n l else none) with
      | none => s2.mod (fun c => c.bump 0xA00024)
      | some b =>
        let s3 := s2.modComb n (fun m => { m with batches := m.batches.filter (· != b) })
        each (memberAnswers p.src (pn l 2 2) (pn l 4 4) (pn l 16 16) b.members) s3 (fun s e => if s.c.fencedPort e.1 then s else s.originate e.1 e.2)

/-- `MERGED_FORGET` (R297): a merged request unanswered for 8 picks. -/
def SwState.mergedForget (s : SwState) (o batch : Nat) : SwState :=
  match (s.combiner o).batches.find? (fun b => b.number == batch && (match b.sentAt with | some t => decide (t + 8 ≤ s.c.pick) | none => false)) with
  | none => s
  | some b => (s.modComb o (fun m => { m with batches := m.batches.filter (· != b) })).mod (fun c => c.bump 0x502010)

/-! ### The boundary (R133, R291, R292) -/

/-- Lines that start combining at a boundary: the highest counts first, ties to the lower line, at most `room`. -/
def hottest (room : Nat) (l : List WatchEntry) : List Nat :=
  match room with
  | 0 => []
  | n + 1 =>
    match l.foldl (fun b w => match b with
      | none => some w
      | some v => if v.count < w.count ∨ (v.count = w.count ∧ w.line < v.line) then some w else some v) (none : Option WatchEntry) with
    | none => []
    | some w => w.line :: hottest n (l.filter (fun v => v.line != w.line))

/-- One combiner at a boundary. -/
def SwState.combBoundaryOne (s : SwState) (o : Nat) : SwState :=
  let s1 := s.closeWhere o (fun _ => true)
  let m := s1.combiner o
  let stops := (m.watch.filter (fun w => w.combining && decide (w.count < 16))).map (·.line)
  let live := (m.watch.filter (fun w => w.combining && !stops.contains w.line)).length
  let starts := hottest (8 - live) (m.watch.filter (fun w => !w.combining && decide (64 ≤ w.count) && decide (8 ≤ w.srcs.length)))
  let keep := m.watch.filterMap (fun w =>
    if starts.contains w.line then some { line := w.line, combining := true }
    else if w.combining ∧ !stops.contains w.line then some { line := w.line, combining := true } else none)
  let s2 := s1.modComb o (fun m => { m with watch := keep })
  let s3 := each stops s2 (fun s _ => s.mod (fun c => c.event 0x502014 (2 * 2 ^ 14 + o)))
  each starts s3 (fun s _ => s.mod (fun c => c.event 0x502014 (2 ^ 14 + o)))

/-- The combiners at a boundary, after the batches of the ended pick have closed. -/
def SwState.combBoundary (s : SwState) : SwState := each (s.core.combiners.map (·.1)) s (fun s o => s.combBoundaryOne o)

/-- `CORE_HL_CTRL.EN` committed as 0 or 1 (R290). -/
def SwState.combEnable (s : SwState) : SwState :=
  each (s.core.combiners.map (·.1)) s (fun s o =>
    let s1 := s.closeWhere o (fun _ => true)
    let lines := ((s1.combiner o).watch.filter (·.combining)).length
    let s2 := s1.modComb o (fun m => { m with watch := [] })
    each (List.range lines) s2 (fun s _ => s.mod (fun c => c.event 0x502014 (2 * 2 ^ 14 + o))))

/-- Lines that combine across all outputs (`CORE_HL_ACTIVE`). -/
def Core.hotLines (k : Core) : Nat := k.combiners.foldl (fun a e => a + (e.2.watch.filter (·.combining)).length) 0

end Sys2Proof.Machine
end

