-- ==== Sys2Proof/Machine/SwReduce.lean ====
section
/-!
DEFINITION. What a collective is at a switch: digest fields (Table 9.2), plane parts (R352), what each shipped program asks of the members and gives them (Table 9.11),
and what working one unit of a shipped program computes (R370, R439 to R455, R458, R459, R762).
A unit is one block of one array (all-gather: of one member; all-to-all: of one share), or the one list of a list program.
-/

namespace Sys2Proof.Machine

/-! ### Digest -/

/-- OP. -/
def CollRec.op (r : CollRec) : Nat := bits r.dig.1 127 120
/-- ROP: 0 sum, 1 min, 2 max, 3 mean. -/
def CollRec.rop (r : CollRec) : Nat := bits r.dig.1 119 116
/-- ETYPE. -/
def CollRec.etype (r : CollRec) : Nat := bits r.dig.1 111 104
/-- OTYPE. -/
def CollRec.otype (r : CollRec) : Nat := bits r.dig.1 103 96
/-- EXACT. -/
def CollRec.exact (r : CollRec) : Bool := bit r.dig.1 95
/-- STOCH. -/
def CollRec.stoch (r : CollRec) : Bool := bit r.dig.1 94
/-- NAN_ABORT. -/
def CollRec.nanAbort (r : CollRec) : Bool := bit r.dig.1 93
/-- ROOT. -/
def CollRec.root (r : CollRec) : Nat := bits r.dig.1 87 80
/-- PLANE_MASK. -/
def CollRec.mask (r : CollRec) : Nat := bits r.dig.1 79 72
/-- COUNT. -/
def CollRec.count (r : CollRec) : Nat := bits r.dig.1 63 0
/-- SEED. -/
def CollRec.seed (r : CollRec) : Nat := bits r.dig.2 127 64
/-- AUX. -/
def CollRec.aux (r : CollRec) : Nat := bits r.dig.2 63 0
/-- Members. -/
def CollRec.m (r : CollRec) : Nat := r.members.length
/-- Rank of a node. -/
def CollRec.rank (r : CollRec) (node : Nat) : Option Nat := r.members.findIdx? (fun m => m.node == node)

/-- A user program's OP (R386). -/
def userOp (op : Nat) : Bool := decide (0x80 ≤ op) && decide (op ≤ 0xBF)

/-- The plane part of an array of `count` elements (R352): first block and number of blocks. -/
def planePart (count mask plane : Nat) : Nat × Nat :=
  let b := (count + 8191) / 8192
  let p := ones mask 8
  let j := ones mask plane
  if bit mask plane then (j * b / p, (j + 1) * b / p - j * b / p) else (0, 0)

/-- The plane that carries a list program: the lowest of the mask. -/
def listPlane (mask : Nat) : Nat := ((List.range 8).find? (fun k => bit mask k)).getD 0

/-- Chunks of a list of `n` pairs of a width. -/
def listChunks (w n : Nat) : Nat := (8 + w * n + 255) / 256

/-- Bytes of a pair of a list program (Table 11.6). -/
def pairBytes (op : Nat) : Nat := if op = 9 then 8 else 16

/-- Shape of a collective on one plane: members, first block and blocks of the part, chunks of a block in ETYPE and OTYPE. -/
structure CollGeo where
  m : Nat
  first : Nat
  nb : Nat
  kin : Nat
  kout : Nat
  plane : Nat
  deriving DecidableEq, Repr

/-- The shape of a collective on a plane. -/
def CollRec.geo (r : CollRec) (plane : Nat) : CollGeo :=
  let p := planePart r.count r.mask plane
  { m := r.m, first := p.1, nb := p.2, kin := (fmtOf r.etype).chunks, kout := (fmtOf r.otype).chunks, plane := plane }

/-- Does the plane carry the lists of a list program? -/
def CollRec.listHere (r : CollRec) (plane : Nat) : Bool := listPlane r.mask == plane

/-- Chunks that a member contributes on a plane (Table 9.11; R418 for a user program with staging). -/
def CollRec.partChunks (r : CollRec) (userStage : Nat) (plane rank : Nat) : Nat :=
  let g := r.geo plane
  let op := r.op
  if op = 8 then 0
  else if op = 4 then (if (r.members.getD rank { node := 256 }).node = r.root then g.nb * g.kin else 0)
  else if op = 6 ∨ op = 7 ∨ op = 0xC then g.m * g.nb * g.kin
  else if op = 9 ∨ op = 0xA then (if r.listHere plane then listChunks (pairBytes op) r.count else 0)
  else if userOp op then (if userStage = 0 then 0 else g.nb * g.kin)
  else g.nb * g.kin

/-- Programs whose working the spec states in full; the contexts of the others run the instructions that they are given. -/
def nativeOp (op : Nat) : Bool := [1, 2, 3, 4, 5, 6, 8, 9, 0xA].contains op

/-- Units of a program on a plane. -/
def CollRec.units (r : CollRec) (plane : Nat) : Nat :=
  let g := r.geo plane
  match r.op with
  | 3 => g.m * g.nb
  | 6 => g.m * g.m * g.nb
  | 8 => 0
  | 9 => b2n (r.listHere plane)
  | 0xA => b2n (r.listHere plane)
  | _ => g.nb

/-- The unit that a chunk of a member belongs to. -/
def CollRec.unitOf (r : CollRec) (plane rank idx : Nat) : Nat :=
  let g := r.geo plane
  let blk := idx / max 1 g.kin
  match r.op with
  | 3 => rank * g.nb + blk
  | 6 => rank * g.m * g.nb + blk
  | 9 => 0
  | 0xA => 0
  | _ => blk

/-- Who contributes to a unit: ranks and their first chunk and number of chunks. -/
def CollRec.unitNeeds (r : CollRec) (plane u : Nat) : List (Nat × Nat × Nat) :=
  let g := r.geo plane
  let all := List.range g.m
  match r.op with
  | 3 => [(u / max 1 g.nb, u % max 1 g.nb * g.kin, g.kin)]
  | 4 => match r.rank r.root with
    | some k => [(k, u * g.kin, g.kin)]
    | none => []
  | 6 => [(u / max 1 (g.m * g.nb), u % max 1 (g.m * g.nb) * g.kin, g.kin)]
  | 9 => all.map (fun k => (k, 0, listChunks 8 r.count))
  | 0xA => all.map (fun k => (k, 0, listChunks 16 r.count))
  | _ => all.map (fun k => (k, u * g.kin, g.kin))

/-- Where the result of a unit goes: a rank, or everyone; and its first chunk index (R353, R372). -/
def CollRec.unitDest (r : CollRec) (plane u : Nat) : Option Nat × Nat :=
  let g := r.geo plane
  match r.op with
  | 2 =>
    let share := (r.count + 8191) / 8192 / max 1 g.m
    let dst := (g.first + u) / max 1 share
    (some dst, (g.first + u - max g.first (dst * share)) * g.kout)
  | 3 => (none, u * g.kout)
  | 5 => (r.rank r.root, u * g.kout)
  | 6 =>
    let from_ := u / max 1 (g.m * g.nb)
    let dst := u / max 1 g.nb % max 1 g.m
    (some dst, (from_ * g.nb + u % max 1 g.nb) * g.kout)
  | _ => (none, u * g.kout)

/-- Results of the program are the same for every member, so they leave as casts (R372, Table 9.11). -/
def castOp (op : Nat) : Bool := [1, 3, 4, 8, 9, 0xA].contains op || userOp op

/-! ### Working a unit -/

/-- What working a unit gives: bytes of the result, counts (R454). -/
structure WorkOut where
  bytes : List Byte := []
  sat : Nat := 0
  under : Nat := 0
  nan : Nat := 0
  /-- A contributed list was out of order: the result is undefined (R458), of at most so many pairs. -/
  loose : Option Nat := none
  deriving DecidableEq, Repr

/-- How many of the first `n` entries are true. -/
def countFirst (n : Nat) (l : List Bool) : Nat := ((l.take n).filter id).length

/-- Special inputs among the first `n` values (R440, R762). -/
def countSpecial (n : Nat) (vs : List Fp) : Nat := ((vs.take n).filter Fp.special).length

/-- Exponent of each element from those of the groups. -/
def spread (group : Nat) (ts : List Int) : List Int := ts.flatMap (fun t => List.replicate group t)

/-- The arithmetic of a collective: formats, ROP, EXACT, rounding. -/
structure Arith where
  f : NumFmt
  g : NumFmt
  rop : Nat
  exact : Bool
  stoch : Bool
  seed : Nat
  m : Nat
  deriving DecidableEq, Repr

/-- The arithmetic that a digest selects. -/
def CollRec.arith (r : CollRec) : Arith :=
  { f := fmtOf r.etype, g := fmtOf r.otype, rop := r.rop, exact := r.exact, stoch := r.stoch, seed := r.seed, m := r.m }

/-- Accumulator elements of one image (R441, R445), with the flushes. -/
def Arith.accOf (a : Arith) (ts : List Int) (vs : List Fp) : List Acc × List Bool :=
  if a.exact then
    let l := List.zipWith (fun t v => exOf t v) ts vs
    (l.map (fun x => (x.1, false)), l.map (·.2))
  else (vs.map (fun v => fp32.encodeSat v), vs.map (fun _ => false))

/-- The finished value of an accumulator element (R443, R445). -/
def Arith.finish (a : Arith) (t : Int) (x : Acc) : Rat2 :=
  if a.exact then exValue t (if a.rop = 3 then a.m else 1) x.1 else fp32Value (a.rop == 3) a.m x.1

/-- Round a block to OTYPE (R449 to R453) from array index `i` on; `real` elements count. -/
def Arith.output (a : Arith) (ys : List Rat2) (sats : List Bool) (i real : Nat) : List Byte × Nat :=
  let e := a.g.encodeBlock ys (drawsFrom a.stoch a.seed i blockElems)
  (a.g.imageBytes e.1, countFirst real (List.zipWith (· || ·) sats e.2))

/-- Reduce one block from the members' images (R370): `i` the array index of its first result element, `real` the elements that are not padding. -/
def Arith.reduceBlock (a : Arith) (imgs : List (List Byte)) (i real : Nat) : WorkOut :=
  let bs := imgs.map a.f.image
  let vals := bs.map a.f.values
  let ts := spread a.f.group (if a.exact then a.f.alignBlock bs else [])
  let accs := vals.map (a.accOf ts)
  let level := treeJoin (List.zipWith (accJoin a.exact a.rop)) [] (imgs.length + 1) (accs.map (·.1))
  let ys := if a.exact then List.zipWith (fun t x => a.finish t x) ts level else level.map (a.finish 0)
  let o := a.output ys (level.map (·.2)) i real
  { bytes := o.1, sat := o.2, under := accs.foldl (fun n x => n + countFirst real x.2) 0, nan := vals.foldl (fun n v => n + countSpecial real v) 0 }

/-- Re-quantise one block (all-to-all, `VQNT`). -/
def Arith.requantise (a : Arith) (img : List Byte) (i real : Nat) : WorkOut :=
  let vs := a.f.values (a.f.image img)
  let o := a.output (vs.map Fp.toRat) (vs.map (fun _ => false)) i real
  { bytes := o.1, sat := o.2, nan := countSpecial real vs }

/-- Pass one block unchanged (all-gather, broadcast), its special inputs counted (R762). -/
def Arith.passBlock (a : Arith) (img : List Byte) (real : Nat) : WorkOut :=
  { bytes := img, nan := countSpecial real (a.f.values (a.f.image img)) }

/-! ### Lists (Table 11.6) -/

/-- Pairs of a list in `bs`: index and value code; at most `top` of them. -/
def readList (op aux w top : Nat) (bs : List Byte) : List Pair :=
  let n := min top (leNat (bs.take 8))
  let pw := pairBytes op
  (List.range n).map (fun k =>
    let p := (bs.drop (8 + pw * k)).take pw
    if op = 9 then (leNat (p.drop 4), leNat (p.take 4) % 2 ^ w)
    else (leNat (p.take (if aux = 4 then 4 else 8)), leNat (p.drop 8) % 2 ^ w))

/-- A list in bytes, padded to whole chunks. -/
def listBytes (op : Nat) (l : List Pair) : List Byte :=
  let bs := leBytes l.length 8 ++ l.flatMap (fun e => if op = 9 then leBytes e.2 4 ++ leBytes e.1 4 else leBytes e.1 8 ++ leBytes e.2 8)
  bs ++ List.replicate ((256 - bs.length % 256) % 256) 0

/-- A list's pairs appear in the list's order (Table 11.6): that of `topkBefore`, or ascending indexes. -/
def topkInOrder (f : NumFmt) (l : List Pair) : Bool := (l.zip l.tail).all (fun e => topkBefore f e.1 e.2)

/-- Ascending indexes. -/
def ascending {α : Type} (l : List (Nat × α)) : Bool := (l.zip l.tail).all (fun e => decide (e.1.1 ≤ e.2.1))

/-- Pairs of which nothing is known, from a count of free values on. -/
def freePairs (at_ n : Nat) : List Pair := (List.range n).map (fun k => (Config.freeValue (at_ + 2 * k), Config.freeValue (at_ + 2 * k + 1)))

/-- Top-k merge of the members' lists (R459). A list out of order leaves the pairs undefined (R458). -/
def Arith.topk (a : Arith) (k : Nat) (lists : List (List Pair)) : WorkOut :=
  let n := (lists.map (·.length)).sum
  let merged := treeJoin (mergeBy (topkBefore a.f) (n + 1)) [] (lists.length + 1) lists
  { bytes := listBytes 9 (merged.take k), nan := (lists.flatten.filter (fun e => (a.f.elemValue e.2).special)).length,
    loose := if lists.all (topkInOrder a.f) then none else some (min k n) }

/-- Sparse reduce of the members' lists (R459): equal indices within one list first, then along the tree. -/
def Arith.sparse (a : Arith) (lists : List (List Pair)) : WorkOut :=
  let n := (lists.map (·.length)).sum + 1
  let t := a.f.u
  let conv := fun (e : Pair) =>
    let v := a.f.elemValue e.2
    if a.exact then let x := exOf t v; (e.1, ((x.1, false) : Acc), x.2) else (e.1, fp32.encodeSat v, false)
  let cs := lists.map (fun l => l.map conv)
  let accs := cs.map (fun l => joinEqual (accJoin a.exact a.rop) n (l.map (fun x => (x.1, x.2.1))))
  let merged := treeJoin (unionJoin (accJoin a.exact a.rop) n) [] (lists.length + 1) accs
  let ds := drawsFrom a.stoch a.seed 0 merged.length
  let out := List.zipWith (fun e d => let c := a.g.encodeElem 0 (a.finish t e.2) d; (e.1, c.1, c.2 || e.2.2)) merged ds
  { bytes := listBytes 0xA (out.map (fun e => (e.1, e.2.1))), sat := (out.filter (fun e => e.2.2)).length,
    under := (cs.flatten.filter (fun e => e.2.2)).length, nan := (lists.flatten.filter (fun e => (a.f.elemValue e.2).special)).length,
    loose := if lists.all ascending then none else some (lists.map (·.length)).sum }

/-! ### A unit of a shipped program -/

/-- Elements of a block of an array of `count` that are not padding. -/
def realIn (count block : Nat) : Nat := min 8192 (count - block * 8192)

/-- Work one unit from the contributions in rank order (Table 9.11). -/
def CollRec.work (r : CollRec) (plane u : Nat) (imgs : List (List Byte)) : WorkOut :=
  let g := r.geo plane
  let a := r.arith
  let w := a.f.width
  match r.op with
  | 2 =>
    let b := g.first + u
    let share := (r.count + 8191) / 8192 / max 1 g.m
    let dst := b / max 1 share
    a.reduceBlock imgs (dst * r.count + (b - dst * share) * 8192) (realIn r.count b)
  | 3 => a.passBlock (imgs.headD []) (realIn r.count (g.first + u % max 1 g.nb))
  | 4 => a.passBlock (imgs.headD []) (realIn r.count (g.first + u))
  | 6 =>
    let b := g.first + u % max 1 g.nb
    a.requantise (imgs.headD []) (u / max 1 (g.m * g.nb) * r.count + b * 8192) (realIn r.count b)
  | 9 => a.topk r.aux (imgs.map (readList 9 r.aux w r.count))
  | 0xA => a.sparse (imgs.map (readList 0xA r.aux w r.count))
  | _ => a.reduceBlock imgs ((g.first + u) * 8192) (realIn r.count (g.first + u))

/-! ### Refusals at the digest (R363, R421, R437, R439) -/

/-- COUNT keeps R437 for the formats, except for the list programs. -/
def CollRec.countOk (r : CollRec) : Bool :=
  r.op == 9 || r.op == 0xA || (decide (r.count % (fmtOf r.etype).group = 0) && decide (r.count % (fmtOf r.otype).group = 0))

/-- A condition of R439 under which the switch refuses the collective. -/
def CollRec.badDigest (r : CollRec) : Bool :=
  (numFmt r.etype).isNone || (numFmt r.otype).isNone || decide (4 ≤ r.rop) ||
  (r.exact && [0, 1, 2].contains r.etype) ||
  (r.exact && (r.rop == 1 || r.rop == 2 || [3, 4, 6, 7, 8, 9, 0xB].contains r.op)) ||
  ([3, 4, 9].contains r.op && r.otype != r.etype) ||
  (r.op == 9 && !([0, 1, 2] : List Nat).contains r.etype) ||
  (r.op == 0xA && ((fmtOf r.etype).scale != .none || (fmtOf r.otype).scale != .none)) ||
  !r.countOk

end Sys2Proof.Machine
end

