-- ==== Sys2Proof/Machine/SwColl.lean ====
section
/-!
DEFINITION. Collectives at a switch (spec/09): intents and digest, admission, contributions, terminal states, faults, laggards and replay.
-/

namespace Sys2Proof.Machine

/-! ### Groups and handles (Tables 9.15 and 9.16) -/

/-- Address of a group's registers. -/
def groupA (g off : Nat) : Nat := 0x740000 + g % 1024 * 0x40 + off

/-- Members of a group in rank order (R347, R346). -/
def Common.groupNodes (c : Common) (g : Nat) : List Nat :=
  (List.range 8).flatMap (fun j =>
    let w := c.rd (groupA g (0x10 + 4 * j))
    (List.range 32).filterMap (fun i => if flag w i then some (32 * j + i) else none))

/-- A group exists. -/
def Common.groupValid (c : Common) (g : Nat) : Bool := flag (c.rd (groupA g 0)) 0

/-- Pitch of a group. -/
def Common.groupPitch (c : Common) (g : Nat) : Nat := c.rf' (groupA g 0) 7 4

/-- `COLL_HANDLE_A_h`. -/
def Common.handleA (c : Common) (h : Nat) : Reg := c.rd (0x710000 + h % 4096 * 8)

/-- `COLL_HANDLE_B_h`. -/
def Common.handleB (c : Common) (h : Nat) : Reg := c.rd (0x710004 + h % 4096 * 8)

/-- A handle is valid and bound to a group that exists (R362). -/
def Common.handleFor (c : Common) (h g : Nat) : Bool :=
  let a := c.handleA h
  flag a 0 && fld a 17 8 == g && c.groupValid g

/-- The record of a group. -/
def SwState.grp (s : SwState) (g : Nat) : GroupRec := Tab.get s.groups {} g

/-- The open collective of a group and sequence. -/
def SwState.openColl (s : SwState) (g seq : Nat) : Option CollRec := s.colls.find? (fun r => r.group == g && r.seq == seq && r.st != .committed)

/-- Change a collective (groups and sequences name open ones uniquely). -/
def SwState.modColl (s : SwState) (g seq : Nat) (f : CollRec → CollRec) : SwState :=
  { s with colls := s.colls.map (fun r => if r.group = g ∧ r.seq = seq ∧ r.st ≠ .committed then f r else r) }

/-- Change a member. -/
def CollRec.modMember (r : CollRec) (rank : Nat) (f : CollMember → CollMember) : CollRec :=
  { r with members := r.members.mapIdx (fun i m => if i = rank then f m else m) }

/-- Distance of sequences modulo 2^32 (R362). -/
def seqDist (a b : Nat) : Nat := (b + 2 ^ 32 - a) % 2 ^ 32

/-- A sequence lies from A to A + 15. -/
def inWindow (a seq : Nat) : Bool := decide (seqDist a seq < 16)

/-- A sequence lies below A. -/
def belowBase (a seq : Nat) : Bool := decide (2 ^ 31 ≤ seqDist a seq)

/-- A sequence has been admitted or committed: A moves past it (R362). -/
def GroupRec.advance (g : GroupRec) (seq : Nat) : GroupRec :=
  if belowBase g.base seq then g else walk 17 { g with past := if g.past.contains seq then g.past else g.past ++ [seq] }
where
  walk : Nat → GroupRec → GroupRec
    | 0, g => g
    | n + 1, g => if g.past.contains g.base then walk n { g with base := (g.base + 1) % 2 ^ 32, past := g.past.filter (· != g.base) } else g

/-! ### Packets of collectives (Table 2.8) -/

/-- Handle of a collective packet. -/
def Packet.collHandle (p : Packet) : Nat := bits p.woff 51 40
/-- Group. -/
def Packet.collGroup (p : Packet) : Nat := bits p.woff 39 30
/-- Chunk index. -/
def Packet.collChunk (p : Packet) : Nat := bits p.woff 29 0

/-- WOFF of a collective packet. -/
def collWoff (handle group chunk : Nat) : Nat := handle % 4096 * 2 ^ 40 + group % 1024 * 2 ^ 30 + chunk % 2 ^ 30

/-- A packet that the switch sends for a collective (R60, R357, R358); DST is set when it leaves. -/
def collPacket (op pitch handle group seq chunk : Nat) (data : List Byte) : Packet :=
  Packet.seal { op := op, vc := 6, src := 0, pitch := pitch, len := lenCode data.length, woff := collWoff handle group chunk, seq := seq % 4096, data := data }

/-- Four data cells of a control packet. -/
def ctrlData (c0 c1 : Nat) : List Byte := beBytes c0 16 ++ beBytes c1 16 ++ List.replicate 32 0

/-- The terminal report of a record (R357): `DONE` for a completed state, `ABORT_NOTICE` otherwise. -/
def reportPacket (pitch handle group seq c0 c1 : Nat) : Packet :=
  let st := bits c0 127 120
  collPacket (if 0 < st ∧ st < 0x10 then opDone else opAbortNotice) pitch handle group seq 0 (ctrlData c0 c1)

/-- Bus pieces of a cast to a group (R372): its column, or each row that holds a member. -/
def busesOf (nodes : List Nat) : List Nat :=
  match (List.range 16).find? (fun c => nodes == (List.range 16).map (fun r => 16 * r + c)) with
  | some c => [16 + c]
  | none => (List.range 16).filter (fun r => nodes.any (fun n => n / 16 == r))

/-- Queue a cast on each bus. -/
def SwState.castTo (s : SwState) (nodes : List Nat) (p : Packet) : SwState :=
  let bs := busesOf nodes
  each bs (s.modCore (fun k => { k with casts := k.casts ++ bs.map (fun b => { bus := b, pkt := p, ord := k.nextOrd }), nextOrd := k.nextOrd + 1 })) (fun s b => s.castWait b)

/-- The program of a collective for its path: OP of the digest once it has one, otherwise of the handle. -/
def SwState.progOf (s : SwState) (r : CollRec) : Nat := if r.dig = (0, 0) then fld (s.c.handleA r.handle) 31 24 else r.op

/-- The shipped program of a collective: the image that carries it and its OP. An admitted collective keeps the image of its admission; one not yet admitted would take the running one (R590). -/
def SwState.shipped (s : SwState) (r : CollRec) : FwImage × Nat := (if r.st = .running then r.image else s.c.fw.running, s.progOf r)

/-- The images whose program sets the code store holds: the running one, and that of every collective still running (R590). -/
def SwState.programSets (s : SwState) : List FwImage := (s.c.fw.running :: (s.colls.filter (fun r => r.st == .running)).map (·.image)).eraseDups

/-- Send a report or a result to every member by the path of the collective's results (R372). -/
def SwState.toMembers (s : SwState) (r : CollRec) (p : Packet) : SwState :=
  let nodes := r.members.map (·.node)
  if castOp (s.progOf r) then s.castTo nodes p else each nodes s (fun s n => s.toNode n p)

/-- Record `COLL_EVENT`: 1 abort committed, 2 core retired, 3 intent refused, 4 replay. -/
def Common.collEvent (c : Common) (handle cause : Nat) : Common := c.event 0x700010 (handle % 4096 * 16 + cause)

/-! ### Retained records (R362, R379) -/

/-- A retained record. -/
def GroupRec.record (g : GroupRec) (seq : Nat) : Option CollKept := g.kept.find? (fun k => k.seq == seq)

/-- Answer one member with a retained record, or with STATE NONE (R379). -/
def SwState.answerKept (s : SwState) (n node handle group seq : Nat) : SwState :=
  let k := match (s.grp group).record seq with
    | some k => (k.c0, k.c1)
    | none => (seq % 2 ^ 32 * 2 ^ 64, 0)
  s.toNode node (reportPacket (s.c.portPitch n) handle group seq k.1 k.2)

/-- Refuse an intent (R362): counted, and answered to its sender alone. -/
def SwState.refuseIntent (s : SwState) (n node handle group seq : Nat) : SwState :=
  let s1 := s.mod (fun c => (c.bump 0x70001C).collEvent handle 3)
  let c0 := 0x16 * 2 ^ 120 + node * 2 ^ 104 + 2 ^ 96 + seq % 2 ^ 32 * 2 ^ 64 + s.c.pick % 2 ^ 64
  s1.toNode node (reportPacket (s.c.portPitch n) handle group seq c0 0)

/-! ### Causes and commits (R376 to R379) -/

/-- An abort cause arrives (R376, R377); the earliest is kept. -/
def CollRec.abort (r : CollRec) (k : CollCause) : CollRec := if r.cause.isSome then r else { r with cause := some k }

/-- A fault is declared for every collective of a group that is not committed (R380). -/
def SwState.groupFault (s : SwState) (g : Nat) (k : CollCause) : SwState :=
  { s with colls := s.colls.map (fun r => if r.group = g ∧ r.st ≠ .committed then r.abort k else r) }

/-- A new collective in GATHERING. -/
def SwState.newColl (s : SwState) (handle group seq : Nat) : CollRec :=
  { handle := handle, group := group, seq := seq, pitch := fld (s.c.handleA handle) 7 4, members := (s.c.groupNodes group).map (fun n => ({ node := n } : CollMember)) }

/-- LAG_NODE and LAG_PICKS (R383). -/
def CollRec.lag (r : CollRec) : Nat × Nat :=
  let ls := r.members.filterMap (fun m => m.last.map (fun t => (m.node, t)))
  match ls with
  | [] => (0, 0)
  | h :: t =>
    let late := t.foldl (fun a x => if a.2 < x.2 then x else a) h
    let early := t.foldl (fun a x => min a x.2) h.2
    (late.1, late.2 - early)

/-- Cells 0 and 1 of the terminal report (Table 9.3) at a commit. -/
def CollRec.report (r : CollRec) (k : CollCause) (pick : Nat) : Nat × Nat :=
  let l := r.lag
  (k.state * 2 ^ 120 + k.odd % 256 * 2 ^ 112 + k.node % 256 * 2 ^ 104 + min 255 k.count * 2 ^ 96 + r.seq % 2 ^ 32 * 2 ^ 64 + pick % 2 ^ 64,
   min 0xFFFFFFFF r.sat * 2 ^ 96 + min 0xFFFFFFFF r.under * 2 ^ 64 + min 0xFFFFFFFF r.nan * 2 ^ 32 + l.1 % 256 * 2 ^ 24 + min 0xFFFFFF l.2)

/-- A packet of this collective that R378 stops at its commit. -/
def CollRec.stops (r : CollRec) (p : Packet) : Bool :=
  (p.op == opResult || p.op == opGrant || p.op == opResend) && p.src == 0 && p.collHandle == r.handle && p.collGroup == r.group && p.seq == r.seq % 4096

/-- Contexts of a collective's slot run no further and hold none of its blocks. -/
def SwState.stopContexts (s : SwState) (r : CollRec) : SwState :=
  { s with cores := s.cores.map (fun e => (e.1, { e.2 with ctxs := e.2.ctxs.map (fun x =>
      if r.ctxs.contains (e.1, x.1) then (x.1, { x.2 with stopped := true, wait := none, exps := [], satAt := [] }) else x) })) }

/-- Commit a terminal state at a boundary (R361, R378, R379). -/
def SwState.commitColl (s : SwState) (r : CollRec) (k : CollCause) : SwState :=
  let cells := r.report k s.c.pick
  let s1 := s.modColl r.group r.seq (fun r => { r with st := .committed, commitPick := some s.c.pick, members := r.members.map (fun m => { m with staged := [], want := [] }) })
  let s2 := s1.modCore (fun c => { c with casts := c.casts.filter (fun j => !r.stops j.pkt), lane := c.lane.filter (fun e => !r.stops e.pkt) })
  let s3 := (s2.stopContexts r).toMembers r (reportPacket r.pitch r.handle r.group r.seq cells.1 cells.2)
  let s4 := { s3 with
    slotLag := if r.ctxs.isEmpty then s3.slotLag else Tab.put s3.slotLag r.slot r.lag
    groups := Tab.upd s3.groups {} r.group (fun g =>
      { (g.advance r.seq) with kept := ({ seq := r.seq, handle := r.handle, c0 := cells.1, c1 := cells.2 } :: g.kept).take 64 }) }
  if 0x10 ≤ k.state then s4.mod (fun c => c.collEvent r.handle 1) else s4

/-! ### Pools and demand (R364, R386, R420) -/

/-- Pitch of a core, where it is assigned (Table 10.12). -/
def Common.corePitch (c : Common) (k : Nat) : Option Nat :=
  let v := c.rd (0x600004 + k * 0x1000)
  if flag v 0 then some (fld v 7 4) else none

/-- A core. -/
def SwState.core' (s : SwState) (k : Nat) : BarCore := Tab.get s.cores {} k

/-- Change a core. -/
def SwState.modBar (s : SwState) (k : Nat) (f : BarCore → BarCore) : SwState := { s with cores := Tab.upd s.cores {} k f }

/-- The core that an admitted or running test takes (R584). -/
def Common.coreTested (c : Common) (k : Nat) : Bool :=
  match c.test with
  | some t => t.kind == 1 && t.unit == k
  | none => false

/-- Cores of a pitch's pool (R426); one named by an admitted test takes no further context. -/
def SwState.pool (s : SwState) (pitch : Nat) : List Nat :=
  (List.range 64).filter (fun k => (s.core' k).st == .service && !(s.core' k).scrub && !s.c.coreTested k && s.c.corePitch k == some pitch)

/-- Pages of a context. -/
def BarCtx.pages (x : BarCtx) : Nat := x.scratch.length + x.bobs.length + x.stage

/-- Pages in use on a core. -/
def BarCore.pagesUsed (b : BarCore) : Nat := b.ctxs.foldl (fun a e => a + e.2.pages) 0

/-- What a collective needs (R364): for each context its scratch pages, bobbins, staging pages; DRAM bytes and cache bytes. -/
structure Demand where
  shares : List (Nat × Nat × Nat) := []
  /-- Staging pages counted in the pool. -/
  stage : Nat := 0
  scratch : Nat := 0
  dram : Nat := 0
  cache : Nat := 0
  deriving DecidableEq, Repr

/-- Ceiling of a quotient. -/
def ceilDiv (a b : Nat) : Nat := (a + b - 1) / max 1 b

/-- Round up to 64 KiB. -/
def up64K (n : Nat) : Nat := ceilDiv n 65536 * 65536

/-- Contexts of a program (Table 9.11, Table 10.8). -/
def ctxCount (op m : Nat) (prog : Option Prog) : Nat :=
  match prog with
  | some p => if p.ctxDiv = 0 then p.ctxMax else min p.ctxMax (ceilDiv m p.ctxDiv)
  | none =>
    match op with
    | 3 => ceilDiv m 16
    | 4 => 1
    | 8 => 1
    | _ => min 32 (ceilDiv m 8)

/-- A shipped program that reduces: its values are sums, products or extremes of several members' (R370, R386, Table 9.11). -/
def reducing (op : Nat) : Bool := [1, 2, 5, 0xA, 0xC].contains op

/-- Demand of a program for M members and COUNT (Table 9.11, R420). -/
def demandOf (op m count : Nat) (exact : Bool) (prog : Option Prog) : Demand :=
  let c := ctxCount op m prog
  match prog with
  | some p =>
    let scr := ceilDiv p.scratch 32768
    let bob := if exact then p.bobExact else p.bobCtx
    { shares := (List.range c).map (fun i => (scr, bob + (if i = 0 then p.bobFixed else 0), ceilDiv (4 * p.stage * m) c)), stage := 4 * p.stage * m, scratch := p.scratch,
      dram := up64K (p.dram.getD 0 0 * m * m + p.dram.getD 1 0 * m * count + p.dram.getD 2 0 * m + p.dram.getD 3 0), cache := p.cache }
  | none =>
    let bob := match op with
      | 3 => 2 * m
      | 4 => 4
      | 8 => 0
      | _ => 4 * m + (if exact && reducing op then 8 else 4) * c
    let dram := match op with
      | 7 => 8 * m * m
      | 0xA => 16 * m * count
      | 0xB => 4 * count
      | 0xC => 4 * count
      | _ => 0
    { shares := (List.range c).map (fun i => let n := bob / c + (if i < bob % c then 1 else 0); (min 1 n, n - 1, 0)), scratch := 32768, dram := up64K dram }

/-- The loaded program that an OP names. -/
def SwState.userProg (s : SwState) (op : Nat) : Option Prog := if userOp op then Tab.find s.progs (op - 0x80) else none

/-- Demand of a collective. -/
def SwState.demand (s : SwState) (r : CollRec) : Demand := demandOf r.op r.m r.count r.exact (s.userProg r.op)

/-- Pages of a share. -/
def sharePages (x : Nat × Nat × Nat) : Nat := x.1 + x.2.1 + x.2.2

/-- Bobbins that a demand takes from the pool. -/
def Demand.bobbins (d : Demand) : Nat := d.stage + (d.shares.map (fun x => x.1 + x.2.1)).sum

/-- Range of a pitch's DRAM share on a stack: start and size in bytes. -/
def Common.dramShare (c : Common) (pitch stack : Nat) : Nat × Nat :=
  let v := c.rd (0x900008 + 4 * stack + pitch * 0x20)
  (fld v 8 0 * 2 ^ 26, fld v 24 16 * 2 ^ 26)

/-- Cache share of a pitch in bytes. -/
def Common.cacheShare (c : Common) (pitch : Nat) : Nat := c.rf' (0x900010 + pitch * 0x20) 10 0 * 65536

/-- Collectives that hold resources of a pitch. -/
def SwState.holders (s : SwState) (pitch : Nat) : List CollRec := s.colls.filter (fun r => r.pitch == pitch && !r.ctxs.isEmpty)

/-- The demand exceeds the pitch's whole pool (R360, R421). -/
def SwState.overPool (s : SwState) (pitch : Nat) (d : Demand) : Bool :=
  let k := (s.pool pitch).length
  decide (k < d.shares.length) || d.shares.any (fun x => decide (128 < sharePages x)) || decide (128 * k < d.bobbins) ||
  (decide (0 < d.dram) && (List.range 2).all (fun t => s.stacksLost.contains t || decide ((s.c.dramShare pitch t).2 < d.dram))) ||
  decide (s.c.cacheShare pitch < d.cache)

/-- Cores for the contexts (R364): distinct cores, the lowest with room, context by context. -/
def SwState.fitCores (s : SwState) (cores : List Nat) : List (Nat × Nat × Nat) → List Nat → Option (List Nat)
  | [], got => some got.reverse
  | x :: r, got =>
    match cores.find? (fun k => !got.contains k && decide ((s.core' k).ctxs.length < 16) && decide ((s.core' k).pagesUsed + sharePages x ≤ 128)) with
    | some k => SwState.fitCores s cores r (k :: got)
    | none => none

/-- A free range of a size in a pitch's DRAM share: stack and offset. -/
def SwState.fitDram (s : SwState) (pitch size : Nat) : Option (Nat × Nat × Nat) :=
  if size = 0 then some (0, 0, 0)
  else
    (List.range 2).findSome? (fun t =>
      let sh := s.c.dramShare pitch t
      let used := (s.holders pitch).filterMap (fun r => if r.dram.1 = t ∧ 0 < r.dram.2.2 then some r.dram.2 else none)
      let starts := sh.1 :: used.map (fun u => u.1 + u.2)
      let ok := fun (a : Nat) => decide (sh.1 ≤ a) && decide (a + size ≤ sh.1 + sh.2) && used.all (fun u => decide (a + size ≤ u.1) || decide (u.1 + u.2 ≤ a))
      if s.stacksLost.contains t then none
      else ((starts.filter ok).foldl (fun b a => match b with
        | none => some a
        | some v => some (min v a)) (none : Option Nat)).map (fun a => (t, a, size)))

/-- The cache partition fits. -/
def SwState.fitCache (s : SwState) (pitch size : Nat) : Bool := decide ((s.holders pitch).foldl (fun a r => a + r.cache) 0 + size ≤ s.c.cacheShare pitch) || size == 0

/-- The lowest free collective slot. -/
def SwState.freeSlot (s : SwState) : Option Nat :=
  let used := s.colls.filterMap (fun r => if r.ctxs.isEmpty then none else some r.slot)
  (List.range 1024).find? (fun k => !used.contains k)

/-- The lowest pages of a core that no scratch and no bobbin holds. -/
def BarCore.freePages (b : BarCore) : List Nat :=
  let used := b.ctxs.flatMap (fun e => e.2.scratch ++ e.2.bobs)
  (List.range 128).filter (fun p => !used.contains p)

/-- The lowest free context number of a core. -/
def BarCore.freeCtx (b : BarCore) : Nat := ((List.range 16).find? (fun c => (Tab.find b.ctxs c).isNone)).getD 0

/-! ### Contexts (R405, R428) -/

/-- The parameter block of a context (Table 10.3). -/
def CollRec.params (r : CollRec) (plane idx nbob resume : Nat) (replay : Bool) : List Byte :=
  let g := r.geo plane
  let opt := bits r.dig.1 95 88
  leBytes r.op 1 ++ leBytes r.rop 1 ++ leBytes r.etype 1 ++ leBytes r.otype 1 ++ leBytes opt 1 ++ leBytes r.root 1 ++ leBytes r.mask 1 ++ leBytes plane 1 ++
  leBytes r.count 8 ++ leBytes r.seed 8 ++ leBytes r.aux 8 ++ leBytes r.seq 4 ++ leBytes r.handle 2 ++ leBytes r.group 2 ++ leBytes r.m 4 ++
  leBytes r.ctxs.length 4 ++ leBytes idx 4 ++ leBytes (b2n replay) 4 ++ leBytes g.first 8 ++ leBytes g.nb 8 ++ leBytes g.kin 4 ++ leBytes g.kout 4 ++
  leBytes resume 8 ++ leBytes r.dram.2.2 8 ++ leBytes nbob 4 ++ List.replicate 156 0 ++
  (List.range 256).map (fun i => BitVec.ofNat 8 ((r.members.map (·.node)).getD i 0))

/-- Start a context on a core: its pages, its parameter block, its entry (R405, R364). The line buffer keeps no line of its DRAM range (R178); the lines of other contexts that run on the core stay (DESIGN CHOICE, notes/assumptions/84.md). -/
def SwState.startCtx (s : SwState) (r : CollRec) (core cx idx : Nat) (x : Nat × Nat × Nat) (size resume : Nat) (replay : Bool) : SwState :=
  let b := s.core' core
  let free := b.freePages
  let scr := free.take x.1
  let bob := (free.drop x.1).take x.2.1
  let entry := match s.userProg r.op with
    | some p => p.entry
    | none => 0
  let pad := match scr with
    | [] => b.pad
    | pg :: _ => b.pad.write (pg * 32768) (r.params s.c.plane idx bob.length resume replay)
  let lo := r.dram.1 * 2 ^ 36 + r.dram.2.1
  s.modBar core (fun b =>
    { b with lines := b.lines.filter (fun e => decide (e.1 < lo) || decide (lo + r.dram.2.2 ≤ e.1)), pad := pad, ctxs := Tab.put b.ctxs cx { slot := r.slot, idx := idx, pc := entry, scratch := scr, bobs := bob, stage := x.2.2, size := if x.1 = 0 then 0 else size } })

/-- A `GRANT` (R355). -/
def CollRec.grant (r : CollRec) (kind limit pick : Nat) : Packet :=
  collPacket opGrant r.pitch r.handle r.group r.seq 0
    (ctrlData (kind * 2 ^ 120 + r.seq % 2 ^ 32 * 2 ^ 64 + limit % 2 ^ 30 * 2 ^ 32 + (if kind = 1 then pick % 2 ^ 32 else 0)) 0)

/-- Chunks that a member contributes here. -/
def SwState.partOf (s : SwState) (r : CollRec) (rank : Nat) : Nat :=
  r.partChunks (((s.userProg r.op).map (·.stage)).getD 0) s.c.plane rank

/-- A unit's result goes to a rank, alone or with all (R372). -/
def CollRec.unitFor (r : CollRec) (plane rank u : Nat) : Bool :=
  match (r.unitDest plane u).1 with
  | none => true
  | some k => k == rank

/-- A shipped program sends a rank no result here (R374, R382). -/
def CollRec.noResult (r : CollRec) (plane rank : Nat) : Bool := nativeOp r.op && (List.range (r.units plane)).all (fun u => !r.unitFor plane rank u)

/-- Admit a collective (R364, R365, R368, R590): the running image, slot, contexts, DRAM range and cache partition; ADMIT to every member. -/
def SwState.admitColl (s : SwState) (r : CollRec) (d : Demand) (slot : Nat) (cores : List Nat) (dram : Nat × Nat × Nat) : SwState :=
  let places := cores.map (fun k => (k, (s.core' k).freeCtx))
  let r1 := { r with
    st := .running, slot := slot, admitPick := s.c.pick, image := s.c.fw.running, ctxs := places, bobbins := d.bobbins, dram := dram, cache := d.cache,
    members := r.members.mapIdx (fun i m => { m with limit := min 512 (s.partOf r i), out := r.noResult s.c.plane i }) }
  let s1 := s.modColl r.group r.seq (fun _ => r1)
  let s2 := each (List.zip (List.range places.length) (List.zip places d.shares)) s1 (fun s e => s.startCtx r1 e.2.1.1 e.2.1.2 e.1 e.2.2 d.scratch e.1 false)
  let s3 := { s2 with groups := Tab.upd s2.groups {} r.group (fun g => g.advance r.seq), slotLag := Tab.del s2.slotLag slot }
  each r1.members s3 (fun s m => s.toNode m.node (r1.grant 1 m.limit s.c.pick))

/-- Try one candidate of a pitch: admitted, and whether it fitted. -/
def SwState.tryAdmit (s : SwState) (r : CollRec) : SwState × Bool :=
  let d := s.demand r
  match s.freeSlot, s.fitCores (s.pool r.pitch) d.shares [], s.fitDram r.pitch d.dram with
  | some slot, some cores, some dram => if s.fitCache r.pitch d.cache then (s.admitColl r d slot cores dram, true) else (s, false)
  | _, _, _ => (s, false)

/-- Candidates in order (R365). -/
def SwState.admitInOrder (s : SwState) : List CollRec → SwState
  | [] => s
  | r :: rest =>
    match s.tryAdmit r with
    | (s1, true) => SwState.admitInOrder s1 rest
    | (_, false) => if (r.fullPick.getD s.c.pick) + 100 ≤ s.c.pick then s else SwState.admitInOrder s rest

/-- Insert a candidate by pick of completion, then by handle. -/
def insertCand (r : CollRec) : List CollRec → List CollRec
  | [] => [r]
  | q :: l =>
    if r.fullPick.getD 0 < q.fullPick.getD 0 ∨ (r.fullPick = q.fullPick ∧ r.handle < q.handle) then r :: q :: l else q :: insertCand r l

/-- Admission at a boundary (R365), pitch by pitch. -/
def SwState.admission (s : SwState) : SwState :=
  let cands := s.colls.filter (fun r => r.st == .queued && r.cause.isNone && (s.grp r.group).base == r.seq)
  each (List.range 16) s (fun s p => s.admitInOrder ((cands.filter (fun r => r.pitch == p)).foldr insertCand []))

/-! ### Intents (R362, R363) -/

/-- How many members hold a digest. -/
def votes (ds : List (Nat × Nat)) (d : Nat × Nat) : Nat := (ds.filter (· == d)).length

/-- The reference digest (R363): held by the most members; on a tie, by the member of lowest rank. -/
def referenceDigest (ds : List (Nat × Nat)) : Nat × Nat := ds.foldl (fun b d => if votes ds b < votes ds d then d else b) (ds.headD (0, 0))

/-- ODD_FIELDS (Table 9.3) of a digest against the reference. -/
def oddFields (a b : Nat × Nat) : Nat :=
  let diff := fun (hi lo : Nat) => bits a.1 hi lo != bits b.1 hi lo
  b2n (diff 127 116) + 2 * b2n (diff 111 96) + 4 * b2n (diff 95 88) + 8 * b2n (diff 87 80) + 16 * b2n (diff 79 72) + 32 * b2n (diff 63 0) +
  64 * b2n (bits a.2 127 64 != bits b.2 127 64) + 128 * b2n (bits a.2 63 0 != bits b.2 63 0)

/-- A collective with equal digests that is refused (R363, R421, R439, R666). -/
def SwState.refused (s : SwState) (r : CollRec) : Bool :=
  let prog := s.userProg r.op
  fld (s.c.handleA r.handle) 31 24 != r.op || (!(decide (1 ≤ r.op) && decide (r.op ≤ 0xC)) && prog.isNone) ||
  (r.root != 0 && (r.rank r.root).isNone) || ([4, 5].contains r.op && (r.rank r.root).isNone) || r.badDigest ||
  (match prog with
   | some p => decide (r.m < p.minM) || decide (p.maxM < r.m) || (s.demand r).shares.any (fun x => decide (128 < sharePages x))
   | none => false) ||
  (s.c.confidential r.pitch && (s.c.activeKey r.pitch).isNone)

/-- Compare the digests once every intent is present (R363). -/
def SwState.compareDigests (s : SwState) (r : CollRec) : CollRec :=
  let ds := r.members.map (fun m => m.intent.getD (0, 0))
  let ref := referenceDigest ds
  let r1 := { r with decided := true, dig := ref, fullPick := some s.c.pick }
  let odd := r.members.filter (fun m => m.intent.getD (0, 0) != ref)
  match odd with
  | h :: _ => r1.abort { state := 0x10, node := h.node, count := odd.length, odd := odd.foldl (fun a m => a ||| oddFields (m.intent.getD (0, 0)) ref) 0 }
  | [] => if s.refused r1 then r1.abort { state := 0x16 } else if r1.cause.isSome then r1 else { r1 with st := .queued }

/-- Record one intent. -/
def SwState.recordIntent (s : SwState) (r : CollRec) (rank : Nat) (d : Nat × Nat) : SwState :=
  if r.st ≠ .gathering ∨ r.decided ∨ (r.members.getD rank { node := 0 }).intent.isSome then s
  else
    let r1 := { (r.modMember rank (fun m => { m with intent := some d })) with firstPick := some (r.firstPick.getD s.c.pick) }
    let r2 := if r1.members.all (fun m => m.intent.isSome) then s.compareDigests r1 else r1
    s.modColl r.group r.seq (fun _ => r2)

/-- Put a new collective in the table. -/
def SwState.openNew (s : SwState) (r : CollRec) : SwState := { s with colls := s.colls ++ [r] }

/-- An intent whose packet is good (R362). -/
def SwState.takeIntent (s : SwState) (n : Nat) (p : Packet) : SwState :=
  let h := p.collHandle
  let g := p.collGroup
  let seq := bits (p.cell 2) 127 96
  let d := (p.cell 0, p.cell 1)
  let a := (s.grp g).base
  let known := ((s.grp g).record seq).isSome
  let open_ := s.openColl g seq
  if belowBase a seq || (inWindow a seq && known && open_.isNone) then s.answerKept n p.src h g seq
  else
    let other := match open_ with
      | some r => r.handle != h
      | none => false
    match (s.c.groupNodes g).findIdx? (· == p.src) with
    | none => s.refuseIntent n p.src h g seq
    | some rank =>
      if !inWindow a seq || !s.c.handleFor h g || other then s.refuseIntent n p.src h g seq
      else
        match open_ with
        | some r => s.recordIntent r rank d
        | none =>
          let r := s.newColl h g seq
          (s.openNew r).recordIntent r rank d

/-- A packet to the switch's collective tables that passes the ingress steps and whose CRC holds (R67); on a selvedge port it is a violation (R29). Data cells other than its opcode's are not acted on; a packet of another opcode is not the command's. -/
def SwState.collIngress (s : SwState) (n op : Nat) (p : Packet) (act : SwState → SwState) : SwState :=
  if p.op ≠ op then s
  else
    match s.ingressChecks n p with
    | (s1, false) => s1
    | (s1, true) =>
      let s2 := s1.dispose n p
      if selvedge .sw n then s1.drop n p 0x308
      else if !p.crcOk then s2.endToEndError n
      else if (badHeader p).isSome then s2
      else act s2

/-- `INTENT` (R362, R363). -/
def SwState.intent (s : SwState) (n : Nat) (p : Packet) : SwState := s.collIngress n opIntent p (fun s => if p.len = 4 then s.takeIntent n p else s)

/-! ### ABORT, RECEIVED, QUERY (R356, R362, R374, R377, R379) -/

/-- `ABORT` of KIND ABORT (R362, R377). -/
def SwState.takeAbort (s : SwState) (n : Nat) (p : Packet) : SwState :=
  let h := p.collHandle
  let g := p.collGroup
  let seq := bits (p.cell 0) 95 64
  let a := (s.grp g).base
  let member := (s.c.groupNodes g).contains p.src
  match s.openColl g seq with
  | some r =>
    if member ∧ r.handle = h then s.modColl g seq (fun r => { (r.abort { state := 0x11, node := p.src, count := 1 }) with firstPick := some (r.firstPick.getD s.c.pick) })
    else s.mod (fun c => c.bump 0x70001C)
  | none =>
    if belowBase a seq || (inWindow a seq && ((s.grp g).record seq).isSome) then s.answerKept n p.src h g seq
    else if member && inWindow a seq && s.c.handleFor h g then
      s.openNew ({ (s.newColl h g seq) with firstPick := some s.c.pick }.abort { state := 0x11, node := p.src, count := 1 })
    else s.mod (fun c => c.bump 0x70001C)

/-- `ABORT` RECEIVED (R374): the member is done here. -/
def SwState.takeReceived (s : SwState) (p : Packet) : SwState :=
  let seq := bits (p.cell 0) 95 64
  match s.openColl p.collGroup seq with
  | some r =>
    match r.rank p.src with
    | some k => if r.st = .running ∧ r.handle = p.collHandle then s.modColl r.group seq (fun r => r.modMember k (fun m => { m with received := true, heard := true })) else s
    | none => s
  | none => s

/-- `ABORT` QUERY (R379): answered at once unless the collective is open. -/
def SwState.takeQuery (s : SwState) (n : Nat) (p : Packet) : SwState :=
  let seq := bits (p.cell 0) 95 64
  if (s.openColl p.collGroup seq).isSome then s else s.answerKept n p.src p.collHandle p.collGroup seq

/-- One of the three kinds of `ABORT` (R356). -/
def SwState.abortKind (s : SwState) (n kind : Nat) (p : Packet) : SwState :=
  s.collIngress n opAbort p (fun s =>
    if p.len ≠ 4 ∨ bits (p.cell 0) 127 120 ≠ kind then s
    else if kind = 1 then s.takeAbort n p else if kind = 2 then s.takeReceived p else s.takeQuery n p)

/-- `INTENT_WAIT_EXPIRED` (R348, Table 9.5): the intents of a collective of the handle are incomplete after its INTENT_WAIT. -/
def SwState.intentWait (s : SwState) (handle : Nat) : SwState :=
  let w := fld (s.c.handleB handle) 15 0 * 1024
  if w = 0 then s
  else
    { s with colls := s.colls.map (fun r =>
        let late : Bool := match r.firstPick with
          | some t => decide (t + w ≤ s.c.pick)
          | none => false
        if r.handle = handle ∧ r.st = .gathering ∧ !r.decided ∧ late then
          let miss := r.members.filter (fun m => m.intent.isNone)
          r.abort { state := 0x14, node := ((miss.head?).map (·.node)).getD 0, count := miss.length }
        else r) }

/-! ### Results -/

/-- A result of a collective is still inside the switch: on a bus queue, a lane or an egress queue. -/
def SwState.pendingOf (s : SwState) (r : CollRec) (f : Packet → Bool) : Bool :=
  let mine := fun (p : Packet) => p.op == opResult && p.src == 0 && p.collHandle == r.handle && p.collGroup == r.group && p.seq == r.seq % 4096 && f p
  s.core.casts.any (fun j => mine j.pkt) || s.core.lane.any (fun e => mine e.pkt) ||
  s.c.ports.any (fun e => e.2.eg.q.any (fun q => q.2.any (fun x => mine x.pkt)))

/-- Send one `RESULT` chunk (R353, R372, R657, R666), to one rank or to every member. -/
def SwState.sendResult (s : SwState) (r : CollRec) (dest : Option Nat) (idx : Nat) (data : List Byte) : SwState :=
  let p := collPacket opResult r.pitch r.handle r.group r.seq idx data
  let e : Option (Packet × Common) := if s.c.confidential r.pitch then s.c.encrypt r.pitch p else some (p, s.c)
  match e with
  | none => s
  | some (q, c) =>
    let s1 := s.mod (fun _ => c)
    match dest with
    | none => s1.castTo (r.members.map (·.node)) q
    | some k =>
      match r.members[k]? with
      | some m => s1.toNode m.node q
      | none => s1

/-- Cut bytes into chunks of 256 with their indices from `i` on. -/
def chunksFrom : Nat → Nat → List Byte → List (Nat × List Byte)
  | 0, _, _ => []
  | n + 1, i, l => if l.isEmpty then [] else (i, l.take 256) :: chunksFrom n (i + 1) (l.drop 256)

/-- A tripwire or a flag for special inputs (R454, R375). -/
def CollRec.sawSpecial (r : CollRec) (n : Nat) : CollRec :=
  if n = 0 then r
  else
    let r1 := { r with nan := satAdd 0xFFFFFFFF r.nan n }
    if r.nanAbort then r1.abort { state := 0x13 } else { r1 with flagged := true }

/-- A member's LIMIT advances (R368): a CREDIT when it can go 128 chunks further, or to the end. -/
def SwState.credit (s : SwState) (g seq rank : Nat) : SwState :=
  match s.openColl g seq with
  | none => s
  | some r =>
    let m := r.members.getD rank { node := 0 }
    let part := s.partOf r rank
    let can := min part (m.left + 512)
    if m.limit < can ∧ (m.limit + 128 ≤ can ∨ can = part) then
      (s.modColl g seq (fun r => r.modMember rank (fun m => { m with limit := can }))).toNode m.node (r.grant 2 can 0)
    else s

/-- Chunks leave staging (R368, R411). -/
def SwState.leaveStaging (s : SwState) (g seq rank : Nat) (idxs : List Nat) : SwState :=
  let gone := fun (m : CollMember) => (idxs.filter (fun i => (Tab.find m.staged i).isSome)).length
  let s1 := s.modColl g seq (fun r => r.modMember rank (fun m => { m with left := m.left + gone m, staged := idxs.foldl (fun t i => Tab.del t i) m.staged }))
  s1.credit g seq rank

/-- Every chunk that a unit needs is staged. -/
def CollRec.unitReady (r : CollRec) (plane u : Nat) : Bool :=
  (r.unitNeeds plane u).all (fun e => (List.range e.2.2).all (fun i => (Tab.find (r.members.getD e.1 { node := 0 }).staged (e.2.1 + i)).isSome))

/-- The result of a unit with a list out of order is undefined: its pairs are free values, and in a sparse reduce so are their number and how many saturated (R458). -/
def SwState.settleLists (s : SwState) (op : Nat) (w : WorkOut) : WorkOut × SwState :=
  match w.loose with
  | none => (w, s)
  | some n =>
    let f := s.c.free
    let len := if op = 9 then n else Config.freeValue f % (n + 1)
    ({ w with bytes := listBytes op (freePairs (f + 2) len), sat := if op = 9 then w.sat else Config.freeValue (f + 1) % (n + 1) }, s.mod (fun c => { c with free := f + 2 + 2 * len }))

/-- Work one unit of a shipped program whose chunks are all staged (R370, R375, R454). Its counts enter once, however often it is replayed (R455). -/
def SwState.workUnit (s : SwState) (r : CollRec) (u : Nat) : SwState :=
  let plane := s.c.plane
  let needs := r.unitNeeds plane u
  let imgs := needs.map (fun e => (List.range e.2.2).flatMap (fun i => Tab.get (r.members.getD e.1 { node := 0 }).staged [] (e.2.1 + i)))
  let o := s.settleLists r.op (r.work plane u imgs)
  let w := o.1
  let dst := r.unitDest plane u
  let first := !r.seen.contains u
  let put := fun (r : CollRec) =>
    let r1 := if first then { r with sat := satAdd 0xFFFFFFFF r.sat w.sat, under := satAdd 0xFFFFFFFF r.under w.under, seen := u :: r.seen } else r
    let r2 := if first then r1.sawSpecial w.nan else r1
    { r2 with worked := u :: r2.worked }
  let s1 := o.2.modColl r.group r.seq put
  let stop := r.nanAbort && decide (0 < w.nan)
  let s2 := if stop then s1 else each (chunksFrom (w.bytes.length / 256 + 1) dst.2 w.bytes) s1 (fun s e => s.sendResult r dst.1 e.1 e.2)
  each needs s2 (fun s e => s.leaveStaging r.group r.seq e.1 ((List.range e.2.2).map (· + e.2.1)))

/-! ### Contributions (R367 to R370) -/

/-- The collective that a packet's header names: handle, group and the low 12 bits of the sequence (R350). -/
def SwState.collOf (s : SwState) (p : Packet) : Option CollRec :=
  s.colls.find? (fun r => r.st != .committed && r.handle == p.collHandle && r.group == p.collGroup && r.seq % 4096 == p.seq)

/-- A chunk is a duplicate: staged, or behind what has arrived and not asked for again (R369, R384). -/
def CollMember.dup (m : CollMember) (idx : Nat) : Bool := (Tab.find m.staged idx).isSome || (decide (idx < m.top) && !m.want.contains idx)

/-- Stage one chunk (R370, R383). -/
def CollMember.stage (m : CollMember) (pick idx : Nat) (data : List Byte) : CollMember :=
  let gap := (List.range (idx - m.top)).map (· + m.top)
  { m with
    staged := Tab.put m.staged idx data, top := max m.top (idx + 1), want := (m.want ++ (if m.top ≤ idx then gap else [])).filter (· != idx),
    first := some (m.first.getD pick), last := some pick, chunks := m.chunks + 1, heard := true }

/-- `CONTRIB` (R369, R370, R666). -/
def SwState.takeContrib (s : SwState) (n : Nat) (p0 : Packet) : SwState :=
  match s.collOf p0 with
  | none => s.mod (fun c => c.bump 0x700014)
  | some r =>
    match r.rank p0.src with
    | none => s.mod (fun c => c.bump 0x700014)
    | some k =>
      let m := r.members.getD k { node := 0 }
      let idx := p0.collChunk
      if r.st = .running ∧ m.dup idx then s.mod (fun c => c.bump 0x700018)
      else if r.st ≠ .running ∨ m.limit ≤ idx ∨ s.partOf r k ≤ idx then s.groupFault r.group { state := 0x12, node := p0.src, count := 1 }
      else
        let plain : Option Packet := if !p0.flags.encrypted then some p0 else if (s.c.activeKey r.pitch).isNone then none else s.c.decrypt r.pitch s.c.plane false p0
        match plain with
        | none => s.mod (fun c => (c.authFailed r.pitch).bump (coreA n 0x314))
        | some p =>
          let s1 := s.modColl r.group r.seq (fun r => r.modMember k (fun m => m.stage s.c.pick idx p.data))
          match s1.openColl r.group r.seq with
          | none => s1
          | some r1 =>
            let u := r1.unitOf s.c.plane k idx
            if nativeOp r1.op ∧ !s.c.pwr.paused ∧ !r1.worked.contains u ∧ r1.unitReady s.c.plane u then s1.workUnit r1 u else s1

/-- Programs resume (R609, R610): every unit that became ready during the pause is worked. -/
def SwState.resumeUnits (s : SwState) : SwState :=
  each (s.colls.filter (fun r => r.st == .running && nativeOp r.op)) s (fun s r =>
    each (List.range (r.units s.c.plane)) s (fun s u =>
      match s.openColl r.group r.seq with
      | some q => if !q.worked.contains u ∧ q.unitReady s.c.plane u then s.workUnit q u else s
      | none => s))

/-- `CONTRIB` from a port. -/
def SwState.contrib (s : SwState) (n : Nat) (p : Packet) : SwState := s.collIngress n opContrib p (fun s => if p.len = 0xF then s.takeContrib n p else s)

/-! ### Completion (R374 to R376) -/

/-- Every block of the part has been worked (R375, R412). -/
def CollRec.allWorked (r : CollRec) (plane : Nat) : Bool :=
  if nativeOp r.op then (List.range (r.units plane)).all (fun u => r.worked.contains u) else (List.range r.ctxs.length).all (fun i => r.ended.contains i)

/-- The completion condition (R375). -/
def SwState.complete (s : SwState) (r : CollRec) : Bool :=
  r.st == .running && r.members.all (·.received) && r.allWorked s.c.plane && !s.pendingOf r (fun _ => true)

/-- The completed state's code (Table 9.4) (R359). -/
def CollRec.doneCode (r : CollRec) : Nat := 1 + 2 * b2n r.replay + 4 * b2n r.flagged

/-- Settle one open collective at a boundary (R376). -/
def SwState.settle (s : SwState) (r : CollRec) : SwState :=
  if s.complete r then s.commitColl r { state := r.doneCode }
  else
    match r.cause with
    | some k => s.commitColl r k
    | none => if r.st = .queued ∧ s.overPool r.pitch (s.demand r) then s.commitColl r { state := 0x16 } else s

/-- Committed collectives give their resources back at the boundary after the commit (R378). -/
def SwState.freeColls (s : SwState) : SwState :=
  let gone := s.colls.filter (fun r => r.st == .committed && (match r.commitPick with | some t => decide (t < s.c.pick) | none => true))
  let s1 := each gone s (fun s r => each r.ctxs s (fun s e => s.modBar e.1 (fun b => { b with ctxs := b.ctxs.filter (fun x => !(x.1 == e.2 && x.2.slot == r.slot)) })))
  { s1 with colls := s1.colls.filter (fun r => !gone.contains r) }

/-! ### Stalls (R382) -/

/-- A member still owes a chunk for which it holds credit. -/
def CollMember.owesWithCredit (m : CollMember) (part : Nat) : Bool := m.want.any (fun i => decide (i < m.limit)) || (decide (m.top < part) && decide (m.top < m.limit))

/-- Every result due to a member has left the switch. -/
def SwState.resultsLeft (s : SwState) (r : CollRec) (rank node : Nat) : Bool :=
  let plane := s.c.plane
  (if nativeOp r.op then (List.range (r.units plane)).all (fun u => !r.unitFor plane rank u || r.worked.contains u) else r.allWorked plane) &&
  !s.pendingOf r (fun p => p.dst == node || castOp r.op)

/-- One member's silence over the pick that ends (R382, R489); one that owes only RECEIVED counts from the pick after its results have left. -/
def SwState.silence (s : SwState) (r : CollRec) (rank : Nat) (m : CollMember) : CollMember :=
  let part := s.partOf r rank
  let paused : Bool := match s.c.aliasOf m.node with
    | some o => (s.c.port o).t.st == .paused
    | none => false
  let left := s.resultsLeft r rank m.node
  let m1 := { m with heard := false, out := left }
  if m.received ∨ m.heard then { m1 with silent := 0 }
  else if paused || s.c.pwr.paused then m1
  else if m.top < part ∨ m.want ≠ [] then (if m.owesWithCredit part then { m1 with silent := m.silent + 1 } else { m1 with silent := 0 })
  else if left && m.out then { m1 with silent := m.silent + 1 }
  else { m1 with silent := 0 }

/-- Silence of every running collective at a boundary. -/
def SwState.silences (s : SwState) : SwState :=
  { s with colls := s.colls.map (fun r => if r.st = .running then { r with members := r.members.mapIdx (fun i m => s.silence r i m) } else r) }

/-- `COLL_STALL` (R382): a member of a running collective of the handle has been silent for STALL picks. -/
def SwState.collStall (s : SwState) (handle : Nat) : SwState :=
  let w := fld (s.c.handleB handle) 31 16
  { s with colls := s.colls.map (fun r =>
      let quietOnes := r.members.filter (fun m => decide (w ≤ m.silent))
      if r.handle = handle ∧ r.st = .running ∧ 0 < w ∧ quietOnes ≠ [] then
        r.abort { state := 0x15, node := ((quietOnes.head?).map (·.node)).getD 0, count := quietOnes.length }
      else r) }

/-! ### Faults (R380) -/

/-- A fault that names a member, for every open collective of its groups. -/
def SwState.memberFault (s : SwState) (node : Nat) : SwState :=
  { s with colls := s.colls.map (fun r => if r.st ≠ .committed ∧ (r.rank node).isSome then r.abort { state := 0x12, node := node, count := 1 } else r) }

/-- A stop of a context acts as the manager's abort does (R415, R560). -/
def SwState.managerStop (s : SwState) (r : CollRec) : SwState := s.modColl r.group r.seq (fun r => r.abort { state := 0x17 })

/-! ### Replay (R384, R428) -/

/-- Units of a context: block mod C (R370); a unit of another program by its number. -/
def CollRec.ownsUnit (r : CollRec) (idx u : Nat) : Bool := u % max 1 r.ctxs.length == idx

/-- Units that have not left the switch in full as results. -/
def SwState.unitOut (s : SwState) (r : CollRec) (u : Nat) : Bool :=
  let g := r.geo s.c.plane
  let d := r.unitDest s.c.plane u
  r.worked.contains u && !s.pendingOf r (fun p => decide (d.2 ≤ p.collChunk) && decide (p.collChunk < d.2 + g.kout))

/-- Contiguous ranges of rising indices. -/
def runsOf : List Nat → List (Nat × Nat)
  | [] => []
  | a :: r =>
    match runsOf r with
    | (lo, hi) :: t => if lo = a + 1 then (a, hi) :: t else (a, a) :: (lo, hi) :: t
    | [] => [(a, a)]

/-- A `RESEND` (R358). -/
def CollRec.resend (r : CollRec) (lo hi : Nat) : Packet :=
  collPacket opResend r.pitch r.handle r.group r.seq 0 (ctrlData (r.seq % 2 ^ 32 * 2 ^ 64 + lo % 2 ^ 30 * 2 ^ 32 + hi % 2 ^ 30) 0)

/-- Insert a number into a rising list without repeats. -/
def insertUp (v : Nat) : List Nat → List Nat
  | [] => [v]
  | a :: r => if v < a then v :: a :: r else if v = a then a :: r else a :: insertUp v r

/-- Blocks of a lost context go to its replacement: their chunks are asked for again (R384 steps 3 and 4). -/
def SwState.resendFor (s : SwState) (r : CollRec) (lost : List Nat) : SwState :=
  let plane := s.c.plane
  each (List.range r.m) s (fun s k =>
    let idxs := (lost.flatMap (fun u => (r.unitNeeds plane u).filterMap (fun e => if e.1 = k then some ((List.range e.2.2).map (· + e.2.1)) else none))).flatten
    let m := r.members.getD k { node := 0 }
    let again := (idxs.filter (fun i => decide (i < m.top) && !m.want.contains i)).foldl (fun l v => insertUp v l) []
    let s1 := s.modColl r.group r.seq (fun r => r.modMember k (fun m =>
      { m with want := again.foldl (fun l v => insertUp v l) m.want, staged := again.foldl (fun t i => Tab.del t i) m.staged,
               left := m.left - (again.filter (fun i => (Tab.find m.staged i).isNone)).length }))
    each (runsOf again) s1 (fun s e => s.toNode m.node (r.resend e.1 e.2)))

/-- A core with room for a replacement context. -/
def SwState.spareCore (s : SwState) (r : CollRec) (x : Nat × Nat × Nat) : Option Nat :=
  (s.pool r.pitch).find? (fun k => !r.ctxs.any (fun e => e.1 == k) && decide ((s.core' k).ctxs.length < 16) && decide ((s.core' k).pagesUsed + sharePages x ≤ 128))

/-- Replace one lost context of a running collective, or declare the fault of R380 (R384, R428). -/
def SwState.replaceCtx (s : SwState) (g seq core idx : Nat) : SwState :=
  match s.openColl g seq with
  | none => s
  | some r =>
    let user := s.userProg r.op
    let bad : Bool := match user with
      | some p => !bit p.flags 0
      | none => false
    let d := s.demand r
    let x := d.shares.getD idx (0, 0, 0)
    match (if bad then none else s.spareCore r x) with
    | none => s.groupFault g { state := 0x12 }
    | some k =>
      let cx := (s.core' k).freeCtx
      let mine := (List.range (r.geo s.c.plane).nb).filter (fun b => b % max 1 r.ctxs.length == idx)
      let lost := if nativeOp r.op then (List.range (r.units s.c.plane)).filter (fun u => r.ownsUnit idx u && !s.unitOut r u)
        else mine.filter (fun b =>
          let kout := (r.geo s.c.plane).kout
          !((List.range kout).all (fun i => r.results.contains (idx, b * kout + i))) || s.pendingOf r (fun p => decide (b * kout ≤ p.collChunk) && decide (p.collChunk < (b + 1) * kout)))
      let r1 := { r with
        ctxs := r.ctxs.map (fun e => if e.1 = core then (k, cx) else e), replay := true, worked := r.worked.filter (fun u => !lost.contains u),
        ended := r.ended.filter (· != idx) }
      let s1 := s.modColl g seq (fun _ => r1)
      let s2 := s1.startCtx r1 k cx idx x d.scratch (lost.headD (r.geo s.c.plane).nb) true
      let s3 := s2.resendFor r1 lost
      s3.mod (fun c => (if r.replay then c else c.bump 0x700020).collEvent r.handle 4)

/-- Retire a failed core at the boundary and replace its contexts (R384, R427). -/
def SwState.retireCore (s : SwState) (k : Nat) : SwState :=
  let b := s.core' k
  let held := s.colls.filter (fun r => r.st == .running && r.ctxs.any (fun e => e.1 == k))
  let s1 := (s.modBar k (fun b => { b with st := .retired, failed := false, ctxs := [], lines := [] })).mod (fun c => (c.collEvent 0 2).unitLost 4 k)
  if b.st = .retired then s
  else each held s1 (fun s r =>
    match r.ctxs.findIdx? (fun e => e.1 == k) with
    | some idx => s.replaceCtx r.group r.seq k idx
    | none => s)

/-- Terminal states at a boundary: resources of those committed a pick ago come back, and each open collective settles on what the pick just ended brought (R376, R378). It comes before anything that the boundary itself declares. -/
def SwState.settleColls (s : SwState) : SwState :=
  let s1 := s.freeColls
  each (s1.colls.filter (fun r => r.st != .committed)) s1 (fun s r => s.settle r)

/-- The collectives at a boundary once terminal states have settled: core losses, silences, admission (R360, R365, R382, R384). -/
def SwState.collBoundary (s : SwState) : SwState :=
  (each ((s.cores.filter (fun e => e.2.failed)).map (·.1)) s (fun s k => s.retireCore k)).silences.admission

end Sys2Proof.Machine
end

