-- ==== Sys2Proof/Machine/SwBar.lean ====
section
/-!
DEFINITION. Bartas contexts (spec/10): what a context sees (R403 to R406), its instructions (R407 to R413), its stops (R415 to R417), the DRAM space and its line buffer (R176 to R182).
Vector instructions and copies complete when they issue, in program order, which R180 and R401 allow.
-/

namespace Sys2Proof.Machine

/-- A context that issues: where it runs, what it is, its collective. -/
structure BarRun where
  s : SwState
  k : Nat
  cx : Nat
  x : BarCtx
  r : CollRec
  deriving DecidableEq, Repr

/-- Bartas register page. -/
def barA (k off : Nat) : Nat := 0x600000 + k * 0x1000 + off

/-- Change a context. -/
def SwState.modCtx (s : SwState) (k cx : Nat) (f : BarCtx → BarCtx) : SwState :=
  s.modBar k (fun b => { b with ctxs := b.ctxs.map (fun e => if e.1 = cx then (e.1, f e.2) else e) })

/-- The running collective of a slot. -/
def SwState.slotColl (s : SwState) (slot : Nat) : Option CollRec := s.colls.find? (fun r => r.st == .running && r.slot == slot && !r.ctxs.isEmpty)

/-- The context after a change. -/
def BarRun.ctx (b : BarRun) (f : BarCtx → BarCtx) : BarRun := { b with x := f b.x, s := b.s.modCtx b.k b.cx f }

/-- Register `i` (R400). -/
def BarRun.reg (b : BarRun) (i : Nat) : Word64 := if i % 32 = 0 then 0 else Tab.get b.x.regs 0 (i % 32)

/-- Write a register; writes to x0 are discarded (R400). -/
def BarRun.set (b : BarRun) (i : Nat) (v : Word64) : BarRun := if i % 32 = 0 then b else b.ctx (fun x => { x with regs := Tab.set x.regs 0 (i % 32) v })

/-- Go to the next word. -/
def BarRun.next (b : BarRun) : SwState := (b.ctx (fun x => { x with pc := x.pc + 1 })).s

/-- Go to the next word and block on a condition. -/
def BarRun.block (b : BarRun) (w : BarWait) : SwState := (b.ctx (fun x => { x with pc := x.pc + 1, wait := some w })).s

/-- A context stops (R415): 1 access, 2 `ABRT`, 3 watchdog. -/
def SwState.stopCtx (s : SwState) (k cx cause : Nat) (r : CollRec) : SwState :=
  ((s.modCtx k cx (fun x => { x with stopped := true })).mod (fun c => c.event (barA k 0x00C) (cause * 4096 + cx * 256))).managerStop r

/-- Stop this context. -/
def BarRun.stop (b : BarRun) (cause : Nat) : SwState := b.s.stopCtx b.k b.cx cause b.r

/-- The program's code, where it is known. -/
def BarRun.prog (b : BarRun) : Option Prog := b.s.userProg b.r.op

/-- Go to a word; one outside the code stops the context (R415). -/
def BarRun.jump (b : BarRun) (dest : Int) : SwState :=
  let inside : Bool := match b.prog with
    | some p => decide (dest < p.code.length)
    | none => true
  if 0 ≤ dest ∧ inside then (b.ctx (fun x => { x with pc := dest.toNat })).s else b.stop 1

/-- Sign extension of a 16-bit immediate. -/
def imm16 (v : Nat) : Int := untwos 16 (v % 65536)

/-! ### Local addresses (Table 10.2) -/

/-- Chunks of a block in ETYPE. -/
def BarRun.kin (b : BarRun) : Nat := max 1 (b.r.geo b.s.c.plane).kin

/-- A chunk lies in a block that this context works (R370). -/
def BarRun.owns (b : BarRun) (idx : Nat) : Bool := idx / b.kin % max 1 b.r.ctxs.length == b.x.idx

/-- The staged chunk of a rank at a position of its window that this context may read (R404). -/
def BarRun.chunkAt (b : BarRun) (rank pos : Nat) : Option (Nat × List Byte) :=
  match b.r.members[rank]? with
  | none => none
  | some m => m.staged.find? (fun e => e.1 % 16384 == pos && b.owns e.1 && decide (e.1 < Tab.get b.x.shown 0 rank))

/-- Where a local address of scratch or of a bobbin lies in the scratchpad. -/
def BarCtx.place (x : BarCtx) (a : Nat) : Option Nat :=
  let off := a % 2 ^ 30
  match a / 2 ^ 30 % 4 with
  | 0 => if off < x.size then (x.scratch[off / 32768]?).map (fun p => p * 32768 + off % 32768) else none
  | 1 => if off / 2 ^ 23 = 0 then (x.bobs[off / 32768]?).map (fun p => p * 32768 + off % 32768) else none
  | _ => none

/-- One byte at a local address. -/
def BarRun.byte (b : BarRun) (a0 : Nat) : Option Byte :=
  let a := a0 % 2 ^ 32
  if a / 2 ^ 30 = 2 then
    (b.chunkAt (a / 2 ^ 22 % 256) (a % 2 ^ 22 / 256)).map (fun e => e.2.getD (a % 256) 0)
  else (b.x.place a).map (fun p => (b.s.core' b.k).pad.byte p)

/-- The byte address after one: staging wraps within its member's window (R404). -/
def nextLocal (a : Nat) : Nat := if a / 2 ^ 30 = 2 then a / 2 ^ 22 * 2 ^ 22 + (a + 1) % 2 ^ 22 else a + 1

/-- Bytes from a local address. -/
def BarRun.bytes (b : BarRun) : Nat → Nat → Option (List Byte)
  | 0, _ => some []
  | n + 1, a =>
    match b.byte a, BarRun.bytes b n (nextLocal (a % 2 ^ 32)) with
    | some v, some l => some (v :: l)
    | _, _ => none

/-- Pad places of `n` bytes from a local address; staging is read-only. -/
def BarCtx.places (x : BarCtx) : Nat → Nat → Option (List Nat)
  | 0, _ => some []
  | n + 1, a =>
    match x.place (a % 2 ^ 32), BarCtx.places x n (a + 1) with
    | some p, some l => some (p :: l)
    | _, _ => none

/-- Write bytes at a local address. -/
def BarRun.store (b : BarRun) (a : Nat) (l : List Byte) : Option BarRun :=
  match b.x.places l.length a with
  | none => none
  | some ps => some { b with s := b.s.modBar b.k (fun c => { c with pad := (List.zip ps l).foldl (fun (m : Memory) (e : Nat × Byte) => m.setByte e.1 e.2) c.pad }) }

/-! ### DRAM space (R176 to R182, R406) -/

/-- DRAM address of an offset of the collective's range, if `n` bytes from it lie inside. -/
def BarRun.dramAt (b : BarRun) (off n : Nat) : Option Nat := if off + n ≤ b.r.dram.2.2 then some (b.r.dram.1 * 2 ^ 36 + b.r.dram.2.1 + off) else none

/-- Put a byte into a core-side line buffer of 64 KiB (R177). A full one gives up a byte that was not written; written bytes stay until a `FLUSH` covers them, even when they alone fill it (DESIGN CHOICE, notes/assumptions/84.md). -/
def lineSet (t : Tab LineByte) (a : Nat) (v : LineByte) : Tab LineByte :=
  let t1 := Tab.put t a v
  let clean := (t1.filter (fun e => !e.2.dirty && e.1 != a)).map (·.1)
  if t1.length ≤ 65536 then t1
  else match clean[Config.lineVictim t1.length % max 1 clean.length]? with
    | some b => Tab.del t1 b
    | none => t1

/-- One DRAM byte as this core reads it: its own written byte, otherwise the memory's; a line held clean may still answer with the value that it was filled with (R178, R179). -/
def BarRun.dramByte (b : BarRun) (a : Nat) : Byte × BarRun :=
  let mem := b.s.dram.byte a
  match Tab.find (b.s.core' b.k).lines a with
  | some l =>
    if l.dirty then (l.val, b)
    else
      let v := if Config.freeValue b.s.c.free % 2 = 0 then l.val else mem
      (v, { b with s := (b.s.mod (fun c => { c with free := c.free + 1 })).modBar b.k (fun c => { c with lines := lineSet c.lines a { val := v } }) })
  | none => (mem, { b with s := b.s.modBar b.k (fun c => { c with lines := lineSet c.lines a { val := mem } }) })

/-- DRAM bytes from an address. -/
def BarRun.dramRead (b : BarRun) : Nat → Nat → List Byte × BarRun
  | 0, _ => ([], b)
  | n + 1, a =>
    let r := b.dramByte a
    let t := BarRun.dramRead r.2 n (a + 1)
    (r.1 :: t.1, t.2)

/-- Bytes written to DRAM land in the core's line buffer (R177). -/
def BarRun.dramWrite (b : BarRun) (a : Nat) (l : List Byte) : BarRun :=
  { b with s := b.s.modBar b.k (fun c => { c with lines := (List.zip (List.range l.length) l).foldl (fun (t : Tab LineByte) (e : Nat × Byte) => lineSet t (a + e.1) { val := e.2, dirty := true }) c.lines }) }

/-- Flush the written bytes of a core in a range of DRAM addresses (R177). -/
def SwState.flushLines (s : SwState) (k lo hi : Nat) : SwState :=
  let mine := fun (e : Nat × LineByte) => e.2.dirty && decide (lo ≤ e.1) && decide (e.1 < hi)
  let b := s.core' k
  let s1 := { s with dram := (b.lines.filter mine).foldl (fun (m : Memory) (e : Nat × LineByte) => m.setByte e.1 e.2.val) s.dram }
  s1.modBar k (fun b => { b with lines := b.lines.map (fun e => if mine e then (e.1, { e.2 with dirty := false }) else e) })

/-! ### Scalar instructions -/

/-- RD = a value, and on. -/
def BarRun.alu (b : BarRun) (rd : Nat) (v : Word64) : SwState := (b.set rd v).next

/-- A conditional branch (Table 10.5). -/
def BarRun.branch (b : BarRun) (cond : Bool) (imm : Nat) : SwState := if cond then b.jump ((b.x.pc : Int) + imm16 imm) else b.next

/-- Address RA + sext(IMM) of a load or store, modulo 2^64. -/
def BarRun.addr (b : BarRun) (ra imm : Nat) : Nat := (b.reg ra + BitVec.ofInt 64 (imm16 imm)).toNat

/-- A load from local memory of `w` bytes (R403, R415). -/
def BarRun.load (b : BarRun) (rd ra imm w : Nat) : SwState :=
  let a := b.addr ra imm % 2 ^ 32
  if a % w ≠ 0 then b.stop 1
  else
    match b.bytes w a with
    | some l => b.alu rd (BitVec.ofNat 64 (leNat l))
    | none => b.stop 1

/-- A store to local memory of `w` bytes. -/
def BarRun.save (b : BarRun) (rd ra imm w : Nat) : SwState :=
  let a := b.addr ra imm % 2 ^ 32
  if a % w ≠ 0 then b.stop 1
  else
    match b.store a (leBytes (b.reg rd).toNat w) with
    | some b1 => b1.next
    | none => b.stop 1

/-- `DLD`. -/
def BarRun.dld (b : BarRun) (rd ra imm : Nat) : SwState :=
  let off := b.addr ra imm
  match (if off % 8 = 0 then b.dramAt off 8 else none) with
  | some a => let r := b.dramRead 8 a; r.2.alu rd (BitVec.ofNat 64 (leNat r.1))
  | none => b.stop 1

/-- `DST`. -/
def BarRun.dst (b : BarRun) (rd ra imm : Nat) : SwState :=
  let off := b.addr ra imm
  match (if off % 8 = 0 then b.dramAt off 8 else none) with
  | some a => (b.dramWrite a (leBytes (b.reg rd).toNat 8)).next
  | none => b.stop 1

/-- `FLUSH` over DRAM offsets [RA, RA + RB). -/
def BarRun.flush (b : BarRun) (ra rb : Nat) : SwState :=
  match b.dramAt (b.reg ra).toNat (b.reg rb).toNat with
  | some a => ({ b with s := b.s.flushLines b.k a (a + (b.reg rb).toNat) } : BarRun).next
  | none => b.stop 1

/-! ### Copies and vector instructions -/

/-- The largest range that one instruction can name inside a scratchpad. -/
def padBytes : Nat := 2 ^ 22

/-- Bytes at a local address, no more than a scratchpad holds. -/
def BarRun.range (b : BarRun) (a n : Nat) : Option (List Byte) := if padBytes < n then none else b.bytes n (a % 2 ^ 32)

/-- `CPY` of RN bytes by MODE (Table 10.5); other modes are not legal words. -/
def BarRun.cpy (b : BarRun) (rd ra rn mode : Nat) : SwState :=
  let n := (b.reg rn).toNat
  let src := (b.reg ra).toNat
  let dst := (b.reg rd).toNat
  if mode = 2 then
    match b.dramAt src n with
    | some a =>
      if padBytes < n then b.stop 1
      else
        let r := b.dramRead n a
        match r.2.store (dst % 2 ^ 32) r.1 with
        | some b1 => b1.next
        | none => b.stop 1
    | none => b.stop 1
  else
    match b.range src n with
    | none => b.stop 1
    | some l =>
      if mode = 1 then
        match b.dramAt dst n with
        | some a => (b.dramWrite a l).next
        | none => b.stop 1
      else
        match b.store (dst % 2 ^ 32) l with
        | some b1 => b1.next
        | none => b.stop 1

/-- Special inputs examined from a staged image or list (R454, R762): counted once for each rank and block. -/
def BarRun.examine (b : BarRun) (key n : Nat) : BarRun :=
  if n = 0 ∨ b.r.seen.contains key then b
  else
    let r := { (b.r.sawSpecial n) with seen := key :: b.r.seen }
    let b1 := { b with r := r, s := b.s.modColl b.r.group b.r.seq (fun _ => r) }
    if r.nanAbort then b1.ctx (fun x => { x with tripped := true }) else b1

/-- Inputs flushed (R445), counted once for each rank and block. -/
def BarRun.flushed (b : BarRun) (key n : Nat) : BarRun :=
  if n = 0 ∨ b.r.seen.contains key then b
  else
    let r := { b.r with under := satAdd 0xFFFFFFFF b.r.under n, seen := key :: b.r.seen }
    { b with r := r, s := b.s.modColl b.r.group b.r.seq (fun _ => r) }

/-- Results that saturated in a block, counted once for the block. -/
def BarRun.saturated (b : BarRun) (key n : Nat) : BarRun :=
  if n = 0 ∨ b.r.seen.contains key then b
  else
    let r := { b.r with sat := satAdd 0xFFFFFFFF b.r.sat n, seen := key :: b.r.seen }
    { b with r := r, s := b.s.modColl b.r.group b.r.seq (fun _ => r) }

/-- Contribution bytes read (`BAR_VBYTES`). -/
def BarRun.vbytes (b : BarRun) (n : Nat) : BarRun := { b with s := b.s.mod (fun c => c.bumpBy (barA b.k 0x014) 31 0 (n / 256)) }

/-- Where a local address of a block image lies in staging: rank and block of the member's part; `none` outside staging. A staging address that begins no block image is misaligned. -/
def BarRun.imageAt (b : BarRun) (a : Nat) : Option (Option (Nat × Nat)) :=
  let a := a % 2 ^ 32
  if a / 2 ^ 30 ≠ 2 then some none
  else
    match b.chunkAt (a / 2 ^ 22 % 256) (a % 2 ^ 22 / 256) with
    | some e => if a % 256 = 0 ∧ e.1 % b.kin = 0 then some (some (a / 2 ^ 22 % 256, e.1 / b.kin)) else none
    | none => none

/-- Bytes of every member's image of a block, if all are staged. -/
def BarRun.blockImages (b : BarRun) (blk : Nat) : Option (List (List Byte)) :=
  let imgs := b.r.members.map (fun m =>
    (List.range b.kin).map (fun i => Tab.find m.staged (blk * b.kin + i)))
  if imgs.all (fun l => l.all Option.isSome) then some (imgs.map (fun l => l.flatMap (fun c => c.getD []))) else none

/-- An accumulator operand: bytes of an element. -/
def BarRun.accW (b : BarRun) : Nat := if b.r.exact then 8 else 4

/-- Array block index of a block of a member's part. -/
def BarRun.arrayBlock (b : BarRun) (blk : Nat) : Nat :=
  let g := b.r.geo b.s.c.plane
  g.first + blk % max 1 g.nb

/-- Outcome of reading one operand: its elements, a wait for the block's images, or an access stop. -/
inductive Operand where
  | ok (b : BarRun) (l : List Acc)
  | wait (blk : Nat)
  | bad
  deriving DecidableEq, Repr

/-- Keep a block's alignment exponents: those of the 16 blocks read most recently (R447). -/
def BarCtx.keepExps (x : BarCtx) (blk : Nat) (ts : List Int) : BarCtx := { x with exps := ((blk, ts) :: x.exps.filter (fun e => e.1 != blk)).take 16 }

/-- One block image operand in accumulator form (R441, R445). -/
def BarRun.imageOperand (b : BarRun) (a : Nat) : Operand :=
  match b.imageAt a with
  | none => .bad
  | some place =>
    match b.bytes (256 * b.kin) (a % 2 ^ 32) with
    | none => .bad
    | some img =>
      let ar := b.r.arith
      let im := ar.f.image img
      let vs := ar.f.values im
      match place with
      | none =>
        let x := ar.accOf (spread ar.f.group (if ar.exact then ar.f.alignBlock [im] else [])) vs
        .ok b x.1
      | some (rank, blk) =>
        let ab := b.arrayBlock blk
        let real := realIn b.r.count ab
        let key := rank * 2 ^ 40 + blk
        if ar.exact then
          match b.blockImages blk with
          | none => .wait blk
          | some all =>
            let ts := ar.f.alignBlock (all.map ar.f.image)
            let x := ar.accOf (spread ar.f.group ts) vs
            let b1 := (b.ctx (fun c => c.keepExps ab ts)).vbytes (256 * b.kin)
            .ok ((b1.examine key (countSpecial real vs)).flushed (2 ^ 60 + key) (countFirst real x.2)) x.1
        else .ok ((b.vbytes (256 * b.kin)).examine key (countSpecial real vs)) (ar.accOf [] vs).1

/-- Block image operands over whole blocks. -/
def BarRun.imagesOperand (b : BarRun) : Nat → Nat → Operand
  | 0, _ => .ok b []
  | n + 1, a =>
    match b.imageOperand a with
    | .ok b1 l =>
      match BarRun.imagesOperand b1 n (if a / 2 ^ 30 % 4 = 2 then a / 2 ^ 22 * 2 ^ 22 + (a + 256 * b.kin) % 2 ^ 22 else a + 256 * b.kin) with
      | .ok b2 t => .ok b2 (l ++ t)
      | o => o
    | o => o

/-- An accumulator operand of `n` elements. -/
def BarRun.accOperand (b : BarRun) (a n : Nat) : Operand :=
  let w := b.accW
  if a % w ≠ 0 then .bad
  else
    match b.range a (n * w) with
    | none => .bad
    | some l => .ok b ((List.range n).map (fun i => (leNat ((l.drop (i * w)).take w), b.x.satAt.contains (a + i * w))))

/-- A vector operand: block images or an accumulator (R408). Images span whole blocks; accumulators a multiple of 64 elements. -/
def BarRun.operand (b : BarRun) (image : Bool) (a n : Nat) : Operand :=
  if image then (if n % 8192 = 0 then b.imagesOperand (n / 8192) a else .bad)
  else if n % 64 = 0 then b.accOperand (a % 2 ^ 32) n else .bad

/-- Write an accumulator, and remember which elements have saturated. -/
def BarRun.putAcc (b : BarRun) (a : Nat) (l : List Acc) : Option BarRun :=
  let w := b.accW
  let a := a % 2 ^ 32
  if a % w ≠ 0 then none
  else
    (b.store a (l.flatMap (fun e => leBytes e.1 w))).map (fun b1 =>
      let hit := (List.zip (List.range l.length) l).filterMap (fun e => if e.2.2 then some (a + e.1 * w) else none)
      b1.ctx (fun x => { x with satAt := hit ++ x.satAt.filter (fun p => decide (p < a) || decide (a + l.length * w ≤ p)) }))

/-- Finish with a value, a wait at the same word, or a stop. -/
def BarRun.ending (b : BarRun) (o : Operand) (f : BarRun → List Acc → Option BarRun) : SwState :=
  match o with
  | .bad => b.stop 1
  | .wait blk => (b.ctx (fun x => { x with wait := some (.align blk) })).s
  | .ok b1 l =>
    match f b1 l with
    | some b2 => b2.next
    | none => b.stop 1

/-- `VCVT`. -/
def BarRun.vcvt (b : BarRun) (rd ra rn : Nat) : SwState :=
  b.ending (b.operand true (b.reg ra).toNat (b.reg rn).toNat) (fun b1 l => b1.putAcc (b.reg rd).toNat l)

/-- `VACC`: the second operand is read after the first. -/
def BarRun.vacc (b : BarRun) (rd ra rb rn mode : Nat) : SwState :=
  let n := (b.reg rn).toNat
  let o : Operand := match b.operand (bit mode 0) (b.reg ra).toNat n with
    | .ok b1 l1 =>
      (match b1.operand (bit mode 1) (b.reg rb).toNat n with
       | .ok b2 l2 => .ok b2 (List.zipWith (accJoin b.r.exact b.r.rop) l1 l2)
       | e => e)
    | e => e
  b.ending o (fun b1 l => b1.putAcc (b.reg rd).toNat l)

/-- Round the blocks of an accumulator to OTYPE images from an array block on (R408, R409, R449). `none` where an exact-mode block has no kept exponents (R447). -/
def BarRun.finBlocks (b : BarRun) : Nat → Nat → List Acc → Option (BarRun × List Byte)
  | 0, _, _ => some (b, [])
  | fuel + 1, blk, l =>
    if l.isEmpty then some (b, [])
    else
      let ar := b.r.arith
      let here := l.take 8192
      let pad := here ++ List.replicate (8192 - here.length) ((0, false) : Acc)
      let ts : Option (List Int) := if ar.exact then ((b.x.exps.find? (fun e => e.1 == blk)).map (fun e => spread ar.f.group e.2)) else some (List.replicate 8192 0)
      match ts with
      | none => none
      | some ts =>
        let o := ar.output (List.zipWith (fun t x => ar.finish t x) ts pad) (pad.map (·.2)) (blk * 8192) (min here.length (realIn b.r.count blk))
        match BarRun.finBlocks (b.saturated (2 ^ 61 + blk) o.2) fuel (blk + 1) (l.drop 8192) with
        | some t => some (t.1, o.1 ++ t.2)
        | none => none

/-- `VFIN`. -/
def BarRun.vfin (b : BarRun) (rd ra rb rn : Nat) : SwState :=
  let n := (b.reg rn).toNat
  b.ending (b.operand false (b.reg ra).toNat n) (fun b1 l =>
    match b1.finBlocks (n / 8192 + 1) (b.reg rb).toNat l with
    | some r => r.1.store ((b.reg rd).toNat % 2 ^ 32) r.2
    | none => none)

/-- Re-quantise whole blocks from an address and an array block on (`VQNT`). -/
def BarRun.qntBlocks (b : BarRun) : Nat → Nat → Nat → Option (BarRun × List Byte)
  | 0, _, _ => some (b, [])
  | n + 1, blk, a =>
    match b.imageAt a, b.bytes (256 * b.kin) (a % 2 ^ 32) with
    | some place, some img =>
      let ar := b.r.arith
      let w := ar.requantise img (blk * 8192) (realIn b.r.count blk)
      let b1 := match place with
        | some (rank, k) => (b.vbytes (256 * b.kin)).examine (rank * 2 ^ 40 + k) w.nan
        | none => b
      match BarRun.qntBlocks (b1.saturated (2 ^ 61 + blk) w.sat) n (blk + 1) (a + 256 * b.kin) with
      | some t => some (t.1, w.bytes ++ t.2)
      | none => none
    | _, _ => none

/-- `VQNT`. -/
def BarRun.vqnt (b : BarRun) (rd ra rb rn : Nat) : SwState :=
  let n := (b.reg rn).toNat
  if n % 8192 ≠ 0 then b.stop 1
  else
    match b.qntBlocks (n / 8192) (b.reg rb).toNat (b.reg ra).toNat with
    | some r =>
      match r.1.store ((b.reg rd).toNat % 2 ^ 32) r.2 with
      | some b1 => b1.next
      | none => b.stop 1
    | none => b.stop 1

/-- The bytes of a list operand, count and pairs of a width. -/
def BarRun.listAt (b : BarRun) (a w : Nat) : Option (List Byte) :=
  if a % 8 ≠ 0 then none
  else
    match b.bytes 8 (a % 2 ^ 32) with
    | some h => if padBytes < leNat h * w then none else b.bytes (8 + w * leNat h) (a % 2 ^ 32)
    | none => none

/-- Key of a staged list, for counting its special inputs once. -/
def listKey (a : Nat) : Nat := 2 ^ 62 + a % 2 ^ 32 / 2 ^ 22 % 256

/-- A merge of lists in order, or as many undefined pairs where a list is out of order (R458). -/
def BarRun.mergeOr (b : BarRun) (good : Bool) (n : Nat) (l : List Pair) : List Pair × BarRun :=
  if good then (l, b) else (freePairs b.s.c.free n, { b with s := b.s.mod (fun c => { c with free := c.free + 2 * n }) })

/-- `VMRG`: the best RN pairs of two lists (R459). -/
def BarRun.vmrg (b : BarRun) (rd ra rb rn : Nat) : SwState :=
  let ar := b.r.arith
  let get := fun (a : Nat) => (b.listAt a 8).map (fun l => readList 9 b.r.aux ar.f.width (2 ^ 20) l)
  match get (b.reg ra).toNat, get (b.reg rb).toNat with
  | some l1, some l2 =>
    let special := fun (l : List Pair) => (l.filter (fun e => (ar.f.elemValue e.2).special)).length
    let mark := fun (b : BarRun) (a : Nat) (l : List Pair) => if a % 2 ^ 32 / 2 ^ 30 = 2 then b.examine (listKey a) (special l) else b
    let b1 := mark (mark b (b.reg ra).toNat l1) (b.reg rb).toNat l2
    let o := b1.mergeOr (topkInOrder ar.f l1 && topkInOrder ar.f l2) (min (b.reg rn).toNat (l1.length + l2.length)) ((mergeBy (topkBefore ar.f) (l1.length + l2.length + 1) l1 l2).take (b.reg rn).toNat)
    let out := o.1
    match o.2.store ((b.reg rd).toNat % 2 ^ 32) (leBytes out.length 8 ++ out.flatMap (fun e => leBytes e.2 4 ++ leBytes e.1 4)) with
    | some b2 => b2.next
    | none => b.stop 1
  | _, _ => b.stop 1

/-- An operand of `VSPR`: a contributed list in staging, or an accumulator list elsewhere (Table 11.6), with the special inputs and the flushes of a contributed one. -/
def BarRun.sparseAt (b : BarRun) (a : Nat) : Option (BarRun × List (Nat × Acc)) :=
  let ar := b.r.arith
  let index := fun (p : List Byte) => leNat (p.take (if b.r.aux = 4 then 4 else 8))
  match b.listAt a 16 with
  | none => none
  | some l =>
    let ps := (List.range (leNat (l.take 8))).map (fun k => (l.drop (8 + 16 * k)).take 16)
    if a % 2 ^ 32 / 2 ^ 30 = 2 then
      let vs := ps.map (fun p => (index p, ar.f.elemValue (leNat (p.drop 8) % 2 ^ ar.f.width)))
      let cs := vs.map (fun e => if ar.exact then let x := exOf ar.f.u e.2; (e.1, ((x.1, false) : Acc), x.2) else (e.1, fp32.encodeSat e.2, false))
      let b1 := (b.examine (listKey a) ((vs.filter (fun e => e.2.special)).length)).flushed (2 ^ 60 + listKey a) ((cs.filter (fun e => e.2.2)).length)
      some (b1, joinEqual (accJoin ar.exact ar.rop) (ps.length + 1) (cs.map (fun e => (e.1, e.2.1))))
    else some (b, ps.map (fun p => (index p, (if ar.exact then leNat (p.drop 8) else leNat ((p.drop 8).take 4), false))))

/-- `VSPR`: the union of two index-sorted lists as an accumulator list (R459); undefined pairs, as many as a free value says, where a list is out of order (R458). -/
def BarRun.vspr (b : BarRun) (rd ra rb : Nat) : SwState :=
  match b.sparseAt (b.reg ra).toNat with
  | none => b.stop 1
  | some (b1, l1) =>
    match b1.sparseAt (b.reg rb).toNat with
    | none => b.stop 1
    | some (b2, l2) =>
      let out := (unionJoin (accJoin b.r.exact b.r.rop) (l1.length + l2.length + 1) l1 l2).map (fun e => (e.1, e.2.1))
      let n := Config.freeValue b2.s.c.free % (l1.length + l2.length + 1)
      let o := if ascending l1 && ascending l2 then (out, b2) else ({ b2 with s := b2.s.mod (fun c => { c with free := c.free + 1 }) } : BarRun).mergeOr false n []
      match o.2.store ((b.reg rd).toNat % 2 ^ 32) (leBytes o.1.length 8 ++ o.1.flatMap (fun e => leBytes e.1 8 ++ leBytes e.2 8)) with
      | some b3 => b3.next
      | none => b.stop 1

/-- `VMOV`. -/
def BarRun.vmov (b : BarRun) (rd ra rn : Nat) : SwState := b.cpy rd ra rn 0

/-! ### Staging, results and ends -/

/-- A chunk of a rank is staged, or has been (R410). -/
def CollRec.hasStaged (r : CollRec) (rank idx : Nat) : Bool :=
  match r.members[rank]? with
  | some m => decide (idx < m.top) && !m.want.contains idx
  | none => false

/-- A chunk lies within a member's part (R415). -/
def BarRun.inPart (b : BarRun) (rank idx : Nat) : Bool := decide (rank < b.r.m) && decide (idx < b.s.partOf b.r rank)

/-- Chunks up to an index have been shown staged (R404). -/
def BarCtx.show_ (x : BarCtx) (rank idx : Nat) : BarCtx := { x with shown := Tab.upd x.shown 0 rank (fun n => max n (idx + 1)) }

/-- `SWAIT`. -/
def BarRun.swait (b : BarRun) (ra rb : Nat) : SwState :=
  let rank := (b.reg ra).toNat
  let idx := (b.reg rb).toNat
  if !b.inPart rank idx then b.stop 1
  else if b.r.hasStaged rank idx then (b.ctx (fun x => x.show_ rank idx)).next
  else b.block (.chunk rank idx)

/-- Every member has staged a chunk. -/
def CollRec.allStaged (r : CollRec) (idx : Nat) : Bool := (List.range r.m).all (fun k => r.hasStaged k idx)

/-- `SALL`. -/
def BarRun.sall (b : BarRun) (rb : Nat) : SwState :=
  let idx := (b.reg rb).toNat
  if !(List.range b.r.m).all (fun k => b.inPart k idx) then b.stop 1
  else if b.r.allStaged idx then (b.ctx (fun x => (List.range b.r.m).foldl (fun x k => x.show_ k idx) x)).next
  else b.block (.allChunk idx)

/-- The watchdog count clears (R416). -/
def BarRun.petted (b : BarRun) : BarRun := b.ctx (fun x => { x with wdog := 0 })

/-- `SREL` (R411). -/
def BarRun.srel (b : BarRun) (ra rb : Nat) : SwState :=
  let top := (b.reg rb).toNat
  let ranks := if b.reg ra = BitVec.allOnes 64 then List.range b.r.m else [(b.reg ra).toNat]
  let s := each ranks b.petted.next (fun s k =>
    match b.r.members[k]? with
    | some m => s.leaveStaging b.r.group b.r.seq k ((m.staged.map (·.1)).filter (fun i => decide (i ≤ top) && b.owns i))
    | none => s)
  s

/-- `SCNT`. -/
def BarRun.scnt (b : BarRun) (rd ra : Nat) : SwState :=
  let rank := (b.reg ra).toNat
  let top := ((b.r.members[rank]?).map (·.top)).getD 0
  let v := (List.range top).foldl (fun (a : Option Nat) i => if b.owns i ∧ b.r.hasStaged rank i then some i else a) none
  b.alu rd (match v with
    | some i => BitVec.ofNat 64 i
    | none => BitVec.allOnes 64)

/-- Send chunks as `RESULT` (R413), to one rank or to everyone; a context that has met a special input under NAN_ABORT sends none (R454). -/
def BarRun.send (b : BarRun) (dest : Option Nat) (ra rb rn : Nat) : SwState :=
  let n := (b.reg rn).toNat
  match b.range (b.reg ra).toNat (256 * n) with
  | none => b.stop 1
  | some l =>
    let b1 := b.petted
    let cs := chunksFrom n (b.reg rb).toNat l
    let s1 := if b.x.tripped then b1.next else each cs b1.next (fun s e => s.sendResult b.r dest e.1 e.2)
    s1.modColl b.r.group b.r.seq (fun r => { r with results := r.results ++ cs.map (fun e => (b.x.idx, e.1)) })

/-- `RCAST`. -/
def BarRun.rcast (b : BarRun) (ra rb rn : Nat) : SwState := b.send none ra rb rn

/-- `RSEND`: a rank that the group does not have is an access outside what the context may reach. -/
def BarRun.rsend (b : BarRun) (rd ra rb rn : Nat) : SwState :=
  let rank := (b.reg rd).toNat
  if rank < b.r.m then b.send (some rank) ra rb rn else b.stop 1

/-- Every `RESULT` of a context has left the switch. -/
def SwState.ctxResultsLeft (s : SwState) (r : CollRec) (idx : Nat) : Bool := !s.pendingOf r (fun p => r.results.contains (idx, p.collChunk))

/-- `RWAIT`. -/
def BarRun.rwait (b : BarRun) : SwState := if b.s.ctxResultsLeft b.r b.x.idx then b.next else b.block .results

/-- The context has finished (R178, R412). -/
def SwState.endCtx (s : SwState) (k cx : Nat) (x : BarCtx) (r : CollRec) : SwState :=
  let lo := r.dram.1 * 2 ^ 36 + r.dram.2.1
  let s1 := (s.modCtx k cx (fun x => { x with ended := true, wait := none, wdog := 0 })).flushLines k lo (lo + r.dram.2.2)
  s1.modColl r.group r.seq (fun r => { r with ended := x.idx :: r.ended.filter (· != x.idx) })

/-- `END`. -/
def BarRun.end_ (b : BarRun) : SwState :=
  if b.s.ctxResultsLeft b.r b.x.idx then b.petted.s.endCtx b.k b.cx b.x b.r
  else (b.petted.ctx (fun x => { x with wait := some .finish })).s

/-! ### Issuing -/

/-- The words of Table 10.4. -/
def wordA (major rd ra rb func : Nat) : Nat := major * 2 ^ 26 + rd % 32 * 2 ^ 21 + ra % 32 * 2 ^ 16 + rb % 32 * 2 ^ 11 + func % 2 ^ 11
/-- Format I. -/
def wordI (major rd ra imm : Nat) : Nat := major * 2 ^ 26 + rd % 32 * 2 ^ 21 + ra % 32 * 2 ^ 16 + imm % 2 ^ 16
/-- Format V. -/
def wordV (major rd ra rb rn mode : Nat) : Nat := major * 2 ^ 26 + rd % 32 * 2 ^ 21 + ra % 32 * 2 ^ 16 + rb % 32 * 2 ^ 11 + rn % 32 * 2 ^ 6 + mode % 64
/-- Format J. -/
def wordJ (major off : Nat) : Nat := major * 2 ^ 26 + off % 2 ^ 26

/-- A word is a legal instruction (R407, R408): its major code exists, and each field that it does not use is zero. -/
def legalWord (w : Nat) : Bool :=
  let rd := bits w 25 21
  let ra := bits w 20 16
  let rb := bits w 15 11
  let func := bits w 10 0
  let rn := bits w 10 6
  let mode := bits w 5 0
  let m := bits w 31 26
  if m = 0 then decide (func < 16)
  else if m ≤ 4 ∨ (8 ≤ m ∧ m ≤ 0xE) ∨ (0x10 ≤ m ∧ m ≤ 0x15) then true
  else if m = 5 then ra == 0
  else if m = 6 ∨ m = 7 then bits w 15 6 == 0
  else if m = 0x0F then rd == 0 && rb == 0 && func == 0
  else if m = 0x16 ∨ m = 0x30 ∨ m = 0x32 then rd == 0 && func == 0
  else if m = 0x18 then rb == 0 && decide (mode < 3)
  else if m = 0x19 ∨ m = 0x27 ∨ m = 0x36 ∨ m = 0x3E ∨ m = 0x3F then bits w 25 0 == 0
  else if m = 0x20 ∨ m = 0x26 then rb == 0 && mode == 0
  else if m = 0x21 then decide (mode < 4)
  else if m = 0x22 ∨ m = 0x23 ∨ m = 0x24 ∨ m = 0x35 then mode == 0
  else if m = 0x25 then rn == 0 && mode == 0
  else if m = 0x31 then rd == 0 && ra == 0 && func == 0
  else if m = 0x33 then rb == 0 && func == 0
  else if m = 0x34 then rd == 0 && mode == 0
  else if m = 0x3C then ra == 0 && rb == 0 && func == 0
  else false

/-- The context that issues this word now, if it may (R400, R407, R609): ready, not stopped, its collective running under a program whose instructions the contexts execute, the word at its program counter being this one, and legal. -/
def SwState.issuer (s : SwState) (k cx word : Nat) : Option BarRun :=
  let b := s.core' k
  match Tab.find b.ctxs cx with
  | none => none
  | some x =>
    match s.slotColl x.slot with
    | none => none
    | some r =>
      let at_ : Bool := match s.userProg r.op with
        | some p => p.code[x.pc]? == some word
        | none => !nativeOp r.op
      if legalWord word ∧ b.st = .service ∧ !b.failed ∧ !x.ended ∧ !x.stopped ∧ x.wait.isNone ∧ !s.c.pwr.paused ∧ at_ ∧ r.ctxs.contains (k, cx)
      then some { s := s, k := k, cx := cx, x := x, r := r } else none

/-- Issue one instruction (R400): it is counted, and its effect follows. -/
def SwState.issue (s : SwState) (k cx word : Nat) (f : BarRun → SwState) : SwState :=
  match s.issuer k cx word with
  | none => s
  | some b =>
    let s1 := (s.mod (fun c => c.wrapBy (barA k 0x010) 1)).modBar k (fun c => { c with last := cx })
    f ({ b with s := s1 }.ctx (fun x => { x with ready := true }))

/-- A vector step whose residue check fails (R402, R456): once and it passes again, or twice, and the core is declared failed with nothing written. -/
def BarRun.checked (b : BarRun) (fails : Nat) (f : BarRun → SwState) : SwState :=
  if fails = 0 then f b
  else if fails = 1 then f { b with s := b.s.mod (fun c => (c.bumpLo (barA b.k 0x008)).errTransient 4) }
  else
    (b.s.mod (fun c => ((c.bumpHi (barA b.k 0x008)).errLasting 4).event (barA b.k 0x00C) (4 * 4096 + b.cx * 256))).modBar b.k (fun c => { c with failed := true })

/-- The condition that a context waits for holds (R410, R412). -/
def SwState.waitOver (s : SwState) (k : Nat) (x : BarCtx) (cx : Nat) (r : CollRec) : BarWait → Bool
  | .chunk rank idx => r.hasStaged rank idx
  | .allChunk idx => r.allStaged idx
  | .results => s.ctxResultsLeft r x.idx
  | .finish => s.ctxResultsLeft r x.idx
  | .align blk => (BarRun.blockImages { s := s, k := k, cx := cx, x := x, r := r } blk).isSome

/-- `CONTEXT_RESUME` (R410, R412): a blocked context whose condition holds goes on. -/
def SwState.ctxResume (s : SwState) (k cx : Nat) : SwState :=
  match Tab.find (s.core' k).ctxs cx with
  | none => s
  | some x =>
    match x.wait, s.slotColl x.slot with
    | some w, some r =>
      if s.c.pwr.paused ∨ x.stopped ∨ !s.waitOver k x cx r w then s
      else
        match w with
        | .finish => s.endCtx k cx x r
        | .chunk rank idx => s.modCtx k cx (fun x => { (x.show_ rank idx) with wait := none, ready := true })
        | .allChunk idx => s.modCtx k cx (fun x => { ((List.range r.m).foldl (fun x j => x.show_ j idx) x) with wait := none, ready := true })
        | _ => s.modCtx k cx (fun x => { x with wait := none, ready := true })
    | _, _ => s

/-- `WATCHDOG_FIRE` (R416). -/
def SwState.watchdog (s : SwState) (k cx : Nat) : SwState :=
  match Tab.find (s.core' k).ctxs cx with
  | none => s
  | some x =>
    match s.slotColl x.slot with
    | none => s
    | some r =>
      match s.userProg r.op with
      | some p => if p.wdog ≤ x.wdog ∧ !x.stopped ∧ !x.ended then s.stopCtx k cx 3 r else s
      | none => s

/-- Watchdog counts at a boundary (R416, R609). -/
def SwState.watchdogs (s : SwState) : SwState :=
  if s.c.pwr.paused then s
  else
    { s with cores := s.cores.map (fun e => (e.1, { e.2 with ctxs := e.2.ctxs.map (fun c =>
        let live := c.2.wait.isNone && !c.2.ended && !c.2.stopped
        (c.1, { c.2 with wdog := if c.2.ready then min 65535 (c.2.wdog + 1) else c.2.wdog, ready := live })) })) }

end Sys2Proof.Machine
end

