-- ==== Sys2Proof/Machine/MgmtOps.lean ====
section
/-!
DEFINITION. Replies of Zhevseler commands (R671, R675, R676), commands in execution and kept tags (R581, R680, R681).
-/

namespace Sys2Proof.Machine

/-- Status BUSY (Table 17.4). -/
def zBusy : Nat := 0x0001
/-- MALFORMED. -/
def zMalformed : Nat := 0x0010
/-- NOT_FOUND. -/
def zNotFound : Nat := 0x0018

/-- The bytes of a reply (R671). -/
def ZReply.bytes (r : ZReply) : List Byte :=
  zBytes 1 (r.op + 0x8000) r.tag r.kind r.index (beBytes r.status 2 ++ beBytes r.detail 2 ++ padWord r.data)

/-- Change the management executor. -/
def Common.modMgmt (c : Common) (f : Mgmt → Mgmt) : Common := { c with mgmt := f c.mgmt }

/-- The payload of `SPDM_MSG` and of its reply (Table 17.6): SESSION, length, two reserved bytes, the message. -/
def spdmForm (session : Nat) (msg : List Byte) : List Byte := beBytes session 4 ++ beBytes msg.length 2 ++ [0, 0] ++ msg

/-- Updates of a session's keys. -/
def Common.keyGen (c : Common) (session : Nat) : Nat := ((Tab.find c.sec.sessions session).map (·.keyGen)).getD 0

/-- The reply to a packet that came inside a session: an `SPDM_MSG` reply with the packet's TAG, whose message carries the reply's bytes as the application data of a secured message in the same session (R678). -/
def Common.wrapReply (c : Common) (k : Nat) (r : ZReply) : ZReply :=
  { ret := { r.ret with session := none }, op := 0x0901, tag := r.tag, data := spdmForm k (Config.securedMessage k (c.keyGen k) c.free r.bytes), inner := some (k, r.bytes) }

/-- Put a reply on the way its command came: an I3C reply waits to be read (R676), an in-band one goes into a `MGMT` packet (R675). -/
def Mgmt.put (m : Mgmt) (r : ZReply) : Mgmt :=
  match r.ret.transport with
  | .inband => { m with replies := m.replies ++ [r], outbox := m.outbox ++ [r] }
  | .i3c => { m with i3cReply := some r }
  | _ => { m with replies := m.replies ++ [r] }

/-- Send a reply, inside its session where its command came in one (R678). A notice's reply is never sent (R671). -/
def Common.sendReply (c : Common) (r : ZReply) : Common :=
  if r.ret.mute then c
  else
    match r.ret.session with
    | some k => ({ c with free := c.free + 1 } : Common).modMgmt (fun m => m.put (c.wrapReply k r))
    | none => c.modMgmt (fun m => m.put r)

/-- A reply whose tag is kept (R681): not BUSY and not a code from 0x0010 to 0x0017. -/
def ZReply.kept (r : ZReply) : Bool := r.status != zBusy && !(decide (0x10 ≤ r.status) && decide (r.status ≤ 0x17))

/-- Keep a reply for duplicates: the last 4,096 commands (R581). -/
def Common.keepReply (c : Common) (r : ZReply) : Common :=
  if r.kept && !r.ret.mute then c.modMgmt (fun m => { m with kept := (m.kept ++ [({ tag := r.tag, reply := r, at_ := c.pick } : ZKept)]).drop (m.kept.length + 1 - 4096) }) else c

/-- A command in execution ends: it and the duplicates that waited are answered, and the tag is kept. -/
def Common.endExec (c : Common) (op tag status detail : Nat) (data : List Byte) : Common :=
  match c.mgmt.executing.find? (fun e => e.op == op && e.tag == tag) with
  | none => c
  | some e =>
    let c1 := c.modMgmt (fun m => { m with executing := m.executing.erase e })
    let rep := fun (ret : ZReturn) => ({ ret := ret, op := op, tag := tag, kind := e.kind, index := e.index, status := status, detail := detail, data := data } : ZReply)
    (each (e.ret :: e.dups) c1 (fun c ret => c.sendReply (rep ret))).keepReply (rep e.ret)

/-- The `MGMT` packet of an in-band reply of a part at node `src` (R675): toward a switch with target 0x0 where `toSwitch`. -/
def ZReply.packet (r : ZReply) (src pitch : Nat) (toSwitch : Bool) : Packet :=
  mgmtPacket src (if toSwitch then 0 else r.ret.srcNode) pitch (if toSwitch then 0 else 1) r.bytes

end Sys2Proof.Machine
end

