-- ==== Sys2Proof/Machine/LedgerOps.lean ====
section
/-!
DEFINITION. The margin ledger (R564 to R569), spare rows (R561), guy lines (R579), the free values that both parts draw.
-/

namespace Sys2Proof.Machine

/-- Draw a free value: nothing is known of it (notes/assumptions/11.md). -/
def Common.fresh (c : Common) : Nat × Common := (Config.freeValue c.free, { c with free := c.free + 1 })

/-- Change the ledger. -/
def Common.modLedger (c : Common) (f : Ledger → Ledger) : Common := { c with ledger := f c.ledger }

/-- The day of a pick (R567). -/
def dayOf (pick : Nat) : Nat := pick / 86400000000

/-- Records newest first, those that wait in SRAM included (R568, R569). -/
def Ledger.all (l : Ledger) : List LedgerRec := l.waiting.reverse ++ l.records

/-- Value of quantity q in a record (Tables 14.3, 14.4). -/
def LedgerRec.quantity (r : LedgerRec) (q : Nat) : Int :=
  match q with
  | 0 => r.vdd
  | 1 => r.biasPct
  | 2 => r.marginMin
  | 3 => r.eyeMin
  | _ => r.heaterMin

/-- Limit of a quantity in the unit of its record, and whether the quantity rises toward it (Table 14.3). -/
def ledgerLimit (q : Nat) : Int × Bool :=
  match q with
  | 0 => (800, true)
  | 1 => (90, true)
  | 2 => (150, false)
  | 3 => (8, false)
  | _ => (0, false)

/-- Whole days from the newest point until the least-squares line reaches a limit; 0xFFFF with fewer than 14 points or a line that does not trend toward it (R569).
A line at or past the limit has no days left; a longer span than the field holds reads 0xFFFE. -/
def fitDays (pts : List (Int × Int)) (limit : Int) (rising : Bool) : Nat :=
  let n : Int := pts.length
  let sx : Int := (pts.map (·.1)).sum
  let sy : Int := (pts.map (·.2)).sum
  let sxx : Int := (pts.map (fun p => p.1 * p.1)).sum
  let sxy : Int := (pts.map (fun p => p.1 * p.2)).sum
  let x0 : Int := (pts.headD (0, 0)).1
  let d := n * sxx - sx * sx
  let m := n * sxy - sx * sy
  let num := limit * n * d - sy * d - m * (n * x0 - sx)
  let toward : Bool := if rising then decide (0 < m) else decide (m < 0)
  if pts.length < 14 || d == 0 || !toward then 0xFFFF
  else if (if rising then decide (num ≤ 0) else decide (0 ≤ num)) then 0
  else min 0xFFFE (num.natAbs / (n * m).natAbs)

/-- `LEDGER_PROJ_q` over the last 90 records (R569). -/
def Ledger.proj (l : Ledger) (q : Nat) : Nat :=
  fitDays ((l.all.take 90).map (fun r => ((r.day : Int), r.quantity q))) (ledgerLimit q).1 (ledgerLimit q).2

/-- Units of a kind out of service now (Table 14.4). -/
def Ledger.outOf (l : Ledger) (kind : Nat) : Nat := (l.loss.filter (fun e => e.1 / 65536 == kind && e.2.out)).length

/-- Bias of a comb in percent of its maximum, 1.6 times its bias at the beginning of life (R471, Table 12.16). -/
def Common.biasPct (c : Common) (k : Nat) : Nat := if c.bol k = 0 then 0 else (c.comb k).bias * 1000 / (16 * c.bol k)

/-- The highest comb bias in percent, and its comb (Table 14.3). -/
def Common.topBias (c : Common) : Nat × Nat :=
  (List.range (combCount c.part)).foldl (fun b k => if b.1 < c.biasPct k then (c.biasPct k, k) else b) (0, 0)

/-- The lowest lane margin of the raised and standby ports, and its port (Table 14.3). -/
def Common.lowestMargin (c : Common) : Option (Int × Nat) :=
  c.ports.foldl (fun b e =>
    if e.2.t.st == .raised || e.2.t.st == .standby then
      match lowMargin e.2.t.roles (fun ch => Tab.find e.2.op.drop ch), b with
      | some m, some x => if m < x.1 then some (m, e.1) else some x
      | some m, none => some (m, e.1)
      | none, x => x
    else b) none

/-- `LEDGER_EVENT` (Table 14.9). -/
def Common.ledgerEvent (c : Common) (cause q : Nat) : Common := c.event (resA c.part 0x130) (cause * 4096 + q * 256)

/-- A record reaches the flash: a ring of 4,096 (R567). -/
def Common.writeRecord (c : Common) (r : LedgerRec) : Common :=
  (c.modLedger (fun l => { l with records := (r :: l.records).take 4096 })).ledgerEvent 0x1 0

/-- The record of a day (R567): the day's slack and errors, the quantities of Table 14.3. A part with no port in service has no lowest lane margin: a free value. -/
def Common.makeRecord (c : Common) : LedgerRec × Common :=
  let l := c.ledger
  let m : (Int × Nat) × Common := match c.lowestMargin with
    | some x => (x, c)
    | none => let f := c.fresh; ((f.1, 0), f.2)
  let b := c.topBias
  let r : LedgerRec :=
    { day := dayOf c.pick, pick := c.pick, vdd := l.avs,
      slackMin := l.slackMin, slackMean := if l.slackCount = 0 then 0 else l.slackSum / l.slackCount, slackDie := l.slackDie,
      biasPct := min 255 b.1, biasComb := b.2, marginMin := m.1.1, marginPort := m.1.2,
      eyeMin := l.eyeMin, eyePort := l.eyePort, heaterMin := l.heaterMin, heaterPort := l.heaterPort,
      errors := (List.range 16).map (fun k => Tab.get l.errors (0, 0) k), lost := (List.range 16).map (fun k => min 255 (l.outOf k)) }
  let l2 := { l with records := r :: l.all, waiting := [] }
  ({ r with proj := (List.range 5).map (fun q => l2.proj q) }, m.2)

/-- The first quiet pick of a day writes the day's record, or leaves it waiting while the flash-write inhibit holds (R567, R568). -/
def Common.dailyRecord (c : Common) : Common :=
  let last : Option Nat := match c.ledger.lastDay with | some d => some d | none => (c.ledger.all.head?).map (·.day)
  if last = some (dayOf c.pick) then c
  else
    let m := c.makeRecord
    let c1 := m.2.modLedger (fun l =>
      { l with lastDay := some (dayOf c.pick), slackMin := 32767, slackDie := 0, slackSum := 0, slackCount := 0, errors := [] })
    if c.therm.flashInhibit then c1.modLedger (fun l => { l with waiting := l.waiting ++ [m.1] }) else c1.writeRecord m.1

/-- The first projection below 180 days (R569). -/
def Ledger.shortest (l : Ledger) : Option Nat := (List.range 5).find? (fun q => decide (l.proj q < 180))

/-- What the ledger does at a quiet pick (R564 to R569). -/
def Common.ledgerQuiet (c : Common) (b : BoundaryIn) : Common :=
  let ctrl := c.rd (resA c.part 0x100)
  if !flag ctrl 0 then c
  else
    let c1 := c.modLedger (fun l =>
      { l with
        slackDie := (if b.slack < l.slackMin then b.slackDie else l.slackDie), slackMin := min l.slackMin b.slack, slackSum := l.slackSum + b.slack, slackCount := l.slackCount + 1,
        eyeMin := b.eyeMin, eyePort := b.eyePort, heaterMin := b.heaterMin, heaterPort := b.heaterPort })
    let c2 := c1.wr (resA c.part 0x10C) (BitVec.ofNat 32 (twos 16 b.slack + b.slackDie % 256 * 65536))
    let c3 :=
      if flag ctrl 1 ∧ b.coreSlack < (fld ctrl 15 8 : Nat) ∧ c2.ledger.avs < 800 then
        (c2.modLedger (fun l => { l with avs := min 800 (l.avs + 5) })).ledgerEvent 0x3 0
      else c2
    let c4 := if c3.therm.flashInhibit then c3 else each c3.ledger.waiting (c3.modLedger (fun l => { l with waiting := [] })) (fun c r => c.writeRecord r)
    let c5 := c4.dailyRecord
    match c5.ledger.shortest with
    | some q => if c5.ledger.warn then c5 else (c5.modLedger (fun l => { l with warn := true })).ledgerEvent 0x2 q
    | none => c5

/-- Spare rows take the rows that failed again (R561): counted, and recorded for the stacks among them. -/
def Common.repairRows (c : Common) (b : BoundaryIn) : Common :=
  let n := min b.rows c.ledger.spareRows
  if n = 0 then c
  else
    let c1 := (c.bumpBy (resA c.part 0x00C) 15 0 n).modLedger (fun l => { l with spareRows := l.spareRows - n })
    if c.part = .sw then each b.dramRows c1 (fun c k => c.event 0x800004 (3 * 256 + k % 2)) else c1

/-- Memory errors of a stack are counted in `DRAM_ECC` (Table 14.11), transient or lasting. -/
def Common.countEcc (c : Common) (b : BoundaryIn) : Common :=
  if c.part = .sw then each b.dramEcc c (fun c e => if e.2 then (c.bumpHi (0x800010 + 4 * (e.1 % 2))).errLasting 5 else (c.bumpLo (0x800010 + 4 * (e.1 % 2))).errTransient 5) else c

/-- The ledger's work at a boundary: the target not met for 1 s (R566), and that of a quiet pick. -/
def Common.ledgerBoundary (c : Common) (b : BoundaryIn) : Common :=
  let c0 := c.countEcc b
  let c1 := if b.avsUnmet ∧ !c.ledger.avsUnmet then c0.ledgerEvent 0x4 0 else c0
  let c2 := c1.modLedger (fun l => { l with avsUnmet := b.avsUnmet })
  if quiet c.pick then (c2.repairRows b).ledgerQuiet b else c2

/-- A guy line goes down or comes up (Table 14.9). -/
def Common.guyChange (c : Common) (lineB up : Bool) : Common :=
  if (if lineB then c.mgmt.lineB else c.mgmt.lineA) = up then c
  else
    let c1 := c.modMgmt (fun m => if lineB then { m with lineB := up } else { m with lineA := up })
    c1.event (resA c.part 0x014) ((if up then 2 else 1) * 256 + b2n lineB)

end Sys2Proof.Machine
end

