-- ==== Sys2Proof/Machine/PowerOps.lean ====
section
/-!
DEFINITION. Power, heat and the bivouac island (spec/15): limits and gates, caps and their lease, the alert, sensors, the ramp alarm, the trip, the flash-write inhibit, wakes.
Powers are in 0.1 W. Filtered values are kept in 1/128 of the channel's unit.
-/

namespace Sys2Proof.Machine

/-- Maximum power of a part (Tables 1.3 and 1.4). -/
def pwrMax : Part → Nat
  | .sw => 14400
  | .ep => 950

/-- Floor power of a part with every port lit (Tables 1.3 and 1.4). -/
def pwrFloorTop : Part → Nat
  | .sw => 6000
  | .ep => 400

/-- Change the power state. -/
def Common.modPwr (c : Common) (f : Power → Power) : Common := { c with pwr := f c.pwr }

/-- Change the thermal state. -/
def Common.modTherm (c : Common) (f : Thermal → Thermal) : Common := { c with therm := f c.therm }

/-- `PWR_EVENT` (Table 15.7). -/
def Common.pwrEvent (c : Common) (cause : Nat) : Common := c.event (pwrA c.part 0x024) (cause * 4096)

/-- `THERM_EVENT` (Table 15.7). -/
def Common.thermEvent (c : Common) (cause chan : Nat) : Common := c.event (pwrA c.part 0x04C) (cause * 4096 + chan % 256)

/-- A power state is entered (Tables 15.5 and 15.9). -/
def Common.setBiv (c : Common) (st : BivState) (cause : Nat) : Common :=
  ({ c with biv := { c.biv with st := st, cause := cause } } : Common).event (bivA c.part 0x008) (st.code * 4096 + cause * 256)

/-! ### Sensor channels (Table 15.1): numbered as notes/assumptions/20.md says -/

/-- A junction temperature. -/
def junctionChan (p : Part) (ch : Nat) : Bool :=
  match p with
  | .sw => decide (ch < 176)
  | .ep => decide (ch < 8)

/-- A DRAM stack temperature. -/
def dramChan (p : Part) (ch : Nat) : Bool := p == .sw && decide (176 ≤ ch) && decide (ch < 180)

/-- A temperature channel. -/
def tempChan (p : Part) (ch : Nat) : Bool := junctionChan p ch || dramChan p ch

/-- The channel of the VAUX voltage. -/
def vauxChan : Part → Nat
  | .sw => 198
  | .ep => 18

/-- The channel of V12_SENSE, on the switch. -/
def v12Chan : Nat := 200

/-- Number of channels of a part. -/
def chanCount : Part → Nat
  | .sw => 201
  | .ep => 20

/-- A degree Celsius in the unit of a raw temperature. -/
def degrees (t : Nat) : Int := 64 * t

/-- A value of a channel in the unit of a filtered one. -/
def asFilt (v : Int) : Int := 128 * v

/-- One reading of a channel (R596): the median of the latest five samples, and the filter. The first reading of a channel sets its filter. -/
def Sensor.take (s : Sensor) (k : Nat) (raw : Int) : Sensor :=
  let l := (raw :: s.samples).take 5
  let m := Sys2Proof.Machine.median l
  { samples := l, median := m, filt := if s.samples = [] then asFilt m else s.filt + (asFilt m - s.filt) / 2 ^ k }

/-- The readings of one sweep (R595). -/
def Common.readSensors (c : Common) (l : List SensorIn) : Common :=
  let k := c.rf' (bivA c.part 0x004) 6 4
  each (l.filter (fun r => decide (r.chan < chanCount c.part))) c (fun c r => c.modTherm (fun t => { t with sensors := Tab.upd t.sensors {} r.chan (fun s => s.take k r.raw) }))

/-- Temperature channels that have been sampled. -/
def Common.temps (c : Common) : List (Nat × Sensor) := c.therm.sensors.filter (fun e => tempChan c.part e.1)

/-- The channel with the highest filtered value in a list. -/
def hottestOf (l : List (Nat × Sensor)) : Option (Nat × Int) :=
  l.foldl (fun b e => match b with
    | some x => if x.2 < e.2.filt then some (e.1, e.2.filt) else some x
    | none => some (e.1, e.2.filt)) none

/-- The hottest filtered reading of any temperature channel. -/
def Common.hottest (c : Common) : Option (Nat × Int) := hottestOf c.temps

/-- The hottest filtered junction reading. -/
def Common.hotJunction (c : Common) : Option (Nat × Int) := hottestOf (c.temps.filter (fun e => junctionChan c.part e.1))

/-- Allowance of a filtered reading in 1/640 (R611). -/
def allowanceOf (top : Nat) (f : Int) : Nat := min 640 ((asFilt (degrees top) - f) / 128).toNat

/-- The least allowance without the ramp alarm, and its channel (R611). -/
def Common.heatAllowance (c : Common) : Nat × Nat :=
  c.temps.foldl (fun b e =>
    let a := allowanceOf (if dramChan c.part e.1 then 95 else 105) e.2.filt
    if a < b.1 then (a, e.1) else b) (640, 0)

/-- The least allowance in force (R611, R612). -/
def Common.allowance (c : Common) : Nat × Nat :=
  let a := c.heatAllowance
  if c.therm.ramp.isSome then (min a.1 (10 * c.rf' (pwrA c.part 0x044) 14 8), a.2) else a

/-- The history of the hottest junction over 100 ms: the readings that no later one undercuts, newest first. -/
def pushHistory (now : Nat) (v : Int) (l : List (Nat × Int)) : List (Nat × Int) :=
  (now, v) :: (l.dropWhile (fun e => decide (v ≤ e.2))).filter (fun e => decide (now ≤ e.1 + 100000))

/-- A rise that qualifies for the ramp alarm (R612). -/
def Common.rising (c : Common) (v : Int) : Bool :=
  let low := ((c.therm.history.getLast?).map (·.2)).getD v
  decide (asFilt (degrees 75) ≤ v) && decide (asFilt (degrees (c.rf' (pwrA c.part 0x044) 7 0)) ≤ v - low)

/-- The ramp alarm starts (R612). -/
def Common.rampOn (c : Common) (byCommand : Bool) (chan : Nat) : Common :=
  if c.therm.ramp.isSome then (if byCommand then c.modTherm (fun t => { t with ramp := some true }) else c)
  else (c.modTherm (fun t => { t with ramp := some byCommand, coolSince := none })).thermEvent 0x3 chan

/-- The ramp alarm ends (R612). -/
def Common.rampOff (c : Common) : Common :=
  if c.therm.ramp.isSome then (c.modTherm (fun t => { t with ramp := none, coolSince := none })).thermEvent 0x4 (((c.hotJunction).map (·.1)).getD 0) else c

/-- The ramp alarm at a sweep (R612). -/
def Common.rampSweep (c : Common) : Common :=
  match c.hotJunction with
  | none => c
  | some (ch, v) =>
    let c1 := c.modTherm (fun t => { t with history := pushHistory c.pick v t.history })
    let up := c1.rising v
    let c2 := if up then c1.rampOn false ch else c1
    let cool := decide (v < asFilt (degrees 85)) && !up
    c2.modTherm (fun t => { t with coolSince := if cool then some (t.coolSince.getD c.pick) else none })

/-- `THERM_STATUS.THROTTLE` and its events: at a sweep, and when a ramp alarm starts or ends (R611, R612). -/
def Common.throttleSweep (c : Common) : Common :=
  let a := c.allowance
  let on := decide (a.1 < 640)
  if on = c.therm.throttle then c
  else (c.modTherm (fun t => { t with throttle := on })).thermEvent (if on then 0x1 else 0x2) a.2

/-- `THERM_HWM`: the hottest median since it was cleared (Table 15.7). -/
def Common.markHeat (c : Common) : Common :=
  let a := pwrA c.part 0x048
  each c.temps c (fun c e => if untwos 16 (fld (c.rd a) 15 0) < e.2.median then c.wr a (BitVec.ofNat 32 (twos 16 e.2.median)) else c)

/-- The first channel whose median calls for a trip (R613). -/
def Common.tripChan (c : Common) : Option Nat :=
  (c.temps.find? (fun e => decide (degrees (if dramChan c.part e.1 then 100 else 110) ≤ e.2.median))).map (·.1)

/-- Every temperature median is below 85 °C (R614, R621). -/
def Common.cooled (c : Common) : Bool := c.temps.all (fun e => decide (e.2.median < degrees 85))

/-- A supply reading has been taken, and the filtered value is below a limit. -/
def Common.supplyBelow (c : Common) (ch : Nat) (v : Int) : Bool :=
  match Tab.find c.therm.sensors ch with
  | some s => decide (s.filt < asFilt v)
  | none => false

/-- A supply is low enough to start the flash-write inhibit (R615): VAUX in mV, V12_SENSE in 1/4 mV. -/
def Common.sagging (c : Common) : Bool := c.supplyBelow (vauxChan c.part) 3100 || (c.part == .sw && c.supplyBelow v12Chan 44000)

/-- The supplies are good again (R615). -/
def Common.supplyGood (c : Common) : Bool := !(c.supplyBelow (vauxChan c.part) 3150 || (c.part == .sw && c.supplyBelow v12Chan 44800))

/-- Suspend or resume the erase of a firmware slot (R616). -/
def Common.suspendErase (c : Common) (on : Bool) : Common :=
  { c with fw := { c.fw with staging := c.fw.staging.map (fun f => if f.erased then f else { f with suspended := on }) } }

/-- The flash-write inhibit starts (R615, R616). -/
def Common.inhibitOn (c : Common) : Common :=
  ((c.modTherm (fun t => { t with flashInhibit := true, goodSince := none })).pwrEvent 0x9).suspendErase true

/-- The flash-write inhibit ends after 10 ms of good supply (R615, R616). -/
def Common.inhibitOff (c : Common) : Common :=
  if c.therm.flashInhibit ∧ c.therm.goodSince.isSome then ((c.modTherm (fun t => { t with flashInhibit := false, goodSince := none })).pwrEvent 0xA).suspendErase false else c

/-- The supplies at a sweep (R615). -/
def Common.supplySweep (c : Common) : Common :=
  if !c.therm.flashInhibit then (if c.sagging then c.inhibitOn else c)
  else c.modTherm (fun t => { t with goodSince := if c.supplyGood then some (t.goodSince.getD c.pick) else none })

/-! ### Wakes (R614, R621, R622) -/

/-- A wake is allowed (R621). -/
def Common.wakeReady (c : Common) : Bool :=
  let raises := (List.range (portCount c.part)).any (fun n => flag (c.rd (linkA c.part n 0x000)) 1)
  c.cooled && !c.therm.flashInhibit && (c.opt.laserEn || !raises) && !c.biv.dead

/-- A wake begins (Table 15.6): the combs enter WARMING. From bivouac the management complex resumes its retained image. -/
def Common.startWake (c : Common) (cause : Nat) : Common :=
  (({ c with biv := { c.biv with wakeAt := c.pick, booted := cause != 3, railFault := false } } : Common).setBiv .waking cause).warmCombs

/-- `BIV_WAKE_TIME`: picks, which are microseconds, since the wake began. -/
def Common.wakeTime (c : Common) : Common := c.wr (bivA c.part 0x00C) (BitVec.ofNat 32 (min 65535 (c.pick - c.biv.wakeAt)))

/-- A part that cooled after a trip wakes at once with AUTO_WAKE (R614). -/
def Common.tripOver (c : Common) : Common :=
  if c.therm.tripped ∧ c.cooled then
    let c1 := c.modTherm (fun t => { t with tripped := false })
    if c1.biv.st = .bivouac ∧ flag (c1.rd (bivA c.part 0x004)) 0 ∧ c1.wakeReady ∧ !c1.biv.railFault then c1.startWake 4 else c1
  else c

/-! ### Caps (R603 to R607) -/

/-- The lower of two caps, where `none` is no cap. -/
def lowerCap : Option Nat → Option Nat → Option Nat
  | some a, some b => some (min a b)
  | some a, none => some a
  | none, b => b

/-- `POWER_CAP` (R603, R604, R606): the lease is renewed whether or not the cap is accepted. True where it is. -/
def Common.takeCap (c : Common) (cap : Nat) : Common × Bool :=
  let c0 := if c.pwr.lease = 0 then c.pwrEvent 0x4 else c
  let c1 := c0.modPwr (fun p => { p with lease := 5000000 })
  if cap < c.pwr.floor then ((c1.modPwr (fun p => { p with belowFloor := true })).pwrEvent 0x2, false)
  else
    let v : Option Nat := if pwrMax c.part ≤ cap then none else some cap
    ((c1.modPwr (fun p => { p with belowFloor := false, cap := v, low0 := lowerCap p.low0 v })).pwrEvent 0x1, true)

/-- The lease lapses (R606): the cap in force is discarded. -/
def Common.leaseLapse (c : Common) : Common :=
  if c.pwr.lease = 0 then c else (c.modPwr (fun p => { p with lease := 0, cap := none })).pwrEvent 0x3

/-! ### The alert (R608 to R610) -/

/-- The alert is asserted. -/
def Common.alertOn (c : Common) : Common :=
  if c.pwr.alert then c else (c.modPwr (fun p => { p with alert := true, alertSeen := true, alertHold := 0 })).pwrEvent 0x5

/-- The alert is deasserted: the hold count starts. -/
def Common.alertOff (c : Common) : Common := c.modPwr (fun p => { p with alert := false, alertHold := 0 })

/-- `PWR_ALERT_HOLD`. -/
def Common.alertHoldPicks (c : Common) : Nat := c.rf' (pwrA c.part 0x020) 15 0

/-- The hold count is over: the next boundary ends the reserve limit. -/
def Common.alertHeld (c : Common) : Common := if c.pwr.alert then c else c.modPwr (fun p => { p with alertHold := max p.alertHold c.alertHoldPicks })

/-- The alert at a boundary: the reserve limit and the pause begin, or end (R608, R610). -/
def Common.alertBoundary (c : Common) : Common :=
  let p := c.pwr
  if p.alert ∨ p.alertSeen then
    c.modPwr (fun p => { p with reserve := true, paused := c.part == .sw, alertSeen := false, alertHold := 0 })
  else if p.reserve then
    if c.alertHoldPicks ≤ p.alertHold + 1 then (c.modPwr (fun p => { p with reserve := false, paused := false, alertHold := 0 })).pwrEvent 0x6
    else c.modPwr (fun p => { p with alertHold := p.alertHold + 1 })
  else c

/-! ### Limits and gates (R599 to R602) -/

/-- A gate value from 1 to 64. -/
def clampGate (v : Int) : Nat := min 64 (max 1 v.toNat)

/-- The governing limit G and what governs it: cap 1, orphan cap 2, thermal 4, or none 0 (R599, Table 15.7). -/
def Common.governing (c : Common) (floor : Nat) : Nat × Nat :=
  let a := c.allowance.1
  let heat := floor + a * (pwrMax c.part - pwrFloorTop c.part) / 640
  let t : Nat × Nat := (heat, if a < 640 then 4 else 0)
  let rule : Option (Nat × Nat) :=
    if c.pwr.lease = 0 then some (c.rf' (pwrA c.part 0x018) 15 0, 2)
    else (lowerCap c.pwr.low2 c.pwr.low1).map (fun v => (v, 1))
  match rule with
  | some r => if r.1 < t.1 then r else t
  | none => t

/-- Gates for a limit (R599 to R602): loose traffic gives way first, staked traffic only with GL at 1; `est` are the estimates of the pick that opens. -/
def gatesFor (g floor staked loose full : Nat) : Nat × Nat :=
  let room : Int := 98 * g / 100 - floor - staked
  let gl := if (loose : Int) ≤ room then 64 else clampGate (room * 64 / max 1 full)
  let left : Int := 98 * g / 100 - floor - full / 64
  let gs := if (staked : Int) ≤ left then 64 else clampGate (left * 64 / max 1 full)
  (gl, gs)

/-- What a boundary settles about power: the lease runs on, the limit is formed, the gates are set (R599 to R608). -/
def Common.powerBoundary (c : Common) (b : BoundaryIn) : Common :=
  let floor := min b.floor (pwrFloorTop c.part)
  let c0 := if c.pwr.lease = 1 then c.leaseLapse else c.modPwr (fun p => { p with lease := p.lease - 1 })
  let c1 := (c0.modPwr (fun p => { p with low2 := p.low1, low1 := p.low0, low0 := p.cap, floor := floor, pickPower := b.pickPower })).alertBoundary
  let g := c1.governing floor
  let bare := c1.pwr.belowFloor || decide (g.1 < floor)
  let level := min 64 (max 1 (c1.rf' (pwrA c.part 0x01C) 6 0))
  let w := gatesFor g.1 floor b.staked b.loose b.full
  let gl := if bare then 1 else if c1.pwr.reserve then min w.1 level else w.1
  let gs := if bare then 1 else w.2
  let gov := if bare then 5 else if c1.pwr.reserve && decide (level < w.1) then 3 else g.2
  let above := decide (g.1 < floor)
  let c2 := if above && !c.pwr.floorAbove then c1.pwrEvent 0x7 else c1
  let c3 := if gs < 64 ∧ c.pwr.gs = 64 then c2.pwrEvent 0x8 else c2
  c3.modPwr (fun p => { p with gl := gl, gs := gs, gov := gov, limit := g.1, floorAbove := above, cells := 0 })

/-- What else of this chapter a boundary ends by itself: the flash-write inhibit after 10 ms, the ramp alarm after 10 s. -/
def Common.islandBoundary (c : Common) : Common :=
  let c1 := match c.therm.goodSince with | some t => if t + 10000 ≤ c.pick then c.inhibitOff else c | none => c
  match c1.therm.coolSince with
  | some t => if t + 10000000 ≤ c1.pick then c1.rampOff.throttleSweep else c1
  | none => c1

/-! ### Entering bivouac: what both parts lose (R619, R620, R692, R667, Table 18.9) -/

/-- `STAGE_EVENT` (R692, Table 17.10). -/
def Common.stageEvent (c : Common) (cause set : Nat) : Common := c.event (resA c.part 0x028) (cause * 4096 + set % 8)

/-- A set becomes COMMITTED or CANCELLED: it holds no room, and reports the count it held (R687). -/
def Common.closeSet (c : Common) (k : Nat) (st : SetState) : Common :=
  { c with stage := { c.stage with sets := Tab.upd c.stage.sets {} k (fun s => { s with st := st, held := s.entries.length, entries := [] }) } }

/-- Every scheduled set is cancelled (R310, R682, R692), and every scheduled membership change dropped. -/
def Common.cancelScheduled (c : Common) (cause : Nat) : Common :=
  let l := (c.stage.sets.filter (fun e => e.2.st == .scheduled)).map (·.1)
  let c1 := each l c (fun c k => (c.closeSet k .cancelled).stageEvent cause k)
  { c1 with stage := { c1.stage with memb := [] } }

/-- Forget registers from the hardware's side: they read as after reset. -/
def Common.dropRegs (c : Common) (p : Nat → Bool) : Common := { c with rf := { c.rf with cur := c.rf.cur.filter (fun e => !p e.1) } }

/-- A high-water mark of the queue samples (Table 8.18). -/
def hwmReg (p : Part) (a : Nat) : Bool :=
  match p with
  | .sw => decide (0xA10000 ≤ a) && decide (a < 0xB30000) && decide (0x40 ≤ a % 0x1000) && decide (a % 0x1000 < 0x6C)
  | .ep => decide (0x91000 ≤ a) && decide (a < 0x95000) && decide (0x40 ≤ a % 0x200) && decide (a % 0x200 < 0x6C)

/-- The core of a part is gated: buffers and sample rings lose their contents, keys are erased, scheduled sets are cancelled (R620, R682). -/
def Common.gateCore (c : Common) : Common :=
  let c1 := (c.cancelScheduled 4).dropRegs (hwmReg c.part)
  { c1 with
    ports := c1.ports.map (fun e => (e.1, { e.2 with eg := {}, fl := e.2.fl.cleared, cred := [] })),
    sec := { c1.sec with keys := [] } }

/-- Every port is struck abruptly, and its strike is over (R547, Table 15.4). -/
def Common.strikeAll (c : Common) : Common := each c.listed c (fun c n => c.strikeAbrupt n causeLight)

/-- What a trip or a rail fault does to both parts' common state (Table 15.4): combs dark, ports struck, bivouac entered with cause TRIP. -/
def Common.tripCommon (c : Common) : Common :=
  let c1 := if c.biv.st = .awake then c.setBiv .entering 2 else c
  (((c1.darkCombs true).strikeAll.gateCore).setBiv .bivouac 2)

end Sys2Proof.Machine
end

