-- ==== Sys2Proof/Machine/ZGate.lean ====
section
/-!
DEFINITION. The checks that every Zhevseler command passes before it executes (R671 to R684): duplicates, length, opcode, transport, role, target, fields, and the states that answer BUSY.
-/

namespace Sys2Proof.Machine

/-- Roles an opcode asks for (R679). -/
inductive ZRole where
  | openRole
  | rack
  | session
  | tenant
  | manager
  | notice
  deriving DecidableEq, Repr

/-- The code of a role in NOT_PRIVILEGED (Table 17.4). -/
def ZRole.code : ZRole → Nat
  | .rack => 1
  | .session => 2
  | .tenant => 3
  | .manager => 4
  | _ => 0

/-- A row of Table 17.5: parts, role, transports, target kinds. -/
structure OpRow where
  op : Nat
  sw : Bool := true
  ep : Bool := true
  role : ZRole
  guy : Bool := true
  inband : Bool := true
  i3c : Bool := false
  kinds : List Nat := [0]
  deriving DecidableEq, Repr

/-- Table 17.5. -/
def opRows : List OpRow := [
  { op := 0x0001, role := .openRole, i3c := true }, { op := 0x0002, role := .openRole, i3c := true }, { op := 0x0003, role := .manager },
  { op := 0x0004, role := .openRole, i3c := true }, { op := 0x0005, role := .manager, inband := false },
  { op := 0x0101, role := .manager }, { op := 0x0102, role := .manager }, { op := 0x0103, role := .manager }, { op := 0x0104, role := .manager }, { op := 0x0105, role := .manager },
  { op := 0x0201, role := .manager, kinds := [1] }, { op := 0x0202, role := .manager, kinds := [1] }, { op := 0x0210, role := .notice, guy := false },
  { op := 0x0301, role := .manager, ep := false }, { op := 0x0302, role := .manager, ep := false }, { op := 0x0303, role := .notice, sw := false, guy := false },
  { op := 0x0310, role := .manager, kinds := [1, 4, 5] }, { op := 0x0320, role := .manager, kinds := [1, 2, 3, 4, 5, 6, 7, 8, 9] }, { op := 0x0321, role := .manager } ] ++ [
  { op := 0x0401, role := .rack, inband := false }, { op := 0x0402, role := .rack, inband := false }, { op := 0x0403, role := .manager }, { op := 0x0404, role := .rack, inband := false },
  { op := 0x0501, role := .manager, ep := false }, { op := 0x0502, role := .tenant, ep := false },
  { op := 0x0510, role := .notice, sw := false, guy := false }, { op := 0x0511, role := .notice, ep := false, guy := false },
  { op := 0x0601, role := .manager, ep := false }, { op := 0x0602, role := .manager, ep := false }, { op := 0x0701, role := .manager, sw := false },
  { op := 0x0801, role := .manager }, { op := 0x0802, role := .manager }, { op := 0x0803, role := .manager }, { op := 0x0804, role := .manager },
  { op := 0x0901, role := .openRole }, { op := 0x0902, role := .session, inband := false }, { op := 0x0903, role := .manager, inband := false },
  { op := 0x0904, role := .manager, kinds := [7] }, { op := 0x0905, role := .tenant, kinds := [7] } ]

/-- The row of an opcode for a part (Table 17.5). -/
def opRow (p : Part) (op : Nat) : Option OpRow := opRows.find? (fun r => r.op == op && (match p with | .sw => r.sw | .ep => r.ep))

/-- Number of units of a target kind on a part; 0 where the part has none (Table 17.2). -/
def targetCount (p : Part) (kind : Nat) : Nat :=
  match kind, p with
  | 0, _ => 1
  | 1, .sw => 288
  | 1, .ep => 8
  | 2, .sw => 18
  | 3, .sw => 90
  | 3, .ep => 3
  | 4, .sw => 9
  | 5, .sw => 64
  | 6, .sw => 2
  | 7, _ => 16
  | 8, .ep => 8
  | 9, .ep => 4
  | 10, _ => 2
  | _, _ => 0

/-- The LENGTH that an opcode's payload has, in words (Table 17.6, R688); `none` where only the sender knows it. -/
def lengthFor (op : Nat) (b : List Byte) : Option Nat :=
  match op with
  | 0x0001 => some 0
  | 0x0002 => some 2
  | 0x0003 => some 2
  | 0x0101 => some (2 + 3 * pn b 2 2)
  | 0x0102 => some 1
  | 0x0103 => some 3
  | 0x0104 => some 1
  | 0x0105 => some 0
  | 0x0201 => some 0
  | 0x0202 => some 1
  | 0x0301 => some 11
  | 0x0302 => some 4
  | 0x0303 => some 2
  | 0x0310 => some 1
  | 0x0320 => some 0
  | 0x0321 => some 1
  | 0x0401 => some 1
  | 0x0402 => some 1
  | 0x0403 => some 2
  | 0x0404 => some 0
  | 0x0501 => some 2
  | 0x0502 => some 2
  | 0x0602 => some 1
  | 0x0701 => some 16
  | 0x0801 => some 2
  | 0x0802 => some (2 + pn b 4 2 / 4)
  | 0x0803 => some 12
  | 0x0804 => some 4
  | 0x0901 => some (2 + (pn b 4 2 + 3) / 4)
  | 0x0902 => some 0
  | 0x0903 => some 24
  | 0x0904 => some (13 + 12 * pb b 0)
  | 0x0905 => some 8
  | _ => none

/-- Length rules of the opcodes whose payload varies freely. -/
def varLengthOk (op words : Nat) : Bool :=
  match op with
  | 0x0004 => decide (words ≤ 64)
  | 0x0005 => decide (5 ≤ words) && decide (words ≤ 65)
  | 0x0601 => decide (2 ≤ words)
  | _ => true

/-- Fields of a payload with a bound: offset, bytes, highest value (Table 17.6). A reserved field has the highest value zero. -/
def fieldsOf (op : Nat) : List (Nat × Nat × Nat) :=
  match op with
  | 0x0002 => [(6, 2, 0)]
  | 0x0005 => [(0, 1, 7), (1, 1, 1), (3, 1, 0)]
  | 0x0101 => [(0, 1, 7), (1, 1, 0), (4, 4, 0)]
  | 0x0102 => [(0, 1, 7), (1, 3, 0)]
  | 0x0103 => [(0, 1, 7), (1, 3, 0)]
  | 0x0104 => [(0, 1, 7), (1, 3, 0)]
  | 0x0202 => [(0, 1, 1), (1, 3, 0)]
  | 0x0302 => [(1, 1, 0), (2, 2, 255)]
  | 0x0303 => [(4, 1, 1), (5, 3, 0)]
  | 0x0310 => [(0, 1, 3), (1, 1, 33), (2, 2, 0)]
  | 0x0321 => [(2, 1, 1), (3, 1, 0)]
  | 0x0401 => [(0, 2, 0)]
  | 0x0402 => [(0, 1, 1), (1, 3, 0)]
  | 0x0501 => [(0, 2, 0xFFF), (2, 2, 0x3FF)]
  | 0x0502 => [(0, 2, 0xFFF), (2, 2, 0x3FF)]
  | 0x0601 => [(0, 1, 63), (1, 1, 15), (2, 1, 1), (3, 1, 0)]
  | 0x0602 => [(0, 1, 63), (1, 3, 0)]
  | 0x0801 => [(5, 1, 127), (6, 2, 0)]
  | 0x0802 => [(6, 2, 0)]
  | 0x0901 => [(6, 2, 0)]
  | 0x0904 => [(0, 1, 4), (1, 3, 0)]
  | _ => []

/-- Fields whose range is no plain bound (R708, Table 17.6, R699): the offset of a bad one in the payload. -/
def oddField (op : Nat) (z : ZPacket) : Option Nat :=
  let b := z.payload
  match op with
  | 0x0002 =>
    let top := if z.transport = .guyA ∨ z.transport = .guyB then 256 else 56
    if pn b 0 4 % 4 ≠ 0 then some 0 else if pn b 4 2 = 0 ∨ top < pn b 4 2 then some 4 else none
  | 0x0003 => if pn b 0 4 % 4 ≠ 0 then some 0 else none
  | 0x0310 => if (pb b 0, z.kind) = (1, 5) ∨ (pb b 0, z.kind) = (2, 4) ∨ (pb b 0, z.kind) = (3, 1) then none else some 0
  | 0x0802 => if pn b 0 4 % 256 ≠ 0 then some 0 else if pn b 4 2 < 4 ∨ 1024 < pn b 4 2 ∨ pn b 4 2 % 4 ≠ 0 then some 4 else none
  | 0x0901 => if (b.drop (8 + pn b 4 2)).any (· != 0) then some (8 + pn b 4 2) else none
  | _ => none

/-- The lower of two optional offsets. -/
def firstBad : Option Nat → Option Nat → Option Nat
  | some a, some b => some (min a b)
  | some a, none => some a
  | none, b => b

/-- Byte offset in the packet of the first bad field (check 8 of R672). -/
def malformedAt (op : Nat) (role : ZRole) (z : ZPacket) : Option Nat :=
  if z.rsvdFlags ≠ 0 ∨ (role = .notice ∧ !z.noReply) then some 3
  else
    let f := (fieldsOf op).find? (fun f => decide (f.2.2 < pn z.payload f.1 f.2.1))
    (firstBad (f.map (·.1)) (oddField op z)).map (· + 16)

/-- How a reply to a packet goes back. -/
def ZPacket.ret (z : ZPacket) : ZReturn := { transport := z.transport, srcNode := z.srcNode, plane := z.plane, session := z.session, mute := z.noReply }

/-- The packet came on a guy line. -/
def ZPacket.onGuy (z : ZPacket) : Bool := z.transport == .guyA || z.transport == .guyB

/-- The longest packet that a transport carries (R673, R678). -/
def ZPacket.limit (z : ZPacket) : Nat :=
  if z.session.isSome then (if z.onGuy then 1424 else 208) else if z.onGuy then 1472 else 256

/-- The role of the session that a packet is enclosed in, once established (R679). -/
def Common.sessionOf (c : Common) (z : ZPacket) : Option SessionRole :=
  match z.session with
  | some k => match Tab.find c.sec.sessions k with | some s => if s.established then some s.role else none | none => none
  | none => none

/-- Neither firmware slot has passed secure boot, and the part stays in bivouac (R648). -/
def Common.failedBoot (c : Common) : Bool := c.biv.st == .bivouac && !c.sec.bootOk

/-- The sender may use an opcode of a role (R679). A part that has failed its boot runs no session layer: the staging commands that R648 lets it serve then need a guy line only. -/
def Common.roleOk (c : Common) (r : ZRole) (z : ZPacket) : Bool :=
  match r with
  | .openRole => true
  | .notice => true
  | .rack => z.onGuy && z.session.isNone
  | .session => match c.sessionOf z with | some .measure => false | some _ => true | none => false
  | .tenant => match c.sessionOf z with | some (.tenant _) => true | some .manager => true | _ => false
  | .manager => c.sessionOf z == some .manager || (c.failedBoot && z.onGuy)

/-- The first check of R672 that a command of an opcode fails: status and detail. -/
def Common.zCheck (c : Common) (op : Nat) (z : ZPacket) : Option (Nat × Nat) :=
  let want := (opRow c.part op).bind (fun _ => lengthFor op z.payload)
  if z.version ≠ 1 then some (0x11, 1)
  else if z.size ≠ 16 + 4 * z.length ∨ z.limit < z.size ∨ z.payload.length ≠ 4 * z.length then some (0x14, want.getD 0)
  else
    match opRow c.part op with
    | none => some (0x12, 0)
    | some r =>
      if (match want with | some w => w != z.length | none => !varLengthOk op z.length) then some (0x14, want.getD 0)
      else if !(if z.onGuy then r.guy else if z.transport = .i3c then r.i3c else r.inband) then some (0x17, 0)
      else if z.session.isSome ∧ (c.sessionOf z).isNone then some (0x904, 0)
      else if !c.roleOk r.role z then some (0x15, r.role.code)
      else if !r.kinds.contains z.kind ∨ targetCount c.part z.kind ≤ z.index then some (0x13, 0)
      else (malformedAt op r.role z).map (fun k => (0x10, k))

/-- The read-only subset of I3C (R684): served in every power state and during a firmware restart. -/
def readOnlyOp (op : Nat) : Bool := op == 1 || op == 2 || op == 4

/-- The state of the part answers a command BUSY: firmware restart, bivouac, 16 commands in execution (R589, R620, R648, R680, R682). -/
def Common.zBusyFor (c : Common) (op : Nat) : Option Nat :=
  let asleep := c.biv.st != .awake
  let served := readOnlyOp op || (if c.failedBoot then decide (0x0801 ≤ op) && decide (op ≤ 0x0803) else op == 0x0401 || op == 0x0402 || op == 0x0404)
  if c.fw.restart ∧ !readOnlyOp op then some 0x10
  else if asleep ∧ !served then some 0x13
  else if 16 ≤ c.mgmt.executing.length then some 0x17
  else none

/-- Answer a command: its reply leaves, and is kept with its tag (R671, R681). -/
def Common.zAnswer (c : Common) (op : Nat) (z : ZPacket) (status detail : Nat) (data : List Byte) : Common :=
  let r : ZReply := { ret := z.ret, op := op, tag := z.tag, kind := z.kind, index := z.index, status := status, detail := detail, data := data }
  (c.sendReply r).keepReply r

/-- A command goes into execution: its reply comes later (R680). -/
def Common.zHold (c : Common) (op : Nat) (z : ZPacket) (inner : Nat) (coll : Option (Nat × Nat × Nat)) : Common :=
  c.modMgmt (fun m => { m with executing := m.executing ++ [({ op := op, tag := z.tag, kind := z.kind, index := z.index, ret := z.ret, inner := inner, coll := coll } : ZExec)] })

/-- A packet is dropped unanswered and counted in `GUY_REJECT`. -/
def Common.zReject (c : Common) : Common := c.bump (resA c.part 0x024)

/-- A duplicate by its tag (R581): the kept reply goes back on the duplicate's transport, or the duplicate waits with the command. What was answered inside a session is answered inside it again (R678). -/
def Common.zDup (c : Common) (z : ZPacket) : Option Common :=
  match c.mgmt.kept.find? (fun k => k.tag == z.tag) with
  | some k => some ((c.bump (resA c.part 0x010)).sendReply { k.reply with ret := { z.ret with session := k.reply.ret.session } })
  | none =>
    if c.mgmt.executing.any (fun e => e.tag == z.tag) then
      some ((c.bump (resA c.part 0x010)).modMgmt (fun m => { m with executing := m.executing.map (fun e => if e.tag = z.tag then { e with dups := e.dups ++ [{ z.ret with session := e.ret.session }] } else e) }))
    else none

/-- The part is held in reset, or has no power. -/
def Common.held (c : Common) : Bool := c.biv.inReset || c.biv.dead

/-- The guy line that a packet came by is up, or it came another way. -/
def Common.lineUp (c : Common) (z : ZPacket) : Bool :=
  match z.transport with
  | .guyA => c.mgmt.lineA
  | .guyB => c.mgmt.lineB
  | _ => true

/-- A private write on I3C discards a reply that has not been read (R676). -/
def Common.i3cClear (c : Common) (z : ZPacket) : Common := if z.transport = .i3c then c.modMgmt (fun m => { m with i3cReply := none }) else c

/-- What becomes of a packet before its opcode acts: the part after the checks, and whether the command executes (R671, R672, R680 to R682). -/
def Common.gate (c0 : Common) (op : Nat) (z : ZPacket) : Common × Bool :=
  let c := c0.i3cClear z
  if c.held ∨ !c.lineUp z then (c, false)
  else if z.size < 16 ∨ z.replyFlag then (c.zReject, false)
  else
    match (if z.noReply then none else c.zDup z) with
    | some d => (d, false)
    | none =>
      match c.zCheck op z with
      | some f => (if z.noReply then c.zReject else c.zAnswer op z f.1 f.2 [], false)
      | none =>
        match c.zBusyFor op with
        | some d => (if z.noReply then c else c.zAnswer op z zBusy d [], false)
        | none => (c.bump (resA c.part 0x020), true)

/-- Answer OK. -/
def Common.zOk (c : Common) (op : Nat) (z : ZPacket) (data : List Byte) : Common := c.zAnswer op z 0 0 data

/-- Answer OK with NO_CHANGE (R582). -/
def Common.zSame (c : Common) (op : Nat) (z : ZPacket) (data : List Byte) : Common := c.zAnswer op z 0 1 data

end Sys2Proof.Machine
end

