-- ==== Sys2Proof/Machine/SwAfter.lean ====
section
/-!
DEFINITION. What follows when a port of the switch leaves service (R123, R298, R380), and how a command acts on the switch alone.
-/

namespace Sys2Proof.Machine

/-- A port of the switch has left service: packets toward it are disposed of (R123), its combiner lets go (R298), and the collectives of the nodes behind it fail (R380). -/
def SwState.portLost (s : SwState) (n : Nat) : SwState :=
  let s1 := (s.purge n).combDiscard n
  each ((List.range 256).filter (fun i => s1.c.aliasOf i == some n)) s1 (fun s i => s.memberFault i)

/-- Ports in service before a command and not after it. -/
def lostPorts (a b : Common) : List Nat := (a.ports.map (·.1)).filter (fun n => (a.port n).inService && !(b.port n).inService)

/-- What the ports lost by a command bring with them. -/
def SwState.afterPorts (s : SwState) (before : Common) : SwState := each (lostPorts before s.c) s (fun s n => s.portLost n)

/-- In-band replies leave toward the node that sent the command (R675). -/
def SwState.flushReplies (s : SwState) : SwState :=
  each s.c.mgmt.outbox (s.mod (fun c => c.modMgmt (fun m => { m with outbox := [] })))
    (fun s r => s.toNode r.ret.srcNode (r.packet 0 (((s.c.aliasOf r.ret.srcNode).map (fun o => s.c.portPitch o)).getD 0) false))

/-- The switch after a command that began in `before`. -/
def SwState.finish (s before : SwState) : SwState := (s.afterPorts before.c).flushReplies

/-- A command that acts on the switch alone. A switch held in reset or without power does nothing (R745, R748). -/
def onSw (s : State) (f : SwState → SwState) : Host.Outcome State Fault Refusal :=
  if s.sw.c.held then .next s else .next { s with sw := (f s.sw).finish s.sw }

/-- A command that names a unit: a fault where the switch has no such unit. -/
def onSwIf (ok : Bool) (s : State) (f : SwState → SwState) : Host.Outcome State Fault Refusal := if ok then onSw s f else .fault .noUnit

end Sys2Proof.Machine
end

