-- ==== Sys2Proof/Machine/Bartas.lean ====
section
/-!
DEFINITION. The meaning of each Bartas instruction as a command (Table 10.5): the context issues it when it is ready and the word at its program counter is this one (R400); otherwise nothing happens.
-/

namespace Sys2Proof.Machine

/-- A core and a context that the switch has. -/
def barUnit (core ctx : Nat) : Bool := decide (core < 64) && decide (ctx < 16)

/-- `ADD` (R408). -/
def execBarAdd (core ctx rd ra rb : Nat) (s : State) : Host.Outcome State Fault Refusal :=
  onSwIf (barUnit core ctx) s (fun s => s.issue core ctx (wordA 0x00 rd ra rb 0x000) (fun b => b.alu rd (b.reg ra + b.reg rb)))

/-- `SUB` (R408). -/
def execBarSub (core ctx rd ra rb : Nat) (s : State) : Host.Outcome State Fault Refusal :=
  onSwIf (barUnit core ctx) s (fun s => s.issue core ctx (wordA 0x00 rd ra rb 0x001) (fun b => b.alu rd (b.reg ra - b.reg rb)))

/-- `AND` (R408). -/
def execBarAnd (core ctx rd ra rb : Nat) (s : State) : Host.Outcome State Fault Refusal :=
  onSwIf (barUnit core ctx) s (fun s => s.issue core ctx (wordA 0x00 rd ra rb 0x002) (fun b => b.alu rd (b.reg ra &&& b.reg rb)))

/-- `OR` (R408). -/
def execBarOr (core ctx rd ra rb : Nat) (s : State) : Host.Outcome State Fault Refusal :=
  onSwIf (barUnit core ctx) s (fun s => s.issue core ctx (wordA 0x00 rd ra rb 0x003) (fun b => b.alu rd (b.reg ra ||| b.reg rb)))

/-- `XOR` (R408). -/
def execBarXor (core ctx rd ra rb : Nat) (s : State) : Host.Outcome State Fault Refusal :=
  onSwIf (barUnit core ctx) s (fun s => s.issue core ctx (wordA 0x00 rd ra rb 0x004) (fun b => b.alu rd (b.reg ra ^^^ b.reg rb)))

/-- `SLL`: shifts use RB [5:0] (R408). -/
def execBarSll (core ctx rd ra rb : Nat) (s : State) : Host.Outcome State Fault Refusal :=
  onSwIf (barUnit core ctx) s (fun s => s.issue core ctx (wordA 0x00 rd ra rb 0x005) (fun b => b.alu rd (b.reg ra <<< ((b.reg rb).toNat % 64))))

/-- `SRL` (R408). -/
def execBarSrl (core ctx rd ra rb : Nat) (s : State) : Host.Outcome State Fault Refusal :=
  onSwIf (barUnit core ctx) s (fun s => s.issue core ctx (wordA 0x00 rd ra rb 0x006) (fun b => b.alu rd (b.reg ra >>> ((b.reg rb).toNat % 64))))

/-- `SRA` (R408). -/
def execBarSra (core ctx rd ra rb : Nat) (s : State) : Host.Outcome State Fault Refusal :=
  onSwIf (barUnit core ctx) s (fun s => s.issue core ctx (wordA 0x00 rd ra rb 0x007) (fun b => b.alu rd ((b.reg ra).sshiftRight ((b.reg rb).toNat % 64))))

/-- `MUL`: the low 64 bits (R408). -/
def execBarMul (core ctx rd ra rb : Nat) (s : State) : Host.Outcome State Fault Refusal :=
  onSwIf (barUnit core ctx) s (fun s => s.issue core ctx (wordA 0x00 rd ra rb 0x008) (fun b => b.alu rd (b.reg ra * b.reg rb)))

/-- `MULHU`: the high 64 bits of the unsigned product (R408). -/
def execBarMulhu (core ctx rd ra rb : Nat) (s : State) : Host.Outcome State Fault Refusal :=
  onSwIf (barUnit core ctx) s (fun s => s.issue core ctx (wordA 0x00 rd ra rb 0x009) (fun b => b.alu rd (BitVec.ofNat 64 ((b.reg ra).toNat * (b.reg rb).toNat / 2 ^ 64))))

/-- `DIVU`: by zero, all ones (R408). -/
def execBarDivu (core ctx rd ra rb : Nat) (s : State) : Host.Outcome State Fault Refusal :=
  onSwIf (barUnit core ctx) s (fun s => s.issue core ctx (wordA 0x00 rd ra rb 0x00A) (fun b => b.alu rd (if b.reg rb = 0 then BitVec.allOnes 64 else b.reg ra / b.reg rb)))

/-- `REMU`: by zero, RA (R408). -/
def execBarRemu (core ctx rd ra rb : Nat) (s : State) : Host.Outcome State Fault Refusal :=
  onSwIf (barUnit core ctx) s (fun s => s.issue core ctx (wordA 0x00 rd ra rb 0x00B) (fun b => b.alu rd (if b.reg rb = 0 then b.reg ra else b.reg ra % b.reg rb)))

/-- `SLT`, signed (R408). -/
def execBarSlt (core ctx rd ra rb : Nat) (s : State) : Host.Outcome State Fault Refusal :=
  onSwIf (barUnit core ctx) s (fun s => s.issue core ctx (wordA 0x00 rd ra rb 0x00C) (fun b => b.alu rd (if (b.reg ra).slt (b.reg rb) then 1 else 0)))

/-- `SLTU` (R408). -/
def execBarSltu (core ctx rd ra rb : Nat) (s : State) : Host.Outcome State Fault Refusal :=
  onSwIf (barUnit core ctx) s (fun s => s.issue core ctx (wordA 0x00 rd ra rb 0x00D) (fun b => b.alu rd (if (b.reg ra).ult (b.reg rb) then 1 else 0)))

/-- `MIN`, signed (R408). -/
def execBarMin (core ctx rd ra rb : Nat) (s : State) : Host.Outcome State Fault Refusal :=
  onSwIf (barUnit core ctx) s (fun s => s.issue core ctx (wordA 0x00 rd ra rb 0x00E) (fun b => b.alu rd (if (b.reg ra).slt (b.reg rb) then b.reg ra else b.reg rb)))

/-- `MAX`, signed (R408). -/
def execBarMax (core ctx rd ra rb : Nat) (s : State) : Host.Outcome State Fault Refusal :=
  onSwIf (barUnit core ctx) s (fun s => s.issue core ctx (wordA 0x00 rd ra rb 0x00F) (fun b => b.alu rd (if (b.reg ra).slt (b.reg rb) then b.reg rb else b.reg ra)))

/-- `ADDI`: sign-extended immediate (R408). -/
def execBarAddi (core ctx rd ra imm : Nat) (s : State) : Host.Outcome State Fault Refusal :=
  onSwIf (barUnit core ctx) s (fun s => s.issue core ctx (wordI 0x01 rd ra imm) (fun b => b.alu rd (b.reg ra + BitVec.ofInt 64 (imm16 imm))))

/-- `ANDI`: zero-extended immediate (R408). -/
def execBarAndi (core ctx rd ra imm : Nat) (s : State) : Host.Outcome State Fault Refusal :=
  onSwIf (barUnit core ctx) s (fun s => s.issue core ctx (wordI 0x02 rd ra imm) (fun b => b.alu rd (b.reg ra &&& BitVec.ofNat 64 (imm % 65536))))

/-- `ORI`: zero-extended immediate (R408). -/
def execBarOri (core ctx rd ra imm : Nat) (s : State) : Host.Outcome State Fault Refusal :=
  onSwIf (barUnit core ctx) s (fun s => s.issue core ctx (wordI 0x03 rd ra imm) (fun b => b.alu rd (b.reg ra ||| BitVec.ofNat 64 (imm % 65536))))

/-- `XORI`: zero-extended immediate (R408). -/
def execBarXori (core ctx rd ra imm : Nat) (s : State) : Host.Outcome State Fault Refusal :=
  onSwIf (barUnit core ctx) s (fun s => s.issue core ctx (wordI 0x04 rd ra imm) (fun b => b.alu rd (b.reg ra ^^^ BitVec.ofNat 64 (imm % 65536))))

/-- `LUI`: sext(IMM × 2^16) (R408). -/
def execBarLui (core ctx rd ra imm : Nat) (s : State) : Host.Outcome State Fault Refusal :=
  onSwIf (barUnit core ctx) s (fun s => s.issue core ctx (wordI 0x05 rd ra imm) (fun b => b.alu rd (BitVec.ofInt 64 (imm16 imm * 65536))))

/-- `SLLI` by IMM [5:0] (R408). -/
def execBarSlli (core ctx rd ra imm : Nat) (s : State) : Host.Outcome State Fault Refusal :=
  onSwIf (barUnit core ctx) s (fun s => s.issue core ctx (wordI 0x06 rd ra imm) (fun b => b.alu rd (b.reg ra <<< (imm % 64))))

/-- `SRLI` by IMM [5:0] (R408). -/
def execBarSrli (core ctx rd ra imm : Nat) (s : State) : Host.Outcome State Fault Refusal :=
  onSwIf (barUnit core ctx) s (fun s => s.issue core ctx (wordI 0x07 rd ra imm) (fun b => b.alu rd (b.reg ra >>> (imm % 64))))

/-- `BEQ`: compares RD with RA (R408, R415). -/
def execBarBeq (core ctx rd ra imm : Nat) (s : State) : Host.Outcome State Fault Refusal :=
  onSwIf (barUnit core ctx) s (fun s => s.issue core ctx (wordI 0x08 rd ra imm) (fun b => b.branch (b.reg rd == b.reg ra) imm))

/-- `BNE`: compares RD with RA (R408, R415). -/
def execBarBne (core ctx rd ra imm : Nat) (s : State) : Host.Outcome State Fault Refusal :=
  onSwIf (barUnit core ctx) s (fun s => s.issue core ctx (wordI 0x09 rd ra imm) (fun b => b.branch (b.reg rd != b.reg ra) imm))

/-- `BLT`: compares RD with RA (R408, R415). -/
def execBarBlt (core ctx rd ra imm : Nat) (s : State) : Host.Outcome State Fault Refusal :=
  onSwIf (barUnit core ctx) s (fun s => s.issue core ctx (wordI 0x0A rd ra imm) (fun b => b.branch ((b.reg rd).slt (b.reg ra)) imm))

/-- `BGE`: compares RD with RA (R408, R415). -/
def execBarBge (core ctx rd ra imm : Nat) (s : State) : Host.Outcome State Fault Refusal :=
  onSwIf (barUnit core ctx) s (fun s => s.issue core ctx (wordI 0x0B rd ra imm) (fun b => b.branch (!(b.reg rd).slt (b.reg ra)) imm))

/-- `BLTU`: compares RD with RA (R408, R415). -/
def execBarBltu (core ctx rd ra imm : Nat) (s : State) : Host.Outcome State Fault Refusal :=
  onSwIf (barUnit core ctx) s (fun s => s.issue core ctx (wordI 0x0C rd ra imm) (fun b => b.branch ((b.reg rd).ult (b.reg ra)) imm))

/-- `BGEU`: compares RD with RA (R408, R415). -/
def execBarBgeu (core ctx rd ra imm : Nat) (s : State) : Host.Outcome State Fault Refusal :=
  onSwIf (barUnit core ctx) s (fun s => s.issue core ctx (wordI 0x0D rd ra imm) (fun b => b.branch (!(b.reg rd).ult (b.reg ra)) imm))

/-- `JAL`: x31 = PC + 1 (R408, R415). -/
def execBarJal (core ctx off : Nat) (s : State) : Host.Outcome State Fault Refusal :=
  onSwIf (barUnit core ctx) s (fun s => s.issue core ctx (wordJ 0x0E off) (fun b => (b.set 31 (BitVec.ofNat 64 (b.x.pc + 1))).jump ((b.x.pc : Int) + untwos 26 (off % 2 ^ 26))))

/-- `JR` (R408, R415). -/
def execBarJr (core ctx rd ra rb : Nat) (s : State) : Host.Outcome State Fault Refusal :=
  onSwIf (barUnit core ctx) s (fun s => s.issue core ctx (wordA 0x0F rd ra rb 0) (fun b => b.jump (b.reg ra).toNat))

/-- `LD` from local memory (R403, R408). -/
def execBarLd (core ctx rd ra imm : Nat) (s : State) : Host.Outcome State Fault Refusal :=
  onSwIf (barUnit core ctx) s (fun s => s.issue core ctx (wordI 0x10 rd ra imm) (fun b => b.load rd ra imm 8))

/-- `LW`, zero-extended (R403, R408). -/
def execBarLw (core ctx rd ra imm : Nat) (s : State) : Host.Outcome State Fault Refusal :=
  onSwIf (barUnit core ctx) s (fun s => s.issue core ctx (wordI 0x11 rd ra imm) (fun b => b.load rd ra imm 4))

/-- `ST` to local memory (R403, R408). -/
def execBarSt (core ctx rd ra imm : Nat) (s : State) : Host.Outcome State Fault Refusal :=
  onSwIf (barUnit core ctx) s (fun s => s.issue core ctx (wordI 0x12 rd ra imm) (fun b => b.save rd ra imm 8))

/-- `SW` (R403, R408). -/
def execBarSw (core ctx rd ra imm : Nat) (s : State) : Host.Outcome State Fault Refusal :=
  onSwIf (barUnit core ctx) s (fun s => s.issue core ctx (wordI 0x13 rd ra imm) (fun b => b.save rd ra imm 4))

/-- `DLD` from DRAM (R178, R406). -/
def execBarDld (core ctx rd ra imm : Nat) (s : State) : Host.Outcome State Fault Refusal :=
  onSwIf (barUnit core ctx) s (fun s => s.issue core ctx (wordI 0x14 rd ra imm) (fun b => b.dld rd ra imm))

/-- `DST` to DRAM (R177, R406). -/
def execBarDst (core ctx rd ra imm : Nat) (s : State) : Host.Outcome State Fault Refusal :=
  onSwIf (barUnit core ctx) s (fun s => s.issue core ctx (wordI 0x15 rd ra imm) (fun b => b.dst rd ra imm))

/-- `FLUSH` over [RA, RA + RB) (R177). -/
def execBarFlush (core ctx rd ra rb : Nat) (s : State) : Host.Outcome State Fault Refusal :=
  onSwIf (barUnit core ctx) s (fun s => s.issue core ctx (wordA 0x16 rd ra rb 0) (fun b => b.flush ra rb))

/-- `CPY` of RN bytes by MODE (R180, R408). -/
def execBarCpy (core ctx rd ra rb rn mode : Nat) (s : State) : Host.Outcome State Fault Refusal :=
  onSwIf (barUnit core ctx) s (fun s => s.issue core ctx (wordV 0x18 rd ra rb rn mode) (fun b => b.cpy rd ra rn mode))

/-- `CWAIT`: copies have completed when they issue, so it returns at once (R410). -/
def execBarCwait (core ctx rd ra rb : Nat) (s : State) : Host.Outcome State Fault Refusal :=
  onSwIf (barUnit core ctx) s (fun s => s.issue core ctx (wordA 0x19 rd ra rb 0) (fun b => b.next))

/-- `VCVT` (R408, R441, R445). -/
def execBarVcvt (core ctx rd ra rb rn mode fails : Nat) (s : State) : Host.Outcome State Fault Refusal :=
  onSwIf (barUnit core ctx) s (fun s => s.issue core ctx (wordV 0x20 rd ra rb rn mode) (fun b => b.checked fails (fun b => b.vcvt rd ra rn)))

/-- `VACC` (R408, R441, R446). -/
def execBarVacc (core ctx rd ra rb rn mode fails : Nat) (s : State) : Host.Outcome State Fault Refusal :=
  onSwIf (barUnit core ctx) s (fun s => s.issue core ctx (wordV 0x21 rd ra rb rn mode) (fun b => b.checked fails (fun b => b.vacc rd ra rb rn mode)))

/-- `VFIN` (R408, R409, R449). -/
def execBarVfin (core ctx rd ra rb rn mode fails : Nat) (s : State) : Host.Outcome State Fault Refusal :=
  onSwIf (barUnit core ctx) s (fun s => s.issue core ctx (wordV 0x22 rd ra rb rn mode) (fun b => b.checked fails (fun b => b.vfin rd ra rb rn)))

/-- `VQNT` (R408, R409). -/
def execBarVqnt (core ctx rd ra rb rn mode fails : Nat) (s : State) : Host.Outcome State Fault Refusal :=
  onSwIf (barUnit core ctx) s (fun s => s.issue core ctx (wordV 0x23 rd ra rb rn mode) (fun b => b.checked fails (fun b => b.vqnt rd ra rb rn)))

/-- `VMRG` (R459). -/
def execBarVmrg (core ctx rd ra rb rn mode : Nat) (s : State) : Host.Outcome State Fault Refusal :=
  onSwIf (barUnit core ctx) s (fun s => s.issue core ctx (wordV 0x24 rd ra rb rn mode) (fun b => b.vmrg rd ra rb rn))

/-- `VSPR` (R459). -/
def execBarVspr (core ctx rd ra rb rn mode fails : Nat) (s : State) : Host.Outcome State Fault Refusal :=
  onSwIf (barUnit core ctx) s (fun s => s.issue core ctx (wordV 0x25 rd ra rb rn mode) (fun b => b.checked fails (fun b => b.vspr rd ra rb)))

/-- `VMOV` of RN bytes (R408). -/
def execBarVmov (core ctx rd ra rb rn mode : Nat) (s : State) : Host.Outcome State Fault Refusal :=
  onSwIf (barUnit core ctx) s (fun s => s.issue core ctx (wordV 0x26 rd ra rb rn mode) (fun b => b.vmov rd ra rn))

/-- `VWAIT`: vector instructions have completed when they issue, so it returns at once (R410). -/
def execBarVwait (core ctx rd ra rb : Nat) (s : State) : Host.Outcome State Fault Refusal :=
  onSwIf (barUnit core ctx) s (fun s => s.issue core ctx (wordA 0x27 rd ra rb 0) (fun b => b.next))

/-- `SWAIT` (R410, R415). -/
def execBarSwait (core ctx rd ra rb : Nat) (s : State) : Host.Outcome State Fault Refusal :=
  onSwIf (barUnit core ctx) s (fun s => s.issue core ctx (wordA 0x30 rd ra rb 0) (fun b => b.swait ra rb))

/-- `SALL` (R410, R415). -/
def execBarSall (core ctx rd ra rb : Nat) (s : State) : Host.Outcome State Fault Refusal :=
  onSwIf (barUnit core ctx) s (fun s => s.issue core ctx (wordA 0x31 rd ra rb 0) (fun b => b.sall rb))

/-- `SREL` (R411, R368). -/
def execBarSrel (core ctx rd ra rb : Nat) (s : State) : Host.Outcome State Fault Refusal :=
  onSwIf (barUnit core ctx) s (fun s => s.issue core ctx (wordA 0x32 rd ra rb 0) (fun b => b.srel ra rb))

/-- `SCNT` (R408). -/
def execBarScnt (core ctx rd ra rb : Nat) (s : State) : Host.Outcome State Fault Refusal :=
  onSwIf (barUnit core ctx) s (fun s => s.issue core ctx (wordA 0x33 rd ra rb 0) (fun b => b.scnt rd ra))

/-- `RCAST` (R413). -/
def execBarRcast (core ctx rd ra rb rn mode : Nat) (s : State) : Host.Outcome State Fault Refusal :=
  onSwIf (barUnit core ctx) s (fun s => s.issue core ctx (wordV 0x34 rd ra rb rn mode) (fun b => b.rcast ra rb rn))

/-- `RSEND` (R413). -/
def execBarRsend (core ctx rd ra rb rn mode : Nat) (s : State) : Host.Outcome State Fault Refusal :=
  onSwIf (barUnit core ctx) s (fun s => s.issue core ctx (wordV 0x35 rd ra rb rn mode) (fun b => b.rsend rd ra rb rn))

/-- `RWAIT` (R408, R410). -/
def execBarRwait (core ctx rd ra rb : Nat) (s : State) : Host.Outcome State Fault Refusal :=
  onSwIf (barUnit core ctx) s (fun s => s.issue core ctx (wordA 0x36 rd ra rb 0) (fun b => b.rwait))

/-- `PICK` (R408). -/
def execBarPick (core ctx rd ra rb : Nat) (s : State) : Host.Outcome State Fault Refusal :=
  onSwIf (barUnit core ctx) s (fun s => s.issue core ctx (wordA 0x3C rd ra rb 0) (fun b => b.alu rd (BitVec.ofNat 64 b.s.c.pick)))

/-- `ABRT` (R415). -/
def execBarAbrt (core ctx rd ra rb : Nat) (s : State) : Host.Outcome State Fault Refusal :=
  onSwIf (barUnit core ctx) s (fun s => s.issue core ctx (wordA 0x3E rd ra rb 0) (fun b => b.stop 2))

/-- `END` (R412). -/
def execBarEnd (core ctx rd ra rb : Nat) (s : State) : Host.Outcome State Fault Refusal :=
  onSwIf (barUnit core ctx) s (fun s => s.issue core ctx (wordA 0x3F rd ra rb 0) (fun b => b.end_))

/-- `CONTEXT_RESUME` (R410, R412). -/
def execContextResume (core ctx : Nat) (s : State) : Host.Outcome State Fault Refusal :=
  onSwIf (barUnit core ctx) s (fun s => s.ctxResume core ctx)

/-- `WATCHDOG_FIRE` (R415, R416). -/
def execWatchdogFire (core ctx : Nat) (s : State) : Host.Outcome State Fault Refusal :=
  onSwIf (barUnit core ctx) s (fun s => s.watchdog core ctx)

end Sys2Proof.Machine
end

