-- ==== Sys2Proof/Machine/EpLha.lean ====
section
/-!
DEFINITION. The host attachment (spec/06): legality of messages (R233, R235, R239), accesses into accelerator memory and their steering (R245), answers, notices (R250, R251), credits (R237).
-/

namespace Sys2Proof.Machine

/-- Change what both parts hold. -/
def EpState.mod (s : EpState) (f : Common → Common) : EpState := { s with c := f s.c }

/-- Change the host attachment. -/
def EpState.modLha (s : EpState) (f : Lha → Lha) : EpState := { s with lha := f s.lha }

/-- A register of the end-point in force in this pick. -/
def EpState.rdF (s : EpState) (a : Nat) : Reg := s.c.rdForce a

/-- The end-point's own node and pitch (Table 13.18, R42). -/
def EpState.node (s : EpState) : Nat := s.c.rf' 0xC8000 7 0
/-- `EP_PITCH.ID` in force. -/
def EpState.pitch (s : EpState) : Nat := fld (s.rdF 0xF0000) 3 0
/-- The end-point's own domain. -/
def EpState.domain (s : EpState) : Nat := s.c.rf' 0xC8000 27 16

/-- LEN of 4, 8, 12 or 16 cells. -/
def lhaLen (n : Nat) : Bool := n == 4 || n == 8 || n == 12 || n == 16

/-- The mask cell and the line of a five-cell masked store (Table 6.3). -/
def lhaMask (d : List Byte) : Nat := beNat ((d.drop 64).take 8)

/-- Cell i of data bytes. -/
def cellOf (d : List Byte) (i : Nat) : Nat := beNat ((d.drop (16 * i)).take 16)

/-- Legality of the ADDR of an AREQ (Table 6.3, R235). -/
def areqAddrOk (m : LhaMsg) : Bool :=
  let w := atypeWidth (atypeOf (cellOf m.data 0))
  match m.mop with
  | 1 => m.addr % 64 == 0 && decide (m.addr % 4096 + 16 * m.len ≤ 4096)
  | 2 => m.addr % 64 == 0 && decide (m.addr % 4096 + 16 * m.len ≤ 4096)
  | 3 => m.addr % 64 == 0
  | 4 => w == 0 || m.addr % w == 0
  | 5 => decide (m.addr < 2 ^ 16) && bits m.addr 7 2 == 0
  | 6 => m.addr == 0
  | 7 => decide (m.addr < 2 ^ 32) && m.addr % 4 == 0
  | 8 => decide (m.addr < 2 ^ 32) && m.addr % 4 == 0
  | _ => true

/-- Position of the first bad field of an AREQ (R233, R761): header bits, or 0xFE in a data cell. -/
def areqBad (m : LhaMsg) : Option Nat :=
  let many := decide (1 < b2n m.acquire + b2n m.release + b2n m.relaxed)
  if m.lver ≠ 1 then some 127
  else if m.chan ≠ 0 then some 123
  else if m.mop = 0 ∨ 8 < m.mop then some 120
  else if m.acquire && (many || !(m.mop == 1 || m.mop == 4)) then some 98
  else if m.release && (many || !(m.mop == 2 || m.mop == 3 || m.mop == 4)) then some 97
  else if m.relaxed && (many || !(decide (m.mop ≤ 4))) then some 96
  else if m.flagNode && (m.flagAll || m.mop != 3) then some 95
  else if m.flagAll && m.mop != 3 then some 94
  else if m.rsvdHi ≠ 0 then some 93
  else if !(match m.mop with
      | 1 => lhaLen m.len
      | 2 => lhaLen m.len && m.data.length == 16 * m.len
      | 3 => m.len == 5 && m.data.length == 80
      | 4 => m.len == 4 && m.data.length == 64
      | 8 => m.len == 1 && m.data.length == 16
      | _ => m.len == 0) then some 75
  else if m.rsvdLo ≠ 0 then some 70
  else if !areqAddrOk m then some 63
  else if m.mop = 3 ∧ cellOf m.data 4 % 2 ^ 64 ≠ 0 then some 0xFE
  else if m.mop = 4 ∧ !atomCellsLegal (cellOf m.data 0) (cellOf m.data 1) (cellOf m.data 2) (cellOf m.data 3) then some 0xFE
  else if m.mop = 8 ∧ 2 ^ 32 ≤ cellOf m.data 0 then some 0xFE
  else none

/-- A message other than an AREQ keeps Tables 6.2 and 6.3: an ARSP with the length its opcode allows, or a CTRL message. -/
def lhaOther (m : LhaMsg) : Bool :=
  let ok := m.addr / 2 ^ 48 == 0
  m.lver == 1 && m.rsvdHi == 0 && m.rsvdLo == 0 && !m.acquire && !m.release && !m.relaxed && !m.flagNode && !m.flagAll && m.ctx == 0 && m.asid == 0 &&
  (match m.chan, m.mop with
   | 1, 0x31 => (if ok then lhaLen m.len else m.len == 0) && m.addr % 2 ^ 16 == 0
   | 1, 0x32 => m.len == 0 && m.addr % 2 ^ 16 == 0
   | 1, 0x33 => (if ok then m.len == 4 else m.len == 0) && m.addr % 2 ^ 16 == 0
   | 7, 0x71 => m.len == 0 && decide (m.addr < 2 ^ 60)
   | 7, 0x73 => m.len == 1 && m.addr == 0
   | 7, 0x74 => m.len == 0 && m.addr == 0
   | _, _ => false) && m.data.length == 16 * m.len

/-- The effective module of a context (R239). -/
def EpState.effective (s : EpState) (ctx : Nat) : Option Nat :=
  let m := s.c.rf' (0x81000 + 4 * ctx) 3 2
  [m, m + 1, m + 2, m + 3].findSome? (fun k => if s.lha.attached.contains (k % 4) then some (k % 4) else none)

/-- The checks of R239, as the ADDRESS_FAULT detail of R240, each bit by its own condition: 0 for a message accepted. -/
def EpState.areqRefusal (s : EpState) (m : LhaMsg) : Nat :=
  let r := s.c.rd (0x81000 + 4 * m.ctx)
  (if !flag r 0 || fld r 9 4 != m.asid then 4 else 0) + (if s.effective m.ctx != some m.module then 2 else 0) + (if (m.mop = 7 ∨ m.mop = 8) ∧ !flag r 1 then 8 else 0)

/-- Queue an answer on ERSP (R234). -/
def EpState.ersp (s : EpState) (m : LhaMsg) (status detail : Nat) (data : List Byte) : EpState :=
  s.modLha (fun l => { l with ersp := l.ersp ++
    [{ module := m.module, chan := 3, mop := (m.mop + 0x10) % 256, ctx := m.ctx, tag := m.tag, len := data.length / 16,
       addr := status % 2 ^ 16 * 2 ^ 48 + detail % 2 ^ 32 * 2 ^ 16, data := data }] })

/-- The module that an answer leaves on: that of its request, or the context's effective module while that one is not attached (R256). -/
def EpState.erspModule (s : EpState) (m : LhaMsg) : Option Nat :=
  if s.lha.attached.contains m.module then some m.module else s.effective m.ctx

/-- Queue a notice if its source's route is enabled (R250). -/
def EpState.notice (s : EpState) (kind source a b : Nat) : EpState :=
  if flag (s.c.rd (0x84000 + 4 * source)) 0 then
    s.modLha (fun l => { l with notes := l.notes ++ [{ kind := kind, source := source, infoA := a % 2 ^ 32, infoB := b % 2 ^ 32, pick := s.c.pick % 2 ^ 32 }] })
  else s

/-- Exclusive-or of the 6-bit groups of a number, lowest first; `n` groups. -/
def xor6 (v : Nat) : Nat → Nat
  | 0 => 0
  | n + 1 => v % 64 ^^^ xor6 (v / 64) n

/-- The module that a physical address is steered to (R245). -/
def EpState.steer (s : EpState) (pa : Nat) : Option Nat :=
  let h := s.c.rf' 0x8000C 5 0 ^^^ xor6 (pa / 4096) 9
  s.lha.attached[h % s.lha.attached.length]?

/-- An access to accelerator memory is asked for; it leaves when credit and the pause of R256 let it. -/
def EpState.ereq (s : EpState) (purp : Purp) (mop addr len : Nat) (data : List Byte) : EpState :=
  s.modLha (fun l => { l with nextEreq := l.nextEreq + 1, ereqs := l.ereqs ++ [{ id := l.nextEreq, purp := purp, mop := mop, addr := addr % 2 ^ 64, len := len, data := data }] })

/-- `MRD`. -/
def EpState.mrd (s : EpState) (purp : Purp) (addr len : Nat) : EpState := s.ereq purp 0x21 addr len []
/-- `MWR`. -/
def EpState.mwr (s : EpState) (purp : Purp) (addr : Nat) (data : List Byte) : EpState := s.ereq purp 0x22 addr (data.length / 16) data
/-- `MWR_MASKED` of one line. -/
def EpState.mwrMasked (s : EpState) (purp : Purp) (addr : Nat) (line : List Byte) (mask : Nat) : EpState :=
  s.ereq purp 0x23 addr 5 (line ++ beBytes (mask % 2 ^ 64 * 2 ^ 64) 16)
/-- `MAT`. -/
def EpState.mat (s : EpState) (purp : Purp) (addr : Nat) (data : List Byte) : EpState := s.ereq purp 0x24 addr 4 data

/-- A line of zeros with bytes put in at an offset, and the mask that selects them. -/
def lineWith (off : Nat) (bs : List Byte) : List Byte × Nat :=
  (List.replicate off 0 ++ bs ++ List.replicate (64 - off - bs.length) 0, (2 ^ bs.length - 1) * 2 ^ off)

/-- Write bytes inside one line of accelerator memory. -/
def EpState.mwrBytes (s : EpState) (purp : Purp) (addr : Nat) (bs : List Byte) : EpState :=
  let l := lineWith (addr % 64) bs
  s.mwrMasked purp (addr / 64 * 64) l.1 l.2

/-- Data cells that an access sends. -/
def Ereq.cells (e : Ereq) : Nat := if e.mop = 0x21 then 0 else e.len

/-- Next free tag of a module after the last one given (R236). -/
def freeTag (used : List Nat) (t : Nat) : Nat → Nat
  | 0 => t % 65536
  | n + 1 => if used.contains (t % 65536) then freeTag used (t + 1) n else t % 65536

/-- Credits of a channel. -/
def Lha.credit (l : Lha) (k : Nat) : ChanCred := Tab.get l.cred {} k

/-- Take credits. -/
def Lha.spend (l : Lha) (k n : Nat) : Lha :=
  { l with cred := Tab.upd l.cred {} k (fun c => { hdr := c.hdr - 1, cells := c.cells - n }) }

/-- Send one waiting access on its module. -/
def EpState.sendEreq (s : EpState) (e : Ereq) (m : Nat) : EpState :=
  let used := (s.lha.ereqs.filter (fun x => x.sent && x.module == m)).map (·.tag)
  let t := freeTag used (Tab.get s.lha.nextTag 0 m) used.length
  s.modLha (fun l =>
    { (l.spend (3 * m) e.cells) with
      nextTag := Tab.put l.nextTag m (t + 1),
      ereqs := l.ereqs.map (fun x => if x.id = e.id then { x with module := m, tag := t, sent := true, sentPick := s.c.pick } else x),
      out := l.out ++ [{ module := m, chan := 2, mop := e.mop, tag := t, len := e.len, addr := e.addr, data := e.data }] })

/-- An access that a staked packet causes: one of a request that came on VC3, or of an engine whose requests are staked (R322, R334). -/
def EpState.stakedEreq (s : EpState) (e : Ereq) : Bool :=
  let home := fun (h : Nat) => s.home.reqs.any (fun r => r.id == h && r.pkt.vc == 3)
  match e.purp with
  | .home h _ => home h
  | .atomRead h => home h
  | .atomMat h => home h
  | .localWrite n _ => decide (n < 32) && flag (s.rdF 0x900A0) n
  | _ => false

/-- An access of a staked packet begins to wait for credit. -/
def EpState.beginWait (s : EpState) (e : Ereq) : EpState :=
  if e.since.isNone && s.stakedEreq e then s.modLha (fun l => { l with ereqs := l.ereqs.map (fun x => if x.id = e.id then { x with since := some s.c.now } else x) }) else s

/-- Its wait is over: `EP_SK_EREQ_WAIT` keeps the longest (Table 8.16). -/
def EpState.endWait (s : EpState) (e : Ereq) : EpState :=
  match e.since with
  | none => s
  | some t => s.mod (fun c => if (c.rd 0x900A4).toNat < c.now - t then c.wr 0x900A4 (BitVec.ofNat 32 (c.now - t)) else c)

/-- Send what may go on EREQ, in order on each module (R245, R246, R256). `stuck` lists modules where one waits. -/
def EpState.pumpEreq (s : EpState) : List Ereq → List Nat → EpState
  | [], _ => s
  | e :: r, stuck =>
    if e.sent then EpState.pumpEreq s r stuck
    else
      match s.steer e.addr with
      | none => s
      | some m =>
        let c := s.lha.credit (3 * m)
        if stuck.contains m ∨ c.hdr = 0 ∨ c.cells < e.cells then EpState.pumpEreq (s.beginWait e) r (m :: stuck)
        else EpState.pumpEreq ((s.endWait e).sendEreq e m) r stuck

/-- Send answers that have credit, in order on each module. -/
def EpState.pumpErsp (s : EpState) : List LhaMsg → List Nat → EpState
  | [], _ => s
  | m :: r, stuck =>
    match s.erspModule m with
    | none => EpState.pumpErsp s r stuck
    | some k =>
      let c := s.lha.credit (3 * k + 1)
      if stuck.contains k ∨ c.hdr = 0 ∨ c.cells < m.len then EpState.pumpErsp s r (k :: stuck)
      else
        EpState.pumpErsp (s.modLha (fun l => { (l.spend (3 * k + 1) m.len) with ersp := l.ersp.erase m, out := l.out ++ [{ m with module := k }] })) r stuck

/-- The cell of a notice (Table 6.8). -/
def Note.cell (n : Note) (vector : Nat) : List Byte :=
  beBytes (n.kind * 2 ^ 120 + vector * 2 ^ 112 + n.source * 2 ^ 96 + n.infoA * 2 ^ 64 + n.infoB * 2 ^ 32 + n.pick) 16

/-- Send waiting notices in event order while there is ENOTE credit (R250, R251). -/
def EpState.pumpNotes (s : EpState) : List Note → EpState
  | [] => s
  | n :: r =>
    match s.lha.attached with
    | [] => s
    | m :: _ =>
      let c := s.lha.credit (3 * m + 2)
      if c.hdr = 0 ∨ c.cells = 0 then s
      else
        let v := s.c.rf' (0x84000 + 4 * n.source) 15 8
        EpState.pumpNotes (s.modLha (fun l =>
          { (l.spend (3 * m + 2) 1) with
            notes := r, out := l.out ++ [{ module := m, chan := 4, mop := 0x41, len := 1, data := n.cell v }] })) r

/-- Let everything that waits for the host attachment go as far as it may. -/
def EpState.pump (s : EpState) : EpState :=
  let s1 := if s.lha.pauseEnd.isSome then s else s.pumpEreq s.lha.ereqs []
  let s2 := s1.pumpErsp s1.lha.ersp []
  let s3 := s2.pumpNotes s2.lha.notes
  s3.modLha (fun l => { l with noteWaited := l.noteWaited || !l.notes.isEmpty })

/-- A message has been taken: its header and cell credits are due back to the accelerator (R237). -/
def EpState.owe (s : EpState) (m : LhaMsg) : EpState :=
  let k := 2 * m.module + (if m.chan = 0 then 0 else 1)
  let n := m.data.length / 16
  s.modLha (fun l => { l with due := Tab.upd l.due {} k (fun c => { hdr := c.hdr + 1, cells := c.cells + n }) })

/-- Credits go back at a boundary, one `CREDIT` a module (R237; when they go is the model's choice, notes/assumptions/8.md). -/
def EpState.returnCredits (s : EpState) : EpState :=
  each s.lha.attached s (fun s m =>
    let a := Tab.get s.lha.due {} (2 * m)
    let b := Tab.get s.lha.due {} (2 * m + 1)
    if a.hdr = 0 ∧ b.hdr = 0 ∧ a.cells = 0 ∧ b.cells = 0 then s
    else
      let ah := min 255 a.hdr
      let ac := min 4095 a.cells
      let bh := min 255 b.hdr
      let bc := min 4095 b.cells
      s.modLha (fun l =>
        { l with
          due := Tab.put (Tab.put l.due (2 * m) { hdr := a.hdr - ah, cells := a.cells - ac }) (2 * m + 1) { hdr := b.hdr - bh, cells := b.cells - bc },
          out := l.out ++ [{ module := m, chan := 7, mop := 0x71, addr := ah * 2 ^ 52 + ac * 2 ^ 40 + bh * 2 ^ 32 + bc * 2 ^ 20 }] }))

/-- Count a malformed message (R233). -/
def EpState.lhaMalformed (s : EpState) (m : LhaMsg) : EpState :=
  s.mod (fun c => (c.bump 0x80014).event 0x80008 (0x05 * 256 + m.module % 4))

/-- A malformed message (R233): an AREQ is answered MALFORMED with the position of its first bad field; any other is dropped. -/
def EpState.malformed (s : EpState) (m : LhaMsg) (pos : Nat) : EpState :=
  let s1 := s.lhaMalformed m
  if m.chan = 0 then s1.ersp m stMalformed pos [] else s1

/-- A message that breaks Tables 6.2 and 6.3 (R233); one that keeps them is left to its own row. Credits of AREQ and ARSP are due back. -/
def EpState.lhaBad (s : EpState) (m : LhaMsg) : EpState :=
  if m.chan = 0 then (match areqBad m with | some k => (s.owe m).malformed m k | none => s)
  else if lhaOther m then s else (if m.chan = 1 then s.owe m else s).malformed m 0

/-! ### The header cell (R232, Table 6.2) -/

/-- The header cell of a message: its 128 bits, bit 127 first on the wire. -/
def LhaMsg.headerCell (m : LhaMsg) : Nat :=
  let up := ((((((m.lver % 16 * 8 + m.chan % 8) * 256 + m.mop % 256) * 256 + m.ctx % 256) * 64 + m.asid % 64) * 2 + b2n m.acquire) * 2 + b2n m.release) * 2 + b2n m.relaxed
  let mid := (((((up * 2 + b2n m.flagNode) * 2 + b2n m.flagAll) * 4 + m.rsvdHi % 4) * 65536 + m.tag % 65536) * 32 + m.len % 32) * 128 + m.rsvdLo % 128
  mid * 2 ^ 64 + m.addr % 2 ^ 64

/-- The message that a header cell and the data cells after it spell, as a module brings it. -/
def LhaMsg.ofHeader (module h : Nat) (data : List Byte) : LhaMsg :=
  { module := module, lver := bits h 127 124, chan := bits h 123 121, mop := bits h 120 113, ctx := bits h 112 105, asid := bits h 104 99,
    acquire := bit h 98, release := bit h 97, relaxed := bit h 96, flagNode := bit h 95, flagAll := bit h 94, rsvdHi := bits h 93 92,
    tag := bits h 91 76, len := bits h 75 71, rsvdLo := bits h 70 64, addr := bits h 63 0, data := data }

/-- The bytes of a message as they cross a module: the header cell, most significant byte first, then its data cells (R8, R232). -/
def LhaMsg.bytes (m : LhaMsg) : List Byte := beBytes m.headerCell 16 ++ m.data

end Sys2Proof.Machine
end

