-- ==== Sys2Proof/Machine/EpHome.lean ====
section
/-!
DEFINITION. The home side of the end-point: checks (R45, R46, R254), sequence records (R70, R97, R99), applying reads, writes and atomics through the host attachment (R87 to R89, R151, R247, R248),
arrival counters and wait slots (R65, R116 to R120), merged batches (R134 to R139), answers (R54, R88, R324).
-/

namespace Sys2Proof.Machine

/-- Change the home side. -/
def EpState.modHome (s : EpState) (f : Home → Home) : EpState := { s with home := f s.home }

/-- The plane number by which the end-point reaches itself (R21). -/
def selfPlane : Nat := 8

/-- The end-point's pitch is confidential (Table 16.14). -/
def EpState.confidential (s : EpState) : Bool := flag (s.rdF 0xF0000) 4

/-- A packet of a confidential pitch that must carry ENCRYPTED = 1 (R657). -/
def EpState.mustEncrypt (s : EpState) (p : Packet) : Bool :=
  s.confidential && dataCells p.op p.len != 0 && !(decide (0x22 ≤ p.op) && decide (p.op ≤ 0x27)) && p.op != opMgmt &&
  !(p.op == opMsgSend && p.msgDstDomain != s.domain)

/-- The packet as it goes onto the fibre: encrypted afresh where R657 asks for it. `none` while the part may send nothing encrypted (R663) or holds no key. -/
def EpState.toWire (s : EpState) (p : Packet) : Option (Packet × EpState) :=
  if s.mustEncrypt p then
    match s.c.encrypt s.pitch p with
    | some r => some (r.1, { s with c := r.2 })
    | none => none
  else some (p, s)

/-- Put a re-issue into W0: ahead of every request that waits there, behind re-issues to its own node with a lower SEQ (R125, R126). -/
def insertReissue (e : QEntry) : List QEntry → List QEntry
  | [] => [e]
  | x :: r =>
    if x.reissue && x.pkt.dst == e.pkt.dst && decide ((e.pkt.seq + 4096 - x.pkt.seq) % 4096 < 2048) then x :: insertReissue e r
    else if x.reissue && r.any (fun y => y.reissue && y.pkt.dst == e.pkt.dst && decide ((e.pkt.seq + 4096 - y.pkt.seq) % 4096 < 2048)) then x :: insertReissue e r
    else e :: x :: r

/-- Put an entry into queue q of a plane, a re-issue at its head; one that cannot be encrypted yet waits (R663). -/
def EpState.egress (s : EpState) (plane q : Nat) (e : QEntry) : EpState :=
  match s.toWire e.pkt with
  | some r =>
    let x := { e with pkt := r.1 }
    r.2.mod (fun c =>
      if e.reissue then
        let c1 := (c.modEgress plane (fun g => g.setQueue q (insertReissue x (g.queue q)))).markDepth plane q
        c1.noteLevel plane (c1.ownLevel plane)
      else c.enqueue plane q x)
  | none => { s with clear := s.clear ++ [(plane, q, e)] }

/-- Put a packet into the egress queue of a plane (Table 8.7): nothing paces VC0, VC2, or a response on VC4 without a flow, which the switch polices as excess (R324). -/
def EpState.putPacket (s : EpState) (plane : Nat) (p : Packet) (excess : Bool) : EpState :=
  let paced := p.vc == 1 || p.vc == 5 || p.vc == 7
  s.egress plane (s.c.queueOf plane p excess) { pkt := p, at_ := s.c.now, released := !paced }

/-- Packets that waited for encryption go as soon as it is allowed (R663). -/
def EpState.retryClear (s : EpState) : EpState :=
  each s.clear { s with clear := [] } (fun s x => s.egress x.1 x.2.1 x.2.2)

/-- The number of an enabled flow of a kind on a plane toward a node (Table 8.17), among the entries of the flow table that are written. -/
def EpState.flowOf (s : EpState) (kind plane node : Nat) : Option Nat :=
  (s.c.rf.cur.find? (fun e =>
    decide (0x98000 ≤ e.1) && decide (e.1 < 0xA0000) && e.1 % 0x1000 < 0x400 &&
    flag e.2 0 && fld e.2 2 1 == kind && fld e.2 5 3 == plane && fld e.2 13 6 == node)).map
      (fun e => (e.1 - 0x98000) / 0x1000 * 256 + e.1 % 0x1000 / 4)

/-- Address of flow f (Table 8.17). -/
def flowA (f : Nat) : Nat := 0x98000 + f / 256 * 0x1000 + f % 256 * 4

/-- Change a flow's state. -/
def EpState.modFlow (s : EpState) (f : Nat) (g : FlowState → FlowState) : EpState :=
  { s with src := { s.src with flows := Tab.upd s.src.flows {} f g } }

/-- Send a response on the plane of its request (R54, R88): VC2 at once, VC4 through the staked reverse flow toward the requester, or as excess where there is none (R324).
A response of the end-point to itself is kept for the source side (R21). -/
def EpState.sendResponse (s : EpState) (plane : Nat) (p : Packet) : EpState :=
  if plane = selfPlane then { s with loop := s.loop ++ [p] }
  else if p.vc = 4 then
    match s.flowOf 1 plane p.dst with
    | some f => s.modFlow f (fun g => { g with wait := g.wait ++ [(p, none)] })
    | none => s.putPacket plane p true
  else s.putPacket plane p false

/-- `EP_WIN_` register of a window, in force in this pick (R46). -/
def EpState.win (s : EpState) (w off : Nat) : Reg := s.rdF (0x30000 + w * 0x20 + off)

/-- Base of a window. -/
def EpState.winBase (s : EpState) (w : Nat) : Nat := (s.win w 0x0C).toNat * 2 ^ 32 + (s.win w 0x08).toNat

/-- Size of a window. -/
def EpState.winSize (s : EpState) (w : Nat) : Nat := fld (s.win w 0x14) 15 0 * 2 ^ 32 + (s.win w 0x10).toNat

/-- `EP_LHA_CTRL.SERVE`, as it stood when the pick opened for a 1 just written (R253, R254). -/
def EpState.serving (s : EpState) : Bool := flag (s.rdF 0x80000) 0 && flag (s.c.rd 0x80000) 0 && !s.c.sec.scrubOn

/-- Address of a counter's control and value (Table 3.8). -/
def ctrCtrlA (i : Nat) : Nat := 0x1080000 + 4 * i
/-- Address of a counter's low word. -/
def ctrA (i : Nat) : Nat := 0x1000000 + 8 * i

/-- Value of an arrival counter. -/
def EpState.counter (s : EpState) (i : Nat) : Nat := (s.c.rd (ctrA i)).toNat + (s.c.rd (ctrA i + 4)).toNat * 2 ^ 32

/-- Permission bit of an opcode in `EP_WIN_CTRL` (Table 2.3). -/
def permBit (op : Nat) : Nat := if op = 1 then 1 else if op = 5 then 3 else 2

/-- Bytes that a request accesses. -/
def accessBytes (p : Packet) : Nat :=
  if p.op = 5 then atypeWidth (atypeOf (p.cell 0)) else if isMasked p.op then 64 else lenBytes p.len

/-- Steps 2 to 8 of Table 2.4: the failing status and its detail (R45, R46, R254, R43). -/
def EpState.homeCheck (s : EpState) (p : Packet) : Option (Nat × Nat) :=
  let w := p.window
  let ctrl := s.win w 0x00
  let clear := s.confidential && p.src != s.node && dataCells p.op p.len != 0 && !p.flags.encrypted
  match (if clear && (badHeader p).isNone then some 106 else badAtHome s.node p) with
  | some k => some (stMalformed, k)
  | none =>
    if !(s.serving && flag ctrl 0) || s.winSize w == 0 then some (stWindow, w)
    else if p.pitch ≠ fld ctrl 11 8 then some (stPitch, fld ctrl 11 8)
    else if p.key ≠ (s.win w 0x04).toNat then some (stKey, w)
    else if !flag ctrl (permBit p.op) then some (stPerm, w)
    else if s.winSize w < p.offset + accessBytes p then some (stBounds, w)
    else if p.cmode ≠ 0 ∧ (!flag (s.rdF (ctrCtrlA p.counter)) 0 ∨ fld (s.rdF (ctrCtrlA p.counter)) 7 4 ≠ p.pitch) then
      some (stCounter, p.counter)
    else none

/-- Record a failed check in `EP_WIN_FAULT` (R45); a data-carrying request in clear is counted as well (R657). -/
def EpState.winFault (s : EpState) (p : Packet) (f : Nat × Nat) : EpState :=
  s.mod (fun c => (if f = (stMalformed, 106) ∧ !p.flags.encrypted then c.bump 0xF0010 else c).event (0x30000 + p.window * 0x20 + 0x18) (p.src * 256 + f.1 % 256))

/-- Change the sequence record of a source. -/
def EpState.modRec (s : EpState) (src : Nat) (f : SrcRec → SrcRec) : EpState :=
  s.modHome (fun h => { h with recs := Tab.upd h.recs {} src f })

/-- How far a SEQ lies above the lowest one not finished, modulo 4,096. -/
def SrcRec.ahead (r : SrcRec) (seq : Nat) : Nat := (seq + 4096 - r.low) % 4096

/-- The SEQ has been applied or refused. -/
def SrcRec.isFinished (r : SrcRec) (seq : Nat) : Bool := decide (2048 ≤ r.ahead seq) || r.finished.contains seq

/-- The SEQ has been applied: a duplicate under R70. A SEQ that was refused and is taken afresh is open, and not yet applied again. -/
def SrcRec.isApplied (r : SrcRec) (seq : Nat) : Bool := r.isFinished seq && !r.refused.contains seq && !r.open_.contains seq

/-- Advance the lowest unfinished SEQ over finished ones. -/
def SrcRec.settle (r : SrcRec) : Nat → SrcRec
  | 0 => r
  | n + 1 =>
    if r.finished.contains r.low then
      SrcRec.settle { r with finished := r.finished.filter (· != r.low), low := (r.low + 1) % 4096 } n
    else r

/-- Mark a SEQ applied or refused (R70, R97); refusals are remembered as long as the window of 2,048 reaches them. -/
def SrcRec.finish (r : SrcRec) (seq : Nat) (applied : Bool) : SrcRec :=
  let r1 := { r with
    open_ := r.open_.filter (· != seq),
    finished := if r.isFinished seq then r.finished else r.finished ++ [seq],
    refused := if applied then r.refused.filter (· != seq) else if r.refused.contains seq then r.refused else r.refused ++ [seq] }
  let r2 := r1.settle 4096
  { r2 with refused := r2.refused.filter (fun q => decide ((r2.low + 4096 - q) % 4096 ≤ 2048 ∨ r2.ahead q < 2048)) }

/-- A home request by its number. -/
def EpState.homeReq (s : EpState) (id : Nat) : Option HomeReq := s.home.reqs.find? (fun r => r.id == id)

/-- Change a home request. -/
def EpState.modReq (s : EpState) (id : Nat) (f : HomeReq → HomeReq) : EpState :=
  s.modHome (fun h => { h with reqs := h.reqs.map (fun r => if r.id = id then f r else r) })

/-- Add a home request at the end of the order of arrival. -/
def EpState.addReq (s : EpState) (r : HomeReq) : EpState :=
  s.modHome (fun h => { h with nextId := h.nextId + 1, reqs := h.reqs ++ [{ r with id := h.nextId }] })

/-- First and last granule of a request's access, by physical address: two windows may name one granule. -/
def HomeReq.granules (r : HomeReq) : Nat × Nat := (r.pa / 64, (r.pa + accessBytes r.pkt - 1) / 64)

/-- Two requests touch one granule of memory; a duplicate atomic answered from the result table touches none. -/
def HomeReq.meets (a b : HomeReq) : Bool :=
  let x := a.granules
  let y := b.granules
  !a.fromTable && !b.fromTable && decide (x.1 ≤ y.2) && decide (y.1 ≤ x.2)

/-- Physical address that a request names. The model takes the window's base in force when the header arrives, as R46 says of steps 3 to 8 (notes/assumptions/76.md). -/
def EpState.homePa (s : EpState) (p : Packet) : Nat := (s.winBase p.window + p.offset) % 2 ^ 64

/-- `b` came first by the port and channel of `r`, and the home keeps their order: both touch one granule (R89), or they are requests of one source to one 4 KiB unit, neither RELAXED (Table 4.2). -/
def HomeReq.precedes (b r : HomeReq) : Bool :=
  decide (b.id < r.id) && b.plane == r.plane && b.pkt.vc == r.pkt.vc && !b.fromTable && !r.fromTable &&
  (b.meets r || (b.pkt.src == r.pkt.src && !b.pkt.merged && !r.pkt.merged && b.pkt.woff / 4096 == r.pkt.woff / 4096 && !b.pkt.flags.relaxed && !r.pkt.flags.relaxed))

/-- A request waits for an atomic in progress on one of its granules, or an atomic waits for any access in progress there (R151, R247);
a request waits for those that its port and channel brought before it (R89, Table 4.2), but for held flagged stores (R97). -/
def EpState.blocked (s : EpState) (r : HomeReq) : Bool :=
  s.home.reqs.any (fun b =>
    decide (b.id ≠ r.id) &&
    ((b.meets r && (b.pkt.op == 5 || r.pkt.op == 5) && (b.st == .busy || (b.st == .waiting && decide (b.id < r.id)))) ||
     (b.precedes r && (b.st == .busy || b.st == .waiting))))

/-- Address of a result-table entry (R110). -/
def EpState.artA (s : EpState) (src seq : Nat) : Nat :=
  (fld (s.c.rd 0x40040) 31 25 * 2 ^ 25 + (s.c.rd 0x40044).toNat * 2 ^ 32 + (src * 4096 + seq) * 32) % 2 ^ 64

/-- Begin the accesses of a request (R95, R96, R247): reads and writes in one or more messages that cross no 4 KiB boundary, atomics by a read, or by one system-scope atomic. -/
def EpState.startReq (s : EpState) (r : HomeReq) : EpState :=
  let p := r.pkt
  let pa := r.pa
  let go := fun (left : Nat) => s.modReq r.id (fun r => { r with st := .busy, left := left })
  if r.fromTable then (go 1).mrd (.artRead r.id) (s.artA p.src p.seq / 64 * 64) 4
  else if p.op = 1 then (go 1).mrd (.home r.id 0) pa (lenBytes p.len / 16)
  else if p.op = 2 then (go 1).mwr (.home r.id 0) pa p.data
  else if p.op = 5 then
    if scopeOf (p.cell 0) = 2 then (go 1).mat (.atomMat r.id) pa p.data
    else (go 1).mrd (.atomRead r.id) (pa / 64 * 64) 4
  else (go 1).mwrMasked (.home r.id 0) pa (p.data.take 64) p.mask

/-- Start every request that nothing blocks, in order of arrival (R89). -/
def EpState.startWaiting (s : EpState) : List HomeReq → EpState
  | [] => s
  | r :: rest =>
    let s1 := if r.st = .waiting ∧ !s.blocked r then s.startReq r else s
    EpState.startWaiting s1 rest

/-- Fire wait slot `w` (R120): ARM clears, FIRED sets, the notice is queued. -/
def EpState.fireSlot (s : EpState) (w : Nat) : EpState :=
  let a := 0x10C0000 + 16 * w
  let r := s.c.rd a
  let i := fld r 31 16
  (s.mod (fun c => c.wr a (setFld (setFld r 0 0 0) 1 1 1))).notice 0x01 w i (s.counter i)

/-- Fire every armed slot that watches a counter and whose target is reached (R120). -/
def EpState.checkSlots (s : EpState) (i : Nat) : EpState :=
  let armed := s.c.rf.cur.filter (fun e =>
    decide (0x10C0000 ≤ e.1) && decide (e.1 < 0x10C4000) && e.1 % 16 == 0 && flag e.2 0 && fld e.2 31 16 == i)
  each armed s (fun s e =>
    let target := (s.c.rd (e.1 + 4)).toNat + (s.c.rd (e.1 + 8)).toNat * 2 ^ 32
    if target ≤ s.counter i then s.fireSlot ((e.1 - 0x10C0000) / 16) else s)

/-- Set an arrival counter modulo 2^64 (R117), and let its wait slots fire. -/
def EpState.setCounter (s : EpState) (i v : Nat) : EpState :=
  (s.mod (fun c => (c.wr (ctrA i) (BitVec.ofNat 32 v)).wr (ctrA i + 4) (BitVec.ofNat 32 (v / 2 ^ 32)))).checkSlots i

/-- Add to an arrival counter (R65, R117). -/
def EpState.addCounter (s : EpState) (i n : Nat) : EpState := s.setCounter i ((s.counter i + n) % 2 ^ 64)

/-- Take a home request out of the list. -/
def EpState.dropReq (s : EpState) (id : Nat) : EpState :=
  s.modHome (fun h => { h with reqs := h.reqs.filter (fun r => r.id != id) })

/-- The response of this home to a request: MEASURED is 1 on each `READ_RSP` for a window whose export bit is 1 (R226). -/
def EpState.respondTo (s : EpState) (p : Packet) (status detail : Nat) (data : List Byte) : Packet :=
  let a := respond p s.pitch status detail data
  if p.op == 1 && flag (s.c.rd 0x70010) p.window then Packet.seal { a with flags := { a.flags with measured := true } } else a

/-- An atomic keeps its old value in the result table (R110). -/
def Packet.inTable (p : Packet) : Bool := fetchOf (p.cell 0) || aopOf (p.cell 0) == 5

/-- Answer a duplicate of an applied request (R70): a store as OK_DUPLICATE, a read anew, an atomic from the result table where it has an entry there. -/
def EpState.answerDup (s : EpState) (r : HomeReq) : EpState :=
  let p := r.pkt
  if p.op = 1 then s.addReq r
  else if p.op ≠ 5 then s.sendResponse r.plane (s.respondTo p stDup 0 [])
  else if p.inTable then s.addReq { r with fromTable := true }
  else s.sendResponse r.plane (s.respondTo p stOk 0 (atomRspData 0 false false true))

/-- Answer the copies that waited for a SEQ (R70): as duplicates when the first copy was applied, with its status when it was refused. -/
def EpState.answerCopies (s : EpState) (src seq status detail : Nat) : EpState :=
  let r := Tab.get s.home.recs {} src
  let mine := r.copies.filter (fun c => c.pkt.seq == seq)
  let s1 := s.modRec src (fun r => { r with copies := r.copies.filter (fun c => c.pkt.seq != seq) })
  each mine s1 (fun s c => if status ≠ stOk then s.sendResponse c.plane (s.respondTo c.pkt status detail []) else s.answerDup c)

/-- The discard of a first copy takes its held copies with it (R70, R99, R136). -/
def EpState.dropCopies (s : EpState) (src seq : Nat) : EpState :=
  s.modRec src (fun r => { r with copies := r.copies.filter (fun c => c.pkt.seq != seq), open_ := r.open_.filter (· != seq) })

/-- Every SEQ below this one has been applied or refused (R97). -/
def SrcRec.lowerDone (r : SrcRec) (seq : Nat) : Bool := r.low == seq || decide (2048 ≤ r.ahead seq)

/-- The order of R97 lets flagged stores go whose lower SEQ are all finished: such a store is ready for FLAG_HOLD_RELEASE. -/
def EpState.flagReady (s : EpState) (p : Packet) : Bool := (Tab.get s.home.recs {} p.src).lowerDone p.seq

/-- Finish a request that has been applied or refused (R87, R88): counters, sequence record, answer, copies. -/
def EpState.finishReq (s : EpState) (r : HomeReq) (status detail : Nat) (data : List Byte) : EpState :=
  let p := r.pkt
  let ok := status == stOk
  let s0 := s.dropReq r.id
  let s1 := if ok && !r.fromTable && 0 < p.countAdd then s0.addCounter p.counter p.countAdd else s0
  let s2 := if ok && p.flags.measured && (p.op == 2 || p.op == 6) then
      let n := if p.op = 2 then p.data.length else ones p.mask 64
      let v := (s1.c.rd 0x70018).toNat + (s1.c.rd 0x7001C).toNat * 2 ^ 32 + n
      s1.mod (fun c => (c.wr 0x70018 (BitVec.ofNat 32 v)).wr 0x7001C (BitVec.ofNat 32 (v / 2 ^ 32)))
    else s1
  let first := (Tab.get s2.home.recs {} p.src).open_.contains p.seq
  let s3 := s2.modRec p.src (fun q => if q.isApplied p.seq then q else q.finish p.seq ok)
  let s4 := s3.sendResponse r.plane (s3.respondTo p status detail data)
  if first then s4.answerCopies p.src p.seq status detail else s4

/-- Answer an applied atomic (R109), after its result-table entry where it has one (R110). -/
def EpState.answerAtomic (s : EpState) (r : HomeReq) : EpState :=
  let c0 := r.pkt.cell 0
  let isCas := aopOf c0 == 5
  s.finishReq r stOk 0 (atomRspData (if fetchOf c0 || isCas then r.old else 0) (isCas && r.cmpOk) false r.fromTable)

/-- An atomic has been applied: its result-table entry is written before the answer (R110). -/
def EpState.atomDone (s : EpState) (r : HomeReq) : EpState :=
  if r.pkt.inTable then
    (s.modReq r.id (fun q => { q with old := r.old, cmpOk := r.cmpOk })).mwrBytes (.artWrite r.id) (s.artA r.pkt.src r.pkt.seq)
      (leBytes r.old 16 ++ [BitVec.ofNat 8 (b2n r.cmpOk)] ++ List.replicate 15 0)
  else s.answerAtomic r

/-- Operand width and operand, compare value of an `ATOMIC`. -/
def Packet.operand (p : Packet) : Nat := p.cell 1 % 2 ^ (8 * atypeWidth (atypeOf (p.cell 0)))
/-- Compare value. -/
def Packet.compare (p : Packet) : Nat := p.cell 2 % 2 ^ (8 * atypeWidth (atypeOf (p.cell 0)))

/-- The operand of an atomic goes back by a masked write (R247). -/
def EpState.writeOperand (s : EpState) (r : HomeReq) : EpState :=
  let p := r.pkt
  s.mwrBytes (.atomWrite r.id) r.pa (leBytes (atomStore (aopOf (p.cell 0)) (atypeOf (p.cell 0)) r.old p.operand p.compare) (atypeWidth (atypeOf (p.cell 0))))

/-- Accelerator status as a remote requester sees it (Table 6.4). -/
def arspStatus (k : Nat) : Nat := if k = 0 then stOk else stPoison

/-! ### Merged batches -/

/-- Change a batch, keyed 4,096 × port + batch number. -/
def EpState.modBatch (s : EpState) (k : Nat) (f : Batch → Batch) : EpState :=
  s.modHome (fun h => { h with batches := Tab.upd h.batches {} k f })

/-- The entries of a batch in order of their index. -/
def Batch.ordered (b : Batch) : List BatchEntry :=
  (List.range b.entries.length).filterMap (fun i => b.entries.find? (fun e => e.index == i))

/-- All parts of a batch are here (R136). -/
def Batch.whole (b : Batch) : Bool :=
  b.req.isSome && (match b.total with | some t => decide (t ≤ b.entries.length) && b.ordered.length == b.entries.length | none => false)

/-- Answer the switch about a batch: a `COMBINE_ANSWER` notice on the port of the request (R136, Table 7.7): kind and batch number, status, detail, old value of an atomic. -/
def EpState.answerBatch (s : EpState) (k status detail old : Nat) : EpState :=
  let plane := k / 4096
  let b := Tab.get s.home.batches {} k
  let body := beBytes ((if b.atomic then 2 else 1) * 4096 + k % 4096) 2 ++ beBytes status 2 ++ beBytes detail 4 ++ List.replicate 8 0 ++ beBytes (if b.atomic then old else 0) 16
  s.putPacket plane (mgmtPacket s.node 0 s.pitch 0 (zBytes 0x2 0x0511 0 0 0 body)) false

/-- Discard every part of a batch, unanswered (R136). -/
def EpState.dropBatch (s : EpState) (k : Nat) : EpState :=
  (s.modHome (fun h => { h with batches := Tab.del h.batches k })).mod (fun c => c.bump 0x40050)

/-- Settle the SEQ of every member of a batch in its source's record, and answer the copies that waited for it (R70, R136). -/
def EpState.markMembers (s : EpState) (b : Batch) (status detail : Nat) : EpState :=
  each b.ordered s (fun s e =>
    (s.modRec e.src (fun r => if r.isApplied e.seq then r else r.finish e.seq (status == stOk))).answerCopies e.src e.seq status detail)

/-- A member of a batch has been applied, or is being applied, by a re-issue of its own (R139). -/
def EpState.memberTaken (s : EpState) (e : BatchEntry) : Bool :=
  let r := Tab.get s.home.recs {} e.src
  r.isApplied e.seq || r.open_.contains e.seq

/-- Begin a whole batch (R136): members are accepted, and count as applied once the batch is (R139); then the merged request runs.
A batch with a member that its own re-issue has brought before is discarded, as no member is applied twice (R139; notes/assumptions/77.md). -/
def EpState.startBatch (s : EpState) (k : Nat) : EpState :=
  let b := Tab.get s.home.batches {} k
  match b.req with
  | none => s
  | some p =>
    if b.started ∨ !b.whole then s
    else
      match b.refusal with
      | some r => ((s.markMembers b r.1 r.2).answerBatch k r.1 r.2 0).modHome (fun h => { h with batches := Tab.del h.batches k })
      | none =>
        if b.entries.any s.memberTaken then s.dropBatch k
        else
          let s1 := (each b.ordered s (fun s e => s.modRec e.src (fun r =>
            { r with open_ := r.open_ ++ [e.seq], refused := r.refused.filter (· != e.seq), finished := r.finished.filter (· != e.seq) }))).modBatch k (fun b => { b with started := true })
          s1.addReq { id := 0, plane := k / 4096, pkt := p, arrival := b.first, pa := b.pa, batch := some k }

/-- The value that each member of an atomic batch fetched (R138). -/
def memberValues (aop atype v : Nat) : List BatchEntry → List (BatchEntry × Nat)
  | [] => []
  | e :: r => (e, v) :: memberValues aop atype (atomStore aop atype v (e.operand % 2 ^ (8 * atypeWidth atype)) 0) r

/-- Result-table entries of the FETCH members of an atomic batch, from the value that memory held (R136 step 2, R138); the answer says whether there are any. -/
def EpState.writeEntries (s : EpState) (r : HomeReq) (k old : Nat) : EpState × Bool :=
  let b := Tab.get s.home.batches {} k
  let c0 := r.pkt.cell 0
  let vals := if b.atomic then (memberValues (aopOf c0) (atypeOf c0) old b.ordered).filter (fun x => x.1.fetch) else []
  if vals.isEmpty then (s, false)
  else
    (each vals (s.modBatch k (fun b => { b with artLeft := vals.length })) (fun s x =>
      s.mwrBytes (.artWrite r.id) (s.artA x.1.src x.1.seq) (leBytes x.2 16 ++ List.replicate 16 0)), true)

/-- The granule of an atomic has been read: the new operand goes back, for a batch after its result-table entries (R136, R247). -/
def EpState.atomReadDone (s : EpState) (r : HomeReq) (line : List Byte) : EpState :=
  let p := r.pkt
  let old := leNat ((line.drop (r.pa % 64)).take (atypeWidth (atypeOf (p.cell 0))))
  let r1 := { r with old := old, cmpOk := aopOf (p.cell 0) == 5 && old == p.compare }
  let s1 := s.modReq r.id (fun q => { q with old := r1.old, cmpOk := r1.cmpOk })
  let x := match r.batch with | some k => s1.writeEntries r1 k old | none => (s1, false)
  if x.2 then x.1 else s1.writeOperand r1

/-- A merged request has been applied, or an access of it has failed: its members are settled, and the switch is answered (R136).
R136 does not say what becomes of the members' SEQ when an access fails: they count as refused, as R248 says of any request (notes/assumptions/77.md). -/
def EpState.finishBatch (s : EpState) (r : HomeReq) (k status : Nat) : EpState :=
  let b := Tab.get s.home.batches {} k
  let s2 := (((s.dropReq r.id).markMembers b status 0).answerBatch k status 0 r.old).modHome (fun h => { h with batches := Tab.del h.batches k })
  if status = stOk then s2.mod (fun c => c.bump 0x4004C) else s2

/-! ### Arrival -/

/-- A bad CRC-64 drops the packet and strikes the port for at least 128 picks (R67, R122). -/
def EpState.crcDrop (s : EpState) (plane : Nat) : EpState :=
  s.mod (fun c => ((c.bump 0x40018).strikeAbrupt plane causeCrc).modTrain plane (fun t => { t with holdUntil := max t.holdUntil (c.pick + 128) }))

/-- An arriving packet takes its place in the input stage: its cells are free again, and it leaves the port's list (R526). -/
def EpState.takeIn (s : EpState) (plane : Nat) (p : Packet) : EpState :=
  if plane = selfPlane then s else s.mod (fun c => (c.takeRx plane p).freeCells plane p.vc p.cellCount)

/-- The port brings packets (R122, R536): it is raised, or in standby for VC0. -/
def EpState.portOpen (s : EpState) (plane vc : Nat) : Bool :=
  plane == selfPlane || (match (s.c.port plane).t.st with | .raised => true | .standby => vc == 0 | _ => false)

/-- A packet opened after its CRC check: decrypted where it is encrypted (R661); `none` where that fails. -/
def EpState.opened (s : EpState) (plane : Nat) (p : Packet) : Option Packet :=
  if p.flags.encrypted then s.c.decrypt s.pitch plane (p.op == opResult) p else some p

/-- A failed authentication counts as a failure of step 1 of Table 2.4 (R661, R122). -/
def EpState.authDrop (s : EpState) (plane : Nat) : EpState :=
  s.mod (fun c => ((c.authFailed s.pitch).strikeAbrupt plane causeCrc).modTrain plane (fun t => { t with holdUntil := max t.holdUntil (c.pick + 128) }))

/-- A packet arrives on a plane: a closed port brings none, and step 1 of Table 2.4 comes before everything else (R67, R122, R661). -/
def EpState.arrive (s : EpState) (plane : Nat) (p : Packet) (go : EpState → Packet → EpState) : EpState :=
  if !s.portOpen plane p.vc then s
  else
    let s1 := s.takeIn plane p
    if !p.crcOk then s1.crcDrop plane
    else
      match s1.opened plane p with
      | none => s1.authDrop plane
      | some q => go s1 q

/-- A request arrives at its home (Table 2.4, R70, R97, R99). -/
def EpState.homeArrive (s : EpState) (plane : Nat) (p : Packet) : EpState :=
  match s.homeCheck p with
  | some f =>
    let s1 := (s.winFault p f).modRec p.src (fun r => if r.isFinished p.seq || r.open_.contains p.seq then r else r.finish p.seq false)
    s1.sendResponse plane (s1.respondTo p f.1 f.2 [])
  | none =>
    let r := Tab.get s.home.recs {} p.src
    let q : HomeReq := { id := 0, plane := plane, pkt := p, arrival := s.c.pick, pa := s.homePa p }
    if r.isApplied p.seq then
      let s1 := s.answerDup q
      s1.startWaiting s1.home.reqs
    else if r.open_.contains p.seq then
      s.modRec p.src (fun r => { r with copies := r.copies ++ [q] })
    else
      let s1 := s.modRec p.src (fun r => { r with open_ := r.open_ ++ [p.seq], refused := r.refused.filter (· != p.seq), finished := r.finished.filter (· != p.seq) })
      let hold := isFlagged p.op && !r.lowerDone p.seq
      let s2 := s1.addReq { q with st := if hold then .held s.c.pick else .waiting }
      s2.startWaiting s2.home.reqs

/-- A merged request arrives (R134, R136, R137): it is checked, and waits for its receipts. -/
def EpState.mergedArrive (s : EpState) (plane : Nat) (p : Packet) : EpState :=
  let k := 4096 * plane + p.seq
  let b := Tab.get s.home.batches {} k
  let s1 := s.modBatch k (fun b =>
    { b with
      req := some p, atomic := p.op == 5, refusal := s.homeCheck p, pa := s.homePa p,
      first := if b.req.isNone && b.total.isNone then s.c.pick else b.first })
  let s2 := match s.homeCheck p with | some f => s1.winFault p f | none => s1
  let s3 := if b.req.isSome then s else s2.startBatch k
  s3.startWaiting s3.home.reqs

/-- Entries of a `COMBINE_RECEIPT` payload (Table 3.13). -/
def receiptEntries (atomic : Bool) (first : Nat) (pay : List Byte) : Nat → List BatchEntry
  | 0 => []
  | n + 1 =>
    if atomic then
      let v := pn pay 0 12
      { index := first, src := bits v 95 88, seq := bits v 87 76, fetch := bit v 75, operand := bits v 63 0 } ::
        receiptEntries atomic (first + 1) (pay.drop 12) n
    else
      let v := pn pay 0 4
      { index := first, src := bits v 31 24, seq := bits v 23 12 } :: receiptEntries atomic (first + 1) (pay.drop 4) n

/-- A `COMBINE_RECEIPT` arrives (R135, R136). -/
def EpState.receiptArrive (s : EpState) (plane : Nat) (pay : List Byte) : EpState :=
  let w := pn pay 0 2
  let atomic := w / 4096 == 2
  let k := 4096 * plane + w % 4096
  let es := receiptEntries atomic (pn pay 4 2) (pay.drop 16) (pn pay 6 2)
  let s1 := s.modBatch k (fun b =>
    { b with
      total := some (pn pay 2 2),
      entries := b.entries ++ es.filter (fun e => !(b.entries.any (fun x => x.index == e.index))),
      first := if b.req.isNone && b.total.isNone then s.c.pick else b.first })
  let s2 := s1.startBatch k
  s2.startWaiting s2.home.reqs

/-! ### Answers of the accelerator -/

/-- An access of home request `id` has been answered (R87, R248). -/
def EpState.homeArsp (s : EpState) (id status : Nat) (data : List Byte) : EpState :=
  match s.homeReq id with
  | none => s
  | some r =>
    let s1 :=
      match r.batch with
      | some k => s.finishBatch r k (arspStatus status)
      | none => if status = 0 then s.finishReq r stOk 0 (if r.pkt.op = 1 then data else []) else s.finishReq r stPoison 0 []
    s1.startWaiting s1.home.reqs

/-- The read of a home atomic has been answered. -/
def EpState.atomReadArsp (s : EpState) (id status : Nat) (data : List Byte) : EpState :=
  match s.homeReq id with
  | none => s
  | some r => if status = 0 then s.atomReadDone r data else s.homeArsp id status []

/-- The write of a home atomic has been answered. -/
def EpState.atomWriteArsp (s : EpState) (id status : Nat) : EpState :=
  match s.homeReq id with
  | none => s
  | some r =>
    if status ≠ 0 ∨ r.batch.isSome then s.homeArsp id status []
    else
      let s1 := s.atomDone r
      s1.startWaiting s1.home.reqs

/-- A system-scope atomic has been answered (R247). -/
def EpState.matArsp (s : EpState) (id status : Nat) (data : List Byte) : EpState :=
  match s.homeReq id with
  | none => s
  | some r =>
    if status ≠ 0 then s.homeArsp id status []
    else
      let r1 := { r with old := cellOf data 0, cmpOk := aopOf (r.pkt.cell 0) == 5 && bit (cellOf data 1) 0 }
      let s1 := s.modReq id (fun q => { q with old := r1.old, cmpOk := r1.cmpOk })
      match r.batch with
      | some k => let x := s1.writeEntries r1 k r1.old; if x.2 then x.1 else s1.homeArsp id 0 []
      | none =>
        let s2 := s1.atomDone r1
        s2.startWaiting s2.home.reqs

/-- A result-table entry of a batch has been written, or could not be: after the last one the merged request is applied (R136), unless the accelerator has applied it. -/
def EpState.entryWritten (s : EpState) (r : HomeReq) (k status : Nat) : EpState :=
  let n := (Tab.get s.home.batches {} k).artLeft
  let s1 := s.modBatch k (fun b => { b with artLeft := b.artLeft - 1 })
  if status ≠ 0 ∨ (n ≤ 1 ∧ scopeOf (r.pkt.cell 0) = 2) then s1.homeArsp r.id status []
  else if n ≤ 1 then s1.writeOperand r
  else s1

/-- The result-table entry of an atomic has been written, or could not be: the atomic is answered. -/
def EpState.artWriteArsp (s : EpState) (id status : Nat) : EpState :=
  match s.homeReq id with
  | none => s
  | some r =>
    match r.batch with
    | some k => s.entryWritten r k status
    | none =>
      let s1 := if status = 0 then s.answerAtomic r else s.finishReq r stPoison 0 []
      s1.startWaiting s1.home.reqs

/-- The result-table entry that answers a duplicate atomic has been read (R70, Table 3.7). -/
def EpState.artReadArsp (s : EpState) (id status : Nat) (data : List Byte) : EpState :=
  match s.homeReq id with
  | none => s
  | some r =>
    let e := data.drop (s.artA r.pkt.src r.pkt.seq % 64)
    let s1 := if status = 0 then s.answerAtomic { r with old := leNat (e.take 16), cmpOk := bit (pb e 16) 0 } else s.finishReq r stPoison 0 []
    s1.startWaiting s1.home.reqs

/-- Release of a held flagged store (R97): every lower SEQ of its source is applied or refused. -/
def EpState.releaseFlag (s : EpState) (src seq : Nat) : EpState :=
  match s.home.reqs.find? (fun r => r.pkt.src == src && r.pkt.seq == seq && (match r.st with | .held _ => true | _ => false)) with
  | some r =>
    if s.flagReady r.pkt then
      let s1 := s.modReq r.id (fun q => { q with st := .waiting })
      s1.startWaiting s1.home.reqs
    else s
  | none => s

/-- Discard of a flagged store held for 256 picks (R99): unanswered, counted, its copies with it. -/
def EpState.discardFlag (s : EpState) (src seq : Nat) : EpState :=
  match s.home.reqs.find? (fun r => r.pkt.src == src && r.pkt.seq == seq && (match r.st with | .held t => decide (t + 256 ≤ s.c.pick) | _ => false)) with
  | some r => ((s.dropReq r.id).dropCopies src seq).mod (fun c => c.bump 0x40048)
  | none => s

/-- A batch whose parts have not all come within 4 picks of the first is discarded (R136). -/
def EpState.dropOldBatch (s : EpState) (k : Nat) : EpState :=
  match Tab.find s.home.batches k with
  | some b => if !b.started ∧ b.first + 4 ≤ s.c.pick then s.dropBatch k else s
  | none => s

end Sys2Proof.Machine
end

