-- ==== Sys2Proof/Machine/EpSource.lean ====
section
/-!
DEFINITION. The source side of the end-point: planes (R90 to R94), SEQ, tags and sending (R68, R69, R98 to R102, R195, R196), responses (R71, R140, R141), re-issues (R124 to R128), fences (R112 to R115),
acceptance and pacing of staked and loose flows (R322 to R327, R337), the remote-line cache (R159 to R167).
-/

namespace Sys2Proof.Machine

/-- Change the source side. -/
def EpState.modSrc (s : EpState) (f : Source → Source) : EpState := { s with src := f s.src }

/-- Change a request of the source side. -/
def EpState.modSrcReq (s : EpState) (id : Nat) (f : SrcReq → SrcReq) : EpState :=
  s.modSrc (fun q => { q with reqs := q.reqs.map (fun r => if r.id = id then f r else r) })

/-! ### The remote-line cache -/

/-- Key of a pair (node, window) and of a line of it in the cache. -/
def rlcKey (pair line : Nat) : Nat := pair * 2 ^ 42 + line

/-- Pair of a global address's node and window. -/
def SrcReq.pair (r : SrcReq) : Nat := r.dst * 16 + r.woff / 2 ^ 48 % 16

/-- First line and number of lines that a request covers. -/
def SrcReq.lines (r : SrcReq) : List Nat :=
  let a := r.woff % 2 ^ 48
  let n := if r.op = 5 then 1 else if isMasked r.op then 64 else r.len
  List.map (fun i => a / 64 + i) (List.range ((a % 64 + n + 63) / 64))

/-- Refuse the fills of outstanding reads that an event of Table 4.4 covers (R164). -/
def EpState.refuseFills (s : EpState) (covers : SrcReq → Bool) : EpState :=
  s.modSrc (fun q => { q with reqs := q.reqs.map (fun r => if r.op = 1 ∧ r.mayFill ∧ covers r then { r with fillLost := true } else r) })

/-- Invalidate the lines of some pairs, and refuse the fills that race with it (R162, R164). -/
def EpState.rlcPurge (s : EpState) (pairs : Nat → Bool) : EpState :=
  { s with rlc := s.rlc.filter (fun e => !pairs (e.1 / 2 ^ 42)) }.refuseFills (fun r => pairs r.pair)

/-- An event of Table 4.4: it invalidates the lines of some pairs, and is counted (Table 4.5). -/
def EpState.rlcDrop (s : EpState) (pairs : Nat → Bool) : EpState := (s.rlcPurge pairs).mod (fun c => c.bump 0x42010)

/-- A store at issue invalidates the lines that it overlaps (R162). -/
def EpState.rlcStore (s : EpState) (r : SrcReq) : EpState :=
  let ks := r.lines.map (rlcKey r.pair)
  let s1 := { s with rlc := s.rlc.filter (fun e => !ks.contains e.1) }
  (s1.refuseFills (fun q => q.lines.any (fun l => ks.contains (rlcKey q.pair l)))).mod (fun c => c.bump 0x42010)

/-- The set of a line, and the ways of a set (R159: 131,072 lines, 16-way). -/
def rlcWays : Nat := 16

/-- Put a line into the cache; a full set loses the line that the part chooses (R163: no rule says which). -/
def EpState.rlcFill (s : EpState) (k : Nat) (line : List Byte) : EpState :=
  if (Tab.find s.rlc k).isSome then { s with rlc := Tab.put s.rlc k line }
  else
    let set := s.rlc.filter (fun e => Config.rlcSet e.1 % 8192 == Config.rlcSet k % 8192)
    if set.length < rlcWays then { s with rlc := Tab.put s.rlc k line }
    else
      let v := (set.getD (Config.rlcVictim k (set.map (·.1)) % set.length) (0, [])).1
      { s with rlc := Tab.put (Tab.del s.rlc v) k line }

/-- The advice bit of a pair (R159). -/
def EpState.advised (s : EpState) (pair : Nat) : Bool := flag (s.rdF (0x42100 + 4 * (pair / 32))) (pair % 32)

/-- The cache is enabled. -/
def EpState.rlcOn (s : EpState) : Bool := flag (s.rdF 0x42000) 0

/-- The data of a read that the cache holds whole (R160, R161). -/
def EpState.rlcRead (s : EpState) (r : SrcReq) : Option (List Byte) :=
  if !s.rlcOn ∨ r.flags.acquire then none
  else
    r.lines.foldl (fun a l =>
      match a, Tab.find s.rlc (rlcKey r.pair l) with
      | some d, some x => some (d ++ x)
      | _, _ => none) (some [])

/-- A read has been answered OK: its lines fill the cache (R159), unless an event has refused the fill (R164). -/
def EpState.rlcAnswer (s : EpState) (r : SrcReq) (data : List Byte) : EpState :=
  if !s.rlcOn ∨ !s.advised r.pair ∨ !r.mayFill ∨ r.flags.acquire ∨ r.flags.encrypted then s
  else if r.fillLost then s.mod (fun c => c.bump 0x42014)
  else
    let ls := r.lines.zip (List.range r.lines.length)
    (each ls s (fun s x => s.rlcFill (rlcKey r.pair x.1) ((data.drop (64 * x.2)).take 64))).mod (fun c => c.bump 0x4200C)

/-- A write to `EP_RLC_INVAL` (R167, Table 4.7). -/
def EpState.rlcInval (s : EpState) (v : Nat) : EpState :=
  let n := b2n (bit v 0) + b2n (bit v 1) + b2n (bit v 2)
  if n = 0 then s
  else if 1 < n ∨ bit v 0 then s.rlcDrop (fun _ => true)
  else if bit v 1 then s.rlcDrop (fun p => p / 16 == bits v 11 4)
  else s.rlcDrop (fun p => p == bits v 11 4 * 16 + bits v 15 12)

/-! ### Planes -/

/-- The end-point's own port k is not raised (R92); a paused port counts as raised. -/
def EpState.portDown (s : EpState) (k : Nat) : Bool := !(s.c.port k).inService

/-- Plane k is down toward node d (R92). -/
def EpState.planeDown (s : EpState) (k d : Nat) : Bool := s.portDown k || flag (s.c.rd (0x41000 + 4 * d)) k

/-- First plane up toward d at or after k. -/
def EpState.planeUp (s : EpState) (d k : Nat) : Nat → Option Nat
  | 0 => none
  | n + 1 => if s.planeDown (k % 8) d then EpState.planeUp s d (k + 1) n else some (k % 8)

/-- The hash of R90 over the node, window and 4 KiB unit of a request. -/
def planeHash (seed dst woff : Nat) : Nat := seed ^^^ xor6 ((2 ^ 60 + dst * 2 ^ 52 + woff % 2 ^ 52) / 4096) 8

/-- The plane of a request (R90), if one is up. A relaxed request takes the same (R93 leaves it free; notes/assumptions/9.md). -/
def EpState.planeOf (s : EpState) (dst woff : Nat) : Option Nat :=
  let h := planeHash (s.c.rf' 0x40000 5 0) dst woff % 64
  let p := s.c.rf' (0x40020 + 4 * (h / 8)) (4 * (h % 8) + 2) (4 * (h % 8))
  s.planeUp dst p 8

/-- Mark plane k down toward the node of a request, and record it with the plane that R90 now gives (R125, Table 3.19). The 256 picks of R128 run from when the bit was set. -/
def EpState.markPlane (s : EpState) (k d woff cause : Nat) : EpState :=
  let bit := flag (s.c.rd (0x41000 + 4 * d)) k
  let s1 := { s.modSrc (fun q => { q with downAt := if bit then q.downAt else Tab.put q.downAt (8 * d + k) s.c.pick }) with
    c := s.c.wr (0x41000 + 4 * d) (s.c.rd (0x41000 + 4 * d) ||| BitVec.ofNat 32 (2 ^ k)) }
  let next := (s1.planeOf d woff).getD k
  s1.mod (fun c => c.event 0x40010 (d * 256 + k * 32 + cause * 8 + next))

/-- The plane of a message: R90 over the node that it names, or, toward another domain, the first raised port from there on (R90 and R92 speak of memory and of the domain's own nodes; notes/assumptions/36.md). -/
def EpState.msgPlane (s : EpState) (domain node from_ : Nat) : Option Nat :=
  if domain = s.domain then s.planeOf node 0
  else [0, 1, 2, 3, 4, 5, 6, 7].findSome? (fun i => let k := (from_ + i) % 8; if s.portDown k then none else some k)

/-! ### Sending -/

/-- Add a request in issue order; a store invalidates cache lines at issue (R162), and so does an acquire (R102). -/
def EpState.issue (s : EpState) (r : SrcReq) : EpState :=
  let id := s.src.nextId
  let s1 := if isStore r.op then s.rlcStore r else s
  let s2 := if r.flags.acquire then s1.rlcDrop (fun p => p / 16 == r.dst) else s1
  s2.modSrc (fun q => { q with nextId := id + 1, reqs := q.reqs ++ [{ r with id := id }] })

/-- A request has its SEQ and tag (R69, R196). -/
def SrcReq.live (r : SrcReq) : Bool := r.st != .issued

/-- 4 KiB unit of a request. -/
def SrcReq.unit4k (r : SrcReq) : Nat := r.woff / 4096

/-- A message of a sender (R72), which is no request that names memory. -/
def SrcReq.message (r : SrcReq) : Bool := r.op == opMsgSend

/-- A `WRITE_FLAG_ALL` that still waits for earlier stores (R100). -/
def EpState.flagAllWaits (s : EpState) (r : SrcReq) : Bool := r.op == 4 && s.src.reqs.any (fun x => decide (x.id < r.id) && isStore x.op)

/-- The requests of the list that hold `r` on plane `k` and channel `vc` (R94, R98, R100 to R102, R113, R69). The order of R94 is that in which the end-point assigned SEQ, whichever engine issued (R153). -/
def EpState.held (s : EpState) (r : SrcReq) (k vc : Nat) : Bool :=
  let q := s.src
  let before := q.reqs.filter (fun x => decide (x.id < r.id))
  q.fences.any (fun f => f.engine == r.engine && decide (f.before ≤ r.id)) ||
  (!r.flags.relaxed && !r.message && q.reqs.any (fun x => x.live && !x.flags.relaxed && !x.message && x.dst == r.dst && x.unit4k == r.unit4k && (x.plane != k || x.vc != vc))) ||
  (isFlagged r.op && decide (4 ≤ (q.reqs.filter (fun x => x.live && isFlagged x.op && x.dst == r.dst)).length)) ||
  s.flagAllWaits r ||
  (r.flags.release && before.any (fun x => isStore x.op && x.engine == r.engine)) ||
  (r.op == 1 && before.any (fun x => x.flags.acquire && x.engine == r.engine)) ||
  decide (2048 ≤ (q.reqs.filter (fun x => x.live && x.dst == r.dst)).length)

/-- `EP_CE_` page of an engine (R227). -/
def ceA (e off : Nat) : Nat := (if e < 16 then 0x50000 + e * 0x1000 else 0x10000 + (e - 16) * 0x1000) + off

/-- A tag is free for an engine under the quotas of R195. -/
def EpState.tagFree (s : EpState) (engine : Nat) : Bool :=
  let live := s.src.reqs.filter (·.live)
  let direct := (live.filter (fun r => decide (32 ≤ r.engine))).length
  if engine < 32 then
    decide ((live.filter (fun r => r.engine == engine)).length < s.c.rf' (ceA engine 0x28) 17 0) &&
    decide (live.length - direct + max direct 8192 < 262144)
  else decide (direct < s.c.rf' 0x6003C 17 0) && decide (live.length < 262144)

/-- Next tag not in use. -/
def freeSrcTag (used : List Nat) (t : Nat) : Nat → Nat
  | 0 => t % 262144
  | n + 1 => if used.contains (t % 262144) then freeSrcTag used (t + 1) n else t % 262144

/-- An engine's requests are staked (R322). -/
def EpState.staked (s : EpState) (engine : Nat) : Bool :=
  if engine < 32 then flag (s.rdF 0x900A0) engine
  else flag (s.rdF (0x900C0 + 4 * ((engine - 32) / 32))) ((engine - 32) % 32)

/-- The staked forward flow that a request may take on plane k (R322, R327). -/
def EpState.flowFor (s : EpState) (r : SrcReq) (k : Nat) : Option Nat :=
  if s.staked r.engine && !s.c.time.skewed.contains k then s.flowOf 0 k r.dst else none

/-- The packet of a request or a message (Table 2.5, R44, R49, R72) (R41, R84). Only a request that names memory carries a key (Table 2.10). -/
def EpState.packetOf (s : EpState) (r : SrcReq) (replay : Bool) : Packet :=
  Packet.seal
    { op := r.op, vc := r.vc, flags := { r.flags with flagStore := isFlagged r.op, replay := replay },
      src := s.node, dst := r.dst, pitch := s.pitch, tag := r.tag,
      len := if r.op = 1 then lenCode r.len else lenCode r.data.length,
      woff := r.woff, seq := r.seq, data := r.data,
      key := if r.message then 0 else (s.c.rd (0x34000 + 4 * r.pair)).toNat, cmode := r.cmode, counter := r.counter }

/-- A request completes: it leaves the list, and what it was for is told later in the same step (Table 3.15, R142). `answer` is the response, if one ended it. -/
def EpState.complete (s : EpState) (r : SrcReq) (status : Nat) (answer : Option Packet) : EpState :=
  let bad := status ≠ stOk
  let s1 := s.modSrc (fun q =>
    { q with
      reqs := q.reqs.filter (fun x => x.id != r.id),
      fails := if bad then q.fails ++ [{ id := r.id, engine := r.engine, node := r.dst }] else q.fails,
      done := q.done ++ [match answer with
        | some p => { req := r, status := status, detail := if p.op = opMsgAck then 0 else p.detail, dup := p.status == stDup, measured := some p.flags.measured, data := p.data }
        | none => { req := r, status := status }] })
  if status = stTimeout ∨ 1 < r.reissues then s1.mod (fun c => c.bumpHi 0x4001C)
  else if r.reissues = 1 then s1.mod (fun c => c.bumpLo 0x4001C) else s1

/-- Counter that a request's SEQ comes from: one for each destination node (R68), and for messages one for each pair of domain and node (R72). -/
def SrcReq.seqOf (r : SrcReq) (q : Source) : Nat :=
  if r.message then Tab.get q.msgSeqs 0 (bits r.woff 51 40 * 256 + r.dst) else Tab.get q.seqs 0 r.dst

/-- The counter steps by 1, modulo 4,096 (R68, R72). -/
def SrcReq.stepSeq (r : SrcReq) (q : Source) : Source :=
  let n := (r.seqOf q + 1) % 4096
  if r.message then { q with msgSeqs := Tab.put q.msgSeqs (bits r.woff 51 40 * 256 + r.dst) n } else { q with seqs := Tab.put q.seqs r.dst n }

/-- Give a request its plane, SEQ and tag, and send it (R68, R90, R195, R322); one to the own node is served inside (R21). -/
def EpState.sendReq (s : EpState) (r : SrcReq) (k : Nat) (flow : Option Nat) : EpState :=
  let live := s.src.reqs.filter (·.live)
  let tag := freeSrcTag (live.map (·.tag)) s.src.nextTag live.length
  let r1 := { r with tag := tag, seq := r.seqOf s.src, plane := k, vc := if r.message then 7 else if flow.isSome then 3 else 1, lastIssue := s.c.pick,
                     st := match flow with | some f => .accepting f | none => .sent }
  let s1 := (s.modSrcReq r.id (fun _ => r1)).modSrc (fun q => { (r.stepSeq q) with nextTag := (tag + 1) % 262144 })
  let p := s1.packetOf r1 false
  if k = selfPlane then s1.homeArrive selfPlane p
  else
    match flow with
    | some f => s1.modFlow f (fun g => { g with wait := g.wait ++ [(p, some r.id)] })
    | none => s1.putPacket k p false

/-- The next request that an engine may send: its first one not sent (R152, R190), unless that one still waits for its bytes. Later requests pass a `WRITE_FLAG_ALL` that is held (R100). -/
def EpState.nextToSend (s : EpState) (engine : Nat) : Option SrcReq :=
  match s.src.reqs.find? (fun r => r.engine == engine && r.st == .issued && !s.flagAllWaits r) with
  | some r => if r.ready then some r else none
  | none => none

/-- `REQUEST_SEND` (R94): the engine's next request goes if nothing holds it; one that cannot be sent completes (R92, R141). A request waits behind a fence of its engine whatever would become of it (R113). -/
def EpState.requestSend (s : EpState) (engine : Nat) : EpState :=
  match s.nextToSend engine with
  | none => s
  | some r =>
    if s.src.fences.any (fun f => f.engine == r.engine && decide (f.before ≤ r.id)) then s
    else if s.src.fencedEpoch.isSome then s.complete r stFenced none
    else if r.dst = s.node ∧ !r.message then
      if s.held r selfPlane 1 ∨ !s.tagFree engine then s else s.sendReq r selfPlane none
    else
      match if r.message then s.msgPlane (bits r.woff 51 40) r.dst 0 else s.planeOf r.dst r.woff with
      | none => s.complete r stAbsent none
      | some k =>
        let flow := if r.message then none else s.flowFor r k
        if s.held r k (if r.message then 7 else if flow.isSome then 3 else 1) ∨ !s.tagFree engine then s else s.sendReq r k flow

/-- A message that software hands to its engine (R72): destination domain, node, receive queue, and 1 to 256 bytes, rounded up to whole groups of four cells. -/
def EpState.issueMsg (s : EpState) (engine : Nat) (m : OutMsg) : EpState :=
  let n := m.data.length
  if n = 0 ∨ 256 < n then s
  else s.issue
    { id := 0, engine := engine, op := opMsgSend, dst := m.node % 256, vc := 7,
      woff := m.domain % 4096 * 2 ^ 40 + s.domain % 4096 * 2 ^ 28 + m.queue % 256 * 2 ^ 20 + (n - 1) % 256 * 2 ^ 12,
      data := m.data ++ List.replicate (lenBytes (lenCode n) - n) 0 }

/-! ### Flows -/

/-- RATE of a flow. -/
def EpState.flowRate (s : EpState) (f : Nat) : Nat := fld (s.c.rd (flowA f)) 27 15

/-- Rebuild a packet on another channel. -/
def Packet.onVc (p : Packet) (vc : Nat) : Packet := Packet.seal { p with vc := vc }

/-- Send a waiting packet of a flow that is gone: a request loose on VC1, a response as excess (R324, R327). -/
def EpState.unstake (s : EpState) (plane : Nat) (w : Packet × Option Nat) : EpState :=
  match w.2 with
  | none => s.putPacket plane w.1 true
  | some id =>
    let p := w.1.onVc 1
    (s.modSrcReq id (fun r => { r with st := .sent, vc := 1, lastIssue := s.c.pick })).putPacket plane p false

/-- Packets that wait for a flow that no longer acts, or whose plane is skewed, go loose (R327). -/
def EpState.dropFlows (s : EpState) : EpState :=
  each s.src.flows s (fun s e =>
    let r := s.c.rd (flowA e.1)
    let gone := !flag r 0 || s.c.time.skewed.contains (fld r 5 3)
    if gone && !e.2.wait.isEmpty then
      each e.2.wait (s.modFlow e.1 (fun g => { g with wait := [] })) (fun s w => s.unstake (fld r 5 3) w)
    else s)

/-- `STAKED_ACCEPT` (R311, R323): the head of a flow is accepted when the pick is not quiet and the flow has budget for it. -/
def EpState.stakedAccept (s : EpState) (f : Nat) : EpState :=
  let s0 := s.dropFlows
  let g := Tab.get s0.src.flows {} f
  match g.wait with
  | [] => s0
  | w :: rest =>
    let k := w.1.cellCount + b2n (s0.mustEncrypt w.1)
    if quiet s0.c.pick ∨ g.budget < k then s0
    else
      let plane := fld (s0.c.rd (flowA f)) 5 3
      let s1 := s0.modFlow f (fun g => { g with budget := g.budget - k, wait := rest })
      let s2 := match w.2 with
        | some id => s1.modSrcReq id (fun r => { r with st := .sent, lastIssue := s.c.pick })
        | none => s1
      s2.egress plane 1 { pkt := w.1, at_ := s2.c.now, released := false, flow := some f }

/-- Budgets at a boundary (R311, R323): the whole RATE, scaled by the staked gate (Table 15.2), or nothing in a quiet pick. -/
def EpState.budgets (s : EpState) : EpState :=
  each (s.c.rf.cur.filter (fun e => decide (0x98000 ≤ e.1) && decide (e.1 < 0xA0000) && e.1 % 0x1000 < 0x400 && flag e.2 0 && decide (fld e.2 2 1 < 2))) s (fun s e =>
    let f := (e.1 - 0x98000) / 0x1000 * 256 + e.1 % 0x1000 / 4
    s.modFlow f (fun g => { g with budget := if quiet s.c.pick then 0 else fld e.2 27 15 * s.c.pwr.gs / 64 }))

/-- The loose flow that paces a loose packet, if one is enabled. -/
def EpState.looseFlow (s : EpState) (plane : Nat) (p : Packet) : Option Nat := s.flowOf 2 plane p.dst

/-- A re-issue waits for another one to its own node with a lower SEQ, wherever that waits (R126). -/
def EpState.behindReissue (s : EpState) (e : QEntry) : Bool :=
  let lower := fun (y : QEntry) => y.reissue && y.pkt.dst == e.pkt.dst && y.pkt.seq != e.pkt.seq && decide ((e.pkt.seq + 4096 - y.pkt.seq) % 4096 < 2048)
  e.reissue && (s.clear.any (fun x => lower x.2.2) || (List.range 8).any (fun k => ((s.c.port k).eg.queue 3).any lower))

/-- Re-issues leave without pacing (R337), each once none to its node with a lower SEQ waits (R126). -/
def EpState.freeReissues (s : EpState) : EpState :=
  each (List.range 8) s (fun s k =>
    if ((s.c.port k).eg.queue 3).any (fun e => e.reissue && !e.released && !s.behindReissue e) then
      s.mod (fun c => c.modEgress k (fun g => g.setQueue 3 ((g.queue 3).map (fun e => if e.reissue && !s.behindReissue e then { e with released := true } else e))))
    else s)

/-- Release the entries of queue q of plane k that fall due in the wheel slot that begins at `now` (R325, R337). A flow's next time counts from the packet's own eligible time, or from the slot's beginning where that is later. -/
def EpState.releaseQueue (s : EpState) (k q now : Nat) : List QEntry → EpState
  | [] => s
  | e :: rest =>
    if e.released || e.reissue then EpState.releaseQueue s k q now rest
    else
      let cells := e.pkt.cellCount
      let free := fun (s : EpState) => s.mod (fun c => c.modEgress k (fun g => g.setQueue q ((g.queue q).map (fun x => if x = e then { x with released := true } else x))))
      match e.flow with
      | some f =>
        let g := Tab.get s.src.flows {} f
        let s1 := if g.elig ≤ now + 1023 then (free s).modFlow f (fun g => { g with elig := nextElig g.elig now 0 56 cells (s.flowRate f) }) else s
        EpState.releaseQueue s1 k q now rest
      | none =>
        let eg := (s.c.port k).eg
        let l := min (eg.loose.getD 7500) (gateCells s.c.pwr.gl (s.c.port k).width)
        let lf := s.looseFlow k e.pkt
        let ok := decide (eg.looseElig ≤ now + 1023) && (match lf with | some f => decide ((Tab.get s.src.flows {} f).elig ≤ now + 1023) | none => true)
        let s1 :=
          if ok then
            let s2 := (free s).mod (fun c => c.modEgress k (fun g => { g with looseElig := nextElig g.looseElig now (64 * 1024) 64 cells l }))
            match lf with
            | some f => s2.modFlow f (fun g => { g with elig := nextElig g.elig now (64 * 1024) 64 cells (s.flowRate f) })
            | none => s2
          else s
        EpState.releaseQueue s1 k q now rest

/-- `WHEEL_SLOT` (R325): at a slot of the timing wheel, every packet whose eligible time comes by the end of the slot may leave. -/
def EpState.wheelSlot (s : EpState) (slot : Nat) : EpState :=
  let now := s.c.pick * 65536 + slot % 64 * 1024
  each (List.range 8) s (fun s k =>
    each [1, 3, 5, 6] s (fun s q => s.releaseQueue k q now ((s.c.port k).eg.queue q)))

/-! ### Re-issues -/

/-- Take a request's own packet out of the queues of the plane of its last issue, where it has not left yet. -/
def EpState.unqueue (s : EpState) (r : SrcReq) : EpState :=
  let mine := fun (e : QEntry) => e.pkt.tag == r.tag && e.pkt.src == s.node && isRequest e.pkt.op && e.pkt.seq == r.seq
  let s0 := { s with clear := s.clear.filter (fun x => !mine x.2.2) }
  let s1 := s0.mod (fun c => c.modEgress r.plane (fun g => each [1, 3] g (fun g q => g.setQueue q ((g.queue q).filter (fun e => !mine e)))))
  match r.st with
  | .accepting f => s1.modFlow f (fun g => { g with wait := g.wait.filter (fun w => w.2 != some r.id) })
  | _ => s1

/-- The plane that a re-issue takes (R90, R92). -/
def EpState.reissuePlane (s : EpState) (r : SrcReq) : Option Nat :=
  if r.message then s.msgPlane (bits r.woff 51 40) r.dst (r.plane + 1) else s.planeOf r.dst r.woff

/-- Re-issue a request on the plane that R90 now chooses (R125), one to the own node inside (R21); with no plane up it completes NODE_ABSENT (R92, R130, R155): after a re-issue it has then needed a further one, which counts as lasting (R142).
A message keeps VC7 (R131, Table 2.7). -/
def EpState.reissue (s : EpState) (r : SrcReq) : EpState :=
  let s0 := s.unqueue r
  let r0 := { r with lastIssue := s.c.pick, reissues := r.reissues + 1, st := .sent }
  if r.plane = selfPlane then (s0.modSrcReq r.id (fun _ => r0)).homeArrive selfPlane (s0.packetOf r0 true)
  else
    match s0.reissuePlane r with
    | none => s0.complete { r with reissues := if r.reissues = 0 then 0 else r.reissues + 1 } stAbsent none
    | some k =>
      let r1 := { r0 with plane := k, vc := if r.message then 7 else 1 }
      let s1 := s0.modSrcReq r.id (fun _ => r1)
      let p := s1.packetOf r1 true
      if r.message then s1.putPacket k p false
      else s1.egress k 3 { pkt := p, at_ := s0.c.now, released := false, reissue := true }

/-- `RESPONSE_TIMEOUT` in picks (Table 3.18). -/
def EpState.rspTimeout (s : EpState) : Nat := min 1000 (max 64 (s.c.rf' 0x40004 15 0))

/-- The outstanding request of a tag. -/
def EpState.byTag (s : EpState) (tag : Nat) : Option SrcReq := s.src.reqs.find? (fun r => r.live && r.tag == tag)

/-- A request has timed out (R124). -/
def EpState.timedOut (s : EpState) (r : SrcReq) : Bool := r.st == .sent && decide (r.lastIssue + s.rspTimeout ≤ s.c.pick)

/-- The own port of a request's plane is down, and 64 picks have passed since its last issue (Table 3.11). -/
def EpState.portLostFor (s : EpState) (r : SrcReq) : Bool := r.st == .sent && r.plane != selfPlane && s.portDown r.plane && decide (r.lastIssue + 64 ≤ s.c.pick)

/-- Mark the plane of a request down toward its node; a message to another domain names no node of this one, and marks nothing (notes/assumptions/36.md). -/
def EpState.markFor (s : EpState) (r : SrcReq) (cause : Nat) : EpState :=
  if r.message && bits r.woff 51 40 != s.domain then s else s.markPlane r.plane r.dst r.woff cause

/-- Act on a request that has timed out (R124, R125, R127): the third time-out completes it. -/
def EpState.timeOut (s : EpState) (r : SrcReq) : EpState :=
  let r1 := { r with timeouts := r.timeouts + 1 }
  let s1 := s.modSrcReq r.id (fun _ => r1)
  if 3 ≤ r1.timeouts then (s1.unqueue r1).complete r1 stTimeout none
  else if r.plane = selfPlane then s1.reissue r1
  else (s1.markFor r 1).reissue r1

/-- Re-issue for a lost own port (Table 3.11). -/
def EpState.portReissue (s : EpState) (r : SrcReq) : EpState :=
  let next := (s.reissuePlane r).getD r.plane
  (s.mod (fun c => c.event 0x40010 (r.dst * 256 + r.plane * 32 + 2 * 8 + next))).reissue r

/-- Requests of the list in SEQ order, the lowest first, counted back from `r`'s own SEQ. -/
def seqOrdered (r : SrcReq) : List SrcReq → List SrcReq
  | [] => []
  | x :: rest =>
    let key := fun (y : SrcReq) => (r.seq + 4096 - y.seq) % 4096
    let tail := seqOrdered r rest
    tail.filter (fun y => decide (key x ≤ key y)) ++ x :: tail.filter (fun y => decide (key y < key x))

/-- The requests to the node of `r` that meet the same trigger and whose SEQ is not above its own, in SEQ order: re-issues to one destination are sent so (R126). -/
def EpState.dueWith (s : EpState) (r : SrcReq) (due : SrcReq → Bool) : List SrcReq :=
  seqOrdered r (s.src.reqs.filter (fun x => x.live && x.dst == r.dst && x.message == r.message && due x && decide ((r.seq + 4096 - x.seq) % 4096 < 2048)))

/-- `RESPONSE_TIMEOUT` of a tag (R124, R126); messages share the rules of Table 3.11 (R131), and so do requests to the own node (R21). -/
def EpState.responseTimeout (s : EpState) (tag : Nat) : EpState :=
  match s.byTag tag with
  | none => s
  | some r => if s.timedOut r then each (s.dueWith r s.timedOut) s (fun s x => s.timeOut x) else s

/-- `PORT_DOWN_REISSUE` of a tag (Table 3.11, R126). -/
def EpState.portDownReissue (s : EpState) (tag : Nat) : EpState :=
  match s.byTag tag with
  | none => s
  | some r => if s.portLostFor r then each (s.dueWith r s.portLostFor) s (fun s x => s.portReissue x) else s

/-- Plane-down bits that may clear at a quiet pick (R128). -/
def EpState.clearPaths (s : EpState) : EpState :=
  if !quiet s.c.pick then s
  else
    each s.src.downAt s (fun s e =>
      let d := e.1 / 8
      let k := e.1 % 8
      if decide (e.2 + 256 ≤ s.c.pick) && !s.portDown k && !(s.src.reqs.any (fun r => r.live && r.dst == d && r.plane == k)) then
        { s.modSrc (fun q => { q with downAt := Tab.del q.downAt e.1 }) with
          c := s.c.wr (0x41000 + 4 * d) (s.c.rd (0x41000 + 4 * d) &&& ~~~ BitVec.ofNat 32 (2 ^ k)) }
      else s)

/-! ### Responses -/

/-- A membership epoch is later than another, modulo 2^32 (R571). -/
def laterEpoch (a b : Nat) : Bool := let d := (a + 2 ^ 32 - b) % 2 ^ 32; decide (0 < d) && decide (d < 2 ^ 31)

/-- A request has never left the part: it waits to be sent, for its flow, in a queue, or for the cipher (Table 3.1). -/
def EpState.unsent (s : EpState) (r : SrcReq) : Bool :=
  let mine := fun (p : Packet) => p.tag == r.tag && p.src == s.node && p.seq == r.seq && p.op == r.op
  match r.st with
  | .issued => true
  | .accepting _ => r.reissues == 0
  | .sent => r.reissues == 0 && r.timeouts == 0 && r.plane != selfPlane &&
      (s.clear.any (fun x => mine x.2.2.pkt) || [1, 3, 5, 6].any (fun q => ((s.c.port r.plane).eg.queue q).any (fun e => mine e.pkt)))
  | .reissue _ => false

/-- What the fenced state does to requests not yet sent: they complete FENCED (R141). -/
def EpState.dropUnsent (s : EpState) : EpState :=
  each (s.src.reqs.filter s.unsent) s (fun s r => (s.unqueue r).complete r stFenced none)

/-- The fenced state begins under an epoch (R141); notice FENCED on the change. -/
def EpState.enterFenced (s : EpState) (epoch : Nat) : EpState :=
  let held := (s.c.rd (0xD0040)).toNat
  let s1 := if laterEpoch epoch held then s.mod (fun c => c.wr 0xD0040 (BitVec.ofNat 32 epoch)) else s
  if s.src.fencedEpoch.isSome then s1
  else
    ((s1.modSrc (fun q => { q with fencedEpoch := some epoch })).notice 0x06 1090 epoch 1).dropUnsent

/-- What a response does to the request it matches (Table 3.15). An acquire drops its node's lines before it completes (R102); the event was counted at its issue. -/
def EpState.answerReq (s : EpState) (r : SrcReq) (p : Packet) : EpState :=
  let st := if statusListed p.status then p.status else stMalformed
  if st = stOk ∨ st = stDup then
    let s1 := if p.op = 0x10 ∧ st = stOk then s.rlcAnswer r p.data else s
    let s2 := if r.flags.acquire then s1.rlcPurge (fun x => x / 16 == r.dst) else s1
    s2.complete r stOk (some p)
  else if st = stAbsent ∧ !r.message ∧ r.dst ≠ s.node then (s.markPlane (p.detail % 256 % 8) r.dst r.woff 0).reissue r
  else if st = stFenced then (s.enterFenced (if p.op = opMsgAck then (s.c.rd 0xD0040).toNat else p.detail)).complete r stFenced (some p)
  else s.complete r st (some p)

/-- A response matches an outstanding operation (R71). -/
def SrcReq.matches_ (r : SrcReq) (p : Packet) : Bool :=
  r.live && r.tag == p.tag && r.dst == p.src && r.seq == p.seq && answerOp r.op == p.op

/-- A response is well formed as the answer to a request: flags, channel, data cells, and the size asked (R49, R50, R53). -/
def SrcReq.wellAnswered (r : SrcReq) (p : Packet) : Bool :=
  (badHeader p).isNone && lenAllowed p && (p.op != 0x10 || p.len == 0 || p.len == lenCode r.len)

/-- A response packet after its CRC check (R63, R71, R662): it completes its operation, or is stray; a malformed one is dropped, and R124 goes on (DESIGN CHOICE, notes/assumptions/81.md). -/
def EpState.response (s : EpState) (p : Packet) : EpState :=
  match s.src.reqs.find? (fun r => r.matches_ p && !(p.flags.encrypted && decide (s.c.senderPick p < r.lastIssue))) with
  | none => s.mod (fun c => c.bump 0x40014)
  | some r => if r.wellAnswered p then (s.unqueue r).answerReq r p else s

/-- Responses of the end-point to its own requests (R21). -/
def EpState.takeLoop (s : EpState) : EpState :=
  each s.loop { s with loop := [] } (fun s p => s.response p)

/-! ### Fences -/

/-- A request is in the scope of a fence (R112). -/
def FenceRun.covers (f : FenceRun) (id engine node : Nat) : Bool :=
  decide (id < f.before) && (f.all || f.engine == engine) && (match f.node with | some n => n == node | none => true)

/-- The fence of an engine may complete (R112, R114). -/
def EpState.fenceReady (s : EpState) (f : FenceRun) : Bool :=
  !(s.src.reqs.any (fun r => f.covers r.id r.engine r.dst))

/-- Errors that a fence reports: in its scope, and not reported by an earlier fence of its engine (R115). -/
def EpState.fenceErrors (s : EpState) (f : FenceRun) : Nat :=
  (s.src.fails.filter (fun x => f.covers x.id x.engine x.node && !x.reported.contains f.engine)).length

/-- A fence ends: its errors count as reported by its engine. -/
def EpState.endFence (s : EpState) (f : FenceRun) : EpState :=
  s.modSrc (fun q =>
    { q with
      fences := q.fences.erase f,
      fails := q.fails.map (fun x => if f.covers x.id x.engine x.node ∧ !x.reported.contains f.engine then { x with reported := x.reported ++ [f.engine] } else x) })

/-- A fence begins (R112, R113). -/
def EpState.startFence (s : EpState) (f : FenceRun) : EpState :=
  s.modSrc (fun q => { q with fences := q.fences ++ [{ f with before := q.nextId }] })

end Sys2Proof.Machine
end

