-- ==== Sys2Proof/Machine/EpXlt.lean ====
section
/-!
DEFINITION. Translation (R197 to R207) and translation commands (R208 to R217).
-/

namespace Sys2Proof.Machine

/-- Change the translation state. -/
def EpState.modXlt (s : EpState) (f : Xlt → Xlt) : EpState := { s with xlt := f s.xlt }

/-- Two ranges of bytes overlap. -/
def overlap (a n b m : Nat) : Bool := decide (a < b + m) && decide (b < a + n)

/-- Tag the access asked for last with the translation it was made through, its unit, and the piece in whose name it was translated (R210). -/
def EpState.throughFor (s : EpState) (span : Option (Nat × Nat × Nat)) (unit piece : Nat) : EpState :=
  let last := s.lha.nextEreq - 1
  s.modLha (fun l => { l with ereqs := l.ereqs.map (fun e => if e.id = last then { e with span := span, unit := unit, piece := piece } else e) })

/-- Tag the access asked for last with the translation it was made through now, and its unit (R210). -/
def EpState.through (s : EpState) (span : Option (Nat × Nat × Nat)) (unit : Nat) : EpState := s.throughFor span unit 0

/-- The span of a leaf, as accesses carry it. -/
def Leaf.span (l : Leaf) : Option (Nat × Nat × Nat) := some (l.asid, l.va, l.bytes)

/-- The address that a leaf gives (R199). -/
def Leaf.at (l : Leaf) (va : Nat) : Nat := l.target + (va - l.va)

/-- A leaf maps an address. -/
def Leaf.maps (l : Leaf) (asid va : Nat) : Bool := l.asid == asid && decide (l.va ≤ va) && decide (va < l.va + l.bytes)

/-- A page's range is pinned. -/
def Xlt.pinned (x : Xlt) (l : Leaf) : Bool := x.pins.any (fun p => p.1 == l.asid && p.2.1 == l.va && p.2.2 == l.bytes)

/-- An address lies in a streaming range (Table 5.14). -/
def Xlt.streaming (x : Xlt) (asid va : Nat) : Bool := x.streams.any (fun p => p.1 == asid && decide (p.2.1 ≤ va) && decide (va < p.2.1 + p.2.2))

/-- Put an entry into a full or not yet full store of `n` entries; the part chooses what a full store loses. -/
def putCapped {α : Type} (n key : Nat) (l : List α) (x : α) : List α :=
  if l.length < n then l ++ [x] else l.eraseIdx (Config.tlbVictim n key % max 1 l.length) ++ [x]

/-- Entries of a unit's micro-TLB. -/
def microSize (unit : Nat) : Nat := if unit < 32 then 64 else 256

/-- Fill a unit's micro-TLB with a leaf. -/
def EpState.fillMicro (s : EpState) (unit : Nat) (l : Leaf) : EpState :=
  s.modXlt (fun x => { x with micro := Tab.upd x.micro [] unit (fun t => if t.contains l then t else putCapped (microSize unit) l.va t l) })

/-- Fill the shared TLB with a leaf: 2,048 sets of 16 ways; pinned leaves stay. -/
def EpState.fillShared (s : EpState) (l : Leaf) : EpState :=
  s.modXlt (fun x =>
    if x.shared.contains l then x
    else
      let setOf := fun (k : Leaf) => Config.tlbSet k.asid k.va % 2048
      let set := x.shared.filter (fun k => setOf k == setOf l && !x.pinned k)
      let all := (x.shared.filter (fun k => setOf k == setOf l)).length
      if all < 16 then { x with shared := x.shared ++ [l] }
      else
        match set[Config.tlbVictim 16 l.va % max 1 set.length]? with
        | some v => { x with shared := x.shared.erase v ++ [l] }
        | none => x)

/-- Root register of an address space. -/
def EpState.root (s : EpState) (asid : Nat) : Option Nat :=
  let lo := s.c.rd (0x61000 + asid * 0x10)
  if flag lo 0 then some ((s.c.rd (0x61004 + asid * 0x10)).toNat * 2 ^ 32 + fld lo 31 12 * 4096) else none

/-- Bytes that an entry of a level covers (Table 5.6). -/
def levelBytes : Nat → Nat
  | 0 => 2 ^ 39
  | 1 => 2 ^ 30
  | 2 => 2 ^ 21
  | _ => 2 ^ 16

/-- Index of an address in a table of a level (Table 5.6). -/
def levelIndex (level va : Nat) : Nat := va / levelBytes level % (if level = 3 then 32 else 512)

/-- Address of the entry that a walk reads next. -/
def Walk.entryA (w : Walk) : Nat := w.table + 8 * levelIndex w.level w.va

/-- Read the entry that a walk stands at (R202). -/
def EpState.readEntry (s : EpState) (w : Walk) : EpState := s.mrd (.walk w.id) (w.entryA / 64 * 64) 4

/-- The deepest table entry of the walk cache for an address (Table 5.6). -/
def EpState.cached (s : EpState) (asid va : Nat) : Option TableEntry :=
  if !flag (s.c.rd 0x60000) 1 then none
  else
    [2, 1, 0].findSome? (fun l => s.xlt.tables.find? (fun t => t.level == l && t.asid == asid && t.va == va / levelBytes l * levelBytes l))

/-- Start a walk (R198). -/
def EpState.startWalk (s : EpState) (asid va unit kind root : Nat) : EpState :=
  let c := if kind = 2 then none else s.cached asid va
  let w : Walk := match c with
    | some t => { id := s.xlt.nextWalk, asid := asid, va := va, unit := unit, level := t.level + 1, table := t.next, kind := kind }
    | none => { id := s.xlt.nextWalk, asid := asid, va := va, unit := unit, level := 0, table := root, kind := kind }
  (s.modXlt (fun x => { x with nextWalk := x.nextWalk + 1, walks := x.walks ++ [w] })).readEntry w

/-- Issues to a range wait while an `INVALIDATE` or `MIGRATE` blocks it (R210, R215). -/
def EpState.blockedRange (s : EpState) (asid va n : Nat) : Bool :=
  s.xlt.cmds.any (fun c => c.blocking && c.asid == asid && overlap c.va c.length va n)

/-- What a translation gives. -/
inductive Trans where
  | leaf (l : Leaf)
  | fault
  | wait
  deriving DecidableEq, Repr

/-- The leaf of an address for a unit (R197, R203, R204): from a TLB, or by a walk that is begun and waited for. -/
def EpState.translate (s : EpState) (unit asid va : Nat) : Trans × EpState :=
  if 2 ^ 48 ≤ va ∨ !flag (s.c.rd 0x60000) 0 then (.fault, s)
  else
    match s.root asid with
    | none => (.fault, s)
    | some root =>
      if s.blockedRange asid va 1 then (.wait, s)
      else
        match (Tab.get s.xlt.micro [] unit).find? (fun l => l.maps asid va) with
        | some l => (.leaf l, s)
        | none =>
          match s.xlt.shared.find? (fun l => l.maps asid va) with
          | some l => (.leaf l, s.fillMicro unit l)
          | none =>
            if s.xlt.faults.contains (asid, va / 65536) then (.fault, s)
            else if s.xlt.walks.any (fun w => w.kind == 0 && w.asid == asid && w.va / 65536 == va / 65536 && !w.stale) then (.wait, s)
            else
              let s1 := s.mod (fun c => c.bump 0x60008)
              if 64 ≤ s.xlt.walks.length then (.wait, s) else (.wait, s1.startWalk asid va unit 0 root)

/-- The pages of the next tiles of a stream join those that the prefetcher has to walk (R206). -/
def EpState.prefetch (s : EpState) (stream asid va : Nat) : EpState :=
  let r := s.c.rd (0x62000 + stream * 0x10)
  if stream = 0 ∨ !flag r 0 ∨ !flag (s.c.rd 0x60000) 0 then s
  else
    let delta := untwos 64 ((s.c.rd (0x62004 + stream * 0x10)).toNat + (s.c.rd (0x62008 + stream * 0x10)).toNat * 2 ^ 32)
    let spanPages := fld r 31 16
    each (List.range (min 16 (fld r 12 8))) s (fun s k =>
      let a := (va : Int) + (k + 1) * delta
      let first := a / 65536
      let last := (a + spanPages * 65536 - 1) / 65536
      if spanPages = 0 then s
      else
        let pages := ((List.range (last - first + 1).toNat).map (fun (i : Nat) => (first + i) * 65536)).filter (fun p => decide (0 ≤ p) && decide (p < 2 ^ 48))
        s.modXlt (fun x => { x with ahead := x.ahead ++ pages.map (fun p => (asid, p.toNat)) }))

/-- Walk the pages of the prefetcher while it may hold walk slots (R207): after every demand walk has been tried, in order. It skips a page whose translation the shared TLB holds or for which a walk runs (R206). -/
def EpState.prefetchRun (s : EpState) : List (Nat × Nat) → EpState
  | [] => s
  | (asid, p) :: rest =>
    let pop := fun (s : EpState) => s.modXlt (fun x => { x with ahead := rest })
    let known := s.xlt.shared.any (fun l => l.maps asid p) || s.xlt.walks.any (fun w => w.asid == asid && w.va / 65536 == p / 65536 && w.kind != 2)
    match s.root asid with
    | none => EpState.prefetchRun (pop s) rest
    | some root =>
      if known || !flag (s.c.rd 0x60000) 0 then EpState.prefetchRun (pop s) rest
      else if min 64 (s.c.rf' 0x60000 14 8) ≤ (s.xlt.walks.filter (fun w => w.kind == 1)).length ∨ 64 ≤ s.xlt.walks.length ∨ s.blockedRange asid p 65536 then s
      else EpState.prefetchRun (((pop s).mod (fun c => c.bump 0x60010)).startWalk asid p 32 1 root) rest

/-- The prefetcher goes on as far as it may. -/
def EpState.prefetchGo (s : EpState) : EpState := s.prefetchRun s.xlt.ahead

/-- How a walk ends. -/
inductive WalkEnd where
  | leaf (l : Leaf)
  /-- No valid leaf; bytes that the failing entry covers. -/
  | fault (bytes : Nat)
  /-- A lasting read error (R202). -/
  | error
  deriving DecidableEq, Repr

/-- What an entry says at a level of a walk (Table 5.7, R200): the next table, or the end of the walk (R40). -/
def entryStep (w : Walk) (e : Nat) : Nat ⊕ WalkEnd :=
  let fault : Nat ⊕ WalkEnd := .inr (.fault (levelBytes w.level))
  if !bit e 0 ∨ bits e 7 5 ≠ 0 then fault
  else if bit e 1 then
    let t := bits e 63 16 * 65536
    let n := levelBytes w.level
    if w.level = 0 ∨ bits e 15 8 ≠ 0 ∨ t % n ≠ 0 ∨ (bit e 2 ∧ t / 2 ^ 60 ≠ 1) then fault
    else .inr (.leaf { asid := w.asid, va := w.va / n * n, bytes := n, target := t, global_ := bit e 2, w := bit e 3, at_ := bit e 4, entry := w.entryA })
  else
    let t := bits e 63 8 * 256
    if w.level = 3 ∨ (w.level < 2 ∧ t % 4096 ≠ 0) then fault else .inl t

/-! ### Commands -/

/-- Change a command. -/
def EpState.modCmd (s : EpState) (slot : Nat) (f : XqCmd → XqCmd) : EpState :=
  s.modXlt (fun x => { x with cmds := x.cmds.map (fun c => if c.slot = slot then f c else c) })

/-- Slots of the command rings: 2^LOG2_SLOTS, within 4 to 16. -/
def ringSlots (log2 : Nat) : Nat := 2 ^ min 16 (max 4 log2)

/-- Two commands cover overlapping ranges of one address space (R208). -/
def XqCmd.meets (a b : XqCmd) : Bool := a.asid == b.asid && overlap a.va a.length b.va b.length

/-- A command is running. -/
def XqCmd.running (c : XqCmd) : Bool := c.st != .fetching && c.st != .waiting

/-- A walk may still end in a leaf that covers bytes of a range: leaves map at most 1 GiB (Table 5.6). -/
def Walk.mayReach (w : Walk) (asid va n : Nat) : Bool :=
  let b := levelBytes (max 1 w.level)
  w.asid == asid && overlap (w.va / b * b) b va n

/-- Drop the translations of a range from every TLB and the walk cache, and cancel its prefetch walks; walks begun before that may read a leaf of the range are stale (R210, R211). -/
def EpState.dropRange (s : EpState) (asid va n : Nat) : EpState :=
  let inRange := fun (l : Leaf) => l.asid == asid && overlap l.va l.bytes va n
  s.modXlt (fun x =>
    { x with
      micro := x.micro.map (fun e => (e.1, e.2.filter (fun l => !inRange l))),
      shared := x.shared.filter (fun l => !inRange l),
      tables := x.tables.filter (fun t => !(t.asid == asid && overlap t.va (levelBytes t.level) va n)),
      ahead := x.ahead.filter (fun p => !(p.1 == asid && overlap p.2 65536 va n)),
      walks := (x.walks.filter (fun w => !(w.kind == 1 && w.asid == asid && overlap (w.va / 65536 * 65536) 65536 va n))).map
        (fun w => if w.mayReach asid va n then { w with stale := true } else w) })

/-- The block point of a command (R210). -/
def EpState.blockCmd (s : EpState) (c : XqCmd) : EpState :=
  (s.dropRange c.asid c.va c.length).modCmd c.slot (fun c =>
    { c with st := .draining, blocking := true, blockAt := s.c.pick, beforeReq := s.src.nextId, beforeEreq := s.lha.nextEreq, beforePiece := s.nextPiece })

/-- A span lies in the range of a command. -/
def XqCmd.hits (c : XqCmd) (span : Option (Nat × Nat × Nat)) : Bool :=
  match span with
  | some (a, v, n) => a == c.asid && overlap c.va c.length v n
  | none => false

/-- Work translated before the block point and still in flight in the range (R210): its unit, and the leaf's place. A local write counts from its piece's translation on, and an ATOMIC's operand block until OLD stands in it. -/
def EpState.undrained (s : EpState) (c : XqCmd) : List (Nat × Option (Nat × Nat × Nat)) :=
  let early := fun (piece : Nat) => decide (0 < piece) && decide (piece < c.beforePiece)
  (s.src.reqs.filter (fun r => decide (r.id < c.beforeReq) && c.hits r.span)).map (fun r => (min 32 r.engine, r.span)) ++
  (s.lha.ereqs.filter (fun e => (decide (e.id < c.beforeEreq) || early e.piece) && c.hits e.span)).map (fun e => (e.unit, e.span)) ++
  (s.pieces.filter (fun p => early p.id && (c.hits p.span || c.hits p.dspan))).map (fun p => (p.engine, if c.hits p.span then p.span else p.dspan)) ++
  s.ces.flatMap (fun e => (e.2.jobs.filter (fun j => early j.piece && c.hits j.span && j.left != 0)).map (fun j => (e.1, j.span)))

/-- The lowest address of a command's range that work in flight touches, as far as leaves tell it. -/
def XqCmd.firstStuck (c : XqCmd) (us : List (Nat × Option (Nat × Nat × Nat))) : Nat :=
  (us.filterMap (fun u => u.2.map (fun p => max c.va p.2.1))).foldl min (c.va + c.length)

/-- The completion record of a command, its phase bit left out (Table 5.10). -/
def XqCmd.record (c : XqCmd) (status unit detail : Nat) : List Byte :=
  leBytes status 2 ++ [0, BitVec.ofNat 8 unit] ++ leBytes c.epoch 4 ++ leBytes detail 8 ++ leBytes c.count 4 ++ (c.body.drop 60).take 4 ++ List.replicate 8 0

/-- A command ends: its record waits for the completion ring, or goes back to XLT_CMD; issues it held go on. -/
def EpState.endCmd (s : EpState) (c : XqCmd) (status unit detail : Nat) : EpState :=
  let r := c.record status unit detail
  s.modXlt (fun x =>
    match c.fromMgmt with
    | some tag => { x with cmds := x.cmds.filter (fun d => d.slot != c.slot), mgmtDone := x.mgmtDone ++ [(tag, r)] }
    | none => { x with cmds := x.cmds.filter (fun d => d.slot != c.slot), done := Tab.put x.done c.slot r })

/-- Decode the body of a command (Table 5.9). -/
def XqCmd.ofBody (c : XqCmd) (b : List Byte) : XqCmd :=
  let whole := bit (pb b 3) 0
  { c with
    st := .waiting, body := b, cmd := pb b 0, asid := pb b 1 % 64, kind := pb b 2, epoch := leNat ((b.drop 4).take 4),
    va := if whole then 0 else leNat ((b.drop 8).take 8), length := if whole then 2 ^ 48 else leNat ((b.drop 16).take 8),
    newPa := leNat ((b.drop 24).take 8) }

/-- The body breaks Table 5.9: CMD_INVALID, then MISALIGNED (Table 5.11). -/
def XqCmd.refusal (c : XqCmd) : Option Nat :=
  let b := c.body
  let z := fun (o n : Nat) => leNat ((b.drop o).take n) == 0
  let advise := c.cmd == 3
  if !(c.cmd == 1 || c.cmd == 2 || advise) || decide (64 ≤ pb b 1) || decide (2 ≤ pb b 3) || !z 32 28 then some 7
  else if (if advise then !(decide (1 ≤ c.kind) && decide (c.kind ≤ 5)) else c.kind != 0) then some 7
  else if bit (pb b 3) 0 && !(z 8 8 && z 16 8) then some 7
  else if (c.cmd != 1 && !z 4 4) || (c.cmd != 2 && !z 24 8) then some 7
  else if c.va % 65536 ≠ 0 ∨ c.length % 65536 ≠ 0 ∨ c.newPa % 65536 ≠ 0 then some 4
  else none

/-- Pairs that a leaf names in a range: the node and window of each 64 KiB page (a leaf of at most 1 GiB lies in one window). -/
def Leaf.pair (l : Leaf) : Nat := l.target / 2 ^ 52 % 256 * 16 + l.target / 2 ^ 48 % 16

/-- Change the advice bit of a pair; a change of advice drops the pair's lines (R162, R217). -/
def EpState.setAdvice (s : EpState) (pair : Nat) (on : Bool) : EpState :=
  let a := 0x42100 + 4 * (pair / 32)
  let s1 := s.mod (fun c => c.wrF a (pair % 32) (pair % 32) (b2n on))
  s1.rlcDrop (fun p => p == pair)

/-- The work of an `ADVISE` on one leaf (Table 5.14). `none`: the limit of pinned translations is met. -/
def EpState.adviseLeaf (s : EpState) (c : XqCmd) (l : Leaf) : Option EpState :=
  match c.kind with
  | 1 =>
    if s.xlt.pinned l then some (s.fillShared l)
    else if 4096 ≤ s.xlt.pins.length then none
    else some ((s.modXlt (fun x => { x with pins := x.pins ++ [(l.asid, l.va, l.bytes)] })).fillShared l)
  | 2 => some (if l.global_ then s.setAdvice l.pair true else s)
  | 4 => some (if l.global_ then s.rlcDrop (fun p => p == l.pair) else s)
  | 5 => some (if l.global_ then s.setAdvice l.pair false else s)
  | _ => some s

/-- No page of what is left of a command's range has a valid leaf (R197, R215, R217). -/
def EpState.noLeaves (s : EpState) (c : XqCmd) : EpState :=
  if c.cmd = 2 then s.endCmd c 2 0 c.cursor
  else s.endCmd { c with count := c.count + (c.va + c.length - c.cursor) / 65536 } 0 0 0

/-- Go on to the next page of a walking command: another walk while one of the 64 slots is free, or the work that follows the last page. -/
def EpState.cmdNext (s : EpState) (slot : Nat) : EpState :=
  match s.xlt.cmds.find? (fun c => c.slot == slot) with
  | none => s
  | some c =>
    if c.cursor < c.va + c.length then
      match s.root c.asid with
      | some root =>
        if 2 ^ 48 ≤ c.cursor then s.noLeaves c
        else if 64 ≤ s.xlt.walks.length then s
        else s.startWalk c.asid c.cursor slot 2 root
      | none => s.noLeaves c
    else if c.cmd = 3 then s.endCmd c 0 0 0
    else
      let big := c.leaves.foldl (fun a l => max a l.bytes) 65536
      let bad := c.leaves.find? (fun l => decide (l.va < c.va) || decide (c.va + c.length < l.va + l.bytes) || (c.newPa + (l.va - c.va)) % l.bytes != 0)
      let windows := (List.range 16).filter (fun w => flag (s.win w 0) 0 && s.winSize w != 0)
      let inWin := fun (a n : Nat) => windows.any (fun w => overlap a n (s.winBase w) (s.winSize w))
      if c.newPa % big ≠ 0 ∨ bad.isSome then s.endCmd c 4 0 (match bad with | some l => l.va | none => c.va)
      else if inWin c.newPa c.length then s.endCmd c 3 0 c.va
      else
        match c.leaves.find? (fun l => inWin l.target l.bytes) with
        | some l => s.endCmd c 3 0 l.va
        | none => s.blockCmd c

/-- A walk of a command has ended. -/
def EpState.cmdWalked (s : EpState) (slot : Nat) (e : WalkEnd) : EpState :=
  match s.xlt.cmds.find? (fun c => c.slot == slot) with
  | none => s
  | some c =>
    let ends := c.va + c.length
    match e with
    | .error => s.endCmd c 8 0 c.cursor
    | .fault n =>
      if c.cmd = 2 then s.endCmd c 2 0 c.cursor
      else
        let next := min ends ((c.cursor / n + 1) * n)
        (s.modCmd slot (fun c => { c with cursor := next, count := c.count + (next - c.cursor) / 65536 })).cmdNext slot
    | .leaf l =>
      if c.cmd = 2 ∧ l.global_ then s.endCmd c 2 0 c.cursor
      else
        let go := fun (s : EpState) => (s.modCmd slot (fun c => { c with cursor := l.va + l.bytes, leaves := if c.cmd = 2 then c.leaves ++ [l] else c.leaves })).cmdNext slot
        if c.cmd = 2 then go s
        else
          match s.adviseLeaf c l with
          | some s1 => go s1
          | none => s.endCmd c 5 0 c.cursor

/-- The walker's read of an entry has been answered (R200, R202, R203, R211). -/
def EpState.walkArsp (s : EpState) (id status : Nat) (data : List Byte) : EpState :=
  match s.xlt.walks.find? (fun w => w.id == id) with
  | none => s
  | some w =>
    let close := fun (s : EpState) (e : WalkEnd) =>
      let s1 := s.modXlt (fun x => { x with walks := x.walks.filter (fun v => v.id != id) })
      if w.kind = 2 then (if w.stale then s1.cmdNext w.unit else s1.cmdWalked w.unit e)
      else if w.stale then s1
      else
        match e with
        | .leaf l =>
          let stream := s.xlt.streaming w.asid w.va
          let s2 := if w.kind = 0 then s1.fillMicro w.unit l else s1
          if stream then s2 else s2.fillShared l
        | _ =>
          if w.kind = 1 then s1.mod (fun c => c.bump 0x60014)
          else s1.modXlt (fun x => { x with faults := x.faults ++ [(w.asid, w.va / 65536)] })
    if status ≠ 0 then
      if w.retried then close (s.mod (fun c => c.bumpHi 0x6000C)) .error
      else (s.modXlt (fun x => { x with walks := x.walks.map (fun v => if v.id = id then { v with retried := true } else v) })).readEntry w
    else
      let s1 := if w.retried then s.mod (fun c => c.bumpLo 0x6000C) else s
      let e := leNat ((data.drop (w.entryA % 64)).take 8)
      match entryStep w e with
      | .inr r => close s1 r
      | .inl next =>
        let n := levelBytes w.level
        let t : TableEntry := { level := w.level, asid := w.asid, va := w.va / n * n, next := next }
        let w1 := { w with level := w.level + 1, table := next, retried := false }
        let s2 := s1.modXlt (fun x =>
          { x with
            walks := x.walks.map (fun v => if v.id = id then w1 else v),
            tables := if w.stale ∨ w.kind = 2 ∨ x.tables.contains t then x.tables else putCapped 1024 w.va x.tables t })
        s2.readEntry w1

/-- Commands that wait for a walk slot go on when one is free. -/
def EpState.walkCmds (s : EpState) : EpState :=
  each (s.xlt.cmds.filter (fun c => c.st == .walking && !s.xlt.walks.any (fun w => w.kind == 2 && w.unit == c.slot))) s (fun s c => s.cmdNext c.slot)

/-- `EP_XQ_DOORBELL` (R185, R208): a value behind or too far ahead is ignored; commands posted are read from the ring. -/
def EpState.xqDoorbell (s : EpState) (v : Nat) : EpState :=
  let ctl := s.c.rd 0x60028
  let n := ringSlots (fld ctl 12 8)
  let ahead := (v + 2 ^ 32 - s.xlt.cons) % 2 ^ 32
  let had := (s.xlt.asked + 2 ^ 32 - s.xlt.cons) % 2 ^ 32
  if !flag ctl 0 ∨ n < ahead then s
  else
    let base := (s.c.rd 0x6001C).toNat * 2 ^ 32 + fld (s.c.rd 0x60018) 31 12 * 4096
    let s1 := s.modXlt (fun x => { x with prod := v })
    each (List.range (ahead - had)) s1 (fun s _ =>
      let i := s.xlt.asked
      let slot := s.xlt.nextSlot
      (s.modXlt (fun x =>
        { x with
          asked := (i + 1) % 2 ^ 32, nextSlot := slot + 1, order := x.order ++ [slot],
          cmds := x.cmds ++ [{ slot := slot }] })).mrd (.xqDesc slot) (base + i % n * 64) 4)

/-- A command's 64 bytes have been read; an error in the read makes it invalid. -/
def EpState.xqDescArsp (s : EpState) (slot status : Nat) (data : List Byte) : EpState :=
  let b := if status = 0 then data else List.replicate 64 0
  (s.modCmd slot (fun c => c.ofBody b)).modXlt (fun x => { x with cons := (x.cons + 1) % 2 ^ 32 })

/-- `XLT_CMD` puts a command behind every ring command that has started (R702). -/
def EpState.xqFromMgmt (s : EpState) (tag : Nat) (body : List Byte) : EpState :=
  let slot := s.xlt.nextSlot
  let c := XqCmd.ofBody { slot := slot, fromMgmt := some tag } body
  let isRun := fun (d : XqCmd) => d.running || d.fromMgmt.isSome
  s.modXlt (fun x => { x with nextSlot := slot + 1, cmds := x.cmds.filter isRun ++ [c] ++ x.cmds.filter (fun d => !isRun d) })

/-- The next command to start: the first one not running (R208). -/
def EpState.xqFront (s : EpState) : Option XqCmd := s.xlt.cmds.find? (fun c => !c.running)

/-- A command may start (R208): read, among at most eight, and no running command overlaps it. -/
def EpState.xqMayStart (s : EpState) (c : XqCmd) : Bool :=
  c.st == .waiting && decide ((s.xlt.cmds.filter (·.running)).length < 8) && !(s.xlt.cmds.any (fun d => d.running && d.meets c))

/-- Commands at the front that break Table 5.9 complete at once with CMD_INVALID or MISALIGNED. -/
def EpState.xqRefuse (s : EpState) : Nat → EpState
  | 0 => s
  | n + 1 =>
    match s.xqFront with
    | some c =>
      match c.st, c.refusal with
      | .waiting, some k => EpState.xqRefuse (s.endCmd c k 0 (if k = 4 then c.va else 0)) n
      | _, _ => s
    | none => s

/-- Start the front command if it is the one named (kind 0 for a command without kinds) and may start. -/
def EpState.xqStart (s : EpState) (cmd kind : Nat) (go : EpState → XqCmd → EpState) : EpState :=
  match s.xqFront with
  | some c => if c.cmd = cmd ∧ c.kind = kind ∧ s.xqMayStart c then go s c else s
  | none => s

/-- `INVALIDATE` (R210). -/
def EpState.invalidate (s : EpState) : EpState := s.xqStart 1 0 (fun s c => s.blockCmd c)

/-- `MIGRATE` (R215): first the checks, page by page. -/
def EpState.migrate (s : EpState) : EpState :=
  s.xqStart 2 0 (fun s c => (s.modCmd c.slot (fun c => { c with st := .walking, cursor := c.va })).cmdNext c.slot)

/-- An `ADVISE` that needs the leaves of its range, page by page (R217). -/
def EpState.adviseWalk (s : EpState) (kind : Nat) : EpState :=
  s.xqStart 3 kind (fun s c =>
    let inside := fun (p : Nat × Nat × Nat) => p.1 == c.asid && decide (c.va ≤ p.2.1) && decide (p.2.1 + p.2.2 ≤ c.va + c.length)
    let touch := fun (p : Nat × Nat × Nat) => p.1 == c.asid && overlap p.2.1 p.2.2 c.va c.length
    let s1 :=
      if kind = 4 then (s.dropRange c.asid c.va c.length).modXlt (fun x => { x with pins := x.pins.filter (fun p => !touch p) })
      else if kind = 5 then s.modXlt (fun x => { x with pins := x.pins.filter (fun p => !touch p), streams := x.streams.filter (fun p => !inside p) })
      else s
    (s1.modCmd c.slot (fun c => { c with st := .walking, cursor := c.va })).cmdNext c.slot)

/-- `ADVISE` STREAMING (Table 5.14). -/
def EpState.adviseStreaming (s : EpState) : EpState :=
  s.xqStart 3 3 (fun s c =>
    if 16 ≤ s.xlt.streams.length then s.endCmd c 6 0 c.va
    else (s.modXlt (fun x => { x with streams := x.streams ++ [(c.asid, c.va, c.length)] })).endCmd c 0 0 0)

/-- Latest epoch done of an address space: set where the new one is later modulo 2^32 (Table 5.12). -/
def EpState.epochDone (s : EpState) (c : XqCmd) : EpState :=
  let a := 0x61008 + c.asid * 0x10
  let d := (c.epoch + 2 ^ 32 - (s.c.rd a).toNat) % 2 ^ 32
  if 0 < d ∧ d < 2 ^ 31 then s.mod (fun k => k.wr a (BitVec.ofNat 32 c.epoch)) else s

/-- The mover's next 256 bytes (R215). -/
def EpState.moverStep (s : EpState) (c : XqCmd) (off : Nat) : EpState :=
  if off < c.length then
    match c.leaves.find? (fun l => l.maps c.asid (c.va + off)) with
    | some l => (s.mrd (.moverRead c.slot off) (l.at (c.va + off)) 16).through l.span 33
    | none => s
  else s.modCmd c.slot (fun c => { c with cursor := c.va + c.length })

/-- `INVALIDATE_DRAINED` (R210, R215): the range has drained. -/
def EpState.invalidateDrained (s : EpState) (slot : Nat) : EpState :=
  match s.xlt.cmds.find? (fun c => c.slot == slot) with
  | some c =>
    if c.st ≠ .draining ∨ !(s.undrained c).isEmpty then s
    else if c.cmd = 1 then (s.epochDone c).endCmd c 0 0 0
    else
      let c1 := { c with st := .copying, cursor := c.va }
      (s.modCmd slot (fun _ => c1)).moverStep c1 0
  | none => s

/-- `INVALIDATE_STUCK` (R210): 64 µs after the block point the range has not drained. -/
def EpState.invalidateStuck (s : EpState) (slot : Nat) : EpState :=
  match s.xlt.cmds.find? (fun c => c.slot == slot) with
  | some c =>
    let us := s.undrained c
    if c.st ≠ .draining ∨ s.c.pick < c.blockAt + 64 ∨ us.isEmpty then s
    else s.endCmd c 1 ((us.map (·.1)).foldl min 33) (c.firstStuck us)
  | none => s

/-- The mover has read 256 bytes. A failed read is made once more; a second failure is a lasting read error and ends the command (Table 5.11; the one retry is that of R202, notes/assumptions/32.md). -/
def EpState.moverReadArsp (s : EpState) (slot off status : Nat) (data : List Byte) : EpState :=
  match s.xlt.cmds.find? (fun c => c.slot == slot) with
  | some c =>
    if status = 0 then (s.modCmd slot (fun c => { c with retried := false })).mwr (.moverWrite slot off) (c.newPa + off) (data ++ List.replicate (256 - data.length) 0)
    else if c.retried then s.endCmd c 8 0 (c.va + off)
    else (s.modCmd slot (fun c => { c with retried := true })).moverStep c off
  | none => s

/-- The mover's write has been acknowledged. -/
def EpState.moverWriteArsp (s : EpState) (slot off : Nat) : EpState :=
  match s.xlt.cmds.find? (fun c => c.slot == slot) with
  | some c => s.moverStep c (off + 256)
  | none => s

/-- `MIGRATE_COPY_DONE` (R215): every byte is copied; the leaves are rewritten in ascending order. -/
def EpState.migrateCopyDone (s : EpState) (slot : Nat) : EpState :=
  match s.xlt.cmds.find? (fun c => c.slot == slot) with
  | some c =>
    if c.st ≠ .copying ∨ c.cursor < c.va + c.length then s
    else
      let s1 := s.modCmd slot (fun c => { c with st := .rewriting, left := c.leaves.length })
      if c.leaves.isEmpty then (s1.dropRange c.asid c.va c.length).endCmd c 0 0 0
      else each c.leaves s1 (fun s l =>
        let e := (c.newPa + (l.va - c.va)) + 1 + 2 + (if l.w then 8 else 0) + (if l.at_ then 16 else 0)
        s.mwrBytes (.leafWrite slot) l.entry (leBytes e 8))
  | none => s

/-- A leaf has been rewritten; after the last the range is invalidated again and the command ends (R215). -/
def EpState.leafWriteArsp (s : EpState) (slot : Nat) : EpState :=
  match s.xlt.cmds.find? (fun c => c.slot == slot) with
  | some c =>
    let s1 := s.modCmd slot (fun c => { c with left := c.left - 1 })
    if c.left ≤ 1 then (s1.dropRange c.asid c.va c.length).endCmd c 0 0 0 else s1
  | none => s

/-- Write the records of finished ring commands in ring order while the completion ring has room (R192, R208). -/
def EpState.xqRecords (s : EpState) : Nat → EpState
  | 0 => s
  | n + 1 =>
    match s.xlt.order with
    | [] => s
    | slot :: rest =>
      let ctl := s.c.rd 0x60028
      let size := ringSlots (fld ctl 12 8)
      match Tab.find s.xlt.done slot with
      | none => s
      | some r =>
        let used := (s.xlt.cplProd + 2 ^ 32 - (s.c.rd 0x60038).toNat) % 2 ^ 32
        if size ≤ used then s
        else
          let base := (s.c.rd 0x60024).toNat * 2 ^ 32 + fld (s.c.rd 0x60020) 31 12 * 4096
          let phase := s.xlt.cplProd / size % 2
          let rec_ := r.take 2 ++ [BitVec.ofNat 8 phase] ++ r.drop 3
          let s1 := s.modXlt (fun x => { x with order := rest, done := Tab.del x.done slot, cplProd := (x.cplProd + 1) % 2 ^ 32 })
          EpState.xqRecords (s1.mwrBytes (.xqCpl s1.xlt.cplProd (leNat (r.take 2))) (base + s.xlt.cplProd % size * 32) rec_) n

end Sys2Proof.Machine
end

