-- ==== Sys2Proof/Machine/EpEngine.lean ====
section
/-!
DEFINITION. Copy engines (R183 to R194): rings, descriptors, pieces, completion records, engine states; measured transfers (R223 to R226).
-/

namespace Sys2Proof.Machine

/-- A copy engine. -/
def EpState.ce (s : EpState) (e : Nat) : CopyEngine := Tab.get s.ces {} e

/-- Change a copy engine. -/
def EpState.modCe (s : EpState) (e : Nat) (f : CopyEngine → CopyEngine) : EpState := { s with ces := Tab.upd s.ces {} e f }

/-- Change a descriptor of an engine. -/
def EpState.modJob (s : EpState) (e idx : Nat) (f : CeJob → CeJob) : EpState :=
  s.modCe e (fun c => { c with jobs := c.jobs.map (fun j => if j.idx = idx then f j else j) })

/-- A descriptor of an engine. -/
def EpState.job (s : EpState) (e idx : Nat) : Option CeJob := (s.ce e).jobs.find? (fun j => j.idx == idx)

/-- Little-endian field of a descriptor. -/
def CeJob.f (j : CeJob) (o n : Nat) : Nat := leNat ((j.bytes.drop o).take n)
/-- OP (Table 5.1). -/
def CeJob.op (j : CeJob) : Nat := j.f 0 1
/-- A bit of FLAGS. -/
def CeJob.flag (j : CeJob) (i : Nat) : Bool := bit (j.f 1 1) i
/-- CMODE. -/
def CeJob.cmode (j : CeJob) : Nat := j.f 2 1 % 4
/-- ROW_BYTES. -/
def CeJob.rowBytes (j : CeJob) : Nat := j.f 24 4
/-- ROWS. -/
def CeJob.rows (j : CeJob) : Nat := j.f 28 4
/-- MEASURED. -/
def CeJob.measured (j : CeJob) : Bool := j.flag 4

/-- Reserved fields and AUX fields are as Tables 5.1 and 5.2 say (R188). -/
def CeJob.fieldsOk (j : CeJob) : Bool :=
  let aux0 := j.f 48 8
  let aux1 := j.f 56 4
  decide (j.f 1 1 < 64) && decide (j.f 2 1 < 32) && bits (j.f 2 1) 3 2 < 2 && decide (j.f 3 1 < 16) && decide (j.f 6 1 < 64) && decide (j.f 7 1 < 64) &&
  !(j.flag 5 && !j.flag 4) && j.cmode != 3 &&
  (match j.op with
   | 3 => aux0 / 2 ^ 17 == 0 && aux1 == 0
   | 4 => decide (aux1 < 3)
   | 5 => aux0 == 0 && decide (aux1 < 256)
   | _ => aux0 == 0 && aux1 == 0)

/-- ROWS and ROW_BYTES are in range (Table 5.1). -/
def CeJob.rowsOk (j : CeJob) : Bool :=
  decide (1 ≤ j.rowBytes) && decide (j.rowBytes ≤ 2 ^ 30) && decide (1 ≤ j.rows) && decide (j.rows ≤ 65536)

/-- Data cell 0 of the atomic that AUX0 names (Tables 3.2, 5.2). -/
def CeJob.atomCell (j : CeJob) : Nat :=
  let a := j.f 48 8
  bits a 7 0 * 2 ^ 120 + bits a 11 8 * 2 ^ 116 + bits a 13 12 * 2 ^ 114 + bits a 14 14 * 2 ^ 113

/-- The descriptor is invalid whatever its translations are (R188): ROWS and ROW_BYTES have their ranges in every operation. CMODE of an ATOMIC breaks nothing that R188 names, and is ignored (DESIGN CHOICE, notes/assumptions/79.md). -/
def CeJob.invalid (j : CeJob) : Bool :=
  !j.fieldsOk || !j.rowsOk ||
  (match j.op with
   | 3 => !(atomLegal (aopOf j.atomCell) (atypeOf j.atomCell) && scopeOf j.atomCell != 3) || j.f 8 8 % 64 != 0
   | 4 => !([1, 2, 4, 8].contains j.rowBytes) || j.f 16 8 % max 1 j.rowBytes != 0
   | 5 => j.flag 3
   | 6 => j.flag 3
   | _ => false)

/-- Address space of an engine's ring. -/
def EpState.ceAsid (s : EpState) (e : Nat) : Nat := s.c.rf' (ceA e 0x00) 9 4

/-- An event of `EP_CE_FAULT` (Table 5.17). -/
def EpState.ceFault (s : EpState) (e code : Nat) : EpState := s.mod (fun c => c.event (ceA e 0x2C) (code * 256))

/-- A stopping code (R193): the descriptor issues no more, the engine goes to FAULTED. -/
def EpState.ceStop (s : EpState) (e idx code va : Nat) : EpState :=
  let s1 := s.modJob e idx (fun j => { j with started := true, issuedAll := true, code := code, va := if code = 2 ∨ code = 3 then va else 0 })
  let s2 := (s1.ceFault e code).mod (fun c => (c.wr (ceA e 0x30) (BitVec.ofNat 32 va)).wr (ceA e 0x34) (BitVec.ofNat 32 (va / 2 ^ 32)))
  match (s2.ce e).st with
  | .running => (s2.modCe e (fun c => { c with st := .faulted })).notice 0x03 (1056 + e) idx code
  | _ => s2

/-- A failed request or access of a descriptor: counted, and the earliest in issue order kept (Table 5.3). -/
def CeJob.fail (j : CeJob) (ord status : Nat) : CeJob :=
  { j with
    errors := j.errors + 1,
    first := match j.first with | some f => if ord < f.1 then some (ord, status) else some f | none => some (ord, status) }

/-- Slots posted and not yet asked for from the ring. The producer count may have been set back to a value not behind the consumer count (R185). -/
def CopyEngine.more (c : CopyEngine) : Bool := decide ((c.asked + 2 ^ 32 - c.cons) % 2 ^ 32 < (c.prod + 2 ^ 32 - c.cons) % 2 ^ 32)

/-- Read the next ring slot of an engine (R184, R190): one read at a time, up to 16 descriptors in progress. -/
def EpState.ceFetch (s : EpState) (e : Nat) : EpState :=
  let c := s.ce e
  let half : Bool := match c.jobs.getLast? with | some j => !j.fetched | none => false
  if c.asking ∨ !c.more ∨ !(c.st == .running || c.st == .aborting) ∨ (!half ∧ 16 ≤ c.jobs.length) then s
  else
    let ctl := s.c.rd (ceA e 0)
    let base := (s.c.rd (ceA e 0x0C)).toNat * 2 ^ 32 + fld (s.c.rd (ceA e 0x08)) 31 12 * 4096
    let slot := base + c.asked % ringSlots (fld ctl 20 16) * 64
    let idx := if half then (match c.jobs.getLast? with | some j => j.idx | none => c.asked) else c.asked
    (s.modCe e (fun c =>
      { c with
        asked := (c.asked + 1) % 2 ^ 32, asking := true,
        jobs := if half then c.jobs else c.jobs ++ [{ idx := idx }] })).mrd (.desc e idx) slot 4

/-- A ring slot has been read; an error makes the descriptor fail POISONED (R248). -/
def EpState.descArsp (s : EpState) (e idx status : Nat) (data : List Byte) : EpState :=
  let s1 := s.modCe e (fun c => { c with asking := false, cons := (c.cons + 1) % 2 ^ 32 })
  if status ≠ 0 then
    s1.modJob e idx (fun j => { j.fail 0 stPoison with bytes := j.bytes ++ List.replicate 64 0, fetched := true, started := true, issuedAll := true, code := 1 })
  else
    s1.modJob e idx (fun j =>
      let b := j.bytes ++ data
      { j with bytes := b, fetched := b.length == 128 || pb b 0 != 2 })

/-- `EP_CE_DOORBELL` (R185, Table 5.5). A doorbell while ABORTING is taken, and its descriptors are read and aborted too (DESIGN CHOICE, notes/assumptions/78.md). -/
def EpState.ceDoorbell (s : EpState) (e v : Nat) : EpState :=
  let c := s.ce e
  let n := ringSlots (s.c.rf' (ceA e 0) 20 16)
  let ahead := (v + 2 ^ 32 - c.cons) % 2 ^ 32
  let had := (c.prod + 2 ^ 32 - c.cons) % 2 ^ 32
  if c.st = .disabled then s
  else if n < ahead then s.ceFault e 0xFF
  else
    s.modCe e (fun c => { c with prod := v % 2 ^ 32, st := if c.st = .idle ∧ had < ahead then .running else c.st })

/-! ### Starting a descriptor -/

/-- The next descriptor of an engine to start: read, all earlier ones issued in full, no fence before it unfinished, the engine running (R190, R191). -/
def EpState.ceNext (s : EpState) (e : Nat) : Option CeJob :=
  let c := s.ce e
  match c.st, c.jobs.find? (fun j => !j.started) with
  | .running, some j =>
    let before := c.jobs.filter (·.started)
    if j.fetched ∧ before.all (fun k => k.issuedAll) ∧ before.all (fun k => k.op != 5 || k.left == 0) then some j else none
  | _, _ => none

/-- The measurement slot of a measured descriptor is open and bound to the engine (R223). -/
def EpState.slotOk (s : EpState) (e : Nat) (j : CeJob) : Bool :=
  let m := Tab.get s.meas {} (j.f 3 1 % 16)
  !j.measured || (m.opened && m.engine == e)

/-- Start the next descriptor if its operation is `op`: an invalid one or one whose slot is refused stops the engine (R188, R193, R223). One that is both is DESC_INVALID (DESIGN CHOICE, notes/assumptions/80.md). -/
def EpState.ceStart (s : EpState) (e op : Nat) (invalid : CeJob → Bool) (go : EpState → CeJob → EpState) : EpState :=
  match s.ceNext e with
  | some j =>
    if j.op ≠ op then s
    else if invalid j then s.ceStop e j.idx 4 0
    else if !s.slotOk e j then s.ceStop e j.idx 7 0
    else go (s.modJob e j.idx (fun j => { j with started := true })) j
  | none => s

/-- Prefetch for the streams that a descriptor names (R206). -/
def EpState.ceStreams (s : EpState) (e : Nat) (j : CeJob) : EpState :=
  (s.prefetch (j.f 6 1 % 64) (s.ceAsid e) (j.f 8 8)).prefetch (j.f 7 1 % 64) (s.ceAsid e) (j.f 16 8)

/-! ### Pieces -/

/-- Change a piece. -/
def EpState.modPiece (s : EpState) (id : Nat) (f : Piece → Piece) : EpState :=
  { s with pieces := s.pieces.map (fun p => if p.id = id then f p else p) }

/-- Units that a range of a destination is written in (R189): runs of at most four whole lines, and partial lines. Offset and bytes. -/
def unitsOf (dst off len : Nat) : Nat → List (Nat × Nat)
  | 0 => []
  | fuel + 1 =>
    if len = 0 then []
    else
      let a := (dst + off) % 64
      let k := if a ≠ 0 ∨ len < 64 then min (64 - a) len else min 4 (len / 64) * 64
      (off, k) :: unitsOf dst (off + k) (len - k) fuel

/-- Reads that cover a range of lines (R189): at most four lines each, none across a 4 KiB boundary. First line and count. -/
def readsOf (base first n : Nat) : Nat → List (Nat × Nat)
  | 0 => []
  | fuel + 1 =>
    if n = 0 then []
    else
      let k := min (min 4 n) (64 - (base / 64 + first) % 64)
      (first, k) :: readsOf base (first + k) (n - k) fuel

/-- Bytes [off, off + n) of a piece, from the lines that have come; `none` while one is missing. -/
def Piece.bytes (p : Piece) (off n : Nat) : Option (List Byte) :=
  let a := p.srcOff + off
  let ls := List.map (fun i => a / 64 + i) (List.range ((a % 64 + n + 63) / 64))
  if ls.all (fun l => (Tab.find p.lines l).isSome) then
    some (((ls.flatMap (fun l => Tab.get p.lines [] l)).drop (a % 64)).take n)
  else none

/-- A line of the range is bad. -/
def Piece.spoiled (p : Piece) (off n : Nat) : Bool :=
  let a := p.srcOff + off
  p.bad.any (fun l => decide (a / 64 ≤ l) && decide (l ≤ (a + n - 1) / 64))

/-- Hand a unit on once its bytes are there: a request becomes ready, a local write is made; a unit that a failed read spoils is dropped. -/
def EpState.unitOn (s : EpState) (p : Piece) (u : Nat × Nat × Option Nat) : EpState × Bool :=
  let drop := fun (s : EpState) => s.modJob p.engine p.idx (fun j => { j with left := j.left - 1 })
  if p.spoiled u.1 u.2.1 then
    match u.2.2 with
    | some id => (drop (s.modSrc (fun q => { q with reqs := q.reqs.filter (fun r => r.id != id) })), true)
    | none => (drop s, true)
  else
    match p.bytes u.1 u.2.1 with
    | none => (s, false)
    | some b =>
      let s1 := s.modJob p.engine p.idx (fun j => if j.measured ∧ !j.srcGlobal then { j with hash := Tab.put j.hash (p.at_ + u.1) b } else j)
      match u.2.2 with
      | some id =>
        (s1.modSrcReq id (fun r =>
          if r.op = 2 then { r with data := b, ready := true }
          else let l := lineWith ((p.dst + u.1) % 64) b; { r with data := maskedData l.1 l.2, ready := true }), true)
      | none =>
        let a := p.dst + u.1
        let s2 := if a % 64 = 0 ∧ u.2.1 % 64 = 0 then s1.mwr (.localWrite p.engine p.idx) a b else s1.mwrBytes (.localWrite p.engine p.idx) a b
        (s2.throughFor p.dspan p.engine p.id, true)

/-- Source lines of a piece have come, or failed. -/
def EpState.pieceLines (s : EpState) (id first n : Nat) (data : Option (List Byte)) : EpState :=
  let s1 := s.modPiece id (fun p =>
    match data with
    | some d => { p with lines := each (List.range n) p.lines (fun t i => Tab.put t (first + i) ((d.drop (64 * i)).take 64)) }
    | none => { p with bad := p.bad ++ List.map (first + ·) (List.range n) })
  match s1.pieces.find? (fun p => p.id == id) with
  | none => s1
  | some p =>
    let r := each p.units (s1, ([] : List (Nat × Nat × Option Nat))) (fun a u =>
      let x := a.1.unitOn p u
      (x.1, if x.2 then a.2 else a.2 ++ [u]))
    if r.2.isEmpty then { r.1 with pieces := r.1.pieces.filter (fun q => q.id != id) }
    else r.1.modPiece id (fun p => { p with units := r.2 })

/-- Header flags that a descriptor gives its requests. -/
def CeJob.flags (j : CeJob) (op : Nat) (last : Bool) : HdrFlags :=
  { relaxed := j.flag 2, release := last && j.flag 3, measured := j.measured && (op == 2 || op == 6) }

/-- Issue the requests of one piece (R189). `at_` is its offset in the descriptor's order, `last` marks the descriptor's last piece. -/
def EpState.issuePiece (s : EpState) (e : Nat) (j : CeJob) (sl dl : Leaf) (sva dva at_ len : Nat) (last : Bool) : EpState :=
  let sa := sl.at sva
  let da := dl.at dva
  let id := s.nextPiece
  let us := unitsOf da 0 len len
  let nl := (sa % 64 + len + 63) / 64
  let rs := readsOf (sa / 64 * 64) 0 nl nl
  let p : Piece := { id := id, engine := e, idx := j.idx, at_ := at_, ord := s.src.nextId, srcOff := sa % 64, dst := da, dstGlobal := dl.global_, span := sl.span, dspan := dl.span }
  let s0 := { s with pieces := s.pieces ++ [p], nextPiece := id + 1 }
  let s1 := s0.modJob e j.idx (fun j => { j with left := j.left + us.length + rs.length, srcGlobal := j.srcGlobal || sl.global_ })
  let r1 := each rs (s1, ([] : List (Nat × Nat × List Byte))) (fun a r =>
    let addr := sa / 64 * 64 + 64 * r.1
    if sl.global_ then
      let q : SrcReq := { id := 0, engine := e, op := 1, dst := addr / 2 ^ 52 % 256, woff := addr % 2 ^ 52, len := 64 * r.2, flags := j.flags 1 false,
                          mayFill := !a.1.xlt.streaming sl.asid sva, cont := .piece id r.1 r.2, span := sl.span }
      match (if q.mayFill then a.1.rlcRead q else none) with
      | some d => ((a.1.mod (fun c => c.bump 0x42008)).modJob e j.idx (fun j => { j with left := j.left - 1 }), a.2 ++ [(r.1, r.2, d)])
      | none => (a.1.issue q, a.2)
    else (((a.1.mrd (.line id r.1) addr (4 * r.2)).through sl.span e), a.2))
  let s2 := each us (r1.1, ([] : List (Nat × Nat × Option Nat))) (fun a u =>
    if dl.global_ then
      let addr := da + u.1
      let whole := addr % 64 == 0 && u.2 % 64 == 0
      let final := last && u.1 + u.2 == len
      let rid := a.1.src.nextId
      let op := if whole then 2 else 6
      let q : SrcReq := { id := 0, engine := e, op := op, dst := addr / 2 ^ 52 % 256, woff := addr / 64 * 64 % 2 ^ 52, len := u.2, flags := j.flags op final,
                          cmode := j.cmode, counter := j.f 4 2, ready := false, cont := .store e j.idx, span := dl.span }
      (a.1.issue q, a.2 ++ [(u.1, u.2, some rid)])
    else (a.1, a.2 ++ [(u.1, u.2, none)]))
  let s3 := s2.1.modPiece id (fun p => { p with units := s2.2 })
  each r1.2 s3 (fun s x => s.pieceLines id x.1 x.2.1 (some x.2.2))

/-- Issue a descriptor's next piece (R189, R190): `true` while it may go on at once. -/
def EpState.copyStep (s : EpState) (e idx : Nat) : EpState × Bool :=
  match s.job e idx with
  | none => (s, false)
  | some j =>
    if j.issuedAll then (s, false)
    else
      let sva := j.f 8 8 + j.row * j.f 32 8 + j.off
      let dva := j.f 16 8 + j.row * j.f 40 8 + j.off
      let asid := s.ceAsid e
      match s.translate e asid sva with
      | (.wait, s1) => ((s1.translate e asid dva).2, false)
      | (.fault, s1) => (s1.ceStop e idx 2 sva, false)
      | (.leaf sl, s1) =>
        match s1.translate e asid dva with
        | (.wait, s2) => (s2, false)
        | (.fault, s2) => (s2.ceStop e idx 2 dva, false)
        | (.leaf dl, s2) =>
          let rest := j.rowBytes - j.off
          let to4k := fun (l : Leaf) (va : Nat) => if l.global_ then 4096 - l.at va % 4096 else l.va + l.bytes - va
          let n0 := min rest (min (min (sl.va + sl.bytes - sva) (dl.va + dl.bytes - dva)) (min (to4k sl sva) (to4k dl dva)))
          let n := if sl.global_ || dl.global_ then n0 else min n0 (4096 - dva % 4096)
          let lastRow := j.row + 1 == j.rows
          let last := lastRow && j.off + n == j.rowBytes
          if !dl.w then (s2.ceStop e idx 3 dva, false)
          else if (j.cmode ≠ 0 ∧ !dl.global_) ∨ (last ∧ j.flag 3 ∧ !dl.global_) then (s2.ceStop e idx 4 0, false)
          else
            let s3 := s2.issuePiece e j sl dl sva dva (j.row * j.rowBytes + j.off) n last
            let rowEnd := j.off + n == j.rowBytes
            (s3.modJob e idx (fun j =>
              { j with row := if rowEnd then j.row + 1 else j.row, off := if rowEnd then 0 else j.off + n, issuedAll := last }), true)

/-- Issue pieces until the descriptor is issued in full or a translation is missing. -/
def EpState.copyRun (s : EpState) (e idx : Nat) : Nat → EpState
  | 0 => s
  | n + 1 =>
    match s.copyStep e idx with
    | (s1, true) => EpState.copyRun s1 e idx n
    | (s1, false) => s1

/-! ### Atomic, flag, fence -/

/-- Try to go on with an ATOMIC descriptor: both translations, then the operand block (Table 5.2). -/
def EpState.atomicTry (s : EpState) (e idx : Nat) : EpState :=
  match s.job e idx with
  | none => s
  | some j =>
    let asid := s.ceAsid e
    match s.translate e asid (j.f 8 8) with
    | (.wait, s1) => (s1.translate e asid (j.f 16 8)).2
    | (.fault, s1) => s1.ceStop e idx 2 (j.f 8 8)
    | (.leaf sl, s1) =>
      match s1.translate e asid (j.f 16 8) with
      | (.wait, s2) => s2
      | (.fault, s2) => s2.ceStop e idx 2 (j.f 16 8)
      | (.leaf dl, s2) =>
        if sl.global_ ∨ !dl.global_ then s2.ceStop e idx 4 0
        else if !sl.w then s2.ceStop e idx 3 (j.f 8 8)
        else if !(dl.w && dl.at_) then s2.ceStop e idx 3 (j.f 16 8)
        else
          let ga := dl.at (j.f 16 8)
          let rid := s2.src.nextId
          let a := j.f 48 8
          let q : SrcReq := { id := 0, engine := e, op := 5, dst := ga / 2 ^ 52 % 256, woff := ga % 2 ^ 52, ready := false, cont := .atomic e idx, span := dl.span,
                              flags := { relaxed := j.flag 2, acquire := bit a 15, release := bit a 16 || j.flag 3 } }
          (({ s2.issue q with nextPiece := s2.nextPiece + 1 }.modJob e idx (fun j => { j with issuedAll := true, left := 1, row := rid, span := sl.span, piece := s2.nextPiece })).mrd
            (.opRead e idx) (sl.at (j.f 8 8)) 4).throughFor sl.span e s2.nextPiece

/-- The operand block of an ATOMIC has been read: its bytes are the source bytes that a measured one hashes (R224, notes/assumptions/80.md). -/
def EpState.opReadArsp (s : EpState) (e idx addr status : Nat) (data : List Byte) : EpState :=
  match s.job e idx with
  | none => s
  | some j =>
    if status ≠ 0 then
      (s.modSrc (fun q => { q with reqs := q.reqs.filter (fun r => r.id != j.row) })).modJob e idx (fun k => { k.fail j.row stPoison with left := 0 })
    else
      let w := atypeWidth (atypeOf j.atomCell)
      let cells := beBytes j.atomCell 16 ++ beBytes (leNat (data.take w)) 16 ++ beBytes (leNat ((data.drop 16).take w)) 16 ++ List.replicate 16 0
      (s.modSrcReq j.row (fun r => { r with data := cells, ready := true })).modJob e idx (fun k => { k with off := addr, hash := if k.measured then [(0, data)] else [] })

/-- Try to go on with a FLAG descriptor. A measured one hashes the bytes of its value (R224, notes/assumptions/80.md). -/
def EpState.flagTry (s : EpState) (e idx : Nat) : EpState :=
  match s.job e idx with
  | none => s
  | some j =>
    let va := j.f 16 8
    match s.translate e (s.ceAsid e) va with
    | (.wait, s1) => s1
    | (.fault, s1) => s1.ceStop e idx 2 va
    | (.leaf l, s1) =>
      let a := l.at va
      let kind := j.f 56 4
      let value := (j.bytes.drop 48).take j.rowBytes
      let ln := lineWith (a % 64) value
      let sent := fun (j : CeJob) => { j with issuedAll := true, left := 1, hash := if j.measured then [(0, value)] else [] }
      if !l.w then s1.ceStop e idx 3 va
      else if !l.global_ then
        if j.cmode ≠ 0 ∨ j.flag 3 then s1.ceStop e idx 4 0
        else ((s1.modJob e idx sent).mwrMasked (.localWrite e idx) (a / 64 * 64) ln.1 ln.2).through l.span e
      else
        let op := if kind = 0 then 6 else if kind = 1 then 3 else 4
        let q : SrcReq := { id := 0, engine := e, op := op, dst := a / 2 ^ 52 % 256, woff := a / 64 * 64 % 2 ^ 52, data := maskedData ln.1 ln.2, cmode := j.cmode, counter := j.f 4 2,
                            cont := .store e idx, span := l.span,
                            flags := { relaxed := j.flag 2, release := kind == 0 || j.flag 3, measured := j.measured && op == 6 } }
        (s1.issue q).modJob e idx sent

/-! ### Answers -/

/-- A store of a descriptor has completed. -/
def EpState.storeDone (s : EpState) (e idx : Nat) (d : SrcDone) : EpState :=
  s.modJob e idx (fun j =>
    let j1 := if d.status = stOk then j else j.fail d.req.id d.status
    { j1 with left := j1.left - 1, dup := j1.dup || d.dup, reissued := j1.reissued || decide (0 < d.req.reissues) })

/-- A read of a piece has completed. A `READ_RSP` of any status with MEASURED = 0 makes the descriptor unmeasured (R226). -/
def EpState.pieceRead (s : EpState) (p first n : Nat) (d : SrcDone) : EpState :=
  match s.pieces.find? (fun q => q.id == p) with
  | none => s
  | some q =>
    let s1 := (s.storeDone q.engine q.idx d).modJob q.engine q.idx (fun j => if d.measured = some false then { j with unmeasured := true } else j)
    s1.pieceLines p first n (if d.status = stOk then some d.data else none)

/-- Lines of a local source have been read. -/
def EpState.lineArsp (s : EpState) (p first n status : Nat) (data : List Byte) : EpState :=
  match s.pieces.find? (fun q => q.id == p) with
  | none => s
  | some q =>
    let s1 := s.modJob q.engine q.idx (fun j => { (if status = 0 then j else j.fail q.ord stPoison) with left := j.left - 1 })
    s1.pieceLines p first n (if status = 0 then some data else none)

/-- A local write of a descriptor has been acknowledged. -/
def EpState.localWriteArsp (s : EpState) (e idx status : Nat) : EpState :=
  s.modJob e idx (fun j => { (if status = 0 then j else j.fail s.src.nextId stPoison) with left := j.left - 1 })

/-- An atomic has completed: OLD and the flags go into the operand block (R187). -/
def EpState.atomicDone (s : EpState) (e idx : Nat) (d : SrcDone) : EpState :=
  match s.job e idx with
  | none => s
  | some j =>
    let s1 := s.storeDone e idx d
    if d.status ≠ stOk ∨ d.data.isEmpty then s1
    else
      let old := leBytes (cellOf d.data 0) 16
      let fl := cellOf d.data 1 % 8
      let s2 := s1.modJob e idx (fun k => { k with left := k.left + 1 })
      (s2.mwrBytes (.opWrite e idx) (j.off + 32) (old ++ [BitVec.ofNat 8 fl])).throughFor j.span e j.piece

/-! ### Completion -/

/-- A descriptor is finished but for its record. -/
def CeJob.finished (j : CeJob) : Bool :=
  j.fetched && j.started && j.issuedAll && j.left == 0 && (!(j.measured && j.srcGlobal && j.errors == 0 && j.code == 0) || j.back == 2)

/-- Its completion code (Table 5.4). A failed request comes before an unmeasured answer: REMOTE_ERROR, not NOT_MEASURED (DESIGN CHOICE, notes/assumptions/79.md). -/
def CeJob.final (j : CeJob) : Nat :=
  if j.code ≠ 0 then j.code else if 0 < j.errors ∧ j.op ≠ 5 then 1 else if j.flag 5 && j.unmeasured then 6 else 0

/-- The completion record (Table 5.3). -/
def CeJob.record (j : CeJob) (phase : Nat) : List Byte :=
  [BitVec.ofNat 8 j.final, BitVec.ofNat 8 (phase + 2 * b2n j.dup + 4 * b2n j.reissued)] ++ leBytes (match j.first with | some f => f.2 | none => 0) 2 ++ leBytes j.errors 4 ++
  leBytes j.va 8 ++ leBytes j.idx 4 ++ (j.bytes.drop 60).take 4 ++ leBytes j.qsat 4 ++ leBytes j.qnan 4

/-- A measured descriptor extends its slot, or breaks it (R224, R225); a slot that CLOSE has frozen stays as it is (R223). -/
def EpState.measure (s : EpState) (j : CeJob) : EpState :=
  let m := j.f 3 1 % 16
  if !j.measured ∨ (Tab.get s.meas {} m).frozen then s
  else
    if j.final = 0 then
      let d := sha384 (j.hash.flatMap (·.2))
      { s with meas := Tab.upd s.meas {} m (fun x =>
          { x with digest := sha384 (x.digest ++ d), count := x.count + 1, bytes := x.bytes + (if j.op = 1 ∨ j.op = 2 then j.rows * j.rowBytes else (j.hash.flatMap (·.2)).length) }) }
    else { s with meas := Tab.upd s.meas {} m (fun x => { x with broken := true }) }

/-- A finished descriptor that would complete OK is refused when its slot is no longer open to its engine (R223). -/
def EpState.ceRefused (s : EpState) (e : Nat) : EpState :=
  match (s.ce e).jobs with
  | j :: _ => if j.finished && j.final == 0 && !s.slotOk e j then s.ceStop e j.idx 7 0 else s
  | [] => s

/-- The oldest descriptor, once finished, leaves: it writes its record if it has one and the ring has room (R192). -/
def EpState.ceRecord (s : EpState) (e : Nat) : EpState :=
  let c := s.ce e
  match c.jobs with
  | [] => s
  | j :: rest =>
    if !j.finished then s
    else
      let ctl := s.c.rd (ceA e 0)
      let size := ringSlots (fld ctl 28 24)
      let used := (c.cplProd + 2 ^ 32 - (s.c.rd (ceA e 0x24)).toNat) % 2 ^ 32
      if j.final = 0 ∧ !j.flag 0 then (s.measure j).modCe e (fun c => { c with jobs := rest })
      else if size ≤ used then s
      else
        let base := (s.c.rd (ceA e 0x14)).toNat * 2 ^ 32 + fld (s.c.rd (ceA e 0x10)) 31 12 * 4096
        let s1 := (s.measure j).modCe e (fun c => { c with jobs := rest, cplProd := (c.cplProd + 1) % 2 ^ 32 })
        s1.mwrBytes (.cpl e (j.flag 1) (j.final + 256 * ((c.cplProd + 1) % 2 ^ 32))) (base + c.cplProd % size * 32) (j.record (c.cplProd / size % 2))

/-- `CE_COMPLETION` (R192, R223). -/
def EpState.ceCompletion (s : EpState) (e : Nat) : EpState := (s.ceRefused e).ceRecord e

/-- A completion record has been acknowledged: its notice (Tables 6.7, 6.9). -/
def EpState.cplArsp (s : EpState) (e : Nat) (notify : Bool) (x : Nat) : EpState :=
  if notify then s.notice 0x02 (1024 + e) (x / 256) (x % 256) else s

/-! ### Engine states (Table 5.5) -/

/-- `EP_CE_CTRL.EN` written 1 (Tables 5.5, 5.18). -/
def EpState.ceEnable (s : EpState) (e : Nat) : EpState :=
  (s.mod (fun c => c.wrF (ceA e 0) 0 0 1)).modCe e (fun c => if c.st = .disabled then { c with st := .idle } else c)

/-- An engine enters ABORTING: nothing unsent is sent any more, every unfinished descriptor is ABORTED. -/
def EpState.ceAborting (s : EpState) (e : Nat) (off : Bool) : EpState :=
  let dead := fun (r : SrcReq) => r.engine == e && r.st == .issued
  let s1 := s.modSrc (fun q => { q with reqs := q.reqs.filter (fun r => !dead r), fences := q.fences.filter (fun f => f.engine != e) })
  let s2 := { s1 with pieces := s1.pieces.filter (fun p => p.engine != e) }
  let s3 := s2.modCe e (fun c =>
    { c with
      st := .aborting, toDisabled := off || (c.toDisabled && c.st == .aborting),
      jobs := c.jobs.map (fun j =>
        if j.finished then j
        else { j with started := true, issuedAll := true, code := if j.code = 0 then 5 else j.code }) })
  let live := fun (i : Nat) =>
    (s3.src.reqs.filter (fun r => r.engine == e && (match r.cont with | .store _ k => k == i | .atomic _ k => k == i | .back _ k _ => k == i | _ => false))).length +
    (s3.lha.ereqs.filter (fun x => match x.purp with | .localWrite f k => f == e && k == i | .opWrite f k => f == e && k == i | .qRead f k _ _ => f == e && k == i | .backRead f k _ => f == e && k == i | _ => false)).length
  s3.modCe e (fun c => { c with jobs := c.jobs.map (fun j => { j with left := live j.idx }) })

/-- An access over the host attachment reads or writes data of an engine's descriptors. -/
def Ereq.ofEngine (x : Ereq) (e : Nat) : Bool :=
  match x.purp with
  | .line _ _ => x.unit == e
  | .localWrite f _ => f == e
  | .opRead f _ => f == e
  | .opWrite f _ => f == e
  | .qRead f _ _ _ => f == e
  | .backRead f _ _ => f == e
  | .desc f _ => f == e
  | _ => false

/-- Nothing of an engine is outstanding. -/
def EpState.ceQuiet (s : EpState) (e : Nat) : Bool :=
  let c := s.ce e
  !(s.src.reqs.any (fun r => r.engine == e)) && !(s.lha.ereqs.any (fun x => x.ofEngine e)) && !c.more && !c.asking && c.jobs.all (·.finished) && s.pieces.all (fun p => p.engine != e)

/-- `EP_CE_CTRL.EN` written 0 (Tables 5.5, 5.18). Table 5.5 has no such exit from IDLE; nothing is outstanding there, and the engine is DISABLED at once (DESIGN CHOICE, notes/assumptions/78.md). -/
def EpState.ceDisable (s : EpState) (e : Nat) : EpState :=
  let s1 := s.mod (fun c => c.wrF (ceA e 0) 0 0 0)
  match (s.ce e).st with
  | .disabled => s1
  | .idle => s1.modCe e (fun c => { c with st := .disabled })
  | _ => s1.ceAborting e true

/-- `EP_CE_CTRL.ABORT` written 1. -/
def EpState.ceAbort (s : EpState) (e : Nat) : EpState :=
  match (s.ce e).st with
  | .running => s.ceAborting e false
  | .faulted => s.ceAborting e false
  | _ => s

/-- `EP_CE_CTRL.RESUME` written 1. -/
def EpState.ceResume (s : EpState) (e : Nat) : EpState :=
  s.modCe e (fun c => if c.st = .faulted then { c with st := .running } else c)

/-- An engine whose work has come to an end changes state (Table 5.5). -/
def EpState.ceSettle (s : EpState) (e : Nat) : EpState :=
  let c := s.ce e
  match c.st with
  | .running => if !c.more ∧ !c.asking ∧ c.jobs.isEmpty then s.modCe e (fun c => { c with st := .idle }) else s
  | .aborting =>
    let s1 := s.modCe e (fun c =>
      { c with jobs := c.jobs.map (fun j => if (j.fetched && j.started) || (!j.fetched && (c.more || c.asking)) then j else { j with fetched := true, started := true, issuedAll := true, code := 5 }) })
    if s1.ceQuiet e then s1.modCe e (fun c => { c with st := if c.toDisabled then .disabled else .idle, toDisabled := false }) else s1
  | _ => s

/-- A front descriptor with a reserved operation is invalid (R187, R188). -/
def EpState.ceReserved (s : EpState) (e : Nat) : EpState :=
  match s.ceNext e with
  | some j => if 1 ≤ j.op ∧ j.op ≤ 6 then s else s.ceStop e j.idx 4 0
  | none => s

/-! ### Read-back of measured copies -/

/-- One read of the destination of a measured copy (R224): `true` while it may go on. -/
def EpState.backStep (s : EpState) (e idx : Nat) : EpState × Bool :=
  match s.job e idx with
  | none => (s, false)
  | some j =>
    if j.back ≠ 1 ∨ j.rows ≤ j.row then (s, false)
    else
      let va := j.f 16 8 + j.row * j.f 40 8 + j.off
      match s.translate e (s.ceAsid e) va with
      | (.wait, s1) => (s1, false)
      | (.fault, s1) => (s1.ceStop e idx 2 va, false)
      | (.leaf l, s1) =>
        let a := l.at va
        let n := min (j.rowBytes - j.off) (256 - a % 256)
        let cells := (a % 64 + n + 63) / 64 * 4
        let at_ := j.row * j.rowBytes + j.off
        let s2 := s1.modJob e idx (fun j =>
          { j with left := j.left + 1, row := if j.off + n = j.rowBytes then j.row + 1 else j.row, off := if j.off + n = j.rowBytes then 0 else j.off + n,
                   hash := Tab.put j.hash at_ [BitVec.ofNat 8 (a % 64), BitVec.ofNat 8 n, BitVec.ofNat 8 (n / 256)] })
        if l.global_ then
          (s2.issue { id := 0, engine := e, op := 1, dst := a / 2 ^ 52 % 256, woff := a / 64 * 64 % 2 ^ 52, len := 16 * cells, flags := { relaxed := j.flag 2 }, cont := .back e idx at_, span := l.span }, true)
        else ((s2.mrd (.backRead e idx at_) (a / 64 * 64) cells).through l.span e, true)

/-- Read back as far as translations let. -/
def EpState.backRun (s : EpState) (e idx : Nat) : Nat → EpState
  | 0 => s
  | n + 1 =>
    match s.backStep e idx with
    | (s1, true) => EpState.backRun s1 e idx n
    | (s1, false) => s1

/-- Bytes read back take the place that the request noted (offset in the line, count). -/
def EpState.backArrive (s : EpState) (e idx at_ : Nat) (data : Option (List Byte)) (ord status : Nat) (dup reissued : Bool) : EpState :=
  s.modJob e idx (fun j0 =>
    let j := { j0 with dup := j0.dup || dup, reissued := j0.reissued || reissued }
    match data with
    | some d =>
      let note := Tab.get j.hash [] at_
      { j with left := j.left - 1, hash := Tab.put j.hash at_ ((d.drop (pb note 0)).take (pb note 1 + 256 * pb note 2)) }
    | none => { j.fail ord status with left := j.left - 1 })

/-- Begin and end the read-back of measured copies from a global source. One whose source is global only in part is read back whole as well (DESIGN CHOICE, notes/assumptions/80.md). -/
def EpState.backSettle (s : EpState) (e : Nat) : EpState :=
  each (s.ce e).jobs s (fun s j =>
    if j.measured && j.srcGlobal && j.started && j.issuedAll && j.left == 0 && j.errors == 0 && j.code == 0 then
      if j.back = 0 then
        let s1 := s.modJob e j.idx (fun j => { j with back := 1, row := 0, off := 0, hash := [] })
        s1.backRun e j.idx (j.rows * j.rowBytes + 1)
      else if j.back = 1 then (if j.row < j.rows then s.backRun e j.idx (j.rows * j.rowBytes + 1) else s.modJob e j.idx (fun j => { j with back := 2 }))
      else s
    else if j.back == 1 && decide (j.row < j.rows) && j.code == 0 then s.backRun e j.idx (j.rows * j.rowBytes + 1)
    else s)

/-! ### Measurement slots -/

/-- `EP_MEAS_SLOT_CTRL` written with OPEN = 1 (R223). -/
def EpState.measOpen (s : EpState) (m v : Nat) : EpState :=
  { s with meas := Tab.put s.meas m { opened := true, engine := bits v 12 8, pitch := s.pitch } }

/-- `EP_MEAS_SLOT_CTRL` written with CLOSE = 1 (R223). -/
def EpState.measClose (s : EpState) (m : Nat) : EpState :=
  { s with meas := Tab.upd s.meas {} m (fun x => { x with opened := false, frozen := true }) }

end Sys2Proof.Machine
end

