-- ==== Sys2Proof/Machine/EpDirect.lean ====
section
/-!
DEFINITION. Direct access (R239 to R242) and receive queues (R75 to R80).
-/

namespace Sys2Proof.Machine

/-! ### Direct access -/

/-- An accepted direct access ends with its answer (R241). -/
def EpState.endAreq (s : EpState) (id status detail : Nat) (data : List Byte) : EpState :=
  match s.lha.areqs.find? (fun a => a.id == id) with
  | some a => (s.modLha (fun l => { l with areqs := l.areqs.filter (fun b => b.id != id) })).ersp a.msg status detail data
  | none => s

/-- Header flags of a direct access, copied into its packet (R241). -/
def LhaMsg.hdr (m : LhaMsg) : HdrFlags := { acquire := m.acquire, release := m.release, relaxed := m.relaxed }

/-- An accepted access that completes ADDRESS_FAULT without a request (R142): later fences of its context count it (R115). It names no node, so a fence limited to one leaves it out. -/
def EpState.areqFault (s : EpState) (a : Areq) (detail : Nat) : EpState :=
  (s.modSrc (fun q => { q with nextId := q.nextId + 1, fails := q.fails ++ [{ id := q.nextId, engine := 32 + a.msg.ctx, node := 256 }] })).endAreq a.id stAddress detail []

/-- Turn an accepted access into its operation (Table 6.6) once its translation is known. -/
def EpState.startAreq (s : EpState) (a : Areq) : EpState :=
  let m := a.msg
  let unit := 32
  let go := fun (s : EpState) => s.modLha (fun l => { l with areqs := l.areqs.map (fun b => if b.id = a.id then { b with started := true } else b) })
  if m.mop = 5 then
    (go s).startFence { engine := 32 + m.ctx, all := bit m.addr 0, node := if bit m.addr 1 then some (bits m.addr 15 8) else none, areq := some a.id }
  else
    match s.translate unit m.asid m.addr with
    | (.wait, s1) => s1
    | (.fault, s1) => s1.areqFault a 0
    | (.leaf l, s1) =>
      let pa := l.at m.addr
      if (m.mop = 2 ∨ m.mop = 3) ∧ !l.w ∨ m.mop = 4 ∧ !(l.w && l.at_) then s1.areqFault a 1
      else if l.global_ then
        let op := if m.mop = 1 then 1 else if m.mop = 2 then 2 else if m.mop = 4 then 5 else if m.flagNode then 3 else if m.flagAll then 4 else 6
        let q : SrcReq :=
          { id := 0, engine := 32 + m.ctx, op := op, dst := pa / 2 ^ 52 % 256, woff := pa % 2 ^ 52, len := 16 * m.len, flags := m.hdr, cont := .areq a.id, span := l.span,
            mayFill := !s1.xlt.streaming m.asid m.addr,
            data := if op = 1 then [] else if isMasked op then maskedData (m.data.take 64) (lhaMask m.data) else m.data }
        match (if op = 1 ∧ q.mayFill then s1.rlcRead q else none) with
        | some d => (s1.mod (fun c => c.bump 0x42008)).endAreq a.id stOk 0 d
        | none => (go s1).issue q
      else if m.flagNode then s1.endAreq a.id stMalformed 95 []
      else if m.flagAll then s1.endAreq a.id stMalformed 94 []
      else
        let s2 := go s1
        let s3 :=
          if m.mop = 1 then s2.mrd (.areq a.id) pa m.len
          else if m.mop = 2 then s2.mwr (.areq a.id) pa m.data
          else if m.mop = 3 then s2.ereq (.areq a.id) 0x23 pa 5 m.data
          else s2.mat (.areq a.id) pa m.data
        s3.through l.span unit

/-- Try every waiting access in order; an access never passes an earlier one of its context (R152), nor begins while a fence of it waits (R113). -/
def EpState.tryAreqs (s : EpState) : List Areq → List Nat → EpState
  | [], _ => s
  | a :: rest, stuck =>
    if a.started then EpState.tryAreqs s rest stuck
    else if stuck.contains a.msg.ctx || s.src.fences.any (fun f => f.engine == 32 + a.msg.ctx) then EpState.tryAreqs s rest stuck
    else
      let s1 := s.startAreq a
      let waits := s1.lha.areqs.any (fun b => b.id == a.id && !b.started)
      EpState.tryAreqs s1 rest (if waits then a.msg.ctx :: stuck else stuck)

/-- A message on AREQ (R233, R239): malformed, refused, or taken by `go`. Its credits are due back. -/
def EpState.areqMsg (s : EpState) (m : LhaMsg) (mop : Nat) (go : EpState → EpState) : EpState :=
  let s1 := s.owe m
  if m.chan ≠ 0 ∨ (areqBad m).isSome ∨ m.mop ≠ mop then s.lhaBad m
  else
    let r := s1.areqRefusal m
    if r ≠ 0 then s1.ersp m stAddress r [] else go s1

/-- `LD`, `ST`, `ST_MASKED`, `AT`, `FENCE`: the access is accepted and begun as far as it may. -/
def EpState.areqTake (s : EpState) (m : LhaMsg) (mop : Nat) : EpState :=
  s.areqMsg m mop (fun s => s.modLha (fun l => { l with nextAreq := l.nextAreq + 1, areqs := l.areqs ++ [{ id := l.nextAreq, msg := m }] }))

/-- `KERNEL_START` (R242). -/
def EpState.kernelStart (s : EpState) (m : LhaMsg) : EpState :=
  s.areqMsg m 6 (fun s => (s.rlcDrop (fun _ => true)).ersp m stOk 0 [])

/-- A direct access to local memory has been answered (R248). -/
def EpState.areqArsp (s : EpState) (id status : Nat) (data : List Byte) : EpState :=
  s.endAreq id (if status = 0 then stOk else stPoison) 0 (if status = 0 then data else [])

/-- A direct access to remote memory has completed (R241, Table 3.15); its answer carries the detail of the response (R234). -/
def EpState.areqDone (s : EpState) (id : Nat) (d : SrcDone) : EpState :=
  s.endAreq id (if d.dup then stDup else d.status) d.detail (if d.status = stOk then d.data else [])

/-- `FENCE_COMPLETE` (R112, R115): the fence of an engine or a context completes once nothing of its scope is outstanding. -/
def EpState.fenceComplete (s : EpState) (engine : Nat) : EpState :=
  match s.src.fences.find? (fun f => f.engine == engine && s.fenceReady f) with
  | none => s
  | some f =>
    let n := s.fenceErrors f
    let s1 := s.endFence f
    match f.areq with
    | some id => s1.endAreq id stOk n []
    | none => s1.modJob engine f.idx (fun j => { j with errors := n, left := 0 })

/-! ### Receive queues -/

/-- A receive queue. -/
def EpState.rxq (s : EpState) (q : Nat) : RxQueue := Tab.get s.home.rq {} q

/-- Change a receive queue. -/
def EpState.modRxq (s : EpState) (q : Nat) (f : RxQueue → RxQueue) : EpState :=
  s.modHome (fun h => { h with rq := Tab.upd h.rq {} q f })

/-- Address of a queue's descriptor (R725). -/
def EpState.rqDescA (s : EpState) (q : Nat) : Nat := (s.c.rd 0x4005C).toNat * 2 ^ 32 + fld (s.c.rd 0x40058) 31 14 * 2 ^ 14 + q * 64

/-- Read the descriptor for the first message of a queue (R76). -/
def EpState.rqBegin (s : EpState) (q : Nat) : EpState :=
  if (s.rxq q).jobs.isEmpty then s else s.mrd (.rqDesc q) (s.rqDescA q) 4

/-- Answer a message on its plane. -/
def EpState.msgReply (s : EpState) (plane : Nat) (p : Packet) (status : Nat) : EpState := s.putPacket plane (msgAnswer p status) false

/-- Sender of a message: its domain and node. -/
def msgSender (p : Packet) : Nat := p.msgSrcDomain * 256 + p.src

/-- Legality of a `MSG_SEND` at its receiver (R49, R50, R79). -/
def msgLegal (own : Nat) (p : Packet) : Bool :=
  (badHeader p).isNone && p.dst == own && lenAllowed p && msgLenOk p && !p.merged && p.cmode == 0

/-- Hear a sender: its record's time is new (R80). -/
def EpState.hearSender (s : EpState) (k : Nat) : EpState :=
  s.modHome (fun h =>
    { h with senders :=
        if (Tab.find h.senders k).isSome then Tab.upd h.senders {} k (fun r => { r with last := s.c.pick })
        else if h.senders.length < 4096 then Tab.put h.senders k { last := s.c.pick } else h.senders })

/-- A message arrives for a receive queue (R77, R80). A copy of one still being received is heard and waits with it.
A message with REPLAY = 0 whose SEQ the record shows delivered through a copy with REPLAY = 1 is delivered again: R80 speaks of messages with REPLAY = 1 only (the model's choice, notes/assumptions/29.md). -/
def EpState.msgTake (s : EpState) (plane : Nat) (p : Packet) : EpState :=
  let q := p.msgQueue
  let k := msgSender p
  if s.confidential ∧ !p.flags.encrypted ∧ p.msgSrcDomain = s.domain then (s.mod (fun c => c.bump 0xF0010)).msgReply plane p stMalformed
  else if !msgLegal s.node p then s.msgReply plane p stMalformed
  else
    let known := Tab.find s.home.senders k
    let dup := p.flags.replay && (match known with | some r => r.seqs.contains p.seq | none => false)
    if dup then (s.hearSender k).msgReply plane p stOk
    else if p.flags.replay && (s.rxq q).jobs.any (fun j => msgSender j.pkt == k && j.pkt.seq == p.seq) then
      (s.hearSender k).modRxq q (fun x => { x with jobs := x.jobs.map (fun j => if msgSender j.pkt = k ∧ j.pkt.seq = p.seq then { j with copies := j.copies ++ [(plane, p)] } else j) })
    else
      let s1 := s.hearSender k
      if !s1.serving then s1.msgReply plane p stDisabled
      else
        let first := (s1.rxq q).jobs.isEmpty
        let s2 := s1.modRxq q (fun x => { x with jobs := x.jobs ++ [{ pkt := p, plane := plane, arrival := s.c.pick, replayed := p.flags.replay && known.isNone }] })
        if first then s2.rqBegin q else s2

/-- A message has been delivered. An original shows that the SEQ in the half circle ahead of it belong to the lap before, and these leave the record (R72, R80; notes/assumptions/29.md). -/
def MsgSender.deliver (r : MsgSender) (seq : Nat) (replay : Bool) : MsgSender :=
  let kept := if replay then r.seqs else r.seqs.filter (fun q => decide ((seq + 4096 - q) % 4096 < 2048))
  { r with seqs := seq :: kept.filter (· != seq) }

/-- The first message of a queue ends with a status: it and its copies are answered, and the next one begins. -/
def EpState.rqEnd (s : EpState) (q status : Nat) : EpState :=
  match (s.rxq q).jobs with
  | [] => s
  | j :: rest =>
    let s1 := s.modRxq q (fun x => { x with jobs := rest })
    let k := msgSender j.pkt
    let note := fun (h : Home) =>
      if (Tab.find h.senders k).isSome then
        { h with senders := Tab.upd h.senders {} k (fun r => r.deliver j.pkt.seq j.pkt.flags.replay) }
      else h
    let s2 := if status = stOk then s1.modHome note else s1
    let s3 := s2.msgReply j.plane j.pkt status
    (each j.copies s3 (fun s c => s.msgReply c.1 c.2 status)).rqBegin q

/-- `EP_RQ_FAULT` (R76). -/
def EpState.rqFault (s : EpState) (q cause : Nat) : EpState := s.mod (fun c => c.event 0x40060 (q * 256 + cause))

/-- Why a descriptor is misconfigured (R76), as the cause of `EP_RQ_FAULT`. -/
def rqBad (d : List Byte) : Option Nat :=
  let l := pb d 8
  if l < 4 ∨ 16 < l then some 1
  else if leNat (d.take 8) % 4096 ≠ 0 then some 2
  else if bits (pb d 9) 3 1 ≠ 0 ∨ 16 ≤ pb d 11 ∨ leNat ((d.drop 12).take 4) ≠ 0 ∨ leNat ((d.drop 24).take 40) ≠ 0 then some 3
  else none

/-- Write a message into its slot (R77): its bytes and bytes 16 to 63 of the record header, line by line. -/
def EpState.rqWrite (s : EpState) (q : Nat) (j : RqJob) (d : List Byte) : EpState :=
  let x := s.rxq q
  let slot := leNat (d.take 8) + x.prod % 2 ^ pb d 8 * 320
  let n := j.pkt.msgLen
  let lines := List.range ((n + 63) / 64)
  let s1 := s.modRxq q (fun x => { x with jobs := match x.jobs with | k :: r => { k with desc := d, left := lines.length + 1 } :: r | [] => [] })
  let s2 := s1.mwrBytes (.rqBody q) (slot + 16) (List.replicate 48 0)
  each lines s2 (fun s i =>
    let b := ((j.pkt.data.take n).drop (64 * i)).take 64
    if b.length = 64 then s.mwr (.rqBody q) (slot + 64 + 64 * i) b else s.mwrBytes (.rqBody q) (slot + 64 + 64 * i) b)

/-- The descriptor of the first message has been read (R76, R77). `again`: CONSUMER was read again because the ring looked full. -/
def EpState.rqDescArsp (s : EpState) (q : Nat) (again : Bool) (status : Nat) (d : List Byte) : EpState :=
  match (s.rxq q).jobs with
  | [] => s
  | j :: _ =>
    if status ≠ 0 then s.rqEnd q stPoison
    else
      let on := bit (pb d 9) 0
      let s1 := s.modRxq q (fun x => { x with enabled := on, prod := if on && !x.enabled then 0 else x.prod })
      match rqBad d with
      | some k => (s1.rqFault q k).rqEnd q stDisabled
      | none =>
        let dom := leNat ((d.drop 10).take 2)
        let size := 2 ^ pb d 8
        let used := ((s1.rxq q).prod + 2 ^ 32 - leNat ((d.drop 20).take 4)) % 2 ^ 32
        if !on then s1.rqEnd q stDisabled
        else if bits (pb d 9) 7 4 ≠ j.pkt.pitch ∨ (dom ≠ 0xFFF ∧ dom ≠ j.pkt.msgSrcDomain) then s1.rqEnd q stPitch
        else if size < used then (s1.rqFault q 4).rqEnd q stFull
        else if used = size then
          if again then s1.rqEnd q stFull else s1.mrd (.rqAgain q) (s1.rqDescA q) 4
        else s1.rqWrite q j d

/-- A write of the body has been acknowledged; after the last, bytes 0 to 15 of the header follow in one write. -/
def EpState.rqBodyArsp (s : EpState) (q status : Nat) : EpState :=
  match (s.rxq q).jobs with
  | [] => s
  | j :: _ =>
    let s1 := s.modRxq q (fun x => { x with jobs := match x.jobs with | k :: r => { k with left := k.left - 1, again := k.again || status != 0 } :: r | [] => [] })
    if 1 < j.left then s1
    else if status ≠ 0 ∨ j.again then s1.rqEnd q stPoison
    else
      let prod := (s1.rxq q).prod
      let l := pb j.desc 8
      let slot := leNat (j.desc.take 8) + prod % 2 ^ l * 320
      let p := j.pkt
      s1.mwrBytes (.rqHead q) slot
        (leBytes p.msgLen 2 ++ [BitVec.ofNat 8 p.src, BitVec.ofNat 8 (prod / 2 ^ l % 2 + 2 * b2n j.replayed)] ++ leBytes p.msgSrcDomain 2 ++ leBytes p.seq 2 ++ leBytes j.arrival 8)

/-- The header has been written: PRODUCER advances, in the descriptor as well (R76, R77). -/
def EpState.rqHeadArsp (s : EpState) (q status : Nat) : EpState :=
  if status ≠ 0 then s.rqEnd q stPoison
  else
    let s1 := s.modRxq q (fun x => { x with prod := (x.prod + 1) % 2 ^ 32 })
    s1.mwrBytes (.rqProd q) (s1.rqDescA q + 16) (leBytes (s1.rxq q).prod 4)

/-- The descriptor's PRODUCER has been written: the notice and the answer (R77, Table 6.9). -/
def EpState.rqProdArsp (s : EpState) (q : Nat) : EpState :=
  (s.notice 0x08 (1095 + q) q (s.rxq q).prod).rqEnd q stOk

/-- `MSG_DUP_EXPIRY` (R80): the record of a sender silent for 1,000 picks goes. -/
def EpState.msgExpiry (s : EpState) (k : Nat) : EpState :=
  match Tab.find s.home.senders k with
  | some r => if r.last + 1000 ≤ s.c.pick then s.modHome (fun h => { h with senders := Tab.del h.senders k }) else s
  | none => s

end Sys2Proof.Machine
end

