-- ==== Sys2Proof/Machine/EpQuant.lean ====
section
/-!
DEFINITION. Quantise units (R218 to R222, R456, R457, R460, R461) and the `QCOPY` descriptor; array images in memory (R436, R438).
-/

namespace Sys2Proof.Machine

/-! ### Quantising -/

/-- Input and residual types of Tables 5.15 and 9.13. -/
def srcFmt (code : Nat) : FpFmt := if code = 1 then bf16 else fp32

/-- Bytes of an element of an input or residual type. -/
def srcBytes (code : Nat) : Nat := if code = 1 then 2 else 4

/-- Elements that bytes spell in an input or residual type. -/
def srcCodes (code : Nat) (bs : List Byte) : List Nat := splitBits (8 * srcBytes code) (bs.length / srcBytes code) (leNat bs)

/-- g of R220: the input plus its residual in binary32; a sum beyond its range is the largest finite value and has saturated (R460). -/
def quantInput (inType rType x r : Nat) : Nat × Bool := fp32.encodeSat (((srcFmt inType).decode x).add ((srcFmt rType).decode r))

/-- Residual of an element after quantising (R460): code in RESID_TYPE, saturated. -/
def quantResid (f : NumFmt) (rType scale g q : Nat) : Nat × Bool :=
  let v := fp32.decode g
  if v.special || (f.scale == .e8m0 && scale == 0xFF) then (0, false)
  else if f.elem == .sign && scale == 0x7FC0 then (srcFmt rType).encodeSat v
  else (srcFmt rType).encodeSat (v.add ((f.groupValues scale [q]).headD (.fin false 0 0)).neg)

/-- What quantising gives: element and scale codes, residual codes, elements saturated, special inputs. -/
structure QuantOut where
  image : BlockImage := { codes := [] }
  resid : List Nat := []
  sat : Nat := 0
  nan : Nat := 0
  deriving DecidableEq, Repr

/-- Quantise one scale group of values g (R220, R449 to R453, R460). -/
def quantGroup (f : NumFmt) (rType : Nat) (gs : List (Nat × Bool)) (draws : List Draw) : QuantOut :=
  let o := f.encodeGroup (gs.map (fun g => (fp32.decode g.1).toRat)) draws
  let rs := List.zipWith (fun g q => quantResid f rType o.scale g.1 q) gs o.codes
  let sats := List.zipWith (fun a b => a || b) (List.zipWith (fun g b => g.2 || b) gs o.sat) (rs.map (·.2))
  { image := { codes := o.codes, scales := if f.scale = .none then [] else [o.scale] },
    resid := rs.map (·.1), sat := (sats.filter id).length, nan := (gs.filter (fun g => (fp32.decode g.1).special)).length }

/-- Quantise an array of elements with indices from `i` on, group by group. -/
def quantArray (f : NumFmt) (inType rType : Nat) (stoch : Bool) (seed i : Nat) (xs rs : List Nat) : QuantOut :=
  let gs := List.zipWith (fun x r => quantInput inType rType x r) xs rs
  let n := xs.length / f.group + 1
  let outs := List.zipWith (fun g d => quantGroup f rType g d) (pieces f.group n gs) (pieces f.group n (drawsFrom stoch seed i xs.length))
  { image := { codes := outs.flatMap (·.image.codes), scales := outs.flatMap (·.image.scales) }, resid := outs.flatMap (·.resid),
    sat := outs.foldl (fun a o => a + o.sat) 0, nan := outs.foldl (fun a o => a + o.nan) 0 }

/-- Residuals that are taken as zero when none are read. -/
def zerosLike (xs : List Nat) : List Nat := xs.map (fun _ => 0)

/-! ### Array images (R436, R438) -/

/-- Ranges of the real bytes of a block that holds `n` real elements, from the block's start: elements, then scales. -/
def NumFmt.realParts (f : NumFmt) (n : Nat) : List (Nat × Nat) :=
  (0, n * f.width / 8) :: (if f.scale = .none then [] else [(f.elemArea, n / f.group * f.scaleBytes)])

/-- Real elements of block b of an array of `count` elements. -/
def realElems (count b : Nat) : Nat := min blockElems (count - b * blockElems)

/-- The pieces of bytes to write for an array image at an address: address and bytes, block by block. -/
def imageWrites (f : NumFmt) (img : BlockImage) (va : Nat) : Nat → Nat → List (Nat × List Byte)
  | 0, _ => []
  | fuel + 1, b =>
    let n := min blockElems (img.codes.length - b * blockElems)
    if n = 0 then []
    else
      let blk : BlockImage := { codes := (img.codes.drop (b * blockElems)).take n, scales := (img.scales.drop (b * (blockElems / f.group))).take (n / f.group) }
      let bs := f.imageBytes blk
      ((f.realParts n).map (fun r => (va + b * f.chunks * 256 + r.1, (bs.drop r.1).take r.2))) ++ imageWrites f img va fuel (b + 1)

/-- Cut bytes at an address so that no piece crosses a multiple of `k`. -/
def cutAt (k va : Nat) (bs : List Byte) : Nat → List (Nat × List Byte)
  | 0 => []
  | fuel + 1 =>
    if bs.isEmpty then []
    else
      let n := k - va % k
      (va, bs.take n) :: cutAt k (va + n) (bs.drop n) fuel

/-! ### Units -/

/-- Quantise units in service (R457). -/
def EpState.quUnits (s : EpState) : List Nat := (List.range 8).filter (fun u => !flag (s.c.rd 0x7000C) u)

/-- The units work on a `QCOPY`: one has started and has not yet quantised its elements. Its blocks are spread over every unit in service (Table 5.20; which unit takes which block is the model's choice, notes/assumptions/16.md). -/
def EpState.quBusy (s : EpState) : Bool := s.ces.any (fun e => e.2.jobs.any (fun j => j.op == 2 && j.started && !j.issuedAll && decide (j.row < 4)))

/-- Run `n` format blocks on the units. `fails` names blocks whose check fails, and whether it fails again: transient, or lasting, which retires the unit. -/
def EpState.quRun (s : EpState) (n : Nat) (fails : List (Nat × Bool)) : EpState :=
  let s1 := s.mod (fun c => c.bumpBy 0x70004 31 0 n)
  each (fails.filter (fun f => decide (f.1 < n))) s1 (fun s f =>
    let us := s.quUnits
    match us[f.1 % max 1 us.length]? with
    | none => s
    | some u =>
      if f.2 then s.mod (fun c => ((c.bumpHi 0x70008).wrF 0x7000C u u 1).unitLost 9 u)
      else s.mod (fun c => (c.bumpLo 0x70008).errTransient 9))

/-! ### `QCOPY` -/

/-- Input type of a `QCOPY` (Table 5.15). -/
def CeJob.qIn (j : CeJob) : Nat := j.f 88 1
/-- Residual type. -/
def CeJob.qRt (j : CeJob) : Nat := j.f 91 1
/-- Output format. -/
def CeJob.qFmt (j : CeJob) : NumFmt := fmtOf (j.f 89 1)
/-- A bit of RMODE: 0 stochastic, 1 NO_RIN, 2 NO_ROUT. -/
def CeJob.qMode (j : CeJob) (i : Nat) : Bool := bit (j.f 90 1) i
/-- Elements. -/
def CeJob.qCount (j : CeJob) : Nat := j.rowBytes / srcBytes j.qIn
/-- Range of RESID_OUT: address and bytes, empty under NO_ROUT. -/
def CeJob.qOut (j : CeJob) : Nat × Nat := (j.f 72 8, if j.qMode 2 then 0 else j.qCount * srcBytes j.qRt)
/-- Range of RESID_IN: address and bytes, empty under NO_RIN. -/
def CeJob.qRin (j : CeJob) : Nat × Nat := (j.f 64 8, if j.qMode 1 then 0 else j.qCount * srcBytes j.qRt)

/-- A `QCOPY` is invalid whatever its translations are (R188, R219, Table 5.15). -/
def CeJob.qInvalid (j : CeJob) : Bool :=
  j.invalid || j.rows != 1 || decide (1 < j.f 88 1) || (numFmt (j.f 89 1)).isNone || decide (8 ≤ j.f 90 1) || decide (1 < j.f 91 1) ||
  leNat ((j.bytes.drop 92).take 36) != 0 || j.rowBytes % (srcBytes j.qIn * j.qFmt.group) != 0

/-- Two ranges overlap; an empty range overlaps nothing. -/
def rangesMeet (a b : Nat × Nat) : Bool := a.2 != 0 && b.2 != 0 && overlap a.1 a.2 b.1 b.2

/-- A `QCOPY` waits for another in progress whose residual ranges its RESID_OUT overlaps (R222). -/
def EpState.qWaits (s : EpState) (e : Nat) (j : CeJob) : Bool :=
  s.ces.any (fun x =>
    s.ceAsid x.1 == s.ceAsid e &&
    x.2.jobs.any (fun k => k.op == 2 && k.started && !k.finished && (rangesMeet j.qOut k.qOut || rangesMeet j.qOut k.qRin)))

/-- Cells that cover `n` bytes from an address inside 256 bytes. -/
def coverCells (a n : Nat) : Nat := (a % 64 + n + 63) / 64 * 4

/-- The bytes wanted of a read that covers whole lines. -/
def coverCut (a n : Nat) (d : List Byte) : List Byte := (d.drop (a % 64)).take n

/-- Stream k of a `QCOPY`'s reads: 0 the source, 1 the residuals. Address and bytes. -/
def CeJob.qStream (j : CeJob) (k : Nat) : Nat × Nat := if k = 0 then (j.f 8 8, j.rowBytes) else j.qRin

/-- Quantise what has been read, and note every write (R220). -/
def EpState.qQuantise (s : EpState) (e idx : Nat) (j : CeJob) : EpState :=
  let blocks := j.qCount / j.qFmt.group
  let s1 := s.quRun blocks j.fails
  if s1.quUnits.isEmpty then s1.ceStop e idx 4 0
  else
    let xs := srcCodes j.qIn (j.input.flatMap (·.2))
    let rs := if j.qMode 1 then zerosLike xs else srcCodes j.qRt (j.resid.flatMap (·.2))
    let o := quantArray j.qFmt j.qIn j.qRt (j.qMode 0) (j.f 80 8) 0 xs rs
    let out := (imageWrites j.qFmt o.image (j.f 16 8) (xs.length / blockElems + 1) 0).flatMap (fun w => cutAt 4096 w.1 w.2 (w.2.length + 1))
    let back := if j.qMode 2 then [] else cutAt 4096 (j.f 72 8) (leBytes (joinBits (8 * srcBytes j.qRt) o.resid) (srcBytes j.qRt * o.resid.length)) (4 * o.resid.length + 1)
    s1.modJob e idx (fun j =>
      { j with
        row := 4, qsat := o.sat, qnan := o.nan, hash := if j.measured then j.input else [], input := [], resid := [],
        todo := out.map (fun w => (false, w.1, w.2)) ++ back.map (fun w => (true, w.1, w.2)) })

/-- One step of a `QCOPY` (Table 5.2, R189, R219): the checks of its first pages, a read, the quantising, a write. `true` while it may go on at once. -/
def EpState.qStep (s : EpState) (e idx : Nat) : EpState × Bool :=
  match s.job e idx with
  | none => (s, false)
  | some j =>
    let asid := s.ceAsid e
    if j.issuedAll then (s, false)
    else if j.row = 0 then
      match s.translate e asid (j.f 16 8) with
      | (.wait, s1) => (s1, false)
      | (.fault, s1) => (s1.ceStop e idx 2 (j.f 16 8), false)
      | (.leaf l, s1) =>
        if !l.w then (s1.ceStop e idx 3 (j.f 16 8), false)
        else if !l.global_ ∧ (j.cmode ≠ 0 ∨ j.flag 3) then (s1.ceStop e idx 4 0, false)
        else if j.qMode 2 then (s1.modJob e idx (fun j => { j with row := 1 }), true)
        else
          match s1.translate e asid j.qOut.1 with
          | (.wait, s2) => (s2, false)
          | (.fault, s2) => (s2.ceStop e idx 2 j.qOut.1, false)
          | (.leaf r, s2) =>
            if r.global_ then (s2.ceStop e idx 4 0, false)
            else if !r.w then (s2.ceStop e idx 3 j.qOut.1, false)
            else (s2.modJob e idx (fun j => { j with row := 1 }), true)
    else if j.row ≤ 2 then
      let k := j.row - 1
      let st := j.qStream k
      if st.2 ≤ j.off then (s.modJob e idx (fun j => { j with row := j.row + 1, off := 0 }), true)
      else
        let va := st.1 + j.off
        match s.translate e asid va with
        | (.wait, s1) => (s1, false)
        | (.fault, s1) => (s1.ceStop e idx 2 va, false)
        | (.leaf l, s1) =>
          if l.global_ then (s1.ceStop e idx 4 0, false)
          else
            let n := min (256 - va % 256) (st.2 - j.off)
            ((((s1.modJob e idx (fun j => { j with off := j.off + n, left := j.left + 1 })).mrd (.qRead e idx k j.off) (l.at va / 64 * 64) (coverCells va n))).through l.span e, true)
    else if j.row = 3 then
      if j.left ≠ 0 then (s, false)
      else if j.errors ≠ 0 then (s.modJob e idx (fun j => { j with issuedAll := true }), false)
      else (s.qQuantise e idx j, true)
    else
      match j.todo with
      | [] => (s.modJob e idx (fun j => { j with issuedAll := true }), false)
      | w :: rest =>
        match s.translate e asid w.2.1 with
        | (.wait, s1) => (s1, false)
        | (.fault, s1) => (s1.ceStop e idx 2 w.2.1, false)
        | (.leaf l, s1) =>
          let a := l.at w.2.1
          let last := !w.1 && rest.all (·.1)
          if !l.w then (s1.ceStop e idx 3 w.2.1, false)
          else if w.1 ∧ l.global_ then (s1.ceStop e idx 4 0, false)
          else
            let us := unitsOf a 0 w.2.2.length w.2.2.length
            let s2 := s1.modJob e idx (fun j => { j with left := j.left + us.length, todo := rest })
            (each us s2 (fun s u =>
              let b := (w.2.2.drop u.1).take u.2
              let p := a + u.1
              let whole := p % 64 == 0 && u.2 % 64 == 0
              if !l.global_ then (if whole then s.mwr (.localWrite e idx) p b else s.mwrBytes (.localWrite e idx) p b).through l.span e
              else
                let op := if whole then 2 else 6
                let ln := lineWith (p % 64) b
                s.issue { id := 0, engine := e, op := op, dst := p / 2 ^ 52 % 256, woff := p / 64 * 64 % 2 ^ 52, len := u.2, flags := j.flags op (last && u.1 + u.2 == w.2.2.length),
                          cmode := j.cmode, counter := j.f 4 2, data := if whole then b else maskedData ln.1 ln.2, cont := .store e idx, span := l.span }), true)

/-- Steps of a `QCOPY` as far as they go. -/
def EpState.qRun (s : EpState) (e idx : Nat) : Nat → EpState
  | 0 => s
  | n + 1 =>
    match s.qStep e idx with
    | (s1, true) => EpState.qRun s1 e idx n
    | (s1, false) => s1

/-- Bytes of a `QCOPY` have been read (R248). -/
def EpState.qReadArsp (s : EpState) (e idx k off status : Nat) (data : List Byte) : EpState :=
  s.modJob e idx (fun j =>
    let st := j.qStream k
    let va := st.1 + off
    let b := coverCut va (min (256 - va % 256) (st.2 - off)) data
    let j1 := { (if status = 0 then j else j.fail s.src.nextId stPoison) with left := j.left - 1 }
    if k = 0 then { j1 with input := Tab.put j1.input off b } else { j1 with resid := Tab.put j1.resid off b })

/-! ### Running engines -/

/-- Bound on the steps that a descriptor can take at once. -/
def CeJob.steps (j : CeJob) : Nat := j.rows * (j.rowBytes + 4096) + j.rowBytes + 16

/-- Let the started descriptors of an engine issue as far as they may (R190). -/
def EpState.ceRun (s : EpState) (e : Nat) : EpState :=
  each ((s.ce e).jobs.filter (fun j => j.started && !j.issuedAll)) s (fun s j =>
    if (s.ce e).st ≠ .running then s
    else
      match j.op with
      | 1 => s.copyRun e j.idx j.steps
      | 2 => s.qRun e j.idx j.steps
      | 3 => s.atomicTry e j.idx
      | 4 => s.flagTry e j.idx
      | _ => s)

/-- `COPY` (R189). -/
def EpState.ceCopy (s : EpState) (e : Nat) : EpState :=
  s.ceStart e 1 (·.invalid) (fun s j => (s.ceStreams e j).ceRun e)

/-- `QCOPY` (R219): it waits under R222; `fails` are the blocks whose residue check fails (R457). -/
def EpState.ceQcopy (s : EpState) (e : Nat) (fails : List (Nat × Bool)) : EpState :=
  match s.ceNext e with
  | some j =>
    if j.op = 2 ∧ s.qWaits e j ∧ !j.qInvalid then s
    else
      s.ceStart e 2 (fun j => j.qInvalid || s.quUnits.isEmpty)
        (fun s j => ((s.modJob e j.idx (fun j => { j with fails := fails })).ceStreams e j).ceRun e)
  | none => s

/-- `ATOMIC` descriptor. -/
def EpState.ceAtomic (s : EpState) (e : Nat) : EpState := s.ceStart e 3 (·.invalid) (fun s j => (s.ceStreams e j).ceRun e)

/-- `FLAG` descriptor: its source is unused, so only a destination stream prefetches (R206, Table 5.2). -/
def EpState.ceFlag (s : EpState) (e : Nat) : EpState := s.ceStart e 4 (·.invalid) (fun s j => (s.prefetch (j.f 7 1 % 64) (s.ceAsid e) (j.f 16 8)).ceRun e)

/-- `FENCE` descriptor (R191). -/
def EpState.ceFence (s : EpState) (e : Nat) : EpState :=
  s.ceStart e 5 (·.invalid) (fun s j =>
    let mode := j.f 2 1
    (s.modJob e j.idx (fun j => { j with issuedAll := true, left := 1 })).startFence
      { engine := e, all := bits mode 3 2 == 1, node := if bit mode 4 then some (j.f 56 4 % 256) else none, idx := j.idx })

/-- `NOP` descriptor. -/
def EpState.ceNop (s : EpState) (e : Nat) : EpState := s.ceStart e 6 (·.invalid) (fun s j => s.modJob e j.idx (fun j => { j with issuedAll := true }))

end Sys2Proof.Machine
end

