-- ==== Sys2Proof/Machine/EpMember.lean ====
section
/-!
DEFINITION. The end-point as member of collectives (R385 to R397, R437, R438, R461): descriptor ring, member records, contributions, results, states, completion records.
-/

namespace Sys2Proof.Machine

/-- Change the member. -/
def EpState.modColl (s : EpState) (f : Member → Member) : EpState := { s with coll := f s.coll }

/-- A member record. -/
def EpState.memRec (s : EpState) (id : Nat) : Option MemRec := s.coll.recs.find? (fun r => r.id == id)

/-- Change a member record. -/
def EpState.modMem (s : EpState) (id : Nat) (f : MemRec → MemRec) : EpState :=
  s.modColl (fun c => { c with recs := c.recs.map (fun r => if r.id = id then f r else r) })

/-- Change a plane of a member record. -/
def MemRec.modPlane (r : MemRec) (k : Nat) (f : MemPlane → MemPlane) : MemRec := { r with planes := Tab.upd r.planes {} k f }

/-- Change a plane of a record in the state. -/
def EpState.modMemPlane (s : EpState) (id k : Nat) (f : MemPlane → MemPlane) : EpState := s.modMem id (fun r => r.modPlane k f)

/-! ### The descriptor (Table 9.13) -/

/-- Little-endian field of a descriptor. -/
def MemRec.f (r : MemRec) (o n : Nat) : Nat := leNat ((r.bytes.drop o).take n)
/-- HANDLE. -/
def MemRec.handle (r : MemRec) : Nat := r.f 0 2 % 4096
/-- GROUP. -/
def MemRec.group (r : MemRec) : Nat := r.f 2 2 % 1024
/-- SEQ. -/
def MemRec.seq (r : MemRec) : Nat := r.f 4 4
/-- OP. -/
def MemRec.op (r : MemRec) : Nat := r.f 8 1
/-- Contribution format. -/
def MemRec.etype (r : MemRec) : Nat := r.f 10 1
/-- Result format. -/
def MemRec.otype (r : MemRec) : Nat := r.f 11 1
/-- A bit of OPT: 0 EXACT, 1 STOCH, 2 NAN_ABORT. -/
def MemRec.opt (r : MemRec) (i : Nat) : Bool := bit (r.f 12 1) i
/-- PLANE_MASK. -/
def MemRec.mask (r : MemRec) : Nat := r.f 14 1
/-- NOTIFY. -/
def MemRec.notify (r : MemRec) : Bool := bit (r.f 15 1) 0
/-- QUANT. -/
def MemRec.quant (r : MemRec) : Bool := bit (r.f 15 1) 1
/-- COUNT. -/
def MemRec.count (r : MemRec) : Nat := r.f 16 8
/-- SRC. -/
def MemRec.src (r : MemRec) : Nat := r.f 24 8
/-- DST. -/
def MemRec.dst (r : MemRec) : Nat := r.f 32 8
/-- IN_TYPE. -/
def MemRec.inType (r : MemRec) : Nat := r.f 80 1
/-- RESID_TYPE. -/
def MemRec.rType (r : MemRec) : Nat := r.f 81 1
/-- No residuals are read. -/
def MemRec.noRin (r : MemRec) : Bool := bit (r.f 82 1) 0
/-- No residuals are written. -/
def MemRec.noRout (r : MemRec) : Bool := bit (r.f 82 1) 1
/-- Format of contributions. -/
def MemRec.ef (r : MemRec) : NumFmt := fmtOf r.etype
/-- Format of results. -/
def MemRec.of (r : MemRec) : NumFmt := fmtOf r.otype
/-- Members. -/
def MemRec.m (r : MemRec) : Nat := r.members.length
/-- The planes of the mask. -/
def MemRec.maskPlanes (r : MemRec) : List Nat := (List.range 8).filter (fun k => bit r.mask k)
/-- The program carries lists. -/
def MemRec.lists (r : MemRec) : Bool := r.op == 9 || r.op == 0xA
/-- AUX is an address, translated at posting (Tables 9.11 and 9.13). -/
def MemRec.auxAddr (r : MemRec) : Bool := [7, 0xB, 0xC].contains r.op
/-- This member is the root. -/
def EpState.memRoot (s : EpState) (r : MemRec) : Bool := r.f 13 1 == s.node

/-- Source arrays that the member contributes (Table 9.11). -/
def EpState.memShares (s : EpState) (r : MemRec) : Nat :=
  if r.op = 8 then 0
  else if r.op = 4 then b2n (s.memRoot r)
  else if r.op = 6 ∨ r.op = 7 ∨ r.op = 0xC then r.m
  else 1

/-- Result arrays that the member receives. -/
def EpState.memResults (s : EpState) (r : MemRec) : Nat :=
  if r.op = 8 then 0
  else if r.op = 5 then b2n (s.memRoot r)
  else if r.op = 3 ∨ r.op = 6 ∨ r.op = 7 then r.m
  else 1

/-- Bytes of one array image of `count` elements. -/
def NumFmt.arrayBytes (f : NumFmt) (count : Nat) : Nat := (count + 8191) / 8192 * f.chunks * 256

/-- Elements of one result array. -/
def MemRec.resCount (r : MemRec) : Nat := if r.op = 2 then r.count / max 1 r.m else r.count

/-- Bytes of the ranges that a descriptor names (R388): SRC, DST, RESID_IN, RESID_OUT. -/
def EpState.memRanges (s : EpState) (r : MemRec) : List (Nat × Nat) :=
  let n := s.memShares r
  let plain := fun (ty : Nat) => n * r.count * srcBytes ty
  let list := 8 + pairBytes r.op * r.count
  [(r.src, if r.lists then list else if r.quant then plain r.inType else n * r.ef.arrayBytes r.count),
   (r.dst, if r.lists then (if r.op = 9 then 8 + 8 * r.f 48 8 else 8 + 16 * r.m * r.count) else s.memResults r * r.of.arrayBytes r.resCount),
   (r.f 64 8, if r.quant && !r.noRin then plain r.rType else 0),
   (r.f 72 8, if r.quant && !r.noRout then plain r.rType else 0)]

/-- A descriptor is invalid whatever its translations are (R388, R437, R457). -/
def EpState.memInvalid (s : EpState) (r : MemRec) : Bool :=
  let rs := s.memRanges r
  let blk := fun (c : Nat) => match numFmt c with
    | some f => r.count % f.group == 0
    | none => true
  r.f 0 2 / 4096 != 0 || r.f 2 2 / 1024 != 0 || r.f 9 1 / 16 != 0 || r.f 12 1 / 8 != 0 || r.f 15 1 / 4 != 0 || r.f 56 4 != 0 || r.f 82 1 / 4 != 0 ||
  leNat ((r.bytes.drop 83).take 45) != 0 || r.mask == 0 || decide (2 ^ 40 < r.count) ||
  (r.quant && (rangesMeet (rs.getD 2 (0, 0)) (rs.getD 3 (0, 0)) || decide (1 < r.inType) || decide (1 < r.rType) || s.quUnits.isEmpty)) ||
  (!r.lists && !(blk r.etype && blk r.otype))

/-! ### Packets -/

/-- A control or data packet of a member toward the switch of a plane (R59). -/
def EpState.toSwitch (s : EpState) (r : MemRec) (k op chunk : Nat) (data : List Byte) : EpState :=
  s.putPacket k (Packet.seal
    { op := op, vc := 5, src := s.node, pitch := s.pitch, len := lenCode data.length, woff := collWoff r.handle r.group chunk, seq := r.seq % 4096, data := data }) false

/-- `INTENT` (Table 9.2). -/
def MemRec.intentData (r : MemRec) : List Byte :=
  let c0 := r.op * 2 ^ 120 + r.f 9 1 * 2 ^ 116 + r.etype * 2 ^ 104 + r.otype * 2 ^ 96 + b2n (r.opt 0) * 2 ^ 95 + b2n (r.opt 1) * 2 ^ 94 + b2n (r.opt 2) * 2 ^ 93 +
    r.f 13 1 * 2 ^ 80 + r.mask * 2 ^ 72 + r.count
  beBytes c0 16 ++ beBytes (r.f 40 8 * 2 ^ 64 + r.aux) 16 ++ beBytes (r.seq * 2 ^ 96) 16 ++ List.replicate 16 0

/-- `ABORT` of a kind with a cause (R356): 1 ABORT, 2 RECEIVED, 3 QUERY. -/
def EpState.memAbort (s : EpState) (r : MemRec) (k kind cause : Nat) : EpState :=
  s.toSwitch r k opAbort 0 (ctrlData (kind * 2 ^ 120 + cause * 2 ^ 112 + r.seq * 2 ^ 64) 0)

/-- An event of `EP_COLL_EVENT` (Table 9.17). -/
def EpState.memEvent (s : EpState) (cause : Nat) : EpState := s.mod (fun c => c.event 0xA002C (cause * 256))

/-- A plane of a record. -/
def MemRec.plane (r : MemRec) (k : Nat) : MemPlane := Tab.get r.planes {} k

/-- A plane is still open for R394. -/
def MemPlane.isOpen (p : MemPlane) : Bool := !p.received && p.state == 0

/-- Send `ABORT` with a cause on every plane of the mask that `which` picks, whose port is raised and where none has been sent. -/
def EpState.abortPlanes (s : EpState) (id cause : Nat) (which : Nat → MemPlane → Bool) : EpState :=
  match s.memRec id with
  | none => s
  | some r =>
    each (r.maskPlanes.filter (fun k => which k (r.plane k) && !(r.plane k).abortSent && !s.portDown k)) s
      (fun s k => (s.memAbort r k 1 cause).modMemPlane id k (fun p => { p with abortSent := true }))

/-- A source or destination fault: cause 0x05 on every plane still open (R388, R461). -/
def EpState.memFault (s : EpState) (id : Nat) : EpState := s.abortPlanes id 5 (fun _ p => p.isOpen)

/-! ### The ring -/

/-- `EP_COLL_DOORBELL` (R185, R387). -/
def EpState.collDoorbell (s : EpState) (v : Nat) : EpState :=
  let n := ringSlots (s.c.rf' 0xA0000 20 16)
  let ahead := (v + 2 ^ 32 - s.coll.cons) % 2 ^ 32
  if n < ahead then s else s.modColl (fun c => { c with prod := v % 2 ^ 32 })

/-- Slots posted and not yet asked for from the ring. The producer count may have been set back to a value not behind the consumer count (R185). -/
def Member.more (c : Member) : Bool := decide ((c.asked + 2 ^ 32 - c.cons) % 2 ^ 32 < (c.prod + 2 ^ 32 - c.cons) % 2 ^ 32)

/-- Read the next ring slot while the ring is enabled (R387). -/
def EpState.collFetch (s : EpState) : EpState :=
  let c := s.coll
  if !flag (s.c.rd 0xA0000) 0 ∨ c.asking ∨ !c.more ∨ 255 ≤ c.waiting.length then s
  else
    let base := (s.c.rd 0xA000C).toNat * 2 ^ 32 + fld (s.c.rd 0xA0008) 31 12 * 4096
    let n := ringSlots (s.c.rf' 0xA0000 20 16)
    (s.modColl (fun c => { c with asked := (c.asked + 1) % 2 ^ 32, asking := true })).mrd (.collDesc 0) (base + c.asked % n * 64) 4

/-- A slot has been read; two make a descriptor. A slot that could not be read spoils its descriptor. -/
def EpState.collDescArsp (s : EpState) (status : Nat) (data : List Byte) : EpState :=
  let b := if status = 0 then data else List.replicate 64 0xFF
  s.modColl (fun c =>
    let d := c.half ++ b
    if d.length < 128 then { c with asking := false, cons := (c.cons + 1) % 2 ^ 32, half := d }
    else { c with asking := false, cons := (c.cons + 1) % 2 ^ 32, half := [], waiting := c.waiting ++ [(c.taken, d)], taken := (c.taken + 1) % 2 ^ 32 })

/-- A record whose state has not been formed. -/
def MemRec.live (r : MemRec) : Bool := r.outcome.isNone

/-- A waiting descriptor may start (R389): it completes at once, or a record is free and its group has fewer than 16 open sequences here. -/
def EpState.memMayStart (s : EpState) (r : MemRec) : Bool :=
  s.memInvalid r || s.src.fencedEpoch.isSome ||
  (decide ((s.coll.recs.filter (·.held)).length < 128) && decide ((s.coll.recs.filter (fun q => q.held && q.live && q.group == r.group)).length < 16))

/-- The record that a descriptor would take. -/
def EpState.memFresh (s : EpState) (w : Nat × List Byte) : MemRec :=
  let r : MemRec := { id := s.coll.nextRec, idx := w.1, bytes := w.2 }
  { r with members := Config.groupMembers s.c.pick r.group, aux := r.f 48 8 }

/-- Add a record. -/
def EpState.addMem (s : EpState) (w : Nat × List Byte) (r : MemRec) : EpState :=
  s.modColl (fun c => { c with waiting := c.waiting.filter (fun x => x.1 != w.1), recs := c.recs ++ [r], nextRec := c.nextRec + 1 })

/-- Every check has passed: plane parts, `INTENT` on raised planes, and what planes not raised bring (R391). -/
def EpState.memBegin (s : EpState) (r : MemRec) : EpState :=
  let down := r.maskPlanes.filter (fun k => s.portDown k)
  let r1 := { r with
    started := true,
    planes := r.maskPlanes.map (fun k => let p := planePart r.count r.mask k; (k, { first := p.1, blocks := p.2, lost := s.portDown k })) }
  let s1 := s.modMem r.id (fun _ => r1)
  let s2 := each (r.maskPlanes.filter (fun k => !s.portDown k)) s1 (fun s k => s.toSwitch r1 k opIntent 0 r1.intentData)
  if down.isEmpty then s2 else (each down s2 (fun s _ => s.memEvent 4)).abortPlanes r.id 4 (fun k p => !down.contains k && p.state == 0)

/-- The record becomes INVALID, with nothing sent (R388). -/
def EpState.memRefuse (s : EpState) (id : Nat) : EpState :=
  (s.modMem id (fun r => { r with outcome := some 0x1E, fill := 0x1E, checks := [] })).memEvent 1

/-- Go on with the page checks of a record (R388), leaf by leaf. -/
def EpState.memCheck (s : EpState) (id : Nat) : Nat → EpState
  | 0 => s
  | n + 1 =>
    match s.memRec id with
    | none => s
    | some r =>
      if r.started ∨ !r.live then s
      else
        match r.checks with
        | [] => s.memBegin r
        | c :: rest =>
          match s.translate 33 (s.c.rf' 0xA0000 9 4) c.va with
          | (.wait, s1) => s1
          | (.fault, s1) => s1.memRefuse id
          | (.leaf l, s1) =>
            if c.aux then EpState.memCheck (s1.modMem id (fun r => { r with checks := rest, aux := l.at c.va })) id n
            else if l.global_ then s1.memRefuse id
            else
              let k := l.va + l.bytes - c.va
              let left := if c.len ≤ k then rest else { c with va := c.va + k, len := c.len - k } :: rest
              EpState.memCheck (s1.modMem id (fun r => { r with checks := left })) id n

/-- Bound on the page checks of a record. -/
def MemRec.checkSteps (r : MemRec) : Nat := r.checks.foldl (fun a c => a + c.len / 65536 + 2) 2

/-- `COLL_DESCRIPTOR_START` (R388, R389, R391, R397): the first waiting descriptor that may start does. -/
def EpState.collStart (s : EpState) : EpState :=
  match s.coll.waiting.find? (fun w => s.memMayStart (s.memFresh w)) with
  | none => s
  | some w =>
    let r := s.memFresh w
    if s.memInvalid r then (s.addMem w { r with held := false, outcome := some 0x1E, fill := 0x1E }).memEvent 1
    else if s.src.fencedEpoch.isSome then s.addMem w { r with held := false, outcome := some 0x12, fill := 0x12 }
    else
      let ranges := ((s.memRanges r).filter (fun x => x.2 != 0)).map (fun x => ({ va := x.1, len := x.2 } : MemCheck))
      let r1 := { r with checks := ranges ++ (if r.auxAddr then [{ va := r.f 48 8, len := 0, aux := true }] else []) }
      (s.addMem w r1).memCheck r.id r1.checkSteps

/-! ### Contributions -/

/-- Chunks of one unit of contribution. -/
def MemRec.unitChunks (r : MemRec) : Nat := if r.lists then listChunks (pairBytes r.op) r.count else r.ef.chunks

/-- Units that the member contributes on a plane. -/
def EpState.memUnits (s : EpState) (r : MemRec) (k : Nat) : Nat :=
  if r.lists then b2n (listPlane r.mask == k) else s.memShares r * (r.plane k).blocks

/-- Chunks that the member owes on a plane. -/
def EpState.memOwes (s : EpState) (r : MemRec) (k : Nat) : Nat := s.memUnits r k * r.unitChunks

/-- Share and block of a unit, and its real elements. -/
def MemRec.unitPlace (r : MemRec) (k u : Nat) : Nat × Nat × Nat :=
  let p := r.plane k
  let b := p.first + u % max 1 p.blocks
  (u / max 1 p.blocks, b, realElems r.count b)

/-- Byte ranges that a unit is read from, in order (R436, R438): address and bytes. -/
def MemRec.unitStreams (r : MemRec) (k u : Nat) : List (Nat × Nat) :=
  if r.lists then [(r.src, 8 + pairBytes r.op * r.count)]
  else
    let x := r.unitPlace k u
    let e := x.1 * r.count + x.2.1 * blockElems
    if r.quant then
      (r.src + e * srcBytes r.inType, x.2.2 * srcBytes r.inType) :: (if r.noRin then [] else [(r.f 64 8 + e * srcBytes r.rType, x.2.2 * srcBytes r.rType)])
    else
      (r.ef.realParts x.2.2).map (fun q => (r.src + x.1 * r.ef.arrayBytes r.count + x.2.1 * r.ef.chunks * 256 + q.1, q.2))

/-- Reads of a stream, none across 256 bytes: stream, offset, bytes. -/
def streamReads (k va len : Nat) : Nat → Nat → List (Nat × Nat × Nat)
  | 0, _ => []
  | fuel + 1, off =>
    if len ≤ off then []
    else
      let n := min (256 - (va + off) % 256) (len - off)
      (k, off, n) :: streamReads k va len fuel (off + n)

/-- Key of the bytes of a stream at an offset. -/
def streamKey (k off : Nat) : Nat := k * 2 ^ 48 + off

/-- Begin to read a unit. -/
def EpState.memRead (s : EpState) (r : MemRec) (k u : Nat) : EpState :=
  let st := r.unitStreams k u
  let asks := (st.zip (List.range st.length)).flatMap (fun x => streamReads x.2 x.1.1 x.1.2 (x.1.2 + 1) 0)
  s.modMemPlane r.id k (fun p => { p with reading := some u, ask := asks, buf := [], left := 0 })

/-- Bytes of stream j that have come. -/
def MemPlane.stream (p : MemPlane) (j : Nat) : List Byte := (p.buf.filter (fun e => e.1 / 2 ^ 48 == j)).flatMap (·.2)

/-- A unit has been read whole: its image is formed, or quantised (R438, R461). -/
def EpState.memImage (s : EpState) (r : MemRec) (k u : Nat) : EpState :=
  let p := r.plane k
  let done := fun (s : EpState) (img : List Byte) => s.modMemPlane r.id k (fun p => { p with reading := none, buf := [], images := Tab.put p.images u img })
  let stop := fun (s : EpState) => s.modMemPlane r.id k (fun p => { p with reading := none, buf := [] })
  if r.lists then
    let b := p.stream 0
    done s (b ++ List.replicate (256 * r.unitChunks - b.length) 0)
  else
    let x := r.unitPlace k u
    let f := r.ef
    if !r.quant then
      let e := p.stream 0
      let sc := p.stream 1
      done s (e ++ List.replicate (f.elemArea - e.length) 0 ++ sc ++ List.replicate (256 * f.chunks - f.elemArea - sc.length) 0)
    else
      let xs := srcCodes r.inType (p.stream 0)
      let rs := if r.noRin then zerosLike xs else srcCodes r.rType (p.stream 1)
      let i := x.1 * r.count + x.2.1 * blockElems
      let o := quantArray f r.inType r.rType (r.opt 1) (r.f 40 8) i xs rs
      let s1 := (s.quRun (xs.length / f.group) r.fails).modMem r.id (fun r => { r with fails := [] })
      if s1.quUnits.isEmpty then (stop s1).memFault r.id
      else if o.nan ≠ 0 ∧ r.opt 2 then (stop s1).abortPlanes r.id 5 (fun _ _ => true)
      else
        let s2 := if o.nan = 0 then s1 else s1.mod (fun c => c.bumpBy 0x70014 31 0 o.nan)
        let back := if r.noRout then [] else cutAt 4096 (r.f 72 8 + i * srcBytes r.rType) (leBytes (joinBits (8 * srcBytes r.rType) o.resid) (srcBytes r.rType * o.resid.length)) (4 * o.resid.length + 1)
        done (s2.modMem r.id (fun r => { r with resid := r.resid ++ back })) (f.imageBytes o.image)

/-- Translate the reads of the unit being read, as far as they go (R388, R391). -/
def EpState.memAsk (s : EpState) (id k : Nat) : Nat → EpState
  | 0 => s
  | n + 1 =>
    match s.memRec id with
    | none => s
    | some r =>
      let p := r.plane k
      match p.reading, p.ask with
      | some u, [] => if p.left = 0 then s.memImage r k u else s
      | some u, a :: rest =>
        let va := ((r.unitStreams k u).getD a.1 (0, 0)).1 + a.2.1
        match s.translate 33 (s.c.rf' 0xA0000 9 4) va with
        | (.wait, s1) => s1
        | (.fault, s1) => (s1.modMemPlane id k (fun p => { p with reading := none, ask := [] })).memFault id
        | (.leaf l, s1) =>
          if l.global_ then (s1.modMemPlane id k (fun p => { p with reading := none, ask := [] })).memFault id
          else
            let s2 := (s1.modMemPlane id k (fun p => { p with ask := rest, left := p.left + 1 })).mrd (.collSrc id k a.1 a.2.1) (l.at va / 64 * 64) (coverCells va a.2.2)
            EpState.memAsk (s2.through l.span 33) id k n
      | none, _ => s

/-- Bytes of a unit have been read; an error counts as a source fault (R248, R388). -/
def EpState.collSrcArsp (s : EpState) (id k j off status : Nat) (data : List Byte) : EpState :=
  match s.memRec id with
  | none => s
  | some r =>
    match (r.plane k).reading with
    | none => s
    | some u =>
      if status ≠ 0 then (s.modMemPlane id k (fun p => { p with reading := none, ask := [], buf := [] })).memFault id
      else
        let st := (r.unitStreams k u).getD j (0, 0)
        let va := st.1 + off
        let b := coverCut va (min (256 - va % 256) (st.2 - off)) data
        s.modMemPlane id k (fun p => { p with left := p.left - 1, buf := Tab.put p.buf (streamKey j off) b })

/-- A plane may still carry contributions: admitted, not stopped, its port raised. -/
def EpState.planeRuns (s : EpState) (k : Nat) (p : MemPlane) : Bool := p.granted && p.state == 0 && !p.lost && !p.abortSent && !s.portDown k

/-- Send chunks of a plane as far as LIMIT and the images allow (R367, R392, R393); the next unit is read when its first chunk is wanted. -/
def EpState.memSend (s : EpState) (id k : Nat) : Nat → EpState
  | 0 => s
  | n + 1 =>
    match s.memRec id with
    | none => s
    | some r =>
      let p := r.plane k
      if !s.planeRuns k p ∨ !r.live then s
      else
        let per := max 1 r.unitChunks
        let chunk := fun (i : Nat) => ((Tab.get p.images [] (i / per)).drop (i % per * 256)).take 256
        match p.again with
        | i :: rest =>
          EpState.memSend (((s.modMemPlane id k (fun p => { p with again := rest })).toSwitch r k opContrib i (chunk i)).mod (fun c => c.bump 0xA0030)) id k n
        | [] =>
          if min p.limit (s.memOwes r k) ≤ p.next then s
          else if (Tab.find p.images (p.next / per)).isSome then
            EpState.memSend ((s.modMemPlane id k (fun p => { p with next := p.next + 1 })).toSwitch r k opContrib p.next (chunk p.next)) id k n
          else if p.reading.isSome then s
          else (s.memRead r k (p.next / per)).memAsk id k (r.unitChunks * 260 + 4)

/-! ### Results -/

/-- Result chunks due on a plane before RECEIVED (R374, Table 9.11); `none` as long as the member cannot know. Their number is free for a program that does not fix it (notes/assumptions/54.md). -/
def EpState.memDue (s : EpState) (r : MemRec) (k : Nat) : Option Nat :=
  let p := r.plane k
  let kout := r.of.chunks
  match r.op with
  | 2 =>
    let share := (r.count + 8191) / 8192 / max 1 r.m
    let me := (r.members.findIdx? (· == s.node)).getD 0
    some ((min (p.first + p.blocks) ((me + 1) * share) - max p.first (me * share)) * kout)
  | 3 => some (r.m * p.blocks * kout)
  | 5 => some (if s.memRoot r then p.blocks * kout else 0)
  | 6 => some (r.m * p.blocks * kout)
  | 8 => some 0
  | 7 => some (Config.resultsDue r.id k)
  | 0xB => some (Config.resultsDue r.id k)
  | 0xC => some (Config.resultsDue r.id k)
  | _ =>
    if userOp r.op then some (Config.resultsDue r.id k)
    else if r.lists then (if listPlane r.mask = k then p.listLen.map (fun n => listChunks (pairBytes r.op) n) else some 0) else some (p.blocks * kout)

/-- Where a result chunk goes: real ranges of its 256 bytes, as address, offset in the chunk, bytes (R436, R438, R353). -/
def EpState.resultParts (s : EpState) (r : MemRec) (k i : Nat) (pairs : Option Nat) : List (Nat × Nat × Nat) :=
  let p := r.plane k
  let f := r.of
  let per := max 1 f.chunks
  if r.lists then
    match pairs with
    | some n => let m := 8 + pairBytes r.op * n; [(r.dst + 256 * i, 0, min 256 (m - 256 * i))]
    | none => [(r.dst + 256 * i, 0, 256)]
  else if r.op = 0xB then [(r.dst + p.first * per * 256 + 256 * i, 0, 256)]
  else
    let arrays := r.op == 3 || r.op == 6 || r.op == 7
    let share := (r.count + 8191) / 8192 / max 1 r.m
    let me := (r.members.findIdx? (· == s.node)).getD 0
    let q := i / per
    let arr := if arrays then q / max 1 p.blocks else 0
    let b := if arrays then p.first + q % max 1 p.blocks else if r.op = 2 then max p.first (me * share) - me * share + q else p.first + q
    let base := r.dst + arr * f.arrayBytes r.resCount + b * per * 256
    let lo := i % per * 256
    (f.realParts (realElems r.resCount b)).filterMap (fun x =>
      let a := max lo x.1
      let e := min (lo + 256) (x.1 + x.2)
      if a < e then some (base + a, a - lo, e - a) else none)

/-- Write what has come, as far as translations go; a page that faults is a fault of the destination (R388). -/
def EpState.memWrite (s : EpState) (id k : Nat) : Nat → EpState
  | 0 => s
  | n + 1 =>
    match s.memRec id with
    | none => s
    | some r =>
      match (r.plane k).todo with
      | [] => s
      | w :: rest =>
        let drop := fun (s : EpState) => (s.modMemPlane id k (fun p => { p with todo := [] })).memFault id
        match s.translate 33 (s.c.rf' 0xA0000 9 4) w.2.1 with
        | (.wait, s1) => s1
        | (.fault, s1) => drop s1
        | (.leaf l, s1) =>
          if l.global_ ∨ !l.w then drop s1
          else
            let a := l.at w.2.1
            let us := unitsOf a 0 w.2.2.length w.2.2.length
            let s2 := s1.modMemPlane id k (fun p => { p with todo := rest, writing := Tab.upd p.writing 0 w.1 (· + us.length) })
            EpState.memWrite (each us s2 (fun s u =>
              let b := (w.2.2.drop u.1).take u.2
              let q := a + u.1
              (if q % 64 = 0 ∧ u.2 % 64 = 0 then s.mwr (.collDst id k w.1) q b else s.mwrBytes (.collDst id k w.1) q b).through l.span 33)) id k n

/-- Write residuals, as far as translations go. -/
def EpState.memResid (s : EpState) (id : Nat) : Nat → EpState
  | 0 => s
  | n + 1 =>
    match s.memRec id with
    | none => s
    | some r =>
      match r.resid with
      | [] => s
      | w :: rest =>
        let drop := fun (s : EpState) => (s.modMem id (fun r => { r with resid := [] })).memFault id
        match s.translate 33 (s.c.rf' 0xA0000 9 4) w.1 with
        | (.wait, s1) => s1
        | (.fault, s1) => drop s1
        | (.leaf l, s1) =>
          if l.global_ ∨ !l.w then drop s1
          else
            let a := l.at w.1
            let us := unitsOf a 0 w.2.length w.2.length
            let s2 := s1.modMem id (fun r => { r with resid := rest, residLeft := r.residLeft + us.length })
            EpState.memResid (each us s2 (fun s u =>
              let b := (w.2.drop u.1).take u.2
              let q := a + u.1
              (if q % 64 = 0 ∧ u.2 % 64 = 0 then s.mwr (.collResid id) q b else s.mwrBytes (.collResid id) q b).through l.span 33)) id n

/-- A write of a result has been acknowledged; one that failed counts as a fault of the destination. -/
def EpState.collDstArsp (s : EpState) (id k i status : Nat) : EpState :=
  let s1 := s.modMemPlane id k (fun p =>
    let n := Tab.get p.writing 0 i - 1
    let more := p.todo.any (fun w => w.1 == i)
    if n = 0 ∧ !more then { p with writing := Tab.del p.writing i, acked := if p.acked.contains i then p.acked else p.acked ++ [i] }
    else { p with writing := Tab.put p.writing i n })
  if status = 0 then s1 else s1.memFault id

/-- A residual has been written. -/
def EpState.collResidArsp (s : EpState) (id status : Nat) : EpState :=
  let s1 := s.modMem id (fun r => { r with residLeft := r.residLeft - 1 })
  if status = 0 then s1 else s1.memFault id

/-- RECEIVED goes out once everything owed has been sent and everything due has been written (R374). -/
def EpState.memReceived (s : EpState) (id k : Nat) : EpState :=
  match s.memRec id with
  | none => s
  | some r =>
    let p := r.plane k
    let due : Bool := match s.memDue r k with
      | some n => decide (n ≤ p.acked.length)
      | none => false
    if s.planeRuns k p && r.live && !p.received && p.again.isEmpty && decide (s.memOwes r k ≤ p.next) && due then
      (s.memAbort r k 2 0).modMemPlane id k (fun p => { p with received := true })
    else s

/-! ### What the switches send -/

/-- The live record that a collective packet names (R350). -/
def EpState.memOf (s : EpState) (p : Packet) : Option MemRec :=
  s.coll.recs.find? (fun r => r.started && r.live && r.handle == p.collHandle && r.group == p.collGroup && r.seq % 4096 == p.seq)

/-- A member record is held for the handle and group of a packet (R289). -/
def EpState.holdsMember (s : EpState) (p : Packet) : Bool := s.coll.recs.any (fun r => r.handle == p.collHandle && r.group == p.collGroup)

/-- A packet of a collective from the switch of a plane that its mask names: legal, and of the sequence its cell 0 names. One whose handle and group no record has is dropped and counted (R289). -/
def EpState.fromSwitch (s : EpState) (k : Nat) (p : Packet) (op : Nat) (go : EpState → MemRec → EpState) : EpState :=
  if p.op ≠ op ∨ (badHeader p).isSome ∨ !lenAllowed p ∨ p.src ≠ 0 ∨ p.dst ≠ s.node then s
  else
    match s.memOf p with
    | some r => if bit r.mask k && (p.op == opResult || bits (p.cell 0) 95 64 == r.seq) then go s r else s
    | none => if s.holdsMember p then s else s.mod (fun c => c.bump 0x40054)

/-- `GRANT` (R355, R367): ADMIT opens the plane, CREDIT moves its limit. -/
def EpState.memGrant (s : EpState) (k : Nat) (p : Packet) (adm : Bool) (fails : List (Nat × Bool)) : EpState :=
  s.fromSwitch k p opGrant (fun s r =>
    let kind := bits (p.cell 0) 127 120
    if kind ≠ (if adm then 1 else 2) ∨ (!adm ∧ !(r.plane k).granted) then s
    else (s.modMemPlane r.id k (fun q => { q with granted := true, limit := bits (p.cell 0) 61 32 })).modMem r.id (fun r => { r with fails := r.fails ++ fails }))

/-- `RESULT` (R391, R438): its real bytes are to be written. -/
def EpState.memResult (s : EpState) (k : Nat) (p : Packet) : EpState :=
  s.fromSwitch k p opResult (fun s r =>
    let i := p.collChunk
    if p.len ≠ 0xF ∨ (r.plane k).state ≠ 0 then s
    else
      let pairs := if r.lists ∧ i = 0 then some (leNat (p.data.take 8)) else (r.plane k).listLen
      let ws := (s.resultParts r k i pairs).filterMap (fun x => if x.2.2 = 0 then none else some (i, x.1, (p.data.drop x.2.1).take x.2.2))
      if ws.isEmpty then s.modMemPlane r.id k (fun q => { q with listLen := pairs, acked := if q.acked.contains i then q.acked else q.acked ++ [i] })
      else s.modMemPlane r.id k (fun q => { q with listLen := pairs, todo := q.todo ++ ws.flatMap (fun w => (cutAt 4096 w.2.1 w.2.2 3).map (fun c => (i, c.1, c.2))) }))

/-- `RESEND` (R358, R393). -/
def EpState.memResend (s : EpState) (k : Nat) (p : Packet) : EpState :=
  s.fromSwitch k p opResend (fun s r =>
    let c := p.cell 0
    let first := bits c 61 32
    let named := (List.range ((r.plane k).next - first)).filterMap (fun i => if first + i ≤ bits c 29 0 then some (first + i) else none)
    (s.modMemPlane r.id k (fun q => { q with again := q.again ++ named.filter (fun i => !q.again.contains i) })).memEvent 2)

/-- `DONE` or `ABORT_NOTICE` (R357, R391, R394): the plane's terminal state is known; an aborted one makes the member abort the planes it knows nothing of. -/
def EpState.memReport (s : EpState) (k : Nat) (p : Packet) (op : Nat) : EpState :=
  s.fromSwitch k p op (fun s r =>
    let c := p.cell 0
    let st := bits c 127 120
    if st = 0 ∨ (r.plane k).state ≠ 0 ∨ ((decide (0 < st) && decide (st < 0x10)) != (op == opDone)) then s
    else
      let s1 := s.modMemPlane r.id k (fun q =>
        { q with state := st, commit := bits c 63 0, sat := bits (p.cell 1) 127 96, under := bits (p.cell 1) 95 64, nan := bits (p.cell 1) 63 32, again := [], reading := none, ask := [], query := false })
      if 0x10 ≤ st then s1.abortPlanes r.id 3 (fun j q => j != k && q.state == 0) else s1)

/-- A port of the end-point has left service (R391, R394). -/
def EpState.memPortLost (s : EpState) (k : Nat) : EpState :=
  let asksAgain := fun (r : MemRec) => r.modPlane k (fun q => if q.lost && q.received && q.state == 0 then { q with query := true } else q)
  each (s.coll.recs.filter (fun r => r.started && r.live && bit r.mask k && (r.plane k).state == 0 && !(r.plane k).lost)) (s.modColl (fun c => { c with recs := c.recs.map (fun r => if bit r.mask k then asksAgain r else r) })) (fun s r =>
    let open_ := (r.plane k).isOpen
    let s1 := (s.modMemPlane r.id k (fun q => { q with lost := true, query := !open_, again := [], reading := none, ask := [] })).memEvent 4
    if open_ then s1.abortPlanes r.id 4 (fun j q => j != k && q.state == 0) else s1)

/-- A port that is raised again carries the QUERY that it owes (R394). -/
def EpState.memQueries (s : EpState) : EpState :=
  each s.coll.recs s (fun s r =>
    each (r.maskPlanes.filter (fun k => (r.plane k).query && r.live && !s.portDown k)) s (fun s k => (s.memAbort r k 3 0).modMemPlane r.id k (fun p => { p with query := false })))

/-- `QUIESCE`: `ABORT` with cause quiesce for every collective not at its terminal state (R255). -/
def EpState.memQuiesce (s : EpState) : EpState :=
  each (s.coll.recs.filter (fun r => r.started && r.live)) s (fun s r => s.abortPlanes r.id 2 (fun _ p => p.state == 0))

/-! ### States -/

/-- The state of a member from its planes (R395); planes that are not known count as UNKNOWN once `late`. -/
def MemRec.form (r : MemRec) (late : Bool) : Option Nat :=
  let ps := r.maskPlanes.map (fun k => r.plane k)
  let known := ps.all (fun p => p.state != 0)
  if !known && !late then none
  else
    match ps.filter (fun p => decide (0x10 ≤ p.state)) with
    | a :: rest => some ((rest.foldl (fun b p => if p.commit < b.commit then p else b) a).state)
    | [] => if known then some (ps.foldl (fun a p => a ||| p.state) 0) else some 0x1F

/-- The state of a record is formed; after an abort nothing further of it is written (R172, R396). -/
def MemRec.ends (r : MemRec) (st : Nat) : MemRec :=
  if st < 0x10 then { r with outcome := some st }
  else { r with outcome := some st, resid := [], planes := r.planes.map (fun e => (e.1, { e.2 with todo := [] })) }

/-- The record may form its state, or begins to wait for planes that are not known (R391, R397). -/
def EpState.memForm (s : EpState) (id : Nat) : EpState :=
  match s.memRec id with
  | none => s
  | some r =>
    if !r.live then s
    else if s.src.fencedEpoch.isSome then s.modMem id (fun r => ({ r with fill := 0x12, checks := [] } : MemRec).ends 0x12)
    else if !r.started then s
    else
      match r.form false with
      | some st => s.modMem id (fun r => r.ends st)
      | none =>
        let ended := r.maskPlanes.all (fun k => let p := r.plane k; p.state != 0 || p.received || p.lost || p.abortSent)
        if ended && r.waitFrom.isNone then s.modMem id (fun r => { r with waitFrom := some s.c.pick }) else s

/-- `COLL_WAIT_EXPIRED` (R391, R395). -/
def EpState.collWaitExpired (s : EpState) (id : Nat) : EpState :=
  match s.memRec id with
  | none => s
  | some r =>
    match r.waitFrom with
    | some t =>
      if r.live ∧ t + s.c.rf' 0xA0028 15 0 ≤ s.c.pick then (s.modMem id (fun r => r.ends ((r.form true).getD 0x1F))).memEvent 3 else s
    | none => s

/-- The completion record (Table 9.14). -/
def MemRec.record (r : MemRec) (phase : Nat) : List Byte :=
  let ps := r.maskPlanes.map (fun k => r.plane k)
  let sum := fun (f : MemPlane → Nat) => min 0xFFFFFFFF (ps.foldl (fun a p => a + f p) 0)
  [BitVec.ofNat 8 (r.outcome.getD 0), BitVec.ofNat 8 phase] ++ leBytes r.handle 2 ++ leBytes r.seq 4 ++
  (List.range 8).map (fun k => if bit r.mask k then (let st := (r.plane k).state; BitVec.ofNat 8 (if st = 0 then r.fill else st)) else 0) ++
  leBytes (sum (·.sat)) 4 ++ leBytes (sum (·.nan)) 4 ++ leBytes (sum (·.under)) 4 ++ (r.bytes.drop 60).take 4

/-- Nothing of a record is outstanding in memory (R171). -/
def MemRec.written (r : MemRec) : Bool :=
  r.residLeft == 0 && r.resid.isEmpty && r.planes.all (fun e => e.2.writing.isEmpty && e.2.todo.isEmpty)

/-- Write the next completion record in ring order, if its collective's state is known (R192, R391, R396). -/
def EpState.memRecord (s : EpState) : EpState :=
  match s.coll.recs.find? (fun r => r.idx == s.coll.cplProd % 2 ^ 32) with
  | none => s
  | some r =>
    let size := ringSlots (s.c.rf' 0xA0000 28 24)
    let used := (s.coll.cplProd + 2 ^ 32 - (s.c.rd 0xA0024).toNat) % 2 ^ 32
    if r.live ∨ r.writing ∨ !r.written ∨ size ≤ used then s
    else
      let base := (s.c.rd 0xA0014).toNat * 2 ^ 32 + fld (s.c.rd 0xA0010) 31 12 * 4096
      let s1 := (s.modMem r.id (fun r => { r with writing := true })).modColl (fun c => { c with cplProd := (c.cplProd + 1) % 2 ^ 32 })
      s1.mwrBytes (.collRec r.id) (base + s.coll.cplProd % size * 32) (r.record (s.coll.cplProd / size % 2))

/-- A completion record has been acknowledged: the notice, and the record is free (R391, R396, Table 6.9). -/
def EpState.collRecArsp (s : EpState) (id : Nat) : EpState :=
  match s.memRec id with
  | none => s
  | some r =>
    let s1 := s.modColl (fun c => { c with recs := c.recs.filter (fun q => q.id != id) })
    if r.notify then s1.notice 0x05 1089 (r.handle * 2 ^ 20 + r.seq % 4096 * 256 + r.outcome.getD 0) 0 else s1

/-- Let one record go on as far as it may. -/
def EpState.memGo (s : EpState) (r : MemRec) : EpState :=
  let s1 := if r.started then s else s.memCheck r.id r.checkSteps
  let s2 := each r.maskPlanes s1 (fun s k =>
    let p := ((s.memRec r.id).getD r).plane k
    let a := s.memAsk r.id k (p.ask.length + 2)
    let b := a.memSend r.id k (r.unitChunks * 64 + 4096 + p.again.length)
    let c := b.memWrite r.id k (p.todo.length + 1)
    c.memReceived r.id k)
  (s2.memResid r.id (((s2.memRec r.id).getD r).resid.length + 1)).memForm r.id

/-- Let the member go on as far as it may: ring, records, completion. -/
def EpState.memSettle (s : EpState) : EpState :=
  let s1 := s.collFetch.memQueries
  (each s1.coll.recs s1 (fun s r => s.memGo r)).memRecord

end Sys2Proof.Machine
end

