-- ==== Sys2Proof/Machine/EpAnswers.lean ====
section
/-!
DEFINITION. Answers of the accelerator (R236, R248) and what every command of the end-point ends with: completed requests reach what they were for, and everything that waits goes on as far as it may.
-/

namespace Sys2Proof.Machine

/-- An access of the end-point has been answered with a status (0 for OK) and data (R248). -/
def EpState.ereqAnswered (s : EpState) (e : Ereq) (st : Nat) (d : List Byte) : EpState :=
  match e.purp with
  | .home h _ => s.homeArsp h st d
  | .atomRead h => s.atomReadArsp h st d
  | .atomWrite h => s.atomWriteArsp h st
  | .atomMat h => s.matArsp h st d
  | .artWrite h => s.artWriteArsp h st
  | .artRead h => s.artReadArsp h st d
  | .walk w => s.walkArsp w st d
  | .line p l => s.lineArsp p l (e.len / 4) st d
  | .localWrite n i => s.localWriteArsp n i st
  | .opRead n i => s.opReadArsp n i e.addr st d
  | .opWrite n i => s.localWriteArsp n i st
  | .qRead n i k o => s.qReadArsp n i k o st d
  | .backRead n i o => s.backArrive n i o (if st = 0 then some d else none) s.src.nextId stPoison false false
  | .desc n i => s.descArsp n i st d
  | .cpl n notify x => s.cplArsp n notify x
  | .xqDesc i => s.xqDescArsp i st d
  | .xqCpl i k => s.notice 0x04 1088 i k
  | .leafWrite i => s.leafWriteArsp i
  | .moverRead i o => s.moverReadArsp i o st d
  | .moverWrite i o => s.moverWriteArsp i o
  | .areq i => s.areqArsp i st d
  | .rqDesc q => s.rqDescArsp q false st d
  | .rqAgain q => s.rqDescArsp q true st d
  | .rqBody q => s.rqBodyArsp q st
  | .rqHead q => s.rqHeadArsp q st
  | .rqProd q => s.rqProdArsp q
  | .collDesc _ => s.collDescArsp st d
  | .collSrc r k j o => s.collSrcArsp r k j o st d
  | .collResid r => s.collResidArsp r st
  | .collDst r k i => s.collDstArsp r k i st
  | .collRec r => s.collRecArsp r

/-- Take an access out of the list and act on its answer. -/
def EpState.answerEreq (s : EpState) (e : Ereq) (st : Nat) (d : List Byte) : EpState :=
  (s.modLha (fun l => { l with ereqs := l.ereqs.filter (fun x => x.id != e.id) })).ereqAnswered e st d

/-- Opcode of the answer to an access (Table 6.3). -/
def arspOf (mop : Nat) : Nat := if mop = 0x21 then 0x31 else if mop = 0x24 then 0x33 else 0x32

/-- A message on ARSP (R233, R236): a malformed one is dropped and counted; one that matches an access answers it. -/
def EpState.arsp (s : EpState) (m : LhaMsg) (mop : Nat) : EpState :=
  let s1 := s.owe m
  if !(lhaOther m && m.mop == mop) then s.lhaBad m
  else
    let st := m.addr / 2 ^ 48
    match s1.lha.ereqs.find? (fun e => e.sent && e.module == m.module && e.tag == m.tag && arspOf e.mop == m.mop) with
    | none => s1
    | some e => if m.mop = 0x31 ∧ st = 0 ∧ m.len ≠ e.len then s1.malformed m 0 else s1.answerEreq e st m.data

/-- What a completed request was for (Table 3.15). -/
def EpState.requestDone (s : EpState) (d : SrcDone) : EpState :=
  match d.req.cont with
  | .none => s
  | .areq id => s.areqDone id d
  | .piece p f n => s.pieceRead p f n d
  | .store e i => s.storeDone e i d
  | .atomic e i => s.atomicDone e i d
  | .back e i o => s.backArrive e i o (if d.status = stOk then some d.data else none) d.req.id d.status d.dup (decide (0 < d.req.reissues))

/-- Tell every completed request's owner. -/
def EpState.takeDone (s : EpState) : EpState := each s.src.done (s.modSrc (fun q => { q with done := [] })) (fun s d => s.requestDone d)

/-- An engine goes on as far as it may. -/
def EpState.engineGo (s : EpState) (e : Nat) : EpState := ((((s.ceRun e).backSettle e).ceReserved e).ceFetch e).ceSettle e

/-- A lost module is drained once every access accepted from it has been answered: none in progress, and no answer waiting for credit (R256). -/
def EpState.drainModules (s : EpState) : EpState :=
  each s.lha.draining s (fun s m =>
    if s.lha.areqs.any (fun a => a.msg.module == m) || s.lha.ersp.any (fun r => r.module == m) then s
    else (s.modLha (fun l => { l with draining := l.draining.filter (· != m) })).notice 0x07 (1091 + m) 0x200 0)

/-- Translation commands from `XLT_CMD` that have ended are answered (R702), each with its notice (Table 6.9); they write no record, so the completion producer count stays. -/
def EpState.takeXlt (s : EpState) : EpState :=
  each s.xlt.mgmtDone (s.modXlt (fun x => { x with mgmtDone := [] })) (fun s d =>
    (s.mod (fun c => c.endExec 0x0701 d.1 0 0 d.2)).notice 0x04 1088 s.xlt.cplProd (leNat (d.2.take 2)))

/-- Everything that can go on does, and what may leave leaves. -/
def EpState.settle (s : EpState) : EpState :=
  let s1 := s.takeLoop.takeDone
  let s2 := s1.tryAreqs s1.lha.areqs []
  let s3 := each s2.ces s2 (fun s e => s.engineGo e.1)
  let s4 := (s3.memSettle.takeDone.walkCmds).prefetchGo
  let s5 := ((s4.xqRefuse 64).xqRecords 64).takeXlt
  (s5.modXlt (fun x => { x with faults := [] })).pump.drainModules.pump.freeReissues

/-- Ports of the end-point that a command has taken out of service bring their consequences for collectives (R394). -/
def EpState.afterPorts (s : EpState) (before : Common) : EpState :=
  each ((before.ports.map (·.1)).filter (fun k => (before.port k).inService && !(s.c.port k).inService)) s (fun s k => s.memPortLost k)

/-- In-band replies leave on the plane by which their command came (R675). -/
def EpState.flushReplies (s : EpState) : EpState :=
  each s.c.mgmt.outbox (s.mod (fun c => c.modMgmt (fun m => { m with outbox := [] })))
    (fun s r => s.putPacket r.ret.plane (r.packet s.node s.pitch (r.ret.srcNode == 0)) false)

/-- The end-point after a command that began in `before`. -/
def EpState.finish (s : EpState) (before : EpState) : EpState := (s.afterPorts before.c).settle.flushReplies

end Sys2Proof.Machine
end

