-- ==== Sys2Proof/Machine/EpAttach.lean ====
section
/-!
DEFINITION. Attaching, quiescing and losing UCIe modules (R252 to R258), credits (R237), the fenced state (R141, R574).
-/

namespace Sys2Proof.Machine

/-- `EP_LHA_CTRL.MOD_EN`: a module may attach (Table 6.13). -/
def EpState.mayAttach (s : EpState) (m : Nat) : Bool := flag (s.c.rd 0x80000) (4 + m)

/-- Send an `OFFER` with this part's cell (R252, Table 6.10). -/
def EpState.sendOffer (s : EpState) (m : Nat) : EpState :=
  let cell := 2 ^ 124 + m % 4 * 2 ^ 122 + (512 * 2 ^ 16 + 4096) * 2 ^ 64 + (1024 * 2 ^ 16 + 8192) * 2 ^ 32
  s.modLha (fun l => { l with offered := Tab.put l.offered m s.c.pick, out := l.out ++ [{ module := m, chan := 7, mop := 0x72, len := 1, data := beBytes cell 16 }] })

/-- `MODULE_TRAINED`: a module that may attach gets an `OFFER` (R252, Table 6.13). `fast`: it trained at 32 GT/s. -/
def EpState.moduleTrained (s : EpState) (m : Nat) (fast : Bool) : EpState :=
  let s1 := s.modLha (fun l => { l with trained := if l.trained.contains m then l.trained else l.trained ++ [m], fast := l.fast.filter (· != m) ++ (if fast then [m] else []) })
  if s.mayAttach m && !s.lha.attached.contains m then s1.sendOffer m else s1

/-- `OFFER_RETRY`: 1 ms without `ACCEPT` (R252). -/
def EpState.offerRetry (s : EpState) (m : Nat) : EpState :=
  match Tab.find s.lha.offered m with
  | some t => if s.mayAttach m ∧ s.lha.trained.contains m ∧ !s.lha.attached.contains m ∧ !s.lha.joining.contains m ∧ t + 1000 ≤ s.c.pick then s.sendOffer m else s
  | none => s

/-- Put a module among the attached ones, in ascending order, with its notice (R253, R258). -/
def EpState.attach (s : EpState) (m : Nat) : EpState :=
  (s.modLha (fun l => { l with attached := (List.range 4).filter (fun k => k == m || l.attached.contains k) })).notice 0x07 (1091 + m) 0x300 0

/-- An event of `EP_LHA_EVENT`. -/
def EpState.lhaEvent (s : EpState) (cause m : Nat) : EpState := s.mod (fun c => c.event 0x80008 (cause * 256 + m % 4))

/-- `ACCEPT` (R252): version, credits, and the module is attached, or rejoins after a pause when it had been lost (R258). -/
def EpState.accept (s : EpState) (m : LhaMsg) : EpState :=
  let c := cellOf m.data 0
  let k := m.module % 4
  if !(lhaOther m && m.mop == 0x73) then s.lhaBad m
  else if bits c 123 122 ≠ k ∨ bits c 121 96 ≠ 0 then s.malformed m 0
  else if !s.mayAttach k ∨ (Tab.find s.lha.offered k).isNone ∨ !s.lha.trained.contains k ∨ s.lha.attached.contains k ∨ s.lha.joining.contains k then s
  else
    let v := min 1 (bits c 127 124)
    let s1 := s.modLha (fun l => { l with offered := Tab.del l.offered k })
    if v = 0 then s1.lhaEvent 3 k
    else
      let cr := fun (hi : Nat) => ({ hdr := bits c (hi + 31) (hi + 16), cells := bits c (hi + 15) hi } : ChanCred)
      let s2 := s1.modLha (fun l => { l with version := v, cred := Tab.put (Tab.put (Tab.put l.cred (3 * k) (cr 64)) (3 * k + 1) (cr 32)) (3 * k + 2) (cr 0) })
      if s.lha.lost.contains k then
        (s2.modLha (fun l => { l with lost := l.lost.filter (· != k), joining := l.joining ++ [k], pauseEnd := some (s.c.pick + 100) })).lhaEvent 4 k
      else s2.attach k

/-- `EREQ_PAUSE_END` (R256, R258). -/
def EpState.pauseEnds (s : EpState) : EpState :=
  match s.lha.pauseEnd with
  | some t => if t ≤ s.c.pick then each s.lha.joining (s.modLha (fun l => { l with pauseEnd := none, joining := [] })) (fun s m => s.attach m) else s
  | none => s

/-- `CREDIT` (R237, Table 6.5). -/
def EpState.takeCredit (s : EpState) (m : LhaMsg) : EpState :=
  if !(lhaOther m && m.mop == 0x71) then s.lhaBad m
  else
    let add := fun (t : Tab ChanCred) (k h n : Nat) => Tab.upd t {} k (fun c => { hdr := c.hdr + h, cells := c.cells + n })
    s.modLha (fun l =>
      { l with cred := add (add (add l.cred (3 * m.module) (bits m.addr 59 52) (bits m.addr 51 40)) (3 * m.module + 1) (bits m.addr 39 32) (bits m.addr 31 20)) (3 * m.module + 2) (bits m.addr 19 12) (bits m.addr 11 0) })

/-- Steps 1 to 4 of R255. `done`: `QUIESCE_DONE` is owed. -/
def EpState.beginQuiesce (s : EpState) (done : Bool) : EpState :=
  let s1 := (s.mod (fun c => c.wrF 0x80000 0 0 0)).memQuiesce
  let s2 := each (List.range 32) s1 (fun s e => s.ceAbort e)
  let s3 := each (List.range 255) s2 (fun s i => s.mod (fun c => c.wrF (0x81004 + 4 * i) 0 0 0))
  let arms := s3.c.rf.cur.filter (fun e => decide (0x10C0000 ≤ e.1) && decide (e.1 < 0x10C4000) && e.1 % 16 == 0)
  let s4 := each arms s3 (fun s e => s.mod (fun c => c.wrF e.1 0 0 0))
  s4.modLha (fun l => { l with quiescing := true, owesDone := done })

/-- `QUIESCE` (R255). -/
def EpState.quiesce (s : EpState) (m : LhaMsg) : EpState :=
  if !(lhaOther m && m.mop == 0x74) then s.lhaBad m
  else if !s.lha.attached.contains m.module then s
  else s.beginQuiesce true

/-- Every EREQ and every accepted AREQ has been answered (step 5 of R255): no answer waits for credit either, unless no module is left to carry it. -/
def EpState.allAnswered (s : EpState) : Bool :=
  s.lha.ereqs.isEmpty && s.lha.areqs.isEmpty && (s.lha.ersp.isEmpty || s.lha.attached.isEmpty)

/-- `QUIESCE_COMPLETE`: nothing is outstanding any more (R255). A pitch change that waited for it scrubs now, and takes steps 1 to 5 only (R633), unless the accelerator has asked for step 6 as well. -/
def EpState.quiesceComplete (s : EpState) : EpState :=
  if !s.lha.quiescing ∨ !s.allAnswered then s
  else
    let msgs := if s.lha.owesDone then s.lha.attached.map (fun m => ({ module := m, chan := 7, mop := 0x75 } : LhaMsg)) else []
    let s1 := s.modLha (fun l => { l with quiescing := false, quiesced := l.quiesced || l.owesDone || s.c.sec.scrubTo.isNone, out := l.out ++ msgs })
    if s.c.sec.scrubTo.isSome then s1.mod (fun c => { c with sec := { c.sec with scrubOn := true } }) else s1

/-- `SERVE_WRITE`: SERVE written 1 (R253, R255). -/
def EpState.serveWrite (s : EpState) : EpState := (s.mod (fun c => c.swStore true 0x80000 (setFld (c.rd 0x80000) 0 0 1))).modLha (fun l => { l with quiesced := false })

/-- A module is lost (R256, R258): cause 1 for its link, which counts as lasting on any module (R231), cause 2 for an access unanswered. -/
def EpState.loseModule (s : EpState) (m cause : Nat) : EpState :=
  let was := s.lha.attached.contains m
  let s0 := (if cause = 1 then s.mod (fun c => c.bumpHi 0x80010) else s).modLha (fun l =>
    { l with
      trained := if cause = 1 then l.trained.filter (· != m) else l.trained, fast := if cause = 1 then l.fast.filter (· != m) else l.fast, offered := Tab.del l.offered m, joining := l.joining.filter (· != m),
      lost := if was || l.joining.contains m then l.lost.filter (· != m) ++ [m] else l.lost })
  if !was then s0
  else
    let s1 := (s0.modLha (fun l =>
      { l with
        attached := l.attached.filter (· != m), draining := l.draining ++ [m], pauseEnd := some (s.c.pick + 100),
        cred := Tab.del (Tab.del (Tab.del l.cred (3 * m)) (3 * m + 1)) (3 * m + 2), due := Tab.del (Tab.del l.due (2 * m)) (2 * m + 1) })).notice 0x07 (1091 + m) 0x100 0
    let s2 := (s1.lhaEvent cause m).mod (fun c => c.unitLost 0xA m)
    let s4 := each (s2.lha.ereqs.filter (fun e => e.sent && e.module == m)) s2 (fun s e => s.answerEreq e 1 [])
    if s4.lha.attached.isEmpty then s4.beginQuiesce false else s4

/-- `EREQ_TIMEOUT`: an access on the module has been unanswered for 200 µs (R256). -/
def EpState.ereqTimeout (s : EpState) (m : Nat) : EpState :=
  if s.lha.ereqs.any (fun e => e.sent && e.module == m && decide (e.sentPick + 200 ≤ s.c.pick)) then s.loseModule m 2 else s

/-- A membership notice (R574): the epoch held, and the fenced state entered or left. -/
def EpState.membNotice (s : EpState) (epoch : Nat) (fenced : Bool) : EpState :=
  let held := (s.c.rd 0xD0040).toNat
  let s1 := if laterEpoch epoch held then s.mod (fun c => c.wr 0xD0040 (BitVec.ofNat 32 epoch)) else s
  if fenced then s1.enterFenced epoch
  else
    match s.src.fencedEpoch with
    | some e => if laterEpoch epoch e then (s1.modSrc (fun q => { q with fencedEpoch := none })).notice 0x06 1090 epoch 0 else s1
    | none => s1

/-! ### Register writes with an action -/

/-- `EP_CTR_SUB` (R117): an atomic subtraction modulo 2^64. -/
def EpState.subCounter (s : EpState) (i v : Nat) : EpState := s.setCounter i ((s.counter i + 2 ^ 64 - v % 2 ^ 32) % 2 ^ 64)

/-- A write of `EP_RLC_ADVICE_n` that stores `v`; the lines of the pairs that `touched` names go: all 32 for a write through the normal view, else those whose bit the write carries as 1 (Table 4.4). -/
def EpState.writeAdvice (s : EpState) (n v touched : Nat) : EpState :=
  (s.mod (fun c => c.wr (0x42100 + 4 * n) (BitVec.ofNat 32 v))).rlcDrop (fun p => p / 32 == n && bit touched (p % 32))

/-- A write of a key of the key table: the lines of its node and window go (Table 4.4). -/
def EpState.writeKey (s : EpState) (a v : Nat) : EpState := (s.mod (fun c => c.wr a (BitVec.ofNat 32 v))).rlcDrop (fun p => p == (a - 0x34000) / 4)

/-- `EP_RLC_CTRL.EN` written 0: every line goes (Table 4.4). -/
def EpState.rlcDisable (s : EpState) : EpState := (s.mod (fun c => c.wrF 0x42000 0 0 0)).rlcDrop (fun _ => true)

end Sys2Proof.Machine
end

