-- ==== Sys2Proof/Machine/RegView.lean ====
section
/-!
DEFINITION. What a read of a register returns: the register file, or the part of the state that the register reports (the RO registers of the register tables of spec/02 to spec/18).
-/

namespace Sys2Proof.Machine

/-- A register with a given value. -/
def w32 (n : Nat) : Reg := BitVec.ofNat 32 n

/-- Bits, one for each index that satisfies a test. -/
def bitsOf (n : Nat) (f : Nat → Bool) : Nat := ((List.range n).map (fun i => if f i then 2 ^ i else 0)).sum

/-- Word j of a digest, byte 4j in [31:24] (Tables 10.13, 16.12, 5.20). -/
def digestWord (d : List Byte) (j : Nat) : Reg := w32 (beNat ((List.range 4).map (fun i => d.getD (4 * j + i) 0)))

/-- A filtered value of a channel in its own unit, as 16 bits. -/
def filt16 (v : Int) : Nat := twos 16 (v / 128)

/-- Identity page (Table 18.6, R721, R722). -/
def Common.idView (c : Common) (a : Nat) : Option Reg :=
  let sw := c.part == .sw
  match a with
  | 0x00 => some (w32 ((if sw then 1 else 2) + 2 ^ 16))
  | 0x04 => some (w32 (if sw then 0xA1B0 else 0x00A2))
  | 0x08 => some (w32 c.id.serial)
  | 0x0C => some (w32 (c.id.serial / 2 ^ 32))
  | 0x10 => some (w32 (if sw then 0x01010111 else 0x00011111))
  | 0x14 => some (w32 c.id.macA)
  | 0x18 => some (w32 (c.id.macA / 2 ^ 32 % 2 ^ 16))
  | 0x1C => some (w32 c.id.macB)
  | 0x20 => some (w32 (c.id.macB / 2 ^ 32 % 2 ^ 16))
  | 0x2C => some (w32 (b2n c.admitted))
  | 0x40 => some (w32 (if sw then 0xC7FF else 0xBF47))
  | _ => none

/-- The port whose link registers lie at an address, and the offset. -/
def linkPlace (p : Part) (a : Nat) : Option (Nat × Nat) :=
  match p with
  | .sw => if 0x100000 ≤ a ∧ a < 0x220000 then some ((a - 0x100000) / 0x1000, a % 0x1000) else none
  | .ep => if 0xC0000 ≤ a ∧ a < 0xC8000 then some ((a - 0xC0000) / 0x1000, a % 0x1000) else none

/-- `PORT_LINK_ALARM` (Table 13.14, R513, R539). -/
def Port.alarm (p : Port) : Nat :=
  b2n (decide (50 ≤ p.mark.missRun)) + 2 * b2n (p.t.st == .quarantined) + 4 * b2n (!p.t.roles.contains 0x21) + 8 * b2n (decide (dataLanes p.t.roles < 32))

/-- Link registers of a port (Tables 13.14 and 13.17). -/
def Common.linkView (c : Common) (n off : Nat) : Option Reg :=
  let p := c.port n
  let t := p.t
  let i := p.far.ident.getD {}
  if off = 0x004 then
    some (w32 (t.st.code + (if t.st = .raising then t.stage * 16 else 0) + dataLanes t.roles * 256 + t.version * 2 ^ 16 + b2n t.commonRef * 2 ^ 20 + b2n t.laneRev * 2 ^ 21 + b2n t.check.isSome * 2 ^ 22))
  else if off = 0x028 then some (w32 (min 0xFFFF p.mark.missRun + fld (c.rd (linkA c.part n 0x028)) 31 16 * 2 ^ 16))
  else if off = 0x030 then some (w32 i.serial)
  else if off = 0x034 then some (w32 (i.serial / 2 ^ 32))
  else if off = 0x038 then
    let k := p.far.caps.getD { lverMax := 0, kind := 0 }
    some (w32 (i.port % 512 + i.plane % 8 * 2 ^ 9 + b2n i.nodeValid * 2 ^ 12 + i.node % 256 * 2 ^ 16 + k.lverMax % 16 * 2 ^ 24 + k.kind % 16 * 2 ^ 28))
  else if off = 0x03C then some (w32 (i.domain % 4096))
  else if off = 0x04C then some (w32 p.alarm)
  else if 0x050 ≤ off ∧ off < 0x070 then
    let v := Tab.get p.cred {} ((off - 0x050) / 4)
    some (w32 (v.room % 16384 + v.grant % 16384 * 2 ^ 16))
  else if off = 0x074 then
    let r := c.rd (linkA c.part n 0x070)
    some (if fld r 5 0 < 34 ∧ fld r 11 8 < 3 then Tab.get p.lane 0 (64 * fld r 11 8 + fld r 5 0) else 0)
  else if off = 0x088 then
    let scan := p.eyeBusy || (flag (c.rd (linkA c.part n 0x080)) 10 && (t.st == .raised || t.st == .standby || t.st == .quarantined))
    some (w32 (b2n scan + p.eyeLast % 64 * 256))
  else if off = 0x090 then some (w32 (Tab.get p.eyeMap 0 (c.rf' (linkA c.part n 0x08C) 11 0)))
  else none

/-- A posted write waits in a block (R714). -/
def Common.blockBusy (c : Common) (block : Nat) : Bool := c.rf.posted.any (fun w => w.block == block)

/-- An entry of the indirect tables (Table 12.15). -/
def PortOptics.indirect (o : PortOptics) (roles : List Nat) (table index : Nat) : Nat :=
  let ring := fun (t : Tab Ring) => let r := Tab.get t {} index; r.heater % 2 ^ 14 + b2n r.locked * 2 ^ 15
  if table = 6 then (if index < 7 then twos 16 (Tab.get o.baseline 0 (index + 1)) else 0)
  else if 34 ≤ index then 0
  else
    match table with
    | 0 => twos 16 (Tab.get o.drop 0 index)
    | 1 => ring o.tx
    | 2 => ring o.rx
    | 3 => roleOf roles index
    | 4 => twos 16 (Tab.get o.tx {} index).err
    | 5 => twos 16 (Tab.get o.rx {} index).err
    | _ => 0

/-- The optical state that `PE_PORT_STATE` shows: a port whose comb gives no light is DARK. -/
def Common.shownOState (c : Common) (n : Nat) : OState :=
  let o := (c.port n).op.ostate
  if o = .paused ∨ c.lit n then o else .dark

/-- Per-port registers of a photonic engine (Table 12.12). -/
def Common.opticsView (c : Common) (n off : Nat) : Option Reg :=
  let p := c.port n
  let o := p.op
  let locked := fun (t : Tab Ring) => (t.filter (fun e => e.2.locked)).length
  match off with
  | 0x00 => some (w32 ((c.shownOState n).code + b2n o.opened * 8 + b2n o.limit * 16 + b2n p.t.commonRef * 32 + locked o.tx % 256 * 2 ^ 8 + locked o.rx % 256 * 2 ^ 16))
  | 0x04 => some (w32 (twos 16 o.tap + twos 16 o.dist * 2 ^ 16))
  | 0x08 => some (w32 (twos 16 o.rxIn + twos 16 ((o.drop.map (·.2)).foldl min ((o.drop.map (·.2)).headD 0)) * 2 ^ 16))
  | 0x0C =>
    let m := fun (x : Option Int) => match x with | some v => twos 16 v | none => 0x8000
    some (w32 (m (lowMargin p.t.roles (fun ch => Tab.find o.drop ch)) + m (c.farMargin n) * 2 ^ 16))
  | _ => none

/-- Registers of a photonic engine (Tables 12.12 and 12.15, R505). -/
def Common.engineView (c : Common) (g off : Nat) : Option Reg :=
  let e := c.engine g
  let per := match c.part with | .sw => 16 | .ep => 8
  if off = 0x000 then
    some (w32 (b2n (c.blockBusy (peA c.part g 0)) + b2n (!c.opt.laserEn) * 2 + b2n ((c.comb (spareOf c.part g)).st == .standby) * 4 + b2n e.swapDone * 8 + bitsOf 4 (fun j => e.want.contains j) * 16))
  else if 0x010 ≤ off ∧ off < 0x030 then some (w32 (twos 16 (Tab.get e.temps 0 ((off - 0x010) / 4))))
  else if off = 0x03C then
    let r := c.rd (peA c.part g 0x038)
    let k := fld r 11 8
    if per ≤ k then some 0
    else
      let p := c.port (g * 16 + k)
      some (w32 (p.op.indirect p.t.roles (fld r 15 12) (fld r 5 0)))
  else if 0x040 ≤ off ∧ off < 0x040 + per * 0x20 then c.opticsView (g * 16 + (off - 0x040) / 0x20) (off % 0x20)
  else none

/-- Registers of a comb (Table 12.16). -/
def Common.combView (c : Common) (k off : Nat) : Option Reg :=
  let b := c.comb k
  match off with
  | 0x000 => some (w32 (b2n (c.blockBusy (combA c.part k 0)) + b.st.code * 2 + (if b.st = .lit then b.pos % 4 else 0) * 16 + b2n (combPlace c.part k).2.isNone * 64 + b2n b.locked * 128))
  | 0x008 => some (w32 (twos 16 b.out))
  | 0x00C => some (w32 (b.bias % 2 ^ 16 + c.bol k * 2 ^ 16))
  | 0x010 => some (w32 (min 255 (c.biasPct k)))
  | 0x018 => some (w32 (twos 16 b.lockErr))
  | _ => none

/-- The resilience block of both parts (Tables 14.9 and 17.10). -/
def Common.resView (c : Common) (off : Nat) : Option Reg :=
  let l := c.ledger
  let sw := c.part == .sw
  let out := fun (k : Nat) => match Tab.find l.loss k with | some r => r.out | none => false
  let failed := fun (g : Nat) => (c.engine g).failed
  if off = 0x000 then
    some (w32 (b2n (l.loss.any (fun e => e.2.out)) + b2n c.mgmt.lineA * 2 + b2n c.mgmt.lineB * 4 + b2n c.fw.restart * 8 +
      b2n (sw && out (unitKey 5 0)) * 16 + b2n (sw && out (unitKey 5 1)) * 32 + ((engines c.part).filter failed).length * 256))
  else if off = 0x008 then some (w32 (if sw then bitsOf 18 failed else 0))
  else if off = 0x00C then some (w32 (fld (c.rd (resA c.part 0x00C)) 15 0 + min 0xFFFF l.spareRows * 2 ^ 16))
  else if 0x080 ≤ off ∧ off < 0x0A0 ∧ sw then
    some (w32 (bitsOf 32 (fun i => match c.aliasOf (8 * (off - 0x080) + i) with | some o => decide (50 ≤ (c.port o).mark.missRun) | none => false)))
  else if off = 0x104 then
    some (w32 (min 4095 l.records.length + b2n l.warn * 2 ^ 12 + b2n l.avsUnmet * 2 ^ 13 + b2n (!l.waiting.isEmpty) * 2 ^ 14 + fld (c.rd (resA c.part 0x104)) 23 16 * 2 ^ 16))
  else if off = 0x108 then some (w32 (l.avs % 1024))
  else if 0x110 ≤ off ∧ off < 0x124 then some (w32 (l.proj ((off - 0x110) / 4)))
  else if off = 0x200 then some (w32 (match c.test with | some t => 1 + t.kind * 2 + t.unit * 256 | none => 0))
  else if off = 0x300 then
    some (w32 (b2n c.fw.slotB + b2n c.fw.staged.isSome * 2 + b2n c.fw.pending.isSome * 4 + b2n c.fw.trial * 8 + b2n c.fw.fellBack * 16))
  else if off = 0x304 then some (w32 (c.fw.pending.getD 0))
  else if off = 0x308 then some (w32 (c.fw.pending.getD 0 / 2 ^ 32))
  else if off = 0x30C then some (w32 (if c.fw.slotB then c.fw.imgB.version else c.fw.imgA.version))
  else none

/-- Filtered value of a sensor channel as 16 bits. -/
def Common.filtered (c : Common) (ch : Nat) : Nat := filt16 (Tab.get c.therm.sensors {} ch).filt

/-- Power and thermal registers (Table 15.7, R625). -/
def Common.powerView (c : Common) (off : Nat) : Option Reg :=
  let p := c.pwr
  match off with
  | 0x000 =>
    some (w32 (p.gov + b2n (decide (0 < p.lease)) * 8 + b2n p.alert * 16 + b2n p.paused * 32 + b2n (decide (p.gs < 64)) * 64 + b2n c.therm.flashInhibit * 128 + b2n p.belowFloor * 256))
  | 0x004 => some (w32 (min 0xFFFF p.pickPower))
  | 0x008 => some (w32 (min 0xFFFF (p.cap.getD 0xFFFF) + min 0xFFFF p.limit * 2 ^ 16))
  | 0x00C => some (w32 (min 0xFFFF p.floor))
  | 0x010 => some (w32 (p.gl % 128 + p.gs % 128 * 256))
  | 0x014 => some (w32 ((p.lease + 999) / 1000 % 2 ^ 13))
  | 0x028 => some (w32 (c.filtered (vauxChan c.part)))
  | 0x02C => if c.part = .sw then some (w32 (c.filtered v12Chan)) else none
  | 0x040 =>
    let h := c.hottest.getD (0, 0)
    some (w32 (filt16 h.2 + h.1 % 256 * 2 ^ 16 + b2n c.therm.throttle * 2 ^ 24 + b2n c.therm.ramp.isSome * 2 ^ 25 + b2n c.therm.tripped * 2 ^ 26))
  | _ => none

/-- Bivouac registers (Table 15.9). -/
def Common.bivView (c : Common) (off : Nat) : Option Reg :=
  let ch := c.rf' (bivA c.part 0x010) 7 0
  match off with
  | 0x000 => some (w32 (c.biv.st.code + c.biv.cause % 16 * 16))
  | 0x014 => some (w32 (twos 16 (Tab.get c.therm.sensors {} ch).median))
  | 0x018 => some (w32 (c.filtered ch))
  | _ => none

/-- The ring window and the newest sample (Table 8.18). A ring that is not frozen took its newest sample at the boundary that opened this pick. -/
def Common.telView (c : Common) (n off : Nat) : Option Reg :=
  let sel := c.rdForce (telA c.part n 0x000)
  if off = 0x004 ∧ !flag sel 4 then some (w32 c.pick)
  else if off = 0x008 ∧ !flag sel 4 then some (w32 (c.pick / 2 ^ 32))
  else if 0x100 ≤ off ∧ off < 0x200 then
    let x := Tab.get (c.port n).eg.ring {} (64 * min 10 (fld sel 3 0) + (off - 0x100) / 4)
    some (w32 (x.depth + x.delay * 2 ^ 16))
  else none

/-- The active phase of a pitch is older than 10,000,000 picks (R664). -/
def Common.keyOld (c : Common) (pitch : Nat) : Bool :=
  (c.activeKey pitch).isSome && (match Tab.find c.sec.phaseAt (match c.part with | .sw => pitch | .ep => 0) with | some t => decide (t + 10000000 < c.pick) | none => false)

/-- The current owner has not been released (R650). -/
def Security.owned (s : Security) : Bool := match s.owners.getLast? with | some o => !o.released | none => false

/-- Running and lowest SVN (Table 16.12). -/
def Common.svnWord (c : Common) : Reg := w32 ((if c.fw.slotB then c.fw.imgB.svn else c.fw.imgA.svn) % 128 + c.sec.svnFloor % 128 * 256)

/-- Registers of both parts that report other state. -/
def Common.view (c : Common) (a : Nat) : Option Reg :=
  if a < 0x80 then c.idView a
  else
    match linkPlace c.part a with
    | some x => if x.2 < 0x100 then c.linkView x.1 x.2 else none
    | none =>
      match telPlace c.part a with
      | some x => c.telView x.1 x.2
      | none =>
        if resA c.part 0 ≤ a ∧ a < resA c.part 0x400 then c.resView (a - resA c.part 0)
        else if pwrA c.part 0 ≤ a ∧ a < pwrA c.part 0x80 then c.powerView (a - pwrA c.part 0)
        else if bivA c.part 0 ≤ a ∧ a < bivA c.part 0x20 then c.bivView (a - bivA c.part 0)
        else if peA c.part 0 0 ≤ a ∧ a < peA c.part (engineCount c.part) 0 then c.engineView ((a - peA c.part 0 0) / 0x1000) (a % 0x1000)
        else if combA c.part 0 0 ≤ a ∧ a < combA c.part (combCount c.part) 0 then c.combView ((a - combA c.part 0 0) / 0x1000) (a % 0x1000)
        else none

/-! ### The switch -/

/-- Valid reservations (Table 8.15). -/
def Common.validResv (c : Common) : Nat := c.reservations.length

/-- Admitted load of a port direction (R315): cells per pick toward the switch, or toward the end-point where `out`. -/
def Common.portLoad (c : Common) (n : Nat) (out : Bool) : Nat :=
  c.reservations.foldl (fun t r =>
    let p := c.resvPorts r.2.1
    t + (if p.1 = some n then (if out then fld r.2.2 28 16 else fld r.2.2 12 0) else 0) + (if p.2 = some n then (if out then fld r.2.2 12 0 else fld r.2.2 28 16) else 0)) 0

/-- Limit of a port direction (R315): 60 % of its content cells at the present width, and 600 cells for each active shaft. -/
def SwState.portLimit (s : SwState) (n : Nat) : Nat := min (contentCells (s.c.port n).width * 60 / 100) (600 * s.core.active.length)

/-- Calendar registers of a port (Table 8.13). -/
def SwState.calView (s : SwState) (n off : Nat) : Option Reg :=
  let l := s.portLimit n
  let one := fun (out : Bool) => w32 (min 8191 (s.c.portLoad n out) + min 8191 l * 2 ^ 16)
  match off with
  | 0x318 => some (w32 (s.core.held n .priv))
  | 0x31C => some (w32 (s.core.held n .common))
  | 0x344 => some (one false)
  | 0x348 => some (one true)
  | 0x34C => some (w32 (b2n (decide (l < s.c.portLoad n false)) + b2n (decide (l < s.c.portLoad n true)) * 2 + b2n (s.c.inSpan n s.c.pick) * 4))
  | _ => none

/-- Core registers (Table 7.10). -/
def SwState.coreView (s : SwState) (a : Nat) : Option Reg :=
  let st := fun (k : Nat) => (Tab.get s.core.shafts {} k).st
  if a = 0x500000 then some (w32 (s.core.active.length + bitsOf 9 (fun k => st k == .active) * 16 + bitsOf 9 (fun k => st k == .failed) * 2 ^ 13))
  else if a = 0x500008 then some (w32 (commonPool - (List.range 16).foldl (fun t p => t + s.pitchUse p) 0))
  else if 0x500010 ≤ a ∧ a < 0x5000A0 ∧ a % 16 = 0 then
    let k := (a - 0x500010) / 16
    some (w32 ((st k).code + (if st k = .active then s.core.rotation.idxOf k else 0) * 4))
  else if a = 0x5000D0 then some (w32 s.c.validResv)
  else if 0x501000 ≤ a ∧ a < 0x501100 ∧ a % 16 = 8 then some (w32 (s.pitchUse ((a - 0x501000) / 16)))
  else if a = 0x502004 then some (w32 s.core.hotLines)
  else none

/-- The member that `COLL_MSEL` selects. -/
def SwState.selMember (s : SwState) : Option CollMember :=
  let r := s.c.rd 0x700040
  (s.slotColl (fld r 9 0)).bind (fun q => q.members.find? (fun m => m.node == fld r 23 16))

/-- Collective registers (Tables 9.15 and 9.16). -/
def SwState.collView (s : SwState) (a : Nat) : Option Reg :=
  let count := fun (f : CollRec → Bool) => (s.colls.filter f).length
  let pickOr := fun (f : CollMember → Option Nat) => match s.selMember.bind f with | some t => w32 t | none => w32 0xFFFFFFFF
  if a = 0x700000 then some (w32 (count (fun r => r.st == .running) + count (fun r => r.st == .gathering || r.st == .queued) % 2048 * 2 ^ 11))
  else if a = 0x700004 then some (w32 ((List.range 64).filter (fun k => (s.core' k).st == .service)).length)
  else if a = 0x700008 then some (w32 (bitsOf 32 (fun k => (s.core' k).st == .retired)))
  else if a = 0x70000C then some (w32 (bitsOf 32 (fun k => (s.core' (32 + k)).st == .retired)))
  else if a = 0x700044 then some (pickOr (·.first))
  else if a = 0x700048 then some (pickOr (·.last))
  else if a = 0x70004C then some (w32 (match s.selMember with | some m => m.chunks | none => 0))
  else if 0x701000 ≤ a ∧ a < 0x701100 ∧ a % 16 = 0 then
    let l := s.pool ((a - 0x701000) / 16)
    some (w32 (l.foldl (fun t k => t + (128 - (s.core' k).pagesUsed)) 0 + l.foldl (fun t k => t + (16 - (s.core' k).ctxs.length)) 0 % 1024 * 2 ^ 16))
  else if 0x720000 ≤ a ∧ a < 0x728000 then
    match s.slotColl ((a - 0x720000) / 0x20) with
    | none =>
      let l := Tab.get s.slotLag (0, 0) ((a - 0x720000) / 0x20)
      some (if a % 0x20 = 0x0C then w32 (l.1 % 256 * 256) else if a % 0x20 = 0x10 then w32 (min 0xFFFFFFFF l.2) else 0)
    | some r =>
      match a % 0x20 with
      | 0x00 => some (w32 (1 + b2n r.replay * 2 + r.handle % 4096 * 16 + r.group % 1024 * 2 ^ 16))
      | 0x04 => some (w32 r.seq)
      | 0x08 => some (w32 r.admitPick)
      | 0x0C => some (w32 (r.ctxs.length % 64 + r.lag.1 % 256 * 256))
      | 0x10 => some (w32 (min 0xFFFFFFFF r.lag.2))
      | 0x14 => some (w32 (r.bobbins % 2 ^ 16))
      | _ => none
  else if 0x740000 ≤ a ∧ a < 0x750000 then
    let g := (a - 0x740000) / 0x40
    match a % 0x40 with
    | 0x00 => some (setFld (s.c.rd a) 16 8 (s.c.groupNodes g).length)
    | 0x04 => some (w32 (s.grp g).base)
    | _ => none
  else none

/-- Bartas core registers (Table 10.11). -/
def SwState.barView (s : SwState) (k off : Nat) : Option Reg :=
  let b := s.core' k
  if off = 0x000 then some (w32 (b.st.code + b.ctxs.length % 32 * 16))
  else if off = 0x018 then some (w32 (b.pagesUsed % 256))
  else if 0x040 ≤ off ∧ off < 0x140 then
    match Tab.find b.ctxs ((off - 0x040) / 16), off % 16 with
    | none, _ => some 0
    | some x, 0 => some (w32 (1 + b2n x.wait.isSome * 2 + ((s.slotColl x.slot).map (fun r => s.progOf r)).getD 0 % 256 * 256 + x.slot % 1024 * 2 ^ 16))
    | some x, 4 => some (w32 (x.pc % 2 ^ 16))
    | some x, 8 => some (w32 (x.wdog % 2 ^ 16))
    | some _, _ => none
  else none

/-- 4 KiB code pages of a program (Table 10.13). -/
def Prog.pages (p : Prog) : Nat := ceilDiv (4 * p.code.length) 4096

/-- Free code pages of the 512 (R418). -/
def SwState.codeFree (s : SwState) : Nat := 512 - s.progs.foldl (fun t e => t + e.2.pages) 0

/-- Program slots (Table 10.13). -/
def SwState.slotView (s : SwState) (k off : Nat) : Option Reg :=
  match Tab.find s.progs k with
  | none => some 0
  | some p =>
    if off = 0 then some (w32 (1 + p.flags % 4 * 2 + p.pitch % 16 * 16 + p.pages % 32 * 256))
    else if off = 4 then some (w32 (p.minM % 512 + p.maxM % 512 * 2 ^ 16))
    else if 0x10 ≤ off then some (digestWord p.digest ((off - 0x10) / 4))
    else none

/-- Pitch registers that report state (Table 16.12). -/
def SwState.pitchView (s : SwState) (p off : Nat) : Option Reg :=
  match off with
  | 0x04 =>
    let ports := ((List.range 256).filter (fun n => s.c.portPitch n == p)).length
    let cores := ((List.range 64).filter (fun k => s.c.corePitch k == some p)).length
    some (w32 ((Tab.get s.pitches .free p).code + min 255 ports * 256 + cores % 128 * 2 ^ 16))
  | 0x1C =>
    let e := Tab.get s.c.sec.enrol {} p
    let key := fun (f : Nat) => b2n (Tab.find s.c.sec.keys (2 * p + f)).isSome
    some (w32 (e.signers.length % 8 + b2n (!e.tenant.isEmpty) * 8 + key 0 * 16 + key 1 * 32 + s.c.phase p * 64))
  | _ => none

/-- Security registers of the switch (Table 16.12). -/
def Common.swSecView (c : Common) (off : Nat) : Option Reg :=
  let x := c.sec
  if off = 0x00 then
    some (w32 (b2n x.bootOk + b2n x.owned * 2 + b2n x.debugLock * 4 + b2n c.fw.slotB * 8 + b2n ((List.range 16).any (fun p => c.keyOld p)) * 16 + x.owners.length % 16 * 256 + (x.sessions.filter (fun e => e.2.established)).length % 16 * 2 ^ 12))
  else if off = 0x04 then some c.svnWord
  else if off = 0x10 then some (w32 (bitsOf 16 (fun p => c.keyOld p)))
  else if 0x40 ≤ off ∧ off < 0x70 then some (digestWord x.bootDigest ((off - 0x40) / 4))
  else if 0x80 ≤ off ∧ off < 0xB0 then some (digestWord x.devid ((off - 0x80) / 4))
  else none

/-- Registers of the switch alone that report other state. -/
def SwState.view (s : SwState) (a : Nat) : Option Reg :=
  let t := s.c.time
  if a < 0x10000 then none
  else if a < 0x10040 then
    let edge := fun (i : SyncState) => match i.offset with | some o => w32 (twos 32 o) | none => w32 0x80000000
    match a with
    | 0x10000 => some (w32 s.c.pick)
    | 0x10004 => some (w32 (s.c.pick / 2 ^ 32))
    | 0x10008 => some (w32 (t.st.code + (match t.source with | some i => i.code | none => 0) * 8 + b2n t.inA.qualified * 32 + b2n t.inB.qualified * 64))
    | 0x10010 => some (edge t.inA)
    | 0x10014 => some (edge t.inB)
    | 0x1001C => some (w32 (min 0xFFFFFFFF (t.holdPicks / 1000 - t.holdBase)))
    | _ => none
  else if 0x80000 ≤ a ∧ a < 0x80100 then s.c.swSecView (a - 0x80000)
  else if 0x100000 ≤ a ∧ a < 0x220000 then s.calView ((a - 0x100000) / 0x1000) (a % 0x1000)
  else if 0x500000 ≤ a ∧ a < 0x503000 then s.coreView a
  else if 0x600000 ≤ a ∧ a < 0x640000 then s.barView ((a - 0x600000) / 0x1000) (a % 0x1000)
  else if 0x680000 ≤ a ∧ a < 0x681000 then s.slotView ((a - 0x680000) / 0x40) (a % 0x40)
  else if a = 0x681000 then some (w32 (s.codeFree % 1024))
  else if 0x700000 ≤ a ∧ a < 0x750000 then s.collView a
  else if a = 0x800000 then some (w32 (bitsOf 2 (fun k => !s.stacksLost.contains k)))
  else if a = 0x800008 then some (setFld (s.c.rd a) 0 0 (b2n (s.c.blockBusy 0x800000)))
  else if 0x900000 ≤ a ∧ a < 0x900200 then s.pitchView ((a - 0x900000) / 0x20) (a % 0x20)
  else none

/-- What a register holds, as a read of it returns it: the fields of a WO register read zero. -/
def SwState.reg (s : SwState) (a : Nat) : Reg :=
  match s.c.view a with
  | some v => v
  | none => match s.view a with | some v => v | none => s.c.rd a

/-! ### The end-point -/

/-- Copy-engine registers (Table 5.17). -/
def EpState.ceView (s : EpState) (e off : Nat) : Option Reg :=
  let x := Tab.get s.ces {} e
  match off with
  | 0x04 => some (w32 (x.st.code + min 31 x.jobs.length * 256))
  | 0x1C => some (w32 x.cons)
  | 0x20 => some (w32 x.cplProd)
  | _ => none

/-- Measurement slots (Tables 5.20 and 5.21). -/
def EpState.measView (s : EpState) (m off : Nat) : Option Reg :=
  let x := Tab.get s.meas {} m
  if off = 0x00 then some (w32 (b2n x.opened + b2n x.broken * 4 + x.engine % 32 * 256 + x.pitch % 16 * 2 ^ 16))
  else if off = 0x04 then some (w32 x.count)
  else if off = 0x08 then some (w32 x.bytes)
  else if off = 0x0C then some (w32 (x.bytes / 2 ^ 32))
  else if 0x10 ≤ off ∧ off < 0x40 then some (digestWord x.digest ((off - 0x10) / 4))
  else none

/-- Pick, throttle and staked registers (Table 8.16). -/
def EpState.pickView (s : EpState) (a : Nat) : Option Reg :=
  let t := s.c.time
  if a = 0x90000 then some (w32 s.c.pick)
  else if a = 0x90004 then some (w32 (s.c.pick / 2 ^ 32))
  else if a = 0x90008 then some (w32 (t.st.code + t.refPort.getD 0 % 8 * 8 + bitsOf 8 (fun k => t.skewed.contains k) * 256))
  else if 0x90010 ≤ a ∧ a < 0x90030 then some (w32 (twos 32 (Tab.get t.offsets 0 ((a - 0x90010) / 4))))
  else if 0x90060 ≤ a ∧ a < 0x90080 then
    let g := s.c.port ((a - 0x90060) / 4)
    some (w32 (g.eg.loose.getD (contentCells g.width) % 8192 + g.eg.lastLevel % 4 * 2 ^ 13))
  else none

/-- Security registers of the end-point (Table 16.14). -/
def Common.epSecView (c : Common) (off : Nat) : Option Reg :=
  let x := c.sec
  let key := fun (f : Nat) => b2n (Tab.find x.keys f).isSome
  if off = 0x04 then
    some (w32 (b2n x.bootOk + b2n x.owned * 2 + b2n x.debugLock * 4 + b2n x.scrubOn * 8 + key 0 * 16 + key 1 * 32 + c.phase 0 * 64 + b2n x.encHold * 128 + b2n (c.keyOld 0) * 256))
  else if off = 0x14 then some (w32 (min 0xFFFFFFFF ((match Tab.find x.phaseAt 0 with | some t => (c.pick - t) / 1024 | none => 0) - x.ageBase)))
  else if off = 0x1C then some c.svnWord
  else if 0x40 ≤ off ∧ off < 0x70 then some (digestWord x.bootDigest ((off - 0x40) / 4))
  else none

/-- Registers of the end-point alone that report other state. -/
def EpState.view (s : EpState) (a : Nat) : Option Reg :=
  if 0x10000 ≤ a ∧ a < 0x20000 then s.ceView (16 + (a - 0x10000) / 0x1000) (a % 0x1000)
  else if 0x50000 ≤ a ∧ a < 0x60000 then s.ceView ((a - 0x50000) / 0x1000) (a % 0x1000)
  else if a = 0x40008 then some (w32 (bitsOf 8 (fun k => s.portDown k)))
  else if a = 0x4000C then some (w32 (b2n s.src.fencedEpoch.isSome))
  else if a = 0x60004 then some (w32 (min 127 s.xlt.walks.length + min 8191 s.xlt.pins.length * 256))
  else if a = 0x60030 then some (w32 s.xlt.cons)
  else if a = 0x60034 then some (w32 s.xlt.cplProd)
  else if a = 0x70000 then some (w32 (if s.quBusy then s.quUnits.foldl (fun n u => n + 2 ^ u) 0 else 0))
  else if 0x71000 ≤ a ∧ a < 0x71400 then s.measView ((a - 0x71000) / 0x40) (a % 0x40)
  else if a = 0x80004 then
    let l := s.lha
    some (w32 (bitsOf 4 (fun m => l.attached.contains m) + b2n l.quiesced * 16 + l.version % 16 * 256 + bitsOf 4 (fun m => l.fast.contains m) * 2 ^ 12))
  else if 0x90000 ≤ a ∧ a < 0x90100 then s.pickView a
  else if a = 0xA0004 then some (w32 ((s.coll.recs.filter (·.held)).length % 256 + min 255 s.coll.waiting.length * 256))
  else if a = 0xA001C then some (w32 s.coll.cons)
  else if a = 0xA0020 then some (w32 s.coll.cplProd)
  else if 0xF0000 ≤ a ∧ a < 0xF0080 then s.c.epSecView (a - 0xF0000)
  else none

/-- What a register of the end-point holds, as a read of it returns it. -/
def EpState.reg (s : EpState) (a : Nat) : Reg :=
  match s.c.view a with
  | some v => v
  | none => match s.view a with | some v => v | none => s.c.rd a

end Sys2Proof.Machine
end

