-- ==== Sys2Proof/Machine/EndPoint.lean ====
section
/-!
DEFINITION. The meanings of the commands of the end-point: remote operations, host attachment, copy engines, translation, collectives at the member.
-/

namespace Sys2Proof.Machine

/-- A command that acts on the end-point alone: its effect, and everything that then goes on by itself. An end-point held in reset or without power does nothing (R745, R748). -/
def onEp (s : State) (f : EpState → EpState) : Host.Outcome State Fault Refusal :=
  if s.ep.c.held then .next s else .next { s with ep := (f s.ep).finish s.ep }

/-- A command that names a unit: a fault where the end-point has no such unit. -/
def onEpIf (ok : Bool) (s : State) (f : EpState → EpState) : Host.Outcome State Fault Refusal := if ok then onEp s f else .fault .noUnit

/-- A plane of the end-point. -/
def epPlane (k : Nat) : Bool := decide (k < 8)

/-- A module of the host attachment. -/
def epModule (m : Nat) : Bool := decide (m < 4)

/-- A copy engine. -/
def epEngine (e : Nat) : Bool := decide (e < 32)

/-- A request of opcode `op` arrives at its home; so does an opcode that Table 2.7 does not list. A merged one takes the path of R136. -/
def EpState.requestArrive (s : EpState) (plane op : Nat) (p : Packet) : EpState :=
  if p.op ≠ op ∧ opListed p.op then s
  else s.arrive plane p (fun s p => if p.merged ∧ p.src = 0 ∧ (p.op = 5 ∨ p.op = 6) then s.mergedArrive plane p else s.homeArrive plane p)

/-- A response of opcode `op` arrives. -/
def EpState.responseArrive (s : EpState) (plane op : Nat) (p : Packet) : EpState := if p.op = op then s.arrive plane p (fun s p => s.response p) else s

/-- A notice in a `MGMT` packet arrives (R671, R672): one that breaks the rules is dropped and counted. -/
def EpState.noticeArrive (s : EpState) (plane op : Nat) (p : Packet) (ok : List Byte → Bool) (go : EpState → List Byte → EpState) : EpState :=
  if p.op ≠ opMgmt then s
  else s.arrive plane p (fun s p => let b := p.mgmtBody; if (badHeader p).isNone && lenAllowed p && noticeOk b op && ok (b.drop 16) then go s (b.drop 16) else s.mod (fun c => c.bump 0xD0024))

/-- A collective packet arrives from the switch of a plane. -/
def EpState.collArrive (s : EpState) (plane op : Nat) (p : Packet) (go : EpState → Packet → EpState) : EpState :=
  if p.op = op then s.arrive plane p go else s

/-- The fields of a receipt payload (Table 3.13). -/
def receiptOk (b : List Byte) : Bool :=
  let k := pb b 0 / 16
  let n := pn b 6 2
  let w := if k = 2 then 12 else 4
  (k == 1 || k == 2) && pn b 8 8 == 0 && b.length == 16 + n * w &&
  (List.range n).all (fun i => if k = 2 then pn b (16 + 12 * i + 2) 2 % 2048 == 0 else pn b (16 + 4 * i) 4 % 4096 == 0)

/-! ### Remote operations (spec/02, 03, 04) -/

/-- `REQUEST_SEND` (R68, R72, R90 to R94, R195, R322): a message that software hands over is issued first. -/
def execRequestSend (sender : Sender) (s : State) : Host.Outcome State Fault Refusal :=
  onEpIf (decide (sender.engine < 288)) s (fun s => (match sender.msg with | some m => s.issueMsg sender.engine m | none => s).requestSend sender.engine)

/-- `READ` at its home (R45, R95). -/
def execRead (plane : Nat) (p : Packet) (s : State) : Host.Outcome State Fault Refusal := onEpIf (epPlane plane) s (fun s => s.requestArrive plane 1 p)

/-- `WRITE` at its home (R45, R96). -/
def execWrite (plane : Nat) (p : Packet) (s : State) : Host.Outcome State Fault Refusal := onEpIf (epPlane plane) s (fun s => s.requestArrive plane 2 p)

/-- `WRITE_MASKED` at its home (R55). -/
def execWriteMasked (plane : Nat) (p : Packet) (s : State) : Host.Outcome State Fault Refusal := onEpIf (epPlane plane) s (fun s => s.requestArrive plane 6 p)

/-- `WRITE_FLAG_NODE` at its home (R97). -/
def execWriteFlagNode (plane : Nat) (p : Packet) (s : State) : Host.Outcome State Fault Refusal := onEpIf (epPlane plane) s (fun s => s.requestArrive plane 3 p)

/-- `WRITE_FLAG_ALL` at its home (R97). -/
def execWriteFlagAll (plane : Nat) (p : Packet) (s : State) : Host.Outcome State Fault Refusal := onEpIf (epPlane plane) s (fun s => s.requestArrive plane 4 p)

/-- `ATOMIC` at its home (R103 to R110). -/
def execAtomic (plane : Nat) (p : Packet) (s : State) : Host.Outcome State Fault Refusal := onEpIf (epPlane plane) s (fun s => s.requestArrive plane 5 p)

/-- `MERGED_REQUEST` (R134, R136). -/
def execMergedRequest (plane : Nat) (p : Packet) (s : State) : Host.Outcome State Fault Refusal := onEpIf (epPlane plane) s (fun s => if p.merged ∧ (p.op = 5 ∨ p.op = 6) then s.requestArrive plane p.op p else s)

/-- `COMBINE_RECEIPT` (R135, R136). -/
def execCombineReceipt (plane : Nat) (p : Packet) (s : State) : Host.Outcome State Fault Refusal := 
  onEpIf (epPlane plane) s (fun s => s.noticeArrive plane 0x0510 p receiptOk (fun s b => s.receiptArrive plane b))

/-- `FLAG_HOLD_RELEASE` (R97). -/
def execFlagHoldRelease (src seq : Nat) (s : State) : Host.Outcome State Fault Refusal := onEp s (fun s => s.releaseFlag src seq)

/-- `FLAG_HOLD_DISCARD` (R99). -/
def execFlagHoldDiscard (src seq : Nat) (s : State) : Host.Outcome State Fault Refusal := onEp s (fun s => s.discardFlag src seq)

/-- `COMBINE_BATCH_DROP` (R136). -/
def execCombineBatchDrop (plane batch : Nat) (s : State) : Host.Outcome State Fault Refusal := onEpIf (epPlane plane) s (fun s => s.dropOldBatch (4096 * plane + batch % 4096))

/-- `READ_RSP` (R71, R159). -/
def execReadRsp (plane : Nat) (p : Packet) (s : State) : Host.Outcome State Fault Refusal := onEpIf (epPlane plane) s (fun s => s.responseArrive plane 0x10 p)

/-- `WRITE_ACK` (R71, R140). -/
def execWriteAck (plane : Nat) (p : Packet) (s : State) : Host.Outcome State Fault Refusal := onEpIf (epPlane plane) s (fun s => s.responseArrive plane 0x11 p)

/-- `ATOMIC_RSP` (R71, R109). -/
def execAtomicRsp (plane : Nat) (p : Packet) (s : State) : Host.Outcome State Fault Refusal := onEpIf (epPlane plane) s (fun s => s.responseArrive plane 0x12 p)

/-- `MSG_SEND` at its receiver (R75 to R80). -/
def execMsgSend (plane : Nat) (p : Packet) (s : State) : Host.Outcome State Fault Refusal := onEpIf (epPlane plane) s (fun s => if p.op = opMsgSend then s.arrive plane p (fun s p => s.msgTake plane p) else s)

/-- `MSG_ACK` (R71, R75). -/
def execMsgAck (plane : Nat) (p : Packet) (s : State) : Host.Outcome State Fault Refusal := onEpIf (epPlane plane) s (fun s => s.responseArrive plane 0x31 p)

/-- `MSG_DUP_EXPIRY` (R80); a sender is 256 × domain + node. -/
def execMsgDupExpiry (sender : Nat) (s : State) : Host.Outcome State Fault Refusal := onEp s (fun s => s.msgExpiry sender)

/-- `RESPONSE_TIMEOUT` (R124 to R127). -/
def execResponseTimeout (tag : Nat) (s : State) : Host.Outcome State Fault Refusal := onEp s (fun s => s.responseTimeout tag)

/-- `PORT_DOWN_REISSUE` (Table 3.11). -/
def execPortDownReissue (tag : Nat) (s : State) : Host.Outcome State Fault Refusal := onEp s (fun s => s.portDownReissue tag)

/-- `FENCE_COMPLETE` (R112, R115, R191). -/
def execFenceComplete (engine : Nat) (s : State) : Host.Outcome State Fault Refusal := onEpIf (decide (engine < 288)) s (fun s => s.fenceComplete engine)

/-- `CTR_SUB` (R117, R120). -/
def execCtrSub (index value : Nat) (s : State) : Host.Outcome State Fault Refusal := onEpIf (decide (index < 65536)) s (fun s => s.subCounter index value)

/-- `RLC_INVAL` (R162, R167). -/
def execRlcInval (value : Nat) (s : State) : Host.Outcome State Fault Refusal := onEp s (fun s => s.rlcInval value)

/-- `RLC_ADVICE_WRITE` (Table 4.4), through the normal view. -/
def execRlcAdviceWrite (index value : Nat) (s : State) : Host.Outcome State Fault Refusal := onEpIf (decide (index < 128)) s (fun s => s.writeAdvice index value (2 ^ 32 - 1))

/-- `KEY_TABLE_WRITE` (Table 4.4). -/
def execKeyTableWrite (addr value : Nat) (s : State) : Host.Outcome State Fault Refusal := onEpIf (decide (0x34000 ≤ addr) && decide (addr < 0x38000) && addr % 4 == 0) s (fun s => s.writeKey addr value)

/-- `RLC_DISABLE` (Table 4.4). -/
def execRlcDisable  (s : State) : Host.Outcome State Fault Refusal := onEp s (fun s => s.rlcDisable)

/-! ### Host attachment (spec/06) -/

/-- `LD` (R239, R241). -/
def execLd (m : LhaMsg) (s : State) : Host.Outcome State Fault Refusal := onEpIf (epModule m.module) s (fun s => s.areqTake m 1)

/-- `ST` (R239, R241). -/
def execSt (m : LhaMsg) (s : State) : Host.Outcome State Fault Refusal := onEpIf (epModule m.module) s (fun s => s.areqTake m 2)

/-- `ST_MASKED` (R239, R241). -/
def execStMasked (m : LhaMsg) (s : State) : Host.Outcome State Fault Refusal := onEpIf (epModule m.module) s (fun s => s.areqTake m 3)

/-- `AT` (R239, R241). -/
def execLhaAt (m : LhaMsg) (s : State) : Host.Outcome State Fault Refusal := onEpIf (epModule m.module) s (fun s => s.areqTake m 4)

/-- `FENCE` of a context (R112, R241). -/
def execLhaFence (m : LhaMsg) (s : State) : Host.Outcome State Fault Refusal := onEpIf (epModule m.module) s (fun s => s.areqTake m 5)

/-- `KERNEL_START` (R242). -/
def execKernelStart (m : LhaMsg) (s : State) : Host.Outcome State Fault Refusal := onEpIf (epModule m.module) s (fun s => s.kernelStart m)

/-- `MRD_RSP` (R236, R248). -/
def execMrdRsp (m : LhaMsg) (s : State) : Host.Outcome State Fault Refusal := onEpIf (epModule m.module) s (fun s => s.arsp m 0x31)

/-- `MWR_ACK` (R236, R248). -/
def execMwrAck (m : LhaMsg) (s : State) : Host.Outcome State Fault Refusal := onEpIf (epModule m.module) s (fun s => s.arsp m 0x32)

/-- `MAT_RSP` (R236, R248). -/
def execMatRsp (m : LhaMsg) (s : State) : Host.Outcome State Fault Refusal := onEpIf (epModule m.module) s (fun s => s.arsp m 0x33)

/-- `CREDIT` (R237). -/
def execCredit (m : LhaMsg) (s : State) : Host.Outcome State Fault Refusal := onEpIf (epModule m.module) s (fun s => s.takeCredit m)

/-- `MODULE_TRAINED` (R252, R253). -/
def execModuleTrained (module : Nat) (fast : Bool) (s : State) : Host.Outcome State Fault Refusal := onEpIf (epModule module) s (fun s => s.moduleTrained module fast)

/-- `OFFER_RETRY` (R252). -/
def execOfferRetry (module : Nat) (s : State) : Host.Outcome State Fault Refusal := onEpIf (epModule module) s (fun s => s.offerRetry module)

/-- `ACCEPT` (R252, R258). -/
def execAccept (m : LhaMsg) (s : State) : Host.Outcome State Fault Refusal := onEpIf (epModule m.module) s (fun s => s.accept m)

/-- `QUIESCE` (R255). -/
def execQuiesce (m : LhaMsg) (s : State) : Host.Outcome State Fault Refusal := onEpIf (epModule m.module) s (fun s => s.quiesce m)

/-- `QUIESCE_COMPLETE` (R255). -/
def execQuiesceComplete  (s : State) : Host.Outcome State Fault Refusal := onEp s (fun s => s.quiesceComplete)

/-- `MODULE_LINK_LOST` (R256). -/
def execModuleLinkLost (module : Nat) (s : State) : Host.Outcome State Fault Refusal := onEpIf (epModule module) s (fun s => s.loseModule module 1)

/-- `EREQ_TIMEOUT` (R256). -/
def execEreqTimeout (module : Nat) (s : State) : Host.Outcome State Fault Refusal := onEpIf (epModule module) s (fun s => s.ereqTimeout module)

/-- `EREQ_PAUSE_END` (R256, R258). -/
def execEreqPauseEnd  (s : State) : Host.Outcome State Fault Refusal := onEp s (fun s => s.pauseEnds)

/-- `NOTICE_SEND` (R250, R251). -/
def execNoticeSend  (s : State) : Host.Outcome State Fault Refusal := onEp s (fun s => s.pumpNotes s.lha.notes)

/-- `SERVE_WRITE` (R253 to R255). -/
def execServeWrite  (s : State) : Host.Outcome State Fault Refusal := onEp s (fun s => s.serveWrite)

/-- `LHA_MALFORMED_MESSAGE` (R233). -/
def execLhaMalformedMessage (m : LhaMsg) (s : State) : Host.Outcome State Fault Refusal := onEpIf (epModule m.module) s (fun s => s.lhaBad m)

/-! ### Copy engines (spec/05) -/

/-- `CE_DOORBELL` (R185). -/
def execCeDoorbell (engine value : Nat) (s : State) : Host.Outcome State Fault Refusal := onEpIf (epEngine engine) s (fun s => s.ceDoorbell engine value)

/-- `CE_ENABLE` (Table 5.5). -/
def execCeEnable (engine : Nat) (s : State) : Host.Outcome State Fault Refusal := onEpIf (epEngine engine) s (fun s => s.ceEnable engine)

/-- `CE_DISABLE` (Table 5.5). -/
def execCeDisable (engine : Nat) (s : State) : Host.Outcome State Fault Refusal := onEpIf (epEngine engine) s (fun s => s.ceDisable engine)

/-- `CE_RESUME` (Table 5.5). -/
def execCeResume (engine : Nat) (s : State) : Host.Outcome State Fault Refusal := onEpIf (epEngine engine) s (fun s => s.ceResume engine)

/-- `CE_ABORT` (Table 5.5). -/
def execCeAbort (engine : Nat) (s : State) : Host.Outcome State Fault Refusal := onEpIf (epEngine engine) s (fun s => s.ceAbort engine)

/-- `COPY` (R189, R190). -/
def execCopy (engine : Nat) (s : State) : Host.Outcome State Fault Refusal := onEpIf (epEngine engine) s (fun s => s.ceCopy engine)

/-- `QCOPY` (R219 to R222, R457, R460). -/
def execQcopy (engine : Nat) (fails : List (Nat × Bool)) (s : State) : Host.Outcome State Fault Refusal := onEpIf (epEngine engine) s (fun s => s.ceQcopy engine fails)

/-- `ATOMIC` descriptor (R187). -/
def execCeAtomic (engine : Nat) (s : State) : Host.Outcome State Fault Refusal := onEpIf (epEngine engine) s (fun s => s.ceAtomic engine)

/-- `FLAG` descriptor (R187). -/
def execCeFlag (engine : Nat) (s : State) : Host.Outcome State Fault Refusal := onEpIf (epEngine engine) s (fun s => s.ceFlag engine)

/-- `FENCE` descriptor (R191). -/
def execCeFence (engine : Nat) (s : State) : Host.Outcome State Fault Refusal := onEpIf (epEngine engine) s (fun s => s.ceFence engine)

/-- `NOP` descriptor (R187). -/
def execNop (engine : Nat) (s : State) : Host.Outcome State Fault Refusal := onEpIf (epEngine engine) s (fun s => s.ceNop engine)

/-- `CE_COMPLETION` (R192, R224, R225). -/
def execCeCompletion (engine : Nat) (s : State) : Host.Outcome State Fault Refusal := onEpIf (epEngine engine) s (fun s => s.ceCompletion engine)

/-- `MEAS_SLOT_OPEN` (R223). -/
def execMeasSlotOpen (slot value : Nat) (s : State) : Host.Outcome State Fault Refusal := onEpIf (decide (slot < 16)) s (fun s => s.measOpen slot value)

/-- `MEAS_SLOT_CLOSE` (R223). -/
def execMeasSlotClose (slot : Nat) (s : State) : Host.Outcome State Fault Refusal := onEpIf (decide (slot < 16)) s (fun s => s.measClose slot)

/-! ### Translation (spec/05) -/

/-- `XQ_DOORBELL` (R208). -/
def execXqDoorbell (value : Nat) (s : State) : Host.Outcome State Fault Refusal := onEp s (fun s => s.xqDoorbell value)

/-- `INVALIDATE` (R210). -/
def execInvalidate  (s : State) : Host.Outcome State Fault Refusal := onEp s (fun s => s.invalidate)

/-- `INVALIDATE_DRAINED` (R210, R215). -/
def execInvalidateDrained (slot : Nat) (s : State) : Host.Outcome State Fault Refusal := onEp s (fun s => s.invalidateDrained slot)

/-- `INVALIDATE_STUCK` (R210). -/
def execInvalidateStuck (slot : Nat) (s : State) : Host.Outcome State Fault Refusal := onEp s (fun s => s.invalidateStuck slot)

/-- `MIGRATE` (R215). -/
def execMigrate  (s : State) : Host.Outcome State Fault Refusal := onEp s (fun s => s.migrate)

/-- `MIGRATE_COPY_DONE` (R215). -/
def execMigrateCopyDone (slot : Nat) (s : State) : Host.Outcome State Fault Refusal := onEp s (fun s => s.migrateCopyDone slot)

/-- `ADVISE` Resident (R217, Table 5.14). -/
def execAdviseResident  (s : State) : Host.Outcome State Fault Refusal := onEp s (fun s => s.adviseWalk 1)

/-- `ADVISE` ReadMostly (R217, Table 5.14). -/
def execAdviseReadMostly  (s : State) : Host.Outcome State Fault Refusal := onEp s (fun s => s.adviseWalk 2)

/-- `ADVISE` Evict (R217, Table 5.14). -/
def execAdviseEvict  (s : State) : Host.Outcome State Fault Refusal := onEp s (fun s => s.adviseWalk 4)

/-- `ADVISE` Normal (R217, Table 5.14). -/
def execAdviseNormal  (s : State) : Host.Outcome State Fault Refusal := onEp s (fun s => s.adviseWalk 5)

/-- `ADVISE` Streaming (R217, Table 5.14). -/
def execAdviseStreaming  (s : State) : Host.Outcome State Fault Refusal := onEp s (fun s => s.adviseStreaming)

/-! ### Collectives at the member (spec/09) -/

/-- `COLL_DOORBELL` (R387). -/
def execCollDoorbell (value : Nat) (s : State) : Host.Outcome State Fault Refusal := onEp s (fun s => s.collDoorbell value)

/-- `COLL_DESCRIPTOR_START` (R388, R389, R391, R397, R437). -/
def execCollDescriptorStart  (s : State) : Host.Outcome State Fault Refusal := onEp s (fun s => s.collStart)

/-- `GRANT` ADMIT (R355, R367, R391). -/
def execGrantAdmit (plane : Nat) (p : Packet) (fails : List (Nat × Bool)) (s : State) : Host.Outcome State Fault Refusal := 
  onEpIf (epPlane plane) s (fun s => s.collArrive plane opGrant p (fun s p => s.memGrant plane p true fails))

/-- `GRANT` CREDIT (R355, R367). -/
def execGrantCredit (plane : Nat) (p : Packet) (s : State) : Host.Outcome State Fault Refusal := onEpIf (epPlane plane) s (fun s => s.collArrive plane opGrant p (fun s p => s.memGrant plane p false []))

/-- `RESULT` (R374, R391, R438). -/
def execResult (plane : Nat) (p : Packet) (s : State) : Host.Outcome State Fault Refusal := onEpIf (epPlane plane) s (fun s => s.collArrive plane opResult p (fun s p => s.memResult plane p))

/-- `ABORT_NOTICE` (R391, R394, R395). -/
def execAbortNotice (plane : Nat) (p : Packet) (s : State) : Host.Outcome State Fault Refusal := onEpIf (epPlane plane) s (fun s => s.collArrive plane opAbortNotice p (fun s p => s.memReport plane p opAbortNotice))

/-- `DONE` (R391, R395). -/
def execDone (plane : Nat) (p : Packet) (s : State) : Host.Outcome State Fault Refusal := onEpIf (epPlane plane) s (fun s => s.collArrive plane opDone p (fun s p => s.memReport plane p opDone))

/-- `RESEND` (R358, R393). -/
def execResend (plane : Nat) (p : Packet) (s : State) : Host.Outcome State Fault Refusal := onEpIf (epPlane plane) s (fun s => s.collArrive plane opResend p (fun s p => s.memResend plane p))

/-- `COLL_WAIT_EXPIRED` (R391, R395). -/
def execCollWaitExpired (member : Nat) (s : State) : Host.Outcome State Fault Refusal := onEp s (fun s => s.collWaitExpired member)

end Sys2Proof.Machine
end

