-- ==== Sys2Proof/Machine/ZRun.lean ====
section
/-!
DEFINITION. How a Zhevseler command acts on the part that it reaches (spec/17): the checks first, then the opcode's own effect.
-/

namespace Sys2Proof.Machine

/-- A command on the switch. -/
def SwState.zRun (s : SwState) (op : Nat) (z : ZPacket) (f : SwState → SwState) : SwState :=
  let g := s.c.gate op z
  let s1 := { s with c := g.1 }
  if g.2 then f s1 else s1

/-- A command on the end-point. -/
def EpState.zRun (s : EpState) (op : Nat) (z : ZPacket) (f : EpState → EpState) : EpState :=
  let g := s.c.gate op z
  let s1 := { s with c := g.1 }
  if g.2 then f s1 else s1

/-- A command on the part that it reaches. -/
def onZ (op : Nat) (z : ZPacket) (s : State) (sw : SwState → SwState) (ep : EpState → EpState) : Host.Outcome State Fault Refusal :=
  match z.part with
  | .sw => onSw s (fun w => w.zRun op z sw)
  | .ep => onEp s (fun e => e.zRun op z ep)

/-- A command whose effect lies in what both parts hold. -/
def onZc (op : Nat) (z : ZPacket) (s : State) (f : Common → Common) : Host.Outcome State Fault Refusal :=
  onZ op z s (fun w => { w with c := f w.c }) (fun e => { e with c := f e.c })

end Sys2Proof.Machine
end

