-- ==== Sys2Proof/Machine/ProgOps.lean ====
section
/-!
DEFINITION. Loading and unloading Bartas programs (R418 to R424, R696): the container's pieces, the fourteen checks of Table 10.9, the slot.
-/

namespace Sys2Proof.Machine

/-- Bytes [a, a + n) of a container are zero. -/
def zeroBytes (b : List Byte) (a n : Nat) : Bool := ((b.drop a).take n).all (fun x => x == 0)

/-- A little-endian field of a container. -/
def ln (b : List Byte) (a n : Nat) : Nat := leNat ((b.drop a).take n)

/-- The fields of a container with the test each must pass (Tables 10.6 and 10.7), in order of offset. -/
def formChecks (b : List Byte) : List (Nat × Bool) :=
  let code := ln b 12 4
  let sig := 256 + code
  let dram := [40, 48, 56, 64].any (fun a => ln b a 8 != 0)
  let minM := ln b 26 2
  [(0, ln b 0 4 == 0x43545242), (4, ln b 4 1 == 1), (5, decide (ln b 5 1 < 4)), (6, zeroBytes b 6 2),
   (8, ln b 8 4 == code + 512 && b.length == code + 512),
   (12, decide (4 ≤ code) && decide (code ≤ 65536) && code % 4 == 0),
   (20, decide (512 ≤ ln b 20 4) && decide (ln b 20 4 ≤ 1048576)),
   (25, decide (1 ≤ ln b 25 1) && decide (ln b 25 1 ≤ 32)),
   (26, decide (2 ≤ minM) && decide (minM ≤ 256)), (28, decide (minM ≤ ln b 28 2) && decide (ln b 28 2 ≤ 256)),
   (30, decide (ln b 30 1 ≤ 1)), (31, zeroBytes b 31 1)] ++
  [(32, decide (ln b 32 2 ≤ 64)), (34, decide (ln b 34 2 ≤ 64)), (36, decide (ln b 36 2 ≤ 64)), (38, zeroBytes b 38 2),
   (72, ln b 72 4 % 65536 == 0 && (!dram || ln b 72 4 != 0)), (76, decide (1 ≤ ln b 76 2)), (78, zeroBytes b 78 2), (96, zeroBytes b 96 160),
   (sig + 97, zeroBytes b (sig + 97) 7), (sig + 200, zeroBytes b (sig + 200) 56)]

/-- The branch or jump at word `i` stays inside a code of `n` words (step 5). -/
def targetIn (n i w : Nat) : Bool :=
  let m := bits w 31 26
  let dest : Int := if m = 0xE then (i : Int) + untwos 26 (bits w 25 0) else (i : Int) + imm16 w
  if 8 ≤ m ∧ m ≤ 0xE then decide (0 ≤ dest) && decide (dest < n) else true

/-- A load or store of local memory at a fixed address lies inside the scratch (step 7). -/
def staticIn (scratch w : Nat) : Bool :=
  let m := bits w 31 26
  let size : Int := if m = 0x10 ∨ m = 0x12 then 8 else 4
  if 0x10 ≤ m ∧ m ≤ 0x13 ∧ bits w 20 16 = 0 then decide (0 ≤ imm16 w) && decide (imm16 w + size ≤ scratch) else true

/-- The program of a container. -/
def progOfBytes (pitch : Nat) (b : List Byte) : Prog :=
  let code := ln b 12 4
  { pitch := pitch, flags := ln b 5 1, entry := ln b 16 4, scratch := ln b 20 4, ctxDiv := ln b 24 1, ctxMax := ln b 25 1, minM := ln b 26 2, maxM := ln b 28 2,
    stage := ln b 30 1, bobCtx := ln b 32 2, bobExact := ln b 34 2, bobFixed := ln b 36 2, dram := [40, 48, 56, 64].map (fun a => ln b a 8), cache := ln b 72 4,
    wdog := ln b 76 2, code := (List.range (code / 4)).map (fun i => ln b (256 + 4 * i) 4), digest := sha384 (b.take (256 + code)) }

/-- Steps 10 to 14 of Table 10.9: the program at MAX_MEMBERS in exact mode against the whole resources of a pitch with `k` cores. -/
def SwState.fitSteps (s : SwState) (h : Common) (k : Nat) (p : Prog) : Option (Nat × Nat) :=
  let d := demandOf 0x80 p.maxM 0 true (some p)
  let pages := (d.shares.map sharePages).foldl max 0
  let room := ((List.range 2).map (fun t => if s.stacksLost.contains t then 0 else (h.dramShare p.pitch t).2)).foldl max 0
  let cache := h.cacheShare p.pitch
  if k < d.shares.length then some (0x060A, d.shares.length - k)
  else if 128 < pages then some (0x060B, pages - 128)
  else if 128 * k < d.bobbins then some (0x060C, d.bobbins - 128 * k)
  else if room < d.dram then some (0x060D, ceilDiv (d.dram - room) 65536)
  else if cache < p.cache then some (0x060E, ceilDiv (p.cache - cache) 65536)
  else none

/-- The first word of a code that fails a test. -/
def badWord (code : List Nat) (f : Nat → Nat → Bool) : Option Nat := ((List.range code.length).zip code).findSome? (fun e => if f e.1 e.2 then none else some e.1)

/-- The first check of Table 10.9 that a container fails: status and detail. -/
def SwState.loadCheck (s : SwState) (slot pitch : Nat) (b : List Byte) : Option (Nat × Nat) :=
  match (formChecks b).find? (fun f => !f.2) with
  | some f => some (0x0601, f.1)
  | none =>
    let code := ln b 12 4
    let sig := (b.drop (256 + code)).take 256
    let key := sig.take 97
    let p := progOfBytes pitch b
    let n := p.code.length
    if !ecdsaOk key (b.take (256 + code)) (pn sig 104 48) (pn sig 152 48) then some (0x0602, 0)
    else if !(Tab.get s.c.sec.enrol {} pitch).signers.contains (sha384 key) then some (0x0603, 0)
    else
      match badWord p.code (fun _ w => legalWord w) with
      | some i => some (0x0604, i)
      | none =>
        if n ≤ p.entry then some (0x0605, p.entry)
        else
          match badWord p.code (fun i w => targetIn n i w), badWord p.code (fun _ w => p.flags / 2 % 2 == 1 || (bits w 31 26 != 0x33 && bits w 31 26 != 0x3C)),
            badWord p.code (fun _ w => staticIn p.scratch w) with
          | some i, _, _ => some (0x0605, i)
          | none, some i, _ => some (0x0606, i)
          | none, none, some i => some (0x0607, i)
          | none, none, none =>
            if (Tab.find s.progs slot).isSome then some (0x0608, slot)
            else if s.codeFree < p.pages then some (0x0609, p.pages - s.codeFree)
            else s.fitSteps s.c (s.pool pitch).length p

/-- `BAR_LOAD_EVENT` (Table 10.13): 1 loaded, 2 refused, 3 unloaded. -/
def Common.loadEvent (c : Common) (what slot status : Nat) : Common := c.event 0x681004 (what * 16384 + slot % 64 * 256 + status % 256)

/-- A whole container has arrived: it is checked and put in place, or refused (R422). -/
def SwState.progPlace (s : SwState) (z : ZPacket) (slot pitch : Nat) (b : List Byte) : SwState :=
  match s.loadCheck slot pitch b with
  | some f => s.mod (fun c => (c.loadEvent 2 slot f.1).zAnswer 0x0601 z f.1 (min 0xFFFF f.2) [])
  | none => ({ s with progs := Tab.put s.progs slot (progOfBytes pitch b) }).mod (fun c => (c.loadEvent 1 slot 0).zOk 0x0601 z [])

/-- One piece of a container (R696). -/
def SwState.progPiece (s : SwState) (z : ZPacket) : SwState :=
  let slot := pb z.payload 0
  let pitch := pb z.payload 1
  let off := pn z.payload 4 4
  let had : Option ProgLoad := if off = 0 then some { pitch := pitch } else Tab.find s.loads slot
  let next : Nat := match had with | some l => l.bytes.length | none => 0
  match had with
  | some l =>
    if off ≠ next ∨ l.pitch ≠ pitch then s.mod (fun c => c.zAnswer 0x0601 z 0x0610 (min 0xFFFF (next / 4)) [])
    else
      let all := l.bytes ++ z.payload.drop 8
      if pb z.payload 2 = 1 then ({ s with loads := Tab.del s.loads slot }).progPlace z slot pitch all
      else ({ s with loads := Tab.put s.loads slot { pitch := pitch, bytes := all, at_ := s.c.pick } }).mod (fun c => c.zOk 0x0601 z [])
  | none => s.mod (fun c => c.zAnswer 0x0601 z 0x0610 0 [])

/-- Valid handles that name an OP. -/
def Common.handlesOf (c : Common) (op : Nat) : List Nat :=
  c.rf.cur.filterMap (fun e => if 0x710000 ≤ e.1 ∧ e.1 < 0x718000 ∧ e.1 % 8 = 0 ∧ flag e.2 0 ∧ fld e.2 31 24 = op then some ((e.1 - 0x710000) / 8) else none)

/-- The lowest of a list of numbers. -/
def lowest (l : List Nat) : Option Nat := match l with | [] => none | a :: r => some (r.foldl min a)

/-- Unload a program, unless a valid handle names it (R424). An empty slot is NOT_FOUND: DESIGN CHOICE. -/
def SwState.progUnload (s : SwState) (z : ZPacket) : SwState :=
  let slot := pb z.payload 0
  match lowest (s.c.handlesOf (0x80 + slot)) with
  | some h => s.mod (fun c => c.zAnswer 0x0602 z 0x060F h [])
  | none =>
    if (Tab.find s.progs slot).isNone then s.mod (fun c => c.zAnswer 0x0602 z zNotFound 0 [])
    else ({ s with progs := Tab.del s.progs slot }).mod (fun c => (c.loadEvent 3 slot 0).zOk 0x0602 z [])

/-! ### Meanings -/

/-- `PROG_LOAD` (R418 to R423, R696). -/
def execProgLoad (z : ZPacket) (s : State) : Host.Outcome State Fault Refusal := onZ 0x0601 z s (fun w => w.progPiece z) (fun e => e)

/-- `PROG_UNLOAD` (R424). -/
def execProgUnload (z : ZPacket) (s : State) : Host.Outcome State Fault Refusal := onZ 0x0602 z s (fun w => w.progUnload z) (fun e => e)

/-- A partial container that has received no piece for 10 s, 10,000,000 picks, is discarded (R696). -/
def SwState.progExpire (s : SwState) (slot : Nat) : SwState :=
  match Tab.find s.loads slot with
  | some l => if l.at_ + 10000000 ≤ s.c.pick then { s with loads := Tab.del s.loads slot } else s
  | none => s

/-- `PROG_PIECE_TIMEOUT` (R696). -/
def execProgPieceTimeout (slot : Nat) (s : State) : Host.Outcome State Fault Refusal := onSwIf (decide (slot < 64)) s (fun s => s.progExpire slot)

end Sys2Proof.Machine
end

