-- ==== Sys2Proof/Machine/FlitOps.lean ====
section
/-!
DEFINITION. Sending and receiving flits (R516 to R526): replay, acknowledgement, credits, packing packets into content cells (R81, R82, R85).
-/

namespace Sys2Proof.Machine

/-- A port on which flits travel: from stage 7 of a raise on, and until the replay buffer of an orderly strike is empty (Tables 13.8, 13.11, 13.13). -/
def Port.flitsRun (p : Port) : Bool :=
  match p.t.st with
  | .struck => p.t.strike.isSome
  | .raising => decide (7 ≤ p.t.stage)
  | .paused => false
  | _ => true

/-- No new DATA or CTRL flit may start: a drain, a strike, or a full replay buffer (R520, R545, R546). -/
def Common.noNew (c : Common) (n : Nat) : Bool :=
  let p := c.port n
  p.t.drainSent || p.t.drainRecv || p.t.strike.isSome || decide (replayMax c.part n ≤ p.fl.replay.length)

/-- Fill the content of a DATA flit from the packet being sent and from the egress queues (R81, R328); at most `fuel` packets begin. -/
def Common.fill (c : Common) (n tick : Nat) (acc : List Cell) : Nat → List Cell × Common
  | 0 => (acc, c)
  | fuel + 1 =>
    let f := (c.port n).fl
    if 15 ≤ acc.length then (acc, c)
    else if f.txCells.isEmpty then
      match c.serve n tick acc.length with
      | some (e, c1) => Common.fill (c1.modFlit n (fun f => { f with txCells := e.pkt.cells })) n tick acc fuel
      | none => (acc, c)
    else
      let k := 15 - acc.length
      Common.fill (c.modFlit n (fun f => { f with txCells := f.txCells.drop k })) n tick (acc ++ f.txCells.take k) fuel

/-- Header and sideband fields that every flit takes at the moment it is sent (R518, R520, R526). -/
def Common.stamp (c : Common) (n cn : Nat) (f : Flit) : Flit :=
  let p := c.port n
  let v := p.fl.credTurn
  Flit.seal { f with
    ack := (p.fl.rxNext + 4095) % 4096, nak := p.fl.nakDue,
    cvcA := v, credA := (Tab.get p.cred {} v).freed, cvcB := v + 1, credB := (Tab.get p.cred {} (v + 1)).freed,
    pickLo := c.pick % 65536, cn := cn }

/-- Put a stamped flit on the wire. -/
def Common.launch (c : Common) (n : Nat) (f : Flit) : Common :=
  c.modFlit n (fun l => { l with wire := f, nakDue := false, nakSent := l.nakSent || f.nak, credTurn := (l.credTurn + 2) % 8, slots := l.slots + 1 })

/-- Send one flit in the next flit slot (R517, R521): replay first, then a CTRL flit, then DATA, then IDLE. `cn` is the congestion level of R336. -/
def Common.flitSend (c : Common) (n tick cn : Nat) : Common :=
  let p := c.port n
  if !p.flitsRun || decide (p.slotLimit c.pick ≤ p.fl.slots) then c
  else
    let c0 := if cn = 0 then c else c.bump (linkA c.part n 0x358)
    let idle := c0.launch n (c0.stamp n cn { ftype := .idle, fseq := p.fl.txNext })
    if 0 < p.fl.replaying then
      match p.fl.replay[p.fl.replay.length - p.fl.replaying]? with
      | some h =>
        let c1 := c0.modFlit n (fun f =>
          { f with
            replay := f.replay.set (f.replay.length - f.replaying) { h with sentAt := c.now }, replaying := f.replaying - 1 })
        c1.launch n (c0.stamp n cn h.flit)
      | none => c0.modFlit n (fun f => { f with replaying := 0 })
    else if c.noNew n then idle
    else
      let keep := fun (c1 : Common) (f : Flit) =>
        (c1.modFlit n (fun l => { l with replay := l.replay ++ [{ flit := f, sentAt := c.now }], txNext := (l.txNext + 1) % 4096 })).launch n f
      match p.fl.ctrlOut with
      | m :: rest =>
        let c1 := c0.modFlit n (fun f => { f with ctrlOut := rest })
        keep c1 (c0.stamp n cn { ftype := .ctrl, fseq := p.fl.txNext, cells := m.cells })
      | [] =>
        if p.t.st = .standby ∨ p.t.st = .raised then
          match c0.fill n tick [] 64 with
          | ([], _) => idle
          | (cs, c1) => keep c1 (c1.stamp n cn { ftype := .data, fseq := p.fl.txNext, cells := cs })
        else idle

/-- Free the replay entries up to and including ACK (R520). -/
def ackTo (ack : Nat) (r : List HeldFlit) : List HeldFlit :=
  match r.findIdx? (fun h => h.flit.fseq == ack) with
  | some i => r.drop (i + 1)
  | none => r

/-- Use the ACK, NAK and credit fields of a flit (R519 to R521, R526). -/
def Common.useHeader (c : Common) (n : Nat) (f : Flit) : Common :=
  c.modPort n (fun p =>
    let r := ackTo f.ack p.fl.replay
    let cr := Tab.upd p.cred {} f.cvcA (fun v => { v with latest := f.credA })
    { p with
      fl := { p.fl with replay := r, replaying := if f.nak then r.length else min p.fl.replaying r.length },
      cred := Tab.upd cr {} f.cvcB (fun v => { v with latest := f.credB }) })

/-- Cells of a DATA flit to packets (R81, R82, R85): the cells of a packet not yet whole, the packets completed, and how many cells a version error drops. -/
def parseCells : List Cell → List Cell → List Packet → List Cell × List Packet × Nat
  | [], part, out => (part, out, 0)
  | x :: r, [], out =>
    let ver := bits x.toNat 127 124
    if ver = 0 then parseCells r [] out
    else if ver ≠ 1 then ([], out, 1 + r.length)
    else if headerSpan x ≤ 1 then parseCells r [] (out ++ [packetOf [x]])
    else parseCells r [x] out
  | x :: r, h :: t, out =>
    let cur := h :: t ++ [x]
    if headerSpan h ≤ cur.length then parseCells r [] (out ++ [packetOf cur]) else parseCells r cur out

/-- A flit discarded for a bad CRC, a reserved type or a version error: NAK in the next header, in no later one until a flit is accepted (R521);
the flit of the sequence then expected, discarded again, is a lasting error, which starts a lane check (R523). -/
def Common.discardFlit (c : Common) (n fseq : Nat) : Common :=
  let p := c.port n
  let again := p.fl.nakAt == some p.fl.rxNext && fseq == p.fl.rxNext
  let c1 := c.modFlit n (fun f =>
    { f with nakDue := f.nakDue || !f.nakSent, nakAt := if f.nakSent then (if again then none else f.nakAt) else some f.rxNext })
  if again then ((c1.bumpHi (linkA c.part n 0x014)).errLasting 2).startCheck n true else c1

/-- Accept a flit in its sequence (R519, R523, R524). A cell that begins a packet with a wrong VER is dropped and counted, with the rest of the flit discarded (R85). -/
def Common.acceptFlit (c : Common) (n : Nat) (f : Flit) : Common :=
  let p := c.port n
  let base := fun (c1 : Common) =>
    let c2 := if p.fl.nakAt = some p.fl.rxNext then (c1.bumpLo (linkA c.part n 0x014)).errTransient 2 else c1
    c2.modFlit n (fun l => { l with rxNext := (l.rxNext + 1) % 4096, nakSent := false, nakAt := none, verAt := none })
  match f.ftype with
  | .data =>
    let cs := ((f.cells ++ List.replicate (15 - f.cells.length) 0).take 15)
    let r := parseCells cs p.fl.rxCells []
    if r.2.2 = 0 then base (c.modFlit n (fun l => { l with rxCells := r.1, rxPackets := l.rxPackets ++ r.2.1 }))
    else if p.fl.verAt = some p.fl.rxNext then
      base ((c.bump (linkA c.part n 0x01C)).modFlit n (fun l => { l with rxCells := r.1, rxPackets := l.rxPackets ++ r.2.1 }))
    else
      (c.bump (linkA c.part n 0x01C)).modFlit n (fun l => { l with nakDue := l.nakDue || !l.nakSent, nakAt := if l.nakSent then l.nakAt else some l.rxNext, verAt := some l.rxNext })
  | _ => base c

/-- A flit received (R519). A flit with a bad CRC is discarded and none of its fields used; an end-point takes the congestion level of a good one (R337). -/
def Common.flitReceived (c : Common) (n : Nat) (f : Flit) : Common :=
  let p := c.port n
  if !(p.flitsRun || p.t.st == .paused) then c
  else if !f.crcOk then (c.bump (linkA c.part n 0x018)).discardFlit n f.fseq
  else
    let d := (f.pickLo + 65536 - c.pick % 65536) % 65536
    let c0 := if d ≤ 1 ∨ d = 65535 then c else c.bump (linkA c.part n 0x02C)
    let c1 := (c0.useHeader n f).noteLevel n f.cn
    let c2 :=
      match f.ftype with
      | .reserved _ => (c1.bump (linkA c.part n 0x018)).discardFlit n f.fseq
      | .idle => c1.modFlit n (fun l => { l with nakSent := false })
      | _ => if f.fseq = p.fl.rxNext then c1.acceptFlit n f else c1
    ((c2.drainSettled n).strikeSettled n).ctrlSettled n

/-- Replay every unacknowledged flit (R521, R522). -/
def Common.replayAll (c : Common) (n : Nat) : Common :=
  c.modFlit n (fun f => { f with replaying := f.replay.length })

end Sys2Proof.Machine
end

