-- ==== Sys2Proof/Machine/PortCore.lean ====
section
/-!
DEFINITION. The meanings of the commands of the timebase, of link ports and of light, which both parts take (spec/08, 12, 13).
-/

namespace Sys2Proof.Machine

/-- An end-point whose set of marked ports a command changes follows its reference port again (R308). -/
def Common.refollow (c before : Common) : Common := if c.markerPorts = before.markerPorts then c else c.followRef

/-- A command that acts on what both parts hold. -/
def onPart (part : Part) (s : State) (f : Common → Common) : Host.Outcome State Fault Refusal :=
  match part with
  | .sw => onSw s (fun w => w.mod f)
  | .ep => onEp s (fun e => e.mod (fun c => (f c).refollow c))

/-- A command that names a port of a part: a fault where the part has no such port. -/
def onPort (part : Part) (n : Nat) (s : State) (f : Common → Common) : Host.Outcome State Fault Refusal :=
  if n < portCount part then onPart part s f else .fault .noUnit

/-- A command that names a comb of a part. -/
def onComb (part : Part) (k : Nat) (s : State) (f : Common → Common) : Host.Outcome State Fault Refusal :=
  if k < combCount part then onPart part s f else .fault .noUnit

/-! ### The timebase (spec/08) -/

/-- `PICK_SYNC_PULSE` (R302, R303, R305): only the switch has the inputs. -/
def execPickSyncPulse (part : Part) (input : SyncInput) (width : Nat) (offset : Int) (s : State) : Host.Outcome State Fault Refusal :=
  match part with
  | .sw => onPart .sw s (fun c => c.syncPulse input width offset)
  | .ep => .fault .noUnit

/-- `PICK_MARKER` (R512 to R515, R535). -/
def execPickMarker (part : Part) (port : Nat) (m : Marker) (s : State) : Host.Outcome State Fault Refusal := onPort part port s (fun c => c.recvMarker port m)

/-! ### Flits (R516 to R526) -/

/-- The congestion level that the next flit of a port carries (R336): the switch computes it. -/
def State.flitLevel (s : State) (part : Part) (n : Nat) : Nat :=
  match part with
  | .sw => s.sw.cnFor n
  | .ep => 0

/-- `FLIT_SEND` (R517, R328, R336): tick is the flit tick of the gate windows. -/
def execFlitSend (part : Part) (port tick : Nat) (s : State) : Host.Outcome State Fault Refusal :=
  onPort part port s (fun c => c.flitSend port tick (s.flitLevel part port))

/-- `FLIT_RECEIVED` (R519 to R526). -/
def execFlitReceived (part : Part) (port : Nat) (f : Flit) (s : State) : Host.Outcome State Fault Refusal := onPort part port s (fun c => c.flitReceived port f)

/-- `REPLAY_TIMEOUT` (R522). -/
def execReplayTimeout (part : Part) (port : Nat) (s : State) : Host.Outcome State Fault Refusal := onPort part port s (fun c => c.replayAll port)

/-! ### Training (R528 to R538) -/

/-- `TRAINING_SET` (R529, R530): stages pause while the firmware restarts (R589). -/
def execTrainingSet (part : Part) (port : Nat) (t : TrainingSet) (ownMet : Bool) (s : State) : Host.Outcome State Fault Refusal :=
  onPort part port s (fun c => if c.fw.restart then c else c.trainingSet port t ownMet)

/-- A stage reaches its time-out (R528, R538): stages 1 to 11 of a raise, and those of a warm re-raise. -/
def Common.stageTimeout (c : Common) (n : Nat) : Common :=
  let t := (c.port n).t
  if (t.st = .raising ∨ (t.st = .paused ∧ t.resume)) ∧ 1 ≤ t.stage ∧ t.stage ≤ 11 then c.failRaise n causeTimeout else c

/-- `STAGE_TIMEOUT` (R528, R538): time-outs do not count a firmware restart (R589). -/
def execStageTimeout (part : Part) (port : Nat) (s : State) : Host.Outcome State Fault Refusal := onPort part port s (fun c => if c.fw.restart then c else c.stageTimeout port)

/-- `CAPS` (R531). -/
def execCaps (part : Part) (port : Nat) (k : Caps) (s : State) : Host.Outcome State Fault Refusal := onPort part port s (fun c => c.recvCaps port k)

/-- An IDENT message received (R532, R537): kept for the wiring check and admission; on a port that resumes, another identity than the one recorded strikes it. -/
def Common.recvIdent (c : Common) (n : Nat) (i : Ident) : Common :=
  let p := c.port n
  if p.t.st = .paused ∧ p.t.resume ∧ p.far.bound ≠ some i then c.strikeOrderly n causeIdentity false
  else
    let settled := p.t.st == .raised || p.t.st == .standby
    let c1 := c.modPort n (fun p => { p with far := { p.far with ident := some i, bound := if settled then some i else p.far.bound } })
    c1.ctrlSettled n

/-- `IDENT` (R532, R533, R537). -/
def execIdent (part : Part) (port : Nat) (i : Ident) (s : State) : Host.Outcome State Fault Refusal := onPort part port s (fun c => c.recvIdent port i)

/-- A WIRE message received (R533, R534): the far end's result. At stage 9 a pass on both sides goes on, any other result quarantines. -/
def Common.recvWire (c : Common) (n result _other : Nat) : Common :=
  let p := c.port n
  let c1 := c.modPort n (fun p => { p with far := { p.far with wire := some result } })
  if p.t.st = .raising ∧ p.t.stage = 9 then
    if result = 0 then c1.enterStage n 10
    else (c1.linkEvent n (if result = 2 then causePair else causeWiring) 9).modTrain n (fun t => { t with st := .quarantined, stage := 0 })
  else if p.t.st = .quarantined ∧ result = 0 then c1.recheck n
  else c1

/-- `WIRE` (R533, R534). -/
def execWire (part : Part) (port result other : Nat) (s : State) : Host.Outcome State Fault Refusal :=
  onPort part port s (fun c => c.recvWire port result other)

/-- A CREDIT_INIT message received (R527): the grants of every virtual channel at stage 10. -/
def Common.recvCredits (c : Common) (n : Nat) (grants : List Nat) : Common :=
  let p := c.port n
  if p.t.st = .raising ∧ 7 ≤ p.t.stage ∧ p.t.stage ≤ 10 then
    (c.modPort n (fun p =>
      { p with
        far := { p.far with credits := true },
        cred := (List.range 8).foldl (fun t v => Tab.upd t {} v (fun x => { x with grant := grants.getD v 0 % 16384 })) p.cred })).ctrlSettled n
  else c

/-- `CREDIT_INIT` (R526, R527). -/
def execCreditInit (part : Part) (port : Nat) (grants : List Nat) (s : State) : Host.Outcome State Fault Refusal := onPort part port s (fun c => c.recvCredits port grants)

/-- `ADMIT` (R536): only an end-point receives it. -/
def execAdmitMsg (port code : Nat) (s : State) : Host.Outcome State Fault Refusal := onPort .ep port s (fun c => c.recvAdmit port code)

/-! ### Lane control (R540 to R545) -/

/-- A lane check at this end: started by the far end's CHECK set, or under way; the channels whose check sets showed a code violation or, where marked, a disparity error are bad (R540). -/
def Common.laneCheck (c : Common) (n : Nat) (bad : List (Nat × Bool)) : Common :=
  let c1 := c.startCheck n false
  if (c1.port n).t.check.isNone then c1
  else
    let live := bad.filter (fun e => decide (roleOf (c1.port n).t.roles e.1 < 0x22))
    let c2 := c1.modPort n (fun p => { p with lane := live.foldl (fun l e => countLane l e.1 (b2n !e.2) (b2n e.2)) p.lane })
    c2.markBad n (live.map (·.1)) 0

/-- `LANE_CTRL_CHECK` (R540). -/
def execLaneCtrlCheck (part : Part) (port : Nat) (_k : LaneSet) (bad : List (Nat × Bool)) (s : State) : Host.Outcome State Fault Refusal :=
  onPort part port s (fun c => c.laneCheck port bad)

/-- `MOVE` (R543). -/
def execMove (part : Part) (port : Nat) (k : LaneSet) (s : State) : Host.Outcome State Fault Refusal := onPort part port s (fun c => c.recvMove port k)

/-- `MOVE_OK` (R543). -/
def execMoveOk (part : Part) (port : Nat) (k : LaneSet) (s : State) : Host.Outcome State Fault Refusal := onPort part port s (fun c => c.recvAnswer port false k)

/-- `MOVE_NO` (R543). -/
def execMoveNo (part : Part) (port : Nat) (k : LaneSet) (s : State) : Host.Outcome State Fault Refusal := onPort part port s (fun c => c.recvMoveNo port k)

/-- `WIDTH` (R543). -/
def execWidth (part : Part) (port : Nat) (k : LaneSet) (s : State) : Host.Outcome State Fault Refusal := onPort part port s (fun c => c.recvWidth port k)

/-- `WIDTH_OK` (R543). -/
def execWidthOk (part : Part) (port : Nat) (k : LaneSet) (s : State) : Host.Outcome State Fault Refusal := onPort part port s (fun c => c.recvAnswer port true k)

/-- `LANE_CTRL_RETRY` (R542): every set that still waits for its answer is sent again. -/
def execLaneCtrlRetry (part : Part) (port : Nat) (s : State) : Host.Outcome State Fault Refusal :=
  onPort part port s (fun c => each ((c.port port).repeats c.now) c (fun c k => c.sendLane port k))

/-- `DRAIN` (R544, R545). -/
def execDrain (part : Part) (port : Nat) (s : State) : Host.Outcome State Fault Refusal := onPort part port s (fun c => c.recvDrain port)

/-- A DRAIN_DONE set received (R545). -/
def Common.recvDrainDone (c : Common) (n : Nat) : Common :=
  if (c.port n).t.st = .raised ∧ ((c.port n).t.drainSent ∨ (c.port n).t.drainRecv) then
    (c.modTrain n (fun t => { t with doneRecv := true })).drainSettled n
  else c

/-- `DRAIN_DONE` (R545). -/
def execDrainDone (part : Part) (port : Nat) (s : State) : Host.Outcome State Fault Refusal := onPort part port s (fun c => c.recvDrainDone port)

/-! ### Strikes (R546 to R549) -/

/-- `STRIKE` (R546, R547). -/
def execStrike (part : Part) (port : Nat) (s : State) : Host.Outcome State Fault Refusal := onPort part port s (fun c => c.recvStrike port)

/-- `STRIKE_DONE` (R546). -/
def execStrikeDone (part : Part) (port : Nat) (s : State) : Host.Outcome State Fault Refusal := onPort part port s (fun c => c.recvStrikeDone port)

/-- `STRIKE_COMPLETE` (Table 13.13 step 4, R548). -/
def execStrikeComplete (part : Part) (port : Nat) (s : State) : Host.Outcome State Fault Refusal := onPort part port s (fun c => c.strikeSettled port)

/-- An orderly strike whose second or third step runs past its bound ends as an abrupt one (R547). -/
def Common.strikeTimeout (c : Common) (n : Nat) : Common :=
  match (c.port n).t.strike with
  | some k => if (c.port n).op.shutter then (c.completeStrike n).tellStrike n k.cause else c.completeStrike n
  | none => c

/-- `STRIKE_STEP_TIMEOUT` (R547). -/
def execStrikeStepTimeout (part : Part) (port : Nat) (s : State) : Host.Outcome State Fault Refusal := onPort part port s (fun c => c.strikeTimeout port)

/-- `PORT_LINK_CMD.RAISE` (R538): the wait after three failed raises ends and a raise starts. -/
def Common.cmdRaise (c : Common) (n : Nat) : Common := (c.modTrain n (fun t => { t with needCmd := false, failedRaises := 0 })).askRaise n

/-- `PORT_LINK_CMD.CLR_LANE` (Table 13.17): lane table 0x0 is cleared. -/
def Common.clrLane (c : Common) (n : Nat) : Common := c.modPort n (fun p => { p with lane := p.lane.filter (fun e => decide (64 ≤ e.1)) })

/-- `LINK_CMD_RAISE` (R538, R549). -/
def execLinkCmdRaise (part : Part) (port : Nat) (s : State) : Host.Outcome State Fault Refusal := onPort part port s (fun c => c.cmdRaise port)

/-- `LINK_CMD_STRIKE` (R546, R548). -/
def execLinkCmdStrike (part : Part) (port : Nat) (cold : Bool) (s : State) : Host.Outcome State Fault Refusal :=
  onPort part port s (fun c => c.strikeOrderly port causeCommand cold)

/-- `LINK_CMD_CHECK` (R540). -/
def execLinkCmdCheck (part : Part) (port : Nat) (s : State) : Host.Outcome State Fault Refusal := onPort part port s (fun c => c.startCheck port true)

/-- `LINK_CMD_CLR_LANE` (Table 13.14). -/
def execLinkCmdClrLane (part : Part) (port : Nat) (s : State) : Host.Outcome State Fault Refusal := onPort part port s (fun c => c.clrLane port)

/-! ### Eye scans (R550, R551) -/

/-- A write to PORT_EYE_CMD with START = 1 begins a scan of one channel, or of every channel with ALL = 1. -/
def Common.eyeStart (c : Common) (n value : Nat) : Common :=
  let r := c.rd (linkA c.part n 0x080)
  if bit value 0 then
    c.modPort n (fun p => { p with eyeBusy := true, eyeChan := if flag r 6 then none else some (fld r 5 0) })
  else c

/-- A write to PORT_EYE_CMD with STOP = 1 stops the scan in progress. -/
def Common.eyeStop (c : Common) (n : Nat) : Common := c.modPort n (fun p => { p with eyeBusy := false })

/-- With AUTO = 1 a port that is RAISED, STANDBY or QUARANTINED scans its channels back to back (R551). -/
def Common.eyeAuto (c : Common) (n : Nat) : Bool :=
  let t := (c.port n).t.st
  flag (c.rd (linkA c.part n 0x080)) 10 && (t == .raised || t == .standby || t == .quarantined)

/-- A scan is in progress. -/
def Common.eyeScanning (c : Common) (n : Nat) : Bool := (c.port n).eyeBusy || c.eyeAuto n

/-- A scan ends (R551): WIDTH, HEIGHT and the pick of each channel it covered; the points of a single-channel scan. With AUTO the next one starts. -/
def Common.eyeDone (c : Common) (n : Nat) (results : List (Nat × Nat × Nat)) (counts : List Nat) : Common :=
  if !c.eyeScanning n then c
  else
    let all := flag (c.rd (linkA c.part n 0x080)) 6
    let p := c.port n
    let chan : Option Nat := if p.eyeBusy then p.eyeChan else if all then none else p.eyeChan
    let word := fun (r : Nat × Nat × Nat) => BitVec.ofNat 32 (c.pick % 65536 * 65536 + min 63 r.2.2 * 256 + min 63 r.2.1)
    let took := results.filter (fun r => decide (r.1 < 34) && (match chan with | some k => r.1 == k | none => true))
    c.modPort n (fun p =>
      let p1 := { p with eyeBusy := false, lane := took.foldl (fun l r => Tab.put l (128 + r.1) (word r)) p.lane }
      match chan with
      | some k =>
        { p1 with
          eyeLast := k, eyeChan := some ((k + 1) % 34),
          eyeMap := (counts.take 4096).zipIdx.foldl (fun t e => Tab.set t 0 e.2 (min 65535 e.1)) [] }
      | none => p1)

/-- `EYE_START` (R550, R551). -/
def execEyeStart (part : Part) (port value : Nat) (s : State) : Host.Outcome State Fault Refusal := onPort part port s (fun c => c.eyeStart port value)

/-- `EYE_STOP` (R551). -/
def execEyeStop (part : Part) (port : Nat) (s : State) : Host.Outcome State Fault Refusal := onPort part port s (fun c => c.eyeStop port)

/-- `EYE_SCAN_DONE` (R550, R551, R583). -/
def execEyeScanDone (part : Part) (port : Nat) (results : List (Nat × Nat × Nat)) (counts : List Nat) (s : State) : Host.Outcome State Fault Refusal :=
  onPort part port s (fun c => c.eyeDone port results counts)

/-! ### Light (spec/12) -/

/-- `MONITOR_SAMPLE` (R483, R489, R537). -/
def execMonitorSample (part : Part) (port : Nat) (m : MonitorIn) (s : State) : Host.Outcome State Fault Refusal := onPort part port s (fun c => c.monitor port m)

/-- A warm re-raise of a paused port is complete (R537): IDENT is sent; the identity recorded resumes the port, another strikes it. -/
def Common.reraiseDone (c : Common) (n : Nat) (i : Ident) : Common :=
  let p := c.port n
  if p.t.st = .paused ∧ p.t.resume then
    let c1 := c.sendCtrl n (.ident (c.ownIdent n))
    if p.far.bound = some i then c1.resumePort n else c1.strikeOrderly n causeIdentity false
  else c

/-- `WARM_RERAISE_DONE` (R537). -/
def execWarmReraiseDone (part : Part) (port : Nat) (i : Ident) (s : State) : Host.Outcome State Fault Refusal := onPort part port s (fun c => c.reraiseDone port i)

/-- The shutter closes for light, with its flag and its `PE_EVENT` (R498, R499). -/
def Common.lightStrike (c : Common) (n cause : Nat) : Common :=
  let g := engineOf c.part n
  let c1 := (c.peEvent g.1 cause (posOf c.part n).2 g.2).shutterStrike n
  c1.modOptics n (fun o => if cause = 7 then { o with opened := true } else { o with limit := true })

/-- `OPEN_FIBRE` (R499). -/
def execOpenFibre (part : Part) (port : Nat) (s : State) : Host.Outcome State Fault Refusal := onPort part port s (fun c => c.lightStrike port 0x7)

/-- `LAUNCH_LIMIT` (R498). -/
def execLaunchLimit (part : Part) (port : Nat) (s : State) : Host.Outcome State Fault Refusal := onPort part port s (fun c => c.lightStrike port 0x8)

/-- `PROBE_PULSE` (R500). -/
def execProbePulse (part : Part) (port : Nat) (s : State) : Host.Outcome State Fault Refusal := onPort part port s (fun c => c.probePulse port)

/-- `PROBE_SET` (R500). -/
def execProbeSet (part : Part) (port : Nat) (s : State) : Host.Outcome State Fault Refusal := onPort part port s (fun c => c.probeSeen port)

/-- Change what both parts hold, of one part, with no further consequence. -/
def State.modPart (s : State) (part : Part) (f : Common → Common) : State :=
  match part with
  | .sw => { s with sw := { s.sw with c := f s.sw.c } }
  | .ep => { s with ep := { s.ep with c := f s.ep.c } }

/-- The level of LASER_EN. -/
def Common.laserLevel (c : Common) (on : Bool) : Common := { c with opt := { c.opt with laserEn := on } }

/-- `LASER_EN_LOW` (R497). A part in reset ignores the pin until RESET_N is released (R745). -/
def execLaserEnLow (part : Part) (s : State) : Host.Outcome State Fault Refusal :=
  onPart part (s.modPart part (fun c => c.laserLevel false)) (fun c => c.darkCombs true)

/-- `LASER_EN_HIGH` (R470, R497). -/
def execLaserEnHigh (part : Part) (s : State) : Host.Outcome State Fault Refusal :=
  onPart part (s.modPart part (fun c => c.laserLevel true)) (fun c => c.warmCombs)

/-- A warming comb locks at its setpoint (R470): a position's comb is LIT and its ports leave DARK, the spare stands by. -/
def Common.combLocked (c : Common) (k : Nat) : Common :=
  if (c.comb k).st ≠ .warming then c
  else
    match combPlace c.part k with
    | (_, none) => c.modComb k (fun b => { b with st := .standby, locked := true })
    | (g, some pos) =>
      let c1 := c.modComb k (fun b => { b with st := .lit, pos := pos, locked := true })
      each (posPorts c.part g pos) c1 (fun c n =>
        if (c.port n).op.ostate = .dark then c.modOptics n (fun o => { o with ostate := .probe }) else c)

/-- A comb with light: lit or in standby (R472). -/
def Comb.burns (b : Comb) : Bool := b.st == .lit || b.st == .standby

/-- `COMB_LOCKED` (R470). -/
def execCombLocked (part : Part) (comb : Nat) (s : State) : Host.Outcome State Fault Refusal := onComb part comb s (fun c => c.combLocked comb)

/-- `COMB_WARM_TIMEOUT` (Table 12.3). -/
def execCombWarmTimeout (part : Part) (comb : Nat) (s : State) : Host.Outcome State Fault Refusal :=
  onComb part comb s (fun c => if (c.comb comb).st = .warming then c.retireComb comb else c)

/-- `COMB_LOCKER_LOST` (R472). -/
def execCombLockerLost (part : Part) (comb : Nat) (s : State) : Host.Outcome State Fault Refusal :=
  onComb part comb s (fun c => if (c.comb comb).burns then (c.combEvent comb 0x01).retireComb comb else c)

/-- `COMB_OUTPUT_LOW` (R472, R493, R495). -/
def execCombOutputLow (part : Part) (comb : Nat) (s : State) : Host.Outcome State Fault Refusal :=
  onComb part comb s (fun c => if (c.comb comb).burns then c.retireComb comb else c)

/-- `SPARE_LIGHT_ARRIVED` (R469, R491). -/
def execSpareLightArrived (part : Part) (engine : Nat) (s : State) : Host.Outcome State Fault Refusal :=
  if engine < engineCount part then onPart part s (fun c => c.spareArrived engine) else .fault .noUnit

/-- `FEEDFORWARD_SAMPLE` (R477). -/
def execFeedforwardSample (part : Part) (port : Nat) (temp : Int) (s : State) : Host.Outcome State Fault Refusal := onPort part port s (fun c => c.feedForward port temp)

/-- A tracking loop reports loss of lock (R478, R479, R540): on a port in service the ring is parked, its lane asks for a spare, and a lane check starts. -/
def Common.ringLost (c : Common) (n : Nat) (r : RingId) : Common :=
  let st := (c.port n).t.st
  if st = .raised ∨ st = .standby then (c.startCheck n true).parkRing n r 3
  else c.modRing n r (fun g => { g with locked := false })

/-- `RING_LOCK_LOST` (R478, R479, R540). -/
def execRingLockLost (part : Part) (port : Nat) (r : RingId) (s : State) : Host.Outcome State Fault Refusal := onPort part port s (fun c => c.ringLost port r)

/-- `RING_RELOCK` (R481). -/
def execRingRelock (part : Part) (port : Nat) (r : RingId) (s : State) : Host.Outcome State Fault Refusal := onPort part port s (fun c => c.relockRing port r)

/-- `SLIP_RELOCK_TIMEOUT` (R481). -/
def execSlipRelockTimeout (part : Part) (port : Nat) (r : RingId) (s : State) : Host.Outcome State Fault Refusal := onPort part port s (fun c => c.slipLasting port r)

/-- `OPTICAL_REPORT` (R485, R486): the far report of a raised port. -/
def execOpticalReport (part : Part) (port : Nat) (r : OptReport) (s : State) : Host.Outcome State Fault Refusal :=
  onPort part port s (fun c => if (c.port port).inService then c.modOptics port (fun o => { o with farReport := some r }) else c)

/-- `RINGS_LOCKED` (R476, stage 2 of Table 13.8). -/
def execRingsLocked (part : Part) (port : Nat) (r : RingId) (s : State) : Host.Outcome State Fault Refusal := onPort part port s (fun c => c.lockRing port r)

end Sys2Proof.Machine
end

