-- ==== Sys2Proof/Machine/ScrubOps.lean ====
section
/-!
DEFINITION. Scrubs: what leaves a pitch on the switch (Table 16.3, R632, R634), and an end-point that changes pitch (R633, R635, R636).
-/

namespace Sys2Proof.Machine

/-- `PITCH_EVENT`. -/
def Common.pitchEvent (c : Common) (cause pitch : Nat) : Common := c.event 0x900280 (cause * 4096 + pitch % 16 * 256)

/-- `SEC_EVENT` and its counterpart; the end-point names no pitch (Tables 16.12 and 16.14). -/
def Common.secEvent (c : Common) (cause pitch : Nat) : Common :=
  c.event (secEventA c.part) (cause * 4096 + (if c.part = .sw then pitch % 16 * 256 else 0))

/-- Erase the traffic keys of a pitch; the end-point holds those of one (R664, R667). -/
def Common.eraseKeys (c : Common) (pitch : Nat) : Common :=
  { c with sec := { c.sec with keys := c.sec.keys.filter (fun e => e.1 / 2 != pitch) } }

/-- Registers of port n that hold port-scoped counts (Table 16.3): the counters of Table 7.9, `PORT_SK_OVERRUN` and the high-water marks. -/
def portScoped (n a : Nat) : Bool :=
  (a / 0x1000 == 0x100 + n && decide (0x300 ≤ a % 0x1000) && decide (a % 0x1000 < 0x328)) || a == 0x100350 + n * 0x1000 ||
  (a / 0x1000 == 0xA10 + n && hwmReg .sw a)

/-- The port-scoped state of a port is cleared (Table 16.3). -/
def SwState.clearPort (s : SwState) (n : Nat) : SwState :=
  (s.combClear n).mod (fun c => (c.dropRegs (portScoped n)).modEgress n (fun g => { g with ring := [] }))

/-- The tables of a closing pitch are cleared (Table 16.3): retained records of its groups, its selvedge shapers, its keys and enrolled hashes. -/
def SwState.clearTables (s : SwState) (p : Nat) : SwState :=
  let s1 := { s with groups := s.groups.map (fun (e : Nat × GroupRec) => if s.c.groupPitch e.1 = p then (e.1, { e.2 with kept := [] }) else e) }
  s1.mod (fun c =>
    let c1 := (c.eraseKeys p).dropRegs (fun a => decide (0x200000 ≤ a) && decide (a < 0x220000) && a % 0x1000 == 0x3C0 + 4 * p)
    { c1 with sec := { c1.sec with enrol := Tab.del c1.sec.enrol p } })

/-- A scrub begins (R634). Port-scoped state and tables are gone at once, inside their bounds; cores, cache and DRAM are zeroed when the scrub ends. -/
def SwState.beginScrub (s : SwState) (kind : ScrubKind) (unit pitch : Nat) : SwState :=
  let s1 := { s with scrubs := s.scrubs.filter (fun x => !(x.kind == kind && x.unit == unit)) ++ [({ kind := kind, unit := unit, pitch := pitch, start := s.c.pick } : Scrub)] }
  match kind with
  | .core => s1.modBar unit (fun b => { b with scrub := true })
  | .port => s1.clearPort unit
  | .tables => s1.clearTables unit
  | _ => s1

/-- Units of 64 MiB of a DRAM share register. -/
def shareUnits (v : Reg) : List Nat := (List.range (fld v 24 16)).map (fun i => fld v 8 0 + i)

/-- DRAM units of a stack leave a pitch. -/
def SwState.scrubDram (s : SwState) (stack pitch : Nat) (units : List Nat) : SwState :=
  each units s (fun s u => s.beginScrub .dram (stack * 65536 + u) pitch)

/-- A scrub of a unit ends: what it zeroes. -/
def SwState.scrubbed (s : SwState) (x : Scrub) : SwState :=
  match x.kind with
  | .core =>
    (s.modBar x.unit (fun b => { b with ctxs := [], pad := [], lines := [], scrub := false })).mod (fun c => c.pitchEvent 4 x.pitch)
  | .dram => { s with dram := Memory.zero s.dram (x.unit / 65536 * 2 ^ 36 + x.unit % 65536 * 2 ^ 26) (2 ^ 26) }
  | _ => s

/-- The scrubs that satisfy a test end. `PITCH_SCRUB_TIME` takes the time of the last part but DRAM. -/
def SwState.endScrubs (s : SwState) (f : Scrub → Bool) : SwState :=
  let gone := s.scrubs.filter f
  let s1 := each gone { s with scrubs := s.scrubs.filter (fun x => !f x) } (fun s x => s.scrubbed x)
  let own := gone.filter (fun x => x.kind != .dram)
  match own.map (·.start) with
  | [] => s1
  | t :: ts =>
    if s1.scrubs.any (fun x => x.kind != .dram) then s1
    else s1.mod (fun c => c.wr 0x900284 (BitVec.ofNat 32 (min 0xFFFF (c.pick - ts.foldl min t))))

/-- What a row of the opcode table names as a scrubbed unit: 0 a core, 1 a cache share, 2 a DRAM unit (stack × 65,536 + unit), 3 the tables of a pitch, 4 a port. -/
def ScrubKind.code : ScrubKind → Nat
  | .core => 0
  | .cache => 1
  | .dram => 2
  | .tables => 3
  | .port => 4

/-- A pitch closes: it scrubs everything it owns, and stays their owner (R632, R634, R629). -/
def SwState.closePitch (s : SwState) (p : Nat) : SwState :=
  let s1 := ({ s with pitches := Tab.put s.pitches p .scrubbing }).mod (fun c => c.pitchEvent 2 p)
  let s2 := each ((List.range 64).filter (fun k => s.c.corePitch k == some p)) s1 (fun s k => s.beginScrub .core k p)
  let s3 := if s.c.cacheShare p = 0 then s2 else s2.beginScrub .cache p p
  let s4 := (s3.scrubDram 0 p (shareUnits (s.c.rd (0x900008 + p * 0x20)))).scrubDram 1 p (shareUnits (s.c.rd (0x90000C + p * 0x20)))
  s4.beginScrub .tables p p

/-- At a boundary, a scrubbing pitch with nothing left to scrub becomes FREE (R632). -/
def SwState.pitchBoundary (s : SwState) : SwState :=
  each ((s.pitches.filter (fun e => e.2 == .scrubbing && s.scrubs.all (fun x => x.pitch != e.1))).map (·.1)) s (fun s p =>
    let s1 := { s with pitches := Tab.put s.pitches p .free }
    let a := 0x900000 + p * 0x20
    let s2 := each ((List.range 64).filter (fun k => s.c.corePitch k == some p)) s1 (fun s k => s.mod (fun c => c.wrF (0x600004 + k * 0x1000) 0 0 0))
    s2.mod (fun c => (((c.wr (a + 0x08) 0).wr (a + 0x0C) 0).wr (a + 0x10) 0).pitchEvent 3 p))

/-! ### The end-point -/

/-- Registers that an end-point scrub clears (R635). -/
def epScrubs (a : Nat) : Bool :=
  (decide (0x34000 ≤ a) && decide (a < 0x38000)) || (decide (0x42100 ≤ a) && decide (a < 0x42300)) ||
  (decide (0x1000000 ≤ a) && decide (a < 0x10C4000)) ||
  (decide (0x30000 ≤ a) && decide (a < 0x30200) && a % 0x20 != 0x18) ||
  a == 0x70018 || a == 0x7001C || (decide (0x62000 ≤ a) && decide (a < 0x62400)) || (decide (0x81004 ≤ a) && decide (a < 0x81400))

/-- A staked flow of the flow table. -/
def stakedFlowReg (a : Nat) (v : Reg) : Bool := decide (0x98000 ≤ a) && decide (a < 0xA0000) && decide (fld v 2 1 < 2)

/-- What an end-point scrub leaves of the end-point (R635, R636). -/
def EpState.scrubAll (s : EpState) : EpState :=
  let s1 := s.mod (fun c =>
    let c1 := (c.dropRegs epScrubs).dropRegs (fun a => stakedFlowReg a (c.rd a))
    { c1 with
      ports := c1.ports.map (fun e => (e.1, { e.2 with eg := { e.2.eg with ring := [] } })),
      sec := { c1.sec with keys := [] } })
  let s2 := { s1 with rlc := [], meas := [], src := { s1.src with flows := s1.src.flows.map (fun (e : Nat × FlowState) => (e.1, { e.2 with budget := 0 })) } }
  let s3 := { s2 with xlt := { s2.xlt with micro := [], shared := [], tables := [], pins := [], streams := [], ahead := [] } }
  ({ s3 with home := { s3.home with recs := [], senders := [] } } : EpState).dropFlows

/-- `EP_PITCH` as a staged set changes it: a new ID waits for the scrub, after steps 1 to 5 of R255 where the end-point is not quiesced (R633). The write invalidates every line of the remote-line cache (Table 4.4). -/
def EpState.setPitch (s0 : EpState) (v : Reg) : EpState :=
  let s := s0.rlcDrop (fun _ => true)
  if fld v 3 0 = s.c.rf' 0xF0000 3 0 then s.mod (fun c => c.wr 0xF0000 v)
  else
    let s1 := s.mod (fun c => { c with sec := { c.sec with scrubTo := some v.toNat } })
    if s.lha.quiesced then s1.mod (fun c => { c with sec := { c.sec with scrubOn := true } })
    else s1.beginQuiesce (s.lha.quiescing && s.lha.owesDone)

/-- A port that has exchanged identities says who it is now (R527, R535). -/
def Common.sayIdent (c : Common) : Common :=
  each (c.listed.filter (fun n => (c.port n).t.st == .raised || (c.port n).t.st == .standby)) c (fun c n => c.sendCtrl n (.ident (c.ownIdent n)))

/-- The scrub of an end-point ends, and it takes the new pitch (R633). -/
def EpState.scrubDone (s : EpState) : EpState :=
  match s.c.sec.scrubTo with
  | some v =>
    if !s.c.sec.scrubOn then s
    else s.scrubAll.mod (fun c => (({ c with sec := { c.sec with scrubTo := none, scrubOn := false } }).wr 0xF0000 (BitVec.ofNat 32 v)).sayIdent)
  | none => s

/-! ### Meanings -/

/-- `PITCH_SCRUB_DONE` (R632): every scrub of a closing pitch has ended; the pitch is FREE from the next boundary. -/
def execPitchScrubDone (pitch : Nat) (s : State) : Host.Outcome State Fault Refusal :=
  onSwIf (decide (pitch < 16)) s (fun s => if Tab.get s.pitches .free pitch = .scrubbing then s.endScrubs (fun x => x.pitch == pitch) else s)

/-- `RESOURCE_SCRUB_DONE` (R634): the scrub of one unit ends. -/
def execResourceScrubDone (kind unit : Nat) (s : State) : Host.Outcome State Fault Refusal :=
  onSwIf (decide (kind < 5)) s (fun s => s.endScrubs (fun x => x.kind.code == kind && x.unit == unit))

/-- `EP_SCRUB_DONE` (R633). -/
def execEpScrubDone (s : State) : Host.Outcome State Fault Refusal := onEp s (fun s => s.scrubDone)

end Sys2Proof.Machine
end

