-- ==== Sys2Proof/Machine/RegWrite.lean ====
section
/-!
DEFINITION. What a write of a register does (R16 to R18, R705 to R720, R723): how its fields merge, what is posted or ignored, and the action that each register takes when its value changes, whether software wrote it or a staged set committed it.
Reading a register with its HI capture (R118, R713).
-/

namespace Sys2Proof.Machine

/-- What became of a write (R686, R714, R719, R720). -/
inductive Wrote where
  | taken
  | stagedOnly
  | busy
  | readOnly
  | hole
  deriving DecidableEq, Repr

/-- Detail of REG_IGNORED; 0 for a write that took effect (Table 17.4, R686). -/
def Wrote.detail : Wrote → Nat
  | .taken => 0
  | .stagedOnly => 1
  | .busy => 2
  | .readOnly => 3
  | .hole => 3

/-- How a write of a register will act. -/
inductive WritePlan where
  | ignore (w : Wrote)
  | clearEvent
  | post (v : Nat)
  /-- RW fields take their bits of `v`; WO fields act on `wo`; `carried` are the bits that the write names: all through the normal view, those written as 1 through another. -/
  | store (v wo carried : Nat)
  deriving DecidableEq, Repr

/-! ### Slow domains (R502, R714) -/

/-- Block of a WP register: its page, or the DRAM configuration. -/
def slowBlock (row : RegRow) (a : Nat) : Nat := if row.slow = .dram then 0x800000 else a / 0x1000 * 0x1000

/-- Drop counter of a slow block (Table 18.2). -/
def dropCounter (row : RegRow) (a : Nat) : Nat :=
  match row.slow with
  | .photonic => slowBlock row a + 0x034
  | .comb => slowBlock row a + 0x024
  | _ => 0x80000C

/-- The value that a WP register accepted last (Table 0.4). -/
def Common.accepted (c : Common) (a : Nat) : Reg :=
  match (c.rf.posted.filter (fun w => w.addr == a)).getLast? with
  | some w => w.value
  | none => c.rd a

/-- `COMB_CTRL` of a comb (Table 12.16). -/
def combCtrlOf (p : Part) (a : Nat) : Option Nat :=
  if combA p 0 0 ≤ a ∧ a < combA p (combCount p) 0 ∧ a % 0x1000 = 4 then some ((a - combA p 0 0) / 0x1000) else none

/-- A write to `COMB_CTRL` of a comb that is LIT is ignored (Table 12.16). -/
def Common.combLocks (c : Common) (a : Nat) : Bool := match combCtrlOf c.part a with | some k => (c.comb k).st == .lit | none => false

/-- Post a write into its slow domain. -/
def Common.post (c : Common) (row : RegRow) (a v : Nat) : Common :=
  let r := (c.accepted a).toNat
  { c with rf := { c.rf with posted := c.rf.posted ++ [{ block := slowBlock row a, addr := a, value := w32 ((r &&& (2 ^ 32 - 1 - row.wp)) ||| (v &&& row.wp)) }] } }

/-- The oldest posted write of a block takes effect, and BUSY clears with the last (R714). -/
def Common.wpComplete (c : Common) (block : Nat) : Common :=
  match c.rf.posted.find? (fun w => w.block == block) with
  | none => c
  | some w =>
    let c1 := ({ c with rf := { c.rf with posted := c.rf.posted.erase w } }).wr w.addr w.value
    match combCtrlOf c.part w.addr with
    | some k => if flag w.value 0 then c1.warmComb k else c1
    | none => c1

/-! ### Merging (R16 to R18, R706, R716) -/

/-- Bits that a write leaves in the RW fields of a register (R9, R11). -/
def mergeBits (view : View) (rw old v : Nat) : Nat :=
  let m := v &&& rw
  match view with
  | .normal => m
  | .setBits => (old &&& rw) ||| m
  | .clearBits => (old &&& rw) &&& (2 ^ 32 - 1 - m)
  | .toggle => (old &&& rw) ^^^ m

/-- `THERM_HWM`: a write of any value clears it (R623). -/
def isHeatMark (p : Part) (a : Nat) : Bool := a == pwrA p 0x048

/-- How a write acts (R706, R716, R719, Table 0.4). `shown`: what a read of the register returns. -/
def Common.plan (c : Common) (row : RegRow) (a : Nat) (view : View) (shown : Reg) (v : Nat) : WritePlan :=
  if row.staged = .always ∨ (row.staged = .admitted ∧ c.admitted) then .ignore .stagedOnly
  else if row.re then
    let held := fld (c.rd a) 31 16
    if view = .normal ∧ held ≠ 0 ∧ bits v 31 16 = held then .clearEvent else .ignore .readOnly
  else if row.wp ≠ 0 then
    if view ≠ .normal ∨ c.combLocks a then .ignore .readOnly
    else if c.blockBusy (slowBlock row a) then .ignore .busy
    else .post v
  else if isHeatMark c.part a ∧ view = .normal then .store 0 v (2 ^ 32 - 1)
  else if row.rw = 0 ∧ (row.wo = 0 ∨ view ≠ .normal) then .ignore .readOnly
  else .store (mergeBits view row.rw shown.toNat v) (if view = .normal then v &&& row.wo else 0) (if view = .normal then 2 ^ 32 - 1 else v)

/-- Put the RW bits of a register in place. -/
def Common.setRw (c : Common) (staged : Bool) (row : RegRow) (a v : Nat) : Common :=
  if row.rw = 0 then c
  else c.swStore (row.edge && !staged) a (w32 (((c.rd a).toNat &&& (2 ^ 32 - 1 - row.rw)) ||| (v &&& row.rw)))

/-! ### `ID_CNT_CLEAR` (R723) -/

/-- Clear the saturating fields of the registers that satisfy a test. -/
def Common.clearSat (c : Common) (f : Nat → Bool) : Common :=
  each (c.rf.cur.filter (fun e => f e.1)) c (fun c e =>
    match regAt c.part e.1 with
    | some (row, _) => each row.sat c (fun c x => c.wrF e.1 x.1 x.2 0)
    | none => c)

/-- Clear the counts of a port that do not stand in the register file: code errors and eye differences. -/
def Common.clearPortCounts (c : Common) (n : Nat) : Common :=
  c.modPort n (fun p => { p with lane := p.lane.filter (fun e => decide (64 ≤ e.1)), eyeMap := [] })

/-- The base of the page that an address names. -/
def pageOf (p : Part) (a : Nat) : Nat :=
  match (match p with | .sw => swPage a | .ep => epPage a) with
  | some h => h.base
  | none => a

/-- Clear every saturating count of a page, or of every page. -/
def Common.clearCounts (c : Common) (v : Nat) : Common :=
  let all := bit v 0
  let page := pageOf c.part (v / 0x1000 * 0x1000)
  let hit := fun (b : Nat) => all || page == b
  let c1 := c.clearSat (fun a => all || a / 0x1000 * 0x1000 == page)
  let c2 := each (c1.listed.filter (fun n => hit (linkA c.part n 0))) c1 (fun c n => c.clearPortCounts n)
  let c3 := if c.part = .sw ∧ hit 0x10000 then c2.modTime (fun t => { t with holdBase := t.holdPicks / 1000 }) else c2
  if c.part = .ep ∧ hit 0xF0000 then
    { c3 with sec := { c3.sec with ageBase := match Tab.find c.sec.phaseAt 0 with | some t => (c.pick - t) / 1024 | none => 0 } }
  else c3

/-! ### Actions of both parts -/

/-- `PORT_LINK_CMD` (Table 13.14): CLR_LANE, CHECK, STRIKE with COLD, RAISE, in this order. -/
def Common.linkCmd (c : Common) (n v : Nat) : Common :=
  let c1 := if bit v 4 then c.clrLane n else c
  let c2 := if bit v 3 then c1.startCheck n true else c1
  let c3 := if bit v 1 then c2.strikeOrderly n causeCommand (bit v 2) else c2
  if bit v 0 then c3.cmdRaise n else c3

/-- `PORT_EYE_CMD` (R551). -/
def Common.eyeCmd (c : Common) (n v : Nat) : Common :=
  let c1 := c.eyeStart n v
  if bit v 1 then c1.eyeStop n else c1

/-- `TEL_HWM_CLR` (R339). -/
def Common.hwmClr (c : Common) (n v : Nat) : Common :=
  each ((List.range 11).filter (fun q => bit v q)) c (fun c q => c.wr (telA c.part n (0x040 + 4 * q)) 0)

/-- The newest sample of a ring stays where a write of `TEL_SEL` found it (Table 8.18). -/
def Common.keepNewest (c : Common) (n : Nat) (old : Reg) : Common :=
  if flag old 4 then c
  else ((c.modPort n (fun p => p)).wr (telA c.part n 0x004) (w32 c.pick)).wr (telA c.part n 0x008) (w32 (c.pick / 2 ^ 32))

/-- Ports in quarantine are checked again after a change of the plan (R534). -/
def Common.recheckAll (c : Common) : Common := each c.listed c (fun c n => c.recheck n)

/-- What a changed register of both parts brings about. `old`: the value before; `wo`: bits written to WO fields. -/
def Common.acted (c : Common) (a : Nat) (old : Reg) (wo : Nat) : Common :=
  if a = 0x28 then c.clearCounts wo
  else if isHeatMark c.part a then c.wr a 0
  else
    match linkPlace c.part a, telPlace c.part a with
    | some (n, off), _ =>
      if off = 0x00C then c.linkCmd n wo
      else if off = 0x084 then c.eyeCmd n wo
      else if off = 0x040 ∨ off = 0x044 ∨ off = 0x048 then c.recheck n
      else c
    | none, some (n, off) => if off = 0x000 then c.keepNewest n old else if off = 0x00C then c.hwmClr n wo else c
    | none, none => if a = secEventA c.part then c else c

/-! ### Actions of the switch -/

/-- A membership notice to the end-point of a port (R573, Table 17.6). -/
def noticePacket (dst pitch epoch : Nat) (fenced : Bool) : Packet :=
  mgmtPacket 0 dst pitch 1 (zBytes 2 0x0303 0 0 0 (beBytes epoch 4 ++ beBytes (b2n fenced) 1 ++ List.replicate 3 0))

/-- Membership notices on every domain port that is RAISED or STANDBY (R573). -/
def SwState.tellMembers (s : SwState) : SwState :=
  let epoch := (s.c.rd 0xA00040).toNat
  let ports := s.c.listed.filter (fun n => decide (n < 256) && ((s.c.port n).t.st == .raised || (s.c.port n).t.st == .standby))
  each ports s (fun s n =>
    match s.c.nodeAt n with
    | some i => s.originate n (noticePacket i (s.c.portPitch n) epoch (s.c.fenced i))
    | none => s.originate n (noticePacket 0 (s.c.portPitch n) epoch false))

/-- Nodes newly fenced: nothing waits toward their ports any more, and their collectives fail (R572, R380). A changed epoch is announced. -/
def SwState.membChanged (s : SwState) (before : Common) : SwState :=
  let fresh := (List.range 256).filter (fun i => s.c.fenced i && !before.fenced i)
  let s1 := each fresh s (fun s i => (match s.c.aliasOf i with | some o => s.purge o | none => s).memberFault i)
  if s.c.rd 0xA00040 = before.rd 0xA00040 then s1 else s1.tellMembers

/-- A group's members change, or the group comes to exist: its sequences start again at 0 and its records go (R349, R350). -/
def SwState.newGroup (s : SwState) (a : Nat) (old : Reg) : SwState :=
  let now := s.c.rd a
  if (16 ≤ a % 0x40 ∧ now ≠ old) ∨ (a % 0x40 = 0 ∧ flag now 0 ∧ !flag old 0) then { s with groups := Tab.del s.groups ((a - 0x740000) / 0x40) } else s

/-- `BAR_PITCH` changes: a core that leaves a pitch is scrubbed (R426, R634). -/
def SwState.coreMoved (s : SwState) (k : Nat) (old : Reg) : SwState :=
  let now := s.c.corePitch k
  if flag old 0 ∧ now ≠ some (fld old 7 4) then s.beginScrub .core k (fld old 7 4) else s

/-- `PITCH_CTRL_p` changes (R630, R632, Table 16.12). -/
def SwState.pitchSet (s : SwState) (p : Nat) (old : Reg) : SwState :=
  let now := s.c.rd (0x900000 + p * 0x20)
  if flag now 0 ∧ !flag old 0 then ({ s with pitches := Tab.put s.pitches p .active }).mod (fun c => c.pitchEvent 1 p)
  else if !flag now 0 ∧ flag old 0 then s.closePitch p
  else s

/-- Ports whose pitch an entry of `PITCH_PORT_MAP_j` changes are scrubbed, each under the pitch it leaves (Table 16.3). -/
def SwState.portsMoved (s : SwState) (j : Nat) (old : Reg) : SwState :=
  let now := s.c.rd (0x900200 + 4 * j)
  each ((List.range 8).filter (fun i => fld old (4 * i + 3) (4 * i) != fld now (4 * i + 3) (4 * i))) s (fun s i =>
    (s.beginScrub .port (8 * j + i) (fld old (4 * i + 3) (4 * i))).mod (fun c => c.pitchEvent 5 (fld now (4 * i + 3) (4 * i))))

/-- A smaller share: what it no longer holds is scrubbed (Table 16.3). -/
def SwState.shareSet (s : SwState) (p off : Nat) (old : Reg) : SwState :=
  let now := s.c.rd (0x900000 + p * 0x20 + off)
  if off = 0x08 ∨ off = 0x0C then s.scrubDram ((off - 0x08) / 4) p ((shareUnits old).filter (fun u => !(shareUnits now).contains u))
  else if off = 0x10 ∧ fld now 10 0 < fld old 10 0 then s.beginScrub .cache p p
  else s

/-- The active phase of pitches changes (R664). -/
def Common.phasesSet (c : Common) (old : Reg) : Common :=
  each ((List.range 16).filter (fun p => flag (c.rd 0x80008) p != flag old p)) c (fun c p =>
    ({ c with sec := { c.sec with phaseAt := Tab.put c.sec.phaseAt p c.pick } }).secEvent 7 p)

/-- What a changed register of the switch brings about. -/
def SwState.acted (s : SwState) (a : Nat) (old : Reg) (wo : Nat) : SwState :=
  let s1 := s.mod (fun c => c.acted a old wo)
  if a = 0x503000 then s1.mod (fun c => c.recheckAll)
  else if a = 0x502000 then (if flag (s1.c.rd a) 0 ∧ flag old 0 then s1 else s1.combEnable)
  else if a = 0x80008 then s1.mod (fun c => c.phasesSet old)
  else if 0x740000 ≤ a ∧ a < 0x750000 then s1.newGroup a old
  else if 0x600000 ≤ a ∧ a < 0x640000 ∧ a % 0x1000 = 4 then s1.coreMoved ((a - 0x600000) / 0x1000) old
  else if 0x900200 ≤ a ∧ a < 0x900280 then s1.portsMoved ((a - 0x900200) / 4) old
  else if 0x900000 ≤ a ∧ a < 0x900200 then
    (if a % 0x20 = 0 then s1.pitchSet ((a - 0x900000) / 0x20) old else s1.shareSet ((a - 0x900000) / 0x20) (a % 0x20) old)
  else s1

/-- Carry out a write of the switch as planned. -/
def SwState.carry (s : SwState) (row : RegRow) (a : Nat) : WritePlan → Wrote × SwState
  | .ignore .busy => (.busy, s.mod (fun c => c.bump (dropCounter row a)))
  | .ignore w => (w, s)
  | .clearEvent => (.taken, s.mod (fun c => c.wr a 0))
  | .post v => (.taken, s.mod (fun c => c.post row a v))
  | .store v wo _ => (.taken, (s.mod (fun c => c.setRw false row a v)).acted a (s.reg a) wo)

/-- A write of a register of the switch by software (R16, R705 to R720). -/
def SwState.write (s : SwState) (a0 v : Nat) : Wrote × SwState :=
  match decodeAddr .sw a0 with
  | .hole => (.hole, s.mod (fun c => c.bumpLo 0x24))
  | .reg a view =>
    match regAt .sw a with
    | none => (.hole, s)
    | some (row, _) => s.carry row a (s.c.plan row a view (s.reg a) (v % 2 ^ 32))

/-! ### Actions of the end-point -/

/-- `EP_CE_CTRL` (Tables 5.5 and 5.18): EN, then RESUME, then ABORT. The exits of Table 5.5 are taken on the value that is written. -/
def EpState.ceCtrl (s : EpState) (e : Nat) (wo : Nat) : EpState :=
  let s1 := if s.c.rf' (ceA e 0) 0 0 = 1 then s.ceEnable e else s.ceDisable e
  let s2 := if bit wo 1 then s1.ceResume e else s1
  if bit wo 2 then s2.ceAbort e else s2

/-- The engine whose registers lie at an address, and the offset (R726). -/
def cePlace (a : Nat) : Option (Nat × Nat) :=
  if 0x50000 ≤ a ∧ a < 0x60000 then some ((a - 0x50000) / 0x1000, a % 0x1000)
  else if 0x10000 ≤ a ∧ a < 0x20000 then some (16 + (a - 0x10000) / 0x1000, a % 0x1000)
  else none

/-- `EP_LHA_CTRL` (Table 6.13): SERVE written 1 ends QUIESCED; a trained module that may now attach gets its `OFFER` (R252, R255). -/
def EpState.lhaCtrl (s : EpState) (old : Reg) : EpState :=
  let now := s.c.rd 0x80000
  let s1 := if flag now 0 then s.modLha (fun l => { l with quiesced := false }) else s
  each ((List.range 4).filter (fun m => flag now (4 + m) && !flag old (4 + m) && s.lha.trained.contains m && !s.lha.attached.contains m)) s1 (fun s m => s.sendOffer m)

/-- `EP_CTR_WAIT_CTRL_w` (R120): ARM written 1 clears FIRED. -/
def EpState.waitCtrl (s : EpState) (a : Nat) : EpState :=
  let s1 := if flag (s.c.rd a) 0 then s.mod (fun c => c.wrF a 1 1 0) else s
  s1.checkSlots (s1.c.rf' a 31 16)

/-- `EP_MEAS_SLOT_CTRL_m` (R223, Table 5.21): OPEN written 1 resets the slot; CLOSE freezes it; ENGINE alone is stored. One write of both opens the slot and then closes it (DESIGN CHOICE, notes/assumptions/80.md). -/
def EpState.measCtrl (s : EpState) (m : Nat) (wo : Nat) : EpState :=
  let v := (s.c.rd (0x71000 + m * 0x40)).toNat
  let x := Tab.get s.meas {} m
  let s1 :=
    if bit wo 0 ∨ (bit v 0 ∧ !x.opened) then s.measOpen m v
    else { s with meas := Tab.upd s.meas {} m (fun x => { x with engine := bits v 12 8, opened := x.opened && bit v 0 }) }
  if bit wo 1 then s1.measClose m else s1

/-- The active phase of the end-point changes (R663, R664). -/
def Common.phaseSet (c : Common) : Common :=
  ({ c with sec := { c.sec with phaseAt := Tab.put c.sec.phaseAt 0 c.pick, ageBase := 0, encHigh := 0, encHold := false } }).secEvent 7 0

/-- `EP_PWR_ALERT_IN` (R610). -/
def Common.alertIn (c : Common) (on : Bool) : Common := if on then (if c.pwr.alert then c else c.alertOn) else (if c.pwr.alert then c.alertOff else c)

/-- What a write of a register of the end-point brings about. `carried`: the bits that the write names. -/
def EpState.acted (s : EpState) (a : Nat) (old : Reg) (wo carried : Nat) : EpState :=
  let s1 := s.mod (fun c => c.acted a old wo)
  let now := s1.c.rd a
  match cePlace a with
  | some (e, off) => if off = 0x00 then s1.ceCtrl e wo else if off = 0x18 then s1.ceDoorbell e wo else s1
  | none =>
    if a = 0x42000 then (if flag now 0 then s1 else s1.rlcDisable)
    else if a = 0x42004 then s1.rlcInval wo
    else if 0x42100 ≤ a ∧ a < 0x42300 then s1.writeAdvice ((a - 0x42100) / 4) now.toNat carried
    else if 0x34000 ≤ a ∧ a < 0x38000 then s1.writeKey a now.toNat
    else if a = 0x6002C then s1.xqDoorbell wo
    else if a = 0xA0018 then s1.collDoorbell wo
    else if 0x71000 ≤ a ∧ a < 0x71400 ∧ a % 0x40 = 0 then s1.measCtrl ((a - 0x71000) / 0x40) wo
    else if a = 0x80000 then s1.lhaCtrl old
    else if 0x1000000 ≤ a ∧ a < 0x1080000 then s1.checkSlots ((a - 0x1000000) / 8)
    else if 0x10C0000 ≤ a ∧ a < 0x10C4000 then (if a % 16 = 0 then s1.waitCtrl a else s1.checkSlots (s1.c.rf' (a / 16 * 16) 31 16))
    else if 0x1100000 ≤ a ∧ a < 0x1140000 then s1.subCounter ((a - 0x1100000) / 4) wo
    else if a = 0xE0030 then s1.mod (fun c => c.alertIn (flag now 0))
    else if a = 0xC8000 then s1.mod (fun c => c.sayIdent)
    else if a = 0xF0008 ∧ flag now 0 ≠ flag old 0 then s1.mod (fun c => c.phaseSet)
    else s1

/-- Carry out a write of the end-point as planned. -/
def EpState.carry (s : EpState) (row : RegRow) (a : Nat) : WritePlan → Wrote × EpState
  | .ignore .busy => (.busy, s.mod (fun c => c.bump (dropCounter row a)))
  | .ignore w => (w, s)
  | .clearEvent => (.taken, s.mod (fun c => c.wr a 0))
  | .post v => (.taken, s.mod (fun c => c.post row a v))
  | .store v wo carried => (.taken, (s.mod (fun c => c.setRw false row a v)).acted a (s.reg a) wo carried)

/-- A write of a register of the end-point by software. `EP_LHA_STEER` ignores writes while SERVE is 1 (R254). -/
def EpState.write (s : EpState) (a0 v : Nat) : Wrote × EpState :=
  match decodeAddr .ep a0 with
  | .hole => (.hole, s.mod (fun c => c.bumpLo 0x24))
  | .reg a view =>
    match regAt .ep a with
    | none => (.hole, s)
    | some (row, _) =>
      if a = 0x8000C ∧ flag (s.c.rd 0x80000) 0 then (.readOnly, s)
      else s.carry row a (s.c.plan row a view (s.reg a) (v % 2 ^ 32))

/-! ### Reading (R118, R707, R709, R713) -/

/-- The HI word of a LO word that captures (R118). -/
def hiOf (p : Part) (a : Nat) : Option Nat :=
  match p with
  | .sw => if a = 0x10000 then some 0x10004 else none
  | .ep =>
    if a = 0x90000 ∨ a = 0x70018 then some (a + 4)
    else if 0x1000000 ≤ a ∧ a < 0x1080000 ∧ a % 8 = 0 then some (a + 4)
    else none

/-- Read one word for a requester: a LO word captures its HI word, and the next read of that HI word takes what was captured. -/
def Common.readWord (c : Common) (get : Nat → Reg) (who : Requester) (a0 : Nat) : Reg × Common :=
  match decodeAddr c.part a0 with
  | .hole => (0, c.bumpLo 0x24)
  | .reg a _ =>
    let mine := fun (x : Capture) (b : Nat) => x.who == who && x.addr == b
    match hiOf c.part a with
    | some h => (get a, { c with rf := { c.rf with captures := c.rf.captures.filter (fun x => !mine x h) ++ [{ who := who, addr := h, value := get h }] } })
    | none =>
      match c.rf.captures.find? (fun x => mine x a) with
      | some x => (x.value, { c with rf := { c.rf with captures := c.rf.captures.filter (fun x => !mine x a) } })
      | none => (get a, c)

/-- The same of a WP register, which returns the value accepted last (Table 0.4). -/
def Common.shown (c : Common) (get : Nat → Reg) (a : Nat) : Reg :=
  match regAt c.part a with
  | some (row, _) => if row.wp ≠ 0 then (c.accepted a &&& w32 row.wp) ||| (get a &&& w32 (2 ^ 32 - 1 - row.wp)) else get a
  | none => 0

/-- A read of the switch. -/
def SwState.read (s : SwState) (who : Requester) (a : Nat) : Reg × SwState :=
  let r := s.c.readWord (fun b => s.c.shown s.reg b) who a
  (r.1, { s with c := r.2 })

/-- A read of the end-point. -/
def EpState.read (s : EpState) (who : Requester) (a : Nat) : Reg × EpState :=
  let r := s.c.readWord (fun b => s.c.shown s.reg b) who a
  (r.1, { s with c := r.2 })

end Sys2Proof.Machine
end

