-- ==== Sys2Proof/Machine/Staging.lean ====
section
/-!
DEFINITION. Staged sets and membership changes (R571 to R577, R687 to R693, R763): the registers as they will stand, the conflicts of Table 17.8, and commits.
-/

namespace Sys2Proof.Machine

/-! ### Registers as they will stand -/

/-- A staged value: (old AND NOT MASK) OR (VALUE AND MASK) (R688). -/
def StageEntry.put (e : StageEntry) (old : Nat) : Nat := (old &&& (2 ^ 32 - 1 - e.mask % 2 ^ 32)) ||| (e.value &&& e.mask)

/-- The register file with the posted writes in place. -/
def Common.flat (c : Common) : Common := { (each c.rf.posted c (fun c w => c.wr w.addr w.value)) with rf := { (each c.rf.posted c (fun c w => c.wr w.addr w.value)).rf with posted := [] } }

/-- One entry laid over the registers. -/
def Common.layEntry (c : Common) (e : StageEntry) : Common :=
  match regAt c.part e.addr with
  | none => c
  | some (row, _) =>
    let m := row.rw ||| row.wp
    let old := (c.rd e.addr).toNat
    if m = 0 then c else c.wr e.addr (BitVec.ofNat 32 ((old &&& (2 ^ 32 - 1 - m)) ||| (e.put old &&& m)))

/-- A membership change laid over the registers (R576, R763). -/
def Common.layMemb (c : Common) (m : MembChange) : Common :=
  let c1 := c.wr 0xA00040 (BitVec.ofNat 32 m.epoch)
  match m.move with
  | none => each (List.range 8) c1 (fun c j => c.wr (0xA00044 + 4 * j) (BitVec.ofNat 32 (m.fenced / 2 ^ (32 * j))))
  | some (node, port, pitch) =>
    ((c1.wrF (0xA00044 + node / 32 * 4) (node % 32) (node % 32) 0).wr (0x504000 + node * 4) (BitVec.ofNat 32 (2 ^ 31 + port % 256))).wrF
      (0x900200 + port / 8 * 4) (4 * (port % 8) + 3) (4 * (port % 8)) pitch

/-- Reservations that a change at a pick lowers or removes (R318). -/
def lowered (before after : Common) (pick : Nat) : List OldResv :=
  before.reservations.filterMap (fun (r : Nat × Reg × Reg) =>
    match after.reservations.find? (fun x => x.1 == r.1) with
    | some x =>
      if fld x.2.1 23 8 = fld r.2.1 23 8 ∧ fld r.2.2 12 0 ≤ fld x.2.2 12 0 ∧ fld r.2.2 28 16 ≤ fld x.2.2 28 16 then none
      else some { index := r.1, a := r.2.1, b := r.2.2, until_ := pick + 8 }
    | none => some { index := r.1, a := r.2.1, b := r.2.2, until_ := pick + 8 })

/-- Keep the old values of the reservations that a change lowers. -/
def Common.keepOld (after before : Common) (pick : Nat) : Common :=
  { after with stage := { after.stage with oldResv := after.stage.oldResv.filter (fun o => decide (pick < o.until_)) ++ lowered before after pick } }

/-- A scheduled change: its pick, its place among the changes of one pick (membership changes first, then sets by number), and itself. -/
structure Change where
  pick : Nat
  place : Nat
  memb : Option MembChange := none
  entries : List StageEntry := []
  deriving DecidableEq, Repr

/-- Put a change into a list in order of pick and place. -/
def Change.insert (x : Change) : List Change → List Change
  | [] => [x]
  | y :: r => if x.pick < y.pick ∨ (x.pick = y.pick ∧ x.place < y.place) then x :: y :: r else y :: Change.insert x r

/-- Changes scheduled at or before a pick, in the order in which they commit, without one set. -/
def Common.changesTo (c : Common) (pick : Nat) (without : Nat) : List Change :=
  let sets := c.stage.sets.filterMap (fun (e : Nat × StagedSet) =>
    if e.2.st = .scheduled ∧ e.1 ≠ without ∧ e.2.pick ≤ pick then some ({ pick := e.2.pick, place := e.1 + 1, entries := e.2.entries } : Change) else none)
  let membs := (c.stage.memb.filter (fun m => decide (m.pick ≤ pick))).map (fun (m : MembChange) => ({ pick := m.pick, place := 0, memb := some m } : Change))
  (membs ++ sets).foldl (fun l x => Change.insert x l) []

/-- A change laid over the registers. -/
def Common.layChange (c : Common) (x : Change) : Common :=
  let after := match x.memb with | some m => c.layMemb m | none => each x.entries c (fun c e => c.layEntry e)
  after.keepOld c x.pick

/-- The registers as they will stand at a pick, without one set (R689). -/
def Common.asOf (c : Common) (pick without : Nat) : Common := each (c.changesTo pick without) c.flat (fun c x => c.layChange x)

/-! ### Conflicts (R689, Table 17.8) -/

/-- An entry of a conflict list. -/
structure Conflict where
  code : Nat
  index : Nat
  addr : Nat
  value : Nat
  deriving DecidableEq, Repr

/-- What a check looks at: the addresses that the set writes, the registers before and after it, its commit pick. -/
structure Checking where
  w : List Nat
  b : Common
  h : Common
  pick : Nat
  deriving DecidableEq, Repr

/-- A conflict among registers, of which the set writes at least one: its ADDRESS is the lowest of those. -/
def Checking.found (k : Checking) (code index value : Nat) (among : List Nat) : List Conflict :=
  match lowest (among.filter (fun a => k.w.contains a)) with
  | some a => [{ code := code, index := index, addr := a, value := value }]
  | none => []

/-- A register of the set has changed. -/
def Checking.moved (k : Checking) (a : Nat) : Bool := k.b.rd a != k.h.rd a

/-- Alias entry of a node. -/
def aliasA (i : Nat) : Nat := 0x504000 + 4 * i
/-- Pitch entry of a domain port. -/
def portMapA (n : Nat) : Nat := 0x900200 + n / 8 * 4
/-- `CAL_RESV_A_r`. -/
def resvA (r : Nat) : Nat := 0x510000 + r / 128 * 0x1000 + r % 128 * 8

/-- Indices of an array whose addresses the set writes. -/
def Checking.touched (k : Checking) (base stride n : Nat) : List Nat :=
  (k.w.filterMap (fun a => if base ≤ a ∧ a < base + stride * n then some ((a - base) / stride) else none)).eraseDups

/-- ALIAS_DUP (R23). -/
def Checking.aliasDup (k : Checking) : List Conflict :=
  let ports := ((k.touched 0x504000 4 256).filterMap (fun i => k.h.aliasOf i)).eraseDups
  ports.flatMap (fun n =>
    let nodes := (List.range 256).filter (fun i => k.h.aliasOf i == some n)
    if nodes.length < 2 then [] else k.found 0x120 n 0 (nodes.map aliasA))

/-- POOL_OVER (R265): a guarantee above its limit, and guarantees that sum to more than the pool; the pitch named is then that of the lowest one staged. -/
def Checking.poolOver (k : Checking) : List Conflict :=
  let one := (List.range 16).flatMap (fun p => if k.h.blockLimit p < k.h.guarantee p then k.found 0x121 p (k.h.guarantee p) [0x501000 + p * 0x10, 0x501004 + p * 0x10] else [])
  let sum := ((List.range 16).map (fun p => k.h.guarantee p)).sum
  let all := if sum ≤ commonPool then [] else (k.found 0x121 0 sum ((List.range 16).map (fun p => 0x501000 + p * 0x10))).map (fun x => { x with index := (x.addr - 0x501000) / 0x10 })
  one ++ all

/-- Cells that a reservation places on a port direction (Table 8.3). -/
def Common.onDirection (c : Common) (n : Nat) (out : Bool) (t : ResvTerm) : Nat :=
  let p := c.resvPorts t.a
  (if p.1 = some n then (if out then t.rev else t.fwd) else 0) + (if p.2 = some n then (if out then t.fwd else t.rev) else 0)

/-- The width of a port in a test that takes a lane of it without a spare (R585). -/
def Common.testWidth (c : Common) (n : Nat) : Nat :=
  let p := c.port n
  match c.test with
  | some t =>
    if t.kind = 3 ∧ t.unit = n ∧ !t.running ∧ roleOf p.t.roles t.chan ≤ 0x20 ∧ !p.t.roles.contains 0x21 then widthFor ((goodChans p.t.roles p.t.badChans).length - 1) else p.width
  | none => p.width

/-- Shafts that count under R585. -/
def SwState.testShafts (s : SwState) : Nat :=
  let a := s.core.active.length
  match s.c.test with
  | some t =>
    if t.kind = 2 ∧ !t.running ∧ s.core.active.contains t.unit ∧ s.core.shafts.all (fun e => e.2.st != .standby) then a - 1 else a
  | none => a

/-- The limit of a port direction, a unit under test counting as absent (R315, R585). -/
def SwState.stakedLimit (s : SwState) (n : Nat) : Nat := min (contentCells (s.c.testWidth n) * 60 / 100) (600 * s.testShafts)

/-- STAKED_LIMIT (R315, R316, R318). -/
def SwState.stakedOver (s : SwState) (k : Checking) : List Conflict :=
  let terms := k.h.resvTerms k.pick
  let ports := (terms.flatMap (fun t => let p := k.h.resvPorts t.a; p.1.toList ++ p.2.toList)).eraseDups
  ports.flatMap (fun n => [false, true].flatMap (fun out =>
    let mine := terms.filter (fun t => decide (0 < k.h.onDirection n out t))
    let load := (mine.map (fun t => k.h.onDirection n out t)).sum
    let index := n + (if out then 0x8000 else 0)
    if load ≤ s.stakedLimit n then []
    else
      match k.found 0x130 index load (mine.map (fun t => resvA t.index + 4)) with
      | [] => k.found 0x130 index load (mine.flatMap (fun t => [resvA t.index, aliasA (fld t.a 15 8), aliasA (fld t.a 23 16)]))
      | l => l))

/-- STAKED_PITCH, STAKED_NODE, STAKED_RATE and STAKED_DUP of reservations (Table 8.5). -/
def Checking.resvForm (k : Checking) : List Conflict :=
  let l := k.h.reservations
  l.flatMap (fun (r : Nat × Reg × Reg) =>
    let src := fld r.2.1 15 8
    let dst := fld r.2.1 23 16
    let p := k.h.resvPorts r.2.1
    let ends := [resvA r.1, aliasA src, aliasA dst]
    let ports := p.1.toList ++ p.2.toList
    let twin := l.find? (fun x => decide (x.1 < r.1) && fld x.2.1 23 8 == fld r.2.1 23 8)
    (if ports.any (fun n => k.h.portPitch n != fld r.2.1 7 4) then k.found 0x131 r.1 0 (ends ++ ports.map portMapA) else []) ++
    (if p.1.isNone ∨ p.2.isNone ∨ src = dst then k.found 0x132 r.1 0 ends else []) ++
    (match twin with | some x => k.found 0x133 r.1 0 [resvA x.1, resvA r.1] | none => []) ++
    (if fld r.2.2 12 0 < 19 ∨ fld r.2.2 28 16 < 19 then k.found 0x134 r.1 (min (fld r.2.2 12 0) (fld r.2.2 28 16)) [resvA r.1, resvA r.1 + 4] else []))

/-- A quiet span: EN, start, length, engine, port mask. -/
def Common.spanOf (c : Common) (j : Nat) : Bool × Nat × Nat × Nat × Nat :=
  let q := c.rd (0x10048 + j * 0x10)
  (flag q 0, (c.rd (0x10044 + j * 0x10)).toNat * 2 ^ 32 + (c.rd (0x10040 + j * 0x10)).toNat, fld q 6 1 + 1, fld q 12 8, fld q 31 16)

/-- Registers of a quiet span. -/
def spanRegs (j : Nat) : List Nat := [0x10040 + j * 0x10, 0x10044 + j * 0x10, 0x10048 + j * 0x10]

/-- QUIET_BUSY and QUIET_FORM (R312, R313, Table 8.5). -/
def Checking.spans (k : Checking) : List Conflict :=
  (List.range 4).flatMap (fun j =>
    let x := k.h.spanOf j
    let named := fun (n : Nat) => n / 16 == x.2.2.2.1 && bit x.2.2.2.2 (n % 16)
    let users := k.h.reservations.filter (fun (r : Nat × Reg × Reg) => let p := k.h.resvPorts r.2.1; (p.1.toList ++ p.2.toList).any named)
    if !x.1 then []
    else
      (if k.pick < x.2.1 + x.2.2.1 ∧ !users.isEmpty then
        k.found 0x135 j 0 (spanRegs j ++ users.flatMap (fun (r : Nat × Reg × Reg) => [resvA r.1, aliasA (fld r.2.1 15 8), aliasA (fld r.2.1 23 16)])) else []) ++
      (if x ≠ k.b.spanOf j ∧ (x.2.1 % 1024 ≠ 0 ∨ x.2.1 < k.pick + 1000) then k.found 0x136 j 0 (spanRegs j) else []))

/-- Does gate window `g` exclude queue 1 at a tick? -/
def gateShuts (g : Reg) (t : Nat) : Bool := flag g 29 && !flag g 19 && decide (fld g 8 0 ≤ t) && decide (t < fld g 17 9)

/-- Ticks at which a port admits queue 1, and the longest run of ticks that excludes it, over the turn of the pick (R331). -/
def Common.gateTicks (c : Common) (n : Nat) : Nat × Nat :=
  let g := (List.range 8).map (fun w => c.rd (gateA c.part n w))
  let shut := (List.range 1000).map (fun t => g.any (fun r => gateShuts r (t % 500)))
  let run := shut.foldl (fun (a : Nat × Nat) x => if x then (a.1 + 1, max a.2 (a.1 + 1)) else (0, a.2)) (0, 0)
  ((shut.take 500).count false, run.2)

/-- GATE_STAKED (R331). -/
def Checking.gates (k : Checking) : List Conflict :=
  let ports := (List.range (portCount k.h.part)).filter (fun n => (List.range 8).any (fun w => k.w.contains (gateA k.h.part n w)))
  ports.flatMap (fun n =>
    let t := k.h.gateTicks n
    if 350 ≤ t.1 ∧ t.2 ≤ 125 then [] else k.found 0x137 n (if t.1 < 350 then t.1 else t.2) ((List.range 8).map (fun w => gateA k.h.part n w)))

/-- A core holds a context of an open collective (R426). -/
def SwState.coreOpen (s : SwState) (core : Nat) : Bool := s.colls.any (fun r => r.st != .committed && r.ctxs.any (fun x => x.1 == core))

/-- Registers of a group. -/
def groupRegs (g : Nat) : List Nat := groupA g 0 :: (List.range 8).map (fun j => groupA g (0x10 + 4 * j))

/-- Groups that exist. -/
def Common.groupsHeld (c : Common) : List Nat :=
  c.rf.cur.filterMap (fun e => if 0x740000 ≤ e.1 ∧ e.1 < 0x750000 ∧ e.1 % 0x40 = 0 ∧ flag e.2 0 then some ((e.1 - 0x740000) / 0x40) else none)

/-- Handles that are valid. -/
def Common.handlesHeld (c : Common) : List Nat :=
  c.rf.cur.filterMap (fun e => if 0x710000 ≤ e.1 ∧ e.1 < 0x718000 ∧ e.1 % 8 = 0 ∧ flag e.2 0 then some ((e.1 - 0x710000) / 8) else none)

/-- COLL_BUSY, COLL_PITCH, COLL_HANDLE (R349). -/
def SwState.collConflicts (s : SwState) (k : Checking) : List Conflict :=
  let busyG := (k.touched 0x740000 0x40 1024).flatMap (fun g =>
    if (groupRegs g).any (fun a => k.moved a) ∧ s.colls.any (fun r => r.group == g && r.st != .committed) then k.found 0x140 g 0 (groupRegs g) else [])
  let busyH := (k.touched 0x710000 8 4096).flatMap (fun x =>
    let regs := [0x710000 + 8 * x, 0x710004 + 8 * x]
    if regs.any (fun a => k.moved a) ∧ s.colls.any (fun r => r.handle == x && r.st != .committed) then k.found 0x140 x 0 regs else [])
  let pitchG := k.h.groupsHeld.flatMap (fun g =>
    let bad := (k.h.groupNodes g).filterMap (fun i => match k.h.aliasOf i with | some n => if k.h.portPitch n = k.h.groupPitch g then none else some (i, n) | none => none)
    k.found 0x141 g 0 (if bad.isEmpty then [] else groupA g 0 :: bad.flatMap (fun e => [groupA g (0x10 + e.1 / 32 * 4), aliasA e.1, portMapA e.2])))
  let handles := k.h.handlesHeld.flatMap (fun x =>
    let a := k.h.handleA x
    let g := fld a 17 8
    let foreign : Bool := match s.userProg (fld a 31 24) with | some p => p.pitch != fld a 7 4 | none => false
    if !k.h.groupValid g ∨ k.h.groupPitch g ≠ fld a 7 4 ∨ foreign then k.found 0x142 x 0 [0x710000 + 8 * x, groupA g 0] else [])
  busyG ++ busyH ++ pitchG ++ handles

/-- Cores of a pitch's pool as registers will stand, without one core. -/
def SwState.poolIn (s : SwState) (h : Common) (pitch without : Nat) : Nat :=
  ((List.range 64).filter (fun x => (s.core' x).st == .service && h.corePitch x == some pitch && x != without)).length

/-- BARTAS_BUSY (R426, R585): a core that holds a context of an open collective moves, or a pitch with a core under test could no longer run one of its programs. -/
def SwState.bartasBusy (s : SwState) (k : Checking) : List Conflict :=
  let moves := (List.range 64).flatMap (fun x => if k.b.corePitch x ≠ k.h.corePitch x ∧ s.coreOpen x then k.found 0x143 x 0 [0x600004 + x * 0x1000] else [])
  let tested := match s.c.test with
    | some t =>
      match t.kind, k.b.corePitch t.unit with
      | 1, some p =>
        let short := s.progs.any (fun (e : Nat × Prog) => e.2.pitch == p && (s.fitSteps k.h (s.poolIn k.h p t.unit) e.2).isSome)
        if short then k.found 0x143 t.unit 0 ((List.range 64).map (fun x => 0x600004 + x * 0x1000) ++ [8, 0xC, 0x10].map (fun o => 0x900000 + p * 0x20 + o)) else []
      | _, _ => []
    | none => []
  moves ++ tested

/-- EPOCH_STALE (R571). -/
def Checking.epoch (k : Checking) : List Conflict :=
  let regs := 0xA00040 :: (List.range 8).map (fun j => 0xA00044 + 4 * j)
  let stale := (k.w.contains 0xA00040 && !laterEpoch (k.h.rd 0xA00040).toNat (k.b.rd 0xA00040).toNat) ||
    (!k.moved 0xA00040 && regs.any (fun a => k.moved a))
  if stale then k.found 0x150 0 0 regs else []

/-- SWAP_FORM (R506): the span is not 16 picks long, names other ports than the position's, or no spare is in STANDBY. -/
def Checking.swaps (k : Checking) : List Conflict :=
  match k.h.part with
  | .sw =>
    (List.range 18).flatMap (fun g =>
      let a := peA .sw g 0x008
      let r := k.h.rd a
      let x := k.h.spanOf (fld r 2 1)
      let mask := bitsOf 16 (fun i => (posPorts .sw g (fld r 5 4)).contains (16 * g + i))
      if flag r 0 ∧ (!x.1 ∨ x.2.2.1 ≠ 16 ∨ x.2.2.2.1 ≠ g ∨ x.2.2.2.2 ≠ mask ∨ (k.h.comb (spareOf .sw g)).st ≠ .standby) then k.found 0x160 g 0 (a :: spanRegs (fld r 2 1)) else [])
  | .ep =>
    if flag (k.h.rd 0xB0008) 0 ∧ (k.h.comb (spareOf .ep 0)).st ≠ .standby then k.found 0x160 0x00FF 0 [0xB0008, 0xB0240, 0xB0244] else []

/-- ORPHAN_LOW (R606): below the floor of Table 1.3 or 1.4. -/
def Checking.orphan (k : Checking) : List Conflict :=
  let a := pwrA k.h.part 0x018
  if k.h.rf' a 15 0 < pwrFloorTop k.h.part then k.found 0x170 0 (k.h.rf' a 15 0) [a] else []

/-- `PITCH_CTRL_p`. -/
def pitchA (p : Nat) : Nat := 0x900000 + p * 0x20

/-- Registers that name a pitch: ports, reservations, groups and handles. -/
def Common.ownersOf (c : Common) (p : Nat) : List Nat :=
  ((List.range 256).filter (fun n => c.portPitch n == p)).map portMapA ++
  c.reservations.filterMap (fun (r : Nat × Reg × Reg) => if fld r.2.1 7 4 = p then some (resvA r.1) else none) ++
  (c.groupsHeld.filter (fun g => c.groupPitch g == p)).map (fun g => groupA g 0) ++
  (c.handlesHeld.filter (fun x => fld (c.handleA x) 7 4 == p)).map (fun x => 0x710000 + 8 * x)

/-- Registers that give a pitch cores and shares. -/
def Common.sharesOf (c : Common) (p : Nat) : List Nat :=
  ((List.range 64).filter (fun x => c.corePitch x == some p)).map (fun x => 0x600004 + x * 0x1000) ++
  (if fld (c.rd (pitchA p + 0x08)) 24 16 = 0 then [] else [pitchA p + 0x08]) ++ (if fld (c.rd (pitchA p + 0x0C)) 24 16 = 0 then [] else [pitchA p + 0x0C]) ++
  (if c.cacheShare p = 0 then [] else [pitchA p + 0x10])

/-- PITCH_FREE and PITCH_OWNS (R631, R632). -/
def SwState.pitchNames (s : SwState) (k : Checking) : List Conflict :=
  let free := (List.range 16).flatMap (fun p =>
    let closing := Tab.get s.pitches .free p == .scrubbing
    let valid := flag (k.h.rd (pitchA p)) 0
    if valid ∧ !closing then [] else k.found 0x180 p 0 (k.h.ownersOf p ++ k.h.sharesOf p ++ (if valid then [pitchA p] else [])))
  let owns := (List.range 16).flatMap (fun p =>
    let left := !(k.h.ownersOf p).isEmpty || s.progs.any (fun (e : Nat × Prog) => e.2.pitch == p)
    if flag (k.b.rd (pitchA p)) 0 ∧ !flag (k.h.rd (pitchA p)) 0 ∧ left then k.found 0x181 p 0 [pitchA p] else [])
  free ++ owns

/-- PORT_BUSY (Table 16.2). -/
def Checking.portBusy (k : Checking) : List Conflict :=
  ((k.touched 0x900200 4 32).flatMap (fun j => (List.range 8).map (fun i => 8 * j + i))).flatMap (fun n =>
    let used : Bool := match k.h.nodeAt n with | some i => !k.h.fenced i | none => false
    if k.b.portPitch n ≠ k.h.portPitch n ∧ used then k.found 0x182 n 0 [portMapA n] else [])

/-- Pairs of numbers below 16, the first lower. -/
def pitchPairs : List (Nat × Nat) := (List.range 16).flatMap (fun q => (List.range q).map (fun p => (p, q)))

/-- A conflict between two pitches is indexed by the one that the set writes, the lower first. -/
def Checking.between (k : Checking) (code : Nat) (p q : Nat) (rp rq : List Nat) : List Conflict :=
  k.found code (if rp.any (fun a => k.w.contains a) then p else q) 0 (rp ++ rq)

/-- SHARE_OVER (Table 16.2). -/
def SwState.shareOver (s : SwState) (k : Checking) : List Conflict :=
  let dram := (List.range 2).flatMap (fun t =>
    let r := fun (p : Nat) => pitchA p + 8 + 4 * t
    let base := fun (p : Nat) => fld (k.h.rd (r p)) 8 0
    let size := fun (p : Nat) => fld (k.h.rd (r p)) 24 16
    (pitchPairs.flatMap (fun (e : Nat × Nat) =>
      if 0 < size e.1 ∧ 0 < size e.2 ∧ base e.1 < base e.2 + size e.2 ∧ base e.2 < base e.1 + size e.1 then k.between 0x183 e.1 e.2 [r e.1] [r e.2] else [])) ++
    (List.range 16).flatMap (fun p =>
      (if 0 < size p ∧ 357 < base p + size p then k.found 0x183 p (base p + size p) [r p] else []) ++
      (if s.scrubs.any (fun x => x.kind == .dram && x.unit / 65536 == t && decide (base p ≤ x.unit % 65536) && decide (x.unit % 65536 < base p + size p)) then k.found 0x183 p 0 [r p] else [])))
  let sum := ((List.range 16).map (fun p => k.h.cacheShare p / 65536)).sum
  let cache := if sum ≤ 1024 then [] else (k.found 0x183 0 sum ((List.range 16).map (fun p => pitchA p + 0x10))).map (fun x => { x with index := (x.addr - 0x900000) / 0x20 })
  dram ++ cache

/-- Seal slots of a pitch, if it is sealed. -/
def Common.sealMask (c : Common) (p : Nat) : Option Nat :=
  let v := c.rd (pitchA p)
  if flag v 0 ∧ flag v 1 then some ((c.rd (pitchA p + 0x14)).toNat + (c.rd (pitchA p + 0x18)).toNat * 2 ^ 32) else none

/-- SEAL_SLOTS (Table 16.2). -/
def Checking.sealed (k : Checking) : List Conflict :=
  let regs := fun (p : Nat) => [pitchA p, pitchA p + 0x14, pitchA p + 0x18]
  let common := pitchPairs.flatMap (fun (e : Nat × Nat) =>
    match k.h.sealMask e.1, k.h.sealMask e.2 with
    | some a, some b => if a &&& b = 0 then [] else k.between 0x184 e.1 e.2 (regs e.1) (regs e.2)
    | _, _ => [])
  let none_ := (List.range 16).flatMap (fun p => if k.h.sealMask p = some 0 then k.found 0x184 p 0 (regs p) else [])
  let held := ((List.range 16).map (fun p => match k.h.sealMask p with | some v => ones v 64 | none => 0)).sum
  let many := if held ≤ 56 then [] else (k.found 0x184 0 held ((List.range 16).flatMap regs)).map (fun x => { x with index := (x.addr - 0x900000) / 0x20 })
  common ++ none_ ++ many

/-- Conflicts of a set on the switch. -/
def SwState.conflicts (s : SwState) (k : Checking) : List Conflict :=
  k.aliasDup ++ k.poolOver ++ s.stakedOver k ++ k.resvForm ++ k.spans ++ k.gates ++ s.collConflicts k ++ s.bartasBusy k ++ k.epoch ++ k.swaps ++ k.orphan ++
  s.pitchNames k ++ k.portBusy ++ s.shareOver k ++ k.sealed

/-- STAKED_DUP of the flow table (R343). -/
def Checking.flowDup (k : Checking) : List Conflict :=
  let l := k.h.rf.cur.filter (fun e => decide (0x98000 ≤ e.1) && decide (e.1 < 0xA0000) && flag e.2 0)
  l.flatMap (fun e =>
    match l.find? (fun x => decide (x.1 < e.1) && fld x.2 13 1 == fld e.2 13 1) with
    | some x => k.found 0x133 ((e.1 - 0x98000) / 0x1000 * 256 + e.1 % 0x1000 / 4) 0 [x.1, e.1]
    | none => [])

/-- EP_ACTIVE (Table 16.2). -/
def EpState.epActive (s : EpState) (k : Checking) : List Conflict :=
  if k.moved 0xF0000 ∧ !s.lha.attached.isEmpty ∧ !s.lha.quiesced then k.found 0x185 (k.h.rf' 0xF0000 3 0) 0 [0xF0000] else []

/-- Conflicts of a set on the end-point. -/
def EpState.conflicts (s : EpState) (k : Checking) : List Conflict := k.flowDup ++ k.gates ++ k.swaps ++ k.orphan ++ s.epActive k

/-! ### The commands (R687 to R693) -/

/-- The register that an entry may name (R688): an RW or WP field at its normal-view address, or the end-point's `EP_RLC_INVAL`. -/
def stageable (p : Part) (a : Nat) : Bool :=
  match decodeAddr p a, regAt p a with
  | .reg b .normal, some (row, _) => b == a && (row.rw != 0 || row.wp != 0 || (p == .ep && a == 0x42004))
  | _, _ => false

/-- The domain-wide class of R690. -/
def domainWide (p : Part) (a : Nat) : Bool :=
  let within := fun (lo hi : Nat) => decide (lo ≤ a) && decide (a < hi)
  match p with
  | .sw =>
    within 0x504000 0x504400 || within 0x510000 0x530000 || within 0x10040 0x10080 || within 0x710000 0x718000 || within 0x740000 0x750000 ||
    within 0xA00040 0xA00064 || within 0x900000 0x900280 || a == 0x80008 || (within 0x300000 0x312000 && a % 0x1000 == 8)
  | .ep => a == 0x40000 || within 0x40020 0x40040 || within 0x98000 0xA0000 || a == 0xB0008 || a == 0xB0240 || a == 0xB0244 || a == 0xC8000 || a == 0xF0000 || a == 0xF0008

/-- A staged set. -/
def Common.set (c : Common) (k : Nat) : StagedSet := Tab.get c.stage.sets {} k

/-- Change a staged set. -/
def Common.modSet (c : Common) (k : Nat) (f : StagedSet → StagedSet) : Common := { c with stage := { c.stage with sets := Tab.upd c.stage.sets {} k f } }

/-- Entries free in the 16,384 (R687). -/
def Common.stageRoom (c : Common) : Nat := 16384 - (c.stage.sets.map (fun (e : Nat × StagedSet) => e.2.entries.length)).sum

/-- Picks by which a commit must lie ahead (R690). -/
def Common.lead (c : Common) (x : StagedSet) : Nat := if x.entries.any (fun e => domainWide c.part e.addr) then 1000 else 16

/-- Status SET_STATE. -/
def zSetState : Nat := 0x0113

/-- `STAGE_WRITE` (R687, R688). -/
def Common.stageWrite (c : Common) (z : ZPacket) : Common :=
  let k := pb z.payload 0
  let n := pn z.payload 2 2
  let x := c.set k
  let l := (List.range n).map (fun i => let at_ := 8 + 12 * i; ({ addr := pn z.payload at_ 4, value := pn z.payload (at_ + 4) 4, mask := pn z.payload (at_ + 8) 4 } : StageEntry))
  if x.st = .scheduled then c.zAnswer 0x0101 z zSetState 2 []
  else
    match l.findIdx? (fun e => !stageable c.part e.addr) with
    | some i => c.zAnswer 0x0101 z 0x0115 i []
    | none =>
      if c.stageRoom < n then c.zAnswer 0x0101 z 0x0114 (min 0xFFFF c.stageRoom) []
      else (c.modSet k (fun x => { st := .opened, entries := x.entries ++ l, held := 0, pick := 0, tag := z.tag })).zOk 0x0101 z []

/-- What a check of a set at a commit pick looks at. -/
def Common.checking (c : Common) (k pick : Nat) : Checking :=
  let x := c.set k
  let b := c.asOf pick k
  { w := (x.entries.map (·.addr)).eraseDups, b := b, h := b.layChange { pick := pick, place := k + 1, entries := x.entries }, pick := pick }

/-- A conflict list as bytes: TOTAL, REPORTED, the entries that fit the transport (R689). -/
def conflictBytes (z : ZPacket) (l : List Conflict) : List Byte :=
  let shown := l.take (if z.onGuy then 64 else 15)
  beBytes (min 0xFFFF l.length) 2 ++ beBytes shown.length 2 ++ shown.flatMap (fun x => beBytes x.code 2 ++ beBytes x.index 2 ++ beBytes x.addr 4 ++ beBytes x.value 4)

/-- The commit pick at which a check looks (R689). -/
def Common.checkPick (c : Common) (k : Nat) : Nat := if (c.set k).st = .scheduled then (c.set k).pick else c.pick + c.lead (c.set k)

/-- `CHECK` (R689). `eval` finds the conflicts. -/
def Common.stageCheck (c : Common) (z : ZPacket) (eval : Checking → List Conflict) : Common :=
  let k := pb z.payload 0
  let st := (c.set k).st
  if st ≠ .opened ∧ st ≠ .scheduled then c.zAnswer 0x0102 z zSetState st.code []
  else
    let l := eval (c.checking k (c.checkPick k))
    c.zAnswer 0x0102 z (if l = [] then 0 else 0x0110) (min 0xFFFF l.length) (conflictBytes z l)

/-- Why a pick may not be committed at: PICK_UNTRUSTED in EXPIRED, PICK_RANGE (R310, R690). -/
def Common.pickBad (c : Common) (pick lead : Nat) : Option (Nat × Nat) :=
  if c.time.st = .expired then some (0x0111, 0)
  else if pick < c.pick + lead then some (0x0112, 1)
  else if c.pick + 60000000 < pick then some (0x0112, 2)
  else none

/-- `COMMIT_AT` (R690). -/
def Common.commitAt (c : Common) (z : ZPacket) (eval : Checking → List Conflict) : Common :=
  let k := pb z.payload 0
  let pick := pn z.payload 4 8
  let x := c.set k
  if x.st ≠ .opened then c.zAnswer 0x0103 z zSetState x.st.code []
  else
    match c.pickBad pick (c.lead x) with
    | some e => c.zAnswer 0x0103 z e.1 e.2 []
    | none =>
      let l := eval (c.checking k pick)
      if l ≠ [] then c.zAnswer 0x0103 z 0x0110 (min 0xFFFF l.length) []
      else (c.modSet k (fun x => { x with st := .scheduled, pick := pick, tag := z.tag })).zOk 0x0103 z []

/-- `CANCEL` (R692). -/
def Common.cancelSet (c : Common) (z : ZPacket) : Common :=
  let k := pb z.payload 0
  let x := c.set k
  let gone := (((c.closeSet k .cancelled).modSet k (fun x => { x with tag := z.tag })).stageEvent 2 k).zOk 0x0104 z []
  match x.st with
  | .empty => c.zSame 0x0104 z []
  | .cancelled => c.zSame 0x0104 z []
  | .committed => c.zAnswer 0x0104 z zSetState 3 []
  | .opened => gone
  | .scheduled =>
    match (List.range 8).find? (fun j => (c.set j).st == .scheduled && decide (x.pick < (c.set j).pick)) with
    | some j => c.zAnswer 0x0104 z 0x0116 j []
    | none => gone

/-- `STAGE_STATUS` (R693). -/
def Common.stageStatus (c : Common) (z : ZPacket) : Common :=
  c.zOk 0x0105 z ((List.range 8).flatMap (fun k =>
    let x := c.set k
    let count := if x.st = .committed ∨ x.st = .cancelled then x.held else x.entries.length
    let pick := if x.st = .scheduled ∨ x.st = .committed then x.pick else 0
    beBytes x.st.code 1 ++ [0] ++ beBytes count 2 ++ beBytes pick 8 ++ beBytes x.tag 4))

/-! ### FENCE and TAKEOVER (R571, R576, R577, R693, R763) -/

/-- The fenced set of a payload: bit i of byte j is node 8 × (31 − j) + i. -/
def fencedOf (b : List Byte) (at_ : Nat) : Nat := pn b at_ 32

/-- The fenced set in force. -/
def Common.fencedSet (c : Common) : Nat := ((List.range 8).map (fun j => (c.rd (0xA00044 + 4 * j)).toNat * 2 ^ (32 * j))).sum

/-- An epoch or a pick that is not later than those of every scheduled change (R693). -/
def Common.membStale (c : Common) (epoch pick : Nat) : Bool :=
  !laterEpoch epoch (c.rd 0xA00040).toNat || c.stage.memb.any (fun m => !laterEpoch epoch m.epoch || decide (pick ≤ m.pick))

/-- Schedule a membership change. -/
def Common.scheduleMemb (c : Common) (m : MembChange) : Common := { c with stage := { c.stage with memb := c.stage.memb ++ [m] } }

/-- `FENCE` (R571, R582, R693, R763). -/
def Common.fenceCmd (c : Common) (z : ZPacket) : Common :=
  let epoch := pn z.payload 0 4
  let pick := pn z.payload 4 8
  let set := fencedOf z.payload 12
  let same := ((c.rd 0xA00040).toNat == epoch && c.fencedSet == set) || c.stage.memb.any (fun m => m.move.isNone && m.epoch == epoch && m.fenced == set)
  if same then c.zSame 0x0301 z []
  else if 4 ≤ c.stage.memb.length then c.zAnswer 0x0301 z 0x0114 0 []
  else
    match c.pickBad pick 1000 with
    | some e => c.zAnswer 0x0301 z e.1 e.2 []
    | none => if c.membStale epoch pick then c.zAnswer 0x0301 z 0x0110 1 [] else (c.scheduleMemb { pick := pick, epoch := epoch, fenced := set }).zOk 0x0301 z []

/-- `TAKEOVER` (R576, R577, R582, R693, R763). -/
def Common.takeoverCmd (c : Common) (z : ZPacket) : Common :=
  let node := pb z.payload 0
  let port := pn z.payload 2 2
  let epoch := pn z.payload 4 4
  let pick := pn z.payload 8 8
  let is := fun (m : MembChange) => m.epoch == epoch && m.pick == pick && (match m.move with | some v => v.1 == node && v.2.1 == port | none => false)
  let inForce : Bool := match c.stage.last with | some m => is m && (c.rd 0xA00040).toNat == epoch && c.aliasOf node == some port | none => false
  let l : List Conflict :=
    (if c.membStale epoch pick then [{ code := 0x150, index := 0, addr := 0, value := 0 }] else []) ++
    (if c.fenced node then [] else [{ code := 0x151, index := node, addr := 0, value := 0 }]) ++
    (if (c.nodeAt port).isSome then [{ code := 0x152, index := port, addr := 0, value := 0 }] else []) ++
    (if c.pick + 1000 ≤ pick ∧ pick ≤ c.pick + 1500 then [] else [{ code := 0x153, index := 0, addr := 0, value := 0 }])
  if inForce ∨ c.stage.memb.any is then c.zSame 0x0302 z []
  else if 4 ≤ c.stage.memb.length then c.zAnswer 0x0302 z 0x0114 0 []
  else if c.time.st = .expired then c.zAnswer 0x0302 z 0x0111 0 []
  else if l ≠ [] then c.zAnswer 0x0302 z 0x0110 l.length (conflictBytes z l)
  else
    let old := fld (c.rd (aliasA node)) 7 0
    (c.scheduleMemb { pick := pick, epoch := epoch, fenced := 0, move := some (node, port, c.portPitch old) }).zOk 0x0302 z []

/-! ### Commits (R691, R763) -/

/-- One entry of a committing set of the switch. -/
def SwState.commitEntry (s : SwState) (e : StageEntry) : SwState :=
  match regAt .sw e.addr with
  | none => s
  | some (row, _) =>
    if row.wp ≠ 0 then s.mod (fun c => c.post row e.addr (e.put (c.accepted e.addr).toNat))
    else
      let v := e.put (s.reg e.addr).toNat
      (s.mod (fun c => c.setRw true row e.addr v)).acted e.addr (s.reg e.addr) (v &&& row.wo)

/-- A scheduled set of the switch commits. -/
def SwState.commitSet (s : SwState) (k : Nat) : SwState :=
  let x := s.c.set k
  let s1 := each x.entries s (fun s e => s.commitEntry e)
  let s2 := if x.entries.any (fun e => decide (0xA00040 ≤ e.addr) && decide (e.addr < 0xA00064)) then s1.membChanged s.c else s1
  s2.mod (fun c => ((c.keepOld s.c c.pick).closeSet k .committed).stageEvent 1 k)

/-- A membership change commits. -/
def SwState.commitMemb (s : SwState) (m : MembChange) : SwState :=
  let s1 := s.mod (fun c => let c1 := c.layMemb m; { c1 with stage := { c1.stage with memb := c1.stage.memb.erase m, last := some m } })
  let s2 := match m.move with
    | some v => s1.portsMoved (v.2.1 / 8) (s.c.rd (portMapA v.2.1))
    | none => s1
  s2.membChanged s.c

/-- Membership changes whose pick has come commit, in order, before every set of the same pick (R763). -/
def SwState.commitMembs (s : SwState) : SwState := each (s.c.stage.memb.filter (fun m => decide (m.pick ≤ s.c.pick))) s (fun s m => s.commitMemb m)

/-- The set is scheduled and its pick has come. -/
def Common.setDue (c : Common) (k : Nat) : Bool := (c.set k).st == .scheduled && decide ((c.set k).pick ≤ c.pick)

/-- What is due on the switch commits: membership changes first, then sets in ascending number. -/
def SwState.commits (s : SwState) : SwState := each (List.range 8) s.commitMembs (fun s k => if s.c.setDue k then s.commitSet k else s)

/-- Path bits toward the nodes that satisfy a test are cleared (R578). -/
def EpState.clearDown (s : EpState) (f : Nat → Bool) : EpState :=
  (s.mod (fun c => c.dropRegs (fun a => decide (0x41000 ≤ a) && decide (a < 0x41400) && f ((a - 0x41000) / 4)))).modSrc (fun q => { q with downAt := q.downAt.filter (fun e => !f (e.1 / 8)) })

/-- A committed `EP_RLC_INVAL` (R578, R688): the write, and the path bits of the nodes that it names. -/
def EpState.commitInval (s : EpState) (v : Nat) : EpState :=
  let n := b2n (bit v 0) + b2n (bit v 1) + b2n (bit v 2)
  let s1 := s.rlcInval v
  if n = 0 then s1 else if 1 < n ∨ bit v 0 then s1.clearDown (fun _ => true) else s1.clearDown (fun d => d == bits v 11 4)

/-- One entry of a committing set of the end-point. -/
def EpState.commitEntry (s : EpState) (e : StageEntry) : EpState :=
  match regAt .ep e.addr with
  | none => s
  | some (row, _) =>
    if e.addr = 0x42004 then s.commitInval (e.value &&& e.mask)
    else if row.wp ≠ 0 then s.mod (fun c => c.post row e.addr (e.put (c.accepted e.addr).toNat))
    else
      let v := e.put (s.reg e.addr).toNat
      if e.addr = 0xF0000 then s.setPitch (w32 (v &&& row.rw))
      else (s.mod (fun c => c.setRw true row e.addr v)).acted e.addr (s.reg e.addr) (v &&& row.wo) (2 ^ 32 - 1)

/-- A scheduled set of the end-point commits. -/
def EpState.commitSet (s : EpState) (k : Nat) : EpState :=
  (each (s.c.set k).entries s (fun s e => s.commitEntry e)).mod (fun c => (c.closeSet k .committed).stageEvent 1 k)

/-- Sets due on the end-point commit in ascending number. -/
def EpState.commits (s : EpState) : EpState := each (List.range 8) s (fun s k => if s.c.setDue k then s.commitSet k else s)

/-! ### Meanings -/

/-- `STAGE_WRITE` (R687, R688). -/
def execStageWrite (z : ZPacket) (s : State) : Host.Outcome State Fault Refusal := onZc 0x0101 z s (fun c => c.stageWrite z)

/-- `CHECK` (R689). -/
def execCheck (z : ZPacket) (s : State) : Host.Outcome State Fault Refusal :=
  onZ 0x0102 z s (fun w => w.mod (fun c => c.stageCheck z w.conflicts)) (fun e => e.mod (fun c => c.stageCheck z e.conflicts))

/-- `COMMIT_AT` (R690). -/
def execCommitAt (z : ZPacket) (s : State) : Host.Outcome State Fault Refusal :=
  onZ 0x0103 z s (fun w => w.mod (fun c => c.commitAt z w.conflicts)) (fun e => e.mod (fun c => c.commitAt z e.conflicts))

/-- `CANCEL` (R692). -/
def execCancel (z : ZPacket) (s : State) : Host.Outcome State Fault Refusal := onZc 0x0104 z s (fun c => c.cancelSet z)

/-- `STAGE_STATUS` (R693). -/
def execStageStatus (z : ZPacket) (s : State) : Host.Outcome State Fault Refusal := onZc 0x0105 z s (fun c => c.stageStatus z)

/-- `FENCE` (R571). -/
def execFence (z : ZPacket) (s : State) : Host.Outcome State Fault Refusal := onZc 0x0301 z s (fun c => c.fenceCmd z)

/-- `TAKEOVER` (R576, R27). -/
def execTakeover (z : ZPacket) (s : State) : Host.Outcome State Fault Refusal := onZc 0x0302 z s (fun c => c.takeoverCmd z)

/-- `STAGED_SET_COMMIT` (R691): a set whose pick has come commits, after the membership changes of its pick. -/
def execStagedSetCommit (part : Part) (set : Nat) (s : State) : Host.Outcome State Fault Refusal :=
  match part with
  | .sw => onSwIf (decide (set < 8)) s (fun w => let w1 := w.commitMembs; if w1.c.setDue set then w1.commitSet set else w1)
  | .ep => onEpIf (decide (set < 8)) s (fun e => if e.c.setDue set then e.commitSet set else e)

/-- `MEMBERSHIP_COMMIT` (R763): only switches hold membership changes. -/
def execMembershipCommit (part : Part) (s : State) : Host.Outcome State Fault Refusal :=
  match part with
  | .sw => onSw s (fun w => w.commitMembs)
  | .ep => onEp s (fun e => e)

end Sys2Proof.Machine
end

