-- ==== Sys2Proof/Machine/Clock.lean ====
section
/-!
DEFINITION. Commands of the timebase and of the staked sources (spec/08): holdover expiry, acceptance into a pick's budget, the timing wheel.
-/

namespace Sys2Proof.Machine

/-- A part enters EXPIRED after 10 s in HOLDOVER (R306, R309, R310): its scheduled sets are discarded and reported. -/
def Common.expire (c : Common) : Common :=
  if c.time.st ≠ .holdover ∨ c.time.mismatch then c
  else
    let c1 := c.modTime (fun t => { t with st := .expired })
    (match c.part with | .sw => c1.pickEvent 0x3 0 | .ep => c1.pickEvent 0x4 0).cancelScheduled 3

/-- `HOLDOVER_EXPIRED` (R306, R310). -/
def execHoldoverExpired (part : Part) (s : State) : Host.Outcome State Fault Refusal := onPart part s (fun c => c.expire)

/-- `STAKED_ACCEPT` (R311, R323). -/
def execStakedAccept (flow : Nat) (s : State) : Host.Outcome State Fault Refusal := onEpIf (decide (flow < 2048)) s (fun s => s.stakedAccept flow)

/-- `WHEEL_SLOT` (R325, R337). -/
def execWheelSlot (slot : Nat) (s : State) : Host.Outcome State Fault Refusal := onEpIf (decide (slot < 1024)) s (fun s => s.wheelSlot slot)

end Sys2Proof.Machine
end

