-- ==== Sys2Proof/Machine/Island.lean ====
section
/-!
DEFINITION. What a part keeps and what it loses: entry into bivouac (R619, R620), a trip or a rail fault (R613, R749), a reset and the wake that follows it (R557, R622, R645, R745).
-/

namespace Sys2Proof.Machine

/-! ### The core is gated -/

/-- The ports of a part whose combs are all dark: no light, rings unlocked. -/
def Common.unlightPorts (c : Common) : Common :=
  each c.listed c (fun c n => c.modPort n (fun p =>
    { p with
      t := { p.t with ringsKept := false },
      op := { p.op with
        ostate := .dark, shutter := false, farLight := false, pulseEnd := none,
        tx := p.op.tx.map (fun (e : Nat × Ring) => (e.1, { e.2 with locked := false, slipAt := none })),
        rx := p.op.rx.map (fun (e : Nat × Ring) => (e.1, { e.2 with locked := false, slipAt := none })) } }))

/-- What the switch loses when its core is gated (R620): packet buffer, scratchpads, line buffers, open collectives. Its DRAM keeps its contents. -/
def SwState.loseCore (s : SwState) : SwState :=
  let k := s.core
  { s with
    c := { s.c.unlightPorts with biv := { s.c.biv with selfRefresh := true } },
    core := { nextPkt := k.nextPkt, shafts := k.shafts.map (fun (e : Nat × Shaft) => (e.1, { e.2 with match_ := [], retry := false })), rotation := k.rotation, selv := k.selv, aboveLimit := k.aboveLimit },
    colls := [],
    cores := s.cores.map (fun (e : Nat × BarCore) => (e.1, { e.2 with ctxs := [], last := 15, pad := [], lines := [] })) }

/-- A copy engine whose work is lost: it keeps its place in the ring. -/
def CopyEngine.lose (e : CopyEngine) : CopyEngine :=
  { e with st := (match e.st with | .running => .idle | .aborting => if e.toDisabled then .disabled else .idle | x => x), jobs := [], asked := e.cons, asking := false, toDisabled := false }

/-- What the end-point loses when its core is gated (R620): remote-line cache, translation caches, requests and copies in progress. -/
def EpState.loseCore (s : EpState) : EpState :=
  { s with
    c := s.c.unlightPorts,
    lha := { s.lha with areqs := [], ereqs := [], ersp := [], out := [] },
    home := { s.home with reqs := [], batches := [], rq := s.home.rq.map (fun (e : Nat × RxQueue) => (e.1, { e.2 with jobs := [] })) },
    src := { s.src with reqs := [], fences := [], done := [], flows := s.src.flows.map (fun (e : Nat × FlowState) => (e.1, { e.2 with wait := [], budget := 0 })) },
    rlc := [],
    xlt := { s.xlt with micro := [], shared := [], tables := [], walks := [], faults := [], cmds := [], asked := s.xlt.cons },
    ces := s.ces.map (fun (e : Nat × CopyEngine) => (e.1, e.2.lose)),
    loop := [], clear := [], pieces := [],
    coll := { s.coll with half := [], waiting := [], recs := [], asked := s.coll.cons, asking := false } }

/-! ### Trips (R613, Table 15.4) and rail faults (R749) -/

/-- The part falls into bivouac: combs dark, ports struck, core gated. -/
def SwState.fall (s : SwState) : SwState := if s.c.biv.st = .bivouac then s else (s.mod (fun c => c.tripCommon)).loseCore

/-- The end-point falls into bivouac: its host attachment goes down too, and the accelerator sees every module lost (R614, R258). -/
def EpState.fall (s : EpState) : EpState :=
  if s.c.biv.st = .bivouac then s else ((each s.lha.attached s (fun s m => s.loseModule m 1)).mod (fun c => c.tripCommon)).loseCore

/-- The trip flag and its event. -/
def Common.noteTrip (c : Common) (chan : Nat) : Common := (c.modTherm (fun t => { t with tripped := true })).thermEvent 0x5 chan

/-- A sag of VAUX, or a trip, ends a wake (Table 15.5). -/
def Common.sagWake (c : Common) : Common :=
  if c.biv.st = .waking ∧ c.supplyBelow (vauxChan c.part) 3100 then ((c.darkCombs false).unlightPorts).setBiv .bivouac 2 else c

/-- One sweep of the sensor sequencer (R595, R596): readings, ramp alarm, throttle, supplies. -/
def Common.sweep (c : Common) (l : List SensorIn) : Common := ((((c.readSensors l).markHeat).rampSweep).throttleSweep).supplySweep

/-- A channel calls for a trip that has not begun. -/
def Common.newTrip (c : Common) : Option Nat := if c.therm.tripped then none else c.tripChan

/-- A sweep on the switch. -/
def SwState.sense (s : SwState) (l : List SensorIn) : SwState :=
  let s1 := s.mod (fun c => c.sweep l)
  match s1.c.newTrip with
  | some ch => (s1.mod (fun c => c.noteTrip ch)).fall
  | none => s1.mod (fun c => c.sagWake.tripOver)

/-- A sweep on the end-point. -/
def EpState.sense (s : EpState) (l : List SensorIn) : EpState :=
  let s1 := s.mod (fun c => c.sweep l)
  match s1.c.newTrip with
  | some ch => (s1.mod (fun c => c.noteTrip ch)).fall
  | none => s1.mod (fun c => c.sagWake.tripOver)

/-- A rail other than VAUX has left its condition (R749). -/
def Common.noteRail (c : Common) : Common := { c with biv := { c.biv with railFault := true } }

/-! ### Entry into bivouac by command (R619) -/

/-- The entry pick has come. -/
def Common.entryDue (c : Common) : Bool :=
  c.biv.st == .awake && (match c.biv.entryPick with | some p => decide (p ≤ c.pick) | none => false)

/-- Every strike of the entry is over, or 1 ms has passed since it began. -/
def Common.entryDone (c : Common) : Bool :=
  c.biv.st == .entering && (c.ports.all (fun e => e.2.t.strike.isNone) || (match c.biv.entryPick with | some p => decide (p + 1000 ≤ c.pick) | none => true))

/-- Step 2 of R619: every port is struck, orderly. -/
def Common.enterBiv (c : Common) : Common :=
  let c1 := { c with biv := { c.biv with entryPick := some c.pick } }
  each c1.listed (c1.setBiv .entering 1) (fun c n => c.strikeOrderly n causeCommand false)

/-- Steps 3 and 5 of R619 for what both parts hold. A strike that has not ended by then ends. -/
def Common.settleBiv (c : Common) : Common :=
  let c1 := each c.listed c (fun c n => if (c.port n).t.strike.isSome then c.completeStrike n else c)
  let c2 := ((c1.darkCombs false).gateCore).setBiv .bivouac 1
  { c2 with biv := { c2.biv with entryPick := none } }

/-- The switch enters bivouac at its pick (R619). -/
def SwState.bivEntry (s : SwState) : SwState :=
  let s1 :=
    if s.c.entryDue then
      (each (s.colls.filter (fun r => r.st != .committed)) s (fun s r => s.commitColl r { state := 0x17 })).mod (fun c => c.enterBiv)
    else s
  if s1.c.entryDone then (s1.mod (fun c => c.settleBiv)).loseCore else s1

/-- The end-point enters bivouac at its pick (R619). -/
def EpState.bivEntry (s : EpState) : EpState :=
  let s1 := if s.c.entryDue then s.mod (fun c => c.enterBiv) else s
  if s1.c.entryDone then (s1.mod (fun c => c.settleBiv)).loseCore else s1

/-! ### Reset (R622, R645, R745 to R747) -/

/-- Indices of the units of a kind that the ledger records as out of service. -/
def Ledger.outUnits (l : Ledger) (kind : Nat) : List Nat := (l.loss.filter (fun e => e.1 / 65536 == kind && e.2.out)).map (fun e => e.1 % 65536)

/-- The VDD_CORE target at a cold start (R565). -/
def Ledger.startAvs (l : Ledger) : Nat := max l.avsFused (((l.all.head?).map (·.vdd)).getD 0)

/-- What flash and fuses keep of the ledger: records, losses, spare rows. Records that wait in the island's SRAM stay while VAUX stays (R746). -/
def Ledger.afterReset (l : Ledger) (vaux : Bool) : Ledger :=
  let l1 := { l with waiting := if vaux then l.waiting else [] }
  { records := l1.records, waiting := l1.waiting, loss := l1.loss, spareRows := l1.spareRows, avsFused := l1.avsFused, avs := l1.startAvs }

/-- What flash keeps of the firmware: both images and the boot slot. A trial that a reset ends is abandoned (R591). -/
def Firmware.afterReset (f : Firmware) : Firmware :=
  { slotB := if f.trial then !f.slotB else f.slotB, imgA := f.imgA, imgB := f.imgB, fellBack := f.trial }

/-- What fuses keep of the security state (Table 16.6), with the digest of the boot ROM. Traffic keys and sessions are gone (R667). -/
def Security.afterReset (x : Security) : Security :=
  { unique := x.unique, vendorHashes := x.vendorHashes, svnFloor := x.svnFloor, owners := x.owners, debugLock := x.debugLock, devid := x.devid, romDigest := x.romDigest }

/-- What both parts hold when RESET_N is asserted: registers at their reset values, every other state new, but what flash, fuses and the lands keep. -/
def Common.afterReset (c : Common) (vaux : Bool) : Common :=
  { part := c.part, id := c.id, opt := { laserEn := c.opt.laserEn }, mgmt := { lineA := c.mgmt.lineA, lineB := c.mgmt.lineB },
    ledger := c.ledger.afterReset vaux, fw := c.fw.afterReset, pwr := { alert := c.part == .sw && c.pwr.alert },
    sec := c.sec.afterReset, biv := { inReset := true, dead := !vaux }, free := c.free }

/-- The switch held in reset. -/
def SwState.afterReset (s : SwState) (vaux : Bool) : SwState := { c := s.c.afterReset vaux }

/-- The end-point held in reset. -/
def EpState.afterReset (s : EpState) (vaux : Bool) : EpState := { c := s.c.afterReset vaux }

/-- Combs and engines that the ledger records as lost stay out until they pass their self-test (R557). -/
def Common.markLost (c : Common) : Common :=
  let c1 := each (c.ledger.outUnits 6) c (fun c k => c.modComb k (fun b => { b with st := .retired }))
  each (c1.ledger.outUnits 7) c1 (fun c g => c.modEngine g (fun e => { e with failed := true }))

/-- The start of the wake that follows a reset (R622): cause RESET is in `BIV_STATUS` already, and no event is recorded. An alert that the land still shows counts as asserted. -/
def Common.beginWake (c : Common) : Common :=
  let c1 := { c with biv := { c.biv with inReset := false, dead := false, st := .waking, cause := 3, wakeAt := c.pick, booted := false } }
  let c2 := c1.markLost.warmCombs
  if c2.pwr.alert then ({ c2 with pwr := { c2.pwr with alert := false } }).alertOn else c2

/-- Shafts after a reset: the first eight good ones are active, another stands by (R272, R557). -/
def shaftsAfter (out : List Nat) : Tab Shaft × List Nat :=
  let good := (List.range 9).filter (fun n => !out.contains n)
  let act := good.take 8
  ((List.range 9).map (fun n => (n, ({ st := if act.contains n then .active else if good.contains n then .standby else .failed } : Shaft))), act)

/-- RESET_N of the switch is released. -/
def SwState.restart (s : SwState) : SwState :=
  if !s.c.biv.inReset then s
  else
    let sh := shaftsAfter (s.c.ledger.outUnits 3)
    { s with
      c := s.c.beginWake,
      core := { s.core with shafts := sh.1, rotation := sh.2 },
      cores := (s.c.ledger.outUnits 4).map (fun k => (k, ({ st := .retired } : BarCore))),
      stacksLost := s.c.ledger.outUnits 5 }

/-- RESET_N of the end-point is released. -/
def EpState.restart (s : EpState) : EpState :=
  if !s.c.biv.inReset then s
  else
    let c1 := each (s.c.ledger.outUnits 9) s.c (fun c u => c.wrF 0x7000C u u 1)
    { s with c := c1.beginWake }

/-! ### Secure boot (R645, R648, R649) -/

/-- A slot passes: its image verifies, and its SVN is not below the floor. -/
def Common.slotGood (c : Common) (okA okB slotB : Bool) : Bool := (if slotB then okB else okA) && decide (c.sec.svnFloor ≤ (c.fw.img slotB).svn)

/-- The part runs the image of a slot: its digest is that of the boot, and the keys are derived (R649). -/
def Common.bootFrom (c : Common) (slotB : Bool) : Common :=
  { c with
    fw := { c.fw with slotB := slotB },
    sec := { c.sec.derive (c.fw.img slotB).digest with bootOk := true },
    biv := { c.biv with booted := true } }

/-- A slot that secure boot tried without success: `SEC_EVENT` cause 0x1 for A, 0x2 for B. -/
def Common.slotFails (c : Common) (slotB : Bool) : Common := c.secEvent (if slotB then 2 else 1) 0

/-- Secure boot ends (R645, R648): the slot last selected, else the other; with neither the part stays in bivouac. -/
def Common.secureBoot (c : Common) (okA okB : Bool) : Common :=
  if c.biv.st ≠ .waking ∨ c.biv.cause ≠ 3 ∨ c.biv.booted then c
  else
    let first := c.fw.slotB
    if c.slotGood okA okB first then c.bootFrom first
    else
      let c1 := c.slotFails first
      if c1.slotGood okA okB (!first) then c1.bootFrom (!first)
      else
        let c2 := (((c1.slotFails (!first)).darkCombs false).unlightPorts).setBiv .bivouac 3
        { c2 with sec := { c2.sec with bootOk := false } }

/-! ### The end of a wake (Table 15.6 steps 5 and 6) -/

/-- A unit that has passed its self-test may return: the ledger records it as out, and as lost fewer than three times (R557). -/
def Common.returns (c : Common) (kind unit : Nat) : Bool :=
  let r := Tab.get c.ledger.loss {} (unitKey kind unit)
  r.out && decide (r.times < 3)

/-- A unit of both parts returns to service. -/
def Common.takeBack (c : Common) (kind unit : Nat) : Common :=
  let c1 := c.unitBack kind unit
  match kind with
  | 6 => (c1.modComb unit (fun b => if b.st = .retired then { b with st := .dark } else b)).warmComb unit
  | 7 => c1.modEngine unit (fun e => { e with failed := false })
  | _ => c1

/-- A unit of the switch returns to service. -/
def SwState.takeBack (s : SwState) (kind unit : Nat) : SwState :=
  let s1 := s.mod (fun c => c.takeBack kind unit)
  match kind with
  | 3 => s1.modCore (fun k => k.shaftReturn unit (decide (k.active.length < 8)))
  | 4 => s1.modBar unit (fun b => { b with st := .service })
  | 5 => { s1 with stacksLost := s1.stacksLost.filter (· != unit) }
  | _ => s1

/-- A unit of the end-point returns to service. -/
def EpState.takeBack (s : EpState) (kind unit : Nat) : EpState :=
  s.mod (fun c => if kind = 9 then (c.takeBack kind unit).wrF 0x7000C unit unit 0 else c.takeBack kind unit)

/-- Step 6 of Table 15.6 is reached. -/
def Common.wakeDone (c : Common) : Common :=
  let c1 := (c.wakeTime).setBiv .awake c.biv.cause
  { c1 with biv := { c1.biv with selfRefresh := false, entryPick := none } }

/-- The wake may end: secure boot is over where it applies. -/
def Common.wakeMayEnd (c : Common) : Bool := c.biv.st == .waking && c.biv.booted

/-- A wake of the switch ends. -/
def SwState.awake (s : SwState) (passed : List (Nat × Nat)) : SwState :=
  if !s.c.wakeMayEnd then s
  else (each (passed.filter (fun u => s.c.returns u.1 u.2)) s (fun s u => s.takeBack u.1 u.2)).mod (fun c => c.wakeDone)

/-- A wake of the end-point ends. -/
def EpState.awake (s : EpState) (passed : List (Nat × Nat)) : EpState :=
  if !s.c.wakeMayEnd then s
  else (each (passed.filter (fun u => s.c.returns u.1 u.2)) s (fun s u => s.takeBack u.1 u.2)).mod (fun c => c.wakeDone)

end Sys2Proof.Machine
end

