-- ==== Sys2Proof/Machine/Power.lean ====
section
/-!
DEFINITION. The meanings of the commands of power, heat and the bivouac island (spec/15), of resets and rails (spec/19), and of a debug unlock (R651).
-/

namespace Sys2Proof.Machine

/-- A command that acts on one part, with a function for each. -/
def onBoth (part : Part) (s : State) (sw : SwState → SwState) (ep : EpState → EpState) : Host.Outcome State Fault Refusal :=
  match part with
  | .sw => onSw s sw
  | .ep => onEp s ep

/-- A change of a part that holds even while it is in reset or has no power. -/
def onRaw (part : Part) (s : State) (sw : SwState → SwState) (ep : EpState → EpState) : Host.Outcome State Fault Refusal :=
  match part with
  | .sw => .next { s with sw := sw s.sw }
  | .ep => .next { s with ep := ep s.ep }

/-- `SENSOR_SAMPLE` (R595, R596, R611 to R615, R621). -/
def execSensorSample (part : Part) (samples : List SensorIn) (s : State) : Host.Outcome State Fault Refusal :=
  onBoth part s (fun s => s.sense samples) (fun s => s.sense samples)

/-- `RAMP_ALARM_END` (R612). -/
def execRampAlarmEnd (part : Part) (s : State) : Host.Outcome State Fault Refusal := onPart part s (fun c => c.rampOff.throttleSweep)

/-- `FLASH_INHIBIT_END` (R615, R616). -/
def execFlashInhibitEnd (part : Part) (s : State) : Host.Outcome State Fault Refusal := onPart part s (fun c => c.inhibitOff)

/-- What `POWER_CAP` does and answers (R603, R606, R701). The refusal's detail is the floor in watts, rounded up. -/
def Common.zPowerCap (c : Common) (z : ZPacket) : Common :=
  let r := c.takeCap (pn z.payload 2 2)
  let data := beBytes r.1.pwr.floor 2 ++ beBytes (r.1.pwr.cap.getD 0xFFFF) 2
  if r.2 then r.1.zOk 0x0401 z data else r.1.zAnswer 0x0401 z 0x0401 ((r.1.pwr.floor + 9) / 10) data

/-- `POWER_CAP` (R603 to R606). -/
def execPowerCap (z : ZPacket) (s : State) : Host.Outcome State Fault Refusal := onZc 0x0401 z s (fun c => c.zPowerCap z)

/-- `LEASE_EXPIRED` (R606). -/
def execLeaseExpired (part : Part) (s : State) : Host.Outcome State Fault Refusal := onPart part s (fun c => c.leaseLapse)

/-- What `THERMAL_ALERT` does: SET starts a ramp alarm, and clears one started by command (R612). -/
def Common.zThermalAlert (c : Common) (z : ZPacket) : Common :=
  let c1 := if bit (pb z.payload 0) 0 then c.rampOn true (((c.hotJunction).map (·.1)).getD 0)
    else if c.therm.ramp = some true then c.rampOff else c
  c1.throttleSweep.zOk 0x0402 z []

/-- `THERMAL_ALERT` (R612, R701). -/
def execThermalAlert (z : ZPacket) (s : State) : Host.Outcome State Fault Refusal := onZc 0x0402 z s (fun c => c.zThermalAlert z)

/-- The land PWR_ALERT_N of the switch. While RESET_N is low it is ignored, and its level counts once RESET_N is released (R745). -/
def SwState.alertLand (s : SwState) (on : Bool) : SwState :=
  if s.c.held then s.mod (fun c => c.modPwr (fun p => { p with alert := on })) else s.mod (fun c => if on then c.alertOn else c.alertOff)

/-- `POWER_ALERT_ASSERT` (R598, R608): the land is the switch's. -/
def execPowerAlertAssert (s : State) : Host.Outcome State Fault Refusal := onRaw .sw s (fun s => s.alertLand true) (fun s => s)

/-- `POWER_ALERT_DEASSERT` (R598, R610). -/
def execPowerAlertDeassert (s : State) : Host.Outcome State Fault Refusal := onRaw .sw s (fun s => s.alertLand false) (fun s => s)

/-- `ALERT_HOLD_EXPIRED` (R610). -/
def execAlertHoldExpired (part : Part) (s : State) : Host.Outcome State Fault Refusal := onPart part s (fun c => c.alertHeld)

/-- What `BIVOUAC` answers, and the entry pick (R619, R701). `attached`: the end-point has modules attached and is not quiesced. -/
def Common.zBivouac (c : Common) (z : ZPacket) (attached : Bool) : Common :=
  let p := pn z.payload 0 8
  if attached then c.zAnswer 0x0403 z zBusy 0x12 []
  else if p < c.pick + 1000 then c.zAnswer 0x0403 z 0x0112 1 []
  else ({ c with biv := { c.biv with entryPick := some p } } : Common).zOk 0x0403 z []

/-- `BIVOUAC` (R619, R701). -/
def execBivouac (z : ZPacket) (s : State) : Host.Outcome State Fault Refusal :=
  onZ 0x0403 z s (fun w => w.mod (fun c => c.zBivouac z false)) (fun e => e.mod (fun c => c.zBivouac z (!e.lha.quiesced && !e.lha.attached.isEmpty)))

/-- `BIVOUAC_ENTRY` (R619, R620): the entry pick has come, or the strikes of the entry are over. -/
def execBivouacEntry (part : Part) (s : State) : Host.Outcome State Fault Refusal := onBoth part s (fun s => s.bivEntry) (fun s => s.bivEntry)

/-- What `WAKE` does and answers (R621, R701). -/
def Common.zWake (c : Common) (z : ZPacket) : Common :=
  match c.biv.st with
  | .awake => c.zSame 0x0404 z []
  | .waking => c.zSame 0x0404 z []
  | .entering => c.zAnswer 0x0404 z zBusy 0x13 []
  | .bivouac => if c.wakeReady then (c.startWake 1).zOk 0x0404 z [] else c.zAnswer 0x0404 z zBusy 0x14 []

/-- `WAKE` (R614, R621). -/
def execWake (z : ZPacket) (s : State) : Host.Outcome State Fault Refusal := onZc 0x0404 z s (fun c => c.zWake z)

/-- `WAKE_COMPLETE` (Table 15.6 steps 5 and 6, R557): the units whose start-up self-test has passed, by kind and number. -/
def execWakeComplete (part : Part) (passed : List (Nat × Nat)) (s : State) : Host.Outcome State Fault Refusal :=
  onBoth part s (fun s => s.awake passed) (fun s => s.awake passed)

/-- `RESET_ASSERT` (R667, R718, R745, R746). A part without power has nothing to reset. -/
def execResetAssert (part : Part) (s : State) : Host.Outcome State Fault Refusal :=
  onRaw part s (fun s => if s.c.biv.dead then s else s.afterReset true) (fun s => if s.c.biv.dead then s else s.afterReset true)

/-- `RESET_RELEASE` (R622, R744, R747): a part that had lost its power has it again (R724). -/
def execResetRelease (part : Part) (s : State) : Host.Outcome State Fault Refusal := onRaw part s (fun s => s.restart) (fun s => s.restart)

/-- `SECURE_BOOT_DONE` (R622, R645, R648): whether the image of each slot verifies. -/
def execSecureBootDone (part : Part) (okA okB : Bool) (s : State) : Host.Outcome State Fault Refusal := onPart part s (fun c => c.secureBoot okA okB)

/-- `RAIL_FAULT` (R749). -/
def execRailFault (part : Part) (s : State) : Host.Outcome State Fault Refusal :=
  onBoth part s (fun s => (s.mod (fun c => c.noteRail)).fall) (fun s => (s.mod (fun c => c.noteRail)).fall)

/-- `SUDDEN_POWER_LOSS` (R748): every rail is gone, VAUX too; what flash and fuses hold stays. -/
def execSuddenPowerLoss (part : Part) (s : State) : Host.Outcome State Fault Refusal := onRaw part s (fun s => s.afterReset false) (fun s => s.afterReset false)

/-! ### Debug unlock (R651) -/

/-- Traffic keys go, and `SEC_EVENT` cause 0x9 is recorded. -/
def Common.unlock (c : Common) : Common := (({ c with sec := { c.sec with keys := [], unlocked := true } } : Common)).secEvent 9 0

/-- A debug unlock of the switch scrubs every pitch under Table 16.3. Collectives that hold what is scrubbed are stopped. -/
def SwState.unlock (s : SwState) : SwState :=
  let s0 := each (s.colls.filter (fun r => r.st != .committed)) s (fun s r => s.managerStop r)
  let s1 := each (List.range 288) s0 (fun s n => if selvedge .sw n then s else s.clearPort n)
  let s2 := each (List.range 16) s1 (fun s p => s.clearTables p)
  { s2 with
    c := s2.c.unlock, scrubs := [], dram := [],
    cores := s2.cores.map (fun (e : Nat × BarCore) => (e.1, { e.2 with ctxs := [], pad := [], lines := [], scrub := false })) }

/-- A debug unlock of the end-point scrubs it under R635. -/
def EpState.unlock (s : EpState) : EpState := s.scrubAll.mod (fun c => c.unlock)

/-- `DEBUG_UNLOCK` (R651, R667). -/
def execDebugUnlock (part : Part) (s : State) : Host.Outcome State Fault Refusal := onBoth part s (fun s => s.unlock) (fun s => s.unlock)

end Sys2Proof.Machine
end

