-- ==== Sys2Proof/Machine/UnitTests.lean ====
section
/-!
DEFINITION. Disruptive tests of cores, shafts and lanes (R584 to R586).
-/

namespace Sys2Proof.Machine

/-- Longest time of a test in picks (Table 14.7). -/
def testTime : Nat → Nat
  | 1 => 20000
  | 2 => 5000
  | _ => 2000

/-- The first quiet pick at least 16 picks after a pick (R584). -/
def testStart (pick : Nat) : Nat := (pick + 16 + 1023) / 1024 * 1024

/-- The registers now, and as they will stand at each pick before the test's end at which something commits (R585). -/
def Common.testViews (c : Common) (stop : Nat) : List (Nat × Common) :=
  (c.pick, c) :: ((c.changesTo (stop - 1) 8).map (·.pick)).eraseDups.map (fun p => (p, c.asOf p 8))

/-- Change the test. -/
def Common.modTest (c : Common) (f : TestRun → TestRun) : Common := { c with test := c.test.map f }

/-- Load that an end-point's own staked flows place on a plane (Table 8.17). -/
def Common.flowLoad (c : Common) (plane : Nat) : Nat :=
  ((c.rf.cur.filter (fun e => decide (0x98000 ≤ e.1) && decide (e.1 < 0xA0000) && flag e.2 0 && decide (fld e.2 2 1 < 2) && fld e.2 5 3 == plane)).map (fun e => fld e.2 27 15)).sum

/-- Load of a port direction at a pick, in either direction. -/
def Common.loadAt (c : Common) (pick n : Nat) (out : Bool) : Nat :=
  match c.part with
  | .sw => ((c.resvTerms pick).map (fun t => c.onDirection n out t)).sum
  | .ep => c.flowLoad n

/-- A channel that a lane loopback may take: of a port in service, a lane, the clock or a spare. -/
def Common.testable (c : Common) (n chan : Nat) : Bool :=
  let p := c.port n
  (p.t.st == .raised || p.t.st == .standby) && decide (roleOf p.t.roles chan ≤ 0x21)

/-- Why a lane loopback is not admitted: status and detail (Tables 14.7, 14.8). -/
def Common.laneBad (c : Common) (t : TestRun) (stop : Nat) : Option (Nat × Nat) :=
  if !c.testable t.unit t.chan then some (0x13, 0)
  else if (c.port t.unit).t.roles.contains 0x21 then none
  else
    let w := ({ c with test := some t } : Common).testWidth t.unit
    let fits := (c.testViews stop).all (fun (v : Nat × Common) => [false, true].all (fun out => decide (v.2.loadAt v.1 t.unit out ≤ contentCells w * 60 / 100)))
    if w ≠ 0 ∧ fits then none else some (zBusy, 1)

/-- Why a shaft test is not admitted. -/
def SwState.shaftBad (s : SwState) (t : TestRun) (stop : Nat) : Option (Nat × Nat) :=
  let x := (Tab.get s.core.shafts {} t.unit).st
  let a := s.core.active.length
  if x = .failed then some (0x13, 0)
  else if x ≠ .active ∨ s.core.shafts.any (fun e => e.2.st == .standby) then none
  else if a < 8 then some (zBusy, 4)
  else
    let fits := (s.c.testViews stop).all (fun (v : Nat × Common) =>
      let terms := v.2.resvTerms v.1
      let ports := (terms.flatMap (fun r => let p := v.2.resvPorts r.a; p.1.toList ++ p.2.toList)).eraseDups
      ports.all (fun n => [false, true].all (fun out => decide ((terms.map (fun r => v.2.onDirection n out r)).sum ≤ min (600 * (a - 1)) (contentCells (s.c.port n).width * 60 / 100)))))
    if fits then none else some (zBusy, 1)

/-- Why a core self-test is not admitted. -/
def SwState.coreBad (s : SwState) (t : TestRun) (stop : Nat) : Option (Nat × Nat) :=
  if (s.core' t.unit).st = .retired then some (0x13, 0)
  else if s.coreOpen t.unit then some (zBusy, 2)
  else
    let short := (s.c.testViews stop).any (fun (v : Nat × Common) =>
      match v.2.corePitch t.unit with
      | some p => s.progs.any (fun (e : Nat × Prog) => e.2.pitch == p && (s.fitSteps v.2 (s.poolIn v.2 p t.unit) e.2).isSome)
      | none => false)
    if short then some (zBusy, 3) else none

/-- What `UNIT_TEST` answers (R582, R584). `bad` judges the admission. -/
def Common.unitTest (c : Common) (z : ZPacket) (bad : TestRun → Nat → Option (Nat × Nat)) : Common :=
  let kind := pb z.payload 0
  let chan := if kind = 3 then pb z.payload 1 else 0
  let same := match c.test with
    | some t => if t.kind = kind ∧ t.unit = z.index ∧ t.chan = chan then some t.start else none
    | none => none
  match same with
  | some st => c.zSame 0x0310 z (beBytes st 8)
  | none =>
    let st := testStart c.pick
    let t : TestRun := { kind := kind, unit := z.index, chan := chan, start := st }
    if c.test.isSome then c.zAnswer 0x0310 z zBusy 5 []
    else if c.fw.pending.isSome then c.zAnswer 0x0310 z zBusy 6 []
    else
      match bad t (st + testTime kind) with
      | some e => c.zAnswer 0x0310 z e.1 e.2 []
      | none => ({ c with test := some t } : Common).zOk 0x0310 z (beBytes st 8)

/-- `UNIT_TEST` (R584, R585). -/
def execUnitTest (z : ZPacket) (s : State) : Host.Outcome State Fault Refusal :=
  onZ 0x0310 z s
    (fun w => w.mod (fun c => c.unitTest z (fun t e => match t.kind with | 1 => w.coreBad t e | 2 => w.shaftBad t e | _ => w.c.laneBad t e)))
    (fun e => e.mod (fun c => c.unitTest z (fun t stop => e.c.laneBad t stop)))

/-- `UNIT_TEST_DONE` (R586): the test that runs has ended. The next boundary settles it. -/
def execUnitTestDone (part : Part) (pass : Bool) (s : State) : Host.Outcome State Fault Refusal :=
  onPart part s (fun c => c.modTest (fun t => if t.running then { t with ended := some pass } else t))

/-! ### Tests at a boundary -/

/-- `TEST_EVENT` (Table 14.9); the test is over. -/
def Common.testOver (c : Common) (t : TestRun) (result : Nat) : Common :=
  ({ c with test := none } : Common).event (resA c.part 0x204) (result * 4096 + t.kind * 512 + t.unit % 512)

/-- The role of a channel is set by a test. -/
def Common.setRole (c : Common) (n chan role : Nat) : Common :=
  c.modTrain n (fun t => { t with roles := t.roles.set chan role, badChans := t.badChans.filter (· != chan) })

/-- A lane loopback starts: a spare is taken at once, another channel once its role has moved or the port has narrowed (R543). -/
def Common.laneStart (c : Common) (t : TestRun) : Common :=
  let role := roleOf (c.port t.unit).t.roles t.chan
  let c1 := if role = 0x21 then c.setRole t.unit t.chan 0x23 else c.requestMove t.unit t.chan 2
  c1.modTest (fun t => { t with running := true, before := role })

/-- A lane loopback stops: another channel of its port has failed, or the port is not in service any more (R586). -/
def Common.laneStops (c : Common) (t : TestRun) : Bool :=
  let p := (c.port t.unit).t
  !(p.st == .raised || p.st == .standby) || p.badChans.any (· != t.chan)

/-- A lane loopback at a boundary. -/
def Common.laneTest (c : Common) (t : TestRun) : Common :=
  match t.ended with
  | some true => (c.setRole t.unit t.chan 0x21).testOver t 1
  | some false => ((c.setRole t.unit t.chan 0x22).unitLost 1 t.unit).testOver t 2
  | none =>
    if t.running ∧ c.laneStops t then
      (if (c.port t.unit).t.st = .raised ∨ (c.port t.unit).t.st = .standby then c.setRole t.unit t.chan 0x21 else c).testOver t 3
    else if !t.running ∧ t.start ≤ c.pick then (if c.testable t.unit t.chan then c.laneStart t else c.testOver t 3)
    else c

/-- A shaft test at a boundary, before the boundary's own failures are settled. -/
def SwState.shaftTest (s : SwState) (t : TestRun) : SwState :=
  let back := fun (s : SwState) (result : Nat) =>
    (s.modCore (fun k => k.shaftReturn t.unit (decide (k.active.length < 8)))).mod (fun c => (c.shaftEvent t.unit 5).testOver t result)
  match t.ended with
  | some true => back s 1
  | some false => (s.modCore (fun k => { k with shafts := Tab.upd k.shafts {} t.unit (fun x => { x with st := .failed }) })).mod (fun c => (c.unitLost 3 t.unit).testOver t 2)
  | none =>
    let other := s.core.shafts.any (fun e => e.1 != t.unit && e.2.due.isSome)
    if t.running ∧ other then
      (s.modCore (fun k => k.shaftReturn t.unit (t.before == 0))).mod (fun c => (c.shaftEvent t.unit 5).testOver t 3)
    else if !t.running ∧ t.start ≤ s.c.pick then
      let x := (Tab.get s.core.shafts {} t.unit)
      if other ∨ x.st = .failed ∨ x.due.isSome then s.mod (fun c => c.testOver t 3)
      else (s.modCore (fun k => { k with shafts := Tab.upd k.shafts {} t.unit (fun x => { x with takeForTest := true }) })).mod (fun c => c.modTest (fun t => { t with running := true, before := x.st.code }))
    else s

/-- A core self-test at a boundary: a core that fails it is retired at this boundary (R427). -/
def SwState.coreTest (s : SwState) (t : TestRun) : SwState :=
  let other := s.cores.any (fun e => e.1 != t.unit && e.2.failed)
  match t.ended with
  | some true => (s.modBar t.unit (fun b => { b with st := .service })).mod (fun c => c.testOver t 1)
  | some false => (s.modBar t.unit (fun b => { b with failed := true })).mod (fun c => c.testOver t 2)
  | none =>
    if t.running ∧ other then (s.modBar t.unit (fun b => { b with st := .service })).mod (fun c => c.testOver t 3)
    else if !t.running ∧ t.start ≤ s.c.pick then
      if other ∨ (s.core' t.unit).failed ∨ (s.core' t.unit).st = .retired ∨ s.coreOpen t.unit then s.mod (fun c => c.testOver t 3)
      else (s.modBar t.unit (fun b => { b with st := .test })).mod (fun c => c.modTest (fun t => { t with running := true }))
    else s

/-- The switch's test at a boundary (R584, R586). -/
def SwState.testBoundary (s : SwState) : SwState :=
  match s.c.test with
  | none => s
  | some t =>
    match t.kind with
    | 1 => s.coreTest t
    | 2 => s.shaftTest t
    | _ => s.mod (fun c => c.laneTest t)

/-- The end-point's test at a boundary. -/
def EpState.testBoundary (s : EpState) : EpState :=
  match s.c.test with
  | none => s
  | some t => s.mod (fun c => c.laneTest t)

end Sys2Proof.Machine
end

