-- ==== Sys2Proof/Machine/Resilience.lean ====
section
/-!
DEFINITION. Faults of engines and DRAM stacks (R559, R560), membership notices (R574), the ledger's commands (R700), firmware staging and activation (R587 to R591, R694, R695), guy lines (R580).
-/

namespace Sys2Proof.Machine

/-- `PE_FAILURE` (R559): the boundary acts. -/
def execPeFailure (engine : Nat) (s : State) : Host.Outcome State Fault Refusal :=
  onSwIf (decide (engine < 18)) s (fun s => if (s.c.engine engine).failed then s else s.mod (fun c => c.modEngine engine (fun e => { e with failing := true })))

/-- Ports of a photonic engine of the switch. -/
def enginePorts (g : Nat) : List Nat := (List.range 16).map (fun i => 16 * g + i)

/-- A failed engine at the boundary (R559): its 16 ports struck, its combs retired. -/
def Common.engineOut (c : Common) (g : Nat) : Common :=
  let c1 := each (enginePorts g) c (fun c n => c.strikeAbrupt n causeLight)
  let c2 := each [4, 0, 1, 2, 3] c1 (fun c i => c.retireComb (5 * g + i))
  (c2.modEngine g (fun e => { e with failing := false, failed := true, swap := none, want := [] })).unitLost 0x7 g

/-- Engines that fail take effect at a boundary. -/
def SwState.engineBoundary (s : SwState) : SwState := each ((s.c.opt.engines.filter (fun e => e.2.failing)).map (·.1)) s (fun s g => s.mod (fun c => c.engineOut g))

/-- `DRAM_STACK_FAILURE` (R560): the boundary acts. `row`: a row that no spare can replace, otherwise retraining that failed twice. -/
def execDramStackFailure (stack : Nat) (row : Bool) (s : State) : Host.Outcome State Fault Refusal :=
  onSwIf (decide (stack < 2)) s (fun s =>
    if s.stacksLost.contains stack ∨ s.stacksDue.contains stack then s
    else ({ s with stacksDue := s.stacksDue ++ [stack] } : SwState).mod (fun c => c.event 0x800004 ((if row then 2 else 1) * 256 + stack)))

/-- A failed stack at the boundary (R560): collectives with a range on it end as by `COLL_ABORT`. -/
def SwState.stackBoundary (s : SwState) : SwState :=
  each s.stacksDue { s with stacksDue := [] } (fun s k =>
    let s1 := each (s.colls.filter (fun r => r.st != .committed && r.dram.1 == k && decide (0 < r.dram.2.2))) s (fun s r => s.managerStop r)
    ({ s1 with stacksLost := s1.stacksLost ++ [k] } : SwState).mod (fun c => c.unitLost 0x5 k))

/-- The fields of a `MEMB_NOTICE` (Table 17.6). -/
def membNoticeOk (b : List Byte) : Bool := b.length == 8 && decide (pb b 4 ≤ 1) && pn b 5 3 == 0

/-- `MEMB_NOTICE` (R574). -/
def execMembNotice (plane : Nat) (p : Packet) (s : State) : Host.Outcome State Fault Refusal :=
  onEpIf (epPlane plane) s (fun s => s.noticeArrive plane 0x0303 p membNoticeOk (fun s b => s.membNotice (pn b 0 4) (pb b 4 == 1)))

/-! ### The ledger (R700) -/

/-- Unit kinds of `RES_EVENT` that a target kind names (Tables 14.9, 17.2): a port stands for its channels too. -/
def lossKinds : Nat → List Nat
  | 1 => [1, 2]
  | 2 => [7]
  | 3 => [6]
  | 4 => [3]
  | 5 => [4]
  | 6 => [5]
  | 8 => [9]
  | 9 => [10]
  | _ => []

/-- What `LEDGER_CLEAR` does (R557, R700): the record goes, the unit stays as it is until the next reset. -/
def Common.ledgerClear (c : Common) (z : ZPacket) : Common :=
  let keys := (lossKinds z.kind).map (fun k => unitKey k z.index)
  let times := (keys.map (fun k => (Tab.get c.ledger.loss {} k).times)).foldl max 0
  (c.modLedger (fun l => { l with loss := keys.foldl (fun (t : Tab LossRec) k => if (Tab.find t k).isSome then Tab.upd t {} k (fun r => { r with times := 0, back := 0 }) else t) l.loss })).zOk 0x0320 z
    (beBytes (min 255 times) 1 ++ [0, 0, 0])

/-- `LEDGER_CLEAR` (R557, R700). -/
def execLedgerClear (z : ZPacket) (s : State) : Host.Outcome State Fault Refusal := onZc 0x0320 z s (fun c => c.ledgerClear z)

/-- A signed value as a two's-complement field. -/
def leSigned (v : Int) (n : Nat) : List Byte := leBytes (twos (8 * n) v) n

/-- The 256 bytes of a ledger record (Table 14.4). -/
def LedgerRec.bytes (r : LedgerRec) : List Byte :=
  let body :=
    leBytes 0x4C474452 4 ++ leBytes r.day 4 ++ leBytes r.pick 8 ++ leBytes r.vdd 2 ++ leSigned r.slackMin 2 ++ leSigned r.slackMean 2 ++ leBytes r.slackDie 1 ++
    leBytes r.biasPct 1 ++ leBytes r.biasComb 2 ++ leSigned r.marginMin 2 ++ leBytes r.marginPort 2 ++ leBytes r.eyeMin 2 ++ leBytes r.eyePort 2 ++
    leSigned r.heaterMin 2 ++ leBytes r.heaterPort 2 ++
    (List.range 16).flatMap (fun k => leBytes (r.errors.getD k (0, 0)).1 2 ++ leBytes (r.errors.getD k (0, 0)).2 2) ++
    (List.range 16).flatMap (fun k => leBytes (r.lost.getD k 0) 1) ++ (List.range 5).flatMap (fun q => leBytes (r.proj.getD q 0) 2) ++ List.replicate 124 0
  body ++ leBytes (crc32 body).toNat 4

/-- What `LEDGER_READ` answers (R700). -/
def Common.ledgerRead (c : Common) (z : ZPacket) : Common :=
  match c.ledger.records[pn z.payload 0 2]? with
  | some r => c.zOk 0x0321 z ((r.bytes.drop (128 * pb z.payload 2)).take 128)
  | none => c.zAnswer 0x0321 z zNotFound 0 []

/-- `LEDGER_READ` (R700). -/
def execLedgerRead (z : ZPacket) (s : State) : Host.Outcome State Fault Refusal := onZc 0x0321 z s (fun c => c.ledgerRead z)

/-! ### Firmware (R587 to R591, R694, R695) -/

/-- `FW_EVENT` (Table 14.9). -/
def Common.fwEvent (c : Common) (cause : Nat) : Common := c.event (resA c.part 0x310) (cause * 4096)

/-- Change the firmware state. -/
def Common.modFw (c : Common) (f : Firmware → Firmware) : Common := { c with fw := f c.fw }

/-- An image in a slot. -/
def Firmware.put (f : Firmware) (slotB : Bool) (i : FwImage) : Firmware := if slotB then { f with imgB := i } else { f with imgA := i }

/-- Why a staging command is answered BUSY (R695). -/
def Common.stageBusy (c : Common) : Option Nat :=
  if c.therm.flashInhibit then some 0x11
  else if c.fw.pending.isSome || c.fw.trial then some 0x15
  else if (match c.test with | some t => t.running | none => false) then some 5
  else none

/-- A file of at most 14 MiB fits a slot (R645). -/
def slotBytes : Nat := 14 * 2 ^ 20

/-- The KIND of a part's images (Table 16.8). -/
def imageKind : Part → Nat
  | .sw => 1
  | .ep => 2

/-- What `FW_STAGE_BEGIN` does (R694): the erase begins, and the command is answered when it ends. -/
def Common.fwBegin (c : Common) (z : ZPacket) : Common :=
  let total := pn z.payload 0 4
  match c.stageBusy with
  | some d => c.zAnswer 0x0801 z zBusy d []
  | none =>
    if slotBytes < total then c.zAnswer 0x0801 z 0x0804 0 []
    else if pb z.payload 4 ≠ imageKind c.part then c.zAnswer 0x0801 z 0x0801 0x11 []
    else
      (c.modFw (fun f => { f.put (!f.slotB) {} with staged := none, staging := some { total := total, kind := pb z.payload 4, svn := pb z.payload 5 } })).zHold 0x0801 z 0 none

/-- `FW_STAGE_BEGIN` (R694, R695). -/
def execFwStageBegin (z : ZPacket) (s : State) : Host.Outcome State Fault Refusal := onZc 0x0801 z s (fun c => c.fwBegin z)

/-- The erase of the slot ends, and every `FW_STAGE_BEGIN` in execution is answered. A suspended erase goes on first (R616). -/
def Common.eraseDone (c : Common) : Common :=
  match c.fw.staging with
  | some g =>
    if g.erased ∨ g.suspended then c
    else each ((c.mgmt.executing.filter (fun e => e.op == 0x0801)).map (·.tag)) (c.modFw (fun f => { f with staging := some { g with erased := true } })) (fun c tag => c.endExec 0x0801 tag 0 0 [])
  | none => c

/-- `FLASH_ERASE_COMPLETE` (R694, R616). -/
def execFlashEraseComplete (part : Part) (s : State) : Host.Outcome State Fault Refusal := onPart part s (fun c => c.eraseDone)

/-- What `FW_STAGE_DATA` does (R694): the next piece of the file. Before a slot has been erased no offset is expected. -/
def Common.fwData (c : Common) (z : ZPacket) : Common :=
  let off := pn z.payload 0 4
  let n := pn z.payload 4 2
  match c.stageBusy with
  | some d => c.zAnswer 0x0802 z zBusy d []
  | none =>
    match c.fw.staging with
    | some g =>
      if !g.erased ∨ off ≠ g.data.length ∨ g.total < off + n then c.zAnswer 0x0802 z 0x0803 (g.data.length / 256) []
      else (c.modFw (fun f => { f with staging := some { g with data := g.data ++ (z.payload.drop 8).take n } })).zOk 0x0802 z []
    | none => c.zAnswer 0x0802 z 0x0803 0 []

/-- `FW_STAGE_DATA` (R694, R695). -/
def execFwStageData (z : ZPacket) (s : State) : Host.Outcome State Fault Refusal := onZc 0x0802 z s (fun c => c.fwData z)

/-- Why an image does not verify (Tables 16.7, 16.8, 17.4): the step that fails, or 0x10 digest, 0x11 KIND, 0x12 SVN. -/
def Common.imageBad (c : Common) (g : FwStaging) (digest : List Byte) : Option Nat :=
  let b := g.data
  let size := ln b 8 4
  let block := b.drop (256 + size)
  let root := block.take 97
  let sign := (block.drop 97).take 97
  if b.length ≠ g.total ∨ sha384 b ≠ digest then some 0x10
  else if ln b 0 4 ≠ 0x46574D47 ∨ pb b 4 ≠ 1 ∨ size % 4096 ≠ 0 ∨ g.total ≠ 648 + size ∨ 128 ≤ pb b 6 ∨ 2 ≤ pb b 7 ∨ (b.take 256).drop 16 ≠ List.replicate 240 0 then some 2
  else if pb b 5 ≠ imageKind c.part then some 0x11
  else if !(c.sec.vendorHashes.any (fun h => !h.2 && h.1 == sha384 root)) then some 3
  else if !(ecdsaOk root sign (pn block 194 48) (pn block 242 48) && ecdsaOk sign (b.take (256 + size)) (pn block 292 48) (pn block 340 48)) then some 4
  else if pb b 6 < c.sec.svnFloor then some 0x12
  else none

/-- An image as the part knows it (Table 16.8): its digest is that of measurement block 2. -/
def imageOf (b : List Byte) : FwImage := { digest := sha384 (b.take (256 + ln b 8 4)), version := ln b 12 4, svn := pb b 6, bump := bit (pb b 7) 0 }

/-- A part that no image has booted tries one that verifies (R648). -/
def Common.tryImage (c : Common) : Common :=
  if c.failedBoot then (({ c with biv := { c.biv with wakeAt := c.pick, booted := false } } : Common).setBiv .waking 3).warmCombs else c

/-- What `FW_STAGE_END` does (R587, R647, R694). -/
def Common.fwEnd (c : Common) (z : ZPacket) : Common :=
  match c.stageBusy with
  | some d => c.zAnswer 0x0803 z zBusy d []
  | none =>
    match c.fw.staging with
    | some g =>
      let c1 := c.modFw (fun f => { f with staging := none })
      match c.imageBad g (z.payload.take 48) with
      | some e => (c1.fwEvent 5).zAnswer 0x0803 z 0x0801 e []
      | none =>
        let i := imageOf g.data
        ((c1.modFw (fun f => { f.put (!f.slotB) i with staged := some i })).fwEvent 1).zOk 0x0803 z [] |>.tryImage
    | none => (c.fwEvent 5).zAnswer 0x0803 z 0x0801 0x10 []

/-- `FW_STAGE_END` (R587, R694, R695). -/
def execFwStageEnd (z : ZPacket) (s : State) : Host.Outcome State Fault Refusal := onZc 0x0803 z s (fun c => c.fwEnd z)

/-- The image whose digest begins with some bytes is pending or running (R582). -/
def Common.fwSame (c : Common) (d : List Byte) : Bool :=
  (c.fw.pending.isSome && (match c.fw.staged with | some i => i.digest.take 8 == d | none => false)) || (c.fw.img c.fw.slotB).digest.take 8 == d

/-- What `FW_ACTIVATE` does (R588, R695). -/
def Common.fwActivate (c : Common) (z : ZPacket) : Common :=
  let a := pn z.payload 0 8
  let d := (z.payload.drop 8).take 8
  if c.fwSame d then c.zSame 0x0804 z []
  else
    match c.fw.staged with
    | none => c.zAnswer 0x0804 z 0x0802 0 []
    | some i =>
      if i.digest.take 8 ≠ d then c.zAnswer 0x0804 z 0x0801 0x10 []
      else if a < c.pick + 1000 then c.zAnswer 0x0804 z 0x0112 1 []
      else if c.test.isSome then c.zAnswer 0x0804 z zBusy 0x16 []
      else (c.modFw (fun f => { f with pending := some a })).zOk 0x0804 z []

/-- `FW_ACTIVATE` (R588, R695). -/
def execFwActivate (z : ZPacket) (s : State) : Host.Outcome State Fault Refusal := onZc 0x0804 z s (fun c => c.fwActivate z)

/-- Pick A has come (R588, R591): the management complex restarts on the staged image, which runs on trial. -/
def Common.fwPick (c : Common) : Common :=
  match c.fw.pending with
  | some a =>
    if a ≤ c.pick then
      let c1 := (c.modFw (fun f => { f with slotB := !f.slotB, pending := none, staged := none, restart := true, trial := true, fellBack := false })).fwEvent 2
      { c1 with sec := c1.sec.derive c1.fw.running.digest }
    else c
  | none => c

/-- `FW_ACTIVATION_PICK` (R588). -/
def execFwActivationPick (part : Part) (s : State) : Host.Outcome State Fault Refusal := onPart part s (fun c => c.fwPick)

/-- `FW_RESTART_DONE` (R589). -/
def execFwRestartDone (part : Part) (s : State) : Host.Outcome State Fault Refusal := onPart part s (fun c => c.modFw (fun f => { f with restart := false }))

/-- The trial ends (R591, R647): the image becomes the boot image, or the part restarts on the old one. -/
def Common.trialEnd (c : Common) (passed : Bool) : Common :=
  if !c.fw.trial then c
  else if passed then
    let i := c.fw.img c.fw.slotB
    let c1 := (c.modFw (fun f => { f with trial := false })).fwEvent 3
    if i.bump then { c1 with sec := { c1.sec with svnFloor := max c1.sec.svnFloor i.svn } } else c1
  else
    let c1 := (c.modFw (fun f => { f with slotB := !f.slotB, trial := false, restart := true, fellBack := true })).fwEvent 4
    { c1 with sec := c1.sec.derive c1.fw.running.digest }

/-- `FW_TRIAL_END` (R591, R647). -/
def execFwTrialEnd (part : Part) (passed : Bool) (s : State) : Host.Outcome State Fault Refusal := onPart part s (fun c => c.trialEnd passed)

/-- A guy line at its lands: a part in reset, or without power, only takes note. -/
def Common.guyLand (c : Common) (lineB up : Bool) : Common :=
  if c.held then c.modMgmt (fun m => if lineB then { m with lineB := up } else { m with lineA := up }) else c.guyChange lineB up

/-- `GUY_LINK_CHANGE` (R580, Table 14.9). -/
def execGuyLinkChange (part : Part) (lineB up : Bool) (s : State) : Host.Outcome State Fault Refusal :=
  onRaw part s (fun s => s.mod (fun c => c.guyLand lineB up)) (fun s => s.mod (fun c => c.guyLand lineB up))

end Sys2Proof.Machine
end

