-- ==== Sys2Proof/Machine/RegCore.lean ====
section
/-!
DEFINITION. The meanings of the register commands (spec/18), which both parts take.
-/

namespace Sys2Proof.Machine

/-- A write of a register by software, on one part. -/
def State.regWrite (s : State) (part : Part) (addr value : Nat) : Host.Outcome State Fault Refusal :=
  match part with
  | .sw => onSw s (fun w => (w.write addr value).2)
  | .ep => onEp s (fun e => (e.write addr value).2)

/-- `REGISTER_WRITE` (R16, R709, R714, R719). -/
def execRegisterWrite (part : Part) (addr value : Nat) (s : State) : Host.Outcome State Fault Refusal := s.regWrite part addr value

/-- `VIEW_WRITE` (R17, R18, R706). -/
def execViewWrite (part : Part) (addr value : Nat) (s : State) : Host.Outcome State Fault Refusal := s.regWrite part addr value

/-- `EVENT_REGISTER_CLEAR` (R716). -/
def execEventRegisterClear (part : Part) (addr value : Nat) (s : State) : Host.Outcome State Fault Refusal := s.regWrite part addr value

/-- `LO_WORD_READ` (R118, R713). -/
def execLoWordRead (part : Part) (who : Requester) (addr : Nat) (s : State) : Host.Outcome State Fault Refusal :=
  match part with
  | .sw => onSw s (fun w => (w.read who addr).2)
  | .ep => onEp s (fun e => (e.read who addr).2)

/-- `WP_WRITE_COMPLETE` (R502, R714): the oldest posted write of the block takes effect. -/
def execWpWriteComplete (part : Part) (block : Nat) (s : State) : Host.Outcome State Fault Refusal := onPart part s (fun c => c.wpComplete block)

/-- `ID_CNT_CLEAR` (R723). -/
def execIdCntClear (part : Part) (value : Nat) (s : State) : Host.Outcome State Fault Refusal := onPart part s (fun c => c.clearCounts value)

/-- `TEL_HWM_CLR` (R339). -/
def execTelHwmClr (part : Part) (port value : Nat) (s : State) : Host.Outcome State Fault Refusal := onPort part port s (fun c => c.hwmClr port value)

/-- `THERM_HWM_CLEAR` (R623): any value clears it. -/
def execThermHwmClear (part : Part) (_value : Nat) (s : State) : Host.Outcome State Fault Refusal := onPart part s (fun c => c.wr (pwrA part 0x048) 0)

end Sys2Proof.Machine
end

