-- ==== Sys2Proof/Machine/EpReg.lean ====
section
/-!
DEFINITION. Registers of the end-point reached through the host attachment: `REG_RD` and `REG_WR` (R235, R239, R243, R643, R720), and `EP_PWR_ALERT_IN`.
-/

namespace Sys2Proof.Machine

/-- Management-only pages of the end-point (R643). -/
def managedPage (pg : Nat) : Bool :=
  (decide (0xB0 ≤ pg) && decide (pg < 0xB4)) || (decide (0xC0 ≤ pg) && decide (pg < 0xC9)) || pg == 0xD0 || pg == 0xF0 || pg == 0xF1

/-- A `REG_WR` names a management-only page in `ID_CNT_CLEAR`: it clears nothing (R723). -/
def clearsManaged (a v : Nat) : Bool := decodeAddr .ep a == .reg 0x28 .normal && !bit v 0 && managedPage (v / 0x1000 % 2 ^ 20)

/-- An ignored `REG_WR` is counted (R709, R720). -/
def EpState.countIgnored (s : EpState) (a : Nat) : EpState :=
  match decodeAddr .ep a with
  | .hole => s.mod (fun c => c.bumpLo 0x24)
  | .reg _ _ => s.mod (fun c => c.bumpHi 0x24)

/-- The write of an accepted `REG_WR`; a scrub of R633 ignores it. -/
def EpState.lhaWrite (s : EpState) (a v : Nat) : EpState :=
  if s.c.sec.scrubOn ∨ clearsManaged a v then s.countIgnored a
  else
    match s.write a v with
    | (.taken, s1) => s1
    | (.hole, s1) => s1
    | (_, s1) => s1.mod (fun c => c.bumpHi 0x24)

/-- `REG_WR`: applied, then acknowledged (R243). -/
def EpState.lhaRegWr (s : EpState) (m : LhaMsg) : EpState :=
  if managedPage (m.addr / 0x1000) then s.ersp m stAddress 8 []
  else (s.lhaWrite m.addr (cellOf m.data 0)).ersp m stOk 0 []

/-- `REG_RD`: served on every page (R720). -/
def EpState.lhaRegRd (s : EpState) (m : LhaMsg) : EpState :=
  let r := s.read (.lha m.ctx) m.addr
  r.2.ersp m stOk 0 (beBytes r.1.toNat 16)

/-- `REG_RD` (R239, R713, R720). -/
def execRegRd (m : LhaMsg) (s : State) : Host.Outcome State Fault Refusal := onEpIf (epModule m.module) s (fun s => s.areqMsg m 7 (fun s => s.lhaRegRd m))

/-- `REG_WR` (R239, R243). -/
def execRegWr (m : LhaMsg) (s : State) : Host.Outcome State Fault Refusal := onEpIf (epModule m.module) s (fun s => s.areqMsg m 8 (fun s => s.lhaRegWr m))

/-- `PWR_ALERT_IN_WRITE` (R609, R610): bit 0 is the alert. -/
def execPwrAlertInWrite (value : Nat) (s : State) : Host.Outcome State Fault Refusal := onEp s (fun s => (s.write 0xE0030 value).2)

end Sys2Proof.Machine
end

