-- ==== Sys2Proof/Machine/Security.lean ====
section
/-!
DEFINITION. Owners (R650, R703), enrolled keys and traffic keys (R654, R664), the SPDM responder and its sessions (R652 to R656, R678).
What SPDM 1.2 itself lays down is taken from that standard (notes/assumptions/3.md): the spec names the subset and what a session may do.
-/

namespace Sys2Proof.Machine

/-- Change the security state. -/
def Common.modSec (c : Common) (f : Security → Security) : Common := { c with sec := f c.sec }

/-- The session that a command is enclosed in. -/
def Common.sessionAt (c : Common) (z : ZPacket) : Session := ((z.session).bind (fun k => Tab.find c.sec.sessions k)).getD {}

/-! ### Owners -/

/-- The owner slot in use: the last one written. -/
def Security.ownerSlot (x : Security) : Nat := x.owners.length - 1

/-- What `OWNER_ENROL` does (R650, R703). -/
def Common.ownerEnrol (c : Common) (z : ZPacket) : Common :=
  if c.sec.owned then c.zAnswer 0x0902 z 0x0901 c.sec.ownerSlot []
  else if 8 ≤ c.sec.owners.length then c.zAnswer 0x0902 z 0x0903 0 []
  else
    let c1 := (c.modSec (fun x => { x with owners := x.owners ++ [({ hash := sha384 (c.sessionAt z).chain } : OwnerSlot)] })).secEvent 8 0
    c1.zOk 0x0902 z (beBytes c1.sec.ownerSlot 1 ++ [0, 0, 0])

/-- `OWNER_ENROL` (R650, R703). -/
def execOwnerEnrol (z : ZPacket) (s : State) : Host.Outcome State Fault Refusal := onZc 0x0902 z s (fun c => c.ownerEnrol z)

/-- The 16 bytes that a release signs (R703). -/
def Common.releaseText (c : Common) : List Byte := beBytes c.id.serial 8 ++ beBytes c.sec.ownerSlot 1 ++ List.replicate 7 0

/-- What `OWNER_RELEASE` does (R650, R703). The owner's root key is that of the manager session's chain. -/
def Common.ownerRelease (c : Common) (z : ZPacket) : Common :=
  let key := (c.sessionAt z).chain
  let good := c.sec.owned && (c.sec.owners.getLast?.map (·.hash)) == some (sha384 key) && ecdsaOk key c.releaseText (pn z.payload 0 48) (pn z.payload 48 48)
  if good then
    ((c.modSec (fun x => { x with owners := x.owners.mapIdx (fun i o => if i = x.ownerSlot then { o with released := true } else o) })).secEvent 8 0).zOk 0x0903 z []
  else c.zAnswer 0x0903 z 0x0902 0 []

/-- `OWNER_RELEASE` (R650, R703). -/
def execOwnerRelease (z : ZPacket) (s : State) : Host.Outcome State Fault Refusal := onZc 0x0903 z s (fun c => c.ownerRelease z)

/-! ### Keys of a pitch -/

/-- What `PITCH_ENROL` does (R654, R703). -/
def Common.pitchEnrol (c : Common) (z : ZPacket) : Common :=
  let n := pb z.payload 0
  let e : Enrolment := { tenant := (z.payload.drop 4).take 48, signers := (List.range n).map (fun i => (z.payload.drop (52 + 48 * i)).take 48) }
  (c.modSec (fun x => { x with enrol := Tab.put x.enrol z.index e })).zOk 0x0904 z []

/-- `PITCH_ENROL` (R654). -/
def execPitchEnrol (z : ZPacket) (s : State) : Host.Outcome State Fault Refusal := onZc 0x0904 z s (fun c => c.pitchEnrol z)

/-- The session may set the key of a pitch: a tenant of that pitch, or a manager (R653, R679); an end-point holds the keys of its own pitch only. -/
def Common.mayKey (c : Common) (z : ZPacket) : Bool :=
  (match c.sessionOf z with | some (.tenant p) => p == z.index | some .manager => true | _ => false) &&
  (match c.part with | .sw => true | .ep => z.index == c.rf' 0xF0000 3 0)

/-- What `PITCH_KEY_SET` does (R664, R703): the key goes into the inactive phase. -/
def Common.pitchKeySet (c : Common) (z : ZPacket) : Common :=
  if !c.mayKey z then c.zAnswer 0x0905 z 0x0016 0 []
  else
    let ph := 1 - c.phase z.index
    let k := c.keySlot z.index ph
    ((c.modSec (fun x => { x with keys := Tab.put x.keys k { key := z.payload.take 32 } })).secEvent 6 z.index).zOk 0x0905 z (beBytes ph 1 ++ [0, 0, 0])

/-- `PITCH_KEY_SET` (R664). -/
def execPitchKeySet (z : ZPacket) (s : State) : Host.Outcome State Fault Refusal := onZc 0x0905 z s (fun c => c.pitchKeySet z)

/-! ### SPDM_MSG (R678) -/

/-- What `SPDM_MSG` does (R678). `enclosed`: the TAG of the Zhevseler packet that a secured message holds, which then executes as a command of its own in the session's role;
its reply is the application data of the secured message that answers (`Common.sendReply`). Any other message waits for the responder. -/
def Common.spdmMsg (c : Common) (z : ZPacket) (enclosed : Option Nat) : Common :=
  let k := pn z.payload 0 4
  if k ≠ 0 ∧ (Tab.find c.sec.sessions k).isNone then c.zAnswer 0x0901 z 0x0904 0 []
  else
    match enclosed with
    | some t => if t = z.tag then c else c.zAnswer 0x0901 z zMalformed 32 []
    | none => c.zHold 0x0901 z 0 none

/-- `SPDM_MSG` repeats a command that ended or still executes, and holds that command's packet again: the packet is the duplicate, and is answered as one. -/
def Common.repeatsInner (c : Common) (z : ZPacket) (enclosed : Option Nat) : Bool :=
  enclosed == some z.tag && !z.noReply && (c.mgmt.kept.any (fun k => k.tag == z.tag && k.reply.op != 0x0901) || c.mgmt.executing.any (fun e => e.tag == z.tag && e.op != 0x0901))

/-- `SPDM_MSG` (R678). -/
def execSpdmMsg (z : ZPacket) (enclosed : Option Nat) (s : State) : Host.Outcome State Fault Refusal :=
  onBoth z.part s
    (fun w => if w.c.repeatsInner z enclosed then w else w.zRun 0x0901 z (fun w => { w with c := w.c.spdmMsg z enclosed }))
    (fun e => if e.c.repeatsInner z enclosed then e else e.zRun 0x0901 z (fun e => { e with c := e.c.spdmMsg z enclosed }))

/-! ### The responder (R652) -/

/-- The responder runs: the management complex is up. -/
def Common.spdmUp (c : Common) : Bool := c.biv.st == .awake && !c.fw.restart

/-- The bytes of an SPDM response: inside a session they travel as the application data of a secured message (R652). -/
def Common.spdmBytes (c : Common) (session : Nat) : List Byte :=
  if session = 0 then Config.spdmMessage c.free else Config.securedMessage session (c.keyGen session) c.free (Config.spdmMessage c.free)

/-- An SPDM response is sent: it is kept, and the oldest `SPDM_MSG` in execution is answered in the form of Table 17.6. -/
def Common.spdmSend (c : Common) (x : SpdmRsp) : Common :=
  let c1 := c.modSec (fun y => { y with rsp := y.rsp ++ [x] })
  match (c1.mgmt.executing.find? (fun e => e.op == 0x0901)).map (·.tag) with
  | some tag => ({ c1 with free := c.free + 1 } : Common).endExec 0x0901 tag 0 0 (spdmForm x.session (c.spdmBytes x.session))
  | none => c1

/-- A response that is not signed. -/
def Common.spdmAnswer (c : Common) (req : String) (r : SpdmReq) (ok : Bool) (blocks : List (Nat × List Byte)) : Common :=
  c.spdmSend { req := req, session := r.session, ok := ok, blocks := blocks }

/-- A response that the alias key signs (R649), where the request succeeds. -/
def Common.spdmSigned (c : Common) (req : String) (r : SpdmReq) (ok : Bool) (blocks : List (Nat × List Byte)) : Common :=
  c.spdmSend { req := req, session := r.session, ok := ok, blocks := blocks, signer := if ok then c.sec.keysAtBoot.cert.subject else [] }

/-- A request that carries no state of its own: it is answered when the connection has come to a stage. -/
def Common.spdmPlain (c : Common) (req : String) (r : SpdmReq) (stage : Nat) : Common := c.spdmAnswer req r (decide (stage ≤ c.sec.negotiated)) []

/-- A step of the negotiation: it must follow the one before it. -/
def Common.spdmStep (c : Common) (req : String) (r : SpdmReq) (stage : Nat) : Common :=
  if c.sec.negotiated + 1 = stage ∨ c.sec.negotiated = stage then (c.modSec (fun x => { x with negotiated := stage })).spdmAnswer req r true []
  else c.spdmAnswer req r false []

/-- A request acts on the part that it reaches, while its responder runs. -/
def onSpdm (r : SpdmReq) (s : State) (f : Common → Common) : Host.Outcome State Fault Refusal :=
  onPart r.part s (fun c => if c.spdmUp then f c else c)

/-- `GET_VERSION` (R652): the connection begins afresh. -/
def execGetVersion (r : SpdmReq) (s : State) : Host.Outcome State Fault Refusal :=
  onSpdm r s (fun c => (c.modSec (fun x => { x with negotiated := 1 })).spdmAnswer "GET_VERSION" r true [])

/-- `GET_CAPABILITIES` (R652). -/
def execGetCapabilities (r : SpdmReq) (s : State) : Host.Outcome State Fault Refusal := onSpdm r s (fun c => c.spdmStep "GET_CAPABILITIES" r 2)

/-- `NEGOTIATE_ALGORITHMS` (R652). -/
def execNegotiateAlgorithms (r : SpdmReq) (s : State) : Host.Outcome State Fault Refusal := onSpdm r s (fun c => c.spdmStep "NEGOTIATE_ALGORITHMS" r 3)

/-- `GET_DIGESTS` (R652). -/
def execGetDigests (r : SpdmReq) (s : State) : Host.Outcome State Fault Refusal := onSpdm r s (fun c => c.spdmPlain "GET_DIGESTS" r 3)

/-- The chain of certificate slot 0 below the Palehus root (Table 16.9): the identity certificate, which lies in flash, and the alias certificate of this boot. -/
def Common.chain0 (c : Common) : List KeyCert := [{ subject := c.sec.keysAtBoot.cert.issuer }, c.sec.keysAtBoot.cert]

/-- `GET_CERTIFICATE` (R649, R652): slot 0 holds the chain of Table 16.9. -/
def execGetCertificate (r : SpdmReq) (s : State) : Host.Outcome State Fault Refusal :=
  onSpdm r s (fun c => if r.index = 0 then c.spdmSend { req := "GET_CERTIFICATE", session := r.session, ok := decide (3 ≤ c.sec.negotiated), certs := if 3 ≤ c.sec.negotiated then c.chain0 else [] } else c.spdmAnswer "GET_CERTIFICATE" r false [])

/-- `CHALLENGE` (R649, R652): signed with the alias key of slot 0. -/
def execChallenge (r : SpdmReq) (s : State) : Host.Outcome State Fault Refusal :=
  onSpdm r s (fun c => if r.index = 0 then c.spdmSigned "CHALLENGE" r (decide (3 ≤ c.sec.negotiated)) [] else c.spdmAnswer "CHALLENGE" r false [])

/-- The role that a requester's chain gives (R653). -/
def Common.roleOfChain (c : Common) (chain : List Byte) : SessionRole :=
  if chain = [] then .measure
  else
    let h := sha384 chain
    if c.sec.owned ∧ (c.sec.owners.getLast?.map (·.hash)) = some h then .manager
    else
      match (List.range 16).find? (fun p => (Tab.get c.sec.enrol {} p).tenant == h) with
      | some p => .tenant p
      | none => .session

/-- The pitch that a session event names. -/
def SessionRole.pitch : SessionRole → Nat
  | .tenant p => p
  | _ => 0

/-- `KEY_EXCHANGE` opens a session, up to eight at once (R652, R653); the alias key signs it (R649). -/
def Common.keyExchange (c : Common) (r : SpdmReq) : Common :=
  let ok := decide (3 ≤ c.sec.negotiated) && r.good && r.session != 0 && (Tab.find c.sec.sessions r.session).isNone && decide (c.sec.sessions.length < 8)
  if !ok then c.spdmAnswer "KEY_EXCHANGE" r false []
  else
    let role := c.roleOfChain r.chain
    ((c.modSec (fun x => { x with sessions := Tab.put x.sessions r.session { role := role, chain := r.chain } })).secEvent 3 role.pitch).spdmSigned "KEY_EXCHANGE" r true []

/-- `KEY_EXCHANGE` (R653). -/
def execKeyExchange (r : SpdmReq) (s : State) : Host.Outcome State Fault Refusal := onSpdm r s (fun c => c.keyExchange r)

/-- A session closes. -/
def Common.closeSession (c : Common) (k : Nat) : Common :=
  match Tab.find c.sec.sessions k with
  | some x => (c.modSec (fun y => { y with sessions := Tab.del y.sessions k })).secEvent 4 x.role.pitch
  | none => c

/-- `FINISH` completes the handshake; one that does not authenticate closes the session. -/
def Common.finishSession (c : Common) (r : SpdmReq) : Common :=
  match Tab.find c.sec.sessions r.session with
  | some x =>
    if x.established then c.spdmAnswer "FINISH" r false []
    else if r.good then (c.modSec (fun y => { y with sessions := Tab.put y.sessions r.session { x with established := true } })).spdmAnswer "FINISH" r true []
    else (c.closeSession r.session).spdmAnswer "FINISH" r false []
  | none => c.spdmAnswer "FINISH" r false []

/-- `FINISH` (R652). -/
def execFinish (r : SpdmReq) (s : State) : Host.Outcome State Fault Refusal := onSpdm r s (fun c => c.finishSession r)

/-- A session is established. -/
def Common.sessionUp (c : Common) (k : Nat) : Bool :=
  match Tab.find c.sec.sessions k with
  | some x => x.established
  | none => false

/-- `HEARTBEAT` (R652). -/
def execHeartbeat (r : SpdmReq) (s : State) : Host.Outcome State Fault Refusal := onSpdm r s (fun c => c.spdmAnswer "HEARTBEAT" r (c.sessionUp r.session) [])

/-- `KEY_UPDATE` refreshes the session's keys. -/
def Common.keyUpdate (c : Common) (r : SpdmReq) : Common :=
  if c.sessionUp r.session then
    (c.modSec (fun x => { x with sessions := Tab.upd x.sessions {} r.session (fun y => { y with keyGen := y.keyGen + 1 }) })).spdmAnswer "KEY_UPDATE" r true []
  else c.spdmAnswer "KEY_UPDATE" r false []

/-- `KEY_UPDATE` (R652). -/
def execKeyUpdate (r : SpdmReq) (s : State) : Host.Outcome State Fault Refusal := onSpdm r s (fun c => c.keyUpdate r)

/-- `END_SESSION` closes a session: its answer leaves first. -/
def Common.endSession (c : Common) (r : SpdmReq) : Common :=
  if c.sessionUp r.session then (c.spdmAnswer "END_SESSION" r true []).closeSession r.session else c.spdmAnswer "END_SESSION" r false []

/-- `END_SESSION` (R652). -/
def execEndSession (r : SpdmReq) (s : State) : Host.Outcome State Fault Refusal := onSpdm r s (fun c => c.endSession r)

/-! ### Measurements (R655, R656) -/

/-- Blocks 1 to 4 (Table 16.10); values little-endian, each in the bytes that hold it. -/
def Common.bootBlocks (c : Common) : List (Nat × List Byte) :=
  [(1, c.sec.romDigest), (2, c.sec.bootDigest),
   (3, leBytes (c.fw.img c.fw.slotB).svn 1 ++ leBytes (c.fw.img c.fw.slotB).version 4 ++ leBytes c.sec.svnFloor 1 ++ leBytes (b2n c.fw.slotB) 1),
   (4, leBytes c.sec.ownerSlot 1 ++ leBytes (b2n c.sec.debugLock) 1 ++ leBytes (b2n c.sec.unlocked) 1)]

/-- Traffic key phases installed for a pitch. -/
def Common.phases (c : Common) (p : Nat) : Nat := b2n (Tab.find c.sec.keys (c.keySlot p 0)).isSome + 2 * b2n (Tab.find c.sec.keys (c.keySlot p 1)).isSome

/-- The enrolled hashes of a pitch. -/
def Common.enrolBytes (c : Common) (p : Nat) : List Byte := let e := Tab.get c.sec.enrol {} p; e.tenant ++ e.signers.flatten

/-- Block 0x20 + p on the switch. -/
def Common.pitchBlock (c : Common) (p : Nat) : Nat × List Byte :=
  let a := 0x900000 + p * 0x20
  (0x20 + p, leBytes (c.rf' a 3 0) 1 ++ leBytes (c.rd (a + 0x14)).toNat 4 ++ leBytes (c.rd (a + 0x18)).toNat 4 ++ c.enrolBytes p ++ leBytes (c.phases p) 1)

/-- Block 0x40 + s: a slot that is empty, or not loaded for the tenant's pitch, reads as an empty slot. -/
def SwState.slotBlock (s : SwState) (who : Option Nat) (k : Nat) : Nat × List Byte :=
  let seen := (Tab.find s.progs k).filter (fun p => match who with | some q => p.pitch == q | none => true)
  (0x40 + k, match seen with
    | some p => leBytes 1 1 ++ leBytes p.pitch 1 ++ p.digest
    | none => leBytes 0 1 ++ leBytes 0 1 ++ List.replicate 48 0)

/-- Block 0x20 + p on the end-point. -/
def Common.epPitchBlock (c : Common) (p : Nat) : Nat × List Byte :=
  let own := c.rf' 0xF0000 3 0 == p
  let r := c.rd 0xC8000
  (0x20 + p, leBytes (if own then 1 + 4 * c.rf' 0xF0000 4 4 else 0) 1 ++ leBytes 0 8 ++ c.enrolBytes p ++ leBytes (if own then c.phases p else 0) 1 ++
    leBytes (if own then fld r 7 0 else 0) 1 ++ leBytes (if own then fld r 27 16 else 0) 2)

/-- Block 0x80 + m: a measurement slot. -/
def EpState.measBlock (s : EpState) (m : Nat) : Nat × List Byte :=
  let x := Tab.get s.meas {} m
  (0x80 + m, x.digest ++ leBytes x.count 4 ++ leBytes x.bytes 8 ++ leBytes (b2n x.broken) 1 ++ leBytes x.pitch 1)

/-- Whose blocks a role may read (R656): none for those of no pitch, a pitch, or every one. -/
inductive BlockScope where
  | boot
  | pitch (p : Nat)
  | all
  deriving DecidableEq, Repr

/-- The scope of a session; a message outside a session reads what one without mutual authentication does. -/
def Common.scope (c : Common) (k : Nat) : BlockScope :=
  match Tab.find c.sec.sessions k with
  | some x => if x.established then (match x.role with | .manager => .all | .tenant p => .pitch p | _ => .boot) else .boot
  | none => .boot

/-- Blocks of the switch for a scope. -/
def SwState.blocks (s : SwState) (sc : BlockScope) : List (Nat × List Byte) :=
  s.c.bootBlocks ++ match sc with
    | .boot => []
    | .pitch p => s.c.pitchBlock p :: (List.range 64).map (fun k => s.slotBlock (some p) k)
    | .all => (List.range 16).map (fun p => s.c.pitchBlock p) ++ (List.range 64).map (fun k => s.slotBlock none k)

/-- Blocks of the end-point for a scope. -/
def EpState.blocks (s : EpState) (sc : BlockScope) : List (Nat × List Byte) :=
  let rx : Nat × List Byte := (0x90, leBytes (s.c.rd 0x70018).toNat 4 ++ leBytes (s.c.rd 0x7001C).toNat 4)
  s.c.bootBlocks ++ match sc with
    | .boot => []
    | .pitch p =>
      s.c.epPitchBlock p :: ((List.range 16).filter (fun m => (Tab.get s.meas {} m).pitch == p)).map (fun m => s.measBlock m) ++ (if s.c.rf' 0xF0000 3 0 = p then [rx] else [])
    | .all => (List.range 16).map (fun p => s.c.epPitchBlock p) ++ (List.range 16).map (fun m => s.measBlock m) ++ [rx]

/-- The blocks that a request asks for: every one, or one by its index. -/
def askedBlocks (index : Nat) (l : List (Nat × List Byte)) : List (Nat × List Byte) := if index = 0xFF then l else l.filter (fun b => b.1 == index)

/-- `GET_MEASUREMENTS` (R655, R656): the answer is signed with the alias key. -/
def execGetMeasurements (r : SpdmReq) (s : State) : Host.Outcome State Fault Refusal :=
  let put := fun (c : Common) (l : List (Nat × List Byte)) => if c.spdmUp then c.spdmSigned "GET_MEASUREMENTS" r (decide (3 ≤ c.sec.negotiated)) (if 3 ≤ c.sec.negotiated then askedBlocks r.index l else []) else c
  onBoth r.part s (fun w => w.mod (fun c => put c (w.blocks (w.c.scope r.session)))) (fun e => e.mod (fun c => put c (e.blocks (e.c.scope r.session))))

end Sys2Proof.Machine
end

