-- ==== Sys2Proof/Machine/Zhevseler.lean ====
section
/-!
DEFINITION. The Zhevseler commands that belong to no one chapter (spec/17): identity, register access with its scopes (R638, R642, R685, R686), relays (R677), ports (R698), collectives (R697), translation (R702);
kept tags (R581), rejected packets (R672), the I3C target (R676) and the guy lines' addresses (R674).
-/

namespace Sys2Proof.Machine

/-! ### `IDENTIFY` and `ECHO` -/

/-- The 40 bytes of `IDENTIFY` (Table 17.6); `dom` and `place` are the part's domain and its plane or node. -/
def Common.identity (c : Common) (dom place : Nat) : List Byte :=
  let sw := c.part == .sw
  let img := if c.fw.slotB then c.fw.imgB else c.fw.imgA
  beBytes (if sw then 1 else 2) 2 ++ [1, 1] ++ beBytes c.id.serial 8 ++ [if sw then 0xB0 else 0xA2, if sw then 0xA1 else 0, 1, if sw then 0 else 1] ++
  beBytes img.version 4 ++ beBytes (dom % 4096) 2 ++ beBytes place 1 ++
  beBytes (b2n c.admitted + 2 * b2n (c.biv.st == .bivouac) + 4 * b2n c.fw.restart) 1 ++ beBytes c.id.macA 6 ++ [0, 0] ++ beBytes c.id.macB 6 ++ [0, 0]

/-- `IDENTIFY` (R674, R684). -/
def execIdentify (z : ZPacket) (s : State) : Host.Outcome State Fault Refusal :=
  onZ 1 z s (fun w => w.mod (fun c => c.zOk 1 z (c.identity c.swDomain c.plane))) (fun e => e.mod (fun c => c.zOk 1 z (c.identity e.domain e.node)))

/-- `ECHO` (R684). -/
def execEcho (z : ZPacket) (s : State) : Host.Outcome State Fault Refusal := onZc 4 z s (fun c => c.zOk 4 z z.payload)

/-! ### Register access (R685, R686) -/

/-- An address lies in one of a list of ranges, bounds included. -/
def inRanges (l : List (Nat × Nat)) (a : Nat) : Bool := l.any (fun r => decide (r.1 ≤ a) && decide (a ≤ r.2))

/-- The ranges that every sender may read (R685). -/
def openRanges : Part → List (Nat × Nat)
  | .sw => [(0, 0xFFF), (0x20000, 0x20FFF), (0x40000, 0x400FF), (0x80000, 0x8003F), (0xA00000, 0xA0003F), (0xA00100, 0xA0013F), (0xA00300, 0xA0031F)]
  | .ep => [(0, 0xFFF), (0xE1000, 0xE1FFF), (0xE0000, 0xE00FF), (0xF0000, 0xF003F), (0xD0000, 0xD003F), (0xD0100, 0xD013F), (0xD0300, 0xD031F)]

/-- The port whose registers an address names: link and egress registers, samples, and the port's part of its photonic engine. -/
def portOfReg (p : Part) (a : Nat) : Option Nat :=
  match linkPlace p a, telPlace p a with
  | some x, _ => some x.1
  | none, some x => some x.1
  | none, none =>
    let per := match p with | .sw => 16 | .ep => 8
    let top := peA p (engineCount p) 0
    if peA p 0 0 ≤ a ∧ a < top ∧ 0x40 ≤ a % 0x1000 ∧ a % 0x1000 < 0x40 + per * 0x20 then some ((a - peA p 0 0) / 0x1000 * 16 + (a % 0x1000 - 0x40) / 0x20) else none

/-- The pitch by which a register of the switch is indexed, and the shaper of a pitch on a selvedge port. -/
def pitchIndex (a : Nat) : Option Nat :=
  if 0x501000 ≤ a ∧ a < 0x501100 then some ((a - 0x501000) / 0x10)
  else if 0x701000 ≤ a ∧ a < 0x701100 then some ((a - 0x701000) / 0x10)
  else if 0x900000 ≤ a ∧ a < 0x900200 then some ((a - 0x900000) / 0x20)
  else if 0x100000 ≤ a ∧ a < 0x220000 ∧ 0x3C0 ≤ a % 0x1000 ∧ a % 0x1000 < 0x400 then some ((a % 0x1000 - 0x3C0) / 4)
  else none

/-- What a tenant of pitch p reads on the switch (R642). -/
def SwState.tenantReads (s : SwState) (p a : Nat) : Bool :=
  let c := s.c
  (match portOfReg .sw a with | some n => decide (n < 256) && c.portPitch n == p | none => false) ||
  pitchIndex a == some p ||
  (if 0x510000 ≤ a ∧ a < 0x530000 then flag (c.rd (a / 8 * 8)) 0 && c.rf' (a / 8 * 8) 7 4 == p
   else if 0x710000 ≤ a ∧ a < 0x718000 then flag (c.rd (a / 8 * 8)) 0 && c.rf' (a / 8 * 8) 7 4 == p
   else if 0x740000 ≤ a ∧ a < 0x750000 then flag (c.rd (a / 0x40 * 0x40)) 0 && c.rf' (a / 0x40 * 0x40) 7 4 == p
   else if 0x680000 ≤ a ∧ a < 0x681000 then (match Tab.find s.progs ((a - 0x680000) / 0x40) with | some g => g.pitch == p | none => false)
   else if 0x600000 ≤ a ∧ a < 0x640000 then c.corePitch ((a - 0x600000) / 0x1000) == some p
   else false)

/-- What a tenant of pitch p reads on the end-point (R642): its ports, while they belong to p. -/
def EpState.tenantReads (s : EpState) (p a : Nat) : Bool := s.pitch == p && (portOfReg .ep a).isSome

/-- The sender may read a register (R638, R642, R685). No register of either part shows a scratchpad, a cache share or a DRAM share. -/
def Common.zMayRead (c : Common) (z : ZPacket) (tenant : Nat → Nat → Bool) (a : Nat) : Bool :=
  match c.sessionOf z with
  | some .manager => true
  | some (.tenant p) => tenant p a
  | _ => inRanges (openRanges c.part) a

/-- The owner of what a `REG_READ` captures (R713). -/
def ZPacket.who (z : ZPacket) : Requester := match z.session with | some k => .session k | none => .transport z.transport

/-- Read consecutive registers: a word that the sender may not read is zero. The words, whether one was withheld, and the part afterwards. -/
def readWords {α : Type} (read : α → Nat → Reg × α) (may : Nat → Bool) : Nat → Nat → α → List Byte × Bool × α
  | 0, _, s => ([], false, s)
  | n + 1, a, s =>
    if may a then
      let r := read s a
      let t := readWords read may n (a + 4) r.2
      (beBytes r.1.toNat 4 ++ t.1, t.2.1, t.2.2)
    else
      let t := readWords read may n (a + 4) s
      (beBytes 0 4 ++ t.1, true, t.2.2)

/-- `REG_READ` on the switch. -/
def SwState.zRead (w : SwState) (z : ZPacket) : SwState :=
  let r := readWords (fun (w : SwState) a => w.read z.who a) (w.c.zMayRead z w.tenantReads) (pn z.payload 4 2) (pn z.payload 0 4) w
  r.2.2.mod (fun c => c.zAnswer 2 z (if r.2.1 then 0x16 else 0) 0 r.1)

/-- `REG_READ` on the end-point. -/
def EpState.zRead (e : EpState) (z : ZPacket) : EpState :=
  let r := readWords (fun (e : EpState) a => e.read z.who a) (e.c.zMayRead z e.tenantReads) (pn z.payload 4 2) (pn z.payload 0 4) e
  r.2.2.mod (fun c => c.zAnswer 2 z (if r.2.1 then 0x16 else 0) 0 r.1)

/-- `REG_READ` (R638, R642, R685). -/
def execRegRead (z : ZPacket) (s : State) : Host.Outcome State Fault Refusal := onZ 2 z s (fun w => w.zRead z) (fun e => e.zRead z)

/-- The answer to a write (R686, R720). -/
def Common.zWrote (c : Common) (z : ZPacket) (r : Wrote) : Common := if r.detail = 0 then c.zOk 3 z [] else c.zAnswer 3 z 0x20 r.detail []

/-- `REG_WRITE` (R686). -/
def execRegWriteCmd (z : ZPacket) (s : State) : Host.Outcome State Fault Refusal :=
  onZ 3 z s (fun w => let r := w.write (pn z.payload 0 4) (pn z.payload 4 4); r.2.mod (fun c => c.zWrote z r.1))
    (fun e => let r := e.write (pn z.payload 0 4) (pn z.payload 4 4); r.2.mod (fun c => c.zWrote z r.1))

/-! ### Relays (R675, R677) -/

/-- TAG of the packet that a `RELAY` encloses. -/
def ZPacket.innerTag (z : ZPacket) : Nat := pn z.payload 12 4

/-- `RELAY` on the switch: the enclosed packet leaves on the switch's own plane toward a node; any other way leads nowhere from a switch. -/
def SwState.zRelay (w : SwState) (z : ZPacket) : SwState :=
  let b := z.payload
  let w1 := w.mod (fun c => c.zHold 5 z z.innerTag none)
  if pb b 0 = w.c.plane ∧ pb b 1 = 1 then
    w1.toNode (pb b 2) (mgmtPacket 0 (pb b 2) (((w.c.aliasOf (pb b 2)).map (fun o => w.c.portPitch o)).getD 0) 1 (b.drop 4))
  else w1

/-- `RELAY` on the end-point: the enclosed packet leaves on the plane named, where that port is in service. -/
def EpState.zRelay (e : EpState) (z : ZPacket) : EpState :=
  let b := z.payload
  let e1 := e.mod (fun c => c.zHold 5 z z.innerTag none)
  if (e.c.port (pb b 0)).inService then
    e1.putPacket (pb b 0) (mgmtPacket e.node (if pb b 1 = 0 then 0 else pb b 2) e.pitch (pb b 1) (b.drop 4)) false
  else e1

/-- `RELAY` (R677). -/
def execRelay (z : ZPacket) (s : State) : Host.Outcome State Fault Refusal := onZ 5 z s (fun w => w.zRelay z) (fun e => e.zRelay z)

/-- A reply arrives in-band (R671, R677): the oldest `RELAY` that enclosed its tag ends with it; one that no command of the part's waits for is dropped. -/
def Common.relayBack (c : Common) (tag : Nat) (enclosed : List Byte) : Common :=
  match c.mgmt.executing.find? (fun e => e.op == 5 && e.inner == tag) with
  | some e => c.endExec 5 e.tag 0 0 enclosed
  | none => c.zReject

/-- `RELAY_REPLY` (R677). -/
def execRelayReply (part : Part) (tag : Nat) (enclosed : List Byte) (s : State) : Host.Outcome State Fault Refusal := onPart part s (fun c => c.relayBack tag enclosed)

/-- `RELAY_TIMEOUT` (R677). -/
def execRelayTimeout (part : Part) (tag : Nat) (s : State) : Host.Outcome State Fault Refusal := onPart part s (fun c => c.endExec 5 tag 0x30 0 [])

/-! ### Ports (R582, R698) -/

/-- `PORT_RAISE` on a part: the reply reports the port's state at acceptance, before the raise that it starts. -/
def Common.zRaise (c : Common) (z : ZPacket) : Common :=
  let data := beBytes (c.port z.index).t.st.code 1 ++ [0, 0, 0]
  if (c.port z.index).t.st ≠ .struck then c.zSame 0x0201 z data else (c.cmdRaise z.index).zOk 0x0201 z data

/-- `PORT_RAISE` (R538, R582, R698). -/
def execPortRaise (z : ZPacket) (s : State) : Host.Outcome State Fault Refusal := onZc 0x0201 z s (fun c => c.zRaise z)

/-- `PORT_STRIKE` on a part: it is struck from step 1 of Table 13.13 on, so the reply leaves at once. -/
def Common.zStrike (c : Common) (z : ZPacket) : Common :=
  if (c.port z.index).t.st = .struck then c.zSame 0x0202 z [] else (c.strikeOrderly z.index causeCommand (bit (pb z.payload 0) 0)).zOk 0x0202 z []

/-- `PORT_STRIKE` (R546, R548, R582, R698). -/
def execPortStrike (z : ZPacket) (s : State) : Host.Outcome State Fault Refusal := onZc 0x0202 z s (fun c => c.zStrike z)

/-! ### Collectives (R377, R379, R697) -/

/-- What the switch knows of a collective (R697): the reply data of Table 17.6, and whether it is still open. `none` where neither a record nor an open collective is there. -/
def SwState.collKnown (w : SwState) (h g seq : Nat) : Option (List Byte × Bool) :=
  match w.openColl g seq with
  | some r => if r.handle = h then some (beBytes (if r.st = .running then 2 else 3) 1 ++ List.replicate 35 0, true) else none
  | none =>
    match (w.grp g).record seq with
    | some k => if k.handle = h then some (beBytes 1 1 ++ [0, 0, 0] ++ beBytes k.c0 16 ++ beBytes k.c1 16, false) else none
    | none => none

/-- `COLL_ABORT` (R377, R697): the abort cause arrives now, and the reply comes once the collective has committed. -/
def SwState.zAbort (w : SwState) (z : ZPacket) : SwState :=
  let h := pn z.payload 0 2
  let g := pn z.payload 2 2
  let seq := pn z.payload 4 4
  match w.collKnown h g seq with
  | none => w.mod (fun c => c.zAnswer 0x0501 z zNotFound 0 [])
  | some (data, false) => w.mod (fun c => c.zSame 0x0501 z data)
  | some (_, true) =>
    let w1 := match w.openColl g seq with | some r => w.managerStop r | none => w
    w1.mod (fun c => c.zHold 0x0501 z 0 (some (h, g, seq)))

/-- `COLL_ABORT` (R377, R582, R697). -/
def execCollAbort (z : ZPacket) (s : State) : Host.Outcome State Fault Refusal := onZ 0x0501 z s (fun w => w.zAbort z) (fun e => e)

/-- At a boundary, after the collectives have settled, every `COLL_ABORT` whose collective is no longer open is answered (R697). -/
def SwState.collReplies (w : SwState) : SwState :=
  each (w.c.mgmt.executing.filter (fun (x : ZExec) => x.op == 0x0501)) w (fun w x =>
    match x.coll with
    | some (h, g, seq) =>
      match w.collKnown h g seq with
      | some (_, true) => w
      | some (data, false) => w.mod (fun c => c.endExec 0x0501 x.tag 0 0 data)
      | none => w.mod (fun c => c.endExec 0x0501 x.tag zNotFound 0 [])
    | none => w)

/-- `COLL_STATUS` (R379, R697). -/
def SwState.zStatus (w : SwState) (z : ZPacket) : SwState :=
  let h := pn z.payload 0 2
  let a := w.c.handleA h
  let foreign : Bool := match w.c.sessionOf z with | some (.tenant p) => flag a 0 && fld a 7 4 != p | _ => false
  if foreign then w.mod (fun c => c.zAnswer 0x0502 z 0x16 0 [])
  else
    match w.collKnown h (pn z.payload 2 2) (pn z.payload 4 4) with
    | none => w.mod (fun c => c.zAnswer 0x0502 z zNotFound 0 [])
    | some d => w.mod (fun c => c.zOk 0x0502 z d.1)

/-- `COLL_STATUS` (R379, R697). -/
def execCollStatus (z : ZPacket) (s : State) : Host.Outcome State Fault Refusal := onZ 0x0502 z s (fun w => w.zStatus z) (fun e => e)

/-! ### Translation (R702) -/

/-- `XLT_CMD` (R208, R702): the command joins those of the ring, and its completion record is the reply. -/
def execXltCmd (z : ZPacket) (s : State) : Host.Outcome State Fault Refusal :=
  onZ 0x0701 z s (fun w => w) (fun e => (e.mod (fun c => c.zHold 0x0701 z 0 none)).xqFromMgmt z.tag z.payload)

/-! ### Kept tags and rejected packets -/

/-- `TAG_RECORD_EXPIRED` (R581, R681): a record of 10 s or more is dropped. -/
def execTagRecordExpired (part : Part) (tag : Nat) (s : State) : Host.Outcome State Fault Refusal :=
  onPart part s (fun c => c.modMgmt (fun m => { m with kept := m.kept.filter (fun (k : ZKept) => !(k.tag == tag && decide (k.at_ + 10000000 ≤ c.pick))) }))

/-- A packet that no row of Table 17.5 takes, or that fails its first check (R671, R672). A packet that passes every check is left to its own row. -/
def Common.zBad (c : Common) (z : ZPacket) (magic op : Nat) : Common :=
  if !c.lineUp z then c
  else if magic ≠ 0x5A48 then (c.i3cClear z).zReject
  else
    let g := c.gate op z
    if g.2 then c else g.1

/-- `ZHEVSELER_PACKET_REJECTED` (R671, R672). -/
def execZhevselerPacketRejected (z : ZPacket) (magic opcode : Nat) (s : State) : Host.Outcome State Fault Refusal := onPart z.part s (fun c => c.zBad z magic opcode)

/-- A packet that breaks Table 2.7 reaches an end-point: an answerable one is answered MALFORMED, any other is dropped. A packet that keeps the table is left to its own row. -/
def EpState.reserved (s : EpState) (plane : Nat) (p : Packet) : EpState :=
  if opListed p.op && vcAllowed p.op p.vc && lenAllowed p then s
  else s.arrive plane p (fun s p => if isRequest p.op || !opListed p.op then s.homeArrive plane p else if p.op = opMsgSend then s.msgTake plane p else s)

/-- `RESERVED_OPCODE_PACKET` (R50, R53). -/
def execReservedOpcodePacket (plane : Nat) (p : Packet) (s : State) : Host.Outcome State Fault Refusal := onEpIf (epPlane plane) s (fun s => s.reserved plane p)

/-! ### I3C and the guy lines' addresses -/

/-- `I3C_PRIVATE_READ` (R676): the whole reply, once; a read with no reply ready is NACKed and changes nothing. -/
def execI3cPrivateRead (part : Part) (s : State) : Host.Outcome State Fault Refusal :=
  onPart part s (fun c => c.modMgmt (fun m => { m with i3cReply := none, replies := m.replies ++ m.i3cReply.toList }))

/-- `ENTDAA` (R676): a dynamic address of 7 bits. -/
def execEntdaa (part : Part) (addr : Nat) (s : State) : Host.Outcome State Fault Refusal := onPart part s (fun c => c.modMgmt (fun m => { m with i3cAddr := some (addr % 128) }))

/-- A guy line answers for an address (R674). -/
def Common.lineAnswers (c : Common) (lineB : Bool) (addr : Nat) : Common := c.modMgmt (fun m => { m with neigh := m.neigh ++ [(lineB, addr)] })

/-- A guy line is up. -/
def Common.guyUp (c : Common) (lineB : Bool) : Bool := if lineB then c.mgmt.lineB else c.mgmt.lineA

/-- IPv4 address of a guy line in force; 0 for none. -/
def Common.guyIpv4 (c : Common) (lineB : Bool) : Nat := (c.rdForce (resA c.part (if lineB then 0x01C else 0x018))).toNat

/-- IPv6 link-local address of a guy line: the prefix FE80::/64 and the modified EUI-64 of its MAC address (RFC 4291). -/
def Common.guyIpv6 (c : Common) (lineB : Bool) : Nat :=
  let mac := if lineB then c.id.macB else c.id.macA
  0xFE80 * 2 ^ 112 + (mac / 2 ^ 24 % 2 ^ 24 ^^^ 0x020000) * 2 ^ 40 + 0xFFFE * 2 ^ 24 + mac % 2 ^ 24

/-- `ARP_REQUEST` (R674). -/
def execArpRequest (part : Part) (lineB : Bool) (addr : Nat) (s : State) : Host.Outcome State Fault Refusal :=
  onPart part s (fun c => if c.guyUp lineB ∧ addr ≠ 0 ∧ addr = c.guyIpv4 lineB then c.lineAnswers lineB addr else c)

/-- `NEIGHBOUR_SOLICIT` (R674). -/
def execNeighbourSolicit (part : Part) (lineB : Bool) (addr : Nat) (s : State) : Host.Outcome State Fault Refusal :=
  onPart part s (fun c => if c.guyUp lineB ∧ addr = c.guyIpv6 lineB then c.lineAnswers lineB addr else c)

end Sys2Proof.Machine
end

