-- ==== Sys2Proof/Machine/Boundary.lean ====
section
/-!
DEFINITION. `PICK_BOUNDARY` (R33): everything that a part does at a pick boundary, in one order (notes/assumptions/22.md): the pick opens, scheduled changes commit, limits and gates are set,
failures take effect, ports and light do their work, the core and the collectives settle, bivouac is entered.
-/

namespace Sys2Proof.Machine

/-! ### Optical reports (R485) -/

/-- The payload of an optical report (Table 12.8). -/
def Common.reportPayload (c : Common) (n : Nat) : List Byte :=
  let p := c.port n
  beBytes n 2 ++ beBytes (b2n p.t.commonRef) 1 ++ beBytes p.width 1 ++ beBytes (twos 16 p.op.tap) 2 ++ beBytes (twos 16 p.op.rxIn) 2 ++ beBytes c.pick 8 ++
  (List.range 34).flatMap (fun ch => beBytes (if roleOf p.t.roles ch = 0x22 then 0x8000 else twos 16 (Tab.get p.op.drop 0 ch)) 2) ++ List.replicate 12 0

/-- The Zhevseler bytes of an optical report: a notice of 112 bytes. -/
def Common.reportBytes (c : Common) (n : Nat) : List Byte := zBytes 2 0x0210 0 0 0 (c.reportPayload n)

/-- Ports that get a report in this pick: the raised ones, in a quiet pick. -/
def Common.reportPorts (c : Common) : List Nat := if quiet c.pick then c.listed.filter (fun n => (c.port n).t.st == .raised) else []

/-- The switch sends its reports: toward the node of a domain port, toward the far switch on a selvedge port; none to a fenced node (R572). -/
def SwState.sendReports (s : SwState) : SwState :=
  each (s.c.reportPorts.filter (fun n => !s.c.fencedPort n)) s (fun s n =>
    let far := selvedge .sw n
    s.originate n (mgmtPacket 0 (if far then 0 else (s.c.nodeAt n).getD 0) (if far then 0 else s.c.portPitch n) (if far then 0 else 1) (s.c.reportBytes n)))

/-- The end-point sends its reports to the switch of each plane. -/
def EpState.sendReports (s : EpState) : EpState := each s.c.reportPorts s (fun s n => s.putPacket n (mgmtPacket s.node 0 s.pitch 0 (s.c.reportBytes n)) false)

/-! ### Staked limits (R321) -/

/-- Port directions whose admitted load is above their limit: 2 × port, plus 1 toward the end-point. -/
def SwState.overNow (s : SwState) : List Nat :=
  let ports := (s.c.reservations.flatMap (fun (r : Nat × Reg × Reg) => let p := s.c.resvPorts r.2.1; p.1.toList ++ p.2.toList)).eraseDups
  ports.flatMap (fun n => [false, true].filterMap (fun out => if s.portLimit n < s.c.portLoad n out then some (2 * n + b2n out) else none))

/-- `CAL_EVENT` (Table 8.15). -/
def Common.calEvent (c : Common) (cause port : Nat) : Common := c.event 0x5000D4 (cause * 4096 + port % 512)

/-- Directions that have come to lie above their limit, and those that no longer do. -/
def SwState.calBoundary (s : SwState) : SwState :=
  let now := s.overNow
  let was := s.core.aboveLimit
  let s1 := each (now.filter (fun d => !was.contains d)) s (fun s d => s.mod (fun c => c.calEvent (1 + d % 2) (d / 2)))
  let s2 := each (was.filter (fun d => !now.contains d)) s1 (fun s d => s.mod (fun c => c.calEvent 3 (d / 2)))
  s2.modCore (fun k => { k with aboveLimit := now })

/-! ### What both parts do -/

/-- The next pick opens: writes of the ended pick act, and what was sent in it is past. -/
def Common.openBoundary (c : Common) : Common :=
  let c1 := c.tick
  let c2 := if c1.time.st = .holdover ∧ 10000000 ≤ c1.time.holdPicks then c1.expire else c1
  { c2 with
    rf := { c2.rf with old := [] }, stage := { c2.stage with oldResv := c2.stage.oldResv.filter (fun o => decide (c2.pick < o.until_)) },
    mgmt := { c2.mgmt with replies := [], neigh := [] }, sec := { c2.sec with rsp := [] } }

/-- A part becomes admitted (R718). -/
def Common.admitNow (c : Common) : Common :=
  { c with admitted := c.admitted || c.ports.any (fun e => !selvedge c.part e.1 && e.2.t.st == .raised) }

/-- A test whose part has left AWAKE is over: INTERRUPTED (R586). -/
def SwState.testCut (s : SwState) : SwState :=
  match s.c.test with
  | none => s
  | some t =>
    let s1 :=
      if !t.running then s
      else if t.kind = 1 then s.modBar t.unit (fun b => if b.st = .test then { b with st := .service } else b)
      else if t.kind = 2 then s.modCore (fun k => k.shaftReturn t.unit (t.before == 0))
      else s
    s1.mod (fun c => c.testOver t 3)

/-- The same of the end-point. -/
def EpState.testCut (s : EpState) : EpState :=
  match s.c.test with
  | none => s
  | some t => s.mod (fun c => c.testOver t 3)

/-- What both parts do about power, heat and the island at a boundary; the ledger works only while the part is awake. -/
def Common.islandWork (c : Common) (b : BoundaryIn) : Common :=
  let c1 := (c.powerBoundary b).islandBoundary
  if c1.biv.st = .awake then c1.ledgerBoundary b else c1

/-! ### The switch -/

/-- The core of the switch at a boundary: shafts, combiners, casts, ages, policing, collectives, programs. -/
def SwState.coreBoundary (s : SwState) (b : BoundaryIn) (wasPaused : Bool) : SwState :=
  let s1 := ((s.spanBoundary.unpark.stackBoundary).shaftBoundary b.badShafts).combBoundary
  let s2 := (s1.castStalls.growAges).modCore (fun k => { k with police := [] })
  let s3 := s2.collBoundary.collReplies
  let s4 := if wasPaused && !s3.c.pwr.paused then s3.resumeUnits else s3
  s4.watchdogs

/-- What a pick boundary of the switch brings once the pick has opened; `wasPaused`: programs were paused in the ended pick. -/
def SwState.boundaryWork (s : SwState) (b : BoundaryIn) (wasPaused : Bool) : SwState :=
  let s1 := s.settleColls.commits
  let s2 := s1.mod (fun c => c.fwPick.islandWork b)
  let s3 := (if s2.c.biv.st = .awake then s2.testBoundary else s2.testCut).engineBoundary
  let s4 := s3.mod (fun c => (each b.laneErrs c Common.laneError).portsBoundary.opticsBoundary)
  let s5 := s4.coreBoundary b wasPaused
  let s6 := (s5.calBoundary.pitchBoundary.mod (fun c => c.admitNow)).sendReports
  s6.bivEntry

/-- A pick boundary of the switch. -/
def SwState.boundary (s : SwState) (b : BoundaryIn) : SwState := (s.mod (fun c => c.openBoundary)).boundaryWork b s.c.pwr.paused

/-! ### The end-point -/

/-- A pick in which a notice has waited is counted (R251). -/
def EpState.noteStall (s : EpState) : EpState :=
  let s1 := s.modLha (fun l => { l with noteWaited := false })
  if s.lha.notes.isEmpty && !s.lha.noteWaited then s1 else s1.mod (fun c => c.bump 0x80018)

/-- What a pick boundary of the end-point brings once the pick has opened. -/
def EpState.boundaryWork (s : EpState) (b : BoundaryIn) : EpState :=
  let s1 := (s.mod (fun c => c.followRef)).commits
  let s2 := s1.mod (fun c => c.fwPick.islandWork b)
  let s3 := if s2.c.biv.st = .awake then s2.testBoundary else s2.testCut
  let s4 := s3.mod (fun c => (each b.laneErrs c Common.laneError).portsBoundary.opticsBoundary)
  let s5 := s4.budgets.clearPaths.retryClear.returnCredits
  let s6 := (s5.mod (fun c => c.admitNow)).sendReports
  s6.bivEntry

/-- A pick boundary of the end-point. Flits that an adapter retry delivered count as transient errors of the host attachment (R231). -/
def EpState.boundary (s : EpState) (b : BoundaryIn) : EpState := ((s.noteStall.modLha (fun l => { l with out := [] })).mod (fun c => (c.bumpBy 0x80010 15 0 b.lhaRetries).openBoundary)).boundaryWork b

/-- `PICK_BOUNDARY` (R33). A part held in reset or without power has no boundaries. -/
def execPickBoundary (b : BoundaryIn) (s : State) : Host.Outcome State Fault Refusal :=
  match b.part with
  | .sw => onSw s (fun w => w.boundary b)
  | .ep => onEp s (fun e => e.boundary b)

end Sys2Proof.Machine
end

