-- ==== Sys2Proof/Machine/SwitchCore.lean ====
section
/-!
DEFINITION. The meanings of the commands of the switch core and of the collectives at the switch.
-/

namespace Sys2Proof.Machine

/-- A port that the switch has. -/
def swPort (n : Nat) : Bool := decide (n < 288)

/-- `PACKET_FORWARD` (R261): a packet that has arrived on a port goes through Table 7.1. -/
def execPacketForward (port : Nat) (p : Packet) (s : State) : Host.Outcome State Fault Refusal := onSwIf (swPort port) s (fun s => s.forward port p)

/-- `BUFFER_ADMISSION` (R264, R266). -/
def execBufferAdmission (port : Nat) (s : State) : Host.Outcome State Fault Refusal := onSwIf (swPort port) s (fun s => s.admitPort port 64)

/-- `MATCHER_SLOT` (R269, R273, R277, R278): slot 0 to 62 of the pick, and the shafts whose result fails parity. -/
def execMatcherSlot (slot : Nat) (bad : List Nat) (s : State) : Host.Outcome State Fault Refusal := onSw s (fun s => s.matcherSlot slot bad)

/-- `SPRAY_UNIT_ARRIVAL` (R273, R281 to R283). -/
def execSprayUnitArrival (input output seq : Nat) (high : Bool) (check : UnitCheck) (s : State) : Host.Outcome State Fault Refusal :=
  onSwIf (swPort input && swPort output) s (fun s => s.unitArrival input output seq high check)

/-- `REED_RECEIPT` (R267, R273, R283). -/
def execReedReceipt (input output seq : Nat) (high negative : Bool) (s : State) : Host.Outcome State Fault Refusal :=
  onSwIf (swPort input && swPort output) s (fun s => s.receipt input output seq high negative)

/-- `REED_HOLE_TIMEOUT` (R284). -/
def execReedHoleTimeout (input output : Nat) (s : State) : Host.Outcome State Fault Refusal :=
  onSwIf (swPort input && swPort output) s (fun s => s.reedTimeout input output)

/-- `PACKET_AGE_DISCARD` (R121). -/
def execPacketAgeDiscard (output : Nat) (s : State) : Host.Outcome State Fault Refusal := onSwIf (swPort output) s (fun s => s.ageDiscard output)

/-- `CAST_SEND` (R287, R288). -/
def execCastSend (group : Nat) (s : State) : Host.Outcome State Fault Refusal := onSwIf (decide (group < 32)) s (fun s => s.castSend group)

/-- `COMBINE_ANSWER` (R138, R296). -/
def execCombineAnswer (port : Nat) (p : Packet) (s : State) : Host.Outcome State Fault Refusal := onSwIf (swPort port) s (fun s => if p.op = opMgmt then s.combineAnswer port p else s)

/-- `MERGED_FORGET` (R297). -/
def execMergedForget (output batch : Nat) (s : State) : Host.Outcome State Fault Refusal := onSwIf (swPort output) s (fun s => s.mergedForget output batch)

/-- `MSG_SEND_ROUTE` (R72, R73): a `MSG_SEND` from a domain port. -/
def execMsgSendRoute (port : Nat) (p : Packet) (s : State) : Host.Outcome State Fault Refusal :=
  onSwIf (swPort port) s (fun s => if p.op = opMsgSend ∧ !selvedge .sw port then s.forward port p else s)

/-- `MSG_SEND_SELVEDGE` (R74): a `MSG_SEND` from a selvedge port. -/
def execMsgSendSelvedge (port : Nat) (p : Packet) (s : State) : Host.Outcome State Fault Refusal :=
  onSwIf (swPort port) s (fun s => if p.op = opMsgSend ∧ selvedge .sw port then s.forward port p else s)

/-- `MSG_ACK_ROUTE` (R75). -/
def execMsgAckRoute (port : Nat) (p : Packet) (s : State) : Host.Outcome State Fault Refusal :=
  onSwIf (swPort port) s (fun s => if p.op = opMsgAck then s.forward port p else s)

/-- `INTENT` (R354, R362, R363). -/
def execIntent (port : Nat) (p : Packet) (s : State) : Host.Outcome State Fault Refusal := onSwIf (swPort port) s (fun s => s.intent port p)

/-- `CONTRIB` (R367 to R370). -/
def execContrib (port : Nat) (p : Packet) (s : State) : Host.Outcome State Fault Refusal := onSwIf (swPort port) s (fun s => s.contrib port p)

/-- `ABORT` of KIND ABORT (R356, R362, R377). -/
def execAbort (port : Nat) (p : Packet) (s : State) : Host.Outcome State Fault Refusal := onSwIf (swPort port) s (fun s => s.abortKind port 1 p)

/-- `ABORT` of KIND RECEIVED (R374). -/
def execReceived (port : Nat) (p : Packet) (s : State) : Host.Outcome State Fault Refusal := onSwIf (swPort port) s (fun s => s.abortKind port 2 p)

/-- `ABORT` of KIND QUERY (R379). -/
def execQuery (port : Nat) (p : Packet) (s : State) : Host.Outcome State Fault Refusal := onSwIf (swPort port) s (fun s => s.abortKind port 3 p)

/-- `INTENT_WAIT_EXPIRED` (R348, R360). -/
def execIntentWaitExpired (handle : Nat) (s : State) : Host.Outcome State Fault Refusal := onSwIf (decide (handle < 4096)) s (fun s => s.intentWait handle)

/-- `COLL_STALL` (R382). -/
def execCollStall (handle : Nat) (s : State) : Host.Outcome State Fault Refusal := onSwIf (decide (handle < 4096)) s (fun s => s.collStall handle)

end Sys2Proof.Machine
end

