-- ==== Sys2Proof/Machine/Dispatch.lean ====
section
/-!
DEFINITION. One arm for each command: the direct call of its meaning.
-/

namespace Sys2Proof.Machine

def exec (i : Instr) (s : State) : Host.Outcome State Fault Refusal :=
  match i with
  | .registerWrite part addr value => Sys2Proof.Machine.execRegisterWrite part addr value s
  | .viewWrite part addr value => Sys2Proof.Machine.execViewWrite part addr value s
  | .eventRegisterClear part addr value => Sys2Proof.Machine.execEventRegisterClear part addr value s
  | .loWordRead part who addr => Sys2Proof.Machine.execLoWordRead part who addr s
  | .wpWriteComplete part block => Sys2Proof.Machine.execWpWriteComplete part block s
  | .idCntClear part value => Sys2Proof.Machine.execIdCntClear part value s
  | .telHwmClr part port value => Sys2Proof.Machine.execTelHwmClr part port value s
  | .thermHwmClear part value => Sys2Proof.Machine.execThermHwmClear part value s
  | .pickBoundary b => Sys2Proof.Machine.execPickBoundary b s
  | .pickSyncPulse part input width offset => Sys2Proof.Machine.execPickSyncPulse part input width offset s
  | .holdoverExpired part => Sys2Proof.Machine.execHoldoverExpired part s
  | .pickMarker part port m => Sys2Proof.Machine.execPickMarker part port m s
  | .stagedSetCommit part set => Sys2Proof.Machine.execStagedSetCommit part set s
  | .membershipCommit part => Sys2Proof.Machine.execMembershipCommit part s
  | .stakedAccept flow => Sys2Proof.Machine.execStakedAccept flow s
  | .wheelSlot slot => Sys2Proof.Machine.execWheelSlot slot s
  | .flitSend part port tick => Sys2Proof.Machine.execFlitSend part port tick s
  | .flitReceived part port f => Sys2Proof.Machine.execFlitReceived part port f s
  | .replayTimeout part port => Sys2Proof.Machine.execReplayTimeout part port s
  | .trainingSet part port t ownMet => Sys2Proof.Machine.execTrainingSet part port t ownMet s
  | .stageTimeout part port => Sys2Proof.Machine.execStageTimeout part port s
  | .caps part port c => Sys2Proof.Machine.execCaps part port c s
  | .ident part port x => Sys2Proof.Machine.execIdent part port x s
  | .wire part port result other => Sys2Proof.Machine.execWire part port result other s
  | .creditInit part port grants => Sys2Proof.Machine.execCreditInit part port grants s
  | .admitMsg port code => Sys2Proof.Machine.execAdmitMsg port code s
  | .laneCtrlCheck part port lanes bad => Sys2Proof.Machine.execLaneCtrlCheck part port lanes bad s
  | .move part port lanes => Sys2Proof.Machine.execMove part port lanes s
  | .moveOk part port lanes => Sys2Proof.Machine.execMoveOk part port lanes s
  | .moveNo part port lanes => Sys2Proof.Machine.execMoveNo part port lanes s
  | .width part port lanes => Sys2Proof.Machine.execWidth part port lanes s
  | .widthOk part port lanes => Sys2Proof.Machine.execWidthOk part port lanes s
  | .laneCtrlRetry part port => Sys2Proof.Machine.execLaneCtrlRetry part port s
  | .drain part port => Sys2Proof.Machine.execDrain part port s
  | .drainDone part port => Sys2Proof.Machine.execDrainDone part port s
  | .strike part port => Sys2Proof.Machine.execStrike part port s
  | .strikeDone part port => Sys2Proof.Machine.execStrikeDone part port s
  | .strikeComplete part port => Sys2Proof.Machine.execStrikeComplete part port s
  | .strikeStepTimeout part port => Sys2Proof.Machine.execStrikeStepTimeout part port s
  | .linkCmdRaise part port => Sys2Proof.Machine.execLinkCmdRaise part port s
  | .linkCmdStrike part port cold => Sys2Proof.Machine.execLinkCmdStrike part port cold s
  | .linkCmdCheck part port => Sys2Proof.Machine.execLinkCmdCheck part port s
  | .linkCmdClrLane part port => Sys2Proof.Machine.execLinkCmdClrLane part port s
  | .eyeStart part port value => Sys2Proof.Machine.execEyeStart part port value s
  | .eyeStop part port => Sys2Proof.Machine.execEyeStop part port s
  | .eyeScanDone part port results counts => Sys2Proof.Machine.execEyeScanDone part port results counts s
  | .monitorSample part port m => Sys2Proof.Machine.execMonitorSample part port m s
  | .warmReraiseDone part port x => Sys2Proof.Machine.execWarmReraiseDone part port x s
  | .openFibre part port => Sys2Proof.Machine.execOpenFibre part port s
  | .launchLimit part port => Sys2Proof.Machine.execLaunchLimit part port s
  | .probePulse part port => Sys2Proof.Machine.execProbePulse part port s
  | .probeSet part port => Sys2Proof.Machine.execProbeSet part port s
  | .laserEnLow part => Sys2Proof.Machine.execLaserEnLow part s
  | .laserEnHigh part => Sys2Proof.Machine.execLaserEnHigh part s
  | .combLocked part comb => Sys2Proof.Machine.execCombLocked part comb s
  | .combWarmTimeout part comb => Sys2Proof.Machine.execCombWarmTimeout part comb s
  | .combLockerLost part comb => Sys2Proof.Machine.execCombLockerLost part comb s
  | .combOutputLow part comb => Sys2Proof.Machine.execCombOutputLow part comb s
  | .spareLightArrived part engine => Sys2Proof.Machine.execSpareLightArrived part engine s
  | .feedforwardSample part port temp => Sys2Proof.Machine.execFeedforwardSample part port temp s
  | .ringLockLost part port r => Sys2Proof.Machine.execRingLockLost part port r s
  | .ringRelock part port r => Sys2Proof.Machine.execRingRelock part port r s
  | .slipRelockTimeout part port r => Sys2Proof.Machine.execSlipRelockTimeout part port r s
  | .opticalReport part port r => Sys2Proof.Machine.execOpticalReport part port r s
  | .ringsLocked part port r => Sys2Proof.Machine.execRingsLocked part port r s
  | .packetForward port p => Sys2Proof.Machine.execPacketForward port p s
  | .bufferAdmission port => Sys2Proof.Machine.execBufferAdmission port s
  | .matcherSlot slot bad => Sys2Proof.Machine.execMatcherSlot slot bad s
  | .sprayUnitArrival input output seq high check => Sys2Proof.Machine.execSprayUnitArrival input output seq high check s
  | .reedReceipt input output seq high negative => Sys2Proof.Machine.execReedReceipt input output seq high negative s
  | .reedHoleTimeout input output => Sys2Proof.Machine.execReedHoleTimeout input output s
  | .packetAgeDiscard output => Sys2Proof.Machine.execPacketAgeDiscard output s
  | .castSend group => Sys2Proof.Machine.execCastSend group s
  | .combineAnswer port p => Sys2Proof.Machine.execCombineAnswer port p s
  | .mergedForget output batch => Sys2Proof.Machine.execMergedForget output batch s
  | .msgSendRoute port p => Sys2Proof.Machine.execMsgSendRoute port p s
  | .msgSendSelvedge port p => Sys2Proof.Machine.execMsgSendSelvedge port p s
  | .msgAckRoute port p => Sys2Proof.Machine.execMsgAckRoute port p s
  | .requestSend sender => Sys2Proof.Machine.execRequestSend sender s
  | .read plane p => Sys2Proof.Machine.execRead plane p s
  | .write plane p => Sys2Proof.Machine.execWrite plane p s
  | .writeMasked plane p => Sys2Proof.Machine.execWriteMasked plane p s
  | .writeFlagNode plane p => Sys2Proof.Machine.execWriteFlagNode plane p s
  | .writeFlagAll plane p => Sys2Proof.Machine.execWriteFlagAll plane p s
  | .atomic plane p => Sys2Proof.Machine.execAtomic plane p s
  | .mergedRequest plane p => Sys2Proof.Machine.execMergedRequest plane p s
  | .combineReceipt plane p => Sys2Proof.Machine.execCombineReceipt plane p s
  | .flagHoldRelease src seq => Sys2Proof.Machine.execFlagHoldRelease src seq s
  | .flagHoldDiscard src seq => Sys2Proof.Machine.execFlagHoldDiscard src seq s
  | .combineBatchDrop plane batch => Sys2Proof.Machine.execCombineBatchDrop plane batch s
  | .readRsp plane p => Sys2Proof.Machine.execReadRsp plane p s
  | .writeAck plane p => Sys2Proof.Machine.execWriteAck plane p s
  | .atomicRsp plane p => Sys2Proof.Machine.execAtomicRsp plane p s
  | .msgSend plane p => Sys2Proof.Machine.execMsgSend plane p s
  | .msgAck plane p => Sys2Proof.Machine.execMsgAck plane p s
  | .msgDupExpiry sender => Sys2Proof.Machine.execMsgDupExpiry sender s
  | .responseTimeout tag => Sys2Proof.Machine.execResponseTimeout tag s
  | .portDownReissue tag => Sys2Proof.Machine.execPortDownReissue tag s
  | .fenceComplete engine => Sys2Proof.Machine.execFenceComplete engine s
  | .ctrSub index value => Sys2Proof.Machine.execCtrSub index value s
  | .rlcInval value => Sys2Proof.Machine.execRlcInval value s
  | .rlcAdviceWrite index value => Sys2Proof.Machine.execRlcAdviceWrite index value s
  | .keyTableWrite addr value => Sys2Proof.Machine.execKeyTableWrite addr value s
  | .rlcDisable => Sys2Proof.Machine.execRlcDisable s
  | .ld m => Sys2Proof.Machine.execLd m s
  | .st m => Sys2Proof.Machine.execSt m s
  | .stMasked m => Sys2Proof.Machine.execStMasked m s
  | .lhaAt m => Sys2Proof.Machine.execLhaAt m s
  | .lhaFence m => Sys2Proof.Machine.execLhaFence m s
  | .kernelStart m => Sys2Proof.Machine.execKernelStart m s
  | .regRd m => Sys2Proof.Machine.execRegRd m s
  | .regWr m => Sys2Proof.Machine.execRegWr m s
  | .mrdRsp m => Sys2Proof.Machine.execMrdRsp m s
  | .mwrAck m => Sys2Proof.Machine.execMwrAck m s
  | .matRsp m => Sys2Proof.Machine.execMatRsp m s
  | .credit m => Sys2Proof.Machine.execCredit m s
  | .moduleTrained module fast => Sys2Proof.Machine.execModuleTrained module fast s
  | .offerRetry module => Sys2Proof.Machine.execOfferRetry module s
  | .accept m => Sys2Proof.Machine.execAccept m s
  | .quiesce m => Sys2Proof.Machine.execQuiesce m s
  | .quiesceComplete => Sys2Proof.Machine.execQuiesceComplete s
  | .moduleLinkLost module => Sys2Proof.Machine.execModuleLinkLost module s
  | .ereqTimeout module => Sys2Proof.Machine.execEreqTimeout module s
  | .ereqPauseEnd => Sys2Proof.Machine.execEreqPauseEnd s
  | .noticeSend => Sys2Proof.Machine.execNoticeSend s
  | .serveWrite => Sys2Proof.Machine.execServeWrite s
  | .pwrAlertInWrite value => Sys2Proof.Machine.execPwrAlertInWrite value s
  | .lhaMalformedMessage m => Sys2Proof.Machine.execLhaMalformedMessage m s
  | .ceDoorbell engine value => Sys2Proof.Machine.execCeDoorbell engine value s
  | .ceEnable engine => Sys2Proof.Machine.execCeEnable engine s
  | .ceDisable engine => Sys2Proof.Machine.execCeDisable engine s
  | .ceResume engine => Sys2Proof.Machine.execCeResume engine s
  | .ceAbort engine => Sys2Proof.Machine.execCeAbort engine s
  | .copy engine => Sys2Proof.Machine.execCopy engine s
  | .qcopy engine fails => Sys2Proof.Machine.execQcopy engine fails s
  | .ceAtomic engine => Sys2Proof.Machine.execCeAtomic engine s
  | .ceFlag engine => Sys2Proof.Machine.execCeFlag engine s
  | .ceFence engine => Sys2Proof.Machine.execCeFence engine s
  | .nop engine => Sys2Proof.Machine.execNop engine s
  | .ceCompletion engine => Sys2Proof.Machine.execCeCompletion engine s
  | .measSlotOpen slot value => Sys2Proof.Machine.execMeasSlotOpen slot value s
  | .measSlotClose slot => Sys2Proof.Machine.execMeasSlotClose slot s
  | .xqDoorbell value => Sys2Proof.Machine.execXqDoorbell value s
  | .invalidate => Sys2Proof.Machine.execInvalidate s
  | .invalidateDrained slot => Sys2Proof.Machine.execInvalidateDrained slot s
  | .invalidateStuck slot => Sys2Proof.Machine.execInvalidateStuck slot s
  | .migrate => Sys2Proof.Machine.execMigrate s
  | .migrateCopyDone slot => Sys2Proof.Machine.execMigrateCopyDone slot s
  | .adviseResident => Sys2Proof.Machine.execAdviseResident s
  | .adviseReadMostly => Sys2Proof.Machine.execAdviseReadMostly s
  | .adviseStreaming => Sys2Proof.Machine.execAdviseStreaming s
  | .adviseEvict => Sys2Proof.Machine.execAdviseEvict s
  | .adviseNormal => Sys2Proof.Machine.execAdviseNormal s
  | .intent port p => Sys2Proof.Machine.execIntent port p s
  | .contrib port p => Sys2Proof.Machine.execContrib port p s
  | .abort port p => Sys2Proof.Machine.execAbort port p s
  | .received port p => Sys2Proof.Machine.execReceived port p s
  | .query port p => Sys2Proof.Machine.execQuery port p s
  | .intentWaitExpired handle => Sys2Proof.Machine.execIntentWaitExpired handle s
  | .collStall handle => Sys2Proof.Machine.execCollStall handle s
  | .collDoorbell value => Sys2Proof.Machine.execCollDoorbell value s
  | .collDescriptorStart => Sys2Proof.Machine.execCollDescriptorStart s
  | .grantAdmit plane p fails => Sys2Proof.Machine.execGrantAdmit plane p fails s
  | .grantCredit plane p => Sys2Proof.Machine.execGrantCredit plane p s
  | .result plane p => Sys2Proof.Machine.execResult plane p s
  | .abortNotice plane p => Sys2Proof.Machine.execAbortNotice plane p s
  | .done plane p => Sys2Proof.Machine.execDone plane p s
  | .resend plane p => Sys2Proof.Machine.execResend plane p s
  | .collWaitExpired member => Sys2Proof.Machine.execCollWaitExpired member s
  | .barAdd core ctx rd ra rb => Sys2Proof.Machine.execBarAdd core ctx rd ra rb s
  | .barSub core ctx rd ra rb => Sys2Proof.Machine.execBarSub core ctx rd ra rb s
  | .barAnd core ctx rd ra rb => Sys2Proof.Machine.execBarAnd core ctx rd ra rb s
  | .barOr core ctx rd ra rb => Sys2Proof.Machine.execBarOr core ctx rd ra rb s
  | .barXor core ctx rd ra rb => Sys2Proof.Machine.execBarXor core ctx rd ra rb s
  | .barSll core ctx rd ra rb => Sys2Proof.Machine.execBarSll core ctx rd ra rb s
  | .barSrl core ctx rd ra rb => Sys2Proof.Machine.execBarSrl core ctx rd ra rb s
  | .barSra core ctx rd ra rb => Sys2Proof.Machine.execBarSra core ctx rd ra rb s
  | .barMul core ctx rd ra rb => Sys2Proof.Machine.execBarMul core ctx rd ra rb s
  | .barMulhu core ctx rd ra rb => Sys2Proof.Machine.execBarMulhu core ctx rd ra rb s
  | .barDivu core ctx rd ra rb => Sys2Proof.Machine.execBarDivu core ctx rd ra rb s
  | .barRemu core ctx rd ra rb => Sys2Proof.Machine.execBarRemu core ctx rd ra rb s
  | .barSlt core ctx rd ra rb => Sys2Proof.Machine.execBarSlt core ctx rd ra rb s
  | .barSltu core ctx rd ra rb => Sys2Proof.Machine.execBarSltu core ctx rd ra rb s
  | .barMin core ctx rd ra rb => Sys2Proof.Machine.execBarMin core ctx rd ra rb s
  | .barMax core ctx rd ra rb => Sys2Proof.Machine.execBarMax core ctx rd ra rb s
  | .barAddi core ctx rd ra imm => Sys2Proof.Machine.execBarAddi core ctx rd ra imm s
  | .barAndi core ctx rd ra imm => Sys2Proof.Machine.execBarAndi core ctx rd ra imm s
  | .barOri core ctx rd ra imm => Sys2Proof.Machine.execBarOri core ctx rd ra imm s
  | .barXori core ctx rd ra imm => Sys2Proof.Machine.execBarXori core ctx rd ra imm s
  | .barLui core ctx rd ra imm => Sys2Proof.Machine.execBarLui core ctx rd ra imm s
  | .barSlli core ctx rd ra imm => Sys2Proof.Machine.execBarSlli core ctx rd ra imm s
  | .barSrli core ctx rd ra imm => Sys2Proof.Machine.execBarSrli core ctx rd ra imm s
  | .barBeq core ctx rd ra imm => Sys2Proof.Machine.execBarBeq core ctx rd ra imm s
  | .barBne core ctx rd ra imm => Sys2Proof.Machine.execBarBne core ctx rd ra imm s
  | .barBlt core ctx rd ra imm => Sys2Proof.Machine.execBarBlt core ctx rd ra imm s
  | .barBge core ctx rd ra imm => Sys2Proof.Machine.execBarBge core ctx rd ra imm s
  | .barBltu core ctx rd ra imm => Sys2Proof.Machine.execBarBltu core ctx rd ra imm s
  | .barBgeu core ctx rd ra imm => Sys2Proof.Machine.execBarBgeu core ctx rd ra imm s
  | .barJal core ctx off => Sys2Proof.Machine.execBarJal core ctx off s
  | .barJr core ctx rd ra rb => Sys2Proof.Machine.execBarJr core ctx rd ra rb s
  | .barLd core ctx rd ra imm => Sys2Proof.Machine.execBarLd core ctx rd ra imm s
  | .barLw core ctx rd ra imm => Sys2Proof.Machine.execBarLw core ctx rd ra imm s
  | .barSt core ctx rd ra imm => Sys2Proof.Machine.execBarSt core ctx rd ra imm s
  | .barSw core ctx rd ra imm => Sys2Proof.Machine.execBarSw core ctx rd ra imm s
  | .barDld core ctx rd ra imm => Sys2Proof.Machine.execBarDld core ctx rd ra imm s
  | .barDst core ctx rd ra imm => Sys2Proof.Machine.execBarDst core ctx rd ra imm s
  | .barFlush core ctx rd ra rb => Sys2Proof.Machine.execBarFlush core ctx rd ra rb s
  | .barCpy core ctx rd ra rb rn mode => Sys2Proof.Machine.execBarCpy core ctx rd ra rb rn mode s
  | .barCwait core ctx rd ra rb => Sys2Proof.Machine.execBarCwait core ctx rd ra rb s
  | .barVcvt core ctx rd ra rb rn mode fails => Sys2Proof.Machine.execBarVcvt core ctx rd ra rb rn mode fails s
  | .barVacc core ctx rd ra rb rn mode fails => Sys2Proof.Machine.execBarVacc core ctx rd ra rb rn mode fails s
  | .barVfin core ctx rd ra rb rn mode fails => Sys2Proof.Machine.execBarVfin core ctx rd ra rb rn mode fails s
  | .barVqnt core ctx rd ra rb rn mode fails => Sys2Proof.Machine.execBarVqnt core ctx rd ra rb rn mode fails s
  | .barVmrg core ctx rd ra rb rn mode => Sys2Proof.Machine.execBarVmrg core ctx rd ra rb rn mode s
  | .barVspr core ctx rd ra rb rn mode fails => Sys2Proof.Machine.execBarVspr core ctx rd ra rb rn mode fails s
  | .barVmov core ctx rd ra rb rn mode => Sys2Proof.Machine.execBarVmov core ctx rd ra rb rn mode s
  | .barVwait core ctx rd ra rb => Sys2Proof.Machine.execBarVwait core ctx rd ra rb s
  | .barSwait core ctx rd ra rb => Sys2Proof.Machine.execBarSwait core ctx rd ra rb s
  | .barSall core ctx rd ra rb => Sys2Proof.Machine.execBarSall core ctx rd ra rb s
  | .barSrel core ctx rd ra rb => Sys2Proof.Machine.execBarSrel core ctx rd ra rb s
  | .barScnt core ctx rd ra rb => Sys2Proof.Machine.execBarScnt core ctx rd ra rb s
  | .barRcast core ctx rd ra rb rn mode => Sys2Proof.Machine.execBarRcast core ctx rd ra rb rn mode s
  | .barRsend core ctx rd ra rb rn mode => Sys2Proof.Machine.execBarRsend core ctx rd ra rb rn mode s
  | .barRwait core ctx rd ra rb => Sys2Proof.Machine.execBarRwait core ctx rd ra rb s
  | .barPick core ctx rd ra rb => Sys2Proof.Machine.execBarPick core ctx rd ra rb s
  | .barAbrt core ctx rd ra rb => Sys2Proof.Machine.execBarAbrt core ctx rd ra rb s
  | .barEnd core ctx rd ra rb => Sys2Proof.Machine.execBarEnd core ctx rd ra rb s
  | .contextResume core ctx => Sys2Proof.Machine.execContextResume core ctx s
  | .watchdogFire core ctx => Sys2Proof.Machine.execWatchdogFire core ctx s
  | .progLoad z => Sys2Proof.Machine.execProgLoad z s
  | .progUnload z => Sys2Proof.Machine.execProgUnload z s
  | .progPieceTimeout slot => Sys2Proof.Machine.execProgPieceTimeout slot s
  | .peFailure engine => Sys2Proof.Machine.execPeFailure engine s
  | .dramStackFailure stack row => Sys2Proof.Machine.execDramStackFailure stack row s
  | .fence z => Sys2Proof.Machine.execFence z s
  | .takeover z => Sys2Proof.Machine.execTakeover z s
  | .membNotice plane p => Sys2Proof.Machine.execMembNotice plane p s
  | .unitTest z => Sys2Proof.Machine.execUnitTest z s
  | .unitTestDone part pass => Sys2Proof.Machine.execUnitTestDone part pass s
  | .ledgerClear z => Sys2Proof.Machine.execLedgerClear z s
  | .ledgerRead z => Sys2Proof.Machine.execLedgerRead z s
  | .fwStageBegin z => Sys2Proof.Machine.execFwStageBegin z s
  | .fwStageData z => Sys2Proof.Machine.execFwStageData z s
  | .fwStageEnd z => Sys2Proof.Machine.execFwStageEnd z s
  | .fwActivate z => Sys2Proof.Machine.execFwActivate z s
  | .fwActivationPick part => Sys2Proof.Machine.execFwActivationPick part s
  | .fwRestartDone part => Sys2Proof.Machine.execFwRestartDone part s
  | .fwTrialEnd part passed => Sys2Proof.Machine.execFwTrialEnd part passed s
  | .guyLinkChange part lineB up => Sys2Proof.Machine.execGuyLinkChange part lineB up s
  | .flashEraseComplete part => Sys2Proof.Machine.execFlashEraseComplete part s
  | .sensorSample part samples => Sys2Proof.Machine.execSensorSample part samples s
  | .rampAlarmEnd part => Sys2Proof.Machine.execRampAlarmEnd part s
  | .flashInhibitEnd part => Sys2Proof.Machine.execFlashInhibitEnd part s
  | .powerCap z => Sys2Proof.Machine.execPowerCap z s
  | .leaseExpired part => Sys2Proof.Machine.execLeaseExpired part s
  | .thermalAlert z => Sys2Proof.Machine.execThermalAlert z s
  | .powerAlertAssert => Sys2Proof.Machine.execPowerAlertAssert s
  | .powerAlertDeassert => Sys2Proof.Machine.execPowerAlertDeassert s
  | .alertHoldExpired part => Sys2Proof.Machine.execAlertHoldExpired part s
  | .bivouac z => Sys2Proof.Machine.execBivouac z s
  | .bivouacEntry part => Sys2Proof.Machine.execBivouacEntry part s
  | .wake z => Sys2Proof.Machine.execWake z s
  | .wakeComplete part passed => Sys2Proof.Machine.execWakeComplete part passed s
  | .resetAssert part => Sys2Proof.Machine.execResetAssert part s
  | .resetRelease part => Sys2Proof.Machine.execResetRelease part s
  | .secureBootDone part okA okB => Sys2Proof.Machine.execSecureBootDone part okA okB s
  | .railFault part => Sys2Proof.Machine.execRailFault part s
  | .suddenPowerLoss part => Sys2Proof.Machine.execSuddenPowerLoss part s
  | .pitchScrubDone pitch => Sys2Proof.Machine.execPitchScrubDone pitch s
  | .epScrubDone => Sys2Proof.Machine.execEpScrubDone s
  | .resourceScrubDone kind unit => Sys2Proof.Machine.execResourceScrubDone kind unit s
  | .debugUnlock part => Sys2Proof.Machine.execDebugUnlock part s
  | .ownerEnrol z => Sys2Proof.Machine.execOwnerEnrol z s
  | .ownerRelease z => Sys2Proof.Machine.execOwnerRelease z s
  | .pitchEnrol z => Sys2Proof.Machine.execPitchEnrol z s
  | .pitchKeySet z => Sys2Proof.Machine.execPitchKeySet z s
  | .spdmMsg z enclosed => Sys2Proof.Machine.execSpdmMsg z enclosed s
  | .getVersion r => Sys2Proof.Machine.execGetVersion r s
  | .getCapabilities r => Sys2Proof.Machine.execGetCapabilities r s
  | .negotiateAlgorithms r => Sys2Proof.Machine.execNegotiateAlgorithms r s
  | .getDigests r => Sys2Proof.Machine.execGetDigests r s
  | .getCertificate r => Sys2Proof.Machine.execGetCertificate r s
  | .challenge r => Sys2Proof.Machine.execChallenge r s
  | .getMeasurements r => Sys2Proof.Machine.execGetMeasurements r s
  | .keyExchange r => Sys2Proof.Machine.execKeyExchange r s
  | .finish r => Sys2Proof.Machine.execFinish r s
  | .heartbeat r => Sys2Proof.Machine.execHeartbeat r s
  | .keyUpdate r => Sys2Proof.Machine.execKeyUpdate r s
  | .endSession r => Sys2Proof.Machine.execEndSession r s
  | .identify z => Sys2Proof.Machine.execIdentify z s
  | .regRead z => Sys2Proof.Machine.execRegRead z s
  | .regWriteCmd z => Sys2Proof.Machine.execRegWriteCmd z s
  | .echo z => Sys2Proof.Machine.execEcho z s
  | .relay z => Sys2Proof.Machine.execRelay z s
  | .relayReply part tag enclosed => Sys2Proof.Machine.execRelayReply part tag enclosed s
  | .relayTimeout part tag => Sys2Proof.Machine.execRelayTimeout part tag s
  | .stageWrite z => Sys2Proof.Machine.execStageWrite z s
  | .check z => Sys2Proof.Machine.execCheck z s
  | .commitAt z => Sys2Proof.Machine.execCommitAt z s
  | .cancel z => Sys2Proof.Machine.execCancel z s
  | .stageStatus z => Sys2Proof.Machine.execStageStatus z s
  | .portRaise z => Sys2Proof.Machine.execPortRaise z s
  | .portStrike z => Sys2Proof.Machine.execPortStrike z s
  | .collAbort z => Sys2Proof.Machine.execCollAbort z s
  | .collStatus z => Sys2Proof.Machine.execCollStatus z s
  | .xltCmd z => Sys2Proof.Machine.execXltCmd z s
  | .tagRecordExpired part tag => Sys2Proof.Machine.execTagRecordExpired part tag s
  | .i3cPrivateRead part => Sys2Proof.Machine.execI3cPrivateRead part s
  | .entdaa part addr => Sys2Proof.Machine.execEntdaa part addr s
  | .arpRequest part lineB addr => Sys2Proof.Machine.execArpRequest part lineB addr s
  | .neighbourSolicit part lineB addr => Sys2Proof.Machine.execNeighbourSolicit part lineB addr s
  | .zhevselerPacketRejected z magic opcode => Sys2Proof.Machine.execZhevselerPacketRejected z magic opcode s
  | .reservedOpcodePacket plane p => Sys2Proof.Machine.execReservedOpcodePacket plane p s

end Sys2Proof.Machine
end

