-- ==== Sys2Proof/WellFormed.lean ====
section
/-!
DEFINITION. Well-formed commands: every operand lies in the range that its field or unit has in the spec (Tables 2.5, 2.10, 6.2, 10.4, 12.8, 13.2 to 13.12, 17.1). `exec` needs none of it: a command out of range faults or acts on what it names.
-/

namespace Sys2Proof.Wf

open Sys2Proof.Machine

/-- A number below a bound. -/
def lt (n k : Nat) : Bool := decide (n < k)

/-- A number of 32 bits. -/
def w32bit (n : Nat) : Bool := lt n (2 ^ 32)

/-- Ports of a part (R35, R36). -/
def ports : Part → Nat
  | .sw => 288
  | .ep => 8

/-- Comb sources of a part (R463). -/
def combs : Part → Nat
  | .sw => 90
  | .ep => 3

/-- Photonic engines of a part. -/
def engines : Part → Nat
  | .sw => 18
  | .ep => 1

end Sys2Proof.Wf

namespace Sys2Proof.Machine

open Sys2Proof.Wf

/-- A packet (Tables 2.5, 2.6 and 2.10): field widths, and whole cells of data. -/
def Packet.wf (p : Packet) : Bool :=
  lt p.ver 16 && lt p.op 256 && lt p.vc 8 && lt p.src 256 && lt p.dst 256 && lt p.pitch 16 && lt p.tag (2 ^ 18) && lt p.len 16 && lt p.woff (2 ^ 52) && lt p.seq 4096 &&
  p.data.length % 16 == 0 && lt p.data.length 257 && w32bit p.key && lt p.rsvd (2 ^ 13) && lt p.cmode 4 && lt p.counter 65536

/-- A flit (Tables 13.4 to 13.6). -/
def Flit.wf (f : Flit) : Bool :=
  (match f.ftype with | .reserved k => lt k 16 && (k == 0 || decide (3 < k)) | _ => true) && lt f.fseq 4096 && lt f.ack 4096 && lt f.cvcA 8 && lt f.credA 16384 && lt f.cvcB 8 && lt f.credB 16384 &&
  lt f.cells.length 16 && lt f.pickLo 65536 && lt f.cn 4

/-- An IDENT message (Table 13.9). -/
def Ident.wf (x : Ident) : Bool := lt x.serial (2 ^ 64) && lt x.port 65536 && lt x.plane 256 && lt x.node 256 && lt x.domain 4096 && lt x.pitch 16

/-- A CAPS message (Table 13.9). -/
def Caps.wf (c : Caps) : Bool := lt c.lverMax 16 && lt c.kind 16 && lt c.replayFlits 65536

/-- A lane-control set (Table 13.12). -/
def LaneSet.wf (l : LaneSet) : Bool := lt l.cmd 256 && lt l.arg0 256 && lt l.arg1 256 && lt l.arg2 256 && lt l.arg3 256

/-- A training set as read (Table 13.2). -/
def TrainingSet.wf (t : TrainingSet) : Bool := lt t.chan 34 && lt t.role 64 && lt t.stage 16 && lt t.dsk 256

/-- A pick marker as received (Table 13.3). -/
def Marker.wf (m : Marker) : Bool :=
  m.roles.length == 34 && m.roles.all (fun r => lt r 64) && lt m.pn (2 ^ 64) && lt m.state 8 && lt m.echo 256 && lt m.turn 65536 && m.wrongIds.all (fun w => lt w.1 34 && lt w.2 64)

/-- An optical report (Table 12.8). -/
def OptReport.wf (r : OptReport) : Bool :=
  lt r.port 288 && lt r.lanes 33 && lt r.txTap.natAbs 32768 && lt r.rxIn.natAbs 32768 && lt r.pick (2 ^ 64) && r.drop.length == 34 &&
  r.drop.all (fun d => match d with | some v => lt v.natAbs 32768 | none => true)

/-- A ring (R473). -/
def RingId.wf (r : RingId) : Bool := lt r.chan 34

/-- A message of the host attachment (Table 6.2). -/
def LhaMsg.wf (m : LhaMsg) : Bool :=
  lt m.module 4 && lt m.lver 16 && lt m.chan 8 && lt m.mop 256 && lt m.ctx 256 && lt m.asid 64 && lt m.rsvdHi 4 && lt m.rsvdLo 128 && lt m.tag 65536 && lt m.len 32 && lt m.addr (2 ^ 64) &&
  m.data.length % 16 == 0 && lt m.data.length 512

/-- A Zhevseler packet (Table 17.1). -/
def ZPacket.wf (z : ZPacket) : Bool :=
  lt z.version 256 && lt z.rsvdFlags 64 && lt z.length 65536 && w32bit z.tag && lt z.kind 256 && lt z.index (2 ^ 24) && lt z.srcNode 256 && lt z.plane 8 &&
  z.size == 16 + z.payload.length && (match z.session with | some k => w32bit k | none => true)

/-- An SPDM request. -/
def SpdmReq.wf (r : SpdmReq) : Bool := w32bit r.session && lt r.index 256

/-- A monitor sample (Table 12.6): powers of 16 bits. -/
def MonitorIn.wf (m : MonitorIn) : Bool :=
  let p := fun (x : Option Int) => (match x with | some v => lt v.natAbs 32768 | none => true)
  p m.tap && p m.dist && p m.rxIn && p m.combOut && p m.combLockErr && [m.drop, m.txErr, m.rxErr].all (fun l => l.all (fun e => lt e.1 34 && lt e.2.natAbs 32768))

/-- A sensor reading (R595, R624). -/
def SensorIn.wf (x : SensorIn) : Bool := lt x.chan 201 && lt x.raw.natAbs 32768

/-- What a part measures at a boundary. -/
def BoundaryIn.wf (b : BoundaryIn) : Bool := lt b.slackDie 256 && lt b.eyeMin 65 && lt b.eyePort 288 && lt b.heaterPort 288 && b.dramRows.all (fun k => lt k 2) && b.dramEcc.all (fun e => lt e.1 2) && b.badShafts.all (fun n => lt n 9)

end Sys2Proof.Machine

namespace Sys2Proof

open Sys2Proof.Wf

/-- A well-formed command. -/
def wellFormed (i : Instr) : Bool :=
  match i with
  | .registerWrite _ addr value => w32bit addr && w32bit value
  | .viewWrite _ addr value => w32bit addr && w32bit value
  | .eventRegisterClear _ addr value => w32bit addr && w32bit value
  | .loWordRead _ _ addr => w32bit addr
  | .wpWriteComplete _ block => lt block (2 ^ 24)
  | .idCntClear _ value => w32bit value
  | .telHwmClr part port value => lt port (ports part) && w32bit value
  | .thermHwmClear _ value => w32bit value
  | .pickBoundary b => b.wf
  | .pickSyncPulse _ _ width offset => lt width 1000 && lt offset.natAbs 1000
  | .holdoverExpired _ => true
  | .pickMarker part port m => lt port (ports part) && m.wf
  | .stagedSetCommit _ set => lt set 8
  | .membershipCommit _ => true
  | .stakedAccept flow => lt flow 2048
  | .wheelSlot slot => lt slot 1024
  | .flitSend part port tick => lt port (ports part) && lt tick 2048
  | .flitReceived part port f => lt port (ports part) && f.wf
  | .replayTimeout part port => lt port (ports part)
  | .trainingSet part port t _ => lt port (ports part) && t.wf
  | .stageTimeout part port => lt port (ports part)
  | .caps part port c => lt port (ports part) && c.wf
  | .ident part port x => lt port (ports part) && x.wf
  | .wire part port result other => lt port (ports part) && lt result 256 && lt other 65536
  | .creditInit part port grants => lt port (ports part) && grants.length == 8 && grants.all (fun g => lt g 16384)
  | .admitMsg port code => lt port 8 && lt code 256
  | .laneCtrlCheck part port lanes bad => lt port (ports part) && lanes.wf && bad.all (fun e => lt e.1 34)
  | .move part port lanes => lt port (ports part) && lanes.wf
  | .moveOk part port lanes => lt port (ports part) && lanes.wf
  | .moveNo part port lanes => lt port (ports part) && lanes.wf
  | .width part port lanes => lt port (ports part) && lanes.wf
  | .widthOk part port lanes => lt port (ports part) && lanes.wf
  | .laneCtrlRetry part port => lt port (ports part)
  | .drain part port => lt port (ports part)
  | .drainDone part port => lt port (ports part)
  | .strike part port => lt port (ports part)
  | .strikeDone part port => lt port (ports part)
  | .strikeComplete part port => lt port (ports part)
  | .strikeStepTimeout part port => lt port (ports part)
  | .linkCmdRaise part port => lt port (ports part)
  | .linkCmdStrike part port _ => lt port (ports part)
  | .linkCmdCheck part port => lt port (ports part)
  | .linkCmdClrLane part port => lt port (ports part)
  | .eyeStart part port value => lt port (ports part) && w32bit value
  | .eyeStop part port => lt port (ports part)
  | .eyeScanDone part port results counts => lt port (ports part) && results.all (fun e => lt e.1 34 && lt e.2.1 64 && lt e.2.2 64) && counts.all (fun n => lt n (2 ^ 16))
  | .monitorSample part port m => lt port (ports part) && m.wf
  | .warmReraiseDone part port x => lt port (ports part) && x.wf
  | .openFibre part port => lt port (ports part)
  | .launchLimit part port => lt port (ports part)
  | .probePulse part port => lt port (ports part)
  | .probeSet part port => lt port (ports part)
  | .laserEnLow _ => true
  | .laserEnHigh _ => true
  | .combLocked part comb => lt comb (combs part)
  | .combWarmTimeout part comb => lt comb (combs part)
  | .combLockerLost part comb => lt comb (combs part)
  | .combOutputLow part comb => lt comb (combs part)
  | .spareLightArrived part engine => lt engine (engines part)
  | .feedforwardSample part port temp => lt port (ports part) && lt temp.natAbs 32768
  | .ringLockLost part port r => lt port (ports part) && r.wf
  | .ringRelock part port r => lt port (ports part) && r.wf
  | .slipRelockTimeout part port r => lt port (ports part) && r.wf
  | .opticalReport part port r => lt port (ports part) && r.wf
  | .ringsLocked part port r => lt port (ports part) && r.wf
  | .packetForward port p => lt port 288 && p.wf
  | .bufferAdmission port => lt port 288
  | .matcherSlot slot bad => lt slot 63 && bad.all (fun n => lt n 9)
  | .sprayUnitArrival input output seq _ check => lt input 288 && lt output 288 && lt seq 4096 && lt check.corrected 33
  | .reedReceipt input output seq _ _ => lt input 288 && lt output 288 && lt seq 4096
  | .reedHoleTimeout input output => lt input 288 && lt output 288
  | .packetAgeDiscard output => lt output 288
  | .castSend group => lt group 32
  | .combineAnswer port p => lt port 288 && p.wf
  | .mergedForget output batch => lt output 288 && lt batch 4096
  | .msgSendRoute port p => lt port 288 && p.wf
  | .msgSendSelvedge port p => lt port 288 && p.wf
  | .msgAckRoute port p => lt port 288 && p.wf
  | .requestSend from_ => lt from_.engine 288 && (match from_.msg with | some m => lt m.domain 4096 && lt m.node 256 && lt m.queue 256 && decide (1 ≤ m.data.length) && decide (m.data.length ≤ 256) | none => true)
  | .read plane p => lt plane 8 && p.wf
  | .write plane p => lt plane 8 && p.wf
  | .writeMasked plane p => lt plane 8 && p.wf
  | .writeFlagNode plane p => lt plane 8 && p.wf
  | .writeFlagAll plane p => lt plane 8 && p.wf
  | .atomic plane p => lt plane 8 && p.wf
  | .mergedRequest plane p => lt plane 8 && p.wf
  | .combineReceipt plane p => lt plane 8 && p.wf
  | .flagHoldRelease src seq => lt src 256 && lt seq 4096
  | .flagHoldDiscard src seq => lt src 256 && lt seq 4096
  | .combineBatchDrop plane batch => lt plane 8 && lt batch 4096
  | .readRsp plane p => lt plane 8 && p.wf
  | .writeAck plane p => lt plane 8 && p.wf
  | .atomicRsp plane p => lt plane 8 && p.wf
  | .msgSend plane p => lt plane 8 && p.wf
  | .msgAck plane p => lt plane 8 && p.wf
  | .msgDupExpiry sender => lt sender (2 ^ 20)
  | .responseTimeout tag => lt tag (2 ^ 18)
  | .portDownReissue tag => lt tag (2 ^ 18)
  | .fenceComplete engine => lt engine 288
  | .ctrSub index value => lt index 65536 && w32bit value
  | .rlcInval value => w32bit value
  | .rlcAdviceWrite index value => lt index 128 && w32bit value
  | .keyTableWrite addr value => decide (0x34000 ≤ addr) && lt addr 0x38000 && addr % 4 == 0 && w32bit value
  | .rlcDisable => true
  | .ld m => m.wf
  | .st m => m.wf
  | .stMasked m => m.wf
  | .lhaAt m => m.wf
  | .lhaFence m => m.wf
  | .kernelStart m => m.wf
  | .regRd m => m.wf
  | .regWr m => m.wf
  | .mrdRsp m => m.wf
  | .mwrAck m => m.wf
  | .matRsp m => m.wf
  | .credit m => m.wf
  | .moduleTrained module _ => lt module 4
  | .offerRetry module => lt module 4
  | .accept m => m.wf
  | .quiesce m => m.wf
  | .quiesceComplete => true
  | .moduleLinkLost module => lt module 4
  | .ereqTimeout module => lt module 4
  | .ereqPauseEnd => true
  | .noticeSend => true
  | .serveWrite => true
  | .pwrAlertInWrite value => w32bit value
  | .lhaMalformedMessage m => m.wf
  | .ceDoorbell engine value => lt engine 32 && w32bit value
  | .ceEnable engine => lt engine 32
  | .ceDisable engine => lt engine 32
  | .ceResume engine => lt engine 32
  | .ceAbort engine => lt engine 32
  | .copy engine => lt engine 32
  | .qcopy engine fails => lt engine 32 && fails.all (fun f => lt f.1 65536)
  | .ceAtomic engine => lt engine 32
  | .ceFlag engine => lt engine 32
  | .ceFence engine => lt engine 32
  | .nop engine => lt engine 32
  | .ceCompletion engine => lt engine 32
  | .measSlotOpen slot value => lt slot 16 && w32bit value
  | .measSlotClose slot => lt slot 16
  | .xqDoorbell value => w32bit value
  | .invalidate => true
  | .invalidateDrained _ => true
  | .invalidateStuck _ => true
  | .migrate => true
  | .migrateCopyDone _ => true
  | .adviseResident => true
  | .adviseReadMostly => true
  | .adviseStreaming => true
  | .adviseEvict => true
  | .adviseNormal => true
  | .intent port p => lt port 288 && p.wf
  | .contrib port p => lt port 288 && p.wf
  | .abort port p => lt port 288 && p.wf
  | .received port p => lt port 288 && p.wf
  | .query port p => lt port 288 && p.wf
  | .intentWaitExpired handle => lt handle 4096
  | .collStall handle => lt handle 4096
  | .collDoorbell value => w32bit value
  | .collDescriptorStart => true
  | .grantAdmit plane p fails => lt plane 8 && p.wf && fails.all (fun f => lt f.1 65536)
  | .grantCredit plane p => lt plane 8 && p.wf
  | .result plane p => lt plane 8 && p.wf
  | .abortNotice plane p => lt plane 8 && p.wf
  | .done plane p => lt plane 8 && p.wf
  | .resend plane p => lt plane 8 && p.wf
  | .collWaitExpired _ => true
  | .barAdd core ctx rd ra rb => lt core 64 && lt ctx 16 && lt rd 32 && lt ra 32 && lt rb 32
  | .barSub core ctx rd ra rb => lt core 64 && lt ctx 16 && lt rd 32 && lt ra 32 && lt rb 32
  | .barAnd core ctx rd ra rb => lt core 64 && lt ctx 16 && lt rd 32 && lt ra 32 && lt rb 32
  | .barOr core ctx rd ra rb => lt core 64 && lt ctx 16 && lt rd 32 && lt ra 32 && lt rb 32
  | .barXor core ctx rd ra rb => lt core 64 && lt ctx 16 && lt rd 32 && lt ra 32 && lt rb 32
  | .barSll core ctx rd ra rb => lt core 64 && lt ctx 16 && lt rd 32 && lt ra 32 && lt rb 32
  | .barSrl core ctx rd ra rb => lt core 64 && lt ctx 16 && lt rd 32 && lt ra 32 && lt rb 32
  | .barSra core ctx rd ra rb => lt core 64 && lt ctx 16 && lt rd 32 && lt ra 32 && lt rb 32
  | .barMul core ctx rd ra rb => lt core 64 && lt ctx 16 && lt rd 32 && lt ra 32 && lt rb 32
  | .barMulhu core ctx rd ra rb => lt core 64 && lt ctx 16 && lt rd 32 && lt ra 32 && lt rb 32
  | .barDivu core ctx rd ra rb => lt core 64 && lt ctx 16 && lt rd 32 && lt ra 32 && lt rb 32
  | .barRemu core ctx rd ra rb => lt core 64 && lt ctx 16 && lt rd 32 && lt ra 32 && lt rb 32
  | .barSlt core ctx rd ra rb => lt core 64 && lt ctx 16 && lt rd 32 && lt ra 32 && lt rb 32
  | .barSltu core ctx rd ra rb => lt core 64 && lt ctx 16 && lt rd 32 && lt ra 32 && lt rb 32
  | .barMin core ctx rd ra rb => lt core 64 && lt ctx 16 && lt rd 32 && lt ra 32 && lt rb 32
  | .barMax core ctx rd ra rb => lt core 64 && lt ctx 16 && lt rd 32 && lt ra 32 && lt rb 32
  | .barAddi core ctx rd ra imm => lt core 64 && lt ctx 16 && lt rd 32 && lt ra 32 && lt imm 65536
  | .barAndi core ctx rd ra imm => lt core 64 && lt ctx 16 && lt rd 32 && lt ra 32 && lt imm 65536
  | .barOri core ctx rd ra imm => lt core 64 && lt ctx 16 && lt rd 32 && lt ra 32 && lt imm 65536
  | .barXori core ctx rd ra imm => lt core 64 && lt ctx 16 && lt rd 32 && lt ra 32 && lt imm 65536
  | .barLui core ctx rd ra imm => lt core 64 && lt ctx 16 && lt rd 32 && ra == 0 && lt imm 65536
  | .barSlli core ctx rd ra imm => lt core 64 && lt ctx 16 && lt rd 32 && lt ra 32 && lt imm 65536
  | .barSrli core ctx rd ra imm => lt core 64 && lt ctx 16 && lt rd 32 && lt ra 32 && lt imm 65536
  | .barBeq core ctx rd ra imm => lt core 64 && lt ctx 16 && lt rd 32 && lt ra 32 && lt imm 65536
  | .barBne core ctx rd ra imm => lt core 64 && lt ctx 16 && lt rd 32 && lt ra 32 && lt imm 65536
  | .barBlt core ctx rd ra imm => lt core 64 && lt ctx 16 && lt rd 32 && lt ra 32 && lt imm 65536
  | .barBge core ctx rd ra imm => lt core 64 && lt ctx 16 && lt rd 32 && lt ra 32 && lt imm 65536
  | .barBltu core ctx rd ra imm => lt core 64 && lt ctx 16 && lt rd 32 && lt ra 32 && lt imm 65536
  | .barBgeu core ctx rd ra imm => lt core 64 && lt ctx 16 && lt rd 32 && lt ra 32 && lt imm 65536
  | .barJal core ctx off => lt core 64 && lt ctx 16 && lt off (2 ^ 26)
  | .barJr core ctx rd ra rb => lt core 64 && lt ctx 16 && lt rd 32 && lt ra 32 && lt rb 32
  | .barLd core ctx rd ra imm => lt core 64 && lt ctx 16 && lt rd 32 && lt ra 32 && lt imm 65536
  | .barLw core ctx rd ra imm => lt core 64 && lt ctx 16 && lt rd 32 && lt ra 32 && lt imm 65536
  | .barSt core ctx rd ra imm => lt core 64 && lt ctx 16 && lt rd 32 && lt ra 32 && lt imm 65536
  | .barSw core ctx rd ra imm => lt core 64 && lt ctx 16 && lt rd 32 && lt ra 32 && lt imm 65536
  | .barDld core ctx rd ra imm => lt core 64 && lt ctx 16 && lt rd 32 && lt ra 32 && lt imm 65536
  | .barDst core ctx rd ra imm => lt core 64 && lt ctx 16 && lt rd 32 && lt ra 32 && lt imm 65536
  | .barFlush core ctx rd ra rb => lt core 64 && lt ctx 16 && lt rd 32 && lt ra 32 && lt rb 32
  | .barCpy core ctx rd ra rb rn mode => lt core 64 && lt ctx 16 && lt rd 32 && lt ra 32 && lt rb 32 && lt rn 32 && lt mode 64
  | .barCwait core ctx rd ra rb => lt core 64 && lt ctx 16 && lt rd 32 && lt ra 32 && lt rb 32
  | .barVcvt core ctx rd ra rb rn mode fails => lt core 64 && lt ctx 16 && lt rd 32 && lt ra 32 && lt rb 32 && lt rn 32 && lt mode 64 && w32bit fails
  | .barVacc core ctx rd ra rb rn mode fails => lt core 64 && lt ctx 16 && lt rd 32 && lt ra 32 && lt rb 32 && lt rn 32 && lt mode 64 && w32bit fails
  | .barVfin core ctx rd ra rb rn mode fails => lt core 64 && lt ctx 16 && lt rd 32 && lt ra 32 && lt rb 32 && lt rn 32 && lt mode 64 && w32bit fails
  | .barVqnt core ctx rd ra rb rn mode fails => lt core 64 && lt ctx 16 && lt rd 32 && lt ra 32 && lt rb 32 && lt rn 32 && lt mode 64 && w32bit fails
  | .barVmrg core ctx rd ra rb rn mode => lt core 64 && lt ctx 16 && lt rd 32 && lt ra 32 && lt rb 32 && lt rn 32 && lt mode 64
  | .barVspr core ctx rd ra rb rn mode fails => lt core 64 && lt ctx 16 && lt rd 32 && lt ra 32 && lt rb 32 && lt rn 32 && lt mode 64 && w32bit fails
  | .barVmov core ctx rd ra rb rn mode => lt core 64 && lt ctx 16 && lt rd 32 && lt ra 32 && lt rb 32 && lt rn 32 && lt mode 64
  | .barVwait core ctx rd ra rb => lt core 64 && lt ctx 16 && lt rd 32 && lt ra 32 && lt rb 32
  | .barSwait core ctx rd ra rb => lt core 64 && lt ctx 16 && lt rd 32 && lt ra 32 && lt rb 32
  | .barSall core ctx rd ra rb => lt core 64 && lt ctx 16 && lt rd 32 && lt ra 32 && lt rb 32
  | .barSrel core ctx rd ra rb => lt core 64 && lt ctx 16 && lt rd 32 && lt ra 32 && lt rb 32
  | .barScnt core ctx rd ra rb => lt core 64 && lt ctx 16 && lt rd 32 && lt ra 32 && lt rb 32
  | .barRcast core ctx rd ra rb rn mode => lt core 64 && lt ctx 16 && lt rd 32 && lt ra 32 && lt rb 32 && lt rn 32 && lt mode 64
  | .barRsend core ctx rd ra rb rn mode => lt core 64 && lt ctx 16 && lt rd 32 && lt ra 32 && lt rb 32 && lt rn 32 && lt mode 64
  | .barRwait core ctx rd ra rb => lt core 64 && lt ctx 16 && lt rd 32 && lt ra 32 && lt rb 32
  | .barPick core ctx rd ra rb => lt core 64 && lt ctx 16 && lt rd 32 && lt ra 32 && lt rb 32
  | .barAbrt core ctx rd ra rb => lt core 64 && lt ctx 16 && lt rd 32 && lt ra 32 && lt rb 32
  | .barEnd core ctx rd ra rb => lt core 64 && lt ctx 16 && lt rd 32 && lt ra 32 && lt rb 32
  | .contextResume core ctx => lt core 64 && lt ctx 16
  | .watchdogFire core ctx => lt core 64 && lt ctx 16
  | .progLoad z => z.wf
  | .progUnload z => z.wf
  | .progPieceTimeout slot => lt slot 64
  | .peFailure engine => lt engine 18
  | .dramStackFailure stack _ => lt stack 2
  | .fence z => z.wf
  | .takeover z => z.wf
  | .membNotice plane p => lt plane 8 && p.wf
  | .unitTest z => z.wf
  | .unitTestDone _ _ => true
  | .ledgerClear z => z.wf
  | .ledgerRead z => z.wf
  | .fwStageBegin z => z.wf
  | .fwStageData z => z.wf
  | .fwStageEnd z => z.wf
  | .fwActivate z => z.wf
  | .fwActivationPick _ => true
  | .fwRestartDone _ => true
  | .fwTrialEnd _ _ => true
  | .guyLinkChange _ _ _ => true
  | .flashEraseComplete _ => true
  | .sensorSample _ samples => samples.all (fun x => x.wf)
  | .rampAlarmEnd _ => true
  | .flashInhibitEnd _ => true
  | .powerCap z => z.wf
  | .leaseExpired _ => true
  | .thermalAlert z => z.wf
  | .powerAlertAssert => true
  | .powerAlertDeassert => true
  | .alertHoldExpired _ => true
  | .bivouac z => z.wf
  | .bivouacEntry _ => true
  | .wake z => z.wf
  | .wakeComplete _ passed => passed.all (fun u => lt u.1 16 && lt u.2 512)
  | .resetAssert _ => true
  | .resetRelease _ => true
  | .secureBootDone _ _ _ => true
  | .railFault _ => true
  | .suddenPowerLoss _ => true
  | .pitchScrubDone pitch => lt pitch 16
  | .epScrubDone => true
  | .resourceScrubDone kind unit => lt kind 5 && lt unit (2 ^ 17)
  | .debugUnlock _ => true
  | .ownerEnrol z => z.wf
  | .ownerRelease z => z.wf
  | .pitchEnrol z => z.wf
  | .pitchKeySet z => z.wf
  | .spdmMsg z enclosed => z.wf && (match enclosed with | some t => w32bit t | none => true)
  | .getVersion r => r.wf
  | .getCapabilities r => r.wf
  | .negotiateAlgorithms r => r.wf
  | .getDigests r => r.wf
  | .getCertificate r => r.wf
  | .challenge r => r.wf
  | .getMeasurements r => r.wf
  | .keyExchange r => r.wf
  | .finish r => r.wf
  | .heartbeat r => r.wf
  | .keyUpdate r => r.wf
  | .endSession r => r.wf
  | .identify z => z.wf
  | .regRead z => z.wf
  | .regWriteCmd z => z.wf
  | .echo z => z.wf
  | .relay z => z.wf
  | .relayReply _ tag enclosed => w32bit tag && lt enclosed.length 257
  | .relayTimeout _ tag => w32bit tag
  | .stageWrite z => z.wf
  | .check z => z.wf
  | .commitAt z => z.wf
  | .cancel z => z.wf
  | .stageStatus z => z.wf
  | .portRaise z => z.wf
  | .portStrike z => z.wf
  | .collAbort z => z.wf
  | .collStatus z => z.wf
  | .xltCmd z => z.wf
  | .tagRecordExpired _ tag => w32bit tag
  | .i3cPrivateRead _ => true
  | .entdaa _ addr => lt addr 128
  | .arpRequest _ _ addr => w32bit addr
  | .neighbourSolicit _ _ addr => lt addr (2 ^ 128)
  | .zhevselerPacketRejected z magic opcode => z.wf && lt magic 65536 && lt opcode 65536
  | .reservedOpcodePacket plane p => lt plane 8 && p.wf

end Sys2Proof
end

