-- ==== Sys2Proof/Safety.lean ====
section
/-!
DEFINITION. What claims are stated with: which part a command acts on, whether the units that it names exist, when a part works, when nothing waits in it, and the invariant that every step keeps.
-/

namespace Sys2Proof.Machine

/-! ### Commands -/

/-- Every unit that a command names exists: its port, comb, engine, core, context, queue or slot. -/
def unitsExist (c : Instr) : Bool :=
  match c with
  | .registerWrite _ _ _ => true
  | .viewWrite _ _ _ => true
  | .eventRegisterClear _ _ _ => true
  | .loWordRead _ _ _ => true
  | .wpWriteComplete _ _ => true
  | .idCntClear _ _ => true
  | .telHwmClr part port _ => decide (port < portCount part)
  | .thermHwmClear _ _ => true
  | .pickBoundary _ => true
  | .pickSyncPulse part _ _ _ => part == .sw
  | .holdoverExpired _ => true
  | .pickMarker part port _ => decide (port < portCount part)
  | .stagedSetCommit _ set => decide (set < 8)
  | .membershipCommit _ => true
  | .stakedAccept flow => decide (flow < 2048)
  | .wheelSlot slot => decide (slot < 1024)
  | .flitSend part port _ => decide (port < portCount part)
  | .flitReceived part port _ => decide (port < portCount part)
  | .replayTimeout part port => decide (port < portCount part)
  | .trainingSet part port _ _ => decide (port < portCount part)
  | .stageTimeout part port => decide (port < portCount part)
  | .caps part port _ => decide (port < portCount part)
  | .ident part port _ => decide (port < portCount part)
  | .wire part port _ _ => decide (port < portCount part)
  | .creditInit part port _ => decide (port < portCount part)
  | .admitMsg port _ => decide (port < portCount .ep)
  | .laneCtrlCheck part port _ _ => decide (port < portCount part)
  | .move part port _ => decide (port < portCount part)
  | .moveOk part port _ => decide (port < portCount part)
  | .moveNo part port _ => decide (port < portCount part)
  | .width part port _ => decide (port < portCount part)
  | .widthOk part port _ => decide (port < portCount part)
  | .laneCtrlRetry part port => decide (port < portCount part)
  | .drain part port => decide (port < portCount part)
  | .drainDone part port => decide (port < portCount part)
  | .strike part port => decide (port < portCount part)
  | .strikeDone part port => decide (port < portCount part)
  | .strikeComplete part port => decide (port < portCount part)
  | .strikeStepTimeout part port => decide (port < portCount part)
  | .linkCmdRaise part port => decide (port < portCount part)
  | .linkCmdStrike part port _ => decide (port < portCount part)
  | .linkCmdCheck part port => decide (port < portCount part)
  | .linkCmdClrLane part port => decide (port < portCount part)
  | .eyeStart part port _ => decide (port < portCount part)
  | .eyeStop part port => decide (port < portCount part)
  | .eyeScanDone part port _ _ => decide (port < portCount part)
  | .monitorSample part port _ => decide (port < portCount part)
  | .warmReraiseDone part port _ => decide (port < portCount part)
  | .openFibre part port => decide (port < portCount part)
  | .launchLimit part port => decide (port < portCount part)
  | .probePulse part port => decide (port < portCount part)
  | .probeSet part port => decide (port < portCount part)
  | .laserEnLow _ => true
  | .laserEnHigh _ => true
  | .combLocked part comb => decide (comb < combCount part)
  | .combWarmTimeout part comb => decide (comb < combCount part)
  | .combLockerLost part comb => decide (comb < combCount part)
  | .combOutputLow part comb => decide (comb < combCount part)
  | .spareLightArrived part engine => decide (engine < engineCount part)
  | .feedforwardSample part port _ => decide (port < portCount part)
  | .ringLockLost part port _ => decide (port < portCount part)
  | .ringRelock part port _ => decide (port < portCount part)
  | .slipRelockTimeout part port _ => decide (port < portCount part)
  | .opticalReport part port _ => decide (port < portCount part)
  | .ringsLocked part port _ => decide (port < portCount part)
  | .packetForward port _ => swPort port
  | .bufferAdmission port => swPort port
  | .matcherSlot _ _ => true
  | .sprayUnitArrival input output _ _ _ => swPort input && swPort output
  | .reedReceipt input output _ _ _ => swPort input && swPort output
  | .reedHoleTimeout input output => swPort input && swPort output
  | .packetAgeDiscard output => swPort output
  | .castSend group => decide (group < 32)
  | .combineAnswer port _ => swPort port
  | .mergedForget output _ => swPort output
  | .msgSendRoute port _ => swPort port
  | .msgSendSelvedge port _ => swPort port
  | .msgAckRoute port _ => swPort port
  | .requestSend from_ => decide (from_.engine < 288)
  | .read plane _ => epPlane plane
  | .write plane _ => epPlane plane
  | .writeMasked plane _ => epPlane plane
  | .writeFlagNode plane _ => epPlane plane
  | .writeFlagAll plane _ => epPlane plane
  | .atomic plane _ => epPlane plane
  | .mergedRequest plane _ => epPlane plane
  | .combineReceipt plane _ => epPlane plane
  | .flagHoldRelease _ _ => true
  | .flagHoldDiscard _ _ => true
  | .combineBatchDrop plane _ => epPlane plane
  | .readRsp plane _ => epPlane plane
  | .writeAck plane _ => epPlane plane
  | .atomicRsp plane _ => epPlane plane
  | .msgSend plane _ => epPlane plane
  | .msgAck plane _ => epPlane plane
  | .msgDupExpiry _ => true
  | .responseTimeout _ => true
  | .portDownReissue _ => true
  | .fenceComplete engine => decide (engine < 288)
  | .ctrSub index _ => decide (index < 65536)
  | .rlcInval _ => true
  | .rlcAdviceWrite index _ => decide (index < 128)
  | .keyTableWrite addr _ => decide (0x34000 ≤ addr) && decide (addr < 0x38000) && addr % 4 == 0
  | .rlcDisable => true
  | .ld m => epModule m.module
  | .st m => epModule m.module
  | .stMasked m => epModule m.module
  | .lhaAt m => epModule m.module
  | .lhaFence m => epModule m.module
  | .kernelStart m => epModule m.module
  | .regRd m => epModule m.module
  | .regWr m => epModule m.module
  | .mrdRsp m => epModule m.module
  | .mwrAck m => epModule m.module
  | .matRsp m => epModule m.module
  | .credit m => epModule m.module
  | .moduleTrained module _ => epModule module
  | .offerRetry module => epModule module
  | .accept m => epModule m.module
  | .quiesce m => epModule m.module
  | .quiesceComplete => true
  | .moduleLinkLost module => epModule module
  | .ereqTimeout module => epModule module
  | .ereqPauseEnd => true
  | .noticeSend => true
  | .serveWrite => true
  | .pwrAlertInWrite _ => true
  | .lhaMalformedMessage m => epModule m.module
  | .ceDoorbell engine _ => epEngine engine
  | .ceEnable engine => epEngine engine
  | .ceDisable engine => epEngine engine
  | .ceResume engine => epEngine engine
  | .ceAbort engine => epEngine engine
  | .copy engine => epEngine engine
  | .qcopy engine _ => epEngine engine
  | .ceAtomic engine => epEngine engine
  | .ceFlag engine => epEngine engine
  | .ceFence engine => epEngine engine
  | .nop engine => epEngine engine
  | .ceCompletion engine => epEngine engine
  | .measSlotOpen slot _ => decide (slot < 16)
  | .measSlotClose slot => decide (slot < 16)
  | .xqDoorbell _ => true
  | .invalidate => true
  | .invalidateDrained _ => true
  | .invalidateStuck _ => true
  | .migrate => true
  | .migrateCopyDone _ => true
  | .adviseResident => true
  | .adviseReadMostly => true
  | .adviseStreaming => true
  | .adviseEvict => true
  | .adviseNormal => true
  | .intent port _ => swPort port
  | .contrib port _ => swPort port
  | .abort port _ => swPort port
  | .received port _ => swPort port
  | .query port _ => swPort port
  | .intentWaitExpired handle => decide (handle < 4096)
  | .collStall handle => decide (handle < 4096)
  | .collDoorbell _ => true
  | .collDescriptorStart => true
  | .grantAdmit plane _ _ => epPlane plane
  | .grantCredit plane _ => epPlane plane
  | .result plane _ => epPlane plane
  | .abortNotice plane _ => epPlane plane
  | .done plane _ => epPlane plane
  | .resend plane _ => epPlane plane
  | .collWaitExpired _ => true
  | .barAdd core ctx _ _ _ => barUnit core ctx
  | .barSub core ctx _ _ _ => barUnit core ctx
  | .barAnd core ctx _ _ _ => barUnit core ctx
  | .barOr core ctx _ _ _ => barUnit core ctx
  | .barXor core ctx _ _ _ => barUnit core ctx
  | .barSll core ctx _ _ _ => barUnit core ctx
  | .barSrl core ctx _ _ _ => barUnit core ctx
  | .barSra core ctx _ _ _ => barUnit core ctx
  | .barMul core ctx _ _ _ => barUnit core ctx
  | .barMulhu core ctx _ _ _ => barUnit core ctx
  | .barDivu core ctx _ _ _ => barUnit core ctx
  | .barRemu core ctx _ _ _ => barUnit core ctx
  | .barSlt core ctx _ _ _ => barUnit core ctx
  | .barSltu core ctx _ _ _ => barUnit core ctx
  | .barMin core ctx _ _ _ => barUnit core ctx
  | .barMax core ctx _ _ _ => barUnit core ctx
  | .barAddi core ctx _ _ _ => barUnit core ctx
  | .barAndi core ctx _ _ _ => barUnit core ctx
  | .barOri core ctx _ _ _ => barUnit core ctx
  | .barXori core ctx _ _ _ => barUnit core ctx
  | .barLui core ctx _ _ _ => barUnit core ctx
  | .barSlli core ctx _ _ _ => barUnit core ctx
  | .barSrli core ctx _ _ _ => barUnit core ctx
  | .barBeq core ctx _ _ _ => barUnit core ctx
  | .barBne core ctx _ _ _ => barUnit core ctx
  | .barBlt core ctx _ _ _ => barUnit core ctx
  | .barBge core ctx _ _ _ => barUnit core ctx
  | .barBltu core ctx _ _ _ => barUnit core ctx
  | .barBgeu core ctx _ _ _ => barUnit core ctx
  | .barJal core ctx _ => barUnit core ctx
  | .barJr core ctx _ _ _ => barUnit core ctx
  | .barLd core ctx _ _ _ => barUnit core ctx
  | .barLw core ctx _ _ _ => barUnit core ctx
  | .barSt core ctx _ _ _ => barUnit core ctx
  | .barSw core ctx _ _ _ => barUnit core ctx
  | .barDld core ctx _ _ _ => barUnit core ctx
  | .barDst core ctx _ _ _ => barUnit core ctx
  | .barFlush core ctx _ _ _ => barUnit core ctx
  | .barCpy core ctx _ _ _ _ _ => barUnit core ctx
  | .barCwait core ctx _ _ _ => barUnit core ctx
  | .barVcvt core ctx _ _ _ _ _ _ => barUnit core ctx
  | .barVacc core ctx _ _ _ _ _ _ => barUnit core ctx
  | .barVfin core ctx _ _ _ _ _ _ => barUnit core ctx
  | .barVqnt core ctx _ _ _ _ _ _ => barUnit core ctx
  | .barVmrg core ctx _ _ _ _ _ => barUnit core ctx
  | .barVspr core ctx _ _ _ _ _ _ => barUnit core ctx
  | .barVmov core ctx _ _ _ _ _ => barUnit core ctx
  | .barVwait core ctx _ _ _ => barUnit core ctx
  | .barSwait core ctx _ _ _ => barUnit core ctx
  | .barSall core ctx _ _ _ => barUnit core ctx
  | .barSrel core ctx _ _ _ => barUnit core ctx
  | .barScnt core ctx _ _ _ => barUnit core ctx
  | .barRcast core ctx _ _ _ _ _ => barUnit core ctx
  | .barRsend core ctx _ _ _ _ _ => barUnit core ctx
  | .barRwait core ctx _ _ _ => barUnit core ctx
  | .barPick core ctx _ _ _ => barUnit core ctx
  | .barAbrt core ctx _ _ _ => barUnit core ctx
  | .barEnd core ctx _ _ _ => barUnit core ctx
  | .contextResume core ctx => barUnit core ctx
  | .watchdogFire core ctx => barUnit core ctx
  | .progLoad _ => true
  | .progUnload _ => true
  | .progPieceTimeout slot => decide (slot < 64)
  | .peFailure engine => decide (engine < 18)
  | .dramStackFailure stack _ => decide (stack < 2)
  | .fence _ => true
  | .takeover _ => true
  | .membNotice plane _ => epPlane plane
  | .unitTest _ => true
  | .unitTestDone _ _ => true
  | .ledgerClear _ => true
  | .ledgerRead _ => true
  | .fwStageBegin _ => true
  | .fwStageData _ => true
  | .fwStageEnd _ => true
  | .fwActivate _ => true
  | .fwActivationPick _ => true
  | .fwRestartDone _ => true
  | .fwTrialEnd _ _ => true
  | .guyLinkChange _ _ _ => true
  | .flashEraseComplete _ => true
  | .sensorSample _ _ => true
  | .rampAlarmEnd _ => true
  | .flashInhibitEnd _ => true
  | .powerCap _ => true
  | .leaseExpired _ => true
  | .thermalAlert _ => true
  | .powerAlertAssert => true
  | .powerAlertDeassert => true
  | .alertHoldExpired _ => true
  | .bivouac _ => true
  | .bivouacEntry _ => true
  | .wake _ => true
  | .wakeComplete _ _ => true
  | .resetAssert _ => true
  | .resetRelease _ => true
  | .secureBootDone _ _ _ => true
  | .railFault _ => true
  | .suddenPowerLoss _ => true
  | .pitchScrubDone pitch => decide (pitch < 16)
  | .epScrubDone => true
  | .resourceScrubDone kind _ => decide (kind < 5)
  | .debugUnlock _ => true
  | .ownerEnrol _ => true
  | .ownerRelease _ => true
  | .pitchEnrol _ => true
  | .pitchKeySet _ => true
  | .spdmMsg _ _ => true
  | .getVersion _ => true
  | .getCapabilities _ => true
  | .negotiateAlgorithms _ => true
  | .getDigests _ => true
  | .getCertificate _ => true
  | .challenge _ => true
  | .getMeasurements _ => true
  | .keyExchange _ => true
  | .finish _ => true
  | .heartbeat _ => true
  | .keyUpdate _ => true
  | .endSession _ => true
  | .identify _ => true
  | .regRead _ => true
  | .regWriteCmd _ => true
  | .echo _ => true
  | .relay _ => true
  | .relayReply _ _ _ => true
  | .relayTimeout _ _ => true
  | .stageWrite _ => true
  | .check _ => true
  | .commitAt _ => true
  | .cancel _ => true
  | .stageStatus _ => true
  | .portRaise _ => true
  | .portStrike _ => true
  | .collAbort _ => true
  | .collStatus _ => true
  | .xltCmd _ => true
  | .tagRecordExpired _ _ => true
  | .i3cPrivateRead _ => true
  | .entdaa _ _ => true
  | .arpRequest _ _ _ => true
  | .neighbourSolicit _ _ _ => true
  | .zhevselerPacketRejected _ _ _ => true
  | .reservedOpcodePacket plane _ => epPlane plane

/-- The part that a command acts on. -/
def partOf (c : Instr) : Part :=
  match c with
  | .registerWrite part _ _ => part
  | .viewWrite part _ _ => part
  | .eventRegisterClear part _ _ => part
  | .loWordRead part _ _ => part
  | .wpWriteComplete part _ => part
  | .idCntClear part _ => part
  | .telHwmClr part _ _ => part
  | .thermHwmClear part _ => part
  | .pickBoundary b => b.part
  | .pickSyncPulse part _ _ _ => part
  | .holdoverExpired part => part
  | .pickMarker part _ _ => part
  | .stagedSetCommit part _ => part
  | .membershipCommit part => part
  | .stakedAccept _ => .ep
  | .wheelSlot _ => .ep
  | .flitSend part _ _ => part
  | .flitReceived part _ _ => part
  | .replayTimeout part _ => part
  | .trainingSet part _ _ _ => part
  | .stageTimeout part _ => part
  | .caps part _ _ => part
  | .ident part _ _ => part
  | .wire part _ _ _ => part
  | .creditInit part _ _ => part
  | .admitMsg _ _ => .ep
  | .laneCtrlCheck part _ _ _ => part
  | .move part _ _ => part
  | .moveOk part _ _ => part
  | .moveNo part _ _ => part
  | .width part _ _ => part
  | .widthOk part _ _ => part
  | .laneCtrlRetry part _ => part
  | .drain part _ => part
  | .drainDone part _ => part
  | .strike part _ => part
  | .strikeDone part _ => part
  | .strikeComplete part _ => part
  | .strikeStepTimeout part _ => part
  | .linkCmdRaise part _ => part
  | .linkCmdStrike part _ _ => part
  | .linkCmdCheck part _ => part
  | .linkCmdClrLane part _ => part
  | .eyeStart part _ _ => part
  | .eyeStop part _ => part
  | .eyeScanDone part _ _ _ => part
  | .monitorSample part _ _ => part
  | .warmReraiseDone part _ _ => part
  | .openFibre part _ => part
  | .launchLimit part _ => part
  | .probePulse part _ => part
  | .probeSet part _ => part
  | .laserEnLow part => part
  | .laserEnHigh part => part
  | .combLocked part _ => part
  | .combWarmTimeout part _ => part
  | .combLockerLost part _ => part
  | .combOutputLow part _ => part
  | .spareLightArrived part _ => part
  | .feedforwardSample part _ _ => part
  | .ringLockLost part _ _ => part
  | .ringRelock part _ _ => part
  | .slipRelockTimeout part _ _ => part
  | .opticalReport part _ _ => part
  | .ringsLocked part _ _ => part
  | .packetForward _ _ => .sw
  | .bufferAdmission _ => .sw
  | .matcherSlot _ _ => .sw
  | .sprayUnitArrival _ _ _ _ _ => .sw
  | .reedReceipt _ _ _ _ _ => .sw
  | .reedHoleTimeout _ _ => .sw
  | .packetAgeDiscard _ => .sw
  | .castSend _ => .sw
  | .combineAnswer _ _ => .sw
  | .mergedForget _ _ => .sw
  | .msgSendRoute _ _ => .sw
  | .msgSendSelvedge _ _ => .sw
  | .msgAckRoute _ _ => .sw
  | .requestSend _ => .ep
  | .read _ _ => .ep
  | .write _ _ => .ep
  | .writeMasked _ _ => .ep
  | .writeFlagNode _ _ => .ep
  | .writeFlagAll _ _ => .ep
  | .atomic _ _ => .ep
  | .mergedRequest _ _ => .ep
  | .combineReceipt _ _ => .ep
  | .flagHoldRelease _ _ => .ep
  | .flagHoldDiscard _ _ => .ep
  | .combineBatchDrop _ _ => .ep
  | .readRsp _ _ => .ep
  | .writeAck _ _ => .ep
  | .atomicRsp _ _ => .ep
  | .msgSend _ _ => .ep
  | .msgAck _ _ => .ep
  | .msgDupExpiry _ => .ep
  | .responseTimeout _ => .ep
  | .portDownReissue _ => .ep
  | .fenceComplete _ => .ep
  | .ctrSub _ _ => .ep
  | .rlcInval _ => .ep
  | .rlcAdviceWrite _ _ => .ep
  | .keyTableWrite _ _ => .ep
  | .rlcDisable => .ep
  | .ld _ => .ep
  | .st _ => .ep
  | .stMasked _ => .ep
  | .lhaAt _ => .ep
  | .lhaFence _ => .ep
  | .kernelStart _ => .ep
  | .regRd _ => .ep
  | .regWr _ => .ep
  | .mrdRsp _ => .ep
  | .mwrAck _ => .ep
  | .matRsp _ => .ep
  | .credit _ => .ep
  | .moduleTrained _ _ => .ep
  | .offerRetry _ => .ep
  | .accept _ => .ep
  | .quiesce _ => .ep
  | .quiesceComplete => .ep
  | .moduleLinkLost _ => .ep
  | .ereqTimeout _ => .ep
  | .ereqPauseEnd => .ep
  | .noticeSend => .ep
  | .serveWrite => .ep
  | .pwrAlertInWrite _ => .ep
  | .lhaMalformedMessage _ => .ep
  | .ceDoorbell _ _ => .ep
  | .ceEnable _ => .ep
  | .ceDisable _ => .ep
  | .ceResume _ => .ep
  | .ceAbort _ => .ep
  | .copy _ => .ep
  | .qcopy _ _ => .ep
  | .ceAtomic _ => .ep
  | .ceFlag _ => .ep
  | .ceFence _ => .ep
  | .nop _ => .ep
  | .ceCompletion _ => .ep
  | .measSlotOpen _ _ => .ep
  | .measSlotClose _ => .ep
  | .xqDoorbell _ => .ep
  | .invalidate => .ep
  | .invalidateDrained _ => .ep
  | .invalidateStuck _ => .ep
  | .migrate => .ep
  | .migrateCopyDone _ => .ep
  | .adviseResident => .ep
  | .adviseReadMostly => .ep
  | .adviseStreaming => .ep
  | .adviseEvict => .ep
  | .adviseNormal => .ep
  | .intent _ _ => .sw
  | .contrib _ _ => .sw
  | .abort _ _ => .sw
  | .received _ _ => .sw
  | .query _ _ => .sw
  | .intentWaitExpired _ => .sw
  | .collStall _ => .sw
  | .collDoorbell _ => .ep
  | .collDescriptorStart => .ep
  | .grantAdmit _ _ _ => .ep
  | .grantCredit _ _ => .ep
  | .result _ _ => .ep
  | .abortNotice _ _ => .ep
  | .done _ _ => .ep
  | .resend _ _ => .ep
  | .collWaitExpired _ => .ep
  | .barAdd _ _ _ _ _ => .sw
  | .barSub _ _ _ _ _ => .sw
  | .barAnd _ _ _ _ _ => .sw
  | .barOr _ _ _ _ _ => .sw
  | .barXor _ _ _ _ _ => .sw
  | .barSll _ _ _ _ _ => .sw
  | .barSrl _ _ _ _ _ => .sw
  | .barSra _ _ _ _ _ => .sw
  | .barMul _ _ _ _ _ => .sw
  | .barMulhu _ _ _ _ _ => .sw
  | .barDivu _ _ _ _ _ => .sw
  | .barRemu _ _ _ _ _ => .sw
  | .barSlt _ _ _ _ _ => .sw
  | .barSltu _ _ _ _ _ => .sw
  | .barMin _ _ _ _ _ => .sw
  | .barMax _ _ _ _ _ => .sw
  | .barAddi _ _ _ _ _ => .sw
  | .barAndi _ _ _ _ _ => .sw
  | .barOri _ _ _ _ _ => .sw
  | .barXori _ _ _ _ _ => .sw
  | .barLui _ _ _ _ _ => .sw
  | .barSlli _ _ _ _ _ => .sw
  | .barSrli _ _ _ _ _ => .sw
  | .barBeq _ _ _ _ _ => .sw
  | .barBne _ _ _ _ _ => .sw
  | .barBlt _ _ _ _ _ => .sw
  | .barBge _ _ _ _ _ => .sw
  | .barBltu _ _ _ _ _ => .sw
  | .barBgeu _ _ _ _ _ => .sw
  | .barJal _ _ _ => .sw
  | .barJr _ _ _ _ _ => .sw
  | .barLd _ _ _ _ _ => .sw
  | .barLw _ _ _ _ _ => .sw
  | .barSt _ _ _ _ _ => .sw
  | .barSw _ _ _ _ _ => .sw
  | .barDld _ _ _ _ _ => .sw
  | .barDst _ _ _ _ _ => .sw
  | .barFlush _ _ _ _ _ => .sw
  | .barCpy _ _ _ _ _ _ _ => .sw
  | .barCwait _ _ _ _ _ => .sw
  | .barVcvt _ _ _ _ _ _ _ _ => .sw
  | .barVacc _ _ _ _ _ _ _ _ => .sw
  | .barVfin _ _ _ _ _ _ _ _ => .sw
  | .barVqnt _ _ _ _ _ _ _ _ => .sw
  | .barVmrg _ _ _ _ _ _ _ => .sw
  | .barVspr _ _ _ _ _ _ _ _ => .sw
  | .barVmov _ _ _ _ _ _ _ => .sw
  | .barVwait _ _ _ _ _ => .sw
  | .barSwait _ _ _ _ _ => .sw
  | .barSall _ _ _ _ _ => .sw
  | .barSrel _ _ _ _ _ => .sw
  | .barScnt _ _ _ _ _ => .sw
  | .barRcast _ _ _ _ _ _ _ => .sw
  | .barRsend _ _ _ _ _ _ _ => .sw
  | .barRwait _ _ _ _ _ => .sw
  | .barPick _ _ _ _ _ => .sw
  | .barAbrt _ _ _ _ _ => .sw
  | .barEnd _ _ _ _ _ => .sw
  | .contextResume _ _ => .sw
  | .watchdogFire _ _ => .sw
  | .progLoad z => z.part
  | .progUnload z => z.part
  | .progPieceTimeout _ => .sw
  | .peFailure _ => .sw
  | .dramStackFailure _ _ => .sw
  | .fence z => z.part
  | .takeover z => z.part
  | .membNotice _ _ => .ep
  | .unitTest z => z.part
  | .unitTestDone part _ => part
  | .ledgerClear z => z.part
  | .ledgerRead z => z.part
  | .fwStageBegin z => z.part
  | .fwStageData z => z.part
  | .fwStageEnd z => z.part
  | .fwActivate z => z.part
  | .fwActivationPick part => part
  | .fwRestartDone part => part
  | .fwTrialEnd part _ => part
  | .guyLinkChange part _ _ => part
  | .flashEraseComplete part => part
  | .sensorSample part _ => part
  | .rampAlarmEnd part => part
  | .flashInhibitEnd part => part
  | .powerCap z => z.part
  | .leaseExpired part => part
  | .thermalAlert z => z.part
  | .powerAlertAssert => .sw
  | .powerAlertDeassert => .sw
  | .alertHoldExpired part => part
  | .bivouac z => z.part
  | .bivouacEntry part => part
  | .wake z => z.part
  | .wakeComplete part _ => part
  | .resetAssert part => part
  | .resetRelease part => part
  | .secureBootDone part _ _ => part
  | .railFault part => part
  | .suddenPowerLoss part => part
  | .pitchScrubDone _ => .sw
  | .epScrubDone => .ep
  | .resourceScrubDone _ _ => .sw
  | .debugUnlock part => part
  | .ownerEnrol z => z.part
  | .ownerRelease z => z.part
  | .pitchEnrol z => z.part
  | .pitchKeySet z => z.part
  | .spdmMsg z _ => z.part
  | .getVersion r => r.part
  | .getCapabilities r => r.part
  | .negotiateAlgorithms r => r.part
  | .getDigests r => r.part
  | .getCertificate r => r.part
  | .challenge r => r.part
  | .getMeasurements r => r.part
  | .keyExchange r => r.part
  | .finish r => r.part
  | .heartbeat r => r.part
  | .keyUpdate r => r.part
  | .endSession r => r.part
  | .identify z => z.part
  | .regRead z => z.part
  | .regWriteCmd z => z.part
  | .echo z => z.part
  | .relay z => z.part
  | .relayReply part _ _ => part
  | .relayTimeout part _ => part
  | .stageWrite z => z.part
  | .check z => z.part
  | .commitAt z => z.part
  | .cancel z => z.part
  | .stageStatus z => z.part
  | .portRaise z => z.part
  | .portStrike z => z.part
  | .collAbort z => z.part
  | .collStatus z => z.part
  | .xltCmd z => z.part
  | .tagRecordExpired part _ => part
  | .i3cPrivateRead part => part
  | .entdaa part _ => part
  | .arpRequest part _ _ => part
  | .neighbourSolicit part _ _ => part
  | .zhevselerPacketRejected z _ _ => z.part
  | .reservedOpcodePacket _ _ => .ep

/-- Commands that also reach a part held in reset or without power: resets, rails, lands and line carriers. -/
def reachesHeld (c : Instr) : Bool :=
  match c with
  | .registerWrite _ _ _ => false
  | .viewWrite _ _ _ => false
  | .eventRegisterClear _ _ _ => false
  | .loWordRead _ _ _ => false
  | .wpWriteComplete _ _ => false
  | .idCntClear _ _ => false
  | .telHwmClr _ _ _ => false
  | .thermHwmClear _ _ => false
  | .pickBoundary _ => false
  | .pickSyncPulse _ _ _ _ => false
  | .holdoverExpired _ => false
  | .pickMarker _ _ _ => false
  | .stagedSetCommit _ _ => false
  | .membershipCommit _ => false
  | .stakedAccept _ => false
  | .wheelSlot _ => false
  | .flitSend _ _ _ => false
  | .flitReceived _ _ _ => false
  | .replayTimeout _ _ => false
  | .trainingSet _ _ _ _ => false
  | .stageTimeout _ _ => false
  | .caps _ _ _ => false
  | .ident _ _ _ => false
  | .wire _ _ _ _ => false
  | .creditInit _ _ _ => false
  | .admitMsg _ _ => false
  | .laneCtrlCheck _ _ _ _ => false
  | .move _ _ _ => false
  | .moveOk _ _ _ => false
  | .moveNo _ _ _ => false
  | .width _ _ _ => false
  | .widthOk _ _ _ => false
  | .laneCtrlRetry _ _ => false
  | .drain _ _ => false
  | .drainDone _ _ => false
  | .strike _ _ => false
  | .strikeDone _ _ => false
  | .strikeComplete _ _ => false
  | .strikeStepTimeout _ _ => false
  | .linkCmdRaise _ _ => false
  | .linkCmdStrike _ _ _ => false
  | .linkCmdCheck _ _ => false
  | .linkCmdClrLane _ _ => false
  | .eyeStart _ _ _ => false
  | .eyeStop _ _ => false
  | .eyeScanDone _ _ _ _ => false
  | .monitorSample _ _ _ => false
  | .warmReraiseDone _ _ _ => false
  | .openFibre _ _ => false
  | .launchLimit _ _ => false
  | .probePulse _ _ => false
  | .probeSet _ _ => false
  | .laserEnLow _ => true
  | .laserEnHigh _ => true
  | .combLocked _ _ => false
  | .combWarmTimeout _ _ => false
  | .combLockerLost _ _ => false
  | .combOutputLow _ _ => false
  | .spareLightArrived _ _ => false
  | .feedforwardSample _ _ _ => false
  | .ringLockLost _ _ _ => false
  | .ringRelock _ _ _ => false
  | .slipRelockTimeout _ _ _ => false
  | .opticalReport _ _ _ => false
  | .ringsLocked _ _ _ => false
  | .packetForward _ _ => false
  | .bufferAdmission _ => false
  | .matcherSlot _ _ => false
  | .sprayUnitArrival _ _ _ _ _ => false
  | .reedReceipt _ _ _ _ _ => false
  | .reedHoleTimeout _ _ => false
  | .packetAgeDiscard _ => false
  | .castSend _ => false
  | .combineAnswer _ _ => false
  | .mergedForget _ _ => false
  | .msgSendRoute _ _ => false
  | .msgSendSelvedge _ _ => false
  | .msgAckRoute _ _ => false
  | .requestSend _ => false
  | .read _ _ => false
  | .write _ _ => false
  | .writeMasked _ _ => false
  | .writeFlagNode _ _ => false
  | .writeFlagAll _ _ => false
  | .atomic _ _ => false
  | .mergedRequest _ _ => false
  | .combineReceipt _ _ => false
  | .flagHoldRelease _ _ => false
  | .flagHoldDiscard _ _ => false
  | .combineBatchDrop _ _ => false
  | .readRsp _ _ => false
  | .writeAck _ _ => false
  | .atomicRsp _ _ => false
  | .msgSend _ _ => false
  | .msgAck _ _ => false
  | .msgDupExpiry _ => false
  | .responseTimeout _ => false
  | .portDownReissue _ => false
  | .fenceComplete _ => false
  | .ctrSub _ _ => false
  | .rlcInval _ => false
  | .rlcAdviceWrite _ _ => false
  | .keyTableWrite _ _ => false
  | .rlcDisable => false
  | .ld _ => false
  | .st _ => false
  | .stMasked _ => false
  | .lhaAt _ => false
  | .lhaFence _ => false
  | .kernelStart _ => false
  | .regRd _ => false
  | .regWr _ => false
  | .mrdRsp _ => false
  | .mwrAck _ => false
  | .matRsp _ => false
  | .credit _ => false
  | .moduleTrained _ _ => false
  | .offerRetry _ => false
  | .accept _ => false
  | .quiesce _ => false
  | .quiesceComplete => false
  | .moduleLinkLost _ => false
  | .ereqTimeout _ => false
  | .ereqPauseEnd => false
  | .noticeSend => false
  | .serveWrite => false
  | .pwrAlertInWrite _ => false
  | .lhaMalformedMessage _ => false
  | .ceDoorbell _ _ => false
  | .ceEnable _ => false
  | .ceDisable _ => false
  | .ceResume _ => false
  | .ceAbort _ => false
  | .copy _ => false
  | .qcopy _ _ => false
  | .ceAtomic _ => false
  | .ceFlag _ => false
  | .ceFence _ => false
  | .nop _ => false
  | .ceCompletion _ => false
  | .measSlotOpen _ _ => false
  | .measSlotClose _ => false
  | .xqDoorbell _ => false
  | .invalidate => false
  | .invalidateDrained _ => false
  | .invalidateStuck _ => false
  | .migrate => false
  | .migrateCopyDone _ => false
  | .adviseResident => false
  | .adviseReadMostly => false
  | .adviseStreaming => false
  | .adviseEvict => false
  | .adviseNormal => false
  | .intent _ _ => false
  | .contrib _ _ => false
  | .abort _ _ => false
  | .received _ _ => false
  | .query _ _ => false
  | .intentWaitExpired _ => false
  | .collStall _ => false
  | .collDoorbell _ => false
  | .collDescriptorStart => false
  | .grantAdmit _ _ _ => false
  | .grantCredit _ _ => false
  | .result _ _ => false
  | .abortNotice _ _ => false
  | .done _ _ => false
  | .resend _ _ => false
  | .collWaitExpired _ => false
  | .barAdd _ _ _ _ _ => false
  | .barSub _ _ _ _ _ => false
  | .barAnd _ _ _ _ _ => false
  | .barOr _ _ _ _ _ => false
  | .barXor _ _ _ _ _ => false
  | .barSll _ _ _ _ _ => false
  | .barSrl _ _ _ _ _ => false
  | .barSra _ _ _ _ _ => false
  | .barMul _ _ _ _ _ => false
  | .barMulhu _ _ _ _ _ => false
  | .barDivu _ _ _ _ _ => false
  | .barRemu _ _ _ _ _ => false
  | .barSlt _ _ _ _ _ => false
  | .barSltu _ _ _ _ _ => false
  | .barMin _ _ _ _ _ => false
  | .barMax _ _ _ _ _ => false
  | .barAddi _ _ _ _ _ => false
  | .barAndi _ _ _ _ _ => false
  | .barOri _ _ _ _ _ => false
  | .barXori _ _ _ _ _ => false
  | .barLui _ _ _ _ _ => false
  | .barSlli _ _ _ _ _ => false
  | .barSrli _ _ _ _ _ => false
  | .barBeq _ _ _ _ _ => false
  | .barBne _ _ _ _ _ => false
  | .barBlt _ _ _ _ _ => false
  | .barBge _ _ _ _ _ => false
  | .barBltu _ _ _ _ _ => false
  | .barBgeu _ _ _ _ _ => false
  | .barJal _ _ _ => false
  | .barJr _ _ _ _ _ => false
  | .barLd _ _ _ _ _ => false
  | .barLw _ _ _ _ _ => false
  | .barSt _ _ _ _ _ => false
  | .barSw _ _ _ _ _ => false
  | .barDld _ _ _ _ _ => false
  | .barDst _ _ _ _ _ => false
  | .barFlush _ _ _ _ _ => false
  | .barCpy _ _ _ _ _ _ _ => false
  | .barCwait _ _ _ _ _ => false
  | .barVcvt _ _ _ _ _ _ _ _ => false
  | .barVacc _ _ _ _ _ _ _ _ => false
  | .barVfin _ _ _ _ _ _ _ _ => false
  | .barVqnt _ _ _ _ _ _ _ _ => false
  | .barVmrg _ _ _ _ _ _ _ => false
  | .barVspr _ _ _ _ _ _ _ _ => false
  | .barVmov _ _ _ _ _ _ _ => false
  | .barVwait _ _ _ _ _ => false
  | .barSwait _ _ _ _ _ => false
  | .barSall _ _ _ _ _ => false
  | .barSrel _ _ _ _ _ => false
  | .barScnt _ _ _ _ _ => false
  | .barRcast _ _ _ _ _ _ _ => false
  | .barRsend _ _ _ _ _ _ _ => false
  | .barRwait _ _ _ _ _ => false
  | .barPick _ _ _ _ _ => false
  | .barAbrt _ _ _ _ _ => false
  | .barEnd _ _ _ _ _ => false
  | .contextResume _ _ => false
  | .watchdogFire _ _ => false
  | .progLoad _ => false
  | .progUnload _ => false
  | .progPieceTimeout _ => false
  | .peFailure _ => false
  | .dramStackFailure _ _ => false
  | .fence _ => false
  | .takeover _ => false
  | .membNotice _ _ => false
  | .unitTest _ => false
  | .unitTestDone _ _ => false
  | .ledgerClear _ => false
  | .ledgerRead _ => false
  | .fwStageBegin _ => false
  | .fwStageData _ => false
  | .fwStageEnd _ => false
  | .fwActivate _ => false
  | .fwActivationPick _ => false
  | .fwRestartDone _ => false
  | .fwTrialEnd _ _ => false
  | .guyLinkChange _ _ _ => true
  | .flashEraseComplete _ => false
  | .sensorSample _ _ => false
  | .rampAlarmEnd _ => false
  | .flashInhibitEnd _ => false
  | .powerCap _ => false
  | .leaseExpired _ => false
  | .thermalAlert _ => false
  | .powerAlertAssert => true
  | .powerAlertDeassert => true
  | .alertHoldExpired _ => false
  | .bivouac _ => false
  | .bivouacEntry _ => false
  | .wake _ => false
  | .wakeComplete _ _ => false
  | .resetAssert _ => true
  | .resetRelease _ => true
  | .secureBootDone _ _ _ => false
  | .railFault _ => false
  | .suddenPowerLoss _ => true
  | .pitchScrubDone _ => false
  | .epScrubDone => false
  | .resourceScrubDone _ _ => false
  | .debugUnlock _ => false
  | .ownerEnrol _ => false
  | .ownerRelease _ => false
  | .pitchEnrol _ => false
  | .pitchKeySet _ => false
  | .spdmMsg _ _ => false
  | .getVersion _ => false
  | .getCapabilities _ => false
  | .negotiateAlgorithms _ => false
  | .getDigests _ => false
  | .getCertificate _ => false
  | .challenge _ => false
  | .getMeasurements _ => false
  | .keyExchange _ => false
  | .finish _ => false
  | .heartbeat _ => false
  | .keyUpdate _ => false
  | .endSession _ => false
  | .identify _ => false
  | .regRead _ => false
  | .regWriteCmd _ => false
  | .echo _ => false
  | .relay _ => false
  | .relayReply _ _ _ => false
  | .relayTimeout _ _ => false
  | .stageWrite _ => false
  | .check _ => false
  | .commitAt _ => false
  | .cancel _ => false
  | .stageStatus _ => false
  | .portRaise _ => false
  | .portStrike _ => false
  | .collAbort _ => false
  | .collStatus _ => false
  | .xltCmd _ => false
  | .tagRecordExpired _ _ => false
  | .i3cPrivateRead _ => false
  | .entdaa _ _ => false
  | .arpRequest _ _ _ => false
  | .neighbourSolicit _ _ _ => false
  | .zhevselerPacketRejected _ _ _ => false
  | .reservedOpcodePacket _ _ => false

/-! ### States -/

/-- A part is held in reset or has no power: no command but those of `reachesHeld` does anything in it (R745, R748). -/
def State.heldPart (s : State) (part : Part) : Bool := (s.common part).held

/-- Nothing in the end-point goes on by itself: no response of its own, no completed request, no direct access, no copy engine in use, no collective, no page to walk ahead, no translation command and no lost module waits,
and no message of its own can leave: no module is attached, or none waits; a notice that waits is on record as waiting. -/
def EpState.still (s : EpState) : Bool :=
  s.loop.isEmpty && s.src.done.isEmpty && s.lha.areqs.isEmpty && s.lha.draining.isEmpty && s.ces.isEmpty &&
  s.coll.recs.isEmpty && !s.coll.more && s.xlt.ahead.isEmpty && s.xlt.cmds.isEmpty && s.xlt.order.isEmpty && s.xlt.mgmtDone.isEmpty && s.xlt.faults.isEmpty &&
  (s.lha.attached.isEmpty || (s.lha.ereqs.all (·.sent) && s.lha.ersp.isEmpty && s.lha.notes.isEmpty)) && (s.lha.noteWaited || s.lha.notes.isEmpty)

/-- No re-issue of an end-point waits for its turn in an egress queue (R126). -/
def Common.reissuesFree (c : Common) : Bool := (List.range 8).all (fun k => ((c.port k).eg.queue 3).all (fun e => !e.reissue || e.released))

/-- No in-band reply waits in either part (R675): the invariant that every step keeps. -/
def State.inv (s : State) : Bool := s.sw.c.mgmt.outbox.isEmpty && s.ep.c.mgmt.outbox.isEmpty

/-- A part works, and nothing waits in it that goes on by itself. -/
def State.ready (s : State) (part : Part) : Bool :=
  !s.heldPart part &&
  (match part with
   | .sw => s.sw.c.mgmt.outbox.isEmpty
   | .ep => s.ep.c.mgmt.outbox.isEmpty && s.ep.c.reissuesFree && s.ep.still)

/-- The state after a command that leaves the switch as `w`, before what follows from it: ports that left service and replies that go out. -/
def State.afterSw (s : State) (w : SwState) : State := { s with sw := w.finish s.sw }

/-- The state after a command that leaves the end-point as `e`, before what follows from it: ports that left service, work that goes on by itself and replies that go out. -/
def State.afterEp (s : State) (e : EpState) : State := { s with ep := e.finish s.ep }

/-- The state after a command that leaves what both parts hold, in one part, as `c`, before what follows from it. -/
def State.after (s : State) (part : Part) (c : Common) : State :=
  match part with
  | .sw => s.afterSw { s.sw with c := c }
  | .ep => s.afterEp { s.ep with c := c.refollow s.ep.c }

/-- What a read of a register of a part shows. -/
def State.shownReg (s : State) (part : Part) (a : Nat) : Reg :=
  match part with
  | .sw => s.sw.reg a
  | .ep => s.ep.reg a

/-- The state after a write that leaves what both parts hold as `c` and the register at `a` changed: the register's own action follows, `wo` being the bits written to WO fields and `carried` the bits that the write names. -/
def State.afterWrite (s : State) (part : Part) (c : Common) (a wo carried : Nat) : State :=
  match part with
  | .sw => s.afterSw (({ s.sw with c := c } : SwState).acted a (s.sw.reg a) wo)
  | .ep => s.afterEp (({ s.ep with c := c } : EpState).acted a (s.ep.reg a) wo carried)

/-- A register that software may write through a view now: it is not staged-only in this state (R719), it has RW fields, or WO fields behind the normal view (R16, R18),
and it is neither of type RE or WP, nor the high-water mark of R623, nor `EP_LHA_STEER` while SERVE is 1 (R254). -/
def State.writable (s : State) (part : Part) (row : RegRow) (a : Nat) (view : View) : Bool :=
  !(row.staged == .always || (row.staged == .admitted && (s.common part).admitted)) && !row.re && row.wp == 0 && !isHeatMark (s.common part).part a &&
  (row.rw != 0 || (row.wo != 0 && view == .normal)) && !(part == .ep && a == 0x8000C && flag (s.ep.c.rd 0x80000) 0)

/-- What a view makes of one bit of an RW field: `old` the bit it shows, `v` the bit written (R706). -/
def viewBit (view : View) (old v : Bool) : Bool :=
  match view with
  | .normal => v
  | .setBits => old || v
  | .clearBits => old && !v
  | .toggle => old != v

/-- A part works, and it has the port. -/
def State.hasPort (s : State) (part : Part) (n : Nat) : Bool := !s.heldPart part && decide (n < portCount part)

/-- A part works, and it has the comb. -/
def State.hasComb (s : State) (part : Part) (k : Nat) : Bool := !s.heldPart part && decide (k < combCount part)

/-- A port that is raised and on which no strike, drain, exchange or lane check runs. -/
def Port.calm (p : Port) : Bool :=
  p.t.st == .raised && p.t.strike.isNone && p.t.exchange.isNone && p.t.check.isNone && !p.t.drainSent && !p.t.drainRecv && !p.t.doneSent && !p.t.doneRecv

/-- A packet passes the checks of steps 1 to 5 of Table 7.1 at a domain port: version 1, not merged, its source is the node whose alias names the port, its pitch is the port's, and its source is not fenced. -/
def SwState.passes (s : SwState) (n : Nat) (p : Packet) : Bool :=
  p.ver == 1 && decide (n < 256) && !p.merged && s.c.aliasOf p.src == some n && p.pitch == s.c.portPitch n && !s.c.fenced p.src

/-- A packet of a plane reaches the end-point whole: the port brings it, its CRC-64 is right, and it opens as `q`, decrypted where it is encrypted (step 1 of Table 2.4, R661). -/
def EpState.brings (s : EpState) (plane : Nat) (p q : Packet) : Bool := s.portOpen plane p.vc && p.crcOk && (s.takeIn plane p).opened plane p == some q

/-- The open member record for which a packet from the switch of a plane is good: a legal packet from the switch to this node, of a plane that the record's mask names and, `RESULT` apart, of the sequence in its cell 0 (R350, R391). -/
def EpState.collFor (s : EpState) (k : Nat) (p : Packet) : Option MemRec :=
  if (badHeader p).isSome ∨ !lenAllowed p ∨ p.src ≠ 0 ∨ p.dst ≠ s.node then none
  else (s.memOf p).bind (fun r => if bit r.mask k && (p.op == opResult || bits (p.cell 0) 95 64 == r.seq) then some r else none)

/-- A packet of a collective that the end-point filters out (R289): legal, from the switch to this node, of a handle and group of which no member record is held. -/
def EpState.strays (s : EpState) (p : Packet) : Bool :=
  (badHeader p).isNone && lenAllowed p && p.src == 0 && p.dst == s.node && !s.holdsMember p

/-- The context of a core that issues a word now: the switch works, it has the core and the context, and the context may issue the word at its program counter (R400, R407). -/
def State.issuing (s : State) (k cx word : Nat) : Option BarRun := if s.heldPart .sw || !barUnit k cx then none else s.sw.issuer k cx word

/-- A context as its instruction finds it: the instruction is counted (`BAR_INSN`), the core remembers its context, and the context counts as ready in this pick (R416). -/
def BarRun.issued (b : BarRun) : BarRun :=
  ({ b with s := (b.s.mod (fun c => c.wrapBy (barA b.k 0x010) 1)).modBar b.k (fun c => { c with last := b.cx }) } : BarRun).ctx (fun x => { x with ready := true })

/-- The part that a Zhevseler command reaches works, and the command passes every check before its opcode acts (R671, R672, R680 to R682). -/
def State.accepts (s : State) (op : Nat) (z : ZPacket) : Bool := !s.heldPart z.part && ((s.common z.part).gate op z).2

/-- What both parts hold once a Zhevseler command has been through its checks. -/
def State.gated (s : State) (op : Nat) (z : ZPacket) : Common := ((s.common z.part).gate op z).1

/-- The state after a Zhevseler command that leaves what both parts hold, in the part that it reaches, as `c`, before what follows from it. -/
def State.afterZ (s : State) (z : ZPacket) (c : Common) : State :=
  match z.part with
  | .sw => s.afterSw { s.sw with c := c }
  | .ep => s.afterEp { s.ep with c := c }

end Sys2Proof.Machine
end

