-- ==== Sys2Proof/Certificates/Slice0/Obligations.lean ====
section
/-!
DEFINITION. What is claimed of the model: one proposition for each statement of OBLIGATIONS.json, in its order.
A clause that gives an exact next state says both what the command changes and that nothing else changes.
-/

open Sys2Proof Sys2Proof.Machine

/-! ### The machine -/

/-- For every command c, every queue q behind it and every state s: a step of s with c in front of q is exec of c on s with q as its queue. (First in, first out is how the model takes the order of arrival of R712.) (spec/00_scope.md, R712.) -/
def Obligations.StepRunsTheFrontCommand : Prop :=
  ∀ (s : State) (c : Instr) (q : List Instr), step { s with pending := c :: q } = exec c { s with pending := q }

/-- A step with an empty queue answers the same state, and so does any number of such steps. This is the model's choice (notes/assumptions/10.md): every tick of the spec's clock is a command of its own, PICK_BOUNDARY. (spec/00_scope.md.) -/
def Obligations.EmptyQueueIdles : Prop :=
  ∀ (s : State) (k : Nat), s.pending = [] → step s = .next s ∧ core.run k s = .next s

/-- For every command c and state s: where every unit that c names exists, exec answers a next state in which the queue is as before and the part that c does not act on is as before; where a unit does not exist, it stops with the fault noUnit. No command is refused. The model's choices in it: log entry 7. (spec/00_scope.md, R1, R3, R712.) -/
def Obligations.EveryCommandCompletes : Prop :=
  ∀ (c : Instr) (s : State),
    (unitsExist c = true → ∃ t, exec c s = .next t ∧ t.pending = s.pending ∧ (match partOf c with | .sw => t.ep = s.ep | .ep => t.sw = s.sw)) ∧
    (unitsExist c = false → exec c s = .fault .noUnit)

/-- For every command c that is not one of the pin and supply events (resets, power loss, LASER_EN, lands, guy line carriers) and whose units exist: while its part is held in reset or has no power, exec answers the same state. The model's choices in it: log entry 6. (R743, R745, R748.) -/
def Obligations.HeldPartDoesNothing : Prop :=
  ∀ (c : Instr) (s : State), unitsExist c = true → reachesHeld c = false → s.heldPart (partOf c) = true → exec c s = .next s

/-- Let a part be ready: it works, no reply waits, and in the end-point nothing waits that goes on by itself. If a command leaves what both parts hold as c, and c keeps every port in service and holds no in-band reply (and, in an end-point, keeps the ports whose markers it follows and leaves no re-issue waiting for its turn), then the state after it is s with what both parts hold as in c and everything else unchanged. (R675, R394, R308.) -/
def Obligations.NothingFollowsInAReadyPart : Prop :=
  ∀ (s : State) (part : Part) (c : Common),
    s.ready part = true → (∀ n, ((s.common part).port n).inService = true → (c.port n).inService = true) →
    c.mgmt.outbox = [] → (part = .ep → c.markerPorts = (s.common part).markerPorts ∧ c.reissuesFree = true) →
    s.after part c = s.modPart part (fun _ => c)

/-- The invariant of O7 holds of the state after reset, and nothing waits there: both parts are ready and no command is queued. The model's choices in it: log entry 1. (R675, R743.) -/
def Obligations.ResetHoldsNoReply : Prop :=
  State.reset.inv = true ∧ State.reset.ready .sw = true ∧ State.reset.ready .ep = true ∧ State.reset.pending = []

/-- For every state s in which no in-band Zhevseler reply waits to be handed to a port, in the switch or in the end-point: if a step answers a next state, none waits in that state either. Every reply that a command brings about, on any of the 313 rows, leaves within the same step. (R675, R671, R673.) -/
def Obligations.EveryStepSendsItsReplies : Prop :=
  ∀ (s t : State), s.inv = true → step s = .next t → t.inv = true

/-- For every well-formed packet whose data has the length that its header gives and whose authentication cell is there exactly when the ENCRYPTED flag is set: reading the header, data and authentication back from the packet's cells gives the packet, with every field at every value that the header admits. (R60, R64, R66, R81, R519.) -/
def Obligations.PacketsSurviveTheirCells : Prop :=
  ∀ p : Packet, p.wf = true → p.data.length = 16 * dataCells p.op p.len → p.auth.isSome = p.flags.encrypted → packetOf p.cells = p

/-! ### Registers (spec/18) -/

/-- In a part that works, let an address lead to a register a through a view, and let software be able to write it there. Then REGISTER_WRITE, VIEW_WRITE and EVENT_REGISTER_CLEAR (one write, under three names) answer the same next state: each bit of an RW field becomes v in the normal view, old OR v in the set view, old AND NOT v in the clear view, old XOR v in the toggle view; every other bit of the register and every other register is kept, whatever their type; nothing else changes before the register's own action (its WO bits act through the normal view only). (R706, R17.) -/
def Obligations.WritesFollowTheirViews : Prop :=
  ∀ (s : State) (part : Part) (a0 a v i : Nat) (view : View) (row : RegRow),
    s.heldPart part = false → decodeAddr part a0 = .reg a view → regAt part a = some (row, i) → s.writable part row a view = true →
    ∃ c : Common,
      (∀ j, j < 32 → (c.rd a).getLsbD j =
        if row.rw.testBit j then viewBit view ((s.shownReg part a).getLsbD j) (v.testBit j) else ((s.common part).rd a).getLsbD j) ∧
      (∀ b, b ≠ a → c.rd b = (s.common part).rd b) ∧
      c = { s.common part with rf := { (s.common part).rf with cur := c.rf.cur, old := c.rf.old } } ∧
      (let t := s.afterWrite part c a (if view = .normal then v % 2 ^ 32 &&& row.wo else 0) (if view = .normal then 2 ^ 32 - 1 else v % 2 ^ 32)
       exec (.registerWrite part a0 v) s = .next t ∧ exec (.viewWrite part a0 v) s = .next t ∧ exec (.eventRegisterClear part a0 v) s = .next t)

/-- Latching an event in an RE register steps its internal sequence count by 1 modulo 65,536, passing over 0, and stores the new count in [31:16] and the event's fields below. In a part that works, EVENT_REGISTER_CLEAR (and any other write) of an RE register through the normal view with [31:16] equal to a nonzero [31:16] of the register stores 0 there, keeps the count and every other register, and changes nothing else; with any other value, or through another view, it changes nothing. (R716.) -/
def Obligations.EventsClearOnTheirSequence : Prop :=
  (∀ (c : Common) (a low : Nat), low < 65536 → Tab.get c.rf.seqs 0 a < 65536 →
    Tab.get (c.event a low).rf.seqs 0 a = (if Tab.get c.rf.seqs 0 a = 65535 then 1 else Tab.get c.rf.seqs 0 a + 1) ∧
    fld ((c.event a low).rd a) 31 16 = Tab.get (c.event a low).rf.seqs 0 a ∧ fld ((c.event a low).rd a) 15 0 = low ∧
    ∀ b, b ≠ a → (c.event a low).rd b = c.rd b) ∧
  (∀ (s : State) (part : Part) (a0 a v i : Nat) (view : View) (row : RegRow),
    s.heldPart part = false → decodeAddr part a0 = .reg a view → regAt part a = some (row, i) → row.staged = .never → row.re = true → v < 2 ^ 32 →
    (let t := s.after part
        (if view = .normal ∧ fld ((s.common part).rd a) 31 16 ≠ 0 ∧ v / 2 ^ 16 = fld ((s.common part).rd a) 31 16 then (s.common part).wr a 0 else s.common part)
     exec (.eventRegisterClear part a0 v) s = .next t ∧ exec (.registerWrite part a0 v) s = .next t ∧ exec (.viewWrite part a0 v) s = .next t))

/-- In a part that works: a write of a WP register through the normal view whose block is not busy is posted behind the earlier ones, and nothing else changes; one whose block is busy changes the drop counter alone. A write changes nothing if the register is staged-only now, is EP_LHA_STEER while SERVE is 1, or has no field that the view writes; a write to a hole counts one more in ID_HOLE_CNT [15:0] and changes nothing else. WP_WRITE_COMPLETE takes the oldest posted write of its block out of the list and stores its value, keeping every other register; only a comb that it enables does more (it warms up); with no posted write it changes nothing. LO_WORD_READ of a LO word replaces what its requester had captured of the HI word by the HI word's present value; reading any other register takes the requester's capture of it away, if there is one, and else changes nothing. (A lit comb's COMB_CTRL refuses the write as a whole: the model's reading of Table 12.16.) The model's choices in it: log entry 15. (R16, R18, R714, R719, R709, R118, R713, Table 0.4.) -/
def Obligations.SlowWritesArePosted : Prop :=
  (∀ (s : State) (part : Part) (a0 a v i : Nat) (row : RegRow),
    s.heldPart part = false → decodeAddr part a0 = .reg a .normal → regAt part a = some (row, i) →
    ¬(row.staged = .always ∨ (row.staged = .admitted ∧ (s.common part).admitted = true)) → row.re = false → row.wp ≠ 0 →
    (s.common part).combLocks a = false → v < 2 ^ 32 →
    (let t := s.after part (if (s.common part).blockBusy (slowBlock row a) then (s.common part).bump (dropCounter row a) else (s.common part).post row a v)
     exec (.registerWrite part a0 v) s = .next t ∧ exec (.viewWrite part a0 v) s = .next t)) ∧
  (∀ (s : State) (part : Part) (a0 a v i : Nat) (view : View) (row : RegRow),
    s.heldPart part = false → decodeAddr part a0 = .reg a view → regAt part a = some (row, i) →
    ((row.staged = .always ∨ (row.staged = .admitted ∧ (s.common part).admitted = true)) ∨ (part = .ep ∧ a = 0x8000C ∧ flag (s.ep.c.rd 0x80000) 0 = true) ∨
      (row.re = false ∧ row.rw = 0 ∧ isHeatMark (s.common part).part a = false ∧ (view ≠ .normal ∨ (row.wp = 0 ∧ row.wo = 0)))) →
    exec (.registerWrite part a0 v) s = .next (s.after part (s.common part)) ∧ exec (.viewWrite part a0 v) s = .next (s.after part (s.common part))) ∧
  (∀ (s : State) (part : Part) (a0 v : Nat), s.heldPart part = false → decodeAddr part a0 = .hole →
    exec (.registerWrite part a0 v) s = .next (s.after part ((s.common part).bumpLo 0x24)) ∧ exec (.viewWrite part a0 v) s = .next (s.after part ((s.common part).bumpLo 0x24)) ∧
    exec (.eventRegisterClear part a0 v) s = .next (s.after part ((s.common part).bumpLo 0x24))) ∧
  (∀ (s : State) (part : Part) (block : Nat) (w : Posted),
    s.heldPart part = false → (s.common part).rf.posted.find? (fun w => w.block == block) = some w →
    ∃ d, exec (.wpWriteComplete part block) s = .next (s.after part d) ∧ d.rf.posted = (s.common part).rf.posted.erase w ∧
      (combCtrlOf (s.common part).part w.addr = none ∨ flag w.value 0 = false →
        d.rd w.addr = w.value ∧ (∀ b, b ≠ w.addr → d.rd b = (s.common part).rd b) ∧
        d = { s.common part with rf := { (s.common part).rf with cur := d.rf.cur, posted := (s.common part).rf.posted.erase w } }) ∧
      (∀ k, combCtrlOf (s.common part).part w.addr = some k → flag w.value 0 = true →
        d = (({ s.common part with rf := { (s.common part).rf with posted := (s.common part).rf.posted.erase w } } : Common).wr w.addr w.value).warmComb k)) ∧
  (∀ (s : State) (part : Part) (block : Nat), s.heldPart part = false → (s.common part).rf.posted.find? (fun w => w.block == block) = none →
    exec (.wpWriteComplete part block) s = .next (s.after part (s.common part))) ∧
  (∀ (s : State) (part : Part) (who : Requester) (a0 a h : Nat) (view : View),
    s.heldPart part = false → decodeAddr (s.common part).part a0 = .reg a view → hiOf (s.common part).part a = some h →
    exec (.loWordRead part who a0) s =
      .next (s.after part { s.common part with rf := { (s.common part).rf with
        captures := (s.common part).rf.captures.filter (fun x => !(x.who == who && x.addr == h)) ++ [{ who := who, addr := h, value := (s.common part).shown (s.shownReg part) h }] } })) ∧
  (∀ (s : State) (part : Part) (who : Requester) (a0 a : Nat) (view : View),
    s.heldPart part = false → decodeAddr (s.common part).part a0 = .reg a view → hiOf (s.common part).part a = none →
    exec (.loWordRead part who a0) s =
      .next (s.after part { s.common part with rf := { (s.common part).rf with
        captures := (s.common part).rf.captures.filter (fun x => !(x.who == who && x.addr == a)) } }))

/-- In a part that works. ID_CNT_CLEAR: every saturating field (of reset value 0) of each register of the named page, or of every page with ALL, reads 0; every other bit of a register, and every register of another page, is kept; ports change in the lane counts and eye differences that they keep outside the register file, and nothing else changes but the bases from which holdover and key age count. TEL_HWM_CLR stores 0 in the high-water marks of exactly the queues 0 to 10 whose bit it writes as 1, keeping every other register and all else. THERM_HWM_CLEAR with any value stores 0 in THERM_HWM and keeps every other register and all else. Each of the three completes with this for every operand. The model's choices in it: log entry 15. (R723, R339, R623, Table 18.8.) -/
def Obligations.CountsAndMarksClear : Prop :=
  (∀ (s : State) (part : Part) (v : Nat), s.heldPart part = false →
    let c := s.common part
    let named := fun (a : Nat) => bit v 0 || a / 0x1000 * 0x1000 == pageOf c.part (v / 0x1000 * 0x1000)
    ∃ d : Common, exec (.idCntClear part v) s = .next (s.after part d) ∧
      (∀ (a i : Nat) (row : RegRow) (x : Nat × Nat), regAt c.part a = some (row, i) → named a = true → x ∈ row.sat → x.2 ≤ x.1 → x.1 < 32 →
        fld (resetOf c.part a) x.1 x.2 = 0 → fld (d.rd a) x.1 x.2 = 0) ∧
      (∀ (a i j : Nat) (row : RegRow), regAt c.part a = some (row, i) → j < 32 → (∀ x ∈ row.sat, x.2 ≤ x.1 ∧ x.1 < 32 ∧ ¬(x.2 ≤ j ∧ j ≤ x.1)) → (d.rd a).getLsbD j = (c.rd a).getLsbD j) ∧
      (∀ a, named a = false → d.rd a = c.rd a) ∧
      (∀ n, d.port n = { c.port n with lane := (d.port n).lane, eyeMap := (d.port n).eyeMap }) ∧
      d = { c with rf := { c.rf with cur := d.rf.cur }, ports := d.ports, time := { c.time with holdBase := d.time.holdBase }, sec := { c.sec with ageBase := d.sec.ageBase } }) ∧
  (∀ (s : State) (part : Part) (port v : Nat), s.heldPart part = false → port < portCount part →
    ∃ d : Common, exec (.telHwmClr part port v) s = .next (s.after part d) ∧
      (∀ a, d.rd a = if (List.range 11).any (fun q => bit v q && a == telA (s.common part).part port (0x040 + 4 * q)) then 0 else (s.common part).rd a) ∧
      d = { s.common part with rf := { (s.common part).rf with cur := d.rf.cur } }) ∧
  (∀ (s : State) (part : Part) (v : Nat), s.heldPart part = false →
    ∃ d : Common, exec (.thermHwmClear part v) s = .next (s.after part d) ∧
      (∀ a, d.rd a = if a = pwrA part 0x048 then 0 else (s.common part).rd a) ∧
      d = { s.common part with rf := { (s.common part).rf with cur := d.rf.cur } })

/-! ### Picks, the timebase and staged sets (spec/08, 17) -/

/-- In a part that works, PICK_BOUNDARY answers, for every operand, the boundary's work on the part as it stands in the pick just opened. There, the pick number is one more (64 bits), no nanosecond of it has passed, writes that waited for the boundary act, the replies, neighbour answers and SPDM responses of the ended pick are gone, the encryption counter starts afresh, and ports, optics, ledger, power and bivouac are as the ended pick left them. On an end-point, before the pick opens, EP_LHA_NOTE_STALL counts one more if a notice waited in the pick or waits still, EP_LHA_RETRY [15:0] counts the flits that an adapter retry delivered, every other register is kept, and the messages sent in the ended pick are gone. A scheduled change takes part in the work (its order is the model's, log entry 22). The model's choices in it: log entry 21. (R33, R251, R231, R307, R311, R323, R338, R659.) -/
def Obligations.BoundaryOpensTheNextPick : Prop :=
  (∀ c : Common, c.openBoundary.time.pick = (c.time.pick + 1) % 2 ^ 64 ∧ c.openBoundary.time.ns = 0 ∧ c.openBoundary.rf.old = [] ∧
    c.openBoundary.mgmt.replies = [] ∧ c.openBoundary.mgmt.neigh = [] ∧ c.openBoundary.sec.rsp = [] ∧ c.openBoundary.sec.ctr = 0 ∧
    c.openBoundary.ports = c.ports ∧ c.openBoundary.opt = c.opt ∧ c.openBoundary.ledger = c.ledger ∧ c.openBoundary.pwr = c.pwr ∧ c.openBoundary.biv = c.biv) ∧
  (∀ (s : State) (b : BoundaryIn), b.part = .sw → s.heldPart .sw = false →
    exec (.pickBoundary b) s = .next (s.afterSw (({ s.sw with c := s.sw.c.openBoundary } : SwState).boundaryWork b s.sw.c.pwr.paused))) ∧
  (∀ (s : State) (b : BoundaryIn), b.part = .ep → s.heldPart .ep = false →
    ∃ d : Common,
      exec (.pickBoundary b) s = .next (s.afterEp (({ s.ep with c := d.openBoundary, lha := { s.ep.lha with out := [], noteWaited := false } } : EpState).boundaryWork b)) ∧
      (d.rd 0x80018).toNat = (if s.ep.lha.notes = [] ∧ s.ep.lha.noteWaited = false then (s.ep.c.rd 0x80018).toNat else min (2 ^ 32 - 1) ((s.ep.c.rd 0x80018).toNat + 1)) ∧
      fld (d.rd 0x80010) 15 0 = min 65535 (fld (s.ep.c.rd 0x80010) 15 0 + b.lhaRetries) ∧ fld (d.rd 0x80010) 31 16 = fld (s.ep.c.rd 0x80010) 31 16 ∧
      (∀ a, a ≠ 0x80010 → a ≠ 0x80018 → d.rd a = s.ep.c.rd a) ∧ d = { s.ep.c with rf := { s.ep.c.rf with cur := d.rf.cur } })

/-- A pulse is on time if it is the first on its input or comes within 100 ns of one pick after the last. In a switch that works and is ACQUIRING, an on-time pulse of 550 to 650 ns begins a frame where none runs; one of another width, at a position before 72 of a frame, adds its bit (0 for 150 to 250 ns, 1 for 350 to 450 ns; any other width is a symbol in error) and moves the position on: that input's state and nothing else changes. The pulse at position 72 ends the frame, and if no symbol was in error and the CRC-8 over the number Q is right, the switch goes to LOCKED on that input, now qualified, with Q + 72 as its pick number (the next edge opens Q + 73). In a LOCKED switch, an on-time pulse within 20 ns of the own boundary, with no frame begun, ends the input's run of missed edges and changes nothing else. HOLDOVER_EXPIRED takes a part in HOLDOVER that has seen no SOURCE_MISMATCH to EXPIRED with the same pick number: no staged set stays scheduled and no membership change waits; in any other state it changes nothing. The model's choices in it: log entry 83. (R302, R303, R305, R306, R307, R310, Table 8.1, Table 8.2.) -/
def Obligations.FramesLockTheTimebase : Prop :=
  let edge := fun (c : Common) (offset : Int) => ((if offset < 0 then c.time.pick + 1 else c.time.pick : Nat) : Int) * 1000 + offset
  let onTime := fun (c : Common) (i : SyncInput) (offset : Int) => ∀ l, (c.time.inp i).lastEdge = some l → (edge c offset - l - 1000).natAbs ≤ 100
  let seen := fun (c : Common) (x : SyncState) (offset : Int) => { x with lastEdge := some (edge c offset), slipped := false, offset := some offset }
  (∀ (s : State) (i : SyncInput) (width : Nat) (offset : Int), s.heldPart .sw = false → s.sw.c.time.st = .acquiring → onTime s.sw.c i offset →
    (550 ≤ width → width ≤ 650 → (s.sw.c.time.inp i).pos = none →
      exec (.pickSyncPulse .sw i width offset) s =
        .next (s.after .sw { s.sw.c with time := s.sw.c.time.setInp i { seen s.sw.c (s.sw.c.time.inp i) offset with pos := some 1, acc := 0, bad := false } })) ∧
    (∀ k, ¬(550 ≤ width ∧ width ≤ 650) → (s.sw.c.time.inp i).pos = some k → k < 72 →
      let sym := if 150 ≤ width ∧ width ≤ 250 then 0 else if 350 ≤ width ∧ width ≤ 450 then 1 else 3
      exec (.pickSyncPulse .sw i width offset) s =
        .next (s.after .sw { s.sw.c with time := s.sw.c.time.setInp i { seen s.sw.c (s.sw.c.time.inp i) offset with pos := some (k + 1), acc := 2 * (s.sw.c.time.inp i).acc + sym % 2, bad := (s.sw.c.time.inp i).bad || sym == 3 } })) ∧
    (∀ q, (150 ≤ width ∧ width ≤ 250 ∨ 350 ≤ width ∧ width ≤ 450) → (s.sw.c.time.inp i).pos = some 72 → (s.sw.c.time.inp i).bad = false →
      2 * (s.sw.c.time.inp i).acc + (if width ≤ 250 then 0 else 1) = 256 * q + crc8 q → crc8 q < 256 →
      ∃ c, exec (.pickSyncPulse .sw i width offset) s = .next (s.after .sw c) ∧ c.time.st = .locked ∧ c.time.pick = q + 72 ∧ c.time.source = some i ∧
        (c.time.inp i).qualified = true ∧ (c.time.inp i).pos = none)) ∧
  (∀ (s : State) (i : SyncInput) (width : Nat) (offset : Int), s.heldPart .sw = false → s.sw.c.time.st = .locked → onTime s.sw.c i offset → offset.natAbs ≤ 20 →
    (s.sw.c.time.inp i).pos = none → ¬(550 ≤ width ∧ width ≤ 650) →
    exec (.pickSyncPulse .sw i width offset) s =
      .next (s.after .sw { s.sw.c with time := s.sw.c.time.setInp i { seen s.sw.c (s.sw.c.time.inp i) offset with misses := 0 } })) ∧
  (∀ (s : State) (part : Part), s.heldPart part = false → (s.common part).time.st = .holdover → (s.common part).time.mismatch = false →
    ∃ c, exec (.holdoverExpired part) s = .next (s.after part c) ∧ c.time = { (s.common part).time with st := .expired } ∧ c.stage.memb = [] ∧
      (∀ k, (Tab.get c.stage.sets {} k).st ≠ .scheduled) ∧ c.ports = (s.common part).ports) ∧
  (∀ (s : State) (part : Part), s.heldPart part = false → ((s.common part).time.st ≠ .holdover ∨ (s.common part).time.mismatch = true) →
    exec (.holdoverExpired part) s = .next (s.after part (s.common part)))

/-- In a part that works, a marker received on a port records, of that port: the low byte of its number, its sender's state and number, the echo it carries among those seen, the round trip 'arrival less sending of the own marker it echoes less 4 ns for each TURN' in half nanoseconds as the newest of at most 16, and the roles it announces with how often they have come running. On a port that is not at stage 11 with its round trips now settled, and, if it is raised or in standby, without an identity sign, nothing else of that port changes. At stage 11 with round trips that have settled: beyond the port's reach the raise fails; on a switch that is not ACQUIRING, or on a selvedge port, one within reach takes the port to stage 12. Other ports are kept in every case. The model's choices in it: log entry 23. (R512, R515, R309, R513, R535.) -/
def Obligations.MarkersAreMeasured : Prop :=
  ∀ (s : State) (part : Part) (port : Nat) (m : Marker), s.heldPart part = false → port < portCount part → m.echo < 256 →
    let p := (s.common part).port port
    let back := ((s.common part).time.pick + 256 - m.echo) % 256
    let sent := (s.common part).time.pick - back
    let trips := List.take 16 ((m.arrival + 2000 * (back : Int) - 8 * (m.turn : Int)) :: p.mark.rtts)
    let settles := p.t.st = .raising ∧ p.t.stage = 11 ∧ rttSettled trips = true
    ((p.t.st = .raised ∨ p.t.st = .standby → ∀ w ∈ m.wrongIds, w.2 + 1 ≠ w.1 ∧ w.2 ≠ w.1 + 1) → ¬settles →
      ∃ c, exec (.pickMarker part port m) s = .next (s.after part c) ∧
        (∀ n, n ≠ port → c.port n = (s.common part).port n) ∧
        c.port port =
          { p with
            t := { p.t with farRolesSeen := if m.roles = p.t.farRoles then p.t.farRolesSeen + 1 else 1, farRoles := m.roles },
            mark := { p.mark with
              lastFar := m.pn % 256, farState := m.state, farPick := m.pn, farLocked := m.state == 1,
              echoes := if p.mark.echoes.contains sent then p.mark.echoes else p.mark.echoes ++ [sent], rtts := trips } }) ∧
    (settles → reachMax (s.common part).part port < rttDelay trips →
      ∃ c, exec (.pickMarker part port m) s = .next (s.after part c) ∧ (c.port port).t.st = .struck ∧ (c.port port).t.failedRaises = p.t.failedRaises + 1 ∧
        ∀ n, n ≠ port → c.port n = (s.common part).port n) ∧
    (settles → rttDelay trips ≤ reachMax (s.common part).part port → (s.common part).part = .sw → (selvedge .sw port = true ∨ (s.common part).time.st ≠ .acquiring) →
      ∃ c, exec (.pickMarker part port m) s = .next (s.after part c) ∧ (c.port port).t.st = .raising ∧ (c.port port).t.stage = 12 ∧ (c.port port).t.failedRaises = 0 ∧
        ∀ n, n ≠ port → c.port n = (s.common part).port n)

/-- In a part that works: STAGED_SET_COMMIT commits a set that is scheduled for a pick that has come (on the switch after the membership changes that are due, whatever they are); it is then COMMITTED and holds no entries; a set that is not due changes nothing after them. An entry of a committing set that names a register with RW fields stores (old AND NOT MASK) OR (VALUE AND MASK) in those fields and keeps its other bits and every other register, before the register's own action; on an end-point EP_RLC_INVAL and EP_PITCH have actions of their own. MEMBERSHIP_COMMIT: a fence that is due writes the new epoch to MEMB_EPOCH and its fenced set to MEMB_FENCED_0 to 7, keeping every other register; a takeover that is due writes the epoch, takes the node out of the fenced set, points its alias at the spare's port and gives that port the pitch; each leaves the list of scheduled changes and becomes the last change in force, before what newly fenced nodes or the moved port bring about. With nothing due nothing changes; an end-point holds no membership changes. The model's choices in it: log entries 18, 48. (R688, R691, R693, R763, R571, R573, R576, Table 17.7.) -/
def Obligations.ScheduledChangesCommit : Prop :=
  (∀ (s : State) (k : Nat), s.heldPart .sw = false → k < 8 →
    let w := s.sw.commitMembs
    (w.c.setDue k = true → ∃ t : SwState, exec (.stagedSetCommit .sw k) s = .next (s.afterSw t) ∧ t = w.commitSet k ∧ (t.c.set k).st = .committed ∧ (t.c.set k).entries = []) ∧
    (w.c.setDue k = false → exec (.stagedSetCommit .sw k) s = .next (s.afterSw w))) ∧
  (∀ (s : State) (k : Nat), s.heldPart .ep = false → k < 8 →
    (s.ep.c.setDue k = true → ∃ t : EpState, exec (.stagedSetCommit .ep k) s = .next (s.afterEp t) ∧ t = s.ep.commitSet k ∧ (t.c.set k).st = .committed ∧ (t.c.set k).entries = []) ∧
    (s.ep.c.setDue k = false → exec (.stagedSetCommit .ep k) s = .next (s.afterEp s.ep))) ∧
  (∀ (w : SwState) (e : StageEntry) (row : RegRow) (i : Nat), regAt .sw e.addr = some (row, i) → row.wp = 0 →
    ∃ c : Common, w.commitEntry e = ({ w with c := c } : SwState).acted e.addr (w.reg e.addr) (e.put (w.reg e.addr).toNat &&& row.wo) ∧
      (∀ j, j < 32 → (c.rd e.addr).getLsbD j =
        if row.rw.testBit j then (if e.mask.testBit j then e.value.testBit j else (w.reg e.addr).getLsbD j) else (w.c.rd e.addr).getLsbD j) ∧
      (∀ b, b ≠ e.addr → c.rd b = w.c.rd b) ∧ c = { w.c with rf := { w.c.rf with cur := c.rf.cur } }) ∧
  (∀ (p : EpState) (e : StageEntry) (row : RegRow) (i : Nat), regAt .ep e.addr = some (row, i) → row.wp = 0 → e.addr ≠ 0x42004 → e.addr ≠ 0xF0000 →
    ∃ c : Common, p.commitEntry e = ({ p with c := c } : EpState).acted e.addr (p.reg e.addr) (e.put (p.reg e.addr).toNat &&& row.wo) (2 ^ 32 - 1) ∧
      (∀ j, j < 32 → (c.rd e.addr).getLsbD j =
        if row.rw.testBit j then (if e.mask.testBit j then e.value.testBit j else (p.reg e.addr).getLsbD j) else (p.c.rd e.addr).getLsbD j) ∧
      (∀ b, b ≠ e.addr → c.rd b = p.c.rd b) ∧ c = { p.c with rf := { p.c.rf with cur := c.rf.cur } }) ∧
  (∀ (s : State) (m : MembChange), s.heldPart .sw = false → s.sw.c.stage.memb = [m] → m.pick ≤ s.sw.c.time.pick → m.move = none →
    ∃ c : Common, exec (.membershipCommit .sw) s = .next (s.afterSw (({ s.sw with c := c } : SwState).membChanged s.sw.c)) ∧
      c.rd 0xA00040 = BitVec.ofNat 32 m.epoch ∧ (∀ j, j < 8 → c.rd (0xA00044 + 4 * j) = BitVec.ofNat 32 (m.fenced / 2 ^ (32 * j))) ∧
      (∀ a, (a < 0xA00040 ∨ 0xA00064 ≤ a) → c.rd a = s.sw.c.rd a) ∧ c.stage = { s.sw.c.stage with memb := [], last := some m } ∧ c.ports = s.sw.c.ports) ∧
  (∀ (s : State) (m : MembChange) (node port pitch : Nat), s.heldPart .sw = false → s.sw.c.stage.memb = [m] → m.pick ≤ s.sw.c.time.pick → m.move = some (node, port, pitch) →
    node < 256 → port < 256 → pitch < 16 →
    ∃ c : Common, exec (.membershipCommit .sw) s =
        .next (s.afterSw ((({ s.sw with c := c } : SwState).portsMoved (port / 8) (s.sw.c.rd (portMapA port))).membChanged s.sw.c)) ∧
      c.rd 0xA00040 = BitVec.ofNat 32 m.epoch ∧ c.fenced node = false ∧ (∀ i, i < 256 → i ≠ node → c.fenced i = s.sw.c.fenced i) ∧
      c.aliasOf node = some port ∧ (∀ i, i < 256 → i ≠ node → c.aliasOf i = s.sw.c.aliasOf i) ∧
      c.portPitch port = pitch ∧ (∀ n, n < 256 → n ≠ port → c.portPitch n = s.sw.c.portPitch n) ∧
      c.stage = { s.sw.c.stage with memb := [], last := some m } ∧ c.ports = s.sw.c.ports) ∧
  (∀ s : State, s.heldPart .sw = false → (∀ m ∈ s.sw.c.stage.memb, s.sw.c.time.pick < m.pick) → exec (.membershipCommit .sw) s = .next (s.afterSw s.sw)) ∧
  (∀ s : State, s.heldPart .ep = false → exec (.membershipCommit .ep) s = .next (s.afterEp s.ep))

/-- In an end-point that works, once packets of flows that no longer act have gone loose: STAKED_ACCEPT of a flow with no packet does nothing more. Of a flow with a head packet: in a quiet pick, or with a budget of less than the packet's cells, the packet waits; otherwise those cells are deducted, the packet leaves the flow for the staked queue of the flow's plane, not yet released, and a request among the packets counts as sent in this pick. WHEEL_SLOT with every packet released changes nothing. Where one staked packet waits: if its flow's eligible time comes by the end of the slot, the packet is released and the flow's eligible time moves on by c × 56 / RATE slots (in 1/1,024 slots, from the slot's beginning if that is later); if not, it waits. Where one loose packet of a node without a loose flow waits, the plane's loose eligible time and c × 64 / L slots, with a burst of 64 slots, take their place. (R311, R323, R325, R327, R337, Table 8.6.) -/
def Obligations.StakedPacketsArePaced : Prop :=
  (∀ (s : State) (f : Nat), s.heldPart .ep = false → f < 2048 →
    let e := s.ep.dropFlows
    let g := Tab.get e.src.flows {} f
    (g.wait = [] → exec (.stakedAccept f) s = .next (s.afterEp e)) ∧
    (∀ w rest, g.wait = w :: rest →
      let k := w.1.cellCount + b2n (e.mustEncrypt w.1)
      ((quiet e.c.pick = true ∨ g.budget < k) → exec (.stakedAccept f) s = .next (s.afterEp e)) ∧
      (quiet e.c.pick = false → k ≤ g.budget →
        let e1 := e.modFlow f (fun g => { g with budget := g.budget - k, wait := rest })
        let e2 := match w.2 with | some id => e1.modSrcReq id (fun r => { r with st := .sent, lastIssue := s.ep.c.time.pick }) | none => e1
        exec (.stakedAccept f) s = .next (s.afterEp (e2.egress (fld (e.c.rd (flowA f)) 5 3) 1 { pkt := w.1, at_ := e2.c.now, released := false, flow := some f }))))) ∧
  (∀ (s : State) (slot : Nat), s.heldPart .ep = false → slot < 1024 →
    let now := s.ep.c.time.pick * 65536 + slot % 64 * 1024
    ((∀ k q x, x ∈ (s.ep.c.port k).eg.queue q → x.released = true ∨ x.reissue = true) → exec (.wheelSlot slot) s = .next (s.afterEp s.ep)) ∧
    (∀ (n f : Nat) (e : QEntry), n < 8 → (∀ k q x, x ∈ (s.ep.c.port k).eg.queue q → x.released = true ∨ x.reissue = true ∨ (k = n ∧ q = 1)) →
      (s.ep.c.port n).eg.queue 1 = [e] → e.released = false → e.reissue = false → e.flow = some f →
      ((Tab.get s.ep.src.flows {} f).elig ≤ now + 1023 →
        ∃ t, exec (.wheelSlot slot) s = .next (s.afterEp t) ∧ (t.c.port n).eg.queue 1 = [{ e with released := true }] ∧
          (Tab.get t.src.flows {} f).elig = max (Tab.get s.ep.src.flows {} f).elig now + e.pkt.cellCount * 56 * 1024 / max 1 (s.ep.flowRate f) ∧
          (∀ g, g ≠ f → Tab.get t.src.flows {} g = Tab.get s.ep.src.flows {} g)) ∧
      (now + 1023 < (Tab.get s.ep.src.flows {} f).elig → exec (.wheelSlot slot) s = .next (s.afterEp s.ep))) ∧
    (∀ (n q : Nat) (e : QEntry), n < 8 → (q = 3 ∨ q = 5 ∨ q = 6) → (∀ k r x, x ∈ (s.ep.c.port k).eg.queue r → x.released = true ∨ x.reissue = true ∨ (k = n ∧ r = q)) →
      (s.ep.c.port n).eg.queue q = [e] → e.released = false → e.reissue = false → e.flow = none → s.ep.looseFlow n e.pkt = none →
      ((s.ep.c.port n).eg.looseElig ≤ now + 1023 →
        ∃ t, exec (.wheelSlot slot) s = .next (s.afterEp t) ∧ (t.c.port n).eg.queue q = [{ e with released := true }] ∧
          (t.c.port n).eg.looseElig = max (s.ep.c.port n).eg.looseElig (now - 65536) +
            e.pkt.cellCount * 64 * 1024 / max 1 (min ((s.ep.c.port n).eg.loose.getD 7500) (gateCells s.ep.c.pwr.gl (s.ep.c.port n).width)) ∧
          t.src = s.ep.src ∧ ∀ k, k ≠ n → t.c.port k = s.ep.c.port k) ∧
      (now + 1023 < (s.ep.c.port n).eg.looseElig → exec (.wheelSlot slot) s = .next (s.afterEp s.ep))))

/-! ### Flits, training, lanes and strikes (spec/13) -/

/-- On a port with a flit slot left in this pick: while held flits wait to be replayed, FLIT_SEND sends the oldest of them with its own type, FSEQ and content; else, where new flits may start and a control message waits, a CTRL flit with the next FSEQ, which is held for replay; else, on a raised or standby port, a DATA flit of what the queues give, held for replay too: with at least 15 cells left of the packet being sent, the next 15 of them. With no message and no content, or where no new flit may start, it is an IDLE flit that carries the next FSEQ and takes none. Every flit sent has a right CRC, the last FSEQ accepted as its ACK, and uses one slot; registers stay but for the count of a congestion level that the flit carries. Other ports stay, and so does all of this one but its flit layer (for DATA of new packets, also what serving the queues changes). A port on which no flits run, or with no slot left, sends nothing. REPLAY_TIMEOUT sets every held flit to be sent again and changes nothing else. (R81, R336, R517, R518, R519, R520, R521, R522.) -/
def Obligations.FlitsLeaveInOrder : Prop :=
  ∀ (s : State) (part : Part) (port tick : Nat), s.hasPort part port = true →
    let c := s.common part
    let p := c.port port
    let c0 := if s.flitLevel part port = 0 then c else c.bump (linkA c.part port 0x358)
    let sends := fun (d : Common) =>
      exec (.flitSend part port tick) s = .next (s.after part d) ∧ d = { c0 with ports := d.ports } ∧ (∀ n, n ≠ port → d.port n = c.port n) ∧ d.port port = { p with fl := (d.port port).fl } ∧
        (d.port port).fl.wire.crcOk = true ∧ (d.port port).fl.wire.ack = (p.fl.rxNext + 4095) % 4096 ∧ (d.port port).fl.slots = p.fl.slots + 1
    ((p.flitsRun = false ∨ p.slotLimit c.pick ≤ p.fl.slots) → exec (.flitSend part port tick) s = .next (s.after part c)) ∧
    (p.flitsRun = true → p.fl.slots < p.slotLimit c.pick →
      (∀ h, 0 < p.fl.replaying → p.fl.replay[p.fl.replay.length - p.fl.replaying]? = some h →
        ∃ d, sends d ∧
          (let f := (d.port port).fl
           f.wire.ftype = h.flit.ftype ∧ f.wire.fseq = h.flit.fseq ∧ f.wire.cells = h.flit.cells ∧ f.replaying = p.fl.replaying - 1 ∧ f.replay.length = p.fl.replay.length ∧ f.txNext = p.fl.txNext)) ∧
      (p.fl.replaying = 0 →
        (∀ m rest, c.noNew port = false → p.fl.ctrlOut = m :: rest →
          ∃ d, sends d ∧
            (let f := (d.port port).fl
             f.wire.ftype = .ctrl ∧ f.wire.fseq = p.fl.txNext ∧ f.wire.cells = m.cells ∧ f.ctrlOut = rest ∧ f.txNext = (p.fl.txNext + 1) % 4096 ∧
             f.replay = p.fl.replay ++ [{ flit := f.wire, sentAt := c.now }])) ∧
        (c.noNew port = false → p.fl.ctrlOut = [] → (p.t.st = .standby ∨ p.t.st = .raised) →
          let got := c0.fill port tick [] 64
          (got.1 ≠ [] →
            ∃ d, exec (.flitSend part port tick) s = .next (s.after part d) ∧ d = { got.2 with ports := d.ports } ∧
              (let f := (d.port port).fl
               f.wire.ftype = .data ∧ f.wire.fseq = p.fl.txNext ∧ f.wire.cells = got.1 ∧ f.wire.crcOk = true)) ∧
          (15 ≤ p.fl.txCells.length →
            ∃ d, sends d ∧
              (let f := (d.port port).fl
               f.wire.ftype = .data ∧ f.wire.fseq = p.fl.txNext ∧ f.wire.cells = p.fl.txCells.take 15 ∧ f.txCells = p.fl.txCells.drop 15 ∧ f.txNext = (p.fl.txNext + 1) % 4096 ∧
               f.replay = p.fl.replay ++ [{ flit := f.wire, sentAt := c.now }]))) ∧
        ((c.noNew port = true ∨ (p.fl.ctrlOut = [] ∧ ((p.t.st ≠ .standby ∧ p.t.st ≠ .raised) ∨ (c0.fill port tick [] 64).1 = []))) →
          ∃ d, sends d ∧
            (let f := (d.port port).fl
             f.wire.ftype = .idle ∧ f.wire.fseq = p.fl.txNext ∧ f.replay = p.fl.replay ∧ f.txNext = p.fl.txNext ∧ f.ctrlOut = p.fl.ctrlOut)))) ∧
    exec (.replayTimeout part port) s = .next (s.after part (c.modFlit port (fun f => { f with replaying := f.replay.length })))

/-- On a calm raised port. A flit with a bad CRC is counted and discarded: none of its fields is used, FSEQ expected stays, and NAK is due unless one has been sent since the last flit accepted; the flit whose discard raised the NAK, discarded again, starts a lane check. A flit with a right CRC frees the held flits up to its ACK and, with NAK set, has the others sent again; of a DATA or CTRL flit with the FSEQ expected next, which is then accepted, the next FSEQ is expected, and the packets that a DATA flit's cells complete join the received ones; one whose cells meet a version error is counted and NAKed the first time, and accepted without the cells dropped the second time; a flit with another FSEQ, an IDLE flit and one of a reserved type deliver nothing and leave FSEQ expected. Other ports are kept in every case. The model's choices in it: log entry 39. (R85, R519, R520, R521, R523, R524, R526.) -/
def Obligations.FlitsAreAcceptedInSequence : Prop :=
  ∀ (s : State) (part : Part) (port : Nat) (f : Flit), s.hasPort part port = true →
    let c := s.common part
    let p := c.port port
    p.calm = true →
    (f.crcOk = false →
      ∃ d, exec (.flitReceived part port f) s = .next (s.after part d) ∧ (∀ n, n ≠ port → d.port n = c.port n) ∧
        d.rd (linkA c.part port 0x018) = (c.bump (linkA c.part port 0x018)).rd (linkA c.part port 0x018) ∧
        (let q := d.port port
         q.fl.rxNext = p.fl.rxNext ∧ q.fl.replay = p.fl.replay ∧ q.fl.rxPackets = p.fl.rxPackets ∧ q.fl.rxCells = p.fl.rxCells ∧ q.cred = p.cred ∧ q.fl.nakDue = (p.fl.nakDue || !p.fl.nakSent) ∧
         (if p.fl.nakAt = some p.fl.rxNext ∧ f.fseq = p.fl.rxNext then q.t.check = some c.pick
          else q.t = p.t ∧ q.fl.nakAt = (if p.fl.nakSent then p.fl.nakAt else some p.fl.rxNext)))) ∧
    (f.crcOk = true →
      let r := parseCells ((f.cells ++ List.replicate (15 - f.cells.length) 0).take 15) p.fl.rxCells []
      ∃ d, exec (.flitReceived part port f) s = .next (s.after part d) ∧ (∀ n, n ≠ port → d.port n = c.port n) ∧
        (let q := d.port port
         q.fl.replay = ackTo f.ack p.fl.replay ∧ (f.nak = true → q.fl.replaying = q.fl.replay.length) ∧
         (f.ftype = .data ∨ f.ftype = .ctrl → f.fseq ≠ p.fl.rxNext → q.fl.rxNext = p.fl.rxNext ∧ q.fl.rxCells = p.fl.rxCells ∧ q.fl.rxPackets = p.fl.rxPackets ∧ q.t = p.t) ∧
         (f.ftype = .data → f.fseq = p.fl.rxNext → (r.2.2 = 0 ∨ p.fl.verAt = some p.fl.rxNext) →
           q.fl.rxNext = (p.fl.rxNext + 1) % 4096 ∧ q.fl.rxCells = r.1 ∧ q.fl.rxPackets = p.fl.rxPackets ++ r.2.1 ∧ q.fl.nakSent = false ∧ q.fl.nakAt = none ∧ q.fl.verAt = none ∧ q.t = p.t) ∧
         (f.ftype = .data → f.fseq = p.fl.rxNext → r.2.2 ≠ 0 → p.fl.verAt ≠ some p.fl.rxNext →
           q.fl.rxNext = p.fl.rxNext ∧ q.fl.rxCells = p.fl.rxCells ∧ q.fl.rxPackets = p.fl.rxPackets ∧ q.fl.nakDue = (p.fl.nakDue || !p.fl.nakSent) ∧ q.fl.verAt = some p.fl.rxNext ∧ q.t = p.t) ∧
         (f.ftype = .ctrl → f.fseq = p.fl.rxNext → q.fl.rxNext = (p.fl.rxNext + 1) % 4096 ∧ q.fl.rxPackets = p.fl.rxPackets ∧ q.fl.nakSent = false ∧ q.t = p.t) ∧
         (f.ftype = .idle → q.fl.rxNext = p.fl.rxNext ∧ q.fl.rxPackets = p.fl.rxPackets ∧ q.fl.nakSent = false ∧ q.t = p.t) ∧
         (∀ k, f.ftype = .reserved k → q.fl.rxNext = p.fl.rxNext ∧ q.fl.rxPackets = p.fl.rxPackets ∧ q.fl.nakDue = (p.fl.nakDue || !p.fl.nakSent))))

/-- A failed raise is recorded with its cause and stage, strikes the port, and counts one more failed raise, the third of which waits for a command. On a port that is RAISING while no firmware restart runs, a training set at stages 3, 5 and 6 notes whether each end has met its exit condition (the far end's only for its own stage); once both have, the next stage is entered, and else the port stays. A set at stage 3 whose mode bits differ from the port's fails the raise with cause MODE. At stage 4 it records the channel's polarity; until both ends have met their conditions the stage stays; then at least 8 data lanes are needed for stage 5, and fewer fail the raise with cause LANES. A warm re-raise goes from stage 3 to 5, to 6, to 7. At other stages, on other ports and in a restart a training set changes nothing. STAGE_TIMEOUT at stages 1 to 11 fails the raise with cause TIMEOUT, and changes nothing otherwise or in a restart. CAPS is recorded with the lower of the two link versions; at stage 7 of a raise version 0 fails it with cause VERSION. The model's choices in it: log entry 39. (R466, R528, R529, R530, R531, R537, R538, R589, Table 13.8.) -/
def Obligations.StagesGoOnOrFail : Prop :=
  (∀ (c : Common) (n cause : Nat),
    (let d := c.failRaise n cause
     (d.port n).t.st = .struck ∧ (d.port n).t.stage = 0 ∧ (d.port n).t.failedRaises = (c.port n).t.failedRaises + 1 ∧
     (d.port n).t.needCmd = ((c.port n).t.needCmd || decide (2 ≤ (c.port n).t.failedRaises)) ∧
     d.rd (linkA c.part n 0x008) = (c.linkEvent n cause (c.port n).t.stage).rd (linkA c.part n 0x008) ∧ ∀ m, m ≠ n → d.port m = c.port m)) ∧
  (∀ (s : State) (part : Part) (port : Nat), s.hasPort part port = true →
    let c := s.common part
    let p := c.port port
    ((c.fw.restart = true ∨ ¬(p.t.st = .raising ∨ (p.t.st = .paused ∧ p.t.resume = true)) ∨ p.t.stage < 3 ∨ 6 < p.t.stage) →
      ∀ t own, exec (.trainingSet part port t own) s = .next (s.after part c)) ∧
    (c.fw.restart = false → p.t.st = .raising → p.t.resume = false →
      (∀ t own, p.t.stage = 3 → (t.commonRef ≠ flag (c.rd (pePortA c.part port 0x058)) 0 ∨ t.spread ≠ flag (c.rd (pePortA c.part port 0x058)) 1) →
        exec (.trainingSet part port t own) s = .next (s.after part (c.failRaise port causeMode))) ∧
      (∀ t own, (p.t.stage = 3 ∧ t.commonRef = flag (c.rd (pePortA c.part port 0x058)) 0 ∧ t.spread = flag (c.rd (pePortA c.part port 0x058)) 1) ∨ p.t.stage = 5 ∨ p.t.stage = 6 →
        let here := p.t.ownExit || own
        let far := p.t.farExit || (t.exitMet && t.stage == p.t.stage)
        ∃ d, exec (.trainingSet part port t own) s = .next (s.after part d) ∧ (d.port port).t.st = .raising ∧ (∀ m, m ≠ port → d.port m = c.port m) ∧
          (if here && far then (d.port port).t.stage = p.t.stage + 1 ∧ (d.port port).t.ownExit = false ∧ (d.port port).t.farExit = false
           else (d.port port).t.stage = p.t.stage ∧ (d.port port).t.ownExit = here ∧ (d.port port).t.farExit = far)) ∧
      (∀ t own, p.t.stage = 4 →
        let here := p.t.ownExit || own
        let far := p.t.farExit || (t.exitMet && t.stage == 4)
        ∃ d, exec (.trainingSet part port t own) s = .next (s.after part d) ∧ (∀ m, m ≠ port → d.port m = c.port m) ∧
          flag (Tab.get (d.port port).lane 0 (64 + t.chan)) 0 = t.inverted ∧
          (if here && far then (if dataLanes (d.port port).t.roles < 8 then (d.port port).t.st = .struck else (d.port port).t.st = .raising ∧ (d.port port).t.stage = 5)
           else (d.port port).t.st = .raising ∧ (d.port port).t.stage = 4 ∧ (d.port port).t.ownExit = here ∧ (d.port port).t.farExit = far))) ∧
    (c.fw.restart = false → p.t.st = .paused → p.t.resume = true → ∀ t, t.exitMet = true → t.stage = p.t.stage → p.t.stage = 3 ∨ p.t.stage = 5 ∨ p.t.stage = 6 →
      ∃ d, exec (.trainingSet part port t true) s = .next (s.after part d) ∧ (d.port port).t.st = .paused ∧
        (d.port port).t.stage = (if p.t.stage = 3 then 5 else p.t.stage + 1) ∧ ∀ m, m ≠ port → d.port m = c.port m) ∧
    (c.fw.restart = false → (p.t.st = .raising ∨ (p.t.st = .paused ∧ p.t.resume = true)) → 1 ≤ p.t.stage → p.t.stage ≤ 11 →
      exec (.stageTimeout part port) s = .next (s.after part (c.failRaise port causeTimeout))) ∧
    ((c.fw.restart = true ∨ ¬(p.t.st = .raising ∨ (p.t.st = .paused ∧ p.t.resume = true)) ∨ p.t.stage = 0 ∨ 11 < p.t.stage) →
      exec (.stageTimeout part port) s = .next (s.after part c)) ∧
    (∀ k : Caps,
      let d := c.modPort port (fun p => { p with far := { p.far with caps := some k }, t := { p.t with version := min 1 k.lverMax } })
      (¬(p.t.st = .raising ∧ p.t.stage = 7) → exec (.caps part port k) s = .next (s.after part d)) ∧
      (p.t.st = .raising → p.t.stage = 7 → k.lverMax = 0 → exec (.caps part port k) s = .next (s.after part (d.failRaise port causeVersion))) ∧
      (p.t.st = .raising → p.t.stage = 7 → k.lverMax ≠ 0 → exec (.caps part port k) s = .next (s.after part (if p.ctrlAcked then d.enterStage port 8 else d)))))

/-- On a port that works. IDENT on a port that resumes with another identity than the one recorded strikes it with cause IDENTITY; otherwise IDENT is recorded (on a raised or standby port also as the identity that a resume must match), and at stage 8 of a raise, with the own message acknowledged, it takes the port to stage 9 and the wiring check. WIRE is recorded; at stage 9 of a raise a result of pass takes the port to stage 10, and any other quarantines it, with cause pair for result 2 and wiring for others; a pass on a quarantined port has it checked again. CREDIT_INIT at stages 7 to 10 of a raise stores the eight grants modulo 16,384; at stage 10, with the own message acknowledged, the port goes on to stage 11; elsewhere CREDIT_INIT changes nothing. At an end-point, ADMIT 1 at stage 12 makes the port RAISED and ADMIT 2 STANDBY; ADMIT 1 raises a standby port and ADMIT 2 takes a raised one to STANDBY; elsewhere only the code is recorded. The model's choices in it: log entry 45. (R526, R527, R532, R533, R534, R536, R537, Table 13.9.) -/
def Obligations.FarEndIsCheckedAndAdmitted : Prop :=
  (∀ (s : State) (part : Part) (port : Nat), s.hasPort part port = true →
    let c := s.common part
    let p := c.port port
    (∀ i : Ident,
      (p.t.st = .paused → p.t.resume = true → p.far.bound ≠ some i →
        ∃ d, exec (.ident part port i) s = .next (s.after part d) ∧ (d.port port).t.st = .struck ∧
          d.rd (linkA c.part port 0x008) = (c.linkEvent port causeIdentity p.t.stage).rd (linkA c.part port 0x008) ∧ ∀ m, m ≠ port → d.port m = c.port m) ∧
      (¬(p.t.st = .paused ∧ p.t.resume = true ∧ p.far.bound ≠ some i) →
        let d := c.modPort port (fun p => { p with far := { p.far with ident := some i, bound := if p.t.st == .raised || p.t.st == .standby then some i else p.far.bound } })
        (p.t.st ≠ .raising → exec (.ident part port i) s = .next (s.after part d)) ∧
        (p.t.st = .raising → p.t.stage = 8 → p.ctrlAcked = true → exec (.ident part port i) s = .next (s.after part ((d.enterStage port 9).wiringCheck port))) ∧
        (p.t.st = .raising → p.t.stage = 7 → p.ctrlAcked = true → exec (.ident part port i) s = .next (s.after part (if p.far.caps.isSome then d.enterStage port 8 else d))) ∧
        (p.t.st = .raising → p.t.stage = 10 → p.ctrlAcked = true → exec (.ident part port i) s = .next (s.after part (if p.far.credits then d.enterStage port 11 else d))) ∧
        (p.t.st = .raising → (p.t.stage ≠ 7 ∧ p.t.stage ≠ 8 ∧ p.t.stage ≠ 10) ∨ p.ctrlAcked = false → exec (.ident part port i) s = .next (s.after part d)))) ∧
    (∀ r o,
      (p.t.st = .raising → p.t.stage = 9 → r ≠ 0 →
        ∃ d, exec (.wire part port r o) s = .next (s.after part d) ∧ (d.port port).t.st = .quarantined ∧ (d.port port).t.stage = 0 ∧ (d.port port).far.wire = some r ∧
          d.rd (linkA c.part port 0x008) = (c.linkEvent port (if r = 2 then causePair else causeWiring) 9).rd (linkA c.part port 0x008) ∧ ∀ m, m ≠ port → d.port m = c.port m) ∧
      (p.t.st = .raising → p.t.stage = 9 → r = 0 →
        ∃ d, exec (.wire part port r o) s = .next (s.after part d) ∧ (d.port port).t.st = .raising ∧ (d.port port).t.stage = 10 ∧
          (d.port port).fl.ctrlOut = p.fl.ctrlOut ++ [.creditInit (ownGrants c.part port)] ∧ ∀ m, m ≠ port → d.port m = c.port m) ∧
      (p.t.st = .quarantined → r = 0 → exec (.wire part port r o) s = .next (s.after part ((c.modPort port (fun p => { p with far := { p.far with wire := some 0 } })).recheck port))) ∧
      (¬(p.t.st = .raising ∧ p.t.stage = 9) → ¬(p.t.st = .quarantined ∧ r = 0) →
        exec (.wire part port r o) s = .next (s.after part (c.modPort port (fun p => { p with far := { p.far with wire := some r } }))))) ∧
    (∀ g : List Nat,
      (p.t.st = .raising → 7 ≤ p.t.stage → p.t.stage ≤ 10 →
        ∃ d, exec (.creditInit part port g) s = .next (s.after part d) ∧ (∀ v, v < 8 → (Tab.get (d.port port).cred {} v).grant = g.getD v 0 % 16384) ∧
          (p.t.stage = 10 → p.ctrlAcked = true → (d.port port).t.stage = 11) ∧ (p.t.stage ≠ 8 → ∀ m, m ≠ port → d.port m = c.port m)) ∧
      (¬(p.t.st = .raising ∧ 7 ≤ p.t.stage ∧ p.t.stage ≤ 10) → exec (.creditInit part port g) s = .next (s.after part c)))) ∧
  (∀ (s : State) (port : Nat), s.hasPort .ep port = true →
    let p := s.ep.c.port port
    (∀ code, (code = 1 ∧ (p.t.st = .standby ∨ (p.t.st = .raising ∧ p.t.stage = 12))) ∨ (code = 2 ∧ (p.t.st = .raised ∨ (p.t.st = .raising ∧ p.t.stage = 12))) →
      ∃ d, exec (.admitMsg port code) s = .next (s.after .ep d) ∧ (d.port port).t.st = (if code = 1 then .raised else .standby) ∧ (d.port port).t.stage = 0 ∧ (d.port port).op.ostate = .lit ∧
        (d.port port).far.admitCode = code ∧ ∀ m, m ≠ port → d.port m = s.ep.c.port m) ∧
    (∀ code, ¬((code = 1 ∧ (p.t.st = .standby ∨ (p.t.st = .raising ∧ p.t.stage = 12))) ∨ (code = 2 ∧ (p.t.st = .raised ∨ (p.t.st = .raising ∧ p.t.stage = 12)))) →
      exec (.admitMsg port code) s = .next (s.after .ep (s.ep.c.modPort port (fun p => { p with far := { p.far with admitCode := code } })))))

/-- On a port that works. LANE_CTRL_CHECK on a raised or standby port with no check under way begins one at this pick and counts it; channels in use that it shows bad are marked and counted (on such a port that is not struck for want of lanes); on another port without a check it changes nothing. A raised or standby port answers MOVE: with no exchange pending, to a good target before its pick MOVE_OK, and the exchange waits; to a repeat of the pending request MOVE_OK; where both ends ask to move one channel the leading end's request stands; anything else MOVE_NO, which changes nothing else. It answers WIDTH with WIDTH_OK, and the width waits for its pick, unless it leads and asks for a width itself. Elsewhere MOVE and WIDTH change nothing. MOVE_OK or WIDTH_OK with the own request's arguments settles it as answered; MOVE_NO for the own move ends it and asks for the largest width that the good channels allow; answers to nothing change nothing. LANE_CTRL_RETRY sends again, in order, every set that still waits for its answer, and changes nothing else. The model's choices in it: log entries 43, 85. (R540, R542, R543, R544, Table 13.12.) -/
def Obligations.LanesMoveByAgreement : Prop :=
  ∀ (s : State) (part : Part) (port : Nat), s.hasPort part port = true →
    let c := s.common part
    let p := c.port port
    let serves := p.t.st = .raised ∨ p.t.st = .standby
    (serves → p.t.check = none → ∀ k, exec (.laneCtrlCheck part port k []) s =
      .next (s.after part ((c.bumpLo (linkA c.part port 0x020)).modTrain port (fun t => { t with check := some c.pick, checkBad := false })))) ∧
    (serves → p.t.check = none → ∀ (k : LaneSet) (bad : List (Nat × Bool)), bad ≠ [] → (∀ e ∈ bad, roleOf p.t.roles e.1 < 0x22) →
      ∃ d, exec (.laneCtrlCheck part port k bad) s = .next (s.after part d) ∧ (∀ m, m ≠ port → d.port m = c.port m) ∧
        ((d.port port).t.st = .struck ∨ ((d.port port).t.check = some c.pick ∧ (d.port port).t.checkBad = true ∧ ∀ e ∈ bad, e.1 ∈ (d.port port).t.badChans))) ∧
    (¬serves → p.t.check = none → ∀ k bad, exec (.laneCtrlCheck part port k bad) s = .next (s.after part c)) ∧
    (∀ k : LaneSet,
      let x : Exchange := { role := k.arg0, fromCh := k.arg1, toCh := k.arg2 % 64, cause := k.arg2 / 64 % 4, pickE := pickNear c.pick k.arg3, mine := false, answered := true }
      let repeated := fun (y : Exchange) => y.mine = false ∧ y.isWidth = false ∧ y.fromCh = x.fromCh ∧ y.toCh = x.toCh
      let crossed := fun (y : Exchange) => y.mine = true ∧ y.isWidth = false ∧ y.fromCh = x.fromCh
      (¬serves → exec (.move part port k) s = .next (s.after part c)) ∧
      (serves → p.t.exchange = none → c.goodTarget port x.toCh = true → c.pick ≤ x.pickE →
        exec (.move part port k) s = .next (s.after part ((c.modTrain port (fun t => { t with exchange := some x })).sendLane port { k with cmd := 0x03 }))) ∧
      (serves → p.t.exchange = none → ¬(c.goodTarget port x.toCh = true ∧ c.pick ≤ x.pickE) →
        exec (.move part port k) s = .next (s.after part (c.sendLane port { k with cmd := 0x04 }))) ∧
      (∀ y, serves → p.t.exchange = some y → repeated y → exec (.move part port k) s = .next (s.after part (c.sendLane port { k with cmd := 0x03 }))) ∧
      (∀ y, serves → p.t.exchange = some y → crossed y → exec (.move part port k) s =
        .next (s.after part (if c.leading port then c else (c.modTrain port (fun t => { t with exchange := some x })).sendLane port { k with cmd := 0x03 }))) ∧
      (∀ y, serves → p.t.exchange = some y → ¬repeated y → ¬crossed y → exec (.move part port k) s = .next (s.after part (c.sendLane port { k with cmd := 0x04 })))) ∧
    (∀ k : LaneSet,
      let stands := ∃ y, p.t.widthEx = some y ∧ y.mine = true ∧ c.leading port = true
      ((¬serves ∨ stands) → exec (.width part port k) s = .next (s.after part c)) ∧
      (serves → ¬stands → exec (.width part port k) s =
        .next (s.after part ((c.modTrain port (fun t => { t with widthEx := some { isWidth := true, lanes := k.arg0, pickE := pickNear c.pick k.arg3, mine := false, answered := true } })).sendLane
          port { k with cmd := 0x06 })))) ∧
    (∀ k : LaneSet,
      let answers := fun (x : Exchange) (isWidth : Bool) => x.mine = true ∧ x.isWidth = isWidth ∧ k.arg0 = x.set.arg0 ∧ k.arg1 = x.set.arg1 ∧ k.arg2 = x.set.arg2 ∧ k.arg3 = x.set.arg3
      let refuses := fun (x : Exchange) => x.mine = true ∧ x.isWidth = false ∧ k.arg1 = x.fromCh ∧ k.arg2 = x.set.arg2
      (∀ x, p.t.exchange = some x → answers x false →
        exec (.moveOk part port k) s = .next (s.after part (c.modTrain port (fun t => { t with exchange := some { x with answered := true } })))) ∧
      ((∀ x, p.t.exchange = some x → ¬answers x false) → exec (.moveOk part port k) s = .next (s.after part c)) ∧
      (∀ x, p.t.widthEx = some x → answers x true →
        exec (.widthOk part port k) s = .next (s.after part (c.modTrain port (fun t => { t with widthEx := some { x with answered := true } })))) ∧
      ((∀ x, p.t.widthEx = some x → ¬answers x true) → exec (.widthOk part port k) s = .next (s.after part c)) ∧
      (∀ x, p.t.exchange = some x → refuses x → exec (.moveNo part port k) s = .next (s.after part ((c.modTrain port (fun t => { t with exchange := none })).requestWidth port))) ∧
      ((∀ x, p.t.exchange = some x → ¬refuses x) → exec (.moveNo part port k) s = .next (s.after part c))) ∧
    (∃ d, exec (.laneCtrlRetry part port) s = .next (s.after part d) ∧ d = { c with ports := d.ports } ∧ (∀ m, m ≠ port → d.port m = c.port m) ∧
      d.port port = { p with fl := (p.repeats c.now).foldl (fun f k => f.addLane p.t.check.isSome k) p.fl })

/-- On a port that works. DRAIN on a port that has sent DRAIN_DONE, or is paused with nothing held, is answered DRAIN_DONE again; on another port that is not raised it changes nothing. On a raised port: while an exchange waits for its pick the drain is kept for later; else it is noted, and with nothing held for replay DRAIN_DONE is sent at once; if the far end's has come by then, the port pauses. DRAIN_DONE received on a raised port on which a drain runs: once this end has answered, or holds nothing for replay and answers now, the port pauses: link and optical state PAUSED, its drain over, the event recorded; while it holds flits, DRAIN_DONE is only noted. With no drain it changes nothing. Other ports are kept. (R489, R542, R544, R545, R537.) -/
def Obligations.DrainedPortsPause : Prop :=
  ∀ (s : State) (part : Part) (port : Nat), s.hasPort part port = true →
    let c := s.common part
    let p := c.port port
    let pauses := fun (d : Common) =>
      (d.port port).t.st = .paused ∧ (d.port port).op.ostate = .paused ∧ (d.port port).t.drainSent = false ∧ (d.port port).t.drainRecv = false ∧ (d.port port).t.doneSent = false ∧
        (d.port port).t.doneRecv = false ∧ (d.port port).t.pausedAt = c.pick ∧ d.rd (linkA c.part port 0x008) = (c.linkEvent port 0x44 0).rd (linkA c.part port 0x008) ∧ ∀ m, m ≠ port → d.port m = c.port m
    ((p.t.doneSent = true ∨ (p.t.st = .paused ∧ p.fl.replay = [])) → exec (.drain part port) s = .next (s.after part (c.sendLane port { cmd := 0x08 }))) ∧
    (p.t.doneSent = false → ¬(p.t.st = .paused ∧ p.fl.replay = []) → p.t.st ≠ .raised → exec (.drain part port) s = .next (s.after part c)) ∧
    (p.t.doneSent = false → p.t.st = .raised →
      (p.t.exchanges ≠ [] → exec (.drain part port) s = .next (s.after part (c.modTrain port (fun t => { t with drainLater := true })))) ∧
      (p.t.exchanges = [] → p.fl.replay ≠ [] → exec (.drain part port) s = .next (s.after part (c.modTrain port (fun t => { t with drainRecv := true })))) ∧
      (p.t.exchanges = [] → p.fl.replay = [] → p.t.doneRecv = false →
        exec (.drain part port) s = .next (s.after part ((c.modTrain port (fun t => { t with drainRecv := true, doneSent := true })).sendLane port { cmd := 0x08 }))) ∧
      (p.t.exchanges = [] → p.fl.replay = [] → p.t.doneRecv = true → ∃ d, exec (.drain part port) s = .next (s.after part d) ∧ pauses d)) ∧
    (p.t.st = .raised → p.t.drainSent = true ∨ p.t.drainRecv = true →
      (p.t.doneSent = true ∨ p.fl.replay = [] → ∃ d, exec (.drainDone part port) s = .next (s.after part d) ∧ pauses d) ∧
      (p.t.doneSent = false → p.fl.replay ≠ [] → exec (.drainDone part port) s = .next (s.after part (c.modTrain port (fun t => { t with doneRecv := true }))))) ∧
    (¬(p.t.st = .raised ∧ (p.t.drainSent = true ∨ p.t.drainRecv = true)) → exec (.drainDone part port) s = .next (s.after part c))

/-- Leaving service: no stage, exchange, check or drain, struck until at least HOLD picks from now, flits kept. A completed strike holds no strike, no flit for replay and no credit; a cold one has its shutter closed and the port at PROBE. STRIKE on a port that is not struck records cause 0x31, strikes the port, answers STRIKE_DONE and, with nothing held for replay, completes the strike; on a struck port it is answered STRIKE_DONE alone. LINK_CMD_STRIKE on a port that is not struck records cause 0x30, strikes it and sends STRIKE, to end cold if COLD was written; on a struck port, COLD makes a running strike cold, or closes the shutter, and without COLD nothing changes. With a strike at step 2, STRIKE_DONE goes on to step 3, and completes the strike where nothing is held; STRIKE_COMPLETE at step 3 with nothing held completes it; STRIKE_STEP_TIMEOUT completes any strike, and with the shutter open the far end is told. With no such strike each of the three changes nothing. A lane-control set goes in the pick that has room for it. The model's choices in it: log entry 39. (R508, R544, R546, R547, R548, R549, Table 13.13.) -/
def Obligations.StruckPortsLeaveService : Prop :=
  (∀ (c : Common) (n : Nat),
    (let q := (c.leaveRaised n).port n
     q.t.st = .struck ∧ q.t.stage = 0 ∧ q.t.exchanges = [] ∧ q.t.check = none ∧ q.t.drainSent = false ∧ q.t.drainRecv = false ∧ q.t.holdUntil = c.pick + c.holdOf n ∧ 128 ≤ c.holdOf n ∧ q.fl = (c.port n).fl) ∧
    (let q := (c.completeStrike n).port n
     q.t.strike = none ∧ q.fl.replay = [] ∧ q.fl.txNext = 0 ∧ q.cred = [] ∧ q.fl.laneOut = (c.port n).fl.laneOut ∧
     (∀ k, (c.port n).t.strike = some k → k.cold = true → q.op.shutter = false ∧ q.op.ostate = .probe ∧ q.t.ringsKept = false))) ∧
  (∀ (s : State) (part : Part) (port : Nat), s.hasPort part port = true →
    let c := s.common part
    let p := c.port port
    (p.t.st ≠ .struck →
      (∃ d, exec (.strike part port) s = .next (s.after part d) ∧ (d.port port).t.st = .struck ∧ (d.port port).fl.laneOut = (p.fl.addLane false { cmd := 0x0A }).laneOut ∧
        (d.port port).t.strike = (if p.fl.replay = [] then none else some { step := 3, cause := causeFar, startPick := c.pick }) ∧ (d.port port).fl.replay = p.fl.replay ∧
        d.rd (linkA c.part port 0x008) = (c.linkEvent port causeFar p.t.stage).rd (linkA c.part port 0x008) ∧ ∀ m, m ≠ port → d.port m = c.port m) ∧
      (∀ cold, ∃ d, exec (.linkCmdStrike part port cold) s = .next (s.after part d) ∧ (d.port port).t.st = .struck ∧
        (d.port port).t.strike = some { step := 2, cause := causeCommand, cold := cold, startPick := c.pick } ∧ (d.port port).fl = p.fl.addLane false { cmd := 0x09, arg0 := causeCommand } ∧
        d.rd (linkA c.part port 0x008) = (c.linkEvent port causeCommand p.t.stage).rd (linkA c.part port 0x008) ∧ ∀ m, m ≠ port → d.port m = c.port m)) ∧
    (p.t.st = .struck →
      exec (.strike part port) s = .next (s.after part (c.sendLane port { cmd := 0x0A })) ∧
      (∀ k cold, p.t.strike = some k → exec (.linkCmdStrike part port cold) s = .next (s.after part (c.modTrain port (fun t => { t with strike := some { k with cold := k.cold || cold } })))) ∧
      (p.t.strike = none → exec (.linkCmdStrike part port false) s = .next (s.after part c) ∧
        exec (.linkCmdStrike part port true) s =
          .next (s.after part (c.modPort port (fun p => { p with t := { p.t with ringsKept := false }, op := { p.op with shutter := false, ostate := .probe } }))))) ∧
    (∀ k : StrikeRun, p.t.strike = some k →
      (k.step = 2 → p.fl.replay ≠ [] → exec (.strikeDone part port) s = .next (s.after part (c.modTrain port (fun t => { t with strike := some { k with step := 3 } })))) ∧
      (k.step = 2 → p.fl.replay = [] → exec (.strikeDone part port) s = .next (s.after part ((c.modTrain port (fun t => { t with strike := some { k with step := 3 } })).completeStrike port))) ∧
      (k.step ≠ 2 → exec (.strikeDone part port) s = .next (s.after part c)) ∧
      (k.step = 3 → p.fl.replay = [] → exec (.strikeComplete part port) s = .next (s.after part (c.completeStrike port))) ∧
      (¬(k.step = 3 ∧ p.fl.replay = []) → exec (.strikeComplete part port) s = .next (s.after part c)) ∧
      (p.op.shutter = false → exec (.strikeStepTimeout part port) s = .next (s.after part (c.completeStrike port))) ∧
      (p.op.shutter = true → exec (.strikeStepTimeout part port) s =
        .next (s.after part (((c.completeStrike port).modTrain port (fun t => { t with telling := some (k.cause, c.now) })).sendLane port { cmd := 0x09, arg0 := k.cause })))) ∧
    (p.t.strike = none →
      exec (.strikeDone part port) s = .next (s.after part c) ∧ exec (.strikeComplete part port) s = .next (s.after part c) ∧ exec (.strikeStepTimeout part port) s = .next (s.after part c)))

/-- On a port that works: RAISE forgets the failed raises and the wait for a command, and on a struck port starts a raise, or keeps the wish for one where the port may not yet be raised or its hold still runs. CHECK on a raised or standby port with no check under way begins a lane check, counted, and tells the far end; else it changes nothing. CLR_LANE drops the entries of lane table 0x0 and of no other. EYE START begins a scan of the channel of PORT_EYE_CTRL, or of every channel with ALL; without START it changes nothing; STOP ends the scan. EYE_SCAN_DONE of a scan that a command began ends it and records the width and height found (63 at most) with the pick in lane table 0x2, for the channel scanned, or for any with ALL; while no scan runs it changes nothing. The model's choices in it: log entries 14, 39, 43. (R538, R540, R549, R550, R551, Table 13.14, Table 13.17.) -/
def Obligations.PortCommandsAct : Prop :=
  ∀ (s : State) (part : Part) (port : Nat), s.hasPort part port = true →
    let c := s.common part
    let p := c.port port
    let d := c.modTrain port (fun t => { t with needCmd := false, failedRaises := 0 })
    (p.t.st ≠ .struck → exec (.linkCmdRaise part port) s = .next (s.after part d)) ∧
    (p.t.st = .struck → d.mayRaise port = true → p.t.holdUntil ≤ c.pick → exec (.linkCmdRaise part port) s = .next (s.after part (d.startRaise port))) ∧
    (p.t.st = .struck → ¬(d.mayRaise port = true ∧ p.t.holdUntil ≤ c.pick) →
      exec (.linkCmdRaise part port) s = .next (s.after part (c.modTrain port (fun t => { t with needCmd := false, failedRaises := 0, raiseAsked := true })))) ∧
    (p.t.st = .raised ∨ p.t.st = .standby → p.t.check = none →
      exec (.linkCmdCheck part port) s =
        .next (s.after part (((c.bumpLo (linkA c.part port 0x020)).modTrain port (fun t => { t with check := some c.pick, checkBad := false })).sendLane port { cmd := 0x01 }))) ∧
    (¬((p.t.st = .raised ∨ p.t.st = .standby) ∧ p.t.check = none) → exec (.linkCmdCheck part port) s = .next (s.after part c)) ∧
    (∃ d, exec (.linkCmdClrLane part port) s = .next (s.after part d) ∧ d = c.modPort port (fun p => { p with lane := (d.port port).lane }) ∧
      (∀ e, e ∈ (d.port port).lane ↔ e ∈ p.lane ∧ 64 ≤ e.1)) ∧
    (∀ v, bit v 0 = true →
      exec (.eyeStart part port v) s =
        .next (s.after part (c.modPort port (fun p => { p with eyeBusy := true, eyeChan := if flag (c.rd (linkA c.part port 0x080)) 6 then none else some (fld (c.rd (linkA c.part port 0x080)) 5 0) })))) ∧
    (∀ v, bit v 0 = false → exec (.eyeStart part port v) s = .next (s.after part c)) ∧
    exec (.eyeStop part port) s = .next (s.after part (c.modPort port (fun p => { p with eyeBusy := false }))) ∧
    (∀ k w h counts, p.eyeBusy = true → (p.eyeChan = some k ∨ p.eyeChan = none) → k < 34 →
      ∃ d, exec (.eyeScanDone part port [(k, w, h)] counts) s = .next (s.after part d) ∧ (d.port port).eyeBusy = false ∧ (p.eyeChan = some k → (d.port port).eyeLast = k) ∧
        Tab.find (d.port port).lane (128 + k) = some (BitVec.ofNat 32 (c.pick % 65536 * 65536 + min 63 h * 256 + min 63 w)) ∧
        (∀ j, j ≠ 128 + k → Tab.find (d.port port).lane j = Tab.find p.lane j) ∧ (d.port port).t = p.t ∧ ∀ m, m ≠ port → d.port m = c.port m) ∧
    (∀ results counts, c.eyeScanning port = false → exec (.eyeScanDone part port results counts) s = .next (s.after part c))

/-! ### Light (spec/12) -/

/-- LASER_EN_LOW and LASER_EN_HIGH store the level, and in a part held in reset do no more. In a part that works: with LASER_EN_LOW every comb that is not retired goes dark; with LASER_EN_HIGH every dark comb that is enabled, out of bivouac, starts warming, all others keeping their state. COMB_LOCKED makes a warming comb of a position LIT and takes its ports from DARK to PROBE, and lets a warming spare stand by. COMB_WARM_TIMEOUT retires a warming comb, COMB_OUTPUT_LOW and COMB_LOCKER_LOST one with light: it is RETIRED, dark and unlocked; where the spare stands by, the raised ports of a lit comb's position are paused. On a comb that is not warming, or has no light, the four events change nothing. The model's choices in it: log entry 44. (R470, R472, R493, R497, Table 12.3.) -/
def Obligations.CombsLightAndGoDark : Prop :=
  (∀ (s : State) (part : Part), s.heldPart part = true →
    exec (.laserEnLow part) s = .next (s.modPart part (fun c => c.laserLevel false)) ∧ exec (.laserEnHigh part) s = .next (s.modPart part (fun c => c.laserLevel true))) ∧
  (∀ (s : State) (part : Part), s.heldPart part = false →
    (let c := (s.common part).laserLevel false
     exec (.laserEnLow part) s = .next ((s.modPart part (fun c => c.laserLevel false)).after part (c.darkCombs true)) ∧ (c.darkCombs true).opt.laserEn = false ∧
     ∀ k, k < combCount c.part → ((c.darkCombs true).comb k).st = (if (c.comb k).st = .retired then .retired else .dark)) ∧
    (let c := (s.common part).laserLevel true
     exec (.laserEnHigh part) s = .next ((s.modPart part (fun c => c.laserLevel true)).after part c.warmCombs) ∧ c.warmCombs.opt.laserEn = true ∧
     ∀ k, k < combCount c.part → (c.warmCombs.comb k).st =
      (if (c.comb k).st = .dark ∧ (c.biv.st = .awake ∨ c.biv.st = .waking) ∧ flag (c.rd (combA c.part k 0x004)) 0 = true then .warming else (c.comb k).st))) ∧
  (∀ (s : State) (part : Part) (k : Nat), s.hasComb part k = true →
    let c := s.common part
    let b := c.comb k
    (b.st = .warming → ∀ g pos, combPlace c.part k = (g, some pos) →
      ∃ d, exec (.combLocked part k) s = .next (s.after part d) ∧ d.comb k = { b with st := .lit, pos := pos, locked := true } ∧
        (∀ n, n ∈ posPorts c.part g pos → (d.port n).op.ostate = (if (c.port n).op.ostate = .dark then .probe else (c.port n).op.ostate)) ∧
        (∀ n, n ∉ posPorts c.part g pos → d.port n = c.port n)) ∧
    (b.st = .warming → (combPlace c.part k).2 = none →
      exec (.combLocked part k) s = .next (s.after part (c.modComb k (fun b => { b with st := .standby, locked := true })))) ∧
    (b.st = .warming → exec (.combWarmTimeout part k) s = .next (s.after part (c.retireComb k))) ∧
    (b.burns = true → exec (.combLockerLost part k) s = .next (s.after part ((c.combEvent k 0x01).retireComb k)) ∧
      exec (.combOutputLow part k) s = .next (s.after part (c.retireComb k))) ∧
    (b.st ≠ .warming → exec (.combLocked part k) s = .next (s.after part c) ∧ exec (.combWarmTimeout part k) s = .next (s.after part c)) ∧
    (b.burns = false → exec (.combLockerLost part k) s = .next (s.after part c) ∧ exec (.combOutputLow part k) s = .next (s.after part c))) ∧
  (∀ (c : Common) (k : Nat), (c.comb k).st ≠ .retired → ((c.retireComb k).comb k).st = .retired ∧ ((c.retireComb k).comb k).bias = 0 ∧ ((c.retireComb k).comb k).locked = false) ∧
  (∀ (c : Common) (k g pos n : Nat), combPlace c.part k = (g, some pos) → (c.comb k).st = .lit → (c.comb (spareOf c.part g)).st = .standby → n ∈ posPorts c.part g pos →
    (c.port n).t.st = .raised → ((c.retireComb k).port n).t.st = .paused)

/-- On a port of a part that works: RINGS_LOCKED locks the ring, with no slip left, and ends stage 2 if it was the last. RING_LOCK_LOST on a raised or standby port parks the ring with its slip at this pick, leaves the other ports, and on a calm port starts a lane check, which this fails, and asks for a spare for its lane; on a port out of service it only unlocks it. RING_RELOCK within 10,000 picks of the slip locks the ring, counts a transient slip and makes the parked channel spare; later it does nothing, and of a ring with no slip it is RINGS_LOCKED. SLIP_RELOCK_TIMEOUT from 10,000 picks on ends the slip, counts a lasting one, records a loss of the port's ring and takes the parked channel out; before, and with no slip, it does nothing. FEEDFORWARD_SAMPLE moves every heater of the port by −COEF × ΔT (codes modulo 16,384; what a move makes of a code is a free value) and keeps the temperature. OPTICAL_REPORT is kept on a port in service and ignored on any other. SPARE_LIGHT_ARRIVED in phase 2 of a swap takes it to phase 3 and re-raises the four ports warm, and does nothing else. The model's choices in it: log entry 11. (R469, R476, R477, R478, R479, R481, R485, R540.) -/
def Obligations.RingsLockAndSlip : Prop :=
  (∀ (s : State) (part : Part) (port : Nat) (r : RingId), s.hasPort part port = true →
    let c := s.common part
    let p := c.port port
    let slips := peA c.part (engineOf c.part port).1 0x030
    exec (.ringsLocked part port r) s = .next (s.after part ((c.modRing port r (fun g => { g with locked := true, slipAt := none })).ringsSettled port)) ∧
    (p.t.st = .raised ∨ p.t.st = .standby →
      ∃ d, exec (.ringLockLost part port r) s = .next (s.after part d) ∧ (d.port port).ring r = { p.ring r with locked := false, slipAt := some c.pick } ∧ ∀ m, m ≠ port → d.port m = c.port m) ∧
    (p.calm = true → exec (.ringLockLost part port r) s =
      .next (s.after part ((((c.startCheck port true).modRing port r (fun g => { g with locked := false, slipAt := some c.pick })).modTrain port (fun t => { t with checkBad := true })).requestMove port r.chan 3))) ∧
    (p.t.st ≠ .raised → p.t.st ≠ .standby → exec (.ringLockLost part port r) s = .next (s.after part (c.modRing port r (fun g => { g with locked := false })))) ∧
    ((p.ring r).slipAt = none →
      exec (.ringRelock part port r) s = .next (s.after part ((c.modRing port r (fun g => { g with locked := true, slipAt := none })).ringsSettled port)) ∧
      exec (.slipRelockTimeout part port r) s = .next (s.after part c)) ∧
    (∀ t, (p.ring r).slipAt = some t →
      (t + 10000 < c.pick → exec (.ringRelock part port r) s = .next (s.after part c)) ∧
      (c.pick < t + 10000 → exec (.slipRelockTimeout part port r) s = .next (s.after part c)) ∧
      (c.pick ≤ t + 10000 →
        ∃ d, exec (.ringRelock part port r) s = .next (s.after part d) ∧ (d.port port).ring r = { p.ring r with locked := true, slipAt := none } ∧
          (d.port port).t.roles = (if roleOf p.t.roles r.chan = 0x23 then p.t.roles.set r.chan 0x21 else p.t.roles) ∧ d.rd slips = (c.bumpLo slips).rd slips ∧
          ∀ m, m ≠ port → d.port m = c.port m) ∧
      (t + 10000 ≤ c.pick →
        ∃ d, exec (.slipRelockTimeout part port r) s = .next (s.after part d) ∧ (d.port port).ring r = { p.ring r with slipAt := none } ∧
          (d.port port).t.roles = (if roleOf p.t.roles r.chan = 0x23 ∨ roleOf p.t.roles r.chan = 0x21 then p.t.roles.set r.chan 0x22 else p.t.roles) ∧
          d.rd slips = (c.bumpHi slips).rd slips ∧ (Tab.get d.ledger.loss {} (unitKey 0x1 port)).out = true ∧ ∀ m, m ≠ port → d.port m = c.port m))) ∧
  (∀ (s : State) (part : Part) (port : Nat) (temp : Int), s.hasPort part port = true →
    let c := s.common part
    let p := c.port port
    let coef := fld (c.rd (pePortA c.part port 0x054)) 11 0
    ∃ d, exec (.feedforwardSample part port temp) s = .next (s.after part d) ∧ (d.port port).op.sensorLast = temp ∧ (d.port port).t = p.t ∧
      (∀ tx ch, ch < 34 → ((d.port port).ring { tx := tx, chan := ch }).heater = Config.heaterCode (p.ring { tx := tx, chan := ch }).heater (-(coef : Int) * (temp - p.op.sensorLast)) % 16384) ∧
      ∀ m, m ≠ port → d.port m = c.port m) ∧
  (∀ (s : State) (part : Part) (port : Nat) (r : OptReport), s.hasPort part port = true →
    exec (.opticalReport part port r) s =
      .next (s.after part (if ((s.common part).port port).inService = true then (s.common part).modOptics port (fun o => { o with farReport := some r }) else s.common part))) ∧
  (∀ (s : State) (part : Part) (g : Nat), s.heldPart part = false → g < engineCount part →
    (∀ w, ((s.common part).engine g).swap = some w → w.phase = 2 → exec (.spareLightArrived part g) s =
      .next (s.after part (each (posPorts (s.common part).part g w.pos) ((s.common part).modEngine g (fun e => { e with swap := some { w with phase := 3 } })) (fun c n => c.startResume n)))) ∧
    ((∀ w, ((s.common part).engine g).swap = some w → w.phase ≠ 2) → exec (.spareLightArrived part g) s = .next (s.after part (s.common part))))

/-- On a port of a part that works: MONITOR_SAMPLE keeps the tap, distribution, receiver input and drop powers and the ring errors it brings, and the output, bias and lock error of the port's comb; with all light gone at once a raised port is PAUSED, with light back a paused one starts to resume, and a port in stage 1 with the far end's light, an open shutter and 100 us of bright light leaves stage 1. OPEN_FIBRE and LAUNCH_LIMIT leave the port struck with no orderly strike, its shutter closed, its optics at PROBE, and the flag of the cause set. PROBE_PULSE at PROBE opens the shutter for 2,000 picks, and does nothing elsewhere. PROBE_SET on a struck port at PROBE that may be raised by itself starts a cold raise at stage 1; there, and in stage 1 of a raise, the shutter opens fully and the far light is noted; on any other port it is PROBE_PULSE. WARM_RERAISE_DONE on a resuming port answers with IDENT and makes it RAISED and LIT if the far identity is the one that it was raised with, and else strikes it with cause 0x22 (the model's choice of code, log entry 40); it does nothing on another port. The other ports are kept by all seven. The model's choices in it: log entries 40, 44. (R483, R489, R498, R499, R500, R537, R547.) -/
def Obligations.LightIsWatched : Prop :=
  ∀ (s : State) (part : Part) (port : Nat), s.hasPort part port = true →
    let c := s.common part
    let p := c.port port
    let may := p.t.st = .struck ∧ p.op.ostate = .probe ∧ flag (c.rd (linkA c.part port 0x000)) 1 = true ∧ p.t.needCmd = false ∧ c.mayRaise port = true ∧ p.t.holdUntil ≤ c.pick
    (∀ m : MonitorIn, ∃ d, exec (.monitorSample part port m) s = .next (s.after part d) ∧ (∀ n, n ≠ port → d.port n = c.port n) ∧
      (let q := d.port port
       let k := c.feeding (posOf c.part port).1 (posOf c.part port).2
       q.op.tap = m.tap.getD p.op.tap ∧ q.op.dist = m.dist.getD p.op.dist ∧ q.op.rxIn = m.rxIn.getD p.op.rxIn ∧ q.op.drop = m.drop.foldl (fun d e => Tab.put d e.1 e.2) p.op.drop ∧
       q.op.tx = keepErr p.op.tx m.txErr ∧ q.op.rx = keepErr p.op.rx m.rxErr ∧
       d.comb k = { c.comb k with out := m.combOut.getD (c.comb k).out, bias := m.combBias.getD (c.comb k).bias, lockErr := m.combLockErr.getD (c.comb k).lockErr } ∧
       q.t.st = (if m.allDark = true ∧ p.t.st = .raised then .paused else p.t.st) ∧
       (m.lightBack = true → q.t.st = .paused → q.t.resume = true) ∧
       (m.allDark = false → m.lightBack = false → (p.t.st ≠ .raising ∨ p.t.stage ≠ 1) → q.t = p.t) ∧
       (p.t.st = .raising → p.t.stage = 1 → q.t.stage = (if p.op.farLight = true ∧ p.op.shutter = true ∧ 100 ≤ m.brightUs then (if q.ringsLocked = true then 3 else 2) else 1)))) ∧
    (∃ d, exec (.openFibre part port) s = .next (s.after part d) ∧ (d.port port).t.st = .struck ∧ (d.port port).t.strike = none ∧ (d.port port).op.shutter = false ∧
      (d.port port).op.ostate = .probe ∧ (d.port port).op.opened = true ∧ ∀ m, m ≠ port → d.port m = c.port m) ∧
    (∃ d, exec (.launchLimit part port) s = .next (s.after part d) ∧ (d.port port).t.st = .struck ∧ (d.port port).t.strike = none ∧ (d.port port).op.shutter = false ∧
      (d.port port).op.ostate = .probe ∧ (d.port port).op.limit = true ∧ ∀ m, m ≠ port → d.port m = c.port m) ∧
    exec (.probePulse part port) s =
      .next (s.after part (if p.op.ostate = .probe then c.modOptics port (fun o => { o with shutter := true, pulseEnd := some (c.pick + 2000) }) else c)) ∧
    (may ∨ (p.t.st = .raising ∧ p.t.stage = 1) → ∃ d, exec (.probeSet part port) s = .next (s.after part d) ∧ (d.port port).t.st = .raising ∧ (d.port port).t.stage = 1 ∧
      (d.port port).op.shutter = true ∧ (d.port port).op.pulseEnd = none ∧ (d.port port).op.farLight = true ∧ (p.t.st = .raising → (d.port port).t = p.t) ∧
      (p.t.st = .struck → (d.port port).t.warm = false ∧ (d.port port).t.roles = defaultRoles) ∧ ∀ m, m ≠ port → d.port m = c.port m) ∧
    (¬may → ¬(p.t.st = .raising ∧ p.t.stage = 1) → exec (.probeSet part port) s = exec (.probePulse part port) s) ∧
    (∀ i : Ident,
      (¬(p.t.st = .paused ∧ p.t.resume = true) → exec (.warmReraiseDone part port i) s = .next (s.after part c)) ∧
      (p.t.st = .paused → p.t.resume = true →
        (p.far.bound = some i → ∃ d, exec (.warmReraiseDone part port i) s = .next (s.after part d) ∧ (d.port port).t.st = .raised ∧ (d.port port).t.resume = false ∧
          (d.port port).op.ostate = .lit ∧ (d.port port).fl.ctrlOut = p.fl.ctrlOut ++ [.ident (c.ownIdent port)] ∧ ∀ m, m ≠ port → d.port m = c.port m) ∧
        (p.far.bound ≠ some i → ∃ d, exec (.warmReraiseDone part port i) s = .next (s.after part d) ∧ (d.port port).t.st = .struck ∧
          (d.port port).t.strike = some { step := 2, cause := causeIdentity, startPick := c.pick } ∧ ∀ m, m ≠ port → d.port m = c.port m)))

/-! ### The switch core (spec/02, 07) -/

/-- In a switch that works, for a packet from a domain port: another header version is dropped into PORT_VER_DROP; a merged packet, or a source that the port does not stand for, into the source counter 0x300; another pitch into 0x304; a fenced source into 0x30C, a request and a MSG_SEND being answered FENCED, a request with the membership epoch. A packet that passes and that the switch itself consumes is disposed of here, and with a bad CRC-64 strikes its port. Any other that passes, and is neither MSG_SEND nor MSG_ACK, goes toward the port of its destination's alias when that alias is valid, of the same pitch and not fenced; with an alias of another pitch it is counted in SEAL_ALIAS_REFUSED; a request to a node that has no such alias is answered NODE_ABSENT with the plane's index, and counted, and anything else to it is only disposed of. On a selvedge port the version is checked; link-local management is consumed, and all but MSG_SEND and MSG_ACK on VC7 is dropped into 0x308. MSG_SEND and MSG_ACK go as the message commands take them. The model's choices in it: log entry 25. (R24, R29, R60, R61, R67, R123, R261, R571, R627, Table 7.1.) -/
def Obligations.IngressChecksInOrder : Prop :=
  (∀ (s : State) (n : Nat) (p : Packet), s.heldPart .sw = false → n < 256 →
    let w := s.sw.mod (fun c => c.takeRx n p)
    let c := s.sw.c
    let away := c.fenced p.dst = true ∨ c.aliasOf p.dst = none
    (p.ver ≠ 1 → exec (.packetForward n p) s = .next (s.afterSw (w.drop n p 0x01C))) ∧
    (p.ver = 1 → (p.merged = true ∨ c.aliasOf p.src ≠ some n) → exec (.packetForward n p) s = .next (s.afterSw (w.drop n p 0x300))) ∧
    (p.ver = 1 → p.merged = false → c.aliasOf p.src = some n → p.pitch ≠ c.portPitch n → exec (.packetForward n p) s = .next (s.afterSw (w.drop n p 0x304))) ∧
    (p.ver = 1 → p.merged = false → c.aliasOf p.src = some n → p.pitch = c.portPitch n → c.fenced p.src = true →
      (isRequest p.op = true → exec (.packetForward n p) s = .next (s.afterSw ((w.drop n p 0x30C).originate n (respond p p.pitch stFenced (c.rd 0xA00040).toNat [])))) ∧
      (p.op = opMsgSend → exec (.packetForward n p) s = .next (s.afterSw ((w.drop n p 0x30C).originate n (msgAnswer p stFenced)))) ∧
      (isRequest p.op = false → p.op ≠ opMsgSend → exec (.packetForward n p) s = .next (s.afterSw (w.drop n p 0x30C)))) ∧
    (s.sw.passes n p = true → consumed n p = true →
      exec (.packetForward n p) s = .next (s.afterSw (if p.crcOk = true then w.dispose n p else ((w.dispose n p).mod (fun c => c.bump (coreA n 0x324))).strikeCore n causeCrc))) ∧
    (s.sw.passes n p = true → consumed n p = false → p.op ≠ opMsgSend → p.op ≠ opMsgAck →
      (∀ o, c.fenced p.dst = false → c.aliasOf p.dst = some o → c.portPitch o = p.pitch → exec (.packetForward n p) s = .next (s.afterSw (w.toOutput n o p))) ∧
      (away → isRequest p.op = true →
        exec (.packetForward n p) s =
          .next (s.afterSw (((w.mod (fun c => c.bump (coreA n 0x310))).originate n (respond p p.pitch stAbsent c.plane [])).dispose n p))) ∧
      (away → isRequest p.op = false → exec (.packetForward n p) s = .next (s.afterSw (w.dispose n p))) ∧
      (∀ o, c.fenced p.dst = false → c.aliasOf p.dst = some o → c.portPitch o ≠ p.pitch →
        ∃ t, exec (.packetForward n p) s = .next (s.afterSw t) ∧ t.c.rd 0x900288 = (c.bump 0x900288).rd 0x900288 ∧ t.core.pkts = s.sw.core.pkts ∧
          t.c.rd (coreA n 0x310) = (if isRequest p.op = true then c.bump (coreA n 0x310) else c).rd (coreA n 0x310)))) ∧
  (∀ (s : State) (n : Nat) (p : Packet), s.heldPart .sw = false → 256 ≤ n → n < 288 →
    let w := s.sw.mod (fun c => c.takeRx n p)
    (p.ver ≠ 1 → exec (.packetForward n p) s = .next (s.afterSw (w.drop n p 0x01C))) ∧
    (p.ver = 1 → consumed n p = true → p.crcOk = true → exec (.packetForward n p) s = .next (s.afterSw (w.dispose n p))) ∧
    (p.ver = 1 → consumed n p = true → p.crcOk = false → exec (.packetForward n p) s = .next (s.afterSw (((w.dispose n p).mod (fun c => c.bump (coreA n 0x324))).strikeCore n causeCrc))) ∧
    (p.ver = 1 → consumed n p = false → ¬(p.vc = 7 ∧ (p.op = opMsgSend ∨ p.op = opMsgAck)) → exec (.packetForward n p) s = .next (s.afterSw (w.drop n p 0x308)))) ∧
  (∀ (s : State) (n : Nat) (p : Packet), n < 288 →
    (p.op = opMsgAck → exec (.packetForward n p) s = exec (.msgAckRoute n p) s) ∧
    (p.op = opMsgSend → exec (.packetForward n p) s = (if n < 256 then exec (.msgSendRoute n p) s else exec (.msgSendSelvedge n p) s)))

/-- In a switch that works: a MSG_SEND or MSG_ACK that passes the checks at a domain port and names this domain goes to its node; a MSG_SEND to another domain goes to the selvedge port of the route table, and is answered UNREACHABLE and disposed of where the table has none, a MSG_ACK then being dropped into 0x308. One that does not pass is dropped as PACKET_FORWARD drops it. On a selvedge port, on VC7, a MSG_SEND from a domain with a pitch in the table, and a MSG_ACK for this domain from one, goes to its node in that pitch, an answer that the switch gives carrying the pitch with which it came; from any other domain, for another domain, or on another VC it is dropped into 0x308. The three commands do nothing with a packet that is not of their kind. The model's choices in it: log entry 36. (R29, R72, R73, R74, R75, Table 7.1.) -/
def Obligations.MessagesLeaveByTheSelvedge : Prop :=
  (∀ (s : State) (n : Nat) (p : Packet), s.heldPart .sw = false → s.sw.passes n p = true →
    let w := s.sw.mod (fun c => c.takeRx n p)
    (p.op = opMsgSend →
      (p.msgDstDomain = s.sw.c.swDomain → exec (.msgSendRoute n p) s = .next (s.afterSw (w.toDst n p))) ∧
      (∀ o, p.msgDstDomain ≠ s.sw.c.swDomain → s.sw.selvedgeFor p.msgDstDomain = some o → exec (.msgSendRoute n p) s = .next (s.afterSw (w.toOutput n o p))) ∧
      (p.msgDstDomain ≠ s.sw.c.swDomain → s.sw.selvedgeFor p.msgDstDomain = none →
        exec (.msgSendRoute n p) s = .next (s.afterSw ((w.originate n (msgAnswer p stUnreachable)).dispose n p)))) ∧
    (p.op = opMsgAck →
      (p.ackDomain = s.sw.c.swDomain → exec (.msgAckRoute n p) s = .next (s.afterSw (w.toDst n p))) ∧
      (∀ o, p.ackDomain ≠ s.sw.c.swDomain → s.sw.selvedgeFor p.ackDomain = some o → exec (.msgAckRoute n p) s = .next (s.afterSw (w.toOutput n o p))) ∧
      (p.ackDomain ≠ s.sw.c.swDomain → s.sw.selvedgeFor p.ackDomain = none → exec (.msgAckRoute n p) s = .next (s.afterSw (w.drop n p 0x308))))) ∧
  (∀ (s : State) (n : Nat) (p : Packet), s.heldPart .sw = false →
    (n < 256 → (s.sw.ingressChecks n p).2 = false →
      (p.op = opMsgSend → exec (.msgSendRoute n p) s = .next (s.afterSw (s.sw.ingressChecks n p).1)) ∧
      (p.op = opMsgAck → exec (.msgAckRoute n p) s = .next (s.afterSw (s.sw.ingressChecks n p).1))) ∧
    (n < 288 →
      (¬(p.op = opMsgSend ∧ n < 256) → exec (.msgSendRoute n p) s = .next (s.afterSw s.sw)) ∧ (¬(p.op = opMsgSend ∧ 256 ≤ n) → exec (.msgSendSelvedge n p) s = .next (s.afterSw s.sw)) ∧
      (p.op ≠ opMsgAck → exec (.msgAckRoute n p) s = .next (s.afterSw s.sw)))) ∧
  (∀ (s : State) (n : Nat) (p : Packet), s.heldPart .sw = false → 256 ≤ n → n < 288 →
    let w := s.sw.mod (fun c => c.takeRx n p)
    (p.op = opMsgSend →
      (p.ver ≠ 1 → exec (.msgSendSelvedge n p) s = .next (s.afterSw (w.drop n p 0x01C))) ∧
      (∀ pitch, p.ver = 1 → p.vc = 7 → (Tab.find s.sw.core.selv p.msgSrcDomain).bind (·.pitch) = some pitch →
        exec (.msgSendSelvedge n p) s = .next (s.afterSw (w.toDst n { p with pitch := pitch } p.pitch))) ∧
      (p.ver = 1 → (p.vc ≠ 7 ∨ (Tab.find s.sw.core.selv p.msgSrcDomain).bind (·.pitch) = none) → exec (.msgSendSelvedge n p) s = .next (s.afterSw (w.drop n p 0x308)))) ∧
    (p.op = opMsgAck →
      (p.ver ≠ 1 → exec (.msgAckRoute n p) s = .next (s.afterSw (w.drop n p 0x01C))) ∧
      (∀ pitch, p.ver = 1 → p.vc = 7 → p.ackDomain = s.sw.c.swDomain → (Tab.find s.sw.core.selv p.ackFrom).bind (·.pitch) = some pitch →
        exec (.msgAckRoute n p) s = .next (s.afterSw (w.toDst n { p with pitch := pitch } p.pitch))) ∧
      (p.ver = 1 → (p.vc ≠ 7 ∨ p.ackDomain ≠ s.sw.c.swDomain ∨ (Tab.find s.sw.core.selv p.ackFrom).bind (·.pitch) = none) →
        exec (.msgAckRoute n p) s = .next (s.afterSw (w.drop n p 0x308)))))

/-- In a switch that works BUFFER_ADMISSION takes away and adds no packet and changes no packet that is admitted; each packet that it admits is of that port and has as many blocks as its cells take; reeds, wire, receipts and shafts are kept. With no packet waiting in the port's input stage it changes nothing. Where one packet waits and every block it needs is free, it is admitted with those blocks, its cells join the backlog of its virtual-output queue (unless it is excess staked traffic that must wait for earlier packets, when it is parked), and its credits are returned; where a block is missing, nothing changes. The model's choice in it, the parking: log entry 82. (R262, R264, R266, R268, R269, R320.) -/
def Obligations.PacketsEnterTheBufferWhole : Prop :=
  ∀ (s : State) (n : Nat), s.heldPart .sw = false → n < 288 →
    (∃ t, exec (.bufferAdmission n) s = .next (s.afterSw t) ∧ t.core.pkts.map (·.id) = s.sw.core.pkts.map (·.id) ∧
      (∀ q, q ∈ t.core.pkts → q ∉ s.sw.core.pkts → q.input = n ∧ q.admitted = true ∧ q.blocks.length = packetBlocks q.pkt) ∧
      t.core.reeds = s.sw.core.reeds ∧ t.core.wire = s.sw.core.wire ∧ t.core.receipts = s.sw.core.receipts ∧ t.core.shafts = s.sw.core.shafts) ∧
    ((∀ p, p ∈ s.sw.core.pkts → p.input = n → p.admitted = true) → exec (.bufferAdmission n) s = .next (s.afterSw s.sw)) ∧
    (∀ p, s.sw.core.pkts.filter (fun q => q.input == n && !q.admitted) = [p] → p.pkt.vc < 8 →
      let got := s.sw.takeBlocks n p.pkt.vc (s.sw.c.pitchOf n p.pkt) (packetBlocks p.pkt) []
      (got = none → exec (.bufferAdmission n) s = .next (s.afterSw s.sw)) ∧
      (∀ bs, got = some bs →
        let q : CorePkt := { p with admitted := true, blocks := bs, parked := s.sw.mustPark p }
        bs.length = packetBlocks p.pkt ∧
        exec (.bufferAdmission n) s = .next (s.afterSw
          ((s.sw.modCore (fun k => if s.sw.mustPark p = true then k.modPkt p.id (fun _ => q) else (k.modPkt p.id (fun _ => q)).queueCells q)).mod
            (fun c => c.freeCells n p.pkt.vc p.pkt.cellCount)))))

/-- For every core and shaft: the match computed for a slot has no input twice and no output twice, and every pair of it has a request at that shaft, with a unit waiting for the shaft and a credit left at the output's reed. A transfer of a matched pair sends the first waiting unit of the pair's HIGH queue, else of its NORMAL queue, for that shaft; with none waiting only the credit returns. In a switch that works MATCHER_SLOT completes with the instant of the slot (the later of it and the present), and leaves every active shaft that is not declared failed with a match that is one to one. With no packet on an injection lane and none parked: of one active shaft not declared failed, the pairs matched before are transferred and counted; a result that fails parity leaves no match and is computed again next slot, and a second failure running is a lasting error of the shaft; otherwise the match of this slot is computed, a transient error being counted after one failure. (R269, R273, R277, R278, R279.) -/
def Obligations.MatchersMatchOneToOne : Prop :=
  (∀ (k : Core) (shaft : Nat),
    let m := (Tab.get (k.computeMatch shaft).shafts {} shaft).match_
    (m.map (·.1)).Nodup ∧ (m.map (·.2)).Nodup ∧ ∀ x, x ∈ m → ∃ r, r ∈ k.requests shaft ∧ r.i = x.1 ∧ r.o = x.2) ∧
  (∀ (k : Core) (shaft : Nat) (r : MatchReq), r ∈ k.requests shaft → 0 < k.creditLeft shaft r.o) ∧
  (∀ (k : Core) (shaft i o : Nat),
    let waiting := fun (h : Bool) => (Tab.get k.voqs {} (tripleKey i o h)).units.find? (fun u => u.shaft == shaft && !u.sent)
    (∀ h u, waiting h = some u → (h = true ∨ waiting true = none) → (k.transferOne shaft i o).wire = k.wire ++ [{ key := tripleKey i o h, seq := u.seq, shaft := shaft, cells := u.cells }] ∧
      (k.transferOne shaft i o).credit = k.credit) ∧
    (waiting true = none → waiting false = none → k.transferOne shaft i o = k.returnCredit shaft o)) ∧
  (∀ (s : State) (slot : Nat) (bad : List Nat), s.heldPart .sw = false →
    ∃ t, exec (.matcherSlot slot bad) s = .next (s.afterSw t) ∧ t.c.time.ns = max s.sw.c.time.ns (min 999 (slot * 16)) ∧
      ∀ shaft, shaft ∈ s.sw.core.active → (Tab.get s.sw.core.shafts {} shaft).due = none →
        (((Tab.get t.core.shafts {} shaft).match_).map (·.1)).Nodup ∧ (((Tab.get t.core.shafts {} shaft).match_).map (·.2)).Nodup) ∧
  (∀ (s : State) (slot shaft : Nat) (bad : List Nat), s.heldPart .sw = false → s.sw.core.active = [shaft] → s.sw.core.lane = [] → (∀ p, p ∈ s.sw.core.pkts → p.parked = false) →
    let x := Tab.get s.sw.core.shafts {} shaft
    x.due = none →
    let w := s.sw.mod (fun c => { c with time := { c.time with ns := max c.time.ns (min 999 (slot * 16)) } })
    let w1 := w.modCore (fun k => { k with voqs := k.voqs.map (fun e => (e.1, k.closeAtSlot (e.1 / 1024) e.2)) })
    let w2 := (each x.match_ w1 (fun v m => (v.modCore (fun k => k.transferOne shaft m.1 m.2)).mod (fun c => c.wrapBy (shaftA shaft 8) 1))).modCore
      (fun k => { k with shafts := Tab.upd k.shafts {} shaft (fun x => { x with match_ := [], retry := false }) })
    (shaft ∈ bad → x.retry = false →
      exec (.matcherSlot slot bad) s = .next (s.afterSw (w2.modCore (fun k => { k with shafts := Tab.upd k.shafts {} shaft (fun x => { x with retry := true }) })))) ∧
    (shaft ∈ bad → x.retry = true → exec (.matcherSlot slot bad) s = .next (s.afterSw (w2.shaftLasting shaft 2))) ∧
    (shaft ∉ bad → exec (.matcherSlot slot bad) s = .next (s.afterSw ((if x.retry = true then w2.shaftTransient shaft 2 else w2).modCore (fun k => k.computeMatch shaft)))))

/-- In a switch that works, for a unit on the wire of a triple: it leaves the wire and its receipt is under way, negative for a bad unit. A bad one, and one that was released or is held already, returns its shaft's credit at the reed and leaves the reed as it is; a good one that is next in sequence, with none held, is released with its credit, and the reed expects the next sequence modulo 4,096; a good one ahead of the sequence is held with its instant. With at most 1,024 units held the reed never holds the unit it expects next. Each error that the unit's code corrects first counts as transient for its shaft. A unit not on the wire changes nothing. A negative receipt sends the unit again, with its sequence and at the end of its queue, on the next active shaft; a second one is first a lasting error of both shafts. A positive one frees the unit's cells and blocks and takes it out of its queue, and after a failed attempt first counts a transient error of the shaft that failed. A receipt of no unit is only taken, and one that is not on its way changes nothing. The model's choice in it, what a corrected error counts: log entry 82. (R267, R270, R271, R273, R281, R282, R283.) -/
def Obligations.UnitsArriveInSequence : Prop :=
  (∀ (s : State) (i o q k : Nat) (high bad : Bool), s.heldPart .sw = false → i < 288 → o < 288 →
    let key := tripleKey i o high
    let r := Tab.get s.sw.core.reeds {} key
    let find := s.sw.core.wire.find? (fun x => x.key == key && x.seq == q)
    (find = none → exec (.sprayUnitArrival i o q high { corrected := k, bad := bad }) s = .next (s.afterSw s.sw)) ∧
    (∀ u, find = some u →
      let w := (each (List.range k) s.sw (fun w _ => w.shaftTransient u.shaft 1)).modCore (fun k => { k with wire := k.wire.erase u, receipts := k.receipts ++ [(key, q, bad)] })
      ((bad = true ∨ behindSeq r.next q = true ∨ r.held.any (fun v => v.seq == q) = true) →
        exec (.sprayUnitArrival i o q high { corrected := k, bad := bad }) s = .next (s.afterSw (w.modCore (fun k => k.returnCredit u.shaft o)))) ∧
      (bad = false → r.held = [] → r.next = q → q < 4096 → u.seq = q →
        ∃ t, exec (.sprayUnitArrival i o q high { corrected := k, bad := bad }) s = .next (s.afterSw t) ∧ t.core.wire = s.sw.core.wire.erase u ∧ t.core.receipts = s.sw.core.receipts ++ [(key, q, false)] ∧
          Tab.get t.core.reeds {} key = { next := (q + 1) % 4096, held := [] } ∧ t.core.credit = (s.sw.core.returnCredit u.shaft o).credit) ∧
      (bad = false → r.next ≠ q → behindSeq r.next q = false → (∀ v, v ∈ r.held → v.seq ≠ q ∧ v.seq ≠ r.next) → u.seq = q →
        exec (.sprayUnitArrival i o q high { corrected := k, bad := bad }) s =
          .next (s.afterSw (w.modCore (fun k => { k with reeds := Tab.put k.reeds key { r with held := r.held ++ [{ u with at_ := s.sw.c.now }] } })))) ∧
      (bad = false → behindSeq r.next q = false → r.held.any (fun v => v.seq == q) = false → r.held.length ≤ 1024 →
        ∃ t, exec (.sprayUnitArrival i o q high { corrected := k, bad := bad }) s = .next (s.afterSw t) ∧ ∀ v, v ∈ (Tab.get t.core.reeds {} key).held → v.seq ≠ (Tab.get t.core.reeds {} key).next))) ∧
  (∀ (s : State) (i o q : Nat) (high negative : Bool), s.heldPart .sw = false → i < 288 → o < 288 →
    let key := tripleKey i o high
    let w := s.sw.modCore (fun k => { k with receipts := k.receipts.erase (key, q, negative) })
    let find := (Tab.get s.sw.core.voqs {} key).units.find? (fun x => x.seq == q)
    (s.sw.core.receipts.contains (key, q, negative) = false → exec (.reedReceipt i o q high negative) s = .next (s.afterSw s.sw)) ∧
    (s.sw.core.receipts.contains (key, q, negative) = true → find = none → exec (.reedReceipt i o q high negative) s = .next (s.afterSw w)) ∧
    (∀ u, s.sw.core.receipts.contains (key, q, negative) = true → find = some u →
      (negative = true →
        let w1 := match u.failedOn with
          | some first => (w.shaftLasting first 1).shaftLasting u.shaft 1
          | none => w
        exec (.reedReceipt i o q high negative) s =
        .next (s.afterSw (w1.modCore (fun k =>
          { k with voqs := Tab.upd k.voqs {} key (fun v => v.assign q (fun x => { x with sent := false, failedOn := some u.shaft, shaft := s.sw.core.nextActive u.shaft })) })))) ∧
      (negative = false →
        let w1 := match u.failedOn with
          | some first => w.shaftTransient first 1
          | none => w
        exec (.reedReceipt i o q high negative) s =
        .next (s.afterSw ((w1.modCore (fun k =>
          { (k.receiptCells u.cells) with voqs := Tab.upd k.voqs {} key (fun v => k.closeFull i 1024 { v with units := v.units.filter (fun x => x.seq != q) }) })).admitPort i 64)))))

/-- In a switch that works: a hole of 4 µs in a reed of an output, and a packet toward an output aged 40 picks, leave that output struck, with no packet, unit or queue entry toward it, its combiner empty; without them nothing changes. CAST_SEND with the head cast of a bus and room at every tap that needs it takes the cast and puts a copy toward each tapped port in service of its pitch, counting the others; without room the bus is noted as waiting and nothing else changes; outside its pitch's seal slot, or behind an earlier packet of its collective, it stays, as it does with no cast. COMBINE_ANSWER that passes the checks, with a right CRC, for a batch that was sent, lets the batch go and answers every member in reed order, but none to a fenced node; one of no such batch is counted as malformed; one with a bad CRC is counted and strikes its port; a packet that is no MGMT changes nothing. MERGED_FORGET of a batch unanswered for 8 picks discards it and counts it, and of any other changes nothing. The model's choices in it: log entry 37. (R67, R121, R123, R284, R287, R288, R296, R297, R138, R640.) -/
def Obligations.CoreStrikesAndCasts : Prop :=
  (∀ (w : SwState) (o cause : Nat),
    let t := w.strikeCore o cause
    (t.c.port o).t.st = .struck ∧ (∀ p, p ∈ t.core.pkts → p.output ≠ o) ∧ (∀ u, u ∈ t.core.wire → u.key / 2 % 512 ≠ o) ∧ (t.c.port o).eg.q = [] ∧
    (t.combiner o).batches = [] ∧ (t.combiner o).watch = []) ∧
  (∀ (s : State) (i o : Nat), s.heldPart .sw = false → i < 288 → o < 288 →
    (∀ high h, (Tab.get s.sw.core.reeds {} (tripleKey i o high)).holeSince = some h → h + 4000 ≤ s.sw.c.now →
      ∃ w : SwState, exec (.reedHoleTimeout i o) s = .next (s.afterSw (w.strikeCore o causeCore)) ∧ w.c = (s.sw.c.bump 0x5000C0).event 0x5000C4 o) ∧
    ((∀ high h, (Tab.get s.sw.core.reeds {} (tripleKey i o high)).holeSince = some h → s.sw.c.now < h + 4000) → exec (.reedHoleTimeout i o) s = .next (s.afterSw s.sw)) ∧
    (s.sw.aged o = true → ∃ w : SwState, exec (.packetAgeDiscard o) s = .next (s.afterSw (w.strikeCore o causeCore))) ∧
    (s.sw.aged o = false → exec (.packetAgeDiscard o) s = .next (s.afterSw s.sw))) ∧
  (∀ (s : State) (bus : Nat), s.heldPart .sw = false → bus < 32 →
    let find := s.sw.core.casts.find? (fun j => j.bus == bus)
    (find = none → exec (.castSend bus) s = .next (s.afterSw s.sw)) ∧
    (∀ j, find = some j →
      let room := ((s.sw.c.taps bus).filter (fun t => s.sw.c.needsRoom j.pkt t.1)).all (fun t => s.sw.c.tapRoom bus t.1 j.pkt)
      let free := s.sw.c.sealLets j.pkt.pitch (laneNs j.pkt) = true ∧ s.sw.laneBefore j = false
      (room = false → exec (.castSend bus) s =
        .next (s.afterSw (s.sw.modCore (fun k => { k with castWaits := if k.castWaits.contains bus then k.castWaits else k.castWaits ++ [bus] })))) ∧
      (room = true → ¬free → exec (.castSend bus) s = .next (s.afterSw s.sw)) ∧
      (room = true → free → exec (.castSend bus) s =
        .next (s.afterSw ((each (s.sw.c.taps bus) (s.sw.modCore (fun k => { k with casts := k.casts.erase j })) (fun w t =>
          if w.c.portPitch t.1 ≠ j.pkt.pitch then w.mod (fun c => c.bump (coreA t.1 0x320))
          else if (w.c.port t.1).inService then w.enq t.1 (Packet.seal { j.pkt with dst := t.2 }) false none 0 none (some bus) else w)).castWait bus))))) ∧
  (∀ (s : State) (n : Nat) (p : Packet), s.heldPart .sw = false → n < 288 →
    let w := (s.sw.ingressChecks n p).1
    let l := p.mgmtBody.drop 16
    let good := badHeader p = none ∧ lenAllowed p = true ∧ noticeOk p.mgmtBody 0x0511 = true
    (p.op ≠ opMgmt → exec (.combineAnswer n p) s = .next (s.afterSw s.sw)) ∧
    (p.op = opMgmt → (s.sw.ingressChecks n p).2 = false → exec (.combineAnswer n p) s = .next (s.afterSw w)) ∧
    (p.op = opMgmt → (s.sw.ingressChecks n p).2 = true → p.crcOk = false →
      exec (.combineAnswer n p) s = .next (s.afterSw (((w.dispose n p).mod (fun c => c.bump (coreA n 0x324))).strikeCore n causeCrc))) ∧
    (p.op = opMgmt → (s.sw.ingressChecks n p).2 = true → p.crcOk = true →
      ((¬good ∨ s.sw.answered n l = none) → exec (.combineAnswer n p) s = .next (s.afterSw ((w.dispose n p).mod (fun c => c.bump 0xA00024)))) ∧
      (∀ b, good → s.sw.answered n l = some b → exec (.combineAnswer n p) s =
        .next (s.afterSw (each (memberAnswers p.src (pn l 2 2) (pn l 4 4) (pn l 16 16) b.members) ((w.dispose n p).modComb n (fun m => { m with batches := m.batches.filter (· != b) })) (fun w e => if w.c.fencedPort e.1 then w else w.originate e.1 e.2)))))) ∧
  (∀ (s : State) (o batch : Nat), s.heldPart .sw = false → o < 288 →
    let find := (s.sw.combiner o).batches.find? (fun b => b.number == batch && (match b.sentAt with | some t => decide (t + 8 ≤ s.sw.c.pick) | none => false))
    (find = none → exec (.mergedForget o batch) s = .next (s.afterSw s.sw)) ∧
    (∀ b, find = some b → exec (.mergedForget o batch) s = .next (s.afterSw ((s.sw.modComb o (fun m => { m with batches := m.batches.filter (· != b) })).mod (fun c => c.bump 0x502010)))))

/-! ### Remote operations, the memory model and the remote-line cache (spec/02, 03, 04) -/

/-- In an end-point that works, for a request of the opcode named, not merged, or of an opcode that Table 2.7 does not list: a closed port brings nothing; a wrong CRC-64 strikes the port and nothing else is done, and so does an encrypted packet that does not authenticate; one that fails steps 2 to 8 of Table 2.4 is recorded in EP_WIN_FAULT, marks its SEQ refused and is answered with its status and detail; a copy of an applied SEQ is answered: a store OK_DUPLICATE, an atomic from the result table or with OK, a read by a new read; a copy of a SEQ still open waits behind it; a first copy opens its SEQ and joins the requests of the home, a flagged store held until every lower SEQ is finished; then each waiting request that none blocks begins. Where no other request is in progress a first copy begins exactly one access at the address of its window: a read of its bytes, a write of its data, a masked write of its line, a system-scope atomic, or for another atomic the read of its granule; registers, source side and cache then do not change. A packet of another listed opcode does nothing. The model's choices in it: log entries 26, 31, 76. (R45, R46, R54, R67, R70, R87, R89, R95, R96, R122, R247, Table 2.4.) -/
def Obligations.HomeServesEachRequestOnce : Prop :=
  (∀ (s : State) (k : Nat) (p : Packet), s.heldPart .ep = false → k < 8 → opListed p.op = true →
    (p.op ≠ 1 → exec (.read k p) s = .next (s.afterEp s.ep)) ∧ (p.op ≠ 2 → exec (.write k p) s = .next (s.afterEp s.ep)) ∧ (p.op ≠ 6 → exec (.writeMasked k p) s = .next (s.afterEp s.ep)) ∧
    (p.op ≠ 5 → exec (.atomic k p) s = .next (s.afterEp s.ep)) ∧ (p.op ≠ 3 → exec (.writeFlagNode k p) s = .next (s.afterEp s.ep)) ∧ (p.op ≠ 4 → exec (.writeFlagAll k p) s = .next (s.afterEp s.ep))) ∧
  (∀ (s : State) (k op : Nat) (p q : Packet) (i : Instr), s.heldPart .ep = false → k < 8 →
    (i = .read k p ∧ op = 1 ∨ i = .write k p ∧ op = 2 ∨ i = .writeMasked k p ∧ op = 6 ∨ i = .atomic k p ∧ op = 5 ∨ i = .writeFlagNode k p ∧ op = 3 ∨ i = .writeFlagAll k p ∧ op = 4) →
    (p.op = op ∨ opListed p.op = false) →
    let e := s.ep.takeIn k p
    (s.ep.portOpen k p.vc = false → exec i s = .next (s.afterEp s.ep)) ∧
    (s.ep.portOpen k p.vc = true → p.crcOk = false → exec i s = .next (s.afterEp (e.crcDrop k))) ∧
    (s.ep.portOpen k p.vc = true → p.crcOk = true → e.opened k p = none → exec i s = .next (s.afterEp (e.authDrop k))) ∧
    (s.ep.brings k p q = true → ¬(q.merged = true ∧ q.src = 0 ∧ (q.op = 5 ∨ q.op = 6)) →
      (∀ f, e.homeCheck q = some f →
        let e1 := (e.winFault q f).modRec q.src (fun r => if r.isFinished q.seq || r.open_.contains q.seq then r else r.finish q.seq false)
        exec i s = .next (s.afterEp (e1.sendResponse k (e1.respondTo q f.1 f.2 [])))) ∧
      (e.homeCheck q = none →
        let r := Tab.get e.home.recs {} q.src
        let new : HomeReq := { id := 0, plane := k, pkt := q, arrival := e.c.pick, pa := e.homePa q }
        let dup := if q.op = 1 then e.addReq new
          else if q.op ≠ 5 then e.sendResponse k (e.respondTo q stDup 0 [])
          else if fetchOf (q.cell 0) = true ∨ aopOf (q.cell 0) = 5 then e.addReq { new with fromTable := true }
          else e.sendResponse k (e.respondTo q stOk 0 (atomRspData 0 false false true))
        let hold := isFlagged q.op && !r.lowerDone q.seq
        let first := (e.modRec q.src (fun r => { r with open_ := r.open_ ++ [q.seq], refused := r.refused.filter (· != q.seq), finished := r.finished.filter (· != q.seq) })).addReq
          { new with st := if hold = true then .held e.c.pick else .waiting }
        (r.isApplied q.seq = true → exec i s = .next (s.afterEp (dup.startWaiting dup.home.reqs))) ∧
        (r.isApplied q.seq = false → r.open_.contains q.seq = true → exec i s = .next (s.afterEp (e.modRec q.src (fun r => { r with copies := r.copies ++ [new] })))) ∧
        (r.isApplied q.seq = false → r.open_.contains q.seq = false → exec i s = .next (s.afterEp (first.startWaiting first.home.reqs))) ∧
        (r.isApplied q.seq = false → r.open_.contains q.seq = false → hold = false → e.home.reqs = [] →
          ∃ t : EpState, exec i s = .next (s.afterEp t) ∧
            t.home.reqs = [{ new with id := e.home.nextId, st := .busy, left := 1 }] ∧
            (Tab.get t.home.recs {} q.src).open_ = r.open_ ++ [q.seq] ∧ (∀ o, o ≠ q.src → Tab.get t.home.recs {} o = Tab.get e.home.recs {} o) ∧
            t.c = e.c ∧ t.src = e.src ∧ t.rlc = e.rlc ∧ t.loop = e.loop ∧
            (q.op = 1 → t.lha.ereqs = e.lha.ereqs ++ [{ id := e.lha.nextEreq, purp := .home e.home.nextId 0, mop := 0x21, addr := e.homePa q, len := lenBytes q.len / 16, data := [] }]) ∧
            (q.op = 2 → t.lha.ereqs = e.lha.ereqs ++ [{ id := e.lha.nextEreq, purp := .home e.home.nextId 0, mop := 0x22, addr := e.homePa q, len := q.data.length / 16, data := q.data }]) ∧
            (q.op = 3 ∨ q.op = 4 ∨ q.op = 6 → t.lha.ereqs = e.lha.ereqs ++ [{ id := e.lha.nextEreq, purp := .home e.home.nextId 0, mop := 0x23, addr := e.homePa q, len := 5, data := q.data.take 64 ++ beBytes (q.mask % 2 ^ 64 * 2 ^ 64) 16 }]) ∧
            (q.op = 5 → scopeOf (q.cell 0) = 2 →
              t.lha.ereqs = e.lha.ereqs ++ [{ id := e.lha.nextEreq, purp := .atomMat e.home.nextId, mop := 0x24, addr := e.homePa q, len := 4, data := q.data }]) ∧
            (q.op = 5 → scopeOf (q.cell 0) ≠ 2 →
              t.lha.ereqs = e.lha.ereqs ++ [{ id := e.lha.nextEreq, purp := .atomRead e.home.nextId, mop := 0x21, addr := e.homePa q / 64 * 64, len := 4, data := [] }])))))

/-- In an end-point that works: FLAG_HOLD_RELEASE of a held store whose lower SEQ are all finished lets it wait as any request, and each waiting request that none blocks begins: alone, its masked write begins; before that, and with no such store, it does nothing. FLAG_HOLD_DISCARD removes a store held for 256 picks, unanswered and counted, its copies with it, and does nothing before. COMBINE_BATCH_DROP removes and counts a batch not begun, 4 picks after its first part, and does nothing before, or with no such batch. A merged request that comes first, with no other request in progress, only joins the record of its batch, with what its checks gave; a second one changes nothing; a COMBINE_RECEIPT that comes first joins the record too, and a malformed one is dropped and counted. A merged request that completes its batch, passes its checks and names no member that has come by itself opens the SEQ of its members and begins one access. MERGED_REQUEST with a packet that is not a merged one does nothing, and of a merged packet it is the command of its opcode. The model's choice in it, the batch with a member already taken: log entry 77. (R97, R99, R134, R135, R136, R139.) -/
def Obligations.FlagsWaitForLowerSequences : Prop :=
  (∀ (s : State) (src seq : Nat), s.heldPart .ep = false →
    let find := s.ep.home.reqs.find? (fun r => r.pkt.src == src && r.pkt.seq == seq && (match r.st with | .held _ => true | _ => false))
    let due := s.ep.home.reqs.find? (fun r => r.pkt.src == src && r.pkt.seq == seq && (match r.st with | .held t => decide (t + 256 ≤ s.ep.c.pick) | _ => false))
    (find = none → exec (.flagHoldRelease src seq) s = .next (s.afterEp s.ep)) ∧
    (∀ r, find = some r →
      let low := Tab.get s.ep.home.recs {} r.pkt.src
      let w := s.ep.modReq r.id (fun q => { q with st := .waiting })
      (low.lowerDone r.pkt.seq = false → exec (.flagHoldRelease src seq) s = .next (s.afterEp s.ep)) ∧
      (low.lowerDone r.pkt.seq = true → exec (.flagHoldRelease src seq) s = .next (s.afterEp (w.startWaiting w.home.reqs))) ∧
      (low.lowerDone r.pkt.seq = true → s.ep.home.reqs = [r] → isMasked r.pkt.op = true → r.fromTable = false →
        ∃ t : EpState, exec (.flagHoldRelease src seq) s = .next (s.afterEp t) ∧ t.home.reqs = [{ r with st := .busy, left := 1 }] ∧ t.c = s.ep.c ∧ t.src = s.ep.src ∧
          t.lha.ereqs = s.ep.lha.ereqs ++ [{ id := s.ep.lha.nextEreq, purp := .home r.id 0, mop := 0x23, addr := r.pa, len := 5, data := r.pkt.data.take 64 ++ beBytes (r.pkt.mask % 2 ^ 64 * 2 ^ 64) 16 }])) ∧
    (due = none → exec (.flagHoldDiscard src seq) s = .next (s.afterEp s.ep)) ∧
    (∀ r, due = some r →
      ∃ t : EpState, exec (.flagHoldDiscard src seq) s = .next (s.afterEp t) ∧ t.home.reqs = s.ep.home.reqs.filter (fun x => x.id != r.id) ∧ t.lha = s.ep.lha ∧ t.loop = s.ep.loop ∧ t.c = s.ep.c.bump 0x40048 ∧
        (Tab.get t.home.recs {} src).open_ = (Tab.get s.ep.home.recs {} src).open_.filter (· != seq) ∧ (∀ c, c ∈ (Tab.get t.home.recs {} src).copies → c.pkt.seq ≠ seq) ∧
        ∀ o, o ≠ src → Tab.get t.home.recs {} o = Tab.get s.ep.home.recs {} o)) ∧
  (∀ (s : State) (k n : Nat), s.heldPart .ep = false → k < 8 → n < 4096 →
    (Tab.find s.ep.home.batches (4096 * k + n) = none → exec (.combineBatchDrop k n) s = .next (s.afterEp s.ep)) ∧
    (∀ b, Tab.find s.ep.home.batches (4096 * k + n) = some b →
      ((b.started = true ∨ s.ep.c.pick < b.first + 4) → exec (.combineBatchDrop k n) s = .next (s.afterEp s.ep)) ∧
      (b.started = false → b.first + 4 ≤ s.ep.c.pick →
        ∃ t : EpState, exec (.combineBatchDrop k n) s = .next (s.afterEp t) ∧ t.home.batches = Tab.del s.ep.home.batches (4096 * k + n) ∧ t.home.reqs = s.ep.home.reqs ∧ t.lha = s.ep.lha ∧
          t.c = s.ep.c.bump 0x40050))) ∧
  (∀ (s : State) (k : Nat) (p : Packet), s.heldPart .ep = false → k < 8 →
    (¬(p.merged = true ∧ (p.op = 5 ∨ p.op = 6)) → exec (.mergedRequest k p) s = .next (s.afterEp s.ep)) ∧
    (p.merged = true → (p.op = 5 → exec (.mergedRequest k p) s = exec (.atomic k p) s) ∧ (p.op = 6 → exec (.mergedRequest k p) s = exec (.writeMasked k p) s)) ∧
    (p.op ≠ opMgmt → exec (.combineReceipt k p) s = .next (s.afterEp s.ep))) ∧
  (∀ (s : State) (k : Nat) (p q : Packet), s.heldPart .ep = false → k < 8 → s.ep.brings k p q = true →
    let e := s.ep.takeIn k p
    let key := 4096 * k + q.seq
    (e.home.reqs = [] → (p.op = 5 ∨ p.op = 6) → p.merged = true → (q.op = 5 ∨ q.op = 6) → q.merged = true → q.src = 0 →
      (Tab.find e.home.batches key = none →
        ∃ t : EpState, exec (.mergedRequest k p) s = .next (s.afterEp t) ∧ t.lha = e.lha ∧ t.home.reqs = [] ∧ t.home.recs = e.home.recs ∧
          t.c = (match e.homeCheck q with | some f => (e.winFault q f).c | none => e.c) ∧
          Tab.get t.home.batches {} key = { req := some q, atomic := q.op == 5, refusal := e.homeCheck q, pa := e.homePa q, first := e.c.pick }) ∧
      (∀ b, Tab.find e.home.batches key = some b →
        (b.req.isSome = true → exec (.mergedRequest k p) s = .next (s.afterEp e)) ∧
        (b.req = none → b.started = false → b.total = some b.entries.length → b.ordered.length = b.entries.length → e.homeCheck q = none → b.entries.any e.memberTaken = false →
          ∃ t : EpState, exec (.mergedRequest k p) s = .next (s.afterEp t) ∧ t.c = e.c ∧
            t.home.reqs = [{ id := e.home.nextId, plane := key / 4096, pkt := q, arrival := b.first, pa := e.homePa q, batch := some key, st := .busy, left := 1 }] ∧ t.lha.ereqs.length = e.lha.ereqs.length + 1 ∧
            ∀ m, m ∈ b.ordered → (Tab.get t.home.recs {} m.src).open_.contains m.seq = true))) ∧
    (p.op = opMgmt →
      let pay := q.mgmtBody.drop 16
      let good := badHeader q = none ∧ lenAllowed q = true ∧ noticeOk q.mgmtBody 0x0510 = true ∧ receiptOk pay = true
      let key := 4096 * k + pn pay 0 2 % 4096
      (¬good → exec (.combineReceipt k p) s = .next (s.afterEp (e.mod (fun c => c.bump 0xD0024)))) ∧
      (good → e.home.reqs = [] → Tab.find e.home.batches key = none →
        ∃ t : EpState, exec (.combineReceipt k p) s = .next (s.afterEp t) ∧ t.lha = e.lha ∧ t.c = e.c ∧ t.home.reqs = [] ∧
          Tab.get t.home.batches {} key =
            { total := some (pn pay 2 2), entries := receiptEntries (pn pay 0 2 / 4096 == 2) (pn pay 4 2) (pay.drop 16) (pn pay 6 2), first := e.c.pick })))

/-- In an end-point that works, an answer that matches no outstanding operation in tag, sender, SEQ and kind is counted as stray and changes nothing else; one that matches and is malformed is dropped (the model's choice, log entry 81). One that matches: OK or OK_DUPLICATE completes it, with its data, a read filling the cache as far as it may, an acquire dropping its node's lines; NODE_ABSENT, for a request to another node, marks the plane named down toward it and re-issues it, and else completes it; FENCED makes the end-point fenced and completes it; another listed status completes it with that status, an unlisted one as MALFORMED. A packet of another opcode does nothing. A completed request leaves the list, its answer is kept for its owner, and a failed one is remembered for fences. RESPONSE_TIMEOUT before the time set, or of no outstanding tag, does nothing; otherwise it acts on every request to that node whose time is over and whose SEQ is not higher: the first two time-outs mark the plane down and re-issue, the third completes with TIMEOUT. PORT_DOWN_REISSUE does nothing but 64 picks after the last issue when the own port is down; then it re-issues all such requests to the node in the same way. The model's choices in it: log entries 28, 36, 81. (R63, R71, R92, R124, R125, R126, R127, R131, R140, R141, Table 3.11, Table 3.15.) -/
def Obligations.AnswersCompleteTheirRequests : Prop :=
  (∀ (e : EpState) (r : SrcReq) (st : Nat) (a : Option Packet),
    let t := e.complete r st a
    (∀ x, x ∈ t.src.reqs ↔ x ∈ e.src.reqs ∧ x.id ≠ r.id) ∧
    (∃ d, t.src.done = e.src.done ++ [d] ∧ d.req = r ∧ d.status = st ∧ (a = none → d.data = [] ∧ d.detail = 0 ∧ d.dup = false ∧ d.measured = none) ∧
      (∀ p, a = some p → d.data = p.data ∧ d.dup = (p.status == stDup) ∧ d.measured = some p.flags.measured ∧ (p.op ≠ opMsgAck → d.detail = p.detail))) ∧
    t.src.fails = (if st = stOk then e.src.fails else e.src.fails ++ [{ id := r.id, engine := r.engine, node := r.dst }]) ∧ t.home = e.home ∧ t.lha = e.lha ∧ t.rlc = e.rlc) ∧
  (∀ (s : State) (k : Nat) (p : Packet), s.heldPart .ep = false → k < 8 →
    (p.op ≠ 0x10 → exec (.readRsp k p) s = .next (s.afterEp s.ep)) ∧ (p.op ≠ 0x11 → exec (.writeAck k p) s = .next (s.afterEp s.ep)) ∧
    (p.op ≠ 0x12 → exec (.atomicRsp k p) s = .next (s.afterEp s.ep)) ∧ (p.op ≠ 0x31 → exec (.msgAck k p) s = .next (s.afterEp s.ep))) ∧
  (∀ (s : State) (k : Nat) (p q : Packet) (i : Instr), s.heldPart .ep = false → k < 8 →
    (i = .readRsp k p ∧ p.op = 0x10 ∨ i = .writeAck k p ∧ p.op = 0x11 ∨ i = .atomicRsp k p ∧ p.op = 0x12 ∨ i = .msgAck k p ∧ p.op = 0x31) →
    let e := s.ep.takeIn k p
    let hit := e.src.reqs.find? (fun r => r.matches_ q && !(q.flags.encrypted && decide (e.c.senderPick q < r.lastIssue)))
    (s.ep.portOpen k p.vc = false → exec i s = .next (s.afterEp s.ep)) ∧
    (s.ep.portOpen k p.vc = true → p.crcOk = false → exec i s = .next (s.afterEp (e.crcDrop k))) ∧
    (s.ep.portOpen k p.vc = true → p.crcOk = true → e.opened k p = none → exec i s = .next (s.afterEp (e.authDrop k))) ∧
    (s.ep.brings k p q = true → hit = none → exec i s = .next (s.afterEp (e.mod (fun c => c.bump 0x40014)))) ∧
    (∀ r, s.ep.brings k p q = true → hit = some r →
      let u := e.unqueue r
      let u1 := if q.op = 0x10 ∧ q.status = stOk then u.rlcAnswer r q.data else u
      (r.wellAnswered q = false → exec i s = .next (s.afterEp e)) ∧
      (r.wellAnswered q = true →
        (q.status = stOk ∨ q.status = stDup → exec i s = .next (s.afterEp ((if r.flags.acquire = true then u1.rlcPurge (fun x => x / 16 == r.dst) else u1).complete r stOk (some q)))) ∧
        (q.status = stAbsent → r.op ≠ opMsgSend → r.dst ≠ u.node → exec i s = .next (s.afterEp ((u.markPlane (q.detail % 256 % 8) r.dst r.woff 0).reissue r))) ∧
        (q.status = stAbsent → (r.op = opMsgSend ∨ r.dst = u.node) → exec i s = .next (s.afterEp (u.complete r stAbsent (some q)))) ∧
        (q.status = stFenced → exec i s = .next (s.afterEp ((u.enterFenced (if q.op = opMsgAck then (u.c.rd 0xD0040).toNat else q.detail)).complete r stFenced (some q)))) ∧
        (statusListed q.status = true → q.status ≠ stOk → q.status ≠ stDup → q.status ≠ stAbsent → q.status ≠ stFenced →
          exec i s = .next (s.afterEp (u.complete r q.status (some q)))) ∧
        (statusListed q.status = false → exec i s = .next (s.afterEp (u.complete r stMalformed (some q))))))) ∧
  (∀ (e : EpState) (r : SrcReq),
    let r1 := { r with timeouts := r.timeouts + 1 }
    let e1 := e.modSrcReq r.id (fun _ => r1)
    (r.timeouts < 2 → r.plane ≠ selfPlane → r.op ≠ opMsgSend → e.timeOut r = (e1.markPlane r.plane r.dst r.woff 1).reissue r1) ∧
    (r.timeouts < 2 → r.plane = selfPlane → e.timeOut r = e1.reissue r1) ∧
    (2 ≤ r.timeouts → e.timeOut r = (e1.unqueue r1).complete r1 stTimeout none)) ∧
  (∀ (s : State) (tag : Nat), s.heldPart .ep = false →
    (s.ep.byTag tag = none → exec (.responseTimeout tag) s = .next (s.afterEp s.ep) ∧ exec (.portDownReissue tag) s = .next (s.afterEp s.ep)) ∧
    (∀ r, s.ep.byTag tag = some r →
      let late := fun (x : SrcReq) => x.st == .sent && decide (x.lastIssue + s.ep.rspTimeout ≤ s.ep.c.pick)
      let lost := fun (x : SrcReq) => x.st == .sent && x.plane != selfPlane && s.ep.portDown x.plane && decide (x.lastIssue + 64 ≤ s.ep.c.pick)
      (late r = false → exec (.responseTimeout tag) s = .next (s.afterEp s.ep)) ∧
      (late r = true → exec (.responseTimeout tag) s = .next (s.afterEp (each (s.ep.dueWith r late) s.ep (fun e x => e.timeOut x)))) ∧
      (lost r = false → exec (.portDownReissue tag) s = .next (s.afterEp s.ep)) ∧
      (lost r = true → exec (.portDownReissue tag) s = .next (s.afterEp (each (s.ep.dueWith r lost) s.ep (fun e x => e.portReissue x)))))) ∧
  (∀ (e : EpState) (r : SrcReq) (due : SrcReq → Bool), due r = true → r ∈ e.src.reqs → r.live = true →
    r ∈ e.dueWith r due ∧ (∀ x, x ∈ e.dueWith r due ↔ x ∈ e.src.reqs ∧ x.live = true ∧ x.dst = r.dst ∧ x.message = r.message ∧ due x = true ∧ (r.seq + 4096 - x.seq) % 4096 < 2048) ∧
      (e.dueWith r due).Pairwise (fun x y => (r.seq + 4096 - y.seq) % 4096 ≤ (r.seq + 4096 - x.seq) % 4096))

/-- In an end-point that works: REQUEST_SEND with a message of 1 to 256 bytes first issues that message, in whole groups of cells, on VC7; with any other only what follows. With nothing to send it does nothing; behind a fence of its engine the next request waits; a fenced end-point completes it FENCED, and with no plane up it completes NODE_ABSENT; a request that is held, or for which no tag is free, waits; otherwise it has its SEQ and is sent on the plane of the mapping, a request to the own node inside, a staked one waiting for its flow's acceptance, and the SEQ that it took, of its node, or of a message's domain and node, counts on modulo 4,096 and no other. MSG_SEND that is not legal, or in clear where it must be encrypted, is answered MALFORMED; a re-sent one that was delivered before is answered OK and delivered no more, and one that is still being received waits with it; with service off it is answered DISABLED; otherwise it joins its queue, and the first in its queue reads the queue's descriptor. Its sender is heard. MSG_DUP_EXPIRY removes the record of a sender silent for 1,000 picks, and no other. The model's choices in it: log entries 9, 27, 29, 36. (R21, R68, R69, R72, R75, R77, R80, R92, R94, R113, R141, R195.) -/
def Obligations.RequestsAndMessagesGoInOrder : Prop :=
  (∀ (s : State) (engine : Nat) (m : OutMsg), s.heldPart .ep = false → engine < 288 →
    exec (.requestSend { engine := engine, msg := some m }) s = .next (s.afterEp ((s.ep.issueMsg engine m).requestSend engine)) ∧
    ((m.data.length = 0 ∨ 256 < m.data.length) → exec (.requestSend { engine := engine, msg := some m }) s = exec (.requestSend { engine := engine }) s) ∧
    (0 < m.data.length → m.data.length ≤ 256 →
      ∃ r : SrcReq, (s.ep.issueMsg engine m).src.reqs = s.ep.src.reqs ++ [r] ∧ r.id = s.ep.src.nextId ∧ r.engine = engine ∧ r.op = opMsgSend ∧ r.dst = m.node % 256 ∧ r.vc = 7 ∧ r.st = .issued ∧
        r.data.take m.data.length = m.data ∧ bits r.woff 51 40 = m.domain % 4096 ∧ bits r.woff 39 28 = s.ep.domain % 4096 ∧ bits r.woff 27 20 = m.queue % 256 ∧ bits r.woff 19 12 = m.data.length - 1 ∧
        (s.ep.issueMsg engine m).rlc = s.ep.rlc ∧ (s.ep.issueMsg engine m).c = s.ep.c)) ∧
  (∀ (s : State) (engine : Nat), s.heldPart .ep = false → engine < 288 →
    (s.ep.nextToSend engine = none → exec (.requestSend { engine := engine }) s = .next (s.afterEp s.ep)) ∧
    (∀ r, s.ep.nextToSend engine = some r →
      let fence := s.ep.src.fences.any (fun f => f.engine == r.engine && decide (f.before ≤ r.id))
      let own := r.dst = s.ep.node ∧ r.message = false
      let plane := if r.message then s.ep.msgPlane (bits r.woff 51 40) r.dst 0 else s.ep.planeOf r.dst r.woff
      let sends := fun (k vc : Nat) (flow : Option Nat) =>
        ((s.ep.held r k vc = true ∨ s.ep.tagFree engine = false) → exec (.requestSend { engine := engine }) s = .next (s.afterEp s.ep)) ∧
        (s.ep.held r k vc = false → s.ep.tagFree engine = true →
          ∃ t : EpState, exec (.requestSend { engine := engine }) s = .next (s.afterEp t) ∧
            (r.message = false → Tab.get t.src.seqs 0 r.dst = (Tab.get s.ep.src.seqs 0 r.dst + 1) % 4096 ∧ (∀ d, d ≠ r.dst → Tab.get t.src.seqs 0 d = Tab.get s.ep.src.seqs 0 d) ∧ t.src.msgSeqs = s.ep.src.msgSeqs) ∧
            (r.message = true → Tab.get t.src.msgSeqs 0 (bits r.woff 51 40 * 256 + r.dst) = (r.seqOf s.ep.src + 1) % 4096 ∧ t.src.seqs = s.ep.src.seqs) ∧
            t.src.reqs.length = s.ep.src.reqs.length ∧ t.rlc = s.ep.rlc ∧
            ∀ x, x ∈ t.src.reqs → x.id = r.id → x.st = (match flow with | some f => .accepting f | none => .sent) ∧ x.plane = k ∧ x.vc = vc ∧ x.seq = r.seqOf s.ep.src ∧ x.lastIssue = s.ep.c.pick)
      (fence = true → exec (.requestSend { engine := engine }) s = .next (s.afterEp s.ep)) ∧
      (fence = false → s.ep.src.fencedEpoch.isSome = true → exec (.requestSend { engine := engine }) s = .next (s.afterEp (s.ep.complete r stFenced none))) ∧
      (fence = false → s.ep.src.fencedEpoch = none →
        (own → sends selfPlane 1 none) ∧
        (¬own → plane = none → exec (.requestSend { engine := engine }) s = .next (s.afterEp (s.ep.complete r stAbsent none))) ∧
        (∀ k, ¬own → plane = some k → r.message = true → sends k 7 none) ∧
        (∀ k, ¬own → plane = some k → r.message = false → sends k (if (s.ep.flowFor r k).isSome then 3 else 1) (s.ep.flowFor r k))))) ∧
  (∀ (s : State) (k : Nat) (p q : Packet), s.heldPart .ep = false → k < 8 →
    let e := s.ep.takeIn k p
    (p.op ≠ opMsgSend → exec (.msgSend k p) s = .next (s.afterEp s.ep)) ∧
    (p.op = opMsgSend → s.ep.portOpen k p.vc = false → exec (.msgSend k p) s = .next (s.afterEp s.ep)) ∧
    (p.op = opMsgSend → s.ep.portOpen k p.vc = true → p.crcOk = false → exec (.msgSend k p) s = .next (s.afterEp (e.crcDrop k))) ∧
    (p.op = opMsgSend → s.ep.portOpen k p.vc = true → p.crcOk = true → e.opened k p = none → exec (.msgSend k p) s = .next (s.afterEp (e.authDrop k))) ∧
    (p.op = opMsgSend → s.ep.brings k p q = true →
      let clear := e.confidential = true ∧ q.flags.encrypted = false ∧ q.msgSrcDomain = e.domain
      let good := ¬clear ∧ msgLegal e.node q = true
      let known := Tab.find e.home.senders (msgSender q)
      let seen := q.flags.replay && (match known with | some r => r.seqs.contains q.seq | none => false)
      let twin := fun (j : RqJob) => msgSender j.pkt == msgSender q && j.pkt.seq == q.seq
      let h := e.hearSender (msgSender q)
      (clear → exec (.msgSend k p) s = .next (s.afterEp ((e.mod (fun c => c.bump 0xF0010)).msgReply k q stMalformed))) ∧
      (¬clear → msgLegal e.node q = false → exec (.msgSend k p) s = .next (s.afterEp (e.msgReply k q stMalformed))) ∧
      (good → seen = true → exec (.msgSend k p) s = .next (s.afterEp (h.msgReply k q stOk))) ∧
      (good → seen = false → q.flags.replay = true → (e.rxq q.msgQueue).jobs.any twin = true →
        exec (.msgSend k p) s = .next (s.afterEp (h.modRxq q.msgQueue (fun x => { x with jobs := x.jobs.map (fun j => if msgSender j.pkt = msgSender q ∧ j.pkt.seq = q.seq then { j with copies := j.copies ++ [(k, q)] } else j) })))) ∧
      (good → seen = false → (q.flags.replay = false ∨ (e.rxq q.msgQueue).jobs.any twin = false) →
        (e.serving = false → exec (.msgSend k p) s = .next (s.afterEp (h.msgReply k q stDisabled))) ∧
        (e.serving = true →
          ∃ t : EpState, exec (.msgSend k p) s = .next (s.afterEp t) ∧ t.c = e.c ∧ t.home.senders = h.home.senders ∧
            (t.rxq q.msgQueue).jobs = (e.rxq q.msgQueue).jobs ++ [{ pkt := q, plane := k, arrival := e.c.pick, replayed := q.flags.replay && known.isNone }] ∧
            t.lha.ereqs = e.lha.ereqs ++ (if (e.rxq q.msgQueue).jobs = [] then [{ id := e.lha.nextEreq, purp := .rqDesc q.msgQueue, mop := 0x21, addr := e.rqDescA q.msgQueue % 2 ^ 64, len := 4, data := [] }] else []))))) ∧
  (∀ (s : State) (k : Nat), s.heldPart .ep = false →
    (Tab.find s.ep.home.senders k = none → exec (.msgDupExpiry k) s = .next (s.afterEp s.ep)) ∧
    (∀ r, Tab.find s.ep.home.senders k = some r →
      (s.ep.c.pick < r.last + 1000 → exec (.msgDupExpiry k) s = .next (s.afterEp s.ep)) ∧
      (r.last + 1000 ≤ s.ep.c.pick → exec (.msgDupExpiry k) s = .next (s.afterEp (s.ep.modHome (fun h => { h with senders := Tab.del h.senders k }))))))

/-- The issue of a store leaves no line that it overlaps in the remote-line cache. In an end-point that works: RLC_INVAL drops every line, the lines of a node or of a pair by the one bit set, every line where more than one is, and nothing with none; a write of an advice register or of a key drops the lines of its pairs or pair, and a disable every line. Each such event keeps every other line, refuses the fills of the outstanding reads that it covers, and is counted once. CTR_SUB subtracts modulo 2^64 from its counter and leaves the others. FENCE_COMPLETE with no fence of the engine ready does nothing; with one it ends that fence and tells its count of errors, which no later fence of the engine reports again. The model's choices in it: log entry 32. (R112, R115, R117, R159, R162, R164, R167, R191, Table 4.4, Table 4.7.) -/
def Obligations.CachedLinesNeverOutliveTheirEvents : Prop :=
  (∀ (e : EpState) (r : SrcReq) (l : Nat), isStore r.op = true → l ∈ r.lines → Tab.find (e.issue r).rlc (rlcKey r.pair l) = none) ∧
  (∀ (e : EpState) (pairs : Nat → Bool),
    let t := e.rlcDrop pairs
    (∀ x, x ∈ t.rlc ↔ x ∈ e.rlc ∧ pairs (x.1 / 2 ^ 42) = false) ∧ t.c = e.c.bump 0x42010 ∧
    t.src.reqs = e.src.reqs.map (fun r => if r.op = 1 ∧ r.mayFill = true ∧ pairs r.pair = true then { r with fillLost := true } else r)) ∧
  (∀ (s : State) (v : Nat), s.heldPart .ep = false →
    (bit v 0 = false → bit v 1 = false → bit v 2 = false → exec (.rlcInval v) s = .next (s.afterEp s.ep)) ∧
    ((bit v 0 = true ∨ (bit v 1 = true ∧ bit v 2 = true)) → exec (.rlcInval v) s = .next (s.afterEp (s.ep.rlcDrop (fun _ => true)))) ∧
    (bit v 0 = false → bit v 1 = true → bit v 2 = false → exec (.rlcInval v) s = .next (s.afterEp (s.ep.rlcDrop (fun p => p / 16 == bits v 11 4)))) ∧
    (bit v 0 = false → bit v 1 = false → bit v 2 = true → exec (.rlcInval v) s = .next (s.afterEp (s.ep.rlcDrop (fun p => p == bits v 11 4 * 16 + bits v 15 12)))) ∧
    (∀ n, n < 128 → ∃ d : Common, exec (.rlcAdviceWrite n v) s = .next (s.afterEp (({ s.ep with c := d } : EpState).rlcDrop (fun p => p / 32 == n))) ∧
      d = s.ep.c.wr (0x42100 + 4 * n) (BitVec.ofNat 32 v)) ∧
    (∀ a, 0x34000 ≤ a → a < 0x38000 → a % 4 = 0 →
      exec (.keyTableWrite a v) s = .next (s.afterEp ((s.ep.mod (fun c => c.wr a (BitVec.ofNat 32 v))).rlcDrop (fun p => p == (a - 0x34000) / 4)))) ∧
    (∃ d : Common, exec .rlcDisable s = .next (s.afterEp (({ s.ep with c := d } : EpState).rlcDrop (fun _ => true))) ∧ flag (d.rd 0x42000) 0 = false)) ∧
  (∀ (s : State) (i v : Nat), s.heldPart .ep = false → i < 65536 →
    ∃ t : EpState, exec (.ctrSub i v) s = .next (s.afterEp t) ∧ t.counter i = (s.ep.counter i + 2 ^ 64 - v % 2 ^ 32) % 2 ^ 64 ∧
      ∀ j, j < 65536 → j ≠ i → t.counter j = s.ep.counter j) ∧
  (∀ (s : State) (engine : Nat), s.heldPart .ep = false → engine < 288 →
    let f? := s.ep.src.fences.find? (fun f => f.engine == engine && s.ep.fenceReady f)
    (f? = none → exec (.fenceComplete engine) s = .next (s.afterEp s.ep)) ∧
    (∀ f, f? = some f → (s.ep.endFence f).fenceErrors f = 0 ∧
      (∀ id, f.areq = some id → exec (.fenceComplete engine) s = .next (s.afterEp ((s.ep.endFence f).endAreq id stOk (s.ep.fenceErrors f) []))) ∧
      (f.areq = none → exec (.fenceComplete engine) s =
        .next (s.afterEp ((s.ep.endFence f).modJob engine f.idx (fun j => { j with errors := s.ep.fenceErrors f, left := 0 }))))))

/-! ### The host attachment (spec/06) -/

/-- In an end-point that works, an AREQ message of its own opcode gives its credits back, and: refused by its context it is answered ADDRESS_FAULT with a detail whose bits 2, 1 and 3 each tell one reason; otherwise LD, ST, ST_MASKED, AT and FENCE join the accesses in progress behind the earlier ones, KERNEL_START drops every line of the remote-line cache and is answered OK, REG_RD is answered with the register's value, and REG_WR writes its register, unless the page is management-only: then it writes nothing and is answered ADDRESS_FAULT 8. An answer that matches no access changes no access; a read's data of the wrong length is malformed; any other that matches takes its access out. A message that is malformed or not of the command's own kind goes as LHA_MALFORMED_MESSAGE takes it: a malformed AREQ gives its credits back, is counted and is answered MALFORMED with the place of its first bad field; any other malformed message is counted and dropped, an ARSP's credits going back; one that is well formed is left alone. The model's choices in it: log entry 24. (R112, R233, R236, R237, R239, R240, R241, R242, R243, R643, R720.) -/
def Obligations.DirectAccessesAreTakenOrRefused : Prop :=
  (∀ (e : EpState) (m : LhaMsg),
    let r := e.c.rd (0x81000 + 4 * m.ctx)
    bit (e.areqRefusal m) 2 = (!flag r 0 || fld r 9 4 != m.asid) ∧ bit (e.areqRefusal m) 1 = (e.effective m.ctx != some m.module) ∧
      bit (e.areqRefusal m) 3 = ((m.mop == 7 || m.mop == 8) && !flag r 1) ∧ e.areqRefusal m < 16 ∧ e.areqRefusal m % 2 = 0) ∧
  (∀ (s : State) (m : LhaMsg) (i : Instr) (own : Nat), s.heldPart .ep = false → m.module < 4 →
    (i = .ld m ∧ own = 1 ∨ i = .st m ∧ own = 2 ∨ i = .stMasked m ∧ own = 3 ∨ i = .lhaAt m ∧ own = 4 ∨ i = .lhaFence m ∧ own = 5 ∨
      i = .kernelStart m ∧ own = 6 ∨ i = .regRd m ∧ own = 7 ∨ i = .regWr m ∧ own = 8) →
    let e := s.ep.owe m
    ((areqBad m ≠ none ∨ m.mop ≠ own) → exec i s = exec (.lhaMalformedMessage m) s) ∧
    (areqBad m = none → m.mop = own → e.areqRefusal m ≠ 0 → exec i s = .next (s.afterEp (e.ersp m stAddress (e.areqRefusal m) []))) ∧
    (areqBad m = none → m.mop = own → e.areqRefusal m = 0 →
      (own ≤ 5 → ∃ t : EpState, exec i s = .next (s.afterEp t) ∧ t.lha.areqs = s.ep.lha.areqs ++ [{ id := s.ep.lha.nextAreq, msg := m }] ∧ t.c = s.ep.c ∧ t.src = s.ep.src ∧
        t.home = s.ep.home ∧ t.rlc = s.ep.rlc ∧ t.lha.ersp = s.ep.lha.ersp ∧ t.lha.ereqs = s.ep.lha.ereqs) ∧
      (own = 6 → exec i s = .next (s.afterEp ((e.rlcDrop (fun _ => true)).ersp m stOk 0 []))) ∧
      (own = 7 → exec i s = .next (s.afterEp ((e.read (.lha m.ctx) m.addr).2.ersp m stOk 0 (beBytes (e.read (.lha m.ctx) m.addr).1.toNat 16)))) ∧
      (own = 8 → managedPage (m.addr / 0x1000) = true → exec i s = .next (s.afterEp (e.ersp m stAddress 8 []))) ∧
      (own = 8 → managedPage (m.addr / 0x1000) = false → exec i s = .next (s.afterEp ((e.lhaWrite m.addr (cellOf m.data 0)).ersp m stOk 0 []))))) ∧
  (∀ (s : State) (m : LhaMsg) (i : Instr) (own : Nat), s.heldPart .ep = false → m.module < 4 → (i = .mrdRsp m ∧ own = 0x31 ∨ i = .mwrAck m ∧ own = 0x32 ∨ i = .matRsp m ∧ own = 0x33) →
    let e := s.ep.owe m
    let hit := e.lha.ereqs.find? (fun x => x.sent && x.module == m.module && x.tag == m.tag && arspOf x.mop == m.mop)
    ((lhaOther m = false ∨ m.mop ≠ own) → exec i s = exec (.lhaMalformedMessage m) s) ∧
    (lhaOther m = true → m.mop = own →
      (hit = none → exec i s = .next (s.afterEp e)) ∧
      (∀ x, hit = some x →
        (m.mop = 0x31 → m.addr / 2 ^ 48 = 0 → m.len ≠ x.len → exec i s = .next (s.afterEp (e.malformed m 0))) ∧
        ((m.mop ≠ 0x31 ∨ m.addr / 2 ^ 48 ≠ 0 ∨ m.len = x.len) →
          exec i s = .next (s.afterEp ((e.modLha (fun l => { l with ereqs := l.ereqs.filter (fun y => y.id != x.id) })).ereqAnswered x (m.addr / 2 ^ 48) m.data)))))) ∧
  (∀ (s : State) (m : LhaMsg), s.heldPart .ep = false → m.module < 4 →
    let note := fun (e : EpState) => e.mod (fun c => (c.bump 0x80014).event 0x80008 (0x05 * 256 + m.module))
    (∀ k, m.chan = 0 → areqBad m = some k → exec (.lhaMalformedMessage m) s = .next (s.afterEp ((note (s.ep.owe m)).ersp m stMalformed k []))) ∧
    (m.chan ≠ 0 → lhaOther m = false → exec (.lhaMalformedMessage m) s = .next (s.afterEp (note (if m.chan = 1 then s.ep.owe m else s.ep)))) ∧
    ((m.chan = 0 ∧ areqBad m = none ∨ m.chan ≠ 0 ∧ lhaOther m = true) → exec (.lhaMalformedMessage m) s = .next (s.afterEp s.ep)))

/-- In an end-point that works: a trained module that is enabled and not attached is offered, and offered again 1,000 picks later and not sooner; a legal ACCEPT that is awaited attaches with version 1 a module new to the end-point with the credits that it grants, lets a lost one rejoin after a pause of 100 picks, and with version 0 leaves it unattached with an event; one not awaited does nothing, one whose cell breaks Table 6.10 is malformed. CREDIT adds to the three channels of its module. The loss of a module's link counts as lasting; that of an attached module with nothing outstanding takes exactly that module out and begins a pause of 100 picks, the last one's loss beginning a quiesce; an access unanswered for 200 picks loses its module, and a younger one does nothing. The pause ends at its pick, when the modules that rejoin are attached. QUIESCE from an attached module begins the quiesce, which completes, with QUIESCE_DONE on every attached module where one is owed, once nothing is outstanding, and a pitch change that waited then scrubs. NOTICE_SEND spends one credit for a notice and goes on with the next, and sends none without. SERVE written 1 leaves QUIESCED 0. A message of another kind goes as LHA_MALFORMED_MESSAGE takes it. The model's choices in it: log entries 8, 28. (R231, R236, R237, R250, R251, R252, R253, R255, R256, R258, R633, Table 6.10.) -/
def Obligations.ModulesAttachAndAreLost : Prop :=
  (∀ (s : State) (m : Nat) (fast : Bool), s.heldPart .ep = false → m < 4 →
    let l := s.ep.lha
    let may := flag (s.ep.c.rd 0x80000) (4 + m) = true
    let old := l.ereqs.any (fun e => e.sent && e.module == m && decide (e.sentPick + 200 ≤ s.ep.c.pick))
    (∃ t : EpState, exec (.moduleTrained m fast) s = .next (s.afterEp t) ∧ t.lha.trained.contains m = true ∧ t.lha.fast.contains m = fast ∧ t.lha.attached = l.attached ∧ t.c = s.ep.c ∧
      ((¬may ∨ l.attached.contains m = true) → t.lha.out = l.out) ∧
      (may → l.attached.contains m = false →
        Tab.find t.lha.offered m = some s.ep.c.pick ∧ ∃ o : LhaMsg, t.lha.out = l.out ++ [o] ∧ o.module = m ∧ o.chan = 7 ∧ o.mop = 0x72 ∧ o.len = 1)) ∧
    (Tab.find l.offered m = none → exec (.offerRetry m) s = .next (s.afterEp s.ep)) ∧
    (∀ at_, Tab.find l.offered m = some at_ →
      let due := may ∧ l.trained.contains m = true ∧ l.attached.contains m = false ∧ l.joining.contains m = false ∧ at_ + 1000 ≤ s.ep.c.pick
      (¬due → exec (.offerRetry m) s = .next (s.afterEp s.ep)) ∧ (due → exec (.offerRetry m) s = .next (s.afterEp (s.ep.sendOffer m)))) ∧
    (old = false → exec (.ereqTimeout m) s = .next (s.afterEp s.ep)) ∧ (old = true → exec (.ereqTimeout m) s = .next (s.afterEp (s.ep.loseModule m 2))) ∧
    (∃ t : EpState, exec (.moduleLinkLost m) s = .next (s.afterEp t) ∧ t = s.ep.loseModule m 1 ∧
      (l.attached.contains m = false → t.c = s.ep.c.bumpHi 0x80010 ∧ t.lha.attached = l.attached ∧ t.lha.trained = l.trained.filter (· != m) ∧ t.lha.ereqs = l.ereqs ∧ t.lha.pauseEnd = l.pauseEnd) ∧
      (l.attached.contains m = true → (∀ e, e ∈ l.ereqs → e.sent = true → e.module ≠ m) →
        t.lha.attached = l.attached.filter (· != m) ∧ t.lha.trained = l.trained.filter (· != m) ∧ t.lha.pauseEnd = some (s.ep.c.pick + 100) ∧ t.lha.lost.contains m = true ∧ t.lha.draining = l.draining ++ [m] ∧
        ((∃ k, k ∈ l.attached ∧ k ≠ m) → t.lha.ereqs = l.ereqs ∧ t.home = s.ep.home ∧ t.src = s.ep.src ∧ t.lha.quiescing = l.quiescing ∧ t.c.rd 0x80010 = (s.ep.c.bumpHi 0x80010).rd 0x80010) ∧
        ((∀ k, k ∈ l.attached → k = m) → t.lha.quiescing = true ∧ t.lha.owesDone = false)))) ∧
  (∀ (s : State) (m : LhaMsg), s.heldPart .ep = false → m.module < 4 →
    let c := cellOf m.data 0
    let l := s.ep.lha
    let good := lhaOther m = true ∧ m.mop = 0x73
    let cell := bits c 123 122 = m.module ∧ bits c 121 96 = 0
    let awaited := flag (s.ep.c.rd 0x80000) (4 + m.module) = true ∧ (Tab.find l.offered m.module).isSome = true ∧ l.trained.contains m.module = true ∧ l.attached.contains m.module = false ∧ l.joining.contains m.module = false
    (¬good → exec (.accept m) s = exec (.lhaMalformedMessage m) s) ∧
    (good → ¬cell → exec (.accept m) s = .next (s.afterEp (s.ep.malformed m 0))) ∧
    (good → cell → ¬awaited → exec (.accept m) s = .next (s.afterEp s.ep)) ∧
    (good → cell → awaited →
      (bits c 127 124 = 0 →
        ∃ t : EpState, exec (.accept m) s = .next (s.afterEp t) ∧ t.lha = { l with offered := Tab.del l.offered m.module } ∧ t.c = s.ep.c.event 0x80008 (3 * 256 + m.module)) ∧
      (bits c 127 124 ≠ 0 →
        ∃ t : EpState, exec (.accept m) s = .next (s.afterEp t) ∧ t.lha.version = 1 ∧ t.lha.offered = Tab.del l.offered m.module ∧
          t.lha.credit (3 * m.module) = { hdr := bits c 95 80, cells := bits c 79 64 } ∧ t.lha.credit (3 * m.module + 1) = { hdr := bits c 63 48, cells := bits c 47 32 } ∧
          t.lha.credit (3 * m.module + 2) = { hdr := bits c 31 16, cells := bits c 15 0 } ∧
          (l.lost.contains m.module = false → t.lha.attached.contains m.module = true ∧ (∀ k, k < 4 → l.attached.contains k = true → t.lha.attached.contains k = true)) ∧
          (l.lost.contains m.module = true → t.lha.attached = l.attached ∧ t.lha.joining = l.joining ++ [m.module] ∧ t.lha.pauseEnd = some (s.ep.c.pick + 100)))) ∧
    (¬(lhaOther m = true ∧ m.mop = 0x71) → exec (.credit m) s = exec (.lhaMalformedMessage m) s) ∧
    (lhaOther m = true → m.mop = 0x71 →
      ∃ t : EpState, exec (.credit m) s = .next (s.afterEp t) ∧ t.c = s.ep.c ∧ t.lha.attached = l.attached ∧
        t.lha.credit (3 * m.module) = { hdr := (l.credit (3 * m.module)).hdr + bits m.addr 59 52, cells := (l.credit (3 * m.module)).cells + bits m.addr 51 40 } ∧
        t.lha.credit (3 * m.module + 1) = { hdr := (l.credit (3 * m.module + 1)).hdr + bits m.addr 39 32, cells := (l.credit (3 * m.module + 1)).cells + bits m.addr 31 20 } ∧
        t.lha.credit (3 * m.module + 2) = { hdr := (l.credit (3 * m.module + 2)).hdr + bits m.addr 19 12, cells := (l.credit (3 * m.module + 2)).cells + bits m.addr 11 0 }) ∧
    (¬(lhaOther m = true ∧ m.mop = 0x74) → exec (.quiesce m) s = exec (.lhaMalformedMessage m) s) ∧
    (lhaOther m = true → m.mop = 0x74 → (l.attached.contains m.module = false → exec (.quiesce m) s = .next (s.afterEp s.ep)) ∧
      (l.attached.contains m.module = true →
        ∃ t : EpState, exec (.quiesce m) s = .next (s.afterEp t) ∧ t.lha.quiescing = true ∧ t.lha.owesDone = true ∧ t = s.ep.beginQuiesce true))) ∧
  (∀ (s : State), s.heldPart .ep = false →
    let l := s.ep.lha
    let idle := l.ereqs = [] ∧ l.areqs = [] ∧ (l.ersp = [] ∨ l.attached = [])
    (¬(l.quiescing = true ∧ idle) → exec .quiesceComplete s = .next (s.afterEp s.ep)) ∧
    (l.quiescing = true → idle →
      ∃ t : EpState, exec .quiesceComplete s = .next (s.afterEp t) ∧ t.lha.quiescing = false ∧ t.lha.quiesced = (l.quiesced || l.owesDone || s.ep.c.sec.scrubTo.isNone) ∧
        t.c = (if s.ep.c.sec.scrubTo.isSome = true then { s.ep.c with sec := { s.ep.c.sec with scrubOn := true } } else s.ep.c) ∧
        t.lha.out = l.out ++ (if l.owesDone = true then l.attached.map (fun m => ({ module := m, chan := 7, mop := 0x75 } : LhaMsg)) else [])) ∧
    (l.pauseEnd = none → exec .ereqPauseEnd s = .next (s.afterEp s.ep)) ∧
    (∀ p, l.pauseEnd = some p →
      (s.ep.c.pick < p → exec .ereqPauseEnd s = .next (s.afterEp s.ep)) ∧
      (p ≤ s.ep.c.pick →
        ∃ t : EpState, exec .ereqPauseEnd s = .next (s.afterEp t) ∧ t.lha.pauseEnd = none ∧ t.lha.joining = [] ∧ t.c = s.ep.c ∧ (l.joining = [] → t.lha = { l with pauseEnd := none }) ∧
          ∀ k, k < 4 → t.lha.attached.contains k = (l.attached.contains k || l.joining.contains k))) ∧
    ((l.attached = [] ∨ l.notes = []) → exec .noticeSend s = .next (s.afterEp s.ep)) ∧
    (∀ m ms n ns, l.attached = m :: ms → l.notes = n :: ns →
      (((l.credit (3 * m + 2)).hdr = 0 ∨ (l.credit (3 * m + 2)).cells = 0) → exec .noticeSend s = .next (s.afterEp s.ep)) ∧
      ((l.credit (3 * m + 2)).hdr ≠ 0 → (l.credit (3 * m + 2)).cells ≠ 0 →
        ∃ e : EpState, exec .noticeSend s = .next (s.afterEp (e.pumpNotes ns)) ∧ e.lha.notes = ns ∧ e.c = s.ep.c ∧
          e.lha.credit (3 * m + 2) = { hdr := (l.credit (3 * m + 2)).hdr - 1, cells := (l.credit (3 * m + 2)).cells - 1 } ∧
          e.lha.out = l.out ++ [{ module := m, chan := 4, mop := 0x41, len := 1, data := n.cell (s.ep.c.rf' (0x84000 + 4 * n.source) 15 8) }])) ∧
    (∃ t : EpState, exec .serveWrite s = .next (s.afterEp t) ∧ t.lha = { l with quiesced := false } ∧ flag (t.c.rd 0x80000) 0 = true))

/-! ### Copy engines and translation (spec/05) -/

/-- In an end-point that works, for one engine, the others keeping their state: EN written 1 is kept and makes a DISABLED engine IDLE and leaves any other; EN written 0 is kept, disables an IDLE one and makes a RUNNING, FAULTED or ABORTING one ABORTING toward DISABLED; ABORT makes a RUNNING or FAULTED one ABORTING and leaves any other; RESUME makes a FAULTED one RUNNING and leaves any other. An engine that enters ABORTING loses its unsent requests, its fences and its pieces, and each unfinished descriptor has issued all it will and is ABORTED unless it has a code. A doorbell of a DISABLED engine does nothing; one too far ahead of the consumer count is recorded as RING_OVERRUN and ignored; another sets the producer and starts an IDLE engine that it gives work. CE_COMPLETION with nothing finished at the front does nothing; a descriptor that would complete OK but whose slot is no longer open to its engine is stopped with code 7; then one that owes no record leaves, and another leaves with one record where the ring has room. A measured descriptor extends its slot by the hash of its bytes where it completes OK and breaks it otherwise, and a frozen slot stays. A measurement slot opens empty, bound to its engine and pitch, and closes keeping its digest. The model's choices in it: log entries 33, 78. (R185, R192, R193, R223, R224, R225, Table 5.5.) -/
def Obligations.EngineStatesFollowTheirTable : Prop :=
  (∀ (s : State) (n : Nat), s.heldPart .ep = false → n < 32 →
    let g := s.ep.ce n
    let en := fun (v : Nat) => s.ep.c.wrF (ceA n 0) 0 0 v
    (∃ t : EpState, exec (.ceEnable n) s = .next (s.afterEp t) ∧ t.ce n = { g with st := if g.st = .disabled then .idle else g.st } ∧ (∀ m, m ≠ n → t.ce m = s.ep.ce m) ∧ t.src = s.ep.src ∧ t.c = en 1) ∧
    (∃ t : EpState, exec (.ceResume n) s = .next (s.afterEp t) ∧ t.ce n = { g with st := if g.st = .faulted then .running else g.st } ∧ (∀ m, m ≠ n → t.ce m = s.ep.ce m) ∧ t.src = s.ep.src ∧ t.c = s.ep.c) ∧
    (g.st = .disabled → exec (.ceDisable n) s = .next (s.afterEp { s.ep with c := en 0 })) ∧
    (g.st = .idle → ∃ t : EpState, exec (.ceDisable n) s = .next (s.afterEp t) ∧ t.ce n = { g with st := .disabled } ∧ (∀ m, m ≠ n → t.ce m = s.ep.ce m) ∧ t.src = s.ep.src ∧ t.c = en 0) ∧
    (g.st ≠ .running → g.st ≠ .faulted → exec (.ceAbort n) s = .next (s.afterEp s.ep)) ∧
    (∀ (i : Instr) (off : Bool), (i = .ceDisable n ∧ off = true ∧ (g.st = .running ∨ g.st = .faulted ∨ g.st = .aborting) ∨ i = .ceAbort n ∧ off = false ∧ (g.st = .running ∨ g.st = .faulted)) →
      ∃ t : EpState, exec i s = .next (s.afterEp t) ∧ (t.ce n).st = .aborting ∧ (t.ce n).toDisabled = off ∧ (t.ce n).prod = g.prod ∧ (t.ce n).cons = g.cons ∧
        (∀ k : Nat, (t.ce n).jobs[k]?.map (fun j => { j with left := 0 }) =
          g.jobs[k]?.map (fun j => if j.finished = true then { j with left := 0 } else { j with started := true, issuedAll := true, code := if j.code = 0 then 5 else j.code, left := 0 })) ∧
        ((∀ r, r ∈ s.ep.src.reqs → r.engine ≠ n ∨ r.st = .issued) → (∀ x, x ∈ s.ep.lha.ereqs → x.ofEngine n = false) → ∀ j, j ∈ (t.ce n).jobs → j.left = 0) ∧
        t.src = { s.ep.src with reqs := s.ep.src.reqs.filter (fun r => !(r.engine == n && r.st == .issued)), fences := s.ep.src.fences.filter (fun f => f.engine != n) } ∧
        t.pieces = s.ep.pieces.filter (fun p => p.engine != n) ∧ t.lha = s.ep.lha ∧ (∀ m, m ≠ n → t.ce m = s.ep.ce m) ∧ t.c = (if off = true then en 0 else s.ep.c))) ∧
  (∀ (s : State) (n v : Nat), s.heldPart .ep = false → n < 32 →
    let g := s.ep.ce n
    let ahead := (v + 2 ^ 32 - g.cons) % 2 ^ 32
    let had := (g.prod + 2 ^ 32 - g.cons) % 2 ^ 32
    let room := ringSlots (s.ep.c.rf' (ceA n 0) 20 16)
    (g.st = .disabled → exec (.ceDoorbell n v) s = .next (s.afterEp s.ep)) ∧
    (g.st ≠ .disabled → room < ahead → exec (.ceDoorbell n v) s = .next (s.afterEp { s.ep with c := s.ep.c.event (ceA n 0x2C) 0xFF00 })) ∧
    (g.st ≠ .disabled → ahead ≤ room →
      ∃ t : EpState, exec (.ceDoorbell n v) s = .next (s.afterEp t) ∧ t.ce n = { g with prod := v % 2 ^ 32, st := if g.st = .idle ∧ had < ahead then .running else g.st } ∧
        (∀ m, m ≠ n → t.ce m = s.ep.ce m) ∧ t.c = s.ep.c ∧ t.src = s.ep.src ∧ t.lha = s.ep.lha)) ∧
  (∀ (e : EpState) (n : Nat),
    ((e.ce n).jobs = [] → e.ceRefused n = e) ∧
    (∀ j rest, (e.ce n).jobs = j :: rest →
      (j.finished = true → j.final = 0 → e.slotOk n j = false → e.ceRefused n = e.ceStop n j.idx 7 0) ∧
      ((j.finished = false ∨ j.final ≠ 0 ∨ e.slotOk n j = true) → e.ceRefused n = e)) ∧
    (∀ j : CeJob,
      let m := j.f 3 1 % 16
      let slot := Tab.get e.meas {} m
      let d := sha384 (j.hash.flatMap (·.2))
      let t := e.measure j
      ((j.measured = false ∨ slot.frozen = true) → t = e) ∧
      (j.measured = true → slot.frozen = false → t = { e with meas := t.meas } ∧ (∀ k, k ≠ m → Tab.get t.meas {} k = Tab.get e.meas {} k) ∧
        (j.final ≠ 0 → Tab.get t.meas {} m = { slot with broken := true }) ∧
        (j.final = 0 → Tab.get t.meas {} m =
          { slot with digest := sha384 (slot.digest ++ d), count := slot.count + 1, bytes := slot.bytes + (if j.op = 1 ∨ j.op = 2 then j.rows * j.rowBytes else (j.hash.flatMap (·.2)).length) })))) ∧
  (∀ (s : State) (n : Nat), s.heldPart .ep = false → n < 32 →
    let e := s.ep.ceRefused n
    let g := e.ce n
    (g.jobs = [] → exec (.ceCompletion n) s = .next (s.afterEp e)) ∧
    (∀ j rest, g.jobs = j :: rest →
      (j.finished = false → exec (.ceCompletion n) s = .next (s.afterEp e)) ∧
      (j.finished = true → j.final = 0 → j.flag 0 = false → exec (.ceCompletion n) s = .next (s.afterEp ((e.measure j).modCe n (fun c => { c with jobs := rest })))) ∧
      (j.finished = true → (j.final ≠ 0 ∨ j.flag 0 = true) →
        let size := ringSlots (fld (e.c.rd (ceA n 0)) 28 24)
        let used := (g.cplProd + 2 ^ 32 - (e.c.rd (ceA n 0x24)).toNat) % 2 ^ 32
        let at_ := (e.c.rd (ceA n 0x14)).toNat * 2 ^ 32 + fld (e.c.rd (ceA n 0x10)) 31 12 * 4096 + g.cplProd % size * 32
        let line := lineWith (at_ % 64) (j.record (g.cplProd / size % 2))
        (size ≤ used → exec (.ceCompletion n) s = .next (s.afterEp e)) ∧
        (used < size → ∃ t : EpState, exec (.ceCompletion n) s = .next (s.afterEp t) ∧ t.ce n = { g with jobs := rest, cplProd := (g.cplProd + 1) % 2 ^ 32 } ∧ (∀ m, m ≠ n → t.ce m = e.ce m) ∧
          t.meas = (e.measure j).meas ∧ t.c = e.c ∧ t.src = e.src ∧
          ∃ x : Ereq, t.lha.ereqs = e.lha.ereqs ++ [x] ∧ x.mop = 0x23 ∧ x.addr = at_ / 64 * 64 % 2 ^ 64 ∧ x.data = line.1 ++ beBytes (line.2 % 2 ^ 64 * 2 ^ 64) 16)))) ∧
  (∀ (s : State) (slot v : Nat), s.heldPart .ep = false → slot < 16 →
    (∃ t : EpState, exec (.measSlotOpen slot v) s = .next (s.afterEp t) ∧ Tab.get t.meas {} slot = { opened := true, engine := bits v 12 8, pitch := s.ep.pitch } ∧
      (∀ m, m ≠ slot → Tab.get t.meas {} m = Tab.get s.ep.meas {} m) ∧ t = { s.ep with meas := t.meas }) ∧
    (∃ t : EpState, exec (.measSlotClose slot) s = .next (s.afterEp t) ∧ Tab.get t.meas {} slot = { Tab.get s.ep.meas {} slot with opened := false, frozen := true } ∧
      (∀ m, m ≠ slot → Tab.get t.meas {} m = Tab.get s.ep.meas {} m) ∧ t = { s.ep with meas := t.meas }))

/-- The units that a copy's destination is written in are whole lines, at most four, or part of one line; they begin at its offset, follow one another and together have its length. The reads of its source take at most four lines, cross no 4 KiB boundary and together cover it. In an end-point that works, for one engine: where no descriptor may start, or the next one has another operation, each of the six commands changes nothing; an invalid descriptor stops the engine with DESC_INVALID (a QCOPY where no unit is left as well), one whose measurement slot is refused with code 7; a QCOPY that waits for another's residual ranges changes nothing; any other COPY, QCOPY, ATOMIC or FLAG is started, names its streams to the prefetcher and issues as far as translations let; a FENCE waits with its scope behind every request issued before it; a NOP has issued all it will. A stopping code leaves a RUNNING engine FAULTED and any other where it is, the descriptor with that code and the event, with the fault's address, recorded. The model's choices in it: log entries 33, 79, 80. (R187, R188, R189, R190, R191, R193, R206, R219, R222, R223.) -/
def Obligations.DescriptorsIssueInOrder : Prop :=
  (∀ (dst off len : Nat),
    let us := unitsOf dst off len len
    ((us.map (·.2)).foldl (· + ·) 0 = len) ∧
    (∀ i u, us[i]? = some u → u.1 = off + ((us.take i).map (·.2)).foldl (· + ·) 0 ∧ 0 < u.2 ∧
      (((dst + u.1) % 64 = 0 ∧ u.2 % 64 = 0 ∧ u.2 ≤ 256) ∨ (dst + u.1) % 64 + u.2 ≤ 64))) ∧
  (∀ (base first n : Nat),
    let rs := readsOf base first n n
    ((rs.map (·.2)).foldl (· + ·) 0 = n) ∧
    (∀ i r, rs[i]? = some r → r.1 = first + ((rs.take i).map (·.2)).foldl (· + ·) 0 ∧ 1 ≤ r.2 ∧ r.2 ≤ 4 ∧ (base / 64 + r.1) % 64 + r.2 ≤ 64)) ∧
  (∀ (e : EpState) (n idx code va : Nat),
    let t := e.ceStop n idx code va
    t.ce n = { e.ce n with st := if (e.ce n).st = .running then .faulted else (e.ce n).st, jobs := (e.ce n).jobs.map (fun j => if j.idx = idx then { j with started := true, issuedAll := true, code := code, va := if code = 2 ∨ code = 3 then va else 0 } else j) } ∧
    (∀ m, m ≠ n → t.ce m = e.ce m) ∧ t.src = e.src ∧ t.lha.ereqs = e.lha.ereqs ∧ t.meas = e.meas ∧
    t.c = ((e.c.event (ceA n 0x2C) (code * 256)).wr (ceA n 0x30) (BitVec.ofNat 32 va)).wr (ceA n 0x34) (BitVec.ofNat 32 (va / 2 ^ 32))) ∧
  (∀ (s : State) (n : Nat) (i : Instr) (op : Nat) (fails : List (Nat × Bool)), s.heldPart .ep = false → n < 32 →
    (i = .copy n ∧ op = 1 ∨ i = .qcopy n fails ∧ op = 2 ∨ i = .ceAtomic n ∧ op = 3 ∨ i = .ceFlag n ∧ op = 4 ∨ i = .ceFence n ∧ op = 5 ∨ i = .nop n ∧ op = 6) →
    (s.ep.ceNext n = none → exec i s = .next (s.afterEp s.ep)) ∧
    (∀ j, s.ep.ceNext n = some j →
      let bad := if op = 2 then j.qInvalid || s.ep.quUnits.isEmpty else j.invalid
      let waits := op = 2 ∧ s.ep.qWaits n j = true ∧ j.qInvalid = false
      (j.op ≠ op → exec i s = .next (s.afterEp s.ep)) ∧
      (j.op = op → waits → exec i s = .next (s.afterEp s.ep)) ∧
      (j.op = op → ¬waits → bad = true → exec i s = .next (s.afterEp (s.ep.ceStop n j.idx 4 0))) ∧
      (j.op = op → ¬waits → bad = false → s.ep.slotOk n j = false → exec i s = .next (s.afterEp (s.ep.ceStop n j.idx 7 0))) ∧
      (j.op = op → ¬waits → bad = false → s.ep.slotOk n j = true →
        let t := s.ep.modJob n j.idx (fun j => { j with started := true })
        (op = 1 ∨ op = 3 → exec i s = .next (s.afterEp ((t.ceStreams n j).ceRun n))) ∧
        (op = 2 → exec i s = .next (s.afterEp (((t.modJob n j.idx (fun j => { j with fails := fails })).ceStreams n j).ceRun n))) ∧
        (op = 4 → exec i s = .next (s.afterEp ((t.prefetch (j.f 7 1 % 64) (s.ep.ceAsid n) (j.f 16 8)).ceRun n))) ∧
        (op = 5 → ∃ u : EpState, exec i s = .next (s.afterEp u) ∧ u.c = s.ep.c ∧ u.lha = s.ep.lha ∧ u.src.reqs = s.ep.src.reqs ∧ (∀ m, m ≠ n → u.ce m = s.ep.ce m) ∧
          u.src.fences = s.ep.src.fences ++ [{ engine := n, all := bits (j.f 2 1) 3 2 == 1, node := if bit (j.f 2 1) 4 = true then some (j.f 56 4 % 256) else none, before := s.ep.src.nextId, idx := j.idx }] ∧
          (u.ce n).jobs = (s.ep.ce n).jobs.map (fun k => if k.idx = j.idx then { k with started := true, issuedAll := true, left := 1 } else k)) ∧
        (op = 6 → ∃ u : EpState, exec i s = .next (s.afterEp u) ∧ u.c = s.ep.c ∧ u.lha = s.ep.lha ∧ u.src = s.ep.src ∧ (∀ m, m ≠ n → u.ce m = s.ep.ce m) ∧
          (u.ce n).jobs = (s.ep.ce n).jobs.map (fun k => if k.idx = j.idx then { k with started := true, issuedAll := true } else k)))))

/-- A block point leaves no translation of its range in any TLB or in the walk cache, drops the prefetch walks of the range, makes stale every other walk that may read a leaf of it, and an access to the range waits. In an end-point that works: XQ_DOORBELL with the ring off or too far ahead of the consumer count does nothing, and otherwise asks for each posted command once. INVALIDATE, MIGRATE and ADVISE change nothing unless the front command is theirs and may start; then INVALIDATE sets its block point, MIGRATE and the walking ADVISE begin at their first page (Evict drops the translations, Normal unpins), and Streaming records its range or ends with status 6 when 16 are held. A page at or beyond 2^48, or in a space with no root, has no leaf: a MIGRATE ends with status 2, an ADVISE counts the rest and ends OK. INVALIDATE_DRAINED, INVALIDATE_STUCK and MIGRATE_COPY_DONE of a command that is not in progress do nothing. The first does nothing before the range has drained; then an INVALIDATE sets its epoch and ends OK and a MIGRATE copies. The second does nothing before 64 picks, and then ends the command with status 1, the lowest unit and the first address in the way. The third before the copy is complete does nothing, and then rewrites each leaf once, or ends the command that has none. The model's choices in it: log entry 32. (R185, R204, R208, R209, R210, R211, R215, R217, Table 5.9, Table 5.12, Table 5.14.) -/
def Obligations.TranslationCommandsBlockDropAndEnd : Prop :=
  (∀ (e : EpState) (c : XqCmd),
    let t := e.blockCmd c
    (∀ l, l ∈ t.xlt.shared → l.asid = c.asid → overlap l.va l.bytes c.va c.length = false) ∧
    (∀ x l, x ∈ t.xlt.micro → l ∈ x.2 → l.asid = c.asid → overlap l.va l.bytes c.va c.length = false) ∧
    (∀ k, k ∈ t.xlt.tables → k.asid = c.asid → overlap k.va (levelBytes k.level) c.va c.length = false) ∧
    (∀ w, w ∈ t.xlt.walks → w.mayReach c.asid c.va c.length = true → w.stale = true) ∧
    (∀ w, w ∈ t.xlt.walks → w.kind = 1 → w.asid = c.asid → overlap (w.va / 65536 * 65536) 65536 c.va c.length = false) ∧
    (∀ d, d ∈ t.xlt.cmds → d.slot = c.slot → d.st = .draining ∧ d.blocking = true ∧ d.blockAt = e.c.pick ∧ d.beforeReq = e.src.nextId ∧ d.beforeEreq = e.lha.nextEreq ∧ d.beforePiece = e.nextPiece) ∧
    t.src = e.src ∧ t.c = e.c ∧ t.lha = e.lha) ∧
  (∀ (e : EpState) (unit asid va : Nat) (root : Nat), va < 2 ^ 48 → flag (e.c.rd 0x60000) 0 = true → e.root asid = some root → e.blockedRange asid va 1 = true → e.translate unit asid va = (.wait, e)) ∧
  (∀ (s : State) (v : Nat), s.heldPart .ep = false → v < 2 ^ 32 →
    let x := s.ep.xlt
    let ahead := (v + 2 ^ 32 - x.cons) % 2 ^ 32
    let had := (x.asked + 2 ^ 32 - x.cons) % 2 ^ 32
    let ctl := s.ep.c.rd 0x60028
    ((flag ctl 0 = false ∨ ringSlots (fld ctl 12 8) < ahead) → exec (.xqDoorbell v) s = .next (s.afterEp s.ep)) ∧
    (flag ctl 0 = true → ahead ≤ ringSlots (fld ctl 12 8) →
      ∃ t : EpState, exec (.xqDoorbell v) s = .next (s.afterEp t) ∧ t.xlt.prod = v ∧ t.xlt.cons = x.cons ∧ t.c = s.ep.c ∧ t.src = s.ep.src ∧
        t.xlt.cmds.length = x.cmds.length + (ahead - had) ∧ t.xlt.order = x.order ++ (List.range (ahead - had)).map (x.nextSlot + ·) ∧
        t.lha.ereqs.length = s.ep.lha.ereqs.length + (ahead - had))) ∧
  (∀ (s : State) (i : Instr) (cmd kind : Nat), s.heldPart .ep = false →
    (i = .invalidate ∧ cmd = 1 ∧ kind = 0 ∨ i = .migrate ∧ cmd = 2 ∧ kind = 0 ∨ i = .adviseResident ∧ cmd = 3 ∧ kind = 1 ∨ i = .adviseReadMostly ∧ cmd = 3 ∧ kind = 2 ∨
      i = .adviseStreaming ∧ cmd = 3 ∧ kind = 3 ∨ i = .adviseEvict ∧ cmd = 3 ∧ kind = 4 ∨ i = .adviseNormal ∧ cmd = 3 ∧ kind = 5) →
    (s.ep.xqFront = none → exec i s = .next (s.afterEp s.ep)) ∧
    (∀ c, s.ep.xqFront = some c →
      ((c.cmd ≠ cmd ∨ c.kind ≠ kind ∨ s.ep.xqMayStart c = false) → exec i s = .next (s.afterEp s.ep)) ∧
      (c.cmd = cmd → c.kind = kind → s.ep.xqMayStart c = true →
        let first := fun (e : EpState) => (e.modCmd c.slot (fun c => { c with st := .walking, cursor := c.va })).cmdNext c.slot
        let touch := fun (p : Nat × Nat × Nat) => p.1 == c.asid && overlap p.2.1 p.2.2 c.va c.length
        (cmd = 1 → exec i s = .next (s.afterEp (s.ep.blockCmd c))) ∧
        ((cmd = 2 ∨ cmd = 3 ∧ (kind = 1 ∨ kind = 2)) → exec i s = .next (s.afterEp (first s.ep))) ∧
        (cmd = 3 → kind = 4 → exec i s = .next (s.afterEp (first ((s.ep.dropRange c.asid c.va c.length).modXlt (fun x => { x with pins := x.pins.filter (fun p => !touch p) }))))) ∧
        (cmd = 3 → kind = 5 → exec i s = .next (s.afterEp (first (s.ep.modXlt (fun x => { x with pins := x.pins.filter (fun p => !touch p), streams := x.streams.filter (fun p => !(p.1 == c.asid && decide (c.va ≤ p.2.1) && decide (p.2.1 + p.2.2 ≤ c.va + c.length))) }))))) ∧
        (cmd = 3 → kind = 3 → 16 ≤ s.ep.xlt.streams.length → exec i s = .next (s.afterEp (s.ep.endCmd c 6 0 c.va))) ∧
        (cmd = 3 → kind = 3 → s.ep.xlt.streams.length < 16 →
          exec i s = .next (s.afterEp ((s.ep.modXlt (fun x => { x with streams := x.streams ++ [(c.asid, c.va, c.length)] })).endCmd c 0 0 0)))))) ∧
  (∀ (e : EpState) (c : XqCmd), e.xlt.cmds.find? (fun d => d.slot == c.slot) = some c → c.cursor < c.va + c.length → (2 ^ 48 ≤ c.cursor ∨ e.root c.asid = none) →
    (c.cmd = 2 → e.cmdNext c.slot = e.endCmd c 2 0 c.cursor) ∧
    (c.cmd ≠ 2 → e.cmdNext c.slot = e.endCmd { c with count := c.count + (c.va + c.length - c.cursor) / 65536 } 0 0 0)) ∧
  (∀ (s : State) (slot : Nat) (i : Instr), s.heldPart .ep = false → s.ep.xlt.cmds.find? (fun d => d.slot == slot) = none →
    (i = .invalidateDrained slot ∨ i = .invalidateStuck slot ∨ i = .migrateCopyDone slot) → exec i s = .next (s.afterEp s.ep)) ∧
  (∀ (s : State) (c : XqCmd), s.heldPart .ep = false → s.ep.xlt.cmds.find? (fun d => d.slot == c.slot) = some c →
    let us := s.ep.undrained c
    let unit := (us.map (·.1)).foldl min 33
    let place := (us.filterMap (fun u => u.2.map (fun p => max c.va p.2.1))).foldl min (c.va + c.length)
    let read := fun (e : EpState) => match c.leaves.find? (fun l => l.maps c.asid c.va) with | some l => (e.mrd (.moverRead c.slot 0) (l.at c.va) 16).through l.span 33 | none => e
    ((c.st ≠ .draining ∨ us ≠ []) → exec (.invalidateDrained c.slot) s = .next (s.afterEp s.ep)) ∧
    (c.st = .draining → us = [] → c.cmd = 1 → exec (.invalidateDrained c.slot) s = .next (s.afterEp ((s.ep.epochDone c).endCmd c 0 0 0))) ∧
    (c.st = .draining → us = [] → c.cmd ≠ 1 →
      (0 < c.length → exec (.invalidateDrained c.slot) s = .next (s.afterEp (read (s.ep.modCmd c.slot (fun _ => { c with st := .copying, cursor := c.va }))))) ∧
      (c.length = 0 → ∃ t : EpState, exec (.invalidateDrained c.slot) s = .next (s.afterEp t) ∧ t.lha = s.ep.lha ∧ t.c = s.ep.c ∧ ∀ d, d ∈ t.xlt.cmds → d.slot = c.slot → d.st = .copying ∧ d.cursor = c.va)) ∧
    ((c.st ≠ .draining ∨ s.ep.c.pick < c.blockAt + 64 ∨ us = []) → exec (.invalidateStuck c.slot) s = .next (s.afterEp s.ep)) ∧
    (c.st = .draining → c.blockAt + 64 ≤ s.ep.c.pick → us ≠ [] → exec (.invalidateStuck c.slot) s = .next (s.afterEp (s.ep.endCmd c 1 unit place))) ∧
    ((c.st ≠ .copying ∨ c.cursor < c.va + c.length) → exec (.migrateCopyDone c.slot) s = .next (s.afterEp s.ep)) ∧
    (c.st = .copying → c.va + c.length ≤ c.cursor →
      ∃ t : EpState, exec (.migrateCopyDone c.slot) s = .next (s.afterEp t) ∧ t.lha.ereqs.length = s.ep.lha.ereqs.length + c.leaves.length ∧ t.c = s.ep.c ∧ t.src = s.ep.src ∧
        (c.leaves = [] → ∀ d, d ∈ t.xlt.cmds → d.slot ≠ c.slot) ∧ (c.leaves ≠ [] → ∀ d, d ∈ t.xlt.cmds → d.slot = c.slot → d.st = .rewriting ∧ d.left = c.leaves.length)))

/-! ### Collectives (spec/09) -/

/-- The first abort cause of a collective stays. Equal digests that nothing refuses queue it; differing ones abort it with the number of odd members. It is complete only while running, with every member's RECEIVED. In a switch that works: a packet of another opcode is not the command's; one that fails the ingress checks or its CRC-64, or comes by a selvedge port, goes as PACKET_FORWARD takes it; one of a bad header, length or kind is only disposed of. An INTENT below the group's base, or of a committed sequence kept, is answered from what is kept; one of no member, beyond the window, or of a handle that does not fit is refused; any other is recorded in its collective, opened if it is the first, and the last one has the digests compared. A CONTRIB of no open collective or no member is counted, a duplicate is counted, one at or past the limit or the part aborts, one that does not decrypt, or is encrypted where its pitch has no active key, is counted, and a good one is staged and the unit that it completes is worked. An ABORT of a member gives the cause 0x11, to a new collective too; RECEIVED marks its member; QUERY of an open collective waits and of another is answered. INTENT_WAIT_EXPIRED aborts exactly the late gathering collectives of the handle with 0x14, COLL_STALL exactly its running ones with a silent member with 0x15. The model's choices in it: log entries 49, 50. (R67, R348, R356, R360, R362, R363, R368, R369, R370, R374, R375, R377.) -/
def Obligations.SwitchGathersDigestsAndStagesChunks : Prop :=
  (∀ (r : CollRec) (k : CollCause), (r.cause.isSome = true → r.abort k = r) ∧ (r.cause = none → r.abort k = { r with cause := some k })) ∧
  (∀ (w : SwState) (r : CollRec) (d : Nat × Nat), r.members ≠ [] → r.cause = none → (∀ m, m ∈ r.members → m.intent = some d) →
    (w.refused { r with decided := true, dig := d, fullPick := some w.c.pick } = false →
      w.compareDigests r = { r with decided := true, dig := d, fullPick := some w.c.pick, st := .queued }) ∧
    (w.refused { r with decided := true, dig := d, fullPick := some w.c.pick } = true → ((w.compareDigests r).cause.map (·.state)) = some 0x16)) ∧
  (∀ (w : SwState) (r : CollRec) (a b : CollMember), r.cause = none → a ∈ r.members → b ∈ r.members → a.intent.getD (0, 0) ≠ b.intent.getD (0, 0) →
    ∃ k : CollCause, (w.compareDigests r).cause = some k ∧ k.state = 0x10 ∧ 0 < k.count ∧ k.count = (r.members.filter (fun m => m.intent.getD (0, 0) != (w.compareDigests r).dig)).length) ∧
  (∀ (w : SwState) (r : CollRec) (rank : Nat) (d : Nat × Nat),
    let m := r.members.getD rank { node := 0 }
    let r1 : CollRec := { r.modMember rank (fun m => { m with intent := some d }) with firstPick := some (r.firstPick.getD w.c.pick) }
    ((r.st ≠ .gathering ∨ r.decided = true ∨ m.intent.isSome = true) → w.recordIntent r rank d = w) ∧
    (r.st = .gathering → r.decided = false → m.intent = none →
      ((∃ x, x ∈ r1.members ∧ x.intent = none) → w.recordIntent r rank d = w.modColl r.group r.seq (fun _ => r1)) ∧
      ((∀ x, x ∈ r1.members → x.intent.isSome = true) → w.recordIntent r rank d = w.modColl r.group r.seq (fun _ => w.compareDigests r1)))) ∧
  (∀ (w : SwState) (r : CollRec), w.complete r = true → r.st = .running ∧ ∀ m, m ∈ r.members → m.received = true) ∧
  (∀ (s : State) (n : Nat) (p : Packet) (i : Instr) (op : Nat), s.heldPart .sw = false → n < 288 →
    (i = .intent n p ∧ op = opIntent ∨ i = .contrib n p ∧ op = opContrib ∨ i = .abort n p ∧ op = opAbort ∨ i = .received n p ∧ op = opAbort ∨ i = .query n p ∧ op = opAbort) →
    (p.op ≠ op → exec i s = .next (s.afterSw s.sw)) ∧
    (p.op = op → (256 ≤ n ∨ s.sw.passes n p = false ∨ p.crcOk = false) → exec i s = exec (.packetForward n p) s) ∧
    (p.op = op → s.sw.passes n p = true → p.crcOk = true →
      ((badHeader p).isSome = true ∨ p.len ≠ (if op = opContrib then 0xF else 4) ∨ i = .abort n p ∧ bits (p.cell 0) 127 120 ≠ 1 ∨ i = .received n p ∧ bits (p.cell 0) 127 120 ≠ 2 ∨ i = .query n p ∧ bits (p.cell 0) 127 120 ≠ 3) →
      exec i s = .next (s.afterSw ((s.sw.mod (fun c => c.takeRx n p)).dispose n p)))) ∧
  (∀ (s : State) (n : Nat) (p : Packet), s.heldPart .sw = false → s.sw.passes n p = true → p.crcOk = true → (badHeader p).isSome = false →
    let w := (s.sw.mod (fun c => c.takeRx n p)).dispose n p
    let g := p.collGroup
    let h := p.collHandle
    let base := (w.grp g).base
    let rank := (w.c.groupNodes g).findIdx? (· == p.src)
    let kept := fun (seq : Nat) => belowBase base seq = true ∨ inWindow base seq = true ∧ ((w.grp g).record seq).isSome = true ∧ w.openColl g seq = none
    (p.op = opIntent → p.len = 4 →
      let seq := bits (p.cell 2) 127 96
      let d := (p.cell 0, p.cell 1)
      let fits := inWindow base seq = true ∧ w.c.handleFor h g = true ∧ ∀ r, w.openColl g seq = some r → r.handle = h
      (kept seq → exec (.intent n p) s = .next (s.afterSw (w.answerKept n p.src h g seq))) ∧
      (¬kept seq → (rank = none ∨ ¬fits) → exec (.intent n p) s = .next (s.afterSw (w.refuseIntent n p.src h g seq))) ∧
      (∀ k, ¬kept seq → rank = some k → fits →
        (∀ r, w.openColl g seq = some r → exec (.intent n p) s = .next (s.afterSw (w.recordIntent r k d))) ∧
        (w.openColl g seq = none → exec (.intent n p) s = .next (s.afterSw ((w.openNew (w.newColl h g seq)).recordIntent (w.newColl h g seq) k d)) ∧
          (w.newColl h g seq).st = .gathering ∧ (w.newColl h g seq).members.map (·.node) = w.c.groupNodes g ∧ (∀ m, m ∈ (w.newColl h g seq).members → m.intent = none)))) ∧
    (p.op = opAbort → p.len = 4 →
      let seq := bits (p.cell 0) 95 64
      let kind := bits (p.cell 0) 127 120
      let cause : CollCause := { state := 0x11, node := p.src, count := 1 }
      let member := (w.c.groupNodes g).contains p.src = true
      let bad := w.mod (fun c => c.bump 0x70001C)
      (kind = 1 →
        (∀ r, w.openColl g seq = some r →
          (member ∧ r.handle = h → exec (.abort n p) s = .next (s.afterSw (w.modColl g seq (fun r => { r.abort cause with firstPick := some (r.firstPick.getD w.c.pick) })))) ∧
          (¬(member ∧ r.handle = h) → exec (.abort n p) s = .next (s.afterSw bad))) ∧
        (w.openColl g seq = none →
          (kept seq → exec (.abort n p) s = .next (s.afterSw (w.answerKept n p.src h g seq))) ∧
          (¬kept seq → member → inWindow base seq = true → w.c.handleFor h g = true →
            exec (.abort n p) s = .next (s.afterSw (w.openNew { w.newColl h g seq with firstPick := some w.c.pick, cause := some cause }))) ∧
          (¬kept seq → ¬(member ∧ inWindow base seq = true ∧ w.c.handleFor h g = true) → exec (.abort n p) s = .next (s.afterSw bad)))) ∧
      (kind = 2 →
        (∀ r k, w.openColl g seq = some r → r.rank p.src = some k → r.st = .running → r.handle = h →
          exec (.received n p) s = .next (s.afterSw (w.modColl r.group seq (fun r => r.modMember k (fun m => { m with received := true, heard := true }))))) ∧
        ((∀ r, w.openColl g seq = some r → r.rank p.src = none ∨ r.st ≠ .running ∨ r.handle ≠ h) → exec (.received n p) s = .next (s.afterSw w))) ∧
      (kind = 3 → ((w.openColl g seq).isSome = true → exec (.query n p) s = .next (s.afterSw w)) ∧
        (w.openColl g seq = none → exec (.query n p) s = .next (s.afterSw (w.answerKept n p.src h g seq))))) ∧
    (p.op = opContrib → p.len = 0xF →
      ((∀ r, w.collOf p = some r → r.rank p.src = none) → exec (.contrib n p) s = .next (s.afterSw (w.mod (fun c => c.bump 0x700014)))) ∧
      (∀ r k, w.collOf p = some r → r.rank p.src = some k →
        let m := r.members.getD k { node := 0 }
        let idx := p.collChunk
        let dup := r.st = .running ∧ m.dup idx = true
        let past := r.st ≠ .running ∨ m.limit ≤ idx ∨ w.partOf r k ≤ idx
        let plain := if p.flags.encrypted = false then some p else if w.c.activeKey r.pitch = none then none else w.c.decrypt r.pitch w.c.plane false p
        (dup → exec (.contrib n p) s = .next (s.afterSw (w.mod (fun c => c.bump 0x700018)))) ∧
        (¬dup → past → exec (.contrib n p) s = .next (s.afterSw (w.groupFault r.group { state := 0x12, node := p.src, count := 1 }))) ∧
        (¬dup → ¬past → plain = none → exec (.contrib n p) s = .next (s.afterSw (w.mod (fun c => (c.authFailed r.pitch).bump (coreA n 0x314))))) ∧
        (∀ q, ¬dup → ¬past → plain = some q →
          let t := w.modColl r.group r.seq (fun r => r.modMember k (fun m => m.stage w.c.pick idx q.data))
          (t.openColl r.group r.seq = none → exec (.contrib n p) s = .next (s.afterSw t)) ∧
          (∀ r1, t.openColl r.group r.seq = some r1 →
            let u := r1.unitOf w.c.plane k idx
            let works := nativeOp r1.op = true ∧ w.c.pwr.paused = false ∧ r1.worked.contains u = false ∧ r1.unitReady w.c.plane u = true
            (works → exec (.contrib n p) s = .next (s.afterSw (t.workUnit r1 u))) ∧ (¬works → exec (.contrib n p) s = .next (s.afterSw t))))))) ∧
  (∀ (m : CollMember) (pick idx : Nat) (data : List Byte), Tab.get (m.stage pick idx data).staged [] idx = data ∧ idx < (m.stage pick idx data).top ∧ (m.stage pick idx data).dup idx = true) ∧
  (∀ (s : State) (handle : Nat), s.heldPart .sw = false → handle < 4096 →
    (∃ t : SwState, exec (.intentWaitExpired handle) s = .next (s.afterSw t) ∧ t = { s.sw with colls := t.colls } ∧ t.colls.length = s.sw.colls.length ∧
      ∀ (j : Nat) (r : CollRec), s.sw.colls[j]? = some r →
        let wait := fld (s.sw.c.handleB handle) 15 0 * 1024
        let late := r.handle = handle ∧ r.st = .gathering ∧ r.decided = false ∧ ∃ f, r.firstPick = some f ∧ f + wait ≤ s.sw.c.pick
        let miss := r.members.filter (fun m => m.intent.isNone)
        (wait ≠ 0 → late → t.colls[j]? = some (r.abort { state := 0x14, node := ((miss.head?).map (·.node)).getD 0, count := miss.length })) ∧
        ((wait = 0 ∨ ¬late) → t.colls[j]? = some r)) ∧
    (∃ t : SwState, exec (.collStall handle) s = .next (s.afterSw t) ∧ t = { s.sw with colls := t.colls } ∧ t.colls.length = s.sw.colls.length ∧
      ∀ (j : Nat) (r : CollRec), s.sw.colls[j]? = some r →
        let stall := fld (s.sw.c.handleB handle) 31 16
        let quiet := r.members.filter (fun m => decide (stall ≤ m.silent))
        let due := r.handle = handle ∧ r.st = .running ∧ 0 < stall ∧ quiet ≠ []
        (due → t.colls[j]? = some (r.abort { state := 0x15, node := ((quiet.head?).map (·.node)).getD 0, count := quiet.length })) ∧
        (¬due → t.colls[j]? = some r)))

/-- A member's state, where a plane of its mask is aborted, is the state of the aborted plane that committed first; a record whose state is an abort writes nothing further. In an end-point that works: a doorbell too far ahead of the consumer count is ignored, another sets the producer. COLL_DESCRIPTOR_START with no descriptor that may start does nothing; an invalid one becomes INVALID with nothing sent, in a fenced end-point one ends with 0x12, and any other has its ranges and its AUX address checked. A packet of another opcode is not the command's; a closed port brings none, and a wrong CRC-64 or a failed decryption is dropped as for every packet. One that fits no open record of the member changes nothing but its arrival, and is counted in EP_CAST_FILTERED where no record has its handle and group. ADMIT opens its plane with its limit, CREDIT moves the limit of an open plane; a RESULT of a plane whose state is not known is written, or counts as written where none of it is the member's; DONE and ABORT_NOTICE record state, commit pick and counts of a plane once, an ABORT_NOTICE aborting the planes that are not known; any other of them does nothing. RESEND asks for the named chunks already sent. COLL_WAIT_EXPIRED of a record that does not wait, or before its time, does nothing, and after it forms the state from what is known. The model's choices in it: log entry 54. (R185, R289, R355, R357, R358, R367, R387, R388, R391, R393, R395, Table 9.14.) -/
def Obligations.MembersFollowTheirPlanes : Prop :=
  (∀ (r : MemRec) (late : Bool) (st : Nat), r.form late = some st → (∃ k, k ∈ r.maskPlanes ∧ 0x10 ≤ (r.plane k).state) →
    ∃ k, k ∈ r.maskPlanes ∧ (r.plane k).state = st ∧ 0x10 ≤ st ∧ ∀ j, j ∈ r.maskPlanes → 0x10 ≤ (r.plane j).state → (r.plane k).commit ≤ (r.plane j).commit) ∧
  (∀ (r : MemRec) (st : Nat), (st < 0x10 → r.ends st = { r with outcome := some st }) ∧
    (0x10 ≤ st → (r.ends st).outcome = some st ∧ (r.ends st).resid = [] ∧ (∀ e, e ∈ (r.ends st).planes → e.2.todo = []) ∧ (∀ k, (r.ends st).plane k = { r.plane k with todo := [] }))) ∧
  (∀ (s : State) (v : Nat), s.heldPart .ep = false →
    let n := ringSlots (s.ep.c.rf' 0xA0000 20 16)
    let ahead := (v + 2 ^ 32 - s.ep.coll.cons) % 2 ^ 32
    (n < ahead → exec (.collDoorbell v) s = .next (s.afterEp s.ep)) ∧
    (ahead ≤ n → exec (.collDoorbell v) s = .next (s.afterEp (s.ep.modColl (fun c => { c with prod := v % 2 ^ 32 }))))) ∧
  (∀ (s : State), s.heldPart .ep = false →
    let first := s.ep.coll.waiting.find? (fun w => s.ep.memMayStart (s.ep.memFresh w))
    (first = none → exec .collDescriptorStart s = .next (s.afterEp s.ep)) ∧
    (∀ w, first = some w →
      let r := s.ep.memFresh w
      let ranges := ((s.ep.memRanges r).filter (fun x => x.2 != 0)).map (fun x => ({ va := x.1, len := x.2 } : MemCheck))
      let r1 : MemRec := { r with checks := ranges ++ (if r.auxAddr = true then [{ va := r.f 48 8, len := 0, aux := true }] else []) }
      (s.ep.memInvalid r = true →
        ∃ t : EpState, exec .collDescriptorStart s = .next (s.afterEp t) ∧ t.coll.recs = s.ep.coll.recs ++ [{ r with held := false, outcome := some 0x1E, fill := 0x1E }] ∧
          t.coll.waiting = s.ep.coll.waiting.filter (fun x => x.1 != w.1) ∧ t.c = s.ep.c.event 0xA002C 256 ∧ t.lha = s.ep.lha) ∧
      (s.ep.memInvalid r = false → s.ep.src.fencedEpoch.isSome = true →
        ∃ t : EpState, exec .collDescriptorStart s = .next (s.afterEp t) ∧ t.coll.recs = s.ep.coll.recs ++ [{ r with held := false, outcome := some 0x12, fill := 0x12 }] ∧
          t.coll.waiting = s.ep.coll.waiting.filter (fun x => x.1 != w.1) ∧ t.c = s.ep.c ∧ t.lha = s.ep.lha) ∧
      (s.ep.memInvalid r = false → s.ep.src.fencedEpoch = none →
        exec .collDescriptorStart s = .next (s.afterEp ((s.ep.addMem w r1).memCheck r1.id r1.checkSteps))))) ∧
  (∀ (s : State) (k : Nat) (p : Packet) (i : Instr) (op : Nat) (fails : List (Nat × Bool)), s.heldPart .ep = false → k < 8 →
    (i = .grantAdmit k p fails ∧ op = opGrant ∨ i = .grantCredit k p ∧ op = opGrant ∨ i = .result k p ∧ op = opResult ∨ i = .done k p ∧ op = opDone ∨
      i = .abortNotice k p ∧ op = opAbortNotice ∨ i = .resend k p ∧ op = opResend) →
    let e := s.ep.takeIn k p
    ((p.op ≠ op ∨ s.ep.portOpen k p.vc = false) → exec i s = .next (s.afterEp s.ep)) ∧
    (p.op = op → s.ep.portOpen k p.vc = true → p.crcOk = false → exec i s = .next (s.afterEp (e.crcDrop k))) ∧
    (p.op = op → s.ep.portOpen k p.vc = true → p.crcOk = true → e.opened k p = none → exec i s = .next (s.afterEp (e.authDrop k))) ∧
    (∀ q, p.op = op → s.ep.brings k p q = true → q.op = p.op → e.collFor k q = none →
      exec i s = .next (s.afterEp (if e.strays q then e.mod (fun c => c.bump 0x40054) else e)))) ∧
  (∀ (s : State) (k : Nat) (p q : Packet) (r : MemRec), s.heldPart .ep = false → k < 8 → s.ep.brings k p q = true → q.op = p.op → (s.ep.takeIn k p).collFor k q = some r →
    let e := s.ep.takeIn k p
    let kind := bits (q.cell 0) 127 120
    let opens := fun (e : EpState) => e.modMemPlane r.id k (fun x => { x with granted := true, limit := bits (q.cell 0) 61 32 })
    let known := fun (e : EpState) => e.modMemPlane r.id k (fun x => { x with state := kind, commit := bits (q.cell 0) 63 0, sat := bits (q.cell 1) 127 96, under := bits (q.cell 1) 95 64, nan := bits (q.cell 1) 63 32, again := [], reading := none, ask := [], query := false })
    (p.op = opGrant →
      (∀ fails, (kind ≠ 1 → exec (.grantAdmit k p fails) s = .next (s.afterEp e)) ∧
        (kind = 1 → exec (.grantAdmit k p fails) s = .next (s.afterEp ((opens e).modMem r.id (fun x => { x with fails := x.fails ++ fails }))))) ∧
      ((kind ≠ 2 ∨ (r.plane k).granted = false) → exec (.grantCredit k p) s = .next (s.afterEp e)) ∧
      (kind = 2 → (r.plane k).granted = true → exec (.grantCredit k p) s = .next (s.afterEp ((opens e).modMem r.id (fun x => { x with fails := x.fails ++ [] }))))) ∧
    (p.op = opResult →
      let pairs := if r.lists = true ∧ q.collChunk = 0 then some (leNat (q.data.take 8)) else (r.plane k).listLen
      let ws := (e.resultParts r k q.collChunk pairs).filterMap (fun x => if x.2.2 = 0 then none else some (q.collChunk, x.1, (q.data.drop x.2.1).take x.2.2))
      ((q.len ≠ 0xF ∨ (r.plane k).state ≠ 0) → exec (.result k p) s = .next (s.afterEp e)) ∧
      (q.len = 0xF → (r.plane k).state = 0 → ws = [] →
        exec (.result k p) s = .next (s.afterEp (e.modMemPlane r.id k (fun x => { x with listLen := pairs, acked := if x.acked.contains q.collChunk then x.acked else x.acked ++ [q.collChunk] })))) ∧
      (q.len = 0xF → (r.plane k).state = 0 → ws ≠ [] →
        exec (.result k p) s = .next (s.afterEp (e.modMemPlane r.id k (fun x => { x with listLen := pairs, todo := x.todo ++ ws.flatMap (fun w => (cutAt 4096 w.2.1 w.2.2 3).map (fun c => (q.collChunk, c.1, c.2))) }))))) ∧
    (p.op = opDone →
      ((kind = 0 ∨ 0x10 ≤ kind ∨ (r.plane k).state ≠ 0) → exec (.done k p) s = .next (s.afterEp e)) ∧
      (0 < kind → kind < 0x10 → (r.plane k).state = 0 → exec (.done k p) s = .next (s.afterEp (known e)))) ∧
    (p.op = opAbortNotice →
      ((kind < 0x10 ∨ (r.plane k).state ≠ 0) → exec (.abortNotice k p) s = .next (s.afterEp e)) ∧
      (0x10 ≤ kind → (r.plane k).state = 0 → exec (.abortNotice k p) s = .next (s.afterEp ((known e).abortPlanes r.id 3 (fun j x => j != k && x.state == 0))))) ∧
    (p.op = opResend →
      ∃ t : EpState, exec (.resend k p) s = .next (s.afterEp t) ∧ t.c = e.c.event 0xA002C 512 ∧ t.lha = e.lha ∧ t.coll.recs.length = e.coll.recs.length ∧
        ∀ (n : Nat) (x : MemRec), e.coll.recs[n]? = some x →
          (x.id ≠ r.id → t.coll.recs[n]? = some x) ∧
          (x.id = r.id → ∃ y, t.coll.recs[n]? = some y ∧ (∀ j, j ≠ k → y.plane j = x.plane j) ∧ (y.plane k).next = (x.plane k).next ∧
            ∀ c, c ∈ (y.plane k).again ↔ c ∈ (x.plane k).again ∨ (bits (q.cell 0) 61 32 ≤ c ∧ c ≤ bits (q.cell 0) 29 0 ∧ c < (r.plane k).next)))) ∧
  (∀ (s : State) (id : Nat), s.heldPart .ep = false →
    (s.ep.memRec id = none → exec (.collWaitExpired id) s = .next (s.afterEp s.ep)) ∧
    (∀ r, s.ep.memRec id = some r →
      let due := r.live = true ∧ ∃ t0, r.waitFrom = some t0 ∧ t0 + s.ep.c.rf' 0xA0028 15 0 ≤ s.ep.c.pick
      (¬due → exec (.collWaitExpired id) s = .next (s.afterEp s.ep)) ∧
      (due → exec (.collWaitExpired id) s = .next (s.afterEp ((s.ep.modMem id (fun r => r.ends ((r.form true).getD 0x1F))).memEvent 3)))))

/-! ### Bartas programs (spec/10) -/

/-- An instruction that writes a value to RD changes that register of its context alone, unless it is x0, advances the program counter by one word, and changes no other core, memory or register of the switch. Whatever the instruction of Table 10.5, a word that the context may not issue does nothing, and a word that is not legal is never issued. For every context that issues the word: ADD, SUB, AND, OR, XOR, SLL, SRL, SRA, MUL, MULHU, DIVU, REMU, SLT, SLTU, MIN, MAX, ADDI, ANDI, ORI, XORI, LUI, SLLI, SRLI and PICK write the value of Table 10.5, modulo 2^64, with division by zero giving all ones and the remainder the dividend. (R400, R407, R408, Table 10.4, Table 10.5.) -/
def Obligations.ScalarsWriteOneRegister : Prop :=
  (∀ (b : BarRun) (rd : Nat) (v : Word64), Tab.find (b.s.core' b.k).ctxs b.cx = some b.x →
    ∃ x : BarCtx, Tab.find ((b.alu rd v).core' b.k).ctxs b.cx = some x ∧ x.pc = b.x.pc + 1 ∧ x.wait = b.x.wait ∧ x.stopped = b.x.stopped ∧
      (∀ i, i < 32 → Tab.get x.regs 0 i = if i = rd % 32 ∧ i ≠ 0 then v else Tab.get b.x.regs 0 i) ∧
      (b.alu rd v).c = b.s.c ∧ (b.alu rd v).dram = b.s.dram ∧ (b.alu rd v).colls = b.s.colls ∧ (∀ m, m ≠ b.k → (b.alu rd v).core' m = b.s.core' m)) ∧
  (∀ (s : State) (i : Instr) (k cx rd ra rb rn imm mode fails word : Nat), s.heldPart .sw = false → k < 64 → cx < 16 →
    (i = .barAdd k cx rd ra rb ∧ word = wordA 0x00 rd ra rb 0x000 ∨ i = .barSub k cx rd ra rb ∧ word = wordA 0x00 rd ra rb 0x001 ∨ i = .barAnd k cx rd ra rb ∧ word = wordA 0x00 rd ra rb 0x002 ∨
      i = .barOr k cx rd ra rb ∧ word = wordA 0x00 rd ra rb 0x003 ∨ i = .barXor k cx rd ra rb ∧ word = wordA 0x00 rd ra rb 0x004 ∨ i = .barSll k cx rd ra rb ∧ word = wordA 0x00 rd ra rb 0x005 ∨
      i = .barSrl k cx rd ra rb ∧ word = wordA 0x00 rd ra rb 0x006 ∨ i = .barSra k cx rd ra rb ∧ word = wordA 0x00 rd ra rb 0x007 ∨ i = .barMul k cx rd ra rb ∧ word = wordA 0x00 rd ra rb 0x008 ∨
      i = .barMulhu k cx rd ra rb ∧ word = wordA 0x00 rd ra rb 0x009 ∨ i = .barDivu k cx rd ra rb ∧ word = wordA 0x00 rd ra rb 0x00A ∨ i = .barRemu k cx rd ra rb ∧ word = wordA 0x00 rd ra rb 0x00B ∨
      i = .barSlt k cx rd ra rb ∧ word = wordA 0x00 rd ra rb 0x00C ∨ i = .barSltu k cx rd ra rb ∧ word = wordA 0x00 rd ra rb 0x00D ∨ i = .barMin k cx rd ra rb ∧ word = wordA 0x00 rd ra rb 0x00E ∨
      i = .barMax k cx rd ra rb ∧ word = wordA 0x00 rd ra rb 0x00F ∨ i = .barAddi k cx rd ra imm ∧ word = wordI 0x01 rd ra imm ∨ i = .barAndi k cx rd ra imm ∧ word = wordI 0x02 rd ra imm ∨
      i = .barOri k cx rd ra imm ∧ word = wordI 0x03 rd ra imm ∨ i = .barXori k cx rd ra imm ∧ word = wordI 0x04 rd ra imm ∨ i = .barLui k cx rd ra imm ∧ word = wordI 0x05 rd ra imm ∨
      i = .barSlli k cx rd ra imm ∧ word = wordI 0x06 rd ra imm ∨ i = .barSrli k cx rd ra imm ∧ word = wordI 0x07 rd ra imm ∨ i = .barBeq k cx rd ra imm ∧ word = wordI 0x08 rd ra imm ∨
      i = .barBne k cx rd ra imm ∧ word = wordI 0x09 rd ra imm ∨ i = .barBlt k cx rd ra imm ∧ word = wordI 0x0A rd ra imm ∨ i = .barBge k cx rd ra imm ∧ word = wordI 0x0B rd ra imm ∨
      i = .barBltu k cx rd ra imm ∧ word = wordI 0x0C rd ra imm ∨ i = .barBgeu k cx rd ra imm ∧ word = wordI 0x0D rd ra imm ∨ i = .barLd k cx rd ra imm ∧ word = wordI 0x10 rd ra imm ∨
      i = .barLw k cx rd ra imm ∧ word = wordI 0x11 rd ra imm ∨ i = .barSt k cx rd ra imm ∧ word = wordI 0x12 rd ra imm ∨ i = .barSw k cx rd ra imm ∧ word = wordI 0x13 rd ra imm ∨
      i = .barDld k cx rd ra imm ∧ word = wordI 0x14 rd ra imm ∨ i = .barDst k cx rd ra imm ∧ word = wordI 0x15 rd ra imm ∨ i = .barJal k cx imm ∧ word = wordJ 0x0E imm ∨
      i = .barJr k cx rd ra rb ∧ word = wordA 0x0F rd ra rb 0 ∨ i = .barFlush k cx rd ra rb ∧ word = wordA 0x16 rd ra rb 0 ∨ i = .barCwait k cx rd ra rb ∧ word = wordA 0x19 rd ra rb 0 ∨
      i = .barVwait k cx rd ra rb ∧ word = wordA 0x27 rd ra rb 0 ∨ i = .barSwait k cx rd ra rb ∧ word = wordA 0x30 rd ra rb 0 ∨ i = .barSall k cx rd ra rb ∧ word = wordA 0x31 rd ra rb 0 ∨
      i = .barSrel k cx rd ra rb ∧ word = wordA 0x32 rd ra rb 0 ∨ i = .barScnt k cx rd ra rb ∧ word = wordA 0x33 rd ra rb 0 ∨ i = .barRwait k cx rd ra rb ∧ word = wordA 0x36 rd ra rb 0 ∨
      i = .barPick k cx rd ra rb ∧ word = wordA 0x3C rd ra rb 0 ∨ i = .barAbrt k cx rd ra rb ∧ word = wordA 0x3E rd ra rb 0 ∨ i = .barEnd k cx rd ra rb ∧ word = wordA 0x3F rd ra rb 0 ∨
      i = .barCpy k cx rd ra rb rn mode ∧ word = wordV 0x18 rd ra rb rn mode ∨ i = .barVmrg k cx rd ra rb rn mode ∧ word = wordV 0x24 rd ra rb rn mode ∨ i = .barVmov k cx rd ra rb rn mode ∧ word = wordV 0x26 rd ra rb rn mode ∨
      i = .barRcast k cx rd ra rb rn mode ∧ word = wordV 0x34 rd ra rb rn mode ∨ i = .barRsend k cx rd ra rb rn mode ∧ word = wordV 0x35 rd ra rb rn mode ∨ i = .barVcvt k cx rd ra rb rn mode fails ∧ word = wordV 0x20 rd ra rb rn mode ∨
      i = .barVacc k cx rd ra rb rn mode fails ∧ word = wordV 0x21 rd ra rb rn mode ∨ i = .barVfin k cx rd ra rb rn mode fails ∧ word = wordV 0x22 rd ra rb rn mode ∨ i = .barVqnt k cx rd ra rb rn mode fails ∧ word = wordV 0x23 rd ra rb rn mode ∨
      i = .barVspr k cx rd ra rb rn mode fails ∧ word = wordV 0x25 rd ra rb rn mode) →
    s.issuing k cx word = none → exec i s = .next (s.afterSw s.sw)) ∧
  (∀ (s : State) (k cx word : Nat), legalWord word = false → s.issuing k cx word = none) ∧
  (∀ (s : State) (k cx rd ra rb func : Nat) (b : BarRun) (i : Instr) (v : Word64), s.issuing k cx (wordA 0x00 rd ra rb func) = some b →
    let x := (b.reg ra).toNat
    let y := (b.reg rb).toNat
    let xs := (b.reg ra).toInt
    let ys := (b.reg rb).toInt
    (i = .barAdd k cx rd ra rb ∧ func = 0x000 ∧ v.toNat = (x + y) % 2 ^ 64 ∨ i = .barSub k cx rd ra rb ∧ func = 0x001 ∧ v.toNat = (x + 2 ^ 64 - y) % 2 ^ 64 ∨
      i = .barAnd k cx rd ra rb ∧ func = 0x002 ∧ v.toNat = x &&& y ∨ i = .barOr k cx rd ra rb ∧ func = 0x003 ∧ v.toNat = x ||| y ∨
      i = .barXor k cx rd ra rb ∧ func = 0x004 ∧ v.toNat = x ^^^ y ∨ i = .barSll k cx rd ra rb ∧ func = 0x005 ∧ v.toNat = x * 2 ^ (y % 64) % 2 ^ 64 ∨
      i = .barSrl k cx rd ra rb ∧ func = 0x006 ∧ v.toNat = x / 2 ^ (y % 64) ∨ i = .barSra k cx rd ra rb ∧ func = 0x007 ∧ v.toInt = xs / 2 ^ (y % 64) ∨
      i = .barMul k cx rd ra rb ∧ func = 0x008 ∧ v.toNat = x * y % 2 ^ 64 ∨ i = .barMulhu k cx rd ra rb ∧ func = 0x009 ∧ v.toNat = x * y / 2 ^ 64 ∨
      i = .barDivu k cx rd ra rb ∧ func = 0x00A ∧ v.toNat = (if y = 0 then 2 ^ 64 - 1 else x / y) ∨ i = .barRemu k cx rd ra rb ∧ func = 0x00B ∧ v.toNat = (if y = 0 then x else x % y) ∨
      i = .barSlt k cx rd ra rb ∧ func = 0x00C ∧ v.toNat = (if xs < ys then 1 else 0) ∨ i = .barSltu k cx rd ra rb ∧ func = 0x00D ∧ v.toNat = (if x < y then 1 else 0) ∨
      i = .barMin k cx rd ra rb ∧ func = 0x00E ∧ v.toInt = min xs ys ∨ i = .barMax k cx rd ra rb ∧ func = 0x00F ∧ v.toInt = max xs ys) →
    exec i s = .next (s.afterSw (b.issued.alu rd v))) ∧
  (∀ (s : State) (k cx rd ra imm major : Nat) (b : BarRun) (i : Instr) (v : Word64), s.issuing k cx (wordI major rd ra imm) = some b →
    let x := (b.reg ra).toNat
    (i = .barAddi k cx rd ra imm ∧ major = 0x01 ∧ (v.toNat : Int) = ((x : Int) + imm16 imm) % 2 ^ 64 ∨ i = .barAndi k cx rd ra imm ∧ major = 0x02 ∧ v.toNat = x &&& imm % 65536 ∨
      i = .barOri k cx rd ra imm ∧ major = 0x03 ∧ v.toNat = x ||| imm % 65536 ∨ i = .barXori k cx rd ra imm ∧ major = 0x04 ∧ v.toNat = x ^^^ imm % 65536 ∨
      i = .barLui k cx rd ra imm ∧ major = 0x05 ∧ (v.toNat : Int) = (imm16 imm * 65536) % 2 ^ 64 ∨ i = .barSlli k cx rd ra imm ∧ major = 0x06 ∧ v.toNat = x * 2 ^ (imm % 64) % 2 ^ 64 ∨
      i = .barSrli k cx rd ra imm ∧ major = 0x07 ∧ v.toNat = x / 2 ^ (imm % 64)) →
    exec i s = .next (s.afterSw (b.issued.alu rd v))) ∧
  (∀ (s : State) (k cx rd ra rb : Nat) (b : BarRun) (v : Word64), s.issuing k cx (wordA 0x3C rd ra rb 0) = some b → v.toNat = s.sw.c.pick % 2 ^ 64 →
    exec (.barPick k cx rd ra rb) s = .next (s.afterSw (b.issued.alu rd v)))

/-- A jump inside the code sets the program counter and changes nothing else of the context; one to a negative word or past the code stops it. A stop marks the context stopped, records its cause in BAR_EVENT, and gives its open collective an abort cause. For every context that issues the word: BEQ, BNE, BLT, BGE, BLTU and BGEU go to PC + IMM where the comparison of RD with RA holds and to the next word otherwise; JAL sets x31 to PC + 1 and goes to PC + OFFSET; JR goes to the word in RA; ABRT stops the context with cause 2. WATCHDOG_FIRE stops a live context of a loaded program whose count has reached the program's, and no other. (R408, R415, R416, Table 10.5.) -/
def Obligations.BranchesStayInTheCode : Prop :=
  (∀ (b : BarRun) (dest : Int), Tab.find (b.s.core' b.k).ctxs b.cx = some b.x →
    (0 ≤ dest → (∀ p, b.prog = some p → dest < p.code.length) →
      Tab.find ((b.jump dest).core' b.k).ctxs b.cx = some { b.x with pc := dest.toNat } ∧ (b.jump dest).c = b.s.c ∧ (b.jump dest).colls = b.s.colls) ∧
    ((dest < 0 ∨ ∃ p, b.prog = some p ∧ (p.code.length : Int) ≤ dest) → b.jump dest = b.stop 1)) ∧
  (∀ (b : BarRun) (cause : Nat), Tab.find (b.s.core' b.k).ctxs b.cx = some b.x →
    let t := b.stop cause
    Tab.find (t.core' b.k).ctxs b.cx = some { b.x with stopped := true } ∧ t.c = b.s.c.event (barA b.k 0x00C) (cause * 4096 + b.cx * 256) ∧
    ∀ r, r ∈ t.colls → r.group = b.r.group → r.seq = b.r.seq → r.st ≠ .committed → r.cause.isSome = true) ∧
  (∀ (s : State) (k cx rd ra imm major : Nat) (b : BarRun) (i : Instr) (taken : Prop), s.issuing k cx (wordI major rd ra imm) = some b →
    let g := b.issued
    (i = .barBeq k cx rd ra imm ∧ major = 0x08 ∧ (taken ↔ b.reg rd = b.reg ra) ∨ i = .barBne k cx rd ra imm ∧ major = 0x09 ∧ (taken ↔ b.reg rd ≠ b.reg ra) ∨
      i = .barBlt k cx rd ra imm ∧ major = 0x0A ∧ (taken ↔ (b.reg rd).toInt < (b.reg ra).toInt) ∨ i = .barBge k cx rd ra imm ∧ major = 0x0B ∧ (taken ↔ (b.reg ra).toInt ≤ (b.reg rd).toInt) ∨
      i = .barBltu k cx rd ra imm ∧ major = 0x0C ∧ (taken ↔ (b.reg rd).toNat < (b.reg ra).toNat) ∨ i = .barBgeu k cx rd ra imm ∧ major = 0x0D ∧ (taken ↔ (b.reg ra).toNat ≤ (b.reg rd).toNat)) →
    (taken → exec i s = .next (s.afterSw (g.jump ((b.x.pc : Int) + imm16 imm)))) ∧ (¬taken → exec i s = .next (s.afterSw g.next))) ∧
  (∀ (s : State) (k cx off : Nat) (b : BarRun), s.issuing k cx (wordJ 0x0E off) = some b →
    exec (.barJal k cx off) s = .next (s.afterSw ((b.issued.set 31 (BitVec.ofNat 64 (b.x.pc + 1))).jump ((b.x.pc : Int) + untwos 26 (off % 2 ^ 26))))) ∧
  (∀ (s : State) (k cx rd ra rb : Nat) (b : BarRun),
    (s.issuing k cx (wordA 0x0F rd ra rb 0) = some b → exec (.barJr k cx rd ra rb) s = .next (s.afterSw (b.issued.jump (b.reg ra).toNat))) ∧
    (s.issuing k cx (wordA 0x3E rd ra rb 0) = some b → exec (.barAbrt k cx rd ra rb) s = .next (s.afterSw (b.issued.stop 2)))) ∧
  (∀ (s : State) (k cx : Nat) (x : BarCtx) (r : CollRec) (p : Prog), s.heldPart .sw = false → k < 64 → cx < 16 → Tab.find (s.sw.core' k).ctxs cx = some x → s.sw.slotColl x.slot = some r →
    s.sw.userProg r.op = some p →
    (p.wdog ≤ x.wdog → x.stopped = false → x.ended = false → exec (.watchdogFire k cx) s = .next (s.afterSw (s.sw.stopCtx k cx 3 r))) ∧
    ((x.wdog < p.wdog ∨ x.stopped = true ∨ x.ended = true) → exec (.watchdogFire k cx) s = .next (s.afterSw s.sw))) ∧
  (∀ (s : State) (k cx : Nat), s.heldPart .sw = false → k < 64 → cx < 16 →
    (∀ x r, Tab.find (s.sw.core' k).ctxs cx = some x → s.sw.slotColl x.slot = some r → s.sw.userProg r.op = none) → exec (.watchdogFire k cx) s = .next (s.afterSw s.sw))

/-- A byte written to DRAM is in the core's line buffer, dirty, until a flush; a flush of a range puts the dirty bytes of the range, and no other, into DRAM, and leaves none of it dirty. For every context that issues the word: a load or store to local memory or DRAM that is misaligned or outside what the context may reach stops it with cause 1; a load writes the little-endian bytes read, zero-extended, to RD; a store writes the low bytes of RD; FLUSH flushes its range of the collective's DRAM; CPY copies RN bytes inside local memory, to DRAM or from it by its mode, VMOV inside local memory, and a range that cannot be read or written stops the context. CWAIT and VWAIT go to the next word, since copies and vector instructions complete when they issue (the model's choice, log entry 41, which R180 and R410 allow). The model's choices in it: log entries 2, 72, 84. (R177, R178, R180, R403, R406, R408, R410, R415.) -/
def Obligations.LoadsAndStoresReachTheirMemory : Prop :=
  (∀ (b : BarRun) (a : Nat) (l : List Byte) (j : Nat) (v : Byte), l[j]? = some v → Tab.rising (b.s.core' b.k).lines = true → Tab.find ((b.dramWrite a l).s.core' b.k).lines (a + j) = some { val := v, dirty := true }) ∧
  (∀ (w : SwState) (k lo hi a : Nat), Tab.rising (w.core' k).lines = true →
    (w.flushLines k lo hi).dram.byte a =
      (match Tab.find (w.core' k).lines a with
       | some l => if l.dirty = true ∧ lo ≤ a ∧ a < hi then l.val else w.dram.byte a
       | none => w.dram.byte a) ∧
    (w.flushLines k lo hi).c = w.c ∧ (w.flushLines k lo hi).colls = w.colls ∧
    ∀ l, Tab.find ((w.flushLines k lo hi).core' k).lines a = some l → l.dirty = true → a < lo ∨ hi ≤ a) ∧
  (∀ (s : State) (k cx rd ra imm width major : Nat) (b : BarRun) (i : Instr), s.issuing k cx (wordI major rd ra imm) = some b →
    let g := b.issued
    let a := (b.reg ra + BitVec.ofInt 64 (imm16 imm)).toNat
    ((i = .barLd k cx rd ra imm ∧ major = 0x10 ∧ width = 8 ∨ i = .barLw k cx rd ra imm ∧ major = 0x11 ∧ width = 4) →
      ((a % width ≠ 0 ∨ g.bytes width (a % 2 ^ 32) = none) → exec i s = .next (s.afterSw (g.stop 1))) ∧
      (∀ l, a % width = 0 → g.bytes width (a % 2 ^ 32) = some l → exec i s = .next (s.afterSw (g.alu rd (BitVec.ofNat 64 (leNat l)))))) ∧
    ((i = .barSt k cx rd ra imm ∧ major = 0x12 ∧ width = 8 ∨ i = .barSw k cx rd ra imm ∧ major = 0x13 ∧ width = 4) →
      ((a % width ≠ 0 ∨ g.store (a % 2 ^ 32) (leBytes (b.reg rd).toNat width) = none) → exec i s = .next (s.afterSw (g.stop 1))) ∧
      (∀ h, a % width = 0 → g.store (a % 2 ^ 32) (leBytes (b.reg rd).toNat width) = some h → exec i s = .next (s.afterSw h.next))) ∧
    (i = .barDld k cx rd ra imm → major = 0x14 →
      ((a % 8 ≠ 0 ∨ b.r.dram.2.2 < a + 8) → exec i s = .next (s.afterSw (g.stop 1))) ∧
      (a % 8 = 0 → a + 8 ≤ b.r.dram.2.2 →
        let r := g.dramRead 8 (b.r.dram.1 * 2 ^ 36 + b.r.dram.2.1 + a)
        exec i s = .next (s.afterSw (r.2.alu rd (BitVec.ofNat 64 (leNat r.1)))))) ∧
    (i = .barDst k cx rd ra imm → major = 0x15 →
      ((a % 8 ≠ 0 ∨ b.r.dram.2.2 < a + 8) → exec i s = .next (s.afterSw (g.stop 1))) ∧
      (a % 8 = 0 → a + 8 ≤ b.r.dram.2.2 → exec i s = .next (s.afterSw (g.dramWrite (b.r.dram.1 * 2 ^ 36 + b.r.dram.2.1 + a) (leBytes (b.reg rd).toNat 8)).next)))) ∧
  (∀ (s : State) (k cx rd ra rb : Nat) (b : BarRun),
    (s.issuing k cx (wordA 0x16 rd ra rb 0) = some b →
      let lo := b.r.dram.1 * 2 ^ 36 + b.r.dram.2.1 + (b.reg ra).toNat
      (b.r.dram.2.2 < (b.reg ra).toNat + (b.reg rb).toNat → exec (.barFlush k cx rd ra rb) s = .next (s.afterSw (b.issued.stop 1))) ∧
      ((b.reg ra).toNat + (b.reg rb).toNat ≤ b.r.dram.2.2 → ∃ g : BarRun, exec (.barFlush k cx rd ra rb) s = .next (s.afterSw g.next) ∧
        g.s = b.issued.s.flushLines b.k lo (lo + (b.reg rb).toNat) ∧ g.x = b.issued.x)) ∧
    (s.issuing k cx (wordA 0x19 rd ra rb 0) = some b → exec (.barCwait k cx rd ra rb) s = .next (s.afterSw b.issued.next)) ∧
    (s.issuing k cx (wordA 0x27 rd ra rb 0) = some b → exec (.barVwait k cx rd ra rb) s = .next (s.afterSw b.issued.next))) ∧
  (∀ (s : State) (k cx rd ra rb rn mode : Nat) (b : BarRun) (i : Instr),
    (i = .barCpy k cx rd ra rb rn mode ∧ s.issuing k cx (wordV 0x18 rd ra rb rn mode) = some b ∧ mode = 0 ∨ i = .barVmov k cx rd ra rb rn mode ∧ s.issuing k cx (wordV 0x26 rd ra rb rn mode) = some b) →
    let g := b.issued
    (g.range (b.reg ra).toNat (b.reg rn).toNat = none → exec i s = .next (s.afterSw (g.stop 1))) ∧
    (∀ l, g.range (b.reg ra).toNat (b.reg rn).toNat = some l →
      (g.store ((b.reg rd).toNat % 2 ^ 32) l = none → exec i s = .next (s.afterSw (g.stop 1))) ∧
      (∀ h, g.store ((b.reg rd).toNat % 2 ^ 32) l = some h → exec i s = .next (s.afterSw h.next)))) ∧
  (∀ (s : State) (k cx rd ra rb rn : Nat) (b : BarRun), s.issuing k cx (wordV 0x18 rd ra rb rn 1) = some b →
    let g := b.issued
    (∀ l, g.range (b.reg ra).toNat (b.reg rn).toNat = some l →
      ((b.reg rd).toNat + (b.reg rn).toNat ≤ b.r.dram.2.2 →
        exec (.barCpy k cx rd ra rb rn 1) s = .next (s.afterSw (g.dramWrite (b.r.dram.1 * 2 ^ 36 + b.r.dram.2.1 + (b.reg rd).toNat) l).next)) ∧
      (b.r.dram.2.2 < (b.reg rd).toNat + (b.reg rn).toNat → exec (.barCpy k cx rd ra rb rn 1) s = .next (s.afterSw (g.stop 1)))) ∧
    (g.range (b.reg ra).toNat (b.reg rn).toNat = none → exec (.barCpy k cx rd ra rb rn 1) s = .next (s.afterSw (g.stop 1)))) ∧
  (∀ (s : State) (k cx rd ra rb rn : Nat) (b : BarRun), s.issuing k cx (wordV 0x18 rd ra rb rn 2) = some b →
    let g := b.issued
    let n := (b.reg rn).toNat
    let off := (b.reg ra).toNat
    ((b.r.dram.2.2 < off + n ∨ padBytes < n) → exec (.barCpy k cx rd ra rb rn 2) s = .next (s.afterSw (g.stop 1))) ∧
    (off + n ≤ b.r.dram.2.2 → n ≤ padBytes →
      let r := g.dramRead n (b.r.dram.1 * 2 ^ 36 + b.r.dram.2.1 + off)
      (r.2.store ((b.reg rd).toNat % 2 ^ 32) r.1 = none → exec (.barCpy k cx rd ra rb rn 2) s = .next (s.afterSw (g.stop 1))) ∧
      (∀ h, r.2.store ((b.reg rd).toNat % 2 ^ 32) r.1 = some h → exec (.barCpy k cx rd ra rb rn 2) s = .next (s.afterSw h.next))))

/-- For every context that issues the word: a vector step whose residue check fails twice writes nothing, declares its core failed with a lasting error and records the event; one that fails once is counted as a transient error and carried out. VCVT and VFIN with a bad operand stop the context with cause 1, with images of a block not all staged wait at the same word, and otherwise write their result to the accumulator or image that RD names and go to the next word; VACC joins its two operands element by element; VQNT of a count that is no multiple of 8,192 stops it; VSPR and VMRG of a misaligned list stop it, VMRG does what its merge gives, and a merge of two lists holds exactly their pairs. The model's choices in it: log entries 41, 53. (R402, R408, R409, R410, R441, R447, R456, R459.) -/
def Obligations.VectorStepsAreCheckedByResidues : Prop :=
  (∀ (s : State) (k cx rd ra rb rn mode fails : Nat) (b : BarRun) (i : Instr) (step : BarRun → SwState),
    (i = .barVcvt k cx rd ra rb rn mode fails ∧ s.issuing k cx (wordV 0x20 rd ra rb rn mode) = some b ∧ step = (fun g => g.vcvt rd ra rn) ∨
      i = .barVacc k cx rd ra rb rn mode fails ∧ s.issuing k cx (wordV 0x21 rd ra rb rn mode) = some b ∧ step = (fun g => g.vacc rd ra rb rn mode) ∨
      i = .barVfin k cx rd ra rb rn mode fails ∧ s.issuing k cx (wordV 0x22 rd ra rb rn mode) = some b ∧ step = (fun g => g.vfin rd ra rb rn) ∨
      i = .barVqnt k cx rd ra rb rn mode fails ∧ s.issuing k cx (wordV 0x23 rd ra rb rn mode) = some b ∧ step = (fun g => g.vqnt rd ra rb rn) ∨
      i = .barVspr k cx rd ra rb rn mode fails ∧ s.issuing k cx (wordV 0x25 rd ra rb rn mode) = some b ∧ step = (fun g => g.vspr rd ra rb)) →
    let g := b.issued
    (fails = 0 → exec i s = .next (s.afterSw (step g))) ∧
    (fails = 1 → exec i s = .next (s.afterSw (step { g with s := g.s.mod (fun c => (c.bumpLo (barA g.k 0x008)).errTransient 4) }))) ∧
    (2 ≤ fails → ∃ t : SwState, exec i s = .next (s.afterSw t) ∧ (t.core' b.k).failed = true ∧ (t.core' b.k).pad = (g.s.core' b.k).pad ∧ (t.core' b.k).ctxs = (g.s.core' b.k).ctxs ∧
      t.colls = g.s.colls ∧ t.dram = g.s.dram ∧ t.c = ((g.s.c.bumpHi (barA b.k 0x008)).errLasting 4).event (barA b.k 0x00C) (4 * 4096 + b.cx * 256))) ∧
  (∀ (g : BarRun) (o : Operand) (f : BarRun → List Acc → Option BarRun),
    (o = .bad → g.ending o f = g.stop 1) ∧
    (∀ blk, o = .wait blk → Tab.find (g.s.core' g.k).ctxs g.cx = some g.x → Tab.find ((g.ending o f).core' g.k).ctxs g.cx = some { g.x with wait := some (.align blk) }) ∧
    (∀ h l, o = .ok h l → (f h l = none → g.ending o f = g.stop 1) ∧ ∀ h2, f h l = some h2 → g.ending o f = h2.next)) ∧
  (∀ (g : BarRun) (rd ra rb rn : Nat),
    ((g.reg rn).toNat % 8192 ≠ 0 → g.vqnt rd ra rb rn = g.stop 1 ∧ g.vcvt rd ra rn = g.stop 1) ∧
    ((g.reg rn).toNat % 64 ≠ 0 → g.vfin rd ra rb rn = g.stop 1) ∧
    ((g.reg ra).toNat % 8 ≠ 0 → g.vspr rd ra rb = g.stop 1 ∧ g.vmrg rd ra rb rn = g.stop 1)) ∧
  (∀ (s : State) (k cx rd ra rb rn mode : Nat) (b : BarRun), s.issuing k cx (wordV 0x24 rd ra rb rn mode) = some b →
    exec (.barVmrg k cx rd ra rb rn mode) s = .next (s.afterSw (b.issued.vmrg rd ra rb rn))) ∧
  (∀ (before : Pair → Pair → Bool) (n : Nat) (l1 l2 : List Pair), l1.length + l2.length ≤ n → (mergeBy before n l1 l2).length = l1.length + l2.length ∧ (∀ p, p ∈ mergeBy before n l1 l2 ↔ p ∈ l1 ∨ p ∈ l2))

/-- For every context that issues the word: SWAIT and SALL for a chunk outside the members' parts stop it; for one already staged they show it and go on; otherwise the context blocks on it behind the instruction. SREL clears the watchdog count and releases the named chunks of its blocks, of one rank or of all; SCNT writes the last chunk of its blocks that is staged, or all ones; RCAST and RSEND of bytes that cannot be read stop it, and so does RSEND to a rank that the group does not have; RWAIT goes on where every result has left the switch and blocks otherwise; END then ends the context, its core's written bytes flushed, and otherwise waits to finish. CONTEXT_RESUME of a context that waits for nothing, or for what does not hold, changes nothing; where it holds the context waits no more, and is shown the chunk it waited for. (R404, R408, R410, R411, R412, R413, R415, R416.) -/
def Obligations.ContextsWaitForChunksAndResults : Prop :=
  (∀ (s : State) (k cx rd ra rb : Nat) (b : BarRun), s.issuing k cx (wordA 0x30 rd ra rb 0) = some b →
    let g := b.issued
    let rank := (b.reg ra).toNat
    let idx := (b.reg rb).toNat
    (g.inPart rank idx = false → exec (.barSwait k cx rd ra rb) s = .next (s.afterSw (g.stop 1))) ∧
    (g.inPart rank idx = true → b.r.hasStaged rank idx = true → exec (.barSwait k cx rd ra rb) s = .next (s.afterSw (g.ctx (fun x => x.show_ rank idx)).next)) ∧
    (g.inPart rank idx = true → b.r.hasStaged rank idx = false → exec (.barSwait k cx rd ra rb) s = .next (s.afterSw (g.block (.chunk rank idx))))) ∧
  (∀ (s : State) (k cx rd ra rb : Nat) (b : BarRun), s.issuing k cx (wordA 0x31 rd ra rb 0) = some b →
    let g := b.issued
    let idx := (b.reg rb).toNat
    ((∃ j, j < b.r.m ∧ g.inPart j idx = false) → exec (.barSall k cx rd ra rb) s = .next (s.afterSw (g.stop 1))) ∧
    ((∀ j, j < b.r.m → g.inPart j idx = true ∧ b.r.hasStaged j idx = true) →
      exec (.barSall k cx rd ra rb) s = .next (s.afterSw (g.ctx (fun x => (List.range b.r.m).foldl (fun x j => x.show_ j idx) x)).next)) ∧
    ((∀ j, j < b.r.m → g.inPart j idx = true) → (∃ j, j < b.r.m ∧ b.r.hasStaged j idx = false) → exec (.barSall k cx rd ra rb) s = .next (s.afterSw (g.block (.allChunk idx))))) ∧
  (∀ (b : BarRun) (w : BarWait), Tab.find (b.s.core' b.k).ctxs b.cx = some b.x →
    Tab.find ((b.block w).core' b.k).ctxs b.cx = some { b.x with pc := b.x.pc + 1, wait := some w } ∧ (b.block w).c = b.s.c ∧ (b.block w).colls = b.s.colls) ∧
  (∀ (s : State) (k cx rd ra rb : Nat) (b : BarRun),
    (s.issuing k cx (wordA 0x32 rd ra rb 0) = some b → b.reg ra ≠ BitVec.allOnes 64 →
      exec (.barSrel k cx rd ra rb) s = .next (s.afterSw
        (match b.r.members[(b.reg ra).toNat]? with
         | some m => b.issued.petted.next.leaveStaging b.r.group b.r.seq (b.reg ra).toNat ((m.staged.map (·.1)).filter (fun j => decide (j ≤ (b.reg rb).toNat) && b.issued.owns j))
         | none => b.issued.petted.next))) ∧
    (s.issuing k cx (wordA 0x32 rd ra rb 0) = some b → b.reg ra = BitVec.allOnes 64 →
      exec (.barSrel k cx rd ra rb) s = .next (s.afterSw (each (List.range b.r.m) b.issued.petted.next (fun w j =>
        match b.r.members[j]? with
        | some m => w.leaveStaging b.r.group b.r.seq j ((m.staged.map (·.1)).filter (fun j => decide (j ≤ (b.reg rb).toNat) && b.issued.owns j))
        | none => w)))) ∧
    (s.issuing k cx (wordA 0x33 rd ra rb 0) = some b → ∃ v : Word64, exec (.barScnt k cx rd ra rb) s = .next (s.afterSw (b.issued.alu rd v)) ∧
      let here := fun (j : Nat) => b.issued.owns j && b.r.hasStaged (b.reg ra).toNat j
      ((∀ j, here j = false) → v = BitVec.allOnes 64) ∧ (∀ j, here j = true → (∀ n, j < n → here n = false) → v = BitVec.ofNat 64 j)) ∧
    (s.issuing k cx (wordA 0x36 rd ra rb 0) = some b →
      exec (.barRwait k cx rd ra rb) s = .next (s.afterSw (if b.issued.s.ctxResultsLeft b.r b.x.idx = true then b.issued.next else b.issued.block .results))) ∧
    (s.issuing k cx (wordA 0x3F rd ra rb 0) = some b →
      let g := b.issued.petted
      (b.issued.s.ctxResultsLeft b.r b.x.idx = true → exec (.barEnd k cx rd ra rb) s = .next (s.afterSw (g.s.endCtx b.k b.cx b.issued.x b.r))) ∧
      (b.issued.s.ctxResultsLeft b.r b.x.idx = false → exec (.barEnd k cx rd ra rb) s = .next (s.afterSw (g.ctx (fun x => { x with wait := some .finish })).s)))) ∧
  (∀ (s : State) (k cx rd ra rb rn mode : Nat) (b : BarRun) (i : Instr) (dest : Option Nat),
    (i = .barRcast k cx rd ra rb rn mode ∧ s.issuing k cx (wordV 0x34 rd ra rb rn mode) = some b ∧ dest = none ∨
      i = .barRsend k cx rd ra rb rn mode ∧ s.issuing k cx (wordV 0x35 rd ra rb rn mode) = some b ∧ dest = some (b.reg rd).toNat) →
    let g := b.issued
    (∀ rank, dest = some rank → b.r.m ≤ rank → exec i s = .next (s.afterSw (g.stop 1))) ∧
    ((∀ rank, dest = some rank → rank < b.r.m) →
      (g.range (b.reg ra).toNat (256 * (b.reg rn).toNat) = none → exec i s = .next (s.afterSw (g.stop 1))) ∧
      (∀ l, g.range (b.reg ra).toNat (256 * (b.reg rn).toNat) = some l →
        let cs := chunksFrom (b.reg rn).toNat (b.reg rb).toNat l
        ∃ t : SwState, exec i s = .next (s.afterSw (t.modColl b.r.group b.r.seq (fun r => { r with results := r.results ++ cs.map (fun e => (b.x.idx, e.1)) }))) ∧
          (b.x.tripped = true → t = g.petted.next) ∧ (b.x.tripped = false → t = each cs g.petted.next (fun w e => w.sendResult b.r dest e.1 e.2))))) ∧
  (∀ (s : State) (k cx : Nat), s.heldPart .sw = false → k < 64 → cx < 16 → Tab.find (s.sw.core' k).ctxs cx = none → exec (.contextResume k cx) s = .next (s.afterSw s.sw)) ∧
  (∀ (s : State) (k cx : Nat) (x : BarCtx), s.heldPart .sw = false → k < 64 → cx < 16 → Tab.find (s.sw.core' k).ctxs cx = some x →
    ((x.wait = none ∨ s.sw.slotColl x.slot = none) → exec (.contextResume k cx) s = .next (s.afterSw s.sw)) ∧
    (∀ w r, x.wait = some w → s.sw.slotColl x.slot = some r →
      ((s.sw.c.pwr.paused = true ∨ x.stopped = true ∨ s.sw.waitOver k x cx r w = false) → exec (.contextResume k cx) s = .next (s.afterSw s.sw)) ∧
      (s.sw.c.pwr.paused = false → x.stopped = false → s.sw.waitOver k x cx r w = true →
        (w = .finish → exec (.contextResume k cx) s = .next (s.afterSw (s.sw.endCtx k cx x r))) ∧
        (w ≠ .finish → ∃ t : SwState, exec (.contextResume k cx) s = .next (s.afterSw t) ∧ t.c = s.sw.c ∧ t.colls = s.sw.colls ∧
          ∃ y : BarCtx, Tab.find (t.core' k).ctxs cx = some y ∧ y.wait = none ∧ y.pc = x.pc ∧ y.regs = x.regs ∧
            (∀ rank idx, w = .chunk rank idx → idx < Tab.get y.shown 0 rank) ∧ (∀ idx rank, w = .allChunk idx → rank < r.m → idx < Tab.get y.shown 0 rank)))))

/-- In a switch that accepts the command: a piece of a container out of sequence or of another pitch is answered 0x0610 and changes no partial container; a piece in sequence joins its container, one with OFFSET 0 beginning it anew, and with the last one the container is placed: answered with the first check of Table 10.9 that it fails, no program changed, or stored in its slot and answered OK. A program that a valid handle names is not unloaded; an empty slot is NOT_FOUND (the model's choice, log entry 42); another is removed. A partial container that has received no piece for 10,000,000 picks is discarded at its time-out, and no other. PE_FAILURE marks an engine failing that has not failed; DRAM_STACK_FAILURE records a stack not lost before once. The model's choices in it: log entry 56. (R422, R423, R424, R427, R559, R560, R696, Table 10.9, Table 10.13.) -/
def Obligations.ProgramsAreCheckedBeforeTheyLoad : Prop :=
  (∀ (s : State) (z : ZPacket), z.part = .sw → s.accepts 0x0601 z = true →
    let c := s.gated 0x0601 z
    let w : SwState := { s.sw with c := c }
    let slot := pb z.payload 0
    let had : Option ProgLoad := if pn z.payload 4 4 = 0 then some { pitch := pb z.payload 1 } else Tab.find s.sw.loads slot
    (∀ l, had = some l →
      ((pn z.payload 4 4 ≠ l.bytes.length ∨ l.pitch ≠ pb z.payload 1) →
        exec (.progLoad z) s = .next (s.afterZ z (c.zAnswer 0x0601 z 0x0610 (min 0xFFFF (l.bytes.length / 4)) []))) ∧
      (pn z.payload 4 4 = l.bytes.length → l.pitch = pb z.payload 1 → pb z.payload 2 ≠ 1 →
        ∃ t : SwState, exec (.progLoad z) s = .next (s.afterSw t) ∧ t.progs = s.sw.progs ∧ t.c = c.zOk 0x0601 z [] ∧
          Tab.find t.loads slot = some { pitch := pb z.payload 1, bytes := l.bytes ++ z.payload.drop 8, at_ := c.pick } ∧ ∀ o, o ≠ slot → Tab.find t.loads o = Tab.find s.sw.loads o) ∧
      (pn z.payload 4 4 = l.bytes.length → l.pitch = pb z.payload 1 → pb z.payload 2 = 1 →
        exec (.progLoad z) s = .next (s.afterSw (({ w with loads := Tab.del s.sw.loads slot } : SwState).progPlace z slot (pb z.payload 1) (l.bytes ++ z.payload.drop 8))))) ∧
    (had = none → exec (.progLoad z) s = .next (s.afterZ z (c.zAnswer 0x0601 z 0x0610 0 [])))) ∧
  (∀ (w : SwState) (z : ZPacket) (slot pitch : Nat) (l : List Byte),
    (∀ f, w.loadCheck slot pitch l = some f → (w.progPlace z slot pitch l).progs = w.progs ∧ (w.progPlace z slot pitch l).c = (w.c.loadEvent 2 slot f.1).zAnswer 0x0601 z f.1 (min 0xFFFF f.2) []) ∧
    (w.loadCheck slot pitch l = none → Tab.find w.progs slot = none ∧ Tab.find (w.progPlace z slot pitch l).progs slot = some (progOfBytes pitch l) ∧
      (w.progPlace z slot pitch l).c = (w.c.loadEvent 1 slot 0).zOk 0x0601 z [])) ∧
  (∀ (s : State) (z : ZPacket), z.part = .sw → s.accepts 0x0602 z = true →
    let c := s.gated 0x0602 z
    let slot := pb z.payload 0
    (∀ h, lowest (c.handlesOf (0x80 + slot)) = some h → exec (.progUnload z) s = .next (s.afterZ z (c.zAnswer 0x0602 z 0x060F h []))) ∧
    (lowest (c.handlesOf (0x80 + slot)) = none → Tab.find s.sw.progs slot = none → exec (.progUnload z) s = .next (s.afterZ z (c.zAnswer 0x0602 z zNotFound 0 []))) ∧
    (∀ p, lowest (c.handlesOf (0x80 + slot)) = none → Tab.find s.sw.progs slot = some p →
      ∃ t : SwState, exec (.progUnload z) s = .next (s.afterSw t) ∧ Tab.find t.progs slot = none ∧ (∀ o, o ≠ slot → Tab.find t.progs o = Tab.find s.sw.progs o) ∧
        t.c = (c.loadEvent 3 slot 0).zOk 0x0602 z [])) ∧
  (∀ (s : State) (n : Nat), s.heldPart .sw = false →
    (n < 64 →
      let due := ∃ l, Tab.find s.sw.loads n = some l ∧ l.at_ + 10000000 ≤ s.sw.c.pick
      (¬due → exec (.progPieceTimeout n) s = .next (s.afterSw s.sw)) ∧
      (due → ∃ t : SwState, exec (.progPieceTimeout n) s = .next (s.afterSw t) ∧ Tab.find t.loads n = none ∧ (∀ o, o ≠ n → Tab.find t.loads o = Tab.find s.sw.loads o) ∧ t.c = s.sw.c ∧ t.progs = s.sw.progs)) ∧
    (n < 18 → ((s.sw.c.engine n).failed = true → exec (.peFailure n) s = .next (s.afterSw s.sw)) ∧
      ((s.sw.c.engine n).failed = false → ∃ t : SwState, exec (.peFailure n) s = .next (s.afterSw t) ∧ (t.c.engine n).failing = true ∧ ∀ m, m ≠ n → t.c.engine m = s.sw.c.engine m)) ∧
    (∀ row : Bool, n < 2 → ((s.sw.stacksLost.contains n = true ∨ s.sw.stacksDue.contains n = true) → exec (.dramStackFailure n row) s = .next (s.afterSw s.sw)) ∧
      (s.sw.stacksLost.contains n = false → s.sw.stacksDue.contains n = false →
        ∃ t : SwState, exec (.dramStackFailure n row) s = .next (s.afterSw t) ∧ t.stacksDue = s.sw.stacksDue ++ [n] ∧ t.c = s.sw.c.event 0x800004 ((if row then 2 else 1) * 256 + n))))

/-! ### Resilience (spec/14) -/

/-- In a part that accepts the command, FW_STAGE_BEGIN erases the slot that does not run and goes into execution, FLASH_ERASE_COMPLETE ends the erase and every such command, FW_STAGE_DATA appends the piece at the expected offset, FW_STAGE_END verifies the file (its digest, KIND and SVN among the tests) and stages the image, FW_ACTIVATE schedules the staged image at a pick at least 1,000 ahead; each is answered BUSY, FW_SEQUENCE, TOO_LARGE, VERIFY_FAILED, NOT_STAGED, PICK_RANGE or OK with NO_CHANGE as its own tests say, and then changes nothing else but the end of a staging that does not verify; a part that no image has booted tries a staged one at once. At its pick the part changes slot, derives its keys for the image, restarts and runs it on trial; the restart ends; the trial ends with the image kept, the SVN floor raised where the image asks for it, or with a restart on the old slot and its keys. LEDGER_CLEAR sets the loss counts of the unit to zero and leaves all else; LEDGER_READ answers half a record of 256 bytes or NOT_FOUND. A change of a guy line records one event, no change nothing; a part in reset or without power only takes note. The model's choices in it: log entries 3, 58, 60, 86. (R557, R587, R588, R589, R591, R647, R694, R695, R700, Table 14.4, Table 17.6.) -/
def Obligations.FirmwareStagesRunsOnTrialAndStays : Prop :=
  (∀ (s : State) (z : ZPacket), s.accepts 0x0801 z = true →
    let c := s.gated 0x0801 z
    let total := pn z.payload 0 4
    let kind := pb z.payload 4
    (∀ d, c.stageBusy = some d → exec (.fwStageBegin z) s = .next (s.afterZ z (c.zAnswer 0x0801 z zBusy d []))) ∧
    (c.stageBusy = none → 14 * 2 ^ 20 < total → exec (.fwStageBegin z) s = .next (s.afterZ z (c.zAnswer 0x0801 z 0x0804 0 []))) ∧
    (c.stageBusy = none → total ≤ 14 * 2 ^ 20 → kind ≠ imageKind c.part → exec (.fwStageBegin z) s = .next (s.afterZ z (c.zAnswer 0x0801 z 0x0801 0x11 []))) ∧
    (c.stageBusy = none → total ≤ 14 * 2 ^ 20 → kind = imageKind c.part → ∃ t : Common, exec (.fwStageBegin z) s = .next (s.afterZ z t) ∧
      t.fw.staging = some { total := total, kind := kind, svn := pb z.payload 5 } ∧ t.fw.staged = none ∧ t.fw.slotB = c.fw.slotB ∧ t.fw.img c.fw.slotB = c.fw.img c.fw.slotB ∧
      t.fw.img (!c.fw.slotB) = {} ∧ ∃ x : ZExec, t = { c with fw := t.fw, mgmt := { c.mgmt with executing := c.mgmt.executing ++ [x] } } ∧ x.op = 0x0801 ∧ x.tag = z.tag ∧ x.ret = z.ret)) ∧
  (∀ (s : State) (part : Part), s.heldPart part = false →
    let c := s.common part
    ((∀ g, c.fw.staging = some g → g.erased = true ∨ g.suspended = true) → exec (.flashEraseComplete part) s = .next (s.after part c)) ∧
    (∀ g, c.fw.staging = some g → g.erased = false → g.suspended = false → ∃ t : Common, exec (.flashEraseComplete part) s = .next (s.after part t) ∧
      t.fw = { c.fw with staging := some { g with erased := true } } ∧ t.mgmt.executing = c.mgmt.executing.filter (fun x => x.op != 0x0801) ∧
      (c.mgmt.executing.any (fun x => x.op == 0x0801) = false → t = { c with fw := t.fw }))) ∧
  (∀ (s : State) (z : ZPacket), s.accepts 0x0802 z = true →
    let c := s.gated 0x0802 z
    let off := pn z.payload 0 4
    let n := pn z.payload 4 2
    (∀ d, c.stageBusy = some d → exec (.fwStageData z) s = .next (s.afterZ z (c.zAnswer 0x0802 z zBusy d []))) ∧
    (c.stageBusy = none → c.fw.staging = none → exec (.fwStageData z) s = .next (s.afterZ z (c.zAnswer 0x0802 z 0x0803 0 []))) ∧
    (∀ g, c.stageBusy = none → c.fw.staging = some g →
      ((g.erased = false ∨ off ≠ g.data.length ∨ g.total < off + n) → exec (.fwStageData z) s = .next (s.afterZ z (c.zAnswer 0x0802 z 0x0803 (g.data.length / 256) []))) ∧
      (g.erased = true → off = g.data.length → off + n ≤ g.total → exec (.fwStageData z) s = .next (s.afterZ z
        (({ c with fw := { c.fw with staging := some { g with data := g.data ++ (z.payload.drop 8).take n } } } : Common).zOk 0x0802 z []))))) ∧
  (∀ (s : State) (z : ZPacket), s.accepts 0x0803 z = true →
    let c := s.gated 0x0803 z
    (∀ d, c.stageBusy = some d → exec (.fwStageEnd z) s = .next (s.afterZ z (c.zAnswer 0x0803 z zBusy d []))) ∧
    (c.stageBusy = none → c.fw.staging = none → exec (.fwStageEnd z) s = .next (s.afterZ z ((c.fwEvent 5).zAnswer 0x0803 z 0x0801 0x10 []))) ∧
    (∀ g, c.stageBusy = none → c.fw.staging = some g →
      (∀ k, c.imageBad g (z.payload.take 48) = some k →
        exec (.fwStageEnd z) s = .next (s.afterZ z ((({ c with fw := { c.fw with staging := none } } : Common).fwEvent 5).zAnswer 0x0803 z 0x0801 k []))) ∧
      (c.imageBad g (z.payload.take 48) = none → c.failedBoot = false →
        let i := imageOf g.data
        exec (.fwStageEnd z) s = .next (s.afterZ z ((({ c with fw := { c.fw.put (!c.fw.slotB) i with staging := none, staged := some i } } : Common).fwEvent 1).zOk 0x0803 z []))) ∧
      (c.imageBad g (z.payload.take 48) = none → c.failedBoot = true →
        let i := imageOf g.data
        ∃ t : Common, exec (.fwStageEnd z) s = .next (s.afterZ z t) ∧ t.fw = { c.fw.put (!c.fw.slotB) i with staging := none, staged := some i } ∧
          t.biv.st = .waking ∧ t.biv.cause = 3 ∧ t.biv.wakeAt = c.pick ∧ t.biv.booted = false))) ∧
  (∀ (c : Common) (g : FwStaging) (d : List Byte), c.imageBad g d = none →
    let b := g.data
    let size := ln b 8 4
    let block := b.drop (256 + size)
    b.length = g.total ∧ sha384 b = d ∧ ln b 0 4 = 0x46574D47 ∧ pb b 4 = 1 ∧ pb b 5 = imageKind c.part ∧ c.sec.svnFloor ≤ pb b 6 ∧ size % 4096 = 0 ∧ g.total = 648 + size ∧
      (∃ h, h ∈ c.sec.vendorHashes ∧ h.1 = sha384 (block.take 97) ∧ h.2 = false) ∧
      ecdsaOk (block.take 97) ((block.drop 97).take 97) (pn block 194 48) (pn block 242 48) = true ∧ ecdsaOk ((block.drop 97).take 97) (b.take (256 + size)) (pn block 292 48) (pn block 340 48) = true) ∧
  (∀ (s : State) (z : ZPacket), s.accepts 0x0804 z = true →
    let c := s.gated 0x0804 z
    let a := pn z.payload 0 8
    let d := (z.payload.drop 8).take 8
    (c.fwSame d = true → exec (.fwActivate z) s = .next (s.afterZ z (c.zSame 0x0804 z []))) ∧
    (c.fwSame d = false → c.fw.staged = none → exec (.fwActivate z) s = .next (s.afterZ z (c.zAnswer 0x0804 z 0x0802 0 []))) ∧
    (∀ i, c.fwSame d = false → c.fw.staged = some i →
      (i.digest.take 8 ≠ d → exec (.fwActivate z) s = .next (s.afterZ z (c.zAnswer 0x0804 z 0x0801 0x10 []))) ∧
      (i.digest.take 8 = d → a < c.pick + 1000 → exec (.fwActivate z) s = .next (s.afterZ z (c.zAnswer 0x0804 z 0x0112 1 []))) ∧
      (i.digest.take 8 = d → c.pick + 1000 ≤ a → c.test.isSome = true → exec (.fwActivate z) s = .next (s.afterZ z (c.zAnswer 0x0804 z zBusy 0x16 []))) ∧
      (i.digest.take 8 = d → c.pick + 1000 ≤ a → c.test = none →
        exec (.fwActivate z) s = .next (s.afterZ z (({ c with fw := { c.fw with pending := some a } } : Common).zOk 0x0804 z []))))) ∧
  (∀ (s : State) (part : Part), s.heldPart part = false →
    let c := s.common part
    ((∀ a, c.fw.pending = some a → c.pick < a) → exec (.fwActivationPick part) s = .next (s.after part c)) ∧
    let other := (c.fw.img (!c.fw.slotB)).digest
    let keys := bootKeys c.sec.unique other
    let booted : Security := { c.sec with bootDigest := other, keysAtBoot := keys, devid := sha384 keys.cert.issuer, uniqueClosed := true }
    (∀ a, c.fw.pending = some a → a ≤ c.pick → exec (.fwActivationPick part) s = .next (s.after part
      { ({ c with fw := { c.fw with slotB := !c.fw.slotB, pending := none, staged := none, restart := true, trial := true, fellBack := false } } : Common).event (resA c.part 0x310) 0x2000 with sec := booted })) ∧
    exec (.fwRestartDone part) s = .next (s.after part { c with fw := { c.fw with restart := false } }) ∧
    (∀ passed, c.fw.trial = false → exec (.fwTrialEnd part passed) s = .next (s.after part c)) ∧
    (c.fw.trial = true → ∃ t : Common, exec (.fwTrialEnd part true) s = .next (s.after part t) ∧
      t = { ({ c with fw := { c.fw with trial := false } } : Common).event (resA c.part 0x310) 0x3000 with sec := t.sec } ∧
      t.sec = { c.sec with svnFloor := if (c.fw.img c.fw.slotB).bump = true then max c.sec.svnFloor (c.fw.img c.fw.slotB).svn else c.sec.svnFloor }) ∧
    (c.fw.trial = true → exec (.fwTrialEnd part false) s = .next (s.after part
      { ({ c with fw := { c.fw with slotB := !c.fw.slotB, trial := false, restart := true, fellBack := true } } : Common).event (resA c.part 0x310) 0x4000 with sec := booted }))) ∧
  (∀ (s : State) (part : Part) (lineB up : Bool),
    let c := s.common part
    let noted : Common := { c with mgmt := if lineB then { c.mgmt with lineB := up } else { c.mgmt with lineA := up } }
    let with_ := fun (x : Common) => match part with | .sw => { s with sw := { s.sw with c := x } } | .ep => { s with ep := { s.ep with c := x } }
    ((if lineB then c.mgmt.lineB else c.mgmt.lineA) = up → exec (.guyLinkChange part lineB up) s = .next s) ∧
    ((if lineB then c.mgmt.lineB else c.mgmt.lineA) ≠ up → s.heldPart part = true → exec (.guyLinkChange part lineB up) s = .next (with_ noted)) ∧
    ((if lineB then c.mgmt.lineB else c.mgmt.lineA) ≠ up → s.heldPart part = false →
      exec (.guyLinkChange part lineB up) s = .next (with_ (noted.event (resA c.part 0x014) ((if up then 2 else 1) * 256 + b2n lineB))))) ∧
  (∀ (s : State) (z : ZPacket), s.accepts 0x0321 z = true →
    let c := s.gated 0x0321 z
    (c.ledger.records[pn z.payload 0 2]? = none → exec (.ledgerRead z) s = .next (s.afterZ z (c.zAnswer 0x0321 z zNotFound 0 []))) ∧
    (∀ r, c.ledger.records[pn z.payload 0 2]? = some r → exec (.ledgerRead z) s = .next (s.afterZ z (c.zOk 0x0321 z ((r.bytes.drop (128 * pb z.payload 2)).take 128))))) ∧
  (∀ r : LedgerRec, r.bytes.length = 256) ∧
  (∀ (s : State) (z : ZPacket), s.accepts 0x0320 z = true →
    let c := s.gated 0x0320 z
    let keys := (lossKinds z.kind).map (fun k => unitKey k z.index)
    ∃ (t : Common) (v : Byte), exec (.ledgerClear z) s = .next (s.afterZ z (t.zOk 0x0320 z [v, 0, 0, 0])) ∧ t = { c with ledger := { c.ledger with loss := t.ledger.loss } } ∧
      (∀ k, k ∈ keys → (Tab.get t.ledger.loss {} k).times = 0 ∧ min 255 (Tab.get c.ledger.loss {} k).times ≤ v.toNat) ∧
      (∀ k, k ∉ keys → Tab.find t.ledger.loss k = Tab.find c.ledger.loss k))

/-- In a part that accepts the command: a FENCE already in force or scheduled, and a TAKEOVER likewise, is OK with NO_CHANGE; with four changes waiting it is full; a FENCE at a pick that may not be committed at is PICK_UNTRUSTED or PICK_RANGE, and one whose epoch or pick is not later than every scheduled one is CONFLICT; otherwise it joins the scheduled changes. A TAKEOVER with a stale epoch, a node not fenced, a port that has a node, or a pick outside 1,000 to 1,500 ahead answers the list of just these conflicts; otherwise it joins the scheduled changes with the pitch of the node's old port. A good MEMB_NOTICE moves the end-point's epoch forward only, begins the fenced state, whose start completes FENCED each request that has not left the part, or ends it under a later epoch; a bad one is counted, a packet of another opcode does nothing, and a notice or receipt with a wrong CRC-64 strikes its port. UNIT_TEST is the same test again, BUSY for another test or a pending activation, refused as its unit's own judgement says, or taken, to begin at the first multiple of 1,024 at least 16 picks on. UNIT_TEST_DONE notes the result of a test that runs, and nothing else. The model's choices in it: log entries 47, 59. (R141, R571, R574, R576, R577, R582, R584, R585, R586, R693, Table 14.7, Table 14.8.) -/
def Obligations.FencesTakeoversAndUnitTestsAreAdmitted : Prop :=
  (∀ (s : State) (z : ZPacket), s.accepts 0x0301 z = true →
    let c := s.gated 0x0301 z
    let epoch := pn z.payload 0 4
    let pick := pn z.payload 4 8
    let set := fencedOf z.payload 12
    let same := (c.rd 0xA00040).toNat = epoch ∧ c.fencedSet = set ∨ ∃ m, m ∈ c.stage.memb ∧ m.move = none ∧ m.epoch = epoch ∧ m.fenced = set
    (same → exec (.fence z) s = .next (s.afterZ z (c.zSame 0x0301 z []))) ∧
    (¬same →
      (4 ≤ c.stage.memb.length → exec (.fence z) s = .next (s.afterZ z (c.zAnswer 0x0301 z 0x0114 0 []))) ∧
      (c.stage.memb.length < 4 →
        (c.time.st = .expired → exec (.fence z) s = .next (s.afterZ z (c.zAnswer 0x0301 z 0x0111 0 []))) ∧
        (c.time.st ≠ .expired → pick < c.pick + 1000 → exec (.fence z) s = .next (s.afterZ z (c.zAnswer 0x0301 z 0x0112 1 []))) ∧
        (c.time.st ≠ .expired → c.pick + 60000000 < pick → exec (.fence z) s = .next (s.afterZ z (c.zAnswer 0x0301 z 0x0112 2 []))) ∧
        (c.time.st ≠ .expired → c.pick + 1000 ≤ pick → pick ≤ c.pick + 60000000 →
          (c.membStale epoch pick = true → exec (.fence z) s = .next (s.afterZ z (c.zAnswer 0x0301 z 0x0110 1 []))) ∧
          (c.membStale epoch pick = false → exec (.fence z) s = .next (s.afterZ z
            (({ c with stage := { c.stage with memb := c.stage.memb ++ [{ pick := pick, epoch := epoch, fenced := set }] } } : Common).zOk 0x0301 z [])))))) ∧
    (c.membStale epoch pick = false ↔ laterEpoch epoch (c.rd 0xA00040).toNat = true ∧ ∀ m, m ∈ c.stage.memb → laterEpoch epoch m.epoch = true ∧ m.pick < pick)) ∧
  (∀ (s : State) (z : ZPacket), s.accepts 0x0302 z = true →
    let c := s.gated 0x0302 z
    let node := pb z.payload 0
    let port := pn z.payload 2 2
    let epoch := pn z.payload 4 4
    let pick := pn z.payload 8 8
    let is := fun (m : MembChange) => m.epoch = epoch ∧ m.pick = pick ∧ ∃ x, m.move = some (node, port, x)
    let same := (∃ m, m ∈ c.stage.memb ∧ is m) ∨ ((c.rd 0xA00040).toNat = epoch ∧ c.aliasOf node = some port ∧ ∃ m, c.stage.last = some m ∧ is m)
    (same → exec (.takeover z) s = .next (s.afterZ z (c.zSame 0x0302 z []))) ∧
    (¬same →
      (4 ≤ c.stage.memb.length → exec (.takeover z) s = .next (s.afterZ z (c.zAnswer 0x0302 z 0x0114 0 []))) ∧
      (c.stage.memb.length < 4 → c.time.st = .expired → exec (.takeover z) s = .next (s.afterZ z (c.zAnswer 0x0302 z 0x0111 0 []))) ∧
      (c.stage.memb.length < 4 → c.time.st ≠ .expired →
        (c.membStale epoch pick = false → c.fenced node = true → c.nodeAt port = none → c.pick + 1000 ≤ pick → pick ≤ c.pick + 1500 →
          exec (.takeover z) s = .next (s.afterZ z
            (({ c with stage := { c.stage with memb := c.stage.memb ++ [{ pick := pick, epoch := epoch, fenced := 0, move := some (node, port, c.portPitch (fld (c.rd (aliasA node)) 7 0)) }] } } : Common).zOk 0x0302 z []))) ∧
        ((c.membStale epoch pick = true ∨ c.fenced node = false ∨ (c.nodeAt port).isSome = true ∨ pick < c.pick + 1000 ∨ c.pick + 1500 < pick) →
          ∃ l : List Conflict, l ≠ [] ∧ exec (.takeover z) s = .next (s.afterZ z (c.zAnswer 0x0302 z 0x0110 l.length (conflictBytes z l))) ∧
            (0x150 ∈ l.map (·.code) ↔ c.membStale epoch pick = true) ∧ (0x151 ∈ l.map (·.code) ↔ c.fenced node = false) ∧
            (0x152 ∈ l.map (·.code) ↔ (c.nodeAt port).isSome = true) ∧ (0x153 ∈ l.map (·.code) ↔ pick < c.pick + 1000 ∨ c.pick + 1500 < pick))))) ∧
  (∀ (s : State) (k : Nat) (p : Packet), s.heldPart .ep = false → k < 8 → p.op ≠ opMgmt → exec (.membNotice k p) s = .next (s.afterEp s.ep)) ∧
  (∀ (s : State) (k : Nat) (p : Packet) (i : Instr), s.heldPart .ep = false → k < 8 → p.op = opMgmt → (i = .membNotice k p ∨ i = .combineReceipt k p) →
    (s.ep.portOpen k p.vc = false → exec i s = .next (s.afterEp s.ep)) ∧
    (s.ep.portOpen k p.vc = true → p.crcOk = false → exec i s = .next (s.afterEp ((s.ep.takeIn k p).crcDrop k))) ∧
    (s.ep.portOpen k p.vc = true → p.crcOk = true → (s.ep.takeIn k p).opened k p = none → exec i s = .next (s.afterEp ((s.ep.takeIn k p).authDrop k)))) ∧
  (∀ (s : State) (k : Nat) (p q : Packet), s.heldPart .ep = false → k < 8 → s.ep.brings k p q = true → p.op = opMgmt →
    let e := s.ep.takeIn k p
    let pay := q.mgmtBody.drop 16
    let epoch := pn pay 0 4
    let good := badHeader q = none ∧ lenAllowed q = true ∧ noticeOk q.mgmtBody 0x0303 = true ∧ membNoticeOk pay = true
    (¬good → exec (.membNotice k p) s = .next (s.afterEp { e with c := e.c.bump 0xD0024 })) ∧
    (good → ∃ t : EpState, exec (.membNotice k p) s = .next (s.afterEp t) ∧ t.home = e.home ∧ t.rlc = e.rlc ∧
      ((pb pay 4 ≠ 1 ∨ e.src.fencedEpoch.isSome = true) → t.src.reqs = e.src.reqs ∧ t.src.done = e.src.done) ∧
      (pb pay 4 = 1 → e.src.fencedEpoch = none →
        (∀ x, x ∈ t.src.reqs ↔ x ∈ e.src.reqs ∧ ∀ r, r ∈ e.src.reqs → e.unsent r = true → r.id ≠ x.id) ∧
        t.src.done.map (fun d => (d.req, d.status)) = e.src.done.map (fun d => (d.req, d.status)) ++ (e.src.reqs.filter e.unsent).map (fun r => (r, stFenced))) ∧
      (t.c.rd 0xD0040).toNat = (if laterEpoch epoch (e.c.rd 0xD0040).toNat = true then epoch else (e.c.rd 0xD0040).toNat) ∧
      (pb pay 4 = 1 → t.src.fencedEpoch = some (e.src.fencedEpoch.getD epoch)) ∧
      (pb pay 4 ≠ 1 → ∀ f, e.src.fencedEpoch = some f → t.src.fencedEpoch = if laterEpoch epoch f = true then none else some f) ∧
      (pb pay 4 ≠ 1 → e.src.fencedEpoch = none → t.src.fencedEpoch = none))) ∧
  (∀ (s : State) (z : ZPacket), s.accepts 0x0310 z = true →
    let c := s.gated 0x0310 z
    let kind := pb z.payload 0
    let chan := if kind = 3 then pb z.payload 1 else 0
    let start := testStart c.pick
    let t : TestRun := { kind := kind, unit := z.index, chan := chan, start := start }
    (start % 1024 = 0 ∧ c.pick + 16 ≤ start ∧ start < c.pick + 1040) ∧
    (∀ r, c.test = some r →
      ((r.kind = kind ∧ r.unit = z.index ∧ r.chan = chan) → exec (.unitTest z) s = .next (s.afterZ z (c.zSame 0x0310 z (beBytes r.start 8)))) ∧
      (¬(r.kind = kind ∧ r.unit = z.index ∧ r.chan = chan) → exec (.unitTest z) s = .next (s.afterZ z (c.zAnswer 0x0310 z zBusy 5 [])))) ∧
    (c.test = none →
      (c.fw.pending.isSome = true → exec (.unitTest z) s = .next (s.afterZ z (c.zAnswer 0x0310 z zBusy 6 []))) ∧
      (c.fw.pending = none → ∀ bad : Option (Nat × Nat),
        (kind = 3 ∧ bad = c.laneBad t (start + 2000) ∨ z.part = .sw ∧ kind = 1 ∧ bad = ({ s.sw with c := c } : SwState).coreBad t (start + 20000) ∨
          z.part = .sw ∧ kind = 2 ∧ bad = ({ s.sw with c := c } : SwState).shaftBad t (start + 5000)) →
        (∀ e, bad = some e → exec (.unitTest z) s = .next (s.afterZ z (c.zAnswer 0x0310 z e.1 e.2 []))) ∧
        (bad = none → exec (.unitTest z) s = .next (s.afterZ z (({ c with test := some t } : Common).zOk 0x0310 z (beBytes start 8))))))) ∧
  (∀ (c : Common) (t : TestRun) (stop : Nat),
    (c.testable t.unit t.chan = false → c.laneBad t stop = some (0x13, 0)) ∧
    (c.testable t.unit t.chan = true → (c.port t.unit).t.roles.contains 0x21 = true → c.laneBad t stop = none) ∧
    (c.testable t.unit t.chan = true → (c.port t.unit).t.roles.contains 0x21 = false → c.laneBad t stop = none ∨ c.laneBad t stop = some (zBusy, 1))) ∧
  (∀ (w : SwState) (t : TestRun) (stop : Nat),
    let x := (Tab.get w.core.shafts {} t.unit).st
    let spare := w.core.shafts.any (fun e => e.2.st == .standby)
    (x = .failed → w.shaftBad t stop = some (0x13, 0)) ∧ (x = .standby → w.shaftBad t stop = none) ∧ (x = .active → spare = true → w.shaftBad t stop = none) ∧
    (x = .active → spare = false → w.core.active.length < 8 → w.shaftBad t stop = some (zBusy, 4)) ∧
    (x = .active → spare = false → 8 ≤ w.core.active.length → w.shaftBad t stop = none ∨ w.shaftBad t stop = some (zBusy, 1)) ∧
    ((w.core' t.unit).st = .retired → w.coreBad t stop = some (0x13, 0)) ∧
    ((w.core' t.unit).st ≠ .retired → w.coreOpen t.unit = true → w.coreBad t stop = some (zBusy, 2)) ∧
    ((w.core' t.unit).st ≠ .retired → w.coreOpen t.unit = false → w.coreBad t stop = none ∨ w.coreBad t stop = some (zBusy, 3))) ∧
  (∀ (s : State) (part : Part) (pass : Bool), s.heldPart part = false →
    let c := s.common part
    ((∀ t, c.test = some t → t.running = false) → exec (.unitTestDone part pass) s = .next (s.after part c)) ∧
    (∀ t, c.test = some t → t.running = true → exec (.unitTestDone part pass) s = .next (s.after part { c with test := some { t with ended := some pass } })))

/-! ### Power, heat and the bivouac island (spec/15, spec/19) -/

/-- A cap below the floor is refused with the floor in watts rounded up and leaves the cap in force; another is taken, one at or above the part's maximum as no cap; either renews the lease. A lease that lapses discards the cap once, with its event. The alert land asserts once, with one event, and while the part is held only its level is noted; EP_PWR_ALERT_IN bit 0 is the end-point's alert; at a boundary an asserted alert puts the reserve limit in force and pauses the switch's programs, and the hold count ends both. Gates stay from 1 to 64, and loose traffic that fits keeps 64. A reading enters the latest five of its channel and no other channel; their median moves the filter, which the first sets. A sweep whose channel calls for a trip records it and takes the part to bivouac with cause TRIP, its DRAM kept; any other leaves the caps. THERMAL_ALERT starts a ramp alarm, or clears only one that a command started; RAMP_ALARM_END ends an alarm; after each the throttle stands exactly while the allowance is below 640. FLASH_INHIBIT_END ends the inhibit where the supplies are good, and a suspended erase goes on. The model's choices in it: log entries 20, 61. (R596, R599, R603, R604, R606, R608, R610, R611, R612, R613, R615, R616.) -/
def Obligations.CapsAlertsAndHeatLimitAPart : Prop :=
  (∀ (s : State) (z : ZPacket), s.accepts 0x0401 z = true →
    let c := s.gated 0x0401 z
    let cap := pn z.payload 2 2
    let live : Common := if c.pwr.lease = 0 then c.pwrEvent 4 else c
    (cap < c.pwr.floor → exec (.powerCap z) s = .next (s.afterZ z
      ((({ live with pwr := { c.pwr with lease := 5000000, belowFloor := true } } : Common).pwrEvent 2).zAnswer 0x0401 z 0x0401 ((c.pwr.floor + 9) / 10) (beBytes c.pwr.floor 2 ++ beBytes (c.pwr.cap.getD 0xFFFF) 2)))) ∧
    (c.pwr.floor ≤ cap →
      let v : Option Nat := if pwrMax c.part ≤ cap then none else some cap
      exec (.powerCap z) s = .next (s.afterZ z
        ((({ live with pwr := { c.pwr with lease := 5000000, belowFloor := false, cap := v, low0 := lowerCap c.pwr.low0 v } } : Common).pwrEvent 1).zOk 0x0401 z (beBytes c.pwr.floor 2 ++ beBytes (v.getD 0xFFFF) 2))))) ∧
  (∀ (s : State) (part : Part), s.heldPart part = false →
    let c := s.common part
    (c.pwr.lease = 0 → exec (.leaseExpired part) s = .next (s.after part c)) ∧
    (c.pwr.lease ≠ 0 → exec (.leaseExpired part) s = .next (s.after part (({ c with pwr := { c.pwr with lease := 0, cap := none } } : Common).pwrEvent 3))) ∧
    (c.pwr.alert = true → exec (.alertHoldExpired part) s = .next (s.after part c)) ∧
    (c.pwr.alert = false → exec (.alertHoldExpired part) s = .next (s.after part { c with pwr := { c.pwr with alertHold := max c.pwr.alertHold c.alertHoldPicks } })) ∧
    (∃ t : Common, exec (.rampAlarmEnd part) s = .next (s.after part t) ∧
      t.therm = { c.therm with ramp := none, coolSince := if c.therm.ramp = none then c.therm.coolSince else none, throttle := decide (t.allowance.1 < 640) } ∧ t.pwr = c.pwr ∧ t.biv = c.biv ∧
      (c.therm.ramp = none → t.therm.throttle = c.therm.throttle → t = c)) ∧
    ((c.therm.flashInhibit = false ∨ c.therm.goodSince = none) → exec (.flashInhibitEnd part) s = .next (s.after part c)) ∧
    (c.therm.flashInhibit = true → c.therm.goodSince ≠ none → ∃ t : Common, exec (.flashInhibitEnd part) s = .next (s.after part t) ∧ t.therm = { c.therm with flashInhibit := false, goodSince := none } ∧ t.pwr = c.pwr ∧ t.mgmt = c.mgmt ∧
      ∀ f, t.fw.staging = some f → f.erased = false → f.suspended = false)) ∧
  (∀ (s : State),
    let c := s.sw.c
    (s.heldPart .sw = true → exec .powerAlertAssert s = .next { s with sw := { s.sw with c := { c with pwr := { c.pwr with alert := true } } } } ∧
      exec .powerAlertDeassert s = .next { s with sw := { s.sw with c := { c with pwr := { c.pwr with alert := false } } } }) ∧
    (s.heldPart .sw = false → (c.pwr.alert = true → exec .powerAlertAssert s = .next s) ∧
      (c.pwr.alert = false → exec .powerAlertAssert s = .next { s with sw := { s.sw with c := ({ c with pwr := { c.pwr with alert := true, alertSeen := true, alertHold := 0 } } : Common).pwrEvent 5 } }) ∧
      exec .powerAlertDeassert s = .next { s with sw := { s.sw with c := { c with pwr := { c.pwr with alert := false, alertHold := 0 } } } })) ∧
  (∀ (s : State) (v : Nat), s.heldPart .ep = false → ∃ t : EpState, exec (.pwrAlertInWrite v) s = .next (s.afterEp t) ∧ t.c.pwr.alert = bit v 0 ∧ t.c.pwr.cap = s.ep.c.pwr.cap ∧ t.src = s.ep.src ∧ t.lha = s.ep.lha) ∧
  (∀ (c : Common),
    ((c.pwr.alert = true ∨ c.pwr.alertSeen = true) → c.alertBoundary.pwr.reserve = true ∧ (c.part = .sw → c.alertBoundary.pwr.paused = true)) ∧
    (c.pwr.alert = false → c.pwr.alertSeen = false → c.pwr.reserve = true →
      (c.alertHoldPicks ≤ c.pwr.alertHold + 1 → c.alertBoundary.pwr.reserve = false ∧ c.alertBoundary.pwr.paused = false) ∧
      (c.pwr.alertHold + 1 < c.alertHoldPicks → c.alertBoundary.pwr = { c.pwr with alertHold := c.pwr.alertHold + 1 }))) ∧
  (∀ (g floor staked loose full : Nat), 1 ≤ (gatesFor g floor staked loose full).1 ∧ (gatesFor g floor staked loose full).1 ≤ 64 ∧ 1 ≤ (gatesFor g floor staked loose full).2 ∧
    (gatesFor g floor staked loose full).2 ≤ 64 ∧ (floor + staked + loose ≤ 98 * g / 100 → (gatesFor g floor staked loose full).1 = 64)) ∧
  (∀ (c : Common) (r : SensorIn),
    let t := (c.readSensors [r]).therm.sensors
    let old := Tab.get c.therm.sensors {} r.chan
    (chanCount c.part ≤ r.chan → c.readSensors [r] = c) ∧
    (∀ ch, ch ≠ r.chan → Tab.find t ch = Tab.find c.therm.sensors ch) ∧
    (r.chan < chanCount c.part → (Tab.get t {} r.chan).samples = (r.raw :: old.samples).take 5 ∧
      (old.samples = [] → (Tab.get t {} r.chan).median = r.raw ∧ (Tab.get t {} r.chan).filt = 128 * r.raw) ∧
      (old.samples ≠ [] →
        (Tab.get t {} r.chan).filt = old.filt + (128 * (Tab.get t {} r.chan).median - old.filt) / 2 ^ (c.rf' (bivA c.part 0x004) 6 4)))) ∧
  (∀ (c : Common) (l : List SensorIn), (c.sweep l).therm.sensors = (c.readSensors l).therm.sensors ∧ (c.sweep l).biv = c.biv ∧ (c.sweep l).mgmt = c.mgmt ∧ ((c.sweep l).therm.tripped = c.therm.tripped)) ∧
  (∀ (c : Common) (ch : Nat), c.tripChan = some ch → ∃ x : Sensor, (ch, x) ∈ c.therm.sensors ∧ tempChan c.part ch = true ∧ 64 * (if dramChan c.part ch then 100 else 110) ≤ x.median) ∧
  (∀ (s : State) (l : List SensorIn), s.heldPart .sw = false →
    let c1 := s.sw.c.sweep l
    (c1.newTrip = none → exec (.sensorSample .sw l) s = .next (s.afterSw { s.sw with c := c1.sagWake.tripOver })) ∧
    (∀ ch, c1.newTrip = some ch → ∃ t : SwState, exec (.sensorSample .sw l) s = .next (s.afterSw t) ∧ t.c.therm.tripped = true ∧ t.c.biv.st = .bivouac ∧ t.dram = s.sw.dram ∧ t.progs = s.sw.progs ∧
      (s.sw.c.biv.st ≠ .bivouac → t.c.biv.cause = 2 ∧ t.colls = []))) ∧
  (∀ (s : State) (l : List SensorIn), s.heldPart .ep = false →
    let c1 := s.ep.c.sweep l
    (c1.newTrip = none → exec (.sensorSample .ep l) s = .next (s.afterEp { s.ep with c := c1.sagWake.tripOver })) ∧
    (∀ ch, c1.newTrip = some ch → ∃ t : EpState, exec (.sensorSample .ep l) s = .next (s.afterEp t) ∧ t.c.therm.tripped = true ∧ t.c.biv.st = .bivouac ∧
      (s.ep.c.biv.st ≠ .bivouac → t.c.biv.cause = 2 ∧ t.rlc = [] ∧ t.src.reqs = [] ∧ t.home.reqs = []))) ∧
  (∀ (s : State) (z : ZPacket), s.accepts 0x0402 z = true →
    let c := s.gated 0x0402 z
    let set := bit (pb z.payload 0) 0
    ∃ t : Common, exec (.thermalAlert z) s = .next (s.afterZ z (t.zOk 0x0402 z [])) ∧ t.pwr = c.pwr ∧ t.biv = c.biv ∧ t.mgmt = c.mgmt ∧
      (set = true → t.therm = { c.therm with ramp := some true, coolSince := if c.therm.ramp = none then none else c.therm.coolSince, throttle := decide (t.allowance.1 < 640) }) ∧
      (set = false → c.therm.ramp = some true → t.therm = { c.therm with ramp := none, coolSince := none, throttle := decide (t.allowance.1 < 640) }) ∧
      (set = false → c.therm.ramp ≠ some true → t.therm = { c.therm with throttle := decide (t.allowance.1 < 640) }) ∧
      ((set = true → c.therm.ramp ≠ none) → (set = false → c.therm.ramp ≠ some true) → t.therm.throttle = c.therm.throttle → t.rf = c.rf))

/-- BIVOUAC is BUSY with modules attached, PICK_RANGE less than 1,000 picks ahead, and otherwise notes its entry pick. BIVOUAC_ENTRY does nothing before the entry pick or while strikes run within their millisecond; at the entry pick it leaves AWAKE, and once the strikes are over the part stands in BIVOUAC with cause 1, its collectives and remote-line cache lost and its DRAM kept. WAKE is OK with NO_CHANGE in AWAKE and WAKING, BUSY while entering and where a wake is not allowed, and otherwise begins a wake with cause 1. WAKE_COMPLETE ends a wake whose boot is over, and no other. A rail fault takes the part to BIVOUAC with cause 2. Reset and the loss of power leave registers, sessions, keys, collectives and DRAM as after reset, and keep the images, owners, enrolled fuses and flash records; without power a reset does nothing. RESET_RELEASE begins the wake with cause 3 in a part that is held. Secure boot takes the slot last selected where it is good, else the other, and with neither leaves the part in BIVOUAC with cause 3; the boot derives its keys. WAKE_COMPLETE returns to service just those of the units told that the ledger has as out and lost fewer than three times. The model's choices in it: log entries 3, 62, 63, 86. (R557, R591, R613, R619, R620, R621, R622, R645, R648, R745, R748, R749.) -/
def Obligations.PartsSleepWakeAndReset : Prop :=
  (∀ (s : State) (z : ZPacket), s.accepts 0x0403 z = true →
    let c := s.gated 0x0403 z
    let p := pn z.payload 0 8
    (z.part = .ep → s.ep.lha.quiesced = false → s.ep.lha.attached ≠ [] → exec (.bivouac z) s = .next (s.afterZ z (c.zAnswer 0x0403 z zBusy 0x12 []))) ∧
    ((z.part = .sw ∨ s.ep.lha.quiesced = true ∨ s.ep.lha.attached = []) →
      (p < c.pick + 1000 → exec (.bivouac z) s = .next (s.afterZ z (c.zAnswer 0x0403 z 0x0112 1 []))) ∧
      (c.pick + 1000 ≤ p → exec (.bivouac z) s = .next (s.afterZ z (({ c with biv := { c.biv with entryPick := some p } } : Common).zOk 0x0403 z []))))) ∧
  (∀ (s : State), s.heldPart .sw = false →
    let c := s.sw.c
    (c.biv.st = .awake → (∀ p, c.biv.entryPick = some p → c.pick < p) → exec (.bivouacEntry .sw) s = .next (s.afterSw s.sw)) ∧
    (∀ p, c.biv.st = .awake → c.biv.entryPick = some p → p ≤ c.pick → ∃ t : SwState, exec (.bivouacEntry .sw) s = .next (s.afterSw t) ∧ (t.c.biv.st = .entering ∨ t.c.biv.st = .bivouac) ∧
      t.c.biv.cause = 1 ∧ t.dram = s.sw.dram) ∧
    (∀ p, c.biv.st = .entering → c.biv.entryPick = some p → c.pick < p + 1000 → (∃ e, e ∈ c.ports ∧ e.2.t.strike ≠ none) → exec (.bivouacEntry .sw) s = .next (s.afterSw s.sw)) ∧
    (c.biv.st = .entering → ((∀ e, e ∈ c.ports → e.2.t.strike = none) ∨ ∀ p, c.biv.entryPick = some p → p + 1000 ≤ c.pick) → ∃ t : SwState, exec (.bivouacEntry .sw) s = .next (s.afterSw t) ∧
      t.c.biv.st = .bivouac ∧ t.c.biv.cause = 1 ∧ t.c.biv.entryPick = none ∧ t.c.biv.selfRefresh = true ∧ t.colls = [] ∧ t.dram = s.sw.dram ∧ t.progs = s.sw.progs) ∧
    ((c.biv.st = .bivouac ∨ c.biv.st = .waking) → exec (.bivouacEntry .sw) s = .next (s.afterSw s.sw))) ∧
  (∀ (s : State), s.heldPart .ep = false →
    let c := s.ep.c
    (c.biv.st = .awake → (∀ p, c.biv.entryPick = some p → c.pick < p) → exec (.bivouacEntry .ep) s = .next (s.afterEp s.ep)) ∧
    (∀ p, c.biv.st = .entering → c.biv.entryPick = some p → c.pick < p + 1000 → (∃ e, e ∈ c.ports ∧ e.2.t.strike ≠ none) → exec (.bivouacEntry .ep) s = .next (s.afterEp s.ep)) ∧
    (∀ p, c.biv.st = .awake → c.biv.entryPick = some p → p ≤ c.pick → ∃ t : EpState, exec (.bivouacEntry .ep) s = .next (s.afterEp t) ∧
      t.c.biv.cause = 1 ∧ t.lha.attached = s.ep.lha.attached ∧ (t.c.biv.st = .entering ∧ t.src = s.ep.src ∧ t.home = s.ep.home ∨ t.c.biv.st = .bivouac ∧ t.src.reqs = [] ∧ t.home.reqs = [])) ∧
    (c.biv.st = .entering → ((∀ e, e ∈ c.ports → e.2.t.strike = none) ∨ ∀ p, c.biv.entryPick = some p → p + 1000 ≤ c.pick) → ∃ t : EpState, exec (.bivouacEntry .ep) s = .next (s.afterEp t) ∧
      t.c.biv.st = .bivouac ∧ t.c.biv.cause = 1 ∧ t.c.biv.entryPick = none ∧ t.rlc = [] ∧ t.src.reqs = [] ∧ t.home.reqs = [] ∧ t.lha.attached = s.ep.lha.attached) ∧
    ((c.biv.st = .bivouac ∨ c.biv.st = .waking) → exec (.bivouacEntry .ep) s = .next (s.afterEp s.ep))) ∧
  (∀ (s : State) (z : ZPacket), s.accepts 0x0404 z = true →
    let c := s.gated 0x0404 z
    let w := c.startWake 1
    ((c.biv.st = .awake ∨ c.biv.st = .waking) → exec (.wake z) s = .next (s.afterZ z (c.zSame 0x0404 z []))) ∧
    (c.biv.st = .entering → exec (.wake z) s = .next (s.afterZ z (c.zAnswer 0x0404 z zBusy 0x13 []))) ∧
    (c.biv.st = .bivouac → c.wakeReady = false → exec (.wake z) s = .next (s.afterZ z (c.zAnswer 0x0404 z zBusy 0x14 []))) ∧
    (c.biv.st = .bivouac → c.wakeReady = true → exec (.wake z) s = .next (s.afterZ z (w.zOk 0x0404 z [])) ∧
      w.biv = { c.biv with st := .waking, cause := 1, wakeAt := c.pick, booted := true, railFault := false } ∧ w.mgmt = c.mgmt)) ∧
  (∀ (s : State) (l : List (Nat × Nat)),
    (s.heldPart .sw = false → s.sw.c.wakeMayEnd = false → exec (.wakeComplete .sw l) s = .next (s.afterSw s.sw)) ∧
    (s.heldPart .ep = false → s.ep.c.wakeMayEnd = false → exec (.wakeComplete .ep l) s = .next (s.afterEp s.ep)) ∧
    (s.heldPart .sw = false → s.sw.c.wakeMayEnd = true → ∃ t : SwState, exec (.wakeComplete .sw l) s = .next (s.afterSw t) ∧ t.c.biv.st = .awake ∧ t.c.biv.selfRefresh = false ∧ t.c.biv.entryPick = none ∧
      t.dram = s.sw.dram ∧ t.colls = s.sw.colls ∧ t.progs = s.sw.progs ∧
      ∀ key, (Tab.get t.c.ledger.loss {} key).out = ((Tab.get s.sw.c.ledger.loss {} key).out && !l.any (fun u => unitKey u.1 u.2 == key && s.sw.c.returns u.1 u.2))) ∧
    (s.heldPart .ep = false → s.ep.c.wakeMayEnd = true → ∃ t : EpState, exec (.wakeComplete .ep l) s = .next (s.afterEp t) ∧ t.c.biv.st = .awake ∧ t.c.biv.entryPick = none ∧ t.lha = s.ep.lha ∧ t.src = s.ep.src ∧
      ∀ key, (Tab.get t.c.ledger.loss {} key).out = ((Tab.get s.ep.c.ledger.loss {} key).out && !l.any (fun u => unitKey u.1 u.2 == key && s.ep.c.returns u.1 u.2)))) ∧
  (∀ (c : Common) (k u : Nat), c.returns k u = true ↔ (Tab.get c.ledger.loss {} (unitKey k u)).out = true ∧ (Tab.get c.ledger.loss {} (unitKey k u)).times < 3) ∧
  (∀ (s : State),
    (s.heldPart .sw = false → s.sw.c.biv.st = .bivouac → exec (.railFault .sw) s = .next (s.afterSw { s.sw with c := s.sw.c.noteRail })) ∧
    (s.heldPart .sw = false → s.sw.c.biv.st ≠ .bivouac → ∃ t : SwState, exec (.railFault .sw) s = .next (s.afterSw t) ∧ t.c.biv.st = .bivouac ∧ t.c.biv.cause = 2 ∧ t.c.biv.railFault = true ∧ t.colls = [] ∧
      t.dram = s.sw.dram) ∧
    (s.heldPart .ep = false → s.ep.c.biv.st = .bivouac → exec (.railFault .ep) s = .next (s.afterEp { s.ep with c := s.ep.c.noteRail })) ∧
    (s.heldPart .ep = false → s.ep.c.biv.st ≠ .bivouac → ∃ t : EpState, exec (.railFault .ep) s = .next (s.afterEp t) ∧ t.c.biv.st = .bivouac ∧ t.c.biv.cause = 2 ∧ t.c.biv.railFault = true ∧ t.rlc = [])) ∧
  (∀ (s : State) (part : Part) (i : Instr) (vaux : Bool), (i = .resetAssert part ∧ vaux = true ∧ (s.common part).biv.dead = false ∨ i = .suddenPowerLoss part ∧ vaux = false) →
    ∃ t : State, exec i s = .next t ∧
      let c := s.common part
      let d := t.common part
      d.held = true ∧ d.biv.inReset = true ∧ d.biv.dead = !vaux ∧ d.rf = {} ∧ d.pick = 0 ∧ d.mgmt.executing = [] ∧ d.mgmt.kept = [] ∧ d.sec.sessions = [] ∧ d.sec.keys = [] ∧ d.stage = {} ∧
      d.id = c.id ∧ d.fw.imgA = c.fw.imgA ∧ d.fw.imgB = c.fw.imgB ∧ d.fw.slotB = (if c.fw.trial = true then !c.fw.slotB else c.fw.slotB) ∧ d.sec.owners = c.sec.owners ∧ d.sec.unique = c.sec.unique ∧ d.sec.vendorHashes = c.sec.vendorHashes ∧ d.sec.svnFloor = c.sec.svnFloor ∧
      d.ledger.records = c.ledger.records ∧ d.ledger.loss = c.ledger.loss ∧ d.opt.laserEn = c.opt.laserEn ∧
      (part = .sw → t.sw.dram = [] ∧ t.sw.colls = [] ∧ t.sw.progs = [] ∧ t.ep = s.ep) ∧ (part = .ep → t.ep.lha.attached = [] ∧ t.ep.src.reqs = [] ∧ t.ep.rlc = [] ∧ t.sw = s.sw)) ∧
  (∀ (s : State) (part : Part),
    let c := s.common part
    (c.biv.dead = true → exec (.resetAssert part) s = .next s) ∧
    (c.biv.inReset = false → exec (.resetRelease part) s = .next s) ∧
    (c.biv.inReset = true → ∃ t : State, exec (.resetRelease part) s = .next t ∧
      (t.common part).biv = { c.biv with inReset := false, dead := false, st := .waking, cause := 3, wakeAt := c.pick, booted := false } ∧
      (part = .sw → t.ep = s.ep ∧ t.sw.core.rotation = ((List.range 9).filter (fun n => !(c.ledger.outUnits 3).contains n)).take 8) ∧ (part = .ep → t.sw = s.sw))) ∧
  (∀ (s : State) (part : Part) (okA okB : Bool), s.heldPart part = false →
    let c := s.common part
    let first := c.fw.slotB
    let good := fun (b : Bool) => (if b then okB else okA) = true ∧ c.sec.svnFloor ≤ (c.fw.img b).svn
    ((c.biv.st ≠ .waking ∨ c.biv.cause ≠ 3 ∨ c.biv.booted = true) → exec (.secureBootDone part okA okB) s = .next (s.after part c)) ∧
    (c.biv.st = .waking → c.biv.cause = 3 → c.biv.booted = false →
      (good first → exec (.secureBootDone part okA okB) s = .next (s.after part (c.bootFrom first))) ∧
      (¬good first → good (!first) → exec (.secureBootDone part okA okB) s = .next (s.after part ((c.slotFails first).bootFrom (!first)))) ∧
      (¬good first → ¬good (!first) → ∃ t : Common, exec (.secureBootDone part okA okB) s = .next (s.after part t) ∧ t.biv.st = .bivouac ∧ t.biv.cause = 3 ∧ t.sec.bootOk = false ∧ t.fw = c.fw))) ∧
  (∀ (c : Common) (slotB : Bool), (c.bootFrom slotB).biv.booted = true ∧ (c.bootFrom slotB).sec.bootOk = true ∧ (c.bootFrom slotB).fw = { c.fw with slotB := slotB } ∧ (c.bootFrom slotB).sec.bootDigest = (c.fw.img slotB).digest ∧
    let keys := bootKeys c.sec.unique (c.fw.img slotB).digest
    (c.bootFrom slotB).sec.keysAtBoot = keys ∧ (c.bootFrom slotB).sec.devid = sha384 keys.cert.issuer ∧ (c.bootFrom slotB).rf = c.rf)

/-! ### Security (spec/16) -/

/-- The end of scrubs takes exactly those of its pitch or unit out of the list, empties the scratchpad, contexts and line buffer of each core among them, leaves zero in each DRAM unit among them and every other byte of DRAM as it was; the pitch's state waits for the boundary. EP_SCRUB_DONE, where the scrub runs, erases keys, caches, measurement slots and records and puts the waiting pitch in force, and otherwise does nothing. A debug unlock erases every key and DRAM byte, the cores and the enrolled hashes, and stops every open collective. In a part that accepts the command: OWNER_ENROL of an owned part is OWNED, with every slot used SLOT_FULL, otherwise a slot with the hash of the session's root key joins; OWNER_RELEASE releases the slot in use only on a good signature; PITCH_ENROL keeps the hashes of its pitch; PITCH_KEY_SET puts the key in the inactive phase of its pitch, or is PITCH_SCOPE where neither a manager nor the pitch's own tenant asks, and touches no other key. The model's choices in it: log entries 57, 64, 65. (R632, R633, R634, R635, R650, R651, R654, R664, R667, R703, Table 16.3.) -/
def Obligations.ScrubsErasePitchesAndKeysHaveOwners : Prop :=
  (∀ (s : State) (p kind unit : Nat) (i : Instr) (f : Scrub → Bool), s.heldPart .sw = false →
    (i = .pitchScrubDone p ∧ p < 16 ∧ Tab.get s.sw.pitches .free p = .scrubbing ∧ f = (fun x => x.pitch == p) ∨
      i = .resourceScrubDone kind unit ∧ kind < 5 ∧ f = (fun x => x.kind.code == kind && x.unit == unit)) →
    let inside := fun (x : Scrub) (a : Nat) => x.kind = .dram ∧ x.unit / 65536 * 2 ^ 36 + x.unit % 65536 * 2 ^ 26 ≤ a ∧ a < x.unit / 65536 * 2 ^ 36 + x.unit % 65536 * 2 ^ 26 + 2 ^ 26
    ∃ t : SwState, exec i s = .next (s.afterSw t) ∧ t.scrubs = s.sw.scrubs.filter (fun x => !f x) ∧ t.pitches = s.sw.pitches ∧ t.progs = s.sw.progs ∧ t.colls = s.sw.colls ∧
      (∀ x, x ∈ s.sw.scrubs → f x = true → x.kind = .core → (t.core' x.unit).pad = [] ∧ (t.core' x.unit).ctxs = [] ∧ (t.core' x.unit).lines = [] ∧ (t.core' x.unit).scrub = false) ∧
      (∀ k, (∀ x, x ∈ s.sw.scrubs → f x = true → x.kind = .core → x.unit ≠ k) → t.core' k = s.sw.core' k) ∧
      (∀ a x, x ∈ s.sw.scrubs → f x = true → inside x a → t.dram.byte a = 0) ∧
      (∀ a, (∀ x, x ∈ s.sw.scrubs → f x = true → ¬inside x a) → t.dram.byte a = s.sw.dram.byte a)) ∧
  (∀ (s : State) (p : Nat), s.heldPart .sw = false → p < 16 → Tab.get s.sw.pitches .free p ≠ .scrubbing → exec (.pitchScrubDone p) s = .next (s.afterSw s.sw)) ∧
  (∀ (s : State), s.heldPart .ep = false →
    ((s.ep.c.sec.scrubTo = none ∨ s.ep.c.sec.scrubOn = false) → exec .epScrubDone s = .next (s.afterEp s.ep)) ∧
    (∀ v, s.ep.c.sec.scrubTo = some v → s.ep.c.sec.scrubOn = true → ∃ t : EpState, exec .epScrubDone s = .next (s.afterEp t) ∧ t.c.sec.scrubTo = none ∧ t.c.sec.scrubOn = false ∧
      t.c.sec.keys = [] ∧ t.c.rd 0xF0000 = BitVec.ofNat 32 v ∧ t.rlc = [] ∧ t.meas = [] ∧ t.home.recs = [] ∧ t.home.senders = [])) ∧
  (∀ (s : State),
    (s.heldPart .sw = false → ∃ t : SwState, exec (.debugUnlock .sw) s = .next (s.afterSw t) ∧ t.c.sec.keys = [] ∧ t.c.sec.unlocked = true ∧ t.scrubs = [] ∧ t.dram = [] ∧
      (∀ k, (t.core' k).pad = [] ∧ (t.core' k).ctxs = [] ∧ (t.core' k).lines = []) ∧ (∀ p, p < 16 → Tab.find t.c.sec.enrol p = none) ∧
      (∀ r, r ∈ t.colls → r.st ≠ .committed → r.cause.isSome = true)) ∧
    (s.heldPart .ep = false → ∃ t : EpState, exec (.debugUnlock .ep) s = .next (s.afterEp t) ∧ t.c.sec.keys = [] ∧ t.c.sec.unlocked = true ∧ t.rlc = [] ∧ t.meas = [] ∧ t.home.recs = [])) ∧
  (∀ (s : State) (z : ZPacket), s.accepts 0x0902 z = true →
    let c := s.gated 0x0902 z
    (c.sec.owned = true → exec (.ownerEnrol z) s = .next (s.afterZ z (c.zAnswer 0x0902 z 0x0901 (c.sec.owners.length - 1) []))) ∧
    (c.sec.owned = false → 8 ≤ c.sec.owners.length → exec (.ownerEnrol z) s = .next (s.afterZ z (c.zAnswer 0x0902 z 0x0903 0 []))) ∧
    (c.sec.owned = false → c.sec.owners.length < 8 →
      let x : Security := { c.sec with owners := c.sec.owners ++ [{ hash := sha384 (c.sessionAt z).chain }] }
      x.owned = true ∧ exec (.ownerEnrol z) s = .next (s.afterZ z ((({ c with sec := x } : Common).event (secEventA c.part) 0x8000).zOk 0x0902 z (beBytes c.sec.owners.length 1 ++ [0, 0, 0]))))) ∧
  (∀ (s : State) (z : ZPacket), s.accepts 0x0903 z = true →
    let c := s.gated 0x0903 z
    let key := (c.sessionAt z).chain
    let good := c.sec.owned = true ∧ (c.sec.owners.getLast?.map (·.hash)) = some (sha384 key) ∧ ecdsaOk key c.releaseText (pn z.payload 0 48) (pn z.payload 48 48) = true
    (¬good → exec (.ownerRelease z) s = .next (s.afterZ z (c.zAnswer 0x0903 z 0x0902 0 []))) ∧
    (good → ∃ t : Common, exec (.ownerRelease z) s = .next (s.afterZ z (t.zOk 0x0903 z [])) ∧ t.sec.owned = false ∧ t.sec.owners.length = c.sec.owners.length ∧
      t.sec.owners.map (·.hash) = c.sec.owners.map (·.hash) ∧ t = ({ c with sec := { c.sec with owners := t.sec.owners } } : Common).event (secEventA c.part) 0x8000) ∧
    c.releaseText = beBytes c.id.serial 8 ++ beBytes (c.sec.owners.length - 1) 1 ++ List.replicate 7 0) ∧
  (∀ (s : State) (z : ZPacket), s.accepts 0x0904 z = true →
    let c := s.gated 0x0904 z
    let hash := fun (k : Nat) => (z.payload.drop k).take 48
    exec (.pitchEnrol z) s = .next (s.afterZ z (({ c with sec := { c.sec with enrol := Tab.put c.sec.enrol z.index { tenant := hash 4, signers := (List.range (pb z.payload 0)).map (fun j => hash (52 + 48 * j)) } } } : Common).zOk 0x0904 z []))) ∧
  (∀ (s : State) (z : ZPacket), s.accepts 0x0905 z = true →
    let c := s.gated 0x0905 z
    let ph := 1 - c.phase z.index
    (c.mayKey z = false → exec (.pitchKeySet z) s = .next (s.afterZ z (c.zAnswer 0x0905 z 0x0016 0 []))) ∧
    (c.mayKey z = true → ∃ t : Common, exec (.pitchKeySet z) s = .next (s.afterZ z (t.zOk 0x0905 z (beBytes ph 1 ++ [0, 0, 0]))) ∧
      t = ({ c with sec := { c.sec with keys := t.sec.keys } } : Common).event (secEventA c.part) (0x6000 + if c.part = .sw then z.index % 16 * 256 else 0) ∧
      Tab.find t.sec.keys (c.keySlot z.index ph) = some { key := z.payload.take 32 } ∧ (∀ k, k ≠ c.keySlot z.index ph → Tab.find t.sec.keys k = Tab.find c.sec.keys k)) ∧
    (c.mayKey z = true ↔ (c.sessionOf z = some .manager ∨ c.sessionOf z = some (.tenant z.index)) ∧ (c.part = .ep → z.index = c.rf' 0xF0000 3 0)))

/-- While the responder runs, an answer joins the responses, and the oldest SPDM_MSG in execution, if any, is answered. GET_VERSION begins the connection, GET_CAPABILITIES and NEGOTIATE_ALGORITHMS follow in order (the order is that of SPDM 1.2, presumed in the log), GET_DIGESTS, GET_CERTIFICATE and CHALLENGE of slot 0 succeed after them. KEY_EXCHANGE opens a session not open yet, at most eight, with the role that the requester's chain gives; FINISH establishes it or closes it; HEARTBEAT and KEY_UPDATE need it established; END_SESSION closes it, its answer sent first. GET_MEASUREMENTS answers the blocks asked for of those that the session may read: blocks 1 to 4, those of a tenant's own pitch, or all for a manager. With the responder down, none of these does anything. SPDM_MSG under a session not open is NO_SESSION; a secured message that encloses another tag is MALFORMED; one repeated with the same packet enclosed leaves the answer to that packet; any other waits for its answer. CHALLENGE, KEY_EXCHANGE and GET_MEASUREMENTS are signed with the alias key. The model's choices in it: log entries 3, 65, 86. (R652, R653, R655, R656, R678, Table 16.10.) -/
def Obligations.SessionsOpenUpdateAndClose : Prop :=
  (∀ (c : Common) (x : SpdmRsp),
    let kept : Common := { c with sec := { c.sec with rsp := c.sec.rsp ++ [x] } }
    let bytes := if x.session = 0 then Config.spdmMessage c.free else Config.securedMessage x.session (c.keyGen x.session) c.free (Config.spdmMessage c.free)
    ((∀ e, e ∈ c.mgmt.executing → e.op ≠ 0x0901) → c.spdmSend x = kept) ∧
    (∀ e, c.mgmt.executing.find? (fun e => e.op == 0x0901) = some e → c.spdmSend x = ({ kept with free := c.free + 1 } : Common).endExec 0x0901 e.tag 0 0 (spdmForm x.session bytes) ∧
      (c.spdmSend x).sec = kept.sec ∧ (c.spdmSend x).mgmt.executing = c.mgmt.executing.erase e)) ∧
  (∀ (s : State) (r : SpdmReq) (i : Instr), s.heldPart r.part = false → (s.common r.part).spdmUp = false →
    (i = .getVersion r ∨ i = .getCapabilities r ∨ i = .negotiateAlgorithms r ∨ i = .getDigests r ∨ i = .getCertificate r ∨ i = .challenge r ∨ i = .getMeasurements r ∨ i = .keyExchange r ∨
      i = .finish r ∨ i = .heartbeat r ∨ i = .keyUpdate r ∨ i = .endSession r) →
    exec i s = .next (s.after r.part (s.common r.part))) ∧
  (∀ (s : State) (r : SpdmReq), s.heldPart r.part = false → (s.common r.part).spdmUp = true →
    let c := s.common r.part
    let n := c.sec.negotiated
    let signer := c.sec.keysAtBoot.cert.subject
    exec (.getVersion r) s = .next (s.after r.part (({ c with sec := { c.sec with negotiated := 1 } } : Common).spdmAnswer "GET_VERSION" r true [])) ∧
    (∀ (i : Instr) (req : String) (stage : Nat), (i = .getCapabilities r ∧ req = "GET_CAPABILITIES" ∧ stage = 2 ∨ i = .negotiateAlgorithms r ∧ req = "NEGOTIATE_ALGORITHMS" ∧ stage = 3) →
      ((n + 1 = stage ∨ n = stage) → exec i s = .next (s.after r.part (({ c with sec := { c.sec with negotiated := stage } } : Common).spdmAnswer req r true []))) ∧
      (n + 1 ≠ stage → n ≠ stage → exec i s = .next (s.after r.part (c.spdmAnswer req r false [])))) ∧
    (∀ (i : Instr) (req : String) (ok : Bool), (i = .getDigests r ∧ req = "GET_DIGESTS" ∧ (ok = true ↔ 3 ≤ n) ∨ i = .getCertificate r ∧ req = "GET_CERTIFICATE" ∧ ¬(r.index = 0 ∧ 3 ≤ n) ∧ ok = false ∨
        i = .challenge r ∧ req = "CHALLENGE" ∧ ¬(r.index = 0 ∧ 3 ≤ n) ∧ ok = false ∨ i = .heartbeat r ∧ req = "HEARTBEAT" ∧ (ok = true ↔ c.sessionUp r.session = true)) →
      exec i s = .next (s.after r.part (c.spdmAnswer req r ok []))) ∧
    (r.index = 0 → 3 ≤ n →
      exec (.getCertificate r) s = .next (s.after r.part (c.spdmSend { req := "GET_CERTIFICATE", session := r.session, ok := true, certs := [{ subject := c.sec.keysAtBoot.cert.issuer }, c.sec.keysAtBoot.cert] })) ∧
      exec (.challenge r) s = .next (s.after r.part (c.spdmSend { req := "CHALLENGE", session := r.session, ok := true, signer := signer }))) ∧
    ((3 ≤ n ∧ r.good = true ∧ r.session ≠ 0 ∧ Tab.find c.sec.sessions r.session = none ∧ c.sec.sessions.length < 8) → ∃ t : Common,
      exec (.keyExchange r) s = .next (s.after r.part (t.spdmSend { req := "KEY_EXCHANGE", session := r.session, ok := true, signer := signer })) ∧ t.mgmt = c.mgmt ∧ t.sec.keysAtBoot = c.sec.keysAtBoot ∧
      Tab.find t.sec.sessions r.session = some { role := c.roleOfChain r.chain, chain := r.chain } ∧ (∀ k, k ≠ r.session → Tab.find t.sec.sessions k = Tab.find c.sec.sessions k)) ∧
    (¬(3 ≤ n ∧ r.good = true ∧ r.session ≠ 0 ∧ Tab.find c.sec.sessions r.session = none ∧ c.sec.sessions.length < 8) →
      exec (.keyExchange r) s = .next (s.after r.part (c.spdmAnswer "KEY_EXCHANGE" r false []))) ∧
    ((∀ x, Tab.find c.sec.sessions r.session = some x → x.established = true) → exec (.finish r) s = .next (s.after r.part (c.spdmAnswer "FINISH" r false []))) ∧
    (∀ x, Tab.find c.sec.sessions r.session = some x → x.established = false →
      (r.good = true → exec (.finish r) s = .next (s.after r.part
        (({ c with sec := { c.sec with sessions := Tab.put c.sec.sessions r.session { x with established := true } } } : Common).spdmAnswer "FINISH" r true []))) ∧
      (r.good = false → exec (.finish r) s = .next (s.after r.part ((c.closeSession r.session).spdmAnswer "FINISH" r false [])))) ∧
    (c.sessionUp r.session = false → exec (.keyUpdate r) s = .next (s.after r.part (c.spdmAnswer "KEY_UPDATE" r false [])) ∧
      exec (.endSession r) s = .next (s.after r.part (c.spdmAnswer "END_SESSION" r false []))) ∧
    (c.sessionUp r.session = true → exec (.endSession r) s = .next (s.after r.part ((c.spdmAnswer "END_SESSION" r true []).closeSession r.session))) ∧
    (∀ x, Tab.find c.sec.sessions r.session = some x → x.established = true → ∃ t : Common, exec (.keyUpdate r) s = .next (s.after r.part (t.spdmAnswer "KEY_UPDATE" r true [])) ∧ t.mgmt = c.mgmt ∧
      Tab.find t.sec.sessions r.session = some { x with keyGen := x.keyGen + 1 } ∧ (∀ k, k ≠ r.session → Tab.find t.sec.sessions k = Tab.find c.sec.sessions k))) ∧
  (∀ (c : Common) (k : Nat), Tab.find (c.closeSession k).sec.sessions k = none ∧ (∀ j, j ≠ k → Tab.find (c.closeSession k).sec.sessions j = Tab.find c.sec.sessions j) ∧
    (c.closeSession k).sec.keys = c.sec.keys) ∧
  (∀ (s : State) (r : SpdmReq), s.heldPart r.part = false → (s.common r.part).spdmUp = true →
    let ok := decide (3 ≤ (s.common r.part).sec.negotiated)
    (r.part = .sw → exec (.getMeasurements r) s = .next (s.afterSw { s.sw with c := s.sw.c.spdmSend { req := "GET_MEASUREMENTS", session := r.session, ok := ok, blocks := if ok then askedBlocks r.index (s.sw.blocks (s.sw.c.scope r.session)) else [], signer := if ok then s.sw.c.sec.keysAtBoot.cert.subject else [] } })) ∧
    (r.part = .ep → exec (.getMeasurements r) s = .next (s.afterEp { s.ep with c := s.ep.c.spdmSend { req := "GET_MEASUREMENTS", session := r.session, ok := ok, blocks := if ok then askedBlocks r.index (s.ep.blocks (s.ep.c.scope r.session)) else [], signer := if ok then s.ep.c.sec.keysAtBoot.cert.subject else [] } }))) ∧
  (∀ (w : SwState) (p n : Nat), (n ∈ (w.blocks .boot).map (·.1) ↔ 1 ≤ n ∧ n ≤ 4) ∧
    (n ∈ (w.blocks (.pitch p)).map (·.1) ↔ 1 ≤ n ∧ n ≤ 4 ∨ n = 0x20 + p ∨ 0x40 ≤ n ∧ n < 0x80) ∧
    (n ∈ (w.blocks .all).map (·.1) ↔ 1 ≤ n ∧ n ≤ 4 ∨ 0x20 ≤ n ∧ n < 0x30 ∨ 0x40 ≤ n ∧ n < 0x80)) ∧
  (∀ (w : EpState) (p n : Nat), p < 16 → (n ∈ (w.blocks .boot).map (·.1) ↔ 1 ≤ n ∧ n ≤ 4) ∧
    (n ∈ (w.blocks (.pitch p)).map (·.1) ↔ 1 ≤ n ∧ n ≤ 4 ∨ n = 0x20 + p ∨ 0x80 ≤ n ∧ n < 0x90 ∧ (Tab.get w.meas {} (n - 0x80)).pitch = p ∨ n = 0x90 ∧ w.c.rf' 0xF0000 3 0 = p) ∧
    (n ∈ (w.blocks .all).map (·.1) ↔ 1 ≤ n ∧ n ≤ 4 ∨ 0x20 ≤ n ∧ n < 0x30 ∨ 0x80 ≤ n ∧ n ≤ 0x90)) ∧
  (∀ (s : State) (z : ZPacket) (enclosed : Option Nat), s.heldPart z.part = false →
    ((s.common z.part).repeatsInner z enclosed = true → exec (.spdmMsg z enclosed) s = .next (s.afterZ z (s.common z.part))) ∧
    ((s.common z.part).repeatsInner z enclosed = false → s.accepts 0x0901 z = false → exec (.spdmMsg z enclosed) s = .next (s.afterZ z (s.gated 0x0901 z)))) ∧
  (∀ (s : State) (z : ZPacket), s.accepts 0x0901 z = true →
    let c := s.gated 0x0901 z
    let k := pn z.payload 0 4
    (∀ enclosed, k ≠ 0 → Tab.find c.sec.sessions k = none → exec (.spdmMsg z enclosed) s = .next (s.afterZ z (c.zAnswer 0x0901 z 0x0904 0 []))) ∧
    ((k = 0 ∨ (Tab.find c.sec.sessions k).isSome = true) →
      exec (.spdmMsg z (some z.tag)) s = .next (s.afterZ z c) ∧
      (∀ t, t ≠ z.tag → exec (.spdmMsg z (some t)) s = .next (s.afterZ z (c.zAnswer 0x0901 z 0x0010 32 []))) ∧
      exec (.spdmMsg z none) s = .next (s.afterZ z (c.zHold 0x0901 z 0 none))))

/-! ### Zhevseler (spec/17) -/

/-- In a part that is up on the packet's line: a packet too short or a reply is rejected and counted; a duplicate of a kept tag is answered again from the record, and one of a tag still in execution waits with its command; a packet that fails a check of R672 is answered with that check's status, or counted where it asks for no reply; a busy part says so; any other is counted and executes, and then its version, size, opcode, length, role, target and fields are right. A command that does not execute changes nothing else, whichever of the 35 it is. IDENTIFY and ECHO answer their bytes. REG_READ answers its words, each the register as read in turn, or zero and PITCH_SCOPE where the sender may not read it (a manager reads all, a tenant its pitch's, any other the open ranges); REG_WRITE writes and answers OK, or REG_IGNORED with the reason. A packet that no opcode takes meets the same checks and never acts. A kept tag goes after ten seconds and not sooner; a private read takes the I3C reply once; a guy line that is up answers for its own addresses alone. A packet of a reserved opcode meets the home's checks; one that Table 2.7 allows is left to its own row. The model's choices in it: log entries 66, 67, 68. (R50, R581, R638, R671, R672, R674, R676, R679, R680, R681, R685, R686.) -/
def Obligations.CommandsAreCheckedBeforeTheyAct : Prop :=
  (∀ (c : Common) (op : Nat) (z : ZPacket), c.held = false → c.lineUp z = true →
    let d := c.i3cClear z
    ((z.size < 16 ∨ z.replyFlag = true) → c.gate op z = (d.zReject, false)) ∧
    (16 ≤ z.size → z.replyFlag = false →
      (∀ k, z.noReply = false → d.mgmt.kept.find? (fun x => x.tag == z.tag) = some k →
        c.gate op z = ((d.bump (resA c.part 0x010)).sendReply { k.reply with ret := { z.ret with session := k.reply.ret.session } }, false)) ∧
      (z.noReply = false → (∀ x, x ∈ d.mgmt.kept → x.tag ≠ z.tag) → (∃ x, x ∈ d.mgmt.executing ∧ x.tag = z.tag) →
        let b := d.bump (resA c.part 0x010)
        c.gate op z = ({ b with mgmt := { b.mgmt with executing := b.mgmt.executing.map (fun e => if e.tag = z.tag then { e with dups := e.dups ++ [{ z.ret with session := e.ret.session }] } else e) } }, false)) ∧
      ((z.noReply = true ∨ (∀ x, (x ∈ d.mgmt.kept → x.tag ≠ z.tag)) ∧ ∀ x, x ∈ d.mgmt.executing → x.tag ≠ z.tag) →
        (∀ f, d.zCheck op z = some f → c.gate op z = (if z.noReply then d.zReject else d.zAnswer op z f.1 f.2 [], false)) ∧
        (∀ b, d.zCheck op z = none → d.zBusyFor op = some b → c.gate op z = (if z.noReply then d else d.zAnswer op z zBusy b [], false)) ∧
        (d.zCheck op z = none → d.zBusyFor op = none → c.gate op z = (d.bump (resA c.part 0x020), true))))) ∧
  (∀ (c : Common) (op : Nat) (z : ZPacket), c.zCheck op z = none → z.version = 1 ∧ z.size = 16 + 4 * z.length ∧ z.size ≤ z.limit ∧ z.payload.length = 4 * z.length ∧
    (∀ n, lengthFor op z.payload = some n → n = z.length) ∧ (z.session.isSome = true → (c.sessionOf z).isSome = true) ∧ z.rsvdFlags = 0 ∧
    ∃ r, opRow c.part op = some r ∧ c.roleOk r.role z = true ∧ z.kind ∈ r.kinds ∧ z.index < targetCount c.part z.kind) ∧
  (∀ (s : State) (z : ZPacket) (i : Instr) (op : Nat) (t : Option Nat), s.heldPart z.part = false → ((s.common z.part).gate op z).2 = false →
    (i = .identify z ∧ op = 0x0001 ∨ i = .regRead z ∧ op = 0x0002 ∨ i = .regWriteCmd z ∧ op = 0x0003 ∨ i = .echo z ∧ op = 0x0004 ∨ i = .relay z ∧ op = 0x0005 ∨ i = .stageWrite z ∧ op = 0x0101 ∨
      i = .check z ∧ op = 0x0102 ∨ i = .commitAt z ∧ op = 0x0103 ∨ i = .cancel z ∧ op = 0x0104 ∨ i = .stageStatus z ∧ op = 0x0105 ∨ i = .portRaise z ∧ op = 0x0201 ∨ i = .portStrike z ∧ op = 0x0202 ∨
      i = .fence z ∧ op = 0x0301 ∨ i = .takeover z ∧ op = 0x0302 ∨ i = .unitTest z ∧ op = 0x0310 ∨ i = .ledgerClear z ∧ op = 0x0320 ∨ i = .ledgerRead z ∧ op = 0x0321 ∨ i = .powerCap z ∧ op = 0x0401 ∨
      i = .thermalAlert z ∧ op = 0x0402 ∨ i = .bivouac z ∧ op = 0x0403 ∨ i = .wake z ∧ op = 0x0404 ∨ i = .collAbort z ∧ op = 0x0501 ∨ i = .collStatus z ∧ op = 0x0502 ∨ i = .progLoad z ∧ op = 0x0601 ∨
      i = .progUnload z ∧ op = 0x0602 ∨ i = .xltCmd z ∧ op = 0x0701 ∨ i = .fwStageBegin z ∧ op = 0x0801 ∨ i = .fwStageData z ∧ op = 0x0802 ∨ i = .fwStageEnd z ∧ op = 0x0803 ∨ i = .fwActivate z ∧ op = 0x0804 ∨
      i = .spdmMsg z t ∧ op = 0x0901 ∧ (s.common z.part).repeatsInner z t = false ∨ i = .ownerEnrol z ∧ op = 0x0902 ∨ i = .ownerRelease z ∧ op = 0x0903 ∨ i = .pitchEnrol z ∧ op = 0x0904 ∨ i = .pitchKeySet z ∧ op = 0x0905) →
    exec i s = .next (s.afterZ z (s.gated op z))) ∧
  (∀ (s : State) (z : ZPacket),
    (s.accepts 0x0004 z = true → exec (.echo z) s = .next (s.afterZ z ((s.gated 0x0004 z).zOk 0x0004 z z.payload))) ∧
    (s.accepts 0x0001 z = true →
      let c := s.gated 0x0001 z
      let e : EpState := { s.ep with c := c }
      exec (.identify z) s = .next (s.afterZ z (c.zOk 0x0001 z (match z.part with | .sw => c.identity c.swDomain c.plane | .ep => c.identity e.domain e.node))))) ∧
  (∀ (s : State) (z : ZPacket), s.accepts 0x0002 z = true →
    let c := s.gated 0x0002 z
    let a := pn z.payload 0 4
    let n := pn z.payload 4 2
    let w : SwState := { s.sw with c := c }
    let e : EpState := { s.ep with c := c }
    let r := readWords (fun (w : SwState) a => w.read z.who a) (c.zMayRead z w.tenantReads) n a w
    let q := readWords (fun (e : EpState) a => e.read z.who a) (c.zMayRead z e.tenantReads) n a e
    (z.part = .sw → exec (.regRead z) s = .next (s.afterSw (r.2.2.mod (fun d => d.zAnswer 0x0002 z (if r.2.1 then 0x0016 else 0) 0 r.1))) ∧ r.1.length = 4 * n ∧
      (n = 1 → c.zMayRead z w.tenantReads a = true → r = (beBytes (w.read z.who a).1.toNat 4, false, (w.read z.who a).2)) ∧
      (n = 1 → c.zMayRead z w.tenantReads a = false → r = ([0, 0, 0, 0], true, w))) ∧
    (z.part = .ep → exec (.regRead z) s = .next (s.afterEp (q.2.2.mod (fun d => d.zAnswer 0x0002 z (if q.2.1 then 0x0016 else 0) 0 q.1))) ∧ q.1.length = 4 * n ∧
      (n = 1 → c.zMayRead z e.tenantReads a = true → q = (beBytes (e.read z.who a).1.toNat 4, false, (e.read z.who a).2)) ∧
      (n = 1 → c.zMayRead z e.tenantReads a = false → q = ([0, 0, 0, 0], true, e)))) ∧
  (∀ (read : SwState → Nat → Reg × SwState) (may : Nat → Bool) (n a : Nat) (w : SwState),
    (may a = true → let t := readWords read may n (a + 4) (read w a).2; readWords read may (n + 1) a w = (beBytes (read w a).1.toNat 4 ++ t.1, t.2)) ∧
    (may a = false → let t := readWords read may n (a + 4) w; readWords read may (n + 1) a w = (beBytes 0 4 ++ t.1, true, t.2.2))) ∧
  (∀ (c : Common) (z : ZPacket) (tenant : Nat → Nat → Bool) (a : Nat),
    (c.sessionOf z = some .manager → c.zMayRead z tenant a = true) ∧ (∀ p, c.sessionOf z = some (.tenant p) → c.zMayRead z tenant a = tenant p a) ∧
    (c.sessionOf z ≠ some .manager → (∀ p, c.sessionOf z ≠ some (.tenant p)) → (c.zMayRead z tenant a = true ↔ ∃ x, x ∈ openRanges c.part ∧ x.1 ≤ a ∧ a ≤ x.2))) ∧
  (∀ (s : State) (z : ZPacket), s.accepts 0x0003 z = true →
    let c := s.gated 0x0003 z
    let r := ({ s.sw with c := c } : SwState).write (pn z.payload 0 4) (pn z.payload 4 4)
    let q := ({ s.ep with c := c } : EpState).write (pn z.payload 0 4) (pn z.payload 4 4)
    (z.part = .sw →
      (r.1 = .taken → exec (.regWriteCmd z) s = .next (s.afterSw (r.2.mod (fun d => d.zOk 0x0003 z [])))) ∧
      (r.1 ≠ .taken → exec (.regWriteCmd z) s = .next (s.afterSw (r.2.mod (fun d => d.zAnswer 0x0003 z 0x0020 r.1.detail []))))) ∧
    (z.part = .ep →
      (q.1 = .taken → exec (.regWriteCmd z) s = .next (s.afterEp (q.2.mod (fun d => d.zOk 0x0003 z [])))) ∧
      (q.1 ≠ .taken → exec (.regWriteCmd z) s = .next (s.afterEp (q.2.mod (fun d => d.zAnswer 0x0003 z 0x0020 q.1.detail [])))))) ∧
  (∀ (s : State) (z : ZPacket) (magic op : Nat), s.heldPart z.part = false →
    let c := s.common z.part
    let i : Instr := .zhevselerPacketRejected z magic op
    (c.lineUp z = false → exec i s = .next (s.after z.part c)) ∧
    (c.lineUp z = true → magic ≠ 0x5A48 → exec i s = .next (s.after z.part (c.i3cClear z).zReject)) ∧
    (c.lineUp z = true → magic = 0x5A48 → exec i s = .next (s.after z.part (if (c.gate op z).2 then c else (c.gate op z).1)))) ∧
  (∀ (s : State) (part : Part) (n : Nat) (lineB : Bool), s.heldPart part = false →
    let c := s.common part
    (∃ t : Common, exec (.tagRecordExpired part n) s = .next (s.after part t) ∧ t.rf = c.rf ∧ t.mgmt.executing = c.mgmt.executing ∧
      ∀ x, x ∈ t.mgmt.kept ↔ x ∈ c.mgmt.kept ∧ (x.tag ≠ n ∨ c.pick < x.at_ + 10000000)) ∧
    (∃ t : Common, exec (.i3cPrivateRead part) s = .next (s.after part t) ∧ t.rf = c.rf ∧ t.mgmt.i3cReply = none ∧ t.mgmt.replies = c.mgmt.replies ++ c.mgmt.i3cReply.toList ∧ t.mgmt.kept = c.mgmt.kept) ∧
    exec (.entdaa part n) s = .next (s.after part { c with mgmt := { c.mgmt with i3cAddr := some (n % 128) } }) ∧
    ((c.guyUp lineB = true ∧ n ≠ 0 ∧ n = c.guyIpv4 lineB) → exec (.arpRequest part lineB n) s = .next (s.after part { c with mgmt := { c.mgmt with neigh := c.mgmt.neigh ++ [(lineB, n)] } })) ∧
    (¬(c.guyUp lineB = true ∧ n ≠ 0 ∧ n = c.guyIpv4 lineB) → exec (.arpRequest part lineB n) s = .next (s.after part c)) ∧
    ((c.guyUp lineB = true ∧ n = c.guyIpv6 lineB) → exec (.neighbourSolicit part lineB n) s = .next (s.after part { c with mgmt := { c.mgmt with neigh := c.mgmt.neigh ++ [(lineB, n)] } })) ∧
    (¬(c.guyUp lineB = true ∧ n = c.guyIpv6 lineB) → exec (.neighbourSolicit part lineB n) s = .next (s.after part c))) ∧
  (∀ (s : State) (k : Nat) (p q : Packet), s.heldPart .ep = false → k < 8 →
    ((opListed p.op && vcAllowed p.op p.vc && lenAllowed p) = true → exec (.reservedOpcodePacket k p) s = .next (s.afterEp s.ep)) ∧
    ((opListed p.op && vcAllowed p.op p.vc && lenAllowed p) = false →
      (s.ep.portOpen k p.vc = false → exec (.reservedOpcodePacket k p) s = .next (s.afterEp s.ep)) ∧
      (s.ep.portOpen k p.vc = true → p.crcOk = false → exec (.reservedOpcodePacket k p) s = .next (s.afterEp ((s.ep.takeIn k p).crcDrop k))) ∧
      (s.ep.portOpen k p.vc = true → p.crcOk = true → (s.ep.takeIn k p).opened k p = none → exec (.reservedOpcodePacket k p) s = .next (s.afterEp ((s.ep.takeIn k p).authDrop k)))) ∧
    ((opListed p.op && vcAllowed p.op p.vc && lenAllowed p) = false → s.ep.brings k p q = true →
      let e := s.ep.takeIn k p
      (q.op = opMsgSend → exec (.reservedOpcodePacket k p) s = .next (s.afterEp (e.msgTake k q))) ∧
      ((isRequest q.op = true ∨ opListed q.op = false) → exec (.reservedOpcodePacket k p) s = .next (s.afterEp (e.homeArrive k q))) ∧
      (isRequest q.op = false → opListed q.op = true → q.op ≠ opMsgSend → exec (.reservedOpcodePacket k p) s = .next (s.afterEp e))))

/-- In a part that accepts the command: STAGE_WRITE adds its entries to an open set and opens a new one, or is SET_STATE while scheduled, NOT_STAGEABLE with the first entry that no set may hold, or STAGE_FULL; CHECK lists the conflicts of an open or scheduled set; COMMIT_AT schedules an open set that has none, at a pick that may be committed at; CANCEL takes back an open set, and a scheduled one that no later set follows, OK with NO_CHANGE for an empty or cancelled one; no command touches another set. STAGE_STATUS answers the eight sets. PORT_RAISE answers the state at acceptance; of a port that is not struck, as PORT_STRIKE of one that is, it is OK with NO_CHANGE. COLL_ABORT answers what a settled collective left, NOT_FOUND for an unknown one, and gives an open one the manager's abort cause, its reply waiting; COLL_STATUS answers what is known, in a tenant's own pitch only. RELAY sends its packet where its plane and target allow and waits, and ends with its reply or its time-out; a reply that nothing waits for is counted. XLT_CMD joins the commands behind those that run, and waits. The model's choices in it: log entries 46, 48, 67, 69. (R377, R379, R582, R677, R687, R688, R689, R690, R692, R693, R697, R698.) -/
def Obligations.SetsPortsCollectivesAndRelaysAreCommanded : Prop :=
  (∀ (s : State) (z : ZPacket), s.accepts 0x0101 z = true →
    let c := s.gated 0x0101 z
    let k := pb z.payload 0
    let n := pn z.payload 2 2
    let l : List StageEntry := (List.range n).map (fun j => { addr := pn z.payload (8 + 12 * j) 4, value := pn z.payload (12 + 12 * j) 4, mask := pn z.payload (16 + 12 * j) 4 })
    ((c.set k).st = .scheduled → exec (.stageWrite z) s = .next (s.afterZ z (c.zAnswer 0x0101 z 0x0113 2 []))) ∧
    ((c.set k).st ≠ .scheduled →
      (∀ j e, l[j]? = some e → stageable c.part e.addr = false → (∀ m x, m < j → l[m]? = some x → stageable c.part x.addr = true) →
        exec (.stageWrite z) s = .next (s.afterZ z (c.zAnswer 0x0101 z 0x0115 j []))) ∧
      ((∀ e, e ∈ l → stageable c.part e.addr = true) →
        (c.stageRoom < n → exec (.stageWrite z) s = .next (s.afterZ z (c.zAnswer 0x0101 z 0x0114 (min 0xFFFF c.stageRoom) []))) ∧
        (n ≤ c.stageRoom → ∃ t : Common, exec (.stageWrite z) s = .next (s.afterZ z (t.zOk 0x0101 z [])) ∧ t.rf = c.rf ∧ t.mgmt = c.mgmt ∧
          t.set k = { st := .opened, entries := (c.set k).entries ++ l, held := 0, pick := 0, tag := z.tag } ∧ ∀ j, j ≠ k → t.set j = c.set j)))) ∧
  (∀ (s : State) (z : ZPacket), s.accepts 0x0102 z = true →
    let c := s.gated 0x0102 z
    let k := pb z.payload 0
    (((c.set k).st ≠ .opened ∧ (c.set k).st ≠ .scheduled) → exec (.check z) s = .next (s.afterZ z (c.zAnswer 0x0102 z 0x0113 (c.set k).st.code []))) ∧
    (∀ l, ((c.set k).st = .opened ∨ (c.set k).st = .scheduled) →
      (z.part = .sw ∧ l = ({ s.sw with c := c } : SwState).conflicts (c.checking k (c.checkPick k)) ∨ z.part = .ep ∧ l = ({ s.ep with c := c } : EpState).conflicts (c.checking k (c.checkPick k))) →
      exec (.check z) s = .next (s.afterZ z (c.zAnswer 0x0102 z (if l = [] then 0 else 0x0110) (min 0xFFFF l.length) (conflictBytes z l))))) ∧
  (∀ (s : State) (z : ZPacket), s.accepts 0x0103 z = true →
    let c := s.gated 0x0103 z
    let k := pb z.payload 0
    let pick := pn z.payload 4 8
    let lead := if (c.set k).entries.any (fun e => domainWide c.part e.addr) then 1000 else 16
    ((c.set k).st ≠ .opened → exec (.commitAt z) s = .next (s.afterZ z (c.zAnswer 0x0103 z 0x0113 (c.set k).st.code []))) ∧
    ((c.set k).st = .opened →
      (c.time.st = .expired → exec (.commitAt z) s = .next (s.afterZ z (c.zAnswer 0x0103 z 0x0111 0 []))) ∧
      (c.time.st ≠ .expired → pick < c.pick + lead → exec (.commitAt z) s = .next (s.afterZ z (c.zAnswer 0x0103 z 0x0112 1 []))) ∧
      (c.time.st ≠ .expired → c.pick + lead ≤ pick → c.pick + 60000000 < pick → exec (.commitAt z) s = .next (s.afterZ z (c.zAnswer 0x0103 z 0x0112 2 []))) ∧
      (∀ l, c.time.st ≠ .expired → c.pick + lead ≤ pick → pick ≤ c.pick + 60000000 →
        (z.part = .sw ∧ l = ({ s.sw with c := c } : SwState).conflicts (c.checking k pick) ∨ z.part = .ep ∧ l = ({ s.ep with c := c } : EpState).conflicts (c.checking k pick)) →
        (l ≠ [] → exec (.commitAt z) s = .next (s.afterZ z (c.zAnswer 0x0103 z 0x0110 (min 0xFFFF l.length) []))) ∧
        (l = [] → ∃ t : Common, exec (.commitAt z) s = .next (s.afterZ z (t.zOk 0x0103 z [])) ∧ t.rf = c.rf ∧ t.mgmt = c.mgmt ∧
          t.set k = { c.set k with st := .scheduled, pick := pick, tag := z.tag } ∧ ∀ j, j ≠ k → t.set j = c.set j)))) ∧
  (∀ (s : State) (z : ZPacket), s.accepts 0x0104 z = true →
    let c := s.gated 0x0104 z
    let k := pb z.payload 0
    let x := c.set k
    let last := ∀ j, j < 8 → (c.set j).st = .scheduled → (c.set j).pick ≤ x.pick
    ((x.st = .empty ∨ x.st = .cancelled) → exec (.cancel z) s = .next (s.afterZ z (c.zSame 0x0104 z []))) ∧
    (x.st = .committed → exec (.cancel z) s = .next (s.afterZ z (c.zAnswer 0x0104 z 0x0113 3 []))) ∧
    (x.st = .scheduled → ¬last → ∃ j, j < 8 ∧ (c.set j).st = .scheduled ∧ x.pick < (c.set j).pick ∧ exec (.cancel z) s = .next (s.afterZ z (c.zAnswer 0x0104 z 0x0116 j []))) ∧
    ((x.st = .opened ∨ x.st = .scheduled ∧ last) → ∃ t : Common, exec (.cancel z) s = .next (s.afterZ z (t.zOk 0x0104 z [])) ∧ t.mgmt = c.mgmt ∧
      t.set k = { x with st := .cancelled, held := x.entries.length, entries := [], tag := z.tag } ∧ ∀ j, j ≠ k → t.set j = c.set j)) ∧
  (∀ (s : State) (z : ZPacket), s.accepts 0x0105 z = true → ∃ l : List Byte, l.length = 128 ∧ exec (.stageStatus z) s = .next (s.afterZ z ((s.gated 0x0105 z).zOk 0x0105 z l)) ∧
    ∀ k, k < 8 → let x := (s.gated 0x0105 z).set k
      (l.drop (16 * k)).take 16 = beBytes x.st.code 1 ++ [0] ++ beBytes (if x.st = .committed ∨ x.st = .cancelled then x.held else x.entries.length) 2 ++
        beBytes (if x.st = .scheduled ∨ x.st = .committed then x.pick else 0) 8 ++ beBytes x.tag 4) ∧
  (∀ (s : State) (z : ZPacket),
    (s.accepts 0x0201 z = true →
      let c := s.gated 0x0201 z
      ((c.port z.index).t.st ≠ .struck → exec (.portRaise z) s = .next (s.afterZ z (c.zSame 0x0201 z (beBytes (c.port z.index).t.st.code 1 ++ [0, 0, 0])))) ∧
      ((c.port z.index).t.st = .struck →
        exec (.portRaise z) s = .next (s.afterZ z ((c.cmdRaise z.index).zOk 0x0201 z (beBytes (c.port z.index).t.st.code 1 ++ [0, 0, 0]))))) ∧
    (s.accepts 0x0202 z = true →
      let c := s.gated 0x0202 z
      ((c.port z.index).t.st = .struck → exec (.portStrike z) s = .next (s.afterZ z (c.zSame 0x0202 z []))) ∧
      ((c.port z.index).t.st ≠ .struck → exec (.portStrike z) s = .next (s.afterZ z ((c.strikeOrderly z.index causeCommand (bit (pb z.payload 0) 0)).zOk 0x0202 z []))))) ∧
  (∀ (s : State) (z : ZPacket), z.part = .sw → s.accepts 0x0501 z = true →
    let c := s.gated 0x0501 z
    let w : SwState := { s.sw with c := c }
    let g := pn z.payload 2 2
    let seq := pn z.payload 4 4
    let known := w.collKnown (pn z.payload 0 2) g seq
    (known = none → exec (.collAbort z) s = .next (s.afterZ z (c.zAnswer 0x0501 z 0x0018 0 []))) ∧
    (∀ d, known = some (d, false) → exec (.collAbort z) s = .next (s.afterZ z (c.zSame 0x0501 z d))) ∧
    (∀ d, known = some (d, true) → ∃ t : SwState, exec (.collAbort z) s = .next (s.afterSw t) ∧ t.c = c.zHold 0x0501 z 0 (some (pn z.payload 0 2, g, seq)) ∧ t.dram = s.sw.dram ∧
      (∀ r, r ∈ t.colls → r.group = g → r.seq = seq → r.st ≠ .committed → r.cause.isSome = true))) ∧
  (∀ (s : State) (z : ZPacket), z.part = .sw → s.accepts 0x0502 z = true →
    let c := s.gated 0x0502 z
    let known := ({ s.sw with c := c } : SwState).collKnown (pn z.payload 0 2) (pn z.payload 2 2) (pn z.payload 4 4)
    let a := c.handleA (pn z.payload 0 2)
    (∀ p, c.sessionOf z = some (.tenant p) → flag a 0 = true → fld a 7 4 ≠ p → exec (.collStatus z) s = .next (s.afterZ z (c.zAnswer 0x0502 z 0x0016 0 []))) ∧
    ((∀ p, c.sessionOf z = some (.tenant p) → flag a 0 = false ∨ fld a 7 4 = p) →
      (known = none → exec (.collStatus z) s = .next (s.afterZ z (c.zAnswer 0x0502 z 0x0018 0 []))) ∧
      (∀ d, known = some d → exec (.collStatus z) s = .next (s.afterZ z (c.zOk 0x0502 z d.1))))) ∧
  (∀ (w : SwState) (h g seq : Nat),
    (∀ r, w.openColl g seq = some r → w.collKnown h g seq = if r.handle = h then some (beBytes (if r.st = .running then 2 else 3) 1 ++ List.replicate 35 0, true) else none) ∧
    (∀ k, w.openColl g seq = none → (w.grp g).record seq = some k → w.collKnown h g seq = if k.handle = h then some (beBytes 1 1 ++ [0, 0, 0] ++ beBytes k.c0 16 ++ beBytes k.c1 16, false) else none) ∧
    (w.openColl g seq = none → (w.grp g).record seq = none → w.collKnown h g seq = none)) ∧
  (∀ (s : State) (z : ZPacket), s.accepts 0x0005 z = true →
    let c := s.gated 0x0005 z
    let b := z.payload
    ∃ (t : State) (x : ZExec), exec (.relay z) s = .next t ∧ x.op = 0x0005 ∧ x.tag = z.tag ∧ x.inner = pn b 12 4 ∧ x.ret = z.ret ∧
      let d : Common := { c with mgmt := { c.mgmt with executing := c.mgmt.executing ++ [x] } }
      let w : SwState := { s.sw with c := d }
      let e : EpState := { s.ep with c := d }
      (z.part = .sw → (pb b 0 ≠ c.plane ∨ pb b 1 ≠ 1) → t = s.afterZ z d) ∧
      (z.part = .sw → pb b 0 = c.plane → pb b 1 = 1 →
        t = s.afterSw (w.toNode (pb b 2) (mgmtPacket 0 (pb b 2) (((c.aliasOf (pb b 2)).map (fun o => c.portPitch o)).getD 0) 1 (b.drop 4)))) ∧
      (z.part = .ep → (c.port (pb b 0)).inService = false → t = s.afterZ z d) ∧
      (z.part = .ep → (c.port (pb b 0)).inService = true →
        t = s.afterEp (e.putPacket (pb b 0) (mgmtPacket e.node (if pb b 1 = 0 then 0 else pb b 2) e.pitch (pb b 1) (b.drop 4)) false))) ∧
  (∀ (s : State) (part : Part) (tag : Nat) (enclosed : List Byte), s.heldPart part = false →
    let c := s.common part
    (c.mgmt.executing.find? (fun e => e.op == 5 && e.inner == tag) = none → exec (.relayReply part tag enclosed) s = .next (s.after part c.zReject)) ∧
    (∀ e, c.mgmt.executing.find? (fun e => e.op == 5 && e.inner == tag) = some e → exec (.relayReply part tag enclosed) s = .next (s.after part (c.endExec 5 e.tag 0 0 enclosed))) ∧
    exec (.relayTimeout part tag) s = .next (s.after part (c.endExec 5 tag 0x30 0 []))) ∧
  (∀ (c : Common) (op tag status detail : Nat) (data : List Byte),
    (c.mgmt.executing.find? (fun e => e.op == op && e.tag == tag) = none → c.endExec op tag status detail data = c) ∧
    (∀ e, c.mgmt.executing.find? (fun e => e.op == op && e.tag == tag) = some e → (c.endExec op tag status detail data).mgmt.executing = c.mgmt.executing.erase e ∧
      (c.endExec op tag status detail data).rf = c.rf)) ∧
  (∀ (s : State) (z : ZPacket), z.part = .ep → s.accepts 0x0701 z = true →
    let c := s.gated 0x0701 z
    let old := s.ep.xlt.cmds
    let runs := fun (d : XqCmd) => d.running || d.fromMgmt.isSome
    ∃ (t : EpState) (x : XqCmd), exec (.xltCmd z) s = .next (s.afterEp t) ∧ t.c = c.zHold 0x0701 z 0 none ∧ t.xlt.cmds = old.filter runs ++ [x] ++ old.filter (fun d => !runs d) ∧
      x.fromMgmt = some z.tag ∧ t.src = s.ep.src ∧ t.home = s.ep.home)
end

