-- ==== Sys2Proof/Laws/Dispatch.lean ====
section
/-!
SUPPORT. One law for each command: `exec` of it is its meaning.
-/

namespace Sys2Proof.Machine

@[simp] theorem exec_registerWrite part addr value s : exec (.registerWrite part addr value) s = execRegisterWrite part addr value s := rfl
@[simp] theorem exec_viewWrite part addr value s : exec (.viewWrite part addr value) s = execViewWrite part addr value s := rfl
@[simp] theorem exec_eventRegisterClear part addr value s : exec (.eventRegisterClear part addr value) s = execEventRegisterClear part addr value s := rfl
@[simp] theorem exec_loWordRead part who addr s : exec (.loWordRead part who addr) s = execLoWordRead part who addr s := rfl
@[simp] theorem exec_wpWriteComplete part block s : exec (.wpWriteComplete part block) s = execWpWriteComplete part block s := rfl
@[simp] theorem exec_idCntClear part value s : exec (.idCntClear part value) s = execIdCntClear part value s := rfl
@[simp] theorem exec_telHwmClr part port value s : exec (.telHwmClr part port value) s = execTelHwmClr part port value s := rfl
@[simp] theorem exec_thermHwmClear part value s : exec (.thermHwmClear part value) s = execThermHwmClear part value s := rfl
@[simp] theorem exec_pickBoundary b s : exec (.pickBoundary b) s = execPickBoundary b s := rfl
@[simp] theorem exec_pickSyncPulse part input width offset s : exec (.pickSyncPulse part input width offset) s = execPickSyncPulse part input width offset s := rfl
@[simp] theorem exec_holdoverExpired part s : exec (.holdoverExpired part) s = execHoldoverExpired part s := rfl
@[simp] theorem exec_pickMarker part port m s : exec (.pickMarker part port m) s = execPickMarker part port m s := rfl
@[simp] theorem exec_stagedSetCommit part set s : exec (.stagedSetCommit part set) s = execStagedSetCommit part set s := rfl
@[simp] theorem exec_membershipCommit part s : exec (.membershipCommit part) s = execMembershipCommit part s := rfl
@[simp] theorem exec_stakedAccept flow s : exec (.stakedAccept flow) s = execStakedAccept flow s := rfl
@[simp] theorem exec_wheelSlot slot s : exec (.wheelSlot slot) s = execWheelSlot slot s := rfl
@[simp] theorem exec_flitSend part port tick s : exec (.flitSend part port tick) s = execFlitSend part port tick s := rfl
@[simp] theorem exec_flitReceived part port f s : exec (.flitReceived part port f) s = execFlitReceived part port f s := rfl
@[simp] theorem exec_replayTimeout part port s : exec (.replayTimeout part port) s = execReplayTimeout part port s := rfl
@[simp] theorem exec_trainingSet part port t ownMet s : exec (.trainingSet part port t ownMet) s = execTrainingSet part port t ownMet s := rfl
@[simp] theorem exec_stageTimeout part port s : exec (.stageTimeout part port) s = execStageTimeout part port s := rfl
@[simp] theorem exec_caps part port c s : exec (.caps part port c) s = execCaps part port c s := rfl
@[simp] theorem exec_ident part port x s : exec (.ident part port x) s = execIdent part port x s := rfl
@[simp] theorem exec_wire part port result other s : exec (.wire part port result other) s = execWire part port result other s := rfl
@[simp] theorem exec_creditInit part port grants s : exec (.creditInit part port grants) s = execCreditInit part port grants s := rfl
@[simp] theorem exec_admitMsg port code s : exec (.admitMsg port code) s = execAdmitMsg port code s := rfl
@[simp] theorem exec_laneCtrlCheck part port lanes bad s : exec (.laneCtrlCheck part port lanes bad) s = execLaneCtrlCheck part port lanes bad s := rfl
@[simp] theorem exec_move part port lanes s : exec (.move part port lanes) s = execMove part port lanes s := rfl
@[simp] theorem exec_moveOk part port lanes s : exec (.moveOk part port lanes) s = execMoveOk part port lanes s := rfl
@[simp] theorem exec_moveNo part port lanes s : exec (.moveNo part port lanes) s = execMoveNo part port lanes s := rfl
@[simp] theorem exec_width part port lanes s : exec (.width part port lanes) s = execWidth part port lanes s := rfl
@[simp] theorem exec_widthOk part port lanes s : exec (.widthOk part port lanes) s = execWidthOk part port lanes s := rfl
@[simp] theorem exec_laneCtrlRetry part port s : exec (.laneCtrlRetry part port) s = execLaneCtrlRetry part port s := rfl
@[simp] theorem exec_drain part port s : exec (.drain part port) s = execDrain part port s := rfl
@[simp] theorem exec_drainDone part port s : exec (.drainDone part port) s = execDrainDone part port s := rfl
@[simp] theorem exec_strike part port s : exec (.strike part port) s = execStrike part port s := rfl
@[simp] theorem exec_strikeDone part port s : exec (.strikeDone part port) s = execStrikeDone part port s := rfl
@[simp] theorem exec_strikeComplete part port s : exec (.strikeComplete part port) s = execStrikeComplete part port s := rfl
@[simp] theorem exec_strikeStepTimeout part port s : exec (.strikeStepTimeout part port) s = execStrikeStepTimeout part port s := rfl
@[simp] theorem exec_linkCmdRaise part port s : exec (.linkCmdRaise part port) s = execLinkCmdRaise part port s := rfl
@[simp] theorem exec_linkCmdStrike part port cold s : exec (.linkCmdStrike part port cold) s = execLinkCmdStrike part port cold s := rfl
@[simp] theorem exec_linkCmdCheck part port s : exec (.linkCmdCheck part port) s = execLinkCmdCheck part port s := rfl
@[simp] theorem exec_linkCmdClrLane part port s : exec (.linkCmdClrLane part port) s = execLinkCmdClrLane part port s := rfl
@[simp] theorem exec_eyeStart part port value s : exec (.eyeStart part port value) s = execEyeStart part port value s := rfl
@[simp] theorem exec_eyeStop part port s : exec (.eyeStop part port) s = execEyeStop part port s := rfl
@[simp] theorem exec_eyeScanDone part port results counts s : exec (.eyeScanDone part port results counts) s = execEyeScanDone part port results counts s := rfl
@[simp] theorem exec_monitorSample part port m s : exec (.monitorSample part port m) s = execMonitorSample part port m s := rfl
@[simp] theorem exec_warmReraiseDone part port x s : exec (.warmReraiseDone part port x) s = execWarmReraiseDone part port x s := rfl
@[simp] theorem exec_openFibre part port s : exec (.openFibre part port) s = execOpenFibre part port s := rfl
@[simp] theorem exec_launchLimit part port s : exec (.launchLimit part port) s = execLaunchLimit part port s := rfl
@[simp] theorem exec_probePulse part port s : exec (.probePulse part port) s = execProbePulse part port s := rfl
@[simp] theorem exec_probeSet part port s : exec (.probeSet part port) s = execProbeSet part port s := rfl
@[simp] theorem exec_laserEnLow part s : exec (.laserEnLow part) s = execLaserEnLow part s := rfl
@[simp] theorem exec_laserEnHigh part s : exec (.laserEnHigh part) s = execLaserEnHigh part s := rfl
@[simp] theorem exec_combLocked part comb s : exec (.combLocked part comb) s = execCombLocked part comb s := rfl
@[simp] theorem exec_combWarmTimeout part comb s : exec (.combWarmTimeout part comb) s = execCombWarmTimeout part comb s := rfl
@[simp] theorem exec_combLockerLost part comb s : exec (.combLockerLost part comb) s = execCombLockerLost part comb s := rfl
@[simp] theorem exec_combOutputLow part comb s : exec (.combOutputLow part comb) s = execCombOutputLow part comb s := rfl
@[simp] theorem exec_spareLightArrived part engine s : exec (.spareLightArrived part engine) s = execSpareLightArrived part engine s := rfl
@[simp] theorem exec_feedforwardSample part port temp s : exec (.feedforwardSample part port temp) s = execFeedforwardSample part port temp s := rfl
@[simp] theorem exec_ringLockLost part port r s : exec (.ringLockLost part port r) s = execRingLockLost part port r s := rfl
@[simp] theorem exec_ringRelock part port r s : exec (.ringRelock part port r) s = execRingRelock part port r s := rfl
@[simp] theorem exec_slipRelockTimeout part port r s : exec (.slipRelockTimeout part port r) s = execSlipRelockTimeout part port r s := rfl
@[simp] theorem exec_opticalReport part port r s : exec (.opticalReport part port r) s = execOpticalReport part port r s := rfl
@[simp] theorem exec_ringsLocked part port r s : exec (.ringsLocked part port r) s = execRingsLocked part port r s := rfl
@[simp] theorem exec_packetForward port p s : exec (.packetForward port p) s = execPacketForward port p s := rfl
@[simp] theorem exec_bufferAdmission port s : exec (.bufferAdmission port) s = execBufferAdmission port s := rfl
@[simp] theorem exec_matcherSlot slot bad s : exec (.matcherSlot slot bad) s = execMatcherSlot slot bad s := rfl
@[simp] theorem exec_sprayUnitArrival input output seq high check s : exec (.sprayUnitArrival input output seq high check) s = execSprayUnitArrival input output seq high check s := rfl
@[simp] theorem exec_reedReceipt input output seq high negative s : exec (.reedReceipt input output seq high negative) s = execReedReceipt input output seq high negative s := rfl
@[simp] theorem exec_reedHoleTimeout input output s : exec (.reedHoleTimeout input output) s = execReedHoleTimeout input output s := rfl
@[simp] theorem exec_packetAgeDiscard output s : exec (.packetAgeDiscard output) s = execPacketAgeDiscard output s := rfl
@[simp] theorem exec_castSend group s : exec (.castSend group) s = execCastSend group s := rfl
@[simp] theorem exec_combineAnswer port p s : exec (.combineAnswer port p) s = execCombineAnswer port p s := rfl
@[simp] theorem exec_mergedForget output batch s : exec (.mergedForget output batch) s = execMergedForget output batch s := rfl
@[simp] theorem exec_msgSendRoute port p s : exec (.msgSendRoute port p) s = execMsgSendRoute port p s := rfl
@[simp] theorem exec_msgSendSelvedge port p s : exec (.msgSendSelvedge port p) s = execMsgSendSelvedge port p s := rfl
@[simp] theorem exec_msgAckRoute port p s : exec (.msgAckRoute port p) s = execMsgAckRoute port p s := rfl
@[simp] theorem exec_requestSend sender s : exec (.requestSend sender) s = execRequestSend sender s := rfl
@[simp] theorem exec_read plane p s : exec (.read plane p) s = execRead plane p s := rfl
@[simp] theorem exec_write plane p s : exec (.write plane p) s = execWrite plane p s := rfl
@[simp] theorem exec_writeMasked plane p s : exec (.writeMasked plane p) s = execWriteMasked plane p s := rfl
@[simp] theorem exec_writeFlagNode plane p s : exec (.writeFlagNode plane p) s = execWriteFlagNode plane p s := rfl
@[simp] theorem exec_writeFlagAll plane p s : exec (.writeFlagAll plane p) s = execWriteFlagAll plane p s := rfl
@[simp] theorem exec_atomic plane p s : exec (.atomic plane p) s = execAtomic plane p s := rfl
@[simp] theorem exec_mergedRequest plane p s : exec (.mergedRequest plane p) s = execMergedRequest plane p s := rfl
@[simp] theorem exec_combineReceipt plane p s : exec (.combineReceipt plane p) s = execCombineReceipt plane p s := rfl
@[simp] theorem exec_flagHoldRelease src seq s : exec (.flagHoldRelease src seq) s = execFlagHoldRelease src seq s := rfl
@[simp] theorem exec_flagHoldDiscard src seq s : exec (.flagHoldDiscard src seq) s = execFlagHoldDiscard src seq s := rfl
@[simp] theorem exec_combineBatchDrop plane batch s : exec (.combineBatchDrop plane batch) s = execCombineBatchDrop plane batch s := rfl
@[simp] theorem exec_readRsp plane p s : exec (.readRsp plane p) s = execReadRsp plane p s := rfl
@[simp] theorem exec_writeAck plane p s : exec (.writeAck plane p) s = execWriteAck plane p s := rfl
@[simp] theorem exec_atomicRsp plane p s : exec (.atomicRsp plane p) s = execAtomicRsp plane p s := rfl
@[simp] theorem exec_msgSend plane p s : exec (.msgSend plane p) s = execMsgSend plane p s := rfl
@[simp] theorem exec_msgAck plane p s : exec (.msgAck plane p) s = execMsgAck plane p s := rfl
@[simp] theorem exec_msgDupExpiry sender s : exec (.msgDupExpiry sender) s = execMsgDupExpiry sender s := rfl
@[simp] theorem exec_responseTimeout tag s : exec (.responseTimeout tag) s = execResponseTimeout tag s := rfl
@[simp] theorem exec_portDownReissue tag s : exec (.portDownReissue tag) s = execPortDownReissue tag s := rfl
@[simp] theorem exec_fenceComplete engine s : exec (.fenceComplete engine) s = execFenceComplete engine s := rfl
@[simp] theorem exec_ctrSub index value s : exec (.ctrSub index value) s = execCtrSub index value s := rfl
@[simp] theorem exec_rlcInval value s : exec (.rlcInval value) s = execRlcInval value s := rfl
@[simp] theorem exec_rlcAdviceWrite index value s : exec (.rlcAdviceWrite index value) s = execRlcAdviceWrite index value s := rfl
@[simp] theorem exec_keyTableWrite addr value s : exec (.keyTableWrite addr value) s = execKeyTableWrite addr value s := rfl
@[simp] theorem exec_rlcDisable s : exec (.rlcDisable) s = execRlcDisable s := rfl
@[simp] theorem exec_ld m s : exec (.ld m) s = execLd m s := rfl
@[simp] theorem exec_st m s : exec (.st m) s = execSt m s := rfl
@[simp] theorem exec_stMasked m s : exec (.stMasked m) s = execStMasked m s := rfl
@[simp] theorem exec_lhaAt m s : exec (.lhaAt m) s = execLhaAt m s := rfl
@[simp] theorem exec_lhaFence m s : exec (.lhaFence m) s = execLhaFence m s := rfl
@[simp] theorem exec_kernelStart m s : exec (.kernelStart m) s = execKernelStart m s := rfl
@[simp] theorem exec_regRd m s : exec (.regRd m) s = execRegRd m s := rfl
@[simp] theorem exec_regWr m s : exec (.regWr m) s = execRegWr m s := rfl
@[simp] theorem exec_mrdRsp m s : exec (.mrdRsp m) s = execMrdRsp m s := rfl
@[simp] theorem exec_mwrAck m s : exec (.mwrAck m) s = execMwrAck m s := rfl
@[simp] theorem exec_matRsp m s : exec (.matRsp m) s = execMatRsp m s := rfl
@[simp] theorem exec_credit m s : exec (.credit m) s = execCredit m s := rfl
@[simp] theorem exec_moduleTrained module fast s : exec (.moduleTrained module fast) s = execModuleTrained module fast s := rfl
@[simp] theorem exec_offerRetry module s : exec (.offerRetry module) s = execOfferRetry module s := rfl
@[simp] theorem exec_accept m s : exec (.accept m) s = execAccept m s := rfl
@[simp] theorem exec_quiesce m s : exec (.quiesce m) s = execQuiesce m s := rfl
@[simp] theorem exec_quiesceComplete s : exec (.quiesceComplete) s = execQuiesceComplete s := rfl
@[simp] theorem exec_moduleLinkLost module s : exec (.moduleLinkLost module) s = execModuleLinkLost module s := rfl
@[simp] theorem exec_ereqTimeout module s : exec (.ereqTimeout module) s = execEreqTimeout module s := rfl
@[simp] theorem exec_ereqPauseEnd s : exec (.ereqPauseEnd) s = execEreqPauseEnd s := rfl
@[simp] theorem exec_noticeSend s : exec (.noticeSend) s = execNoticeSend s := rfl
@[simp] theorem exec_serveWrite s : exec (.serveWrite) s = execServeWrite s := rfl
@[simp] theorem exec_pwrAlertInWrite value s : exec (.pwrAlertInWrite value) s = execPwrAlertInWrite value s := rfl
@[simp] theorem exec_lhaMalformedMessage m s : exec (.lhaMalformedMessage m) s = execLhaMalformedMessage m s := rfl
@[simp] theorem exec_ceDoorbell engine value s : exec (.ceDoorbell engine value) s = execCeDoorbell engine value s := rfl
@[simp] theorem exec_ceEnable engine s : exec (.ceEnable engine) s = execCeEnable engine s := rfl
@[simp] theorem exec_ceDisable engine s : exec (.ceDisable engine) s = execCeDisable engine s := rfl
@[simp] theorem exec_ceResume engine s : exec (.ceResume engine) s = execCeResume engine s := rfl
@[simp] theorem exec_ceAbort engine s : exec (.ceAbort engine) s = execCeAbort engine s := rfl
@[simp] theorem exec_copy engine s : exec (.copy engine) s = execCopy engine s := rfl
@[simp] theorem exec_qcopy engine fails s : exec (.qcopy engine fails) s = execQcopy engine fails s := rfl
@[simp] theorem exec_ceAtomic engine s : exec (.ceAtomic engine) s = execCeAtomic engine s := rfl
@[simp] theorem exec_ceFlag engine s : exec (.ceFlag engine) s = execCeFlag engine s := rfl
@[simp] theorem exec_ceFence engine s : exec (.ceFence engine) s = execCeFence engine s := rfl
@[simp] theorem exec_nop engine s : exec (.nop engine) s = execNop engine s := rfl
@[simp] theorem exec_ceCompletion engine s : exec (.ceCompletion engine) s = execCeCompletion engine s := rfl
@[simp] theorem exec_measSlotOpen slot value s : exec (.measSlotOpen slot value) s = execMeasSlotOpen slot value s := rfl
@[simp] theorem exec_measSlotClose slot s : exec (.measSlotClose slot) s = execMeasSlotClose slot s := rfl
@[simp] theorem exec_xqDoorbell value s : exec (.xqDoorbell value) s = execXqDoorbell value s := rfl
@[simp] theorem exec_invalidate s : exec (.invalidate) s = execInvalidate s := rfl
@[simp] theorem exec_invalidateDrained slot s : exec (.invalidateDrained slot) s = execInvalidateDrained slot s := rfl
@[simp] theorem exec_invalidateStuck slot s : exec (.invalidateStuck slot) s = execInvalidateStuck slot s := rfl
@[simp] theorem exec_migrate s : exec (.migrate) s = execMigrate s := rfl
@[simp] theorem exec_migrateCopyDone slot s : exec (.migrateCopyDone slot) s = execMigrateCopyDone slot s := rfl
@[simp] theorem exec_adviseResident s : exec (.adviseResident) s = execAdviseResident s := rfl
@[simp] theorem exec_adviseReadMostly s : exec (.adviseReadMostly) s = execAdviseReadMostly s := rfl
@[simp] theorem exec_adviseStreaming s : exec (.adviseStreaming) s = execAdviseStreaming s := rfl
@[simp] theorem exec_adviseEvict s : exec (.adviseEvict) s = execAdviseEvict s := rfl
@[simp] theorem exec_adviseNormal s : exec (.adviseNormal) s = execAdviseNormal s := rfl
@[simp] theorem exec_intent port p s : exec (.intent port p) s = execIntent port p s := rfl
@[simp] theorem exec_contrib port p s : exec (.contrib port p) s = execContrib port p s := rfl
@[simp] theorem exec_abort port p s : exec (.abort port p) s = execAbort port p s := rfl
@[simp] theorem exec_received port p s : exec (.received port p) s = execReceived port p s := rfl
@[simp] theorem exec_query port p s : exec (.query port p) s = execQuery port p s := rfl
@[simp] theorem exec_intentWaitExpired handle s : exec (.intentWaitExpired handle) s = execIntentWaitExpired handle s := rfl
@[simp] theorem exec_collStall handle s : exec (.collStall handle) s = execCollStall handle s := rfl
@[simp] theorem exec_collDoorbell value s : exec (.collDoorbell value) s = execCollDoorbell value s := rfl
@[simp] theorem exec_collDescriptorStart s : exec (.collDescriptorStart) s = execCollDescriptorStart s := rfl
@[simp] theorem exec_grantAdmit plane p fails s : exec (.grantAdmit plane p fails) s = execGrantAdmit plane p fails s := rfl
@[simp] theorem exec_grantCredit plane p s : exec (.grantCredit plane p) s = execGrantCredit plane p s := rfl
@[simp] theorem exec_result plane p s : exec (.result plane p) s = execResult plane p s := rfl
@[simp] theorem exec_abortNotice plane p s : exec (.abortNotice plane p) s = execAbortNotice plane p s := rfl
@[simp] theorem exec_done plane p s : exec (.done plane p) s = execDone plane p s := rfl
@[simp] theorem exec_resend plane p s : exec (.resend plane p) s = execResend plane p s := rfl
@[simp] theorem exec_collWaitExpired member s : exec (.collWaitExpired member) s = execCollWaitExpired member s := rfl
@[simp] theorem exec_barAdd core ctx rd ra rb s : exec (.barAdd core ctx rd ra rb) s = execBarAdd core ctx rd ra rb s := rfl
@[simp] theorem exec_barSub core ctx rd ra rb s : exec (.barSub core ctx rd ra rb) s = execBarSub core ctx rd ra rb s := rfl
@[simp] theorem exec_barAnd core ctx rd ra rb s : exec (.barAnd core ctx rd ra rb) s = execBarAnd core ctx rd ra rb s := rfl
@[simp] theorem exec_barOr core ctx rd ra rb s : exec (.barOr core ctx rd ra rb) s = execBarOr core ctx rd ra rb s := rfl
@[simp] theorem exec_barXor core ctx rd ra rb s : exec (.barXor core ctx rd ra rb) s = execBarXor core ctx rd ra rb s := rfl
@[simp] theorem exec_barSll core ctx rd ra rb s : exec (.barSll core ctx rd ra rb) s = execBarSll core ctx rd ra rb s := rfl
@[simp] theorem exec_barSrl core ctx rd ra rb s : exec (.barSrl core ctx rd ra rb) s = execBarSrl core ctx rd ra rb s := rfl
@[simp] theorem exec_barSra core ctx rd ra rb s : exec (.barSra core ctx rd ra rb) s = execBarSra core ctx rd ra rb s := rfl
@[simp] theorem exec_barMul core ctx rd ra rb s : exec (.barMul core ctx rd ra rb) s = execBarMul core ctx rd ra rb s := rfl
@[simp] theorem exec_barMulhu core ctx rd ra rb s : exec (.barMulhu core ctx rd ra rb) s = execBarMulhu core ctx rd ra rb s := rfl
@[simp] theorem exec_barDivu core ctx rd ra rb s : exec (.barDivu core ctx rd ra rb) s = execBarDivu core ctx rd ra rb s := rfl
@[simp] theorem exec_barRemu core ctx rd ra rb s : exec (.barRemu core ctx rd ra rb) s = execBarRemu core ctx rd ra rb s := rfl
@[simp] theorem exec_barSlt core ctx rd ra rb s : exec (.barSlt core ctx rd ra rb) s = execBarSlt core ctx rd ra rb s := rfl
@[simp] theorem exec_barSltu core ctx rd ra rb s : exec (.barSltu core ctx rd ra rb) s = execBarSltu core ctx rd ra rb s := rfl
@[simp] theorem exec_barMin core ctx rd ra rb s : exec (.barMin core ctx rd ra rb) s = execBarMin core ctx rd ra rb s := rfl
@[simp] theorem exec_barMax core ctx rd ra rb s : exec (.barMax core ctx rd ra rb) s = execBarMax core ctx rd ra rb s := rfl
@[simp] theorem exec_barAddi core ctx rd ra imm s : exec (.barAddi core ctx rd ra imm) s = execBarAddi core ctx rd ra imm s := rfl
@[simp] theorem exec_barAndi core ctx rd ra imm s : exec (.barAndi core ctx rd ra imm) s = execBarAndi core ctx rd ra imm s := rfl
@[simp] theorem exec_barOri core ctx rd ra imm s : exec (.barOri core ctx rd ra imm) s = execBarOri core ctx rd ra imm s := rfl
@[simp] theorem exec_barXori core ctx rd ra imm s : exec (.barXori core ctx rd ra imm) s = execBarXori core ctx rd ra imm s := rfl
@[simp] theorem exec_barLui core ctx rd ra imm s : exec (.barLui core ctx rd ra imm) s = execBarLui core ctx rd ra imm s := rfl
@[simp] theorem exec_barSlli core ctx rd ra imm s : exec (.barSlli core ctx rd ra imm) s = execBarSlli core ctx rd ra imm s := rfl
@[simp] theorem exec_barSrli core ctx rd ra imm s : exec (.barSrli core ctx rd ra imm) s = execBarSrli core ctx rd ra imm s := rfl
@[simp] theorem exec_barBeq core ctx rd ra imm s : exec (.barBeq core ctx rd ra imm) s = execBarBeq core ctx rd ra imm s := rfl
@[simp] theorem exec_barBne core ctx rd ra imm s : exec (.barBne core ctx rd ra imm) s = execBarBne core ctx rd ra imm s := rfl
@[simp] theorem exec_barBlt core ctx rd ra imm s : exec (.barBlt core ctx rd ra imm) s = execBarBlt core ctx rd ra imm s := rfl
@[simp] theorem exec_barBge core ctx rd ra imm s : exec (.barBge core ctx rd ra imm) s = execBarBge core ctx rd ra imm s := rfl
@[simp] theorem exec_barBltu core ctx rd ra imm s : exec (.barBltu core ctx rd ra imm) s = execBarBltu core ctx rd ra imm s := rfl
@[simp] theorem exec_barBgeu core ctx rd ra imm s : exec (.barBgeu core ctx rd ra imm) s = execBarBgeu core ctx rd ra imm s := rfl
@[simp] theorem exec_barJal core ctx off s : exec (.barJal core ctx off) s = execBarJal core ctx off s := rfl
@[simp] theorem exec_barJr core ctx rd ra rb s : exec (.barJr core ctx rd ra rb) s = execBarJr core ctx rd ra rb s := rfl
@[simp] theorem exec_barLd core ctx rd ra imm s : exec (.barLd core ctx rd ra imm) s = execBarLd core ctx rd ra imm s := rfl
@[simp] theorem exec_barLw core ctx rd ra imm s : exec (.barLw core ctx rd ra imm) s = execBarLw core ctx rd ra imm s := rfl
@[simp] theorem exec_barSt core ctx rd ra imm s : exec (.barSt core ctx rd ra imm) s = execBarSt core ctx rd ra imm s := rfl
@[simp] theorem exec_barSw core ctx rd ra imm s : exec (.barSw core ctx rd ra imm) s = execBarSw core ctx rd ra imm s := rfl
@[simp] theorem exec_barDld core ctx rd ra imm s : exec (.barDld core ctx rd ra imm) s = execBarDld core ctx rd ra imm s := rfl
@[simp] theorem exec_barDst core ctx rd ra imm s : exec (.barDst core ctx rd ra imm) s = execBarDst core ctx rd ra imm s := rfl
@[simp] theorem exec_barFlush core ctx rd ra rb s : exec (.barFlush core ctx rd ra rb) s = execBarFlush core ctx rd ra rb s := rfl
@[simp] theorem exec_barCpy core ctx rd ra rb rn mode s : exec (.barCpy core ctx rd ra rb rn mode) s = execBarCpy core ctx rd ra rb rn mode s := rfl
@[simp] theorem exec_barCwait core ctx rd ra rb s : exec (.barCwait core ctx rd ra rb) s = execBarCwait core ctx rd ra rb s := rfl
@[simp] theorem exec_barVcvt core ctx rd ra rb rn mode fails s : exec (.barVcvt core ctx rd ra rb rn mode fails) s = execBarVcvt core ctx rd ra rb rn mode fails s := rfl
@[simp] theorem exec_barVacc core ctx rd ra rb rn mode fails s : exec (.barVacc core ctx rd ra rb rn mode fails) s = execBarVacc core ctx rd ra rb rn mode fails s := rfl
@[simp] theorem exec_barVfin core ctx rd ra rb rn mode fails s : exec (.barVfin core ctx rd ra rb rn mode fails) s = execBarVfin core ctx rd ra rb rn mode fails s := rfl
@[simp] theorem exec_barVqnt core ctx rd ra rb rn mode fails s : exec (.barVqnt core ctx rd ra rb rn mode fails) s = execBarVqnt core ctx rd ra rb rn mode fails s := rfl
@[simp] theorem exec_barVmrg core ctx rd ra rb rn mode s : exec (.barVmrg core ctx rd ra rb rn mode) s = execBarVmrg core ctx rd ra rb rn mode s := rfl
@[simp] theorem exec_barVspr core ctx rd ra rb rn mode fails s : exec (.barVspr core ctx rd ra rb rn mode fails) s = execBarVspr core ctx rd ra rb rn mode fails s := rfl
@[simp] theorem exec_barVmov core ctx rd ra rb rn mode s : exec (.barVmov core ctx rd ra rb rn mode) s = execBarVmov core ctx rd ra rb rn mode s := rfl
@[simp] theorem exec_barVwait core ctx rd ra rb s : exec (.barVwait core ctx rd ra rb) s = execBarVwait core ctx rd ra rb s := rfl
@[simp] theorem exec_barSwait core ctx rd ra rb s : exec (.barSwait core ctx rd ra rb) s = execBarSwait core ctx rd ra rb s := rfl
@[simp] theorem exec_barSall core ctx rd ra rb s : exec (.barSall core ctx rd ra rb) s = execBarSall core ctx rd ra rb s := rfl
@[simp] theorem exec_barSrel core ctx rd ra rb s : exec (.barSrel core ctx rd ra rb) s = execBarSrel core ctx rd ra rb s := rfl
@[simp] theorem exec_barScnt core ctx rd ra rb s : exec (.barScnt core ctx rd ra rb) s = execBarScnt core ctx rd ra rb s := rfl
@[simp] theorem exec_barRcast core ctx rd ra rb rn mode s : exec (.barRcast core ctx rd ra rb rn mode) s = execBarRcast core ctx rd ra rb rn mode s := rfl
@[simp] theorem exec_barRsend core ctx rd ra rb rn mode s : exec (.barRsend core ctx rd ra rb rn mode) s = execBarRsend core ctx rd ra rb rn mode s := rfl
@[simp] theorem exec_barRwait core ctx rd ra rb s : exec (.barRwait core ctx rd ra rb) s = execBarRwait core ctx rd ra rb s := rfl
@[simp] theorem exec_barPick core ctx rd ra rb s : exec (.barPick core ctx rd ra rb) s = execBarPick core ctx rd ra rb s := rfl
@[simp] theorem exec_barAbrt core ctx rd ra rb s : exec (.barAbrt core ctx rd ra rb) s = execBarAbrt core ctx rd ra rb s := rfl
@[simp] theorem exec_barEnd core ctx rd ra rb s : exec (.barEnd core ctx rd ra rb) s = execBarEnd core ctx rd ra rb s := rfl
@[simp] theorem exec_contextResume core ctx s : exec (.contextResume core ctx) s = execContextResume core ctx s := rfl
@[simp] theorem exec_watchdogFire core ctx s : exec (.watchdogFire core ctx) s = execWatchdogFire core ctx s := rfl
@[simp] theorem exec_progLoad z s : exec (.progLoad z) s = execProgLoad z s := rfl
@[simp] theorem exec_progUnload z s : exec (.progUnload z) s = execProgUnload z s := rfl
@[simp] theorem exec_progPieceTimeout slot s : exec (.progPieceTimeout slot) s = execProgPieceTimeout slot s := rfl
@[simp] theorem exec_peFailure engine s : exec (.peFailure engine) s = execPeFailure engine s := rfl
@[simp] theorem exec_dramStackFailure stack row s : exec (.dramStackFailure stack row) s = execDramStackFailure stack row s := rfl
@[simp] theorem exec_fence z s : exec (.fence z) s = execFence z s := rfl
@[simp] theorem exec_takeover z s : exec (.takeover z) s = execTakeover z s := rfl
@[simp] theorem exec_membNotice plane p s : exec (.membNotice plane p) s = execMembNotice plane p s := rfl
@[simp] theorem exec_unitTest z s : exec (.unitTest z) s = execUnitTest z s := rfl
@[simp] theorem exec_unitTestDone part pass s : exec (.unitTestDone part pass) s = execUnitTestDone part pass s := rfl
@[simp] theorem exec_ledgerClear z s : exec (.ledgerClear z) s = execLedgerClear z s := rfl
@[simp] theorem exec_ledgerRead z s : exec (.ledgerRead z) s = execLedgerRead z s := rfl
@[simp] theorem exec_fwStageBegin z s : exec (.fwStageBegin z) s = execFwStageBegin z s := rfl
@[simp] theorem exec_fwStageData z s : exec (.fwStageData z) s = execFwStageData z s := rfl
@[simp] theorem exec_fwStageEnd z s : exec (.fwStageEnd z) s = execFwStageEnd z s := rfl
@[simp] theorem exec_fwActivate z s : exec (.fwActivate z) s = execFwActivate z s := rfl
@[simp] theorem exec_fwActivationPick part s : exec (.fwActivationPick part) s = execFwActivationPick part s := rfl
@[simp] theorem exec_fwRestartDone part s : exec (.fwRestartDone part) s = execFwRestartDone part s := rfl
@[simp] theorem exec_fwTrialEnd part passed s : exec (.fwTrialEnd part passed) s = execFwTrialEnd part passed s := rfl
@[simp] theorem exec_guyLinkChange part lineB up s : exec (.guyLinkChange part lineB up) s = execGuyLinkChange part lineB up s := rfl
@[simp] theorem exec_flashEraseComplete part s : exec (.flashEraseComplete part) s = execFlashEraseComplete part s := rfl
@[simp] theorem exec_sensorSample part samples s : exec (.sensorSample part samples) s = execSensorSample part samples s := rfl
@[simp] theorem exec_rampAlarmEnd part s : exec (.rampAlarmEnd part) s = execRampAlarmEnd part s := rfl
@[simp] theorem exec_flashInhibitEnd part s : exec (.flashInhibitEnd part) s = execFlashInhibitEnd part s := rfl
@[simp] theorem exec_powerCap z s : exec (.powerCap z) s = execPowerCap z s := rfl
@[simp] theorem exec_leaseExpired part s : exec (.leaseExpired part) s = execLeaseExpired part s := rfl
@[simp] theorem exec_thermalAlert z s : exec (.thermalAlert z) s = execThermalAlert z s := rfl
@[simp] theorem exec_powerAlertAssert s : exec (.powerAlertAssert) s = execPowerAlertAssert s := rfl
@[simp] theorem exec_powerAlertDeassert s : exec (.powerAlertDeassert) s = execPowerAlertDeassert s := rfl
@[simp] theorem exec_alertHoldExpired part s : exec (.alertHoldExpired part) s = execAlertHoldExpired part s := rfl
@[simp] theorem exec_bivouac z s : exec (.bivouac z) s = execBivouac z s := rfl
@[simp] theorem exec_bivouacEntry part s : exec (.bivouacEntry part) s = execBivouacEntry part s := rfl
@[simp] theorem exec_wake z s : exec (.wake z) s = execWake z s := rfl
@[simp] theorem exec_wakeComplete part passed s : exec (.wakeComplete part passed) s = execWakeComplete part passed s := rfl
@[simp] theorem exec_resetAssert part s : exec (.resetAssert part) s = execResetAssert part s := rfl
@[simp] theorem exec_resetRelease part s : exec (.resetRelease part) s = execResetRelease part s := rfl
@[simp] theorem exec_secureBootDone part okA okB s : exec (.secureBootDone part okA okB) s = execSecureBootDone part okA okB s := rfl
@[simp] theorem exec_railFault part s : exec (.railFault part) s = execRailFault part s := rfl
@[simp] theorem exec_suddenPowerLoss part s : exec (.suddenPowerLoss part) s = execSuddenPowerLoss part s := rfl
@[simp] theorem exec_pitchScrubDone pitch s : exec (.pitchScrubDone pitch) s = execPitchScrubDone pitch s := rfl
@[simp] theorem exec_epScrubDone s : exec (.epScrubDone) s = execEpScrubDone s := rfl
@[simp] theorem exec_resourceScrubDone kind unit s : exec (.resourceScrubDone kind unit) s = execResourceScrubDone kind unit s := rfl
@[simp] theorem exec_debugUnlock part s : exec (.debugUnlock part) s = execDebugUnlock part s := rfl
@[simp] theorem exec_ownerEnrol z s : exec (.ownerEnrol z) s = execOwnerEnrol z s := rfl
@[simp] theorem exec_ownerRelease z s : exec (.ownerRelease z) s = execOwnerRelease z s := rfl
@[simp] theorem exec_pitchEnrol z s : exec (.pitchEnrol z) s = execPitchEnrol z s := rfl
@[simp] theorem exec_pitchKeySet z s : exec (.pitchKeySet z) s = execPitchKeySet z s := rfl
@[simp] theorem exec_spdmMsg z enclosed s : exec (.spdmMsg z enclosed) s = execSpdmMsg z enclosed s := rfl
@[simp] theorem exec_getVersion r s : exec (.getVersion r) s = execGetVersion r s := rfl
@[simp] theorem exec_getCapabilities r s : exec (.getCapabilities r) s = execGetCapabilities r s := rfl
@[simp] theorem exec_negotiateAlgorithms r s : exec (.negotiateAlgorithms r) s = execNegotiateAlgorithms r s := rfl
@[simp] theorem exec_getDigests r s : exec (.getDigests r) s = execGetDigests r s := rfl
@[simp] theorem exec_getCertificate r s : exec (.getCertificate r) s = execGetCertificate r s := rfl
@[simp] theorem exec_challenge r s : exec (.challenge r) s = execChallenge r s := rfl
@[simp] theorem exec_getMeasurements r s : exec (.getMeasurements r) s = execGetMeasurements r s := rfl
@[simp] theorem exec_keyExchange r s : exec (.keyExchange r) s = execKeyExchange r s := rfl
@[simp] theorem exec_finish r s : exec (.finish r) s = execFinish r s := rfl
@[simp] theorem exec_heartbeat r s : exec (.heartbeat r) s = execHeartbeat r s := rfl
@[simp] theorem exec_keyUpdate r s : exec (.keyUpdate r) s = execKeyUpdate r s := rfl
@[simp] theorem exec_endSession r s : exec (.endSession r) s = execEndSession r s := rfl
@[simp] theorem exec_identify z s : exec (.identify z) s = execIdentify z s := rfl
@[simp] theorem exec_regRead z s : exec (.regRead z) s = execRegRead z s := rfl
@[simp] theorem exec_regWriteCmd z s : exec (.regWriteCmd z) s = execRegWriteCmd z s := rfl
@[simp] theorem exec_echo z s : exec (.echo z) s = execEcho z s := rfl
@[simp] theorem exec_relay z s : exec (.relay z) s = execRelay z s := rfl
@[simp] theorem exec_relayReply part tag enclosed s : exec (.relayReply part tag enclosed) s = execRelayReply part tag enclosed s := rfl
@[simp] theorem exec_relayTimeout part tag s : exec (.relayTimeout part tag) s = execRelayTimeout part tag s := rfl
@[simp] theorem exec_stageWrite z s : exec (.stageWrite z) s = execStageWrite z s := rfl
@[simp] theorem exec_check z s : exec (.check z) s = execCheck z s := rfl
@[simp] theorem exec_commitAt z s : exec (.commitAt z) s = execCommitAt z s := rfl
@[simp] theorem exec_cancel z s : exec (.cancel z) s = execCancel z s := rfl
@[simp] theorem exec_stageStatus z s : exec (.stageStatus z) s = execStageStatus z s := rfl
@[simp] theorem exec_portRaise z s : exec (.portRaise z) s = execPortRaise z s := rfl
@[simp] theorem exec_portStrike z s : exec (.portStrike z) s = execPortStrike z s := rfl
@[simp] theorem exec_collAbort z s : exec (.collAbort z) s = execCollAbort z s := rfl
@[simp] theorem exec_collStatus z s : exec (.collStatus z) s = execCollStatus z s := rfl
@[simp] theorem exec_xltCmd z s : exec (.xltCmd z) s = execXltCmd z s := rfl
@[simp] theorem exec_tagRecordExpired part tag s : exec (.tagRecordExpired part tag) s = execTagRecordExpired part tag s := rfl
@[simp] theorem exec_i3cPrivateRead part s : exec (.i3cPrivateRead part) s = execI3cPrivateRead part s := rfl
@[simp] theorem exec_entdaa part addr s : exec (.entdaa part addr) s = execEntdaa part addr s := rfl
@[simp] theorem exec_arpRequest part lineB addr s : exec (.arpRequest part lineB addr) s = execArpRequest part lineB addr s := rfl
@[simp] theorem exec_neighbourSolicit part lineB addr s : exec (.neighbourSolicit part lineB addr) s = execNeighbourSolicit part lineB addr s := rfl
@[simp] theorem exec_zhevselerPacketRejected z magic opcode s : exec (.zhevselerPacketRejected z magic opcode) s = execZhevselerPacketRejected z magic opcode s := rfl
@[simp] theorem exec_reservedOpcodePacket plane p s : exec (.reservedOpcodePacket plane p) s = execReservedOpcodePacket plane p s := rfl

end Sys2Proof.Machine
end

