-- ==== Sys2Proof/Laws/Store.lean ====
section
/-!
SUPPORT. Laws of the sparse tables and byte memories: what a read gives after each write, and that every memory operation keeps the canonical form.
-/

namespace Sys2Proof.Machine

/-! ### Tables -/

@[simp] theorem Tab.find_nil {α : Type} (k : Nat) : Tab.find ([] : Tab α) k = none := rfl

/-- A key that was put reads as its value. -/
@[simp] theorem Tab.find_put_same {α : Type} (t : Tab α) (k : Nat) (v : α) : Tab.find (Tab.put t k v) k = some v := by
  induction t with
  | nil => simp [Tab.put, Tab.find]
  | cons e r ih =>
    obtain ⟨j, w⟩ := e
    simp only [Tab.put]
    split
    · simp [Tab.find]
    · split
      · simp [Tab.find]
      · rename_i h _
        simp only [Tab.find, h, if_false, ih]

/-- A put leaves every other key. -/
@[simp] theorem Tab.find_put_other {α : Type} (t : Tab α) (k j : Nat) (v : α) (h : j ≠ k) : Tab.find (Tab.put t k v) j = Tab.find t j := by
  induction t with
  | nil => simp [Tab.put, Tab.find, Ne.symm h]
  | cons e r ih =>
    obtain ⟨i, w⟩ := e
    simp only [Tab.put]
    split
    · rename_i hi
      subst hi
      simp [Tab.find, Ne.symm h]
    · split
      · simp [Tab.find, Ne.symm h]
      · simp only [Tab.find, ih]

/-- A deleted key is unlisted. -/
@[simp] theorem Tab.find_del_same {α : Type} (t : Tab α) (k : Nat) : Tab.find (Tab.del t k) k = none := by
  induction t with
  | nil => rfl
  | cons e r ih =>
    obtain ⟨j, w⟩ := e
    unfold Tab.del at *
    by_cases h : j = k
    · rw [List.filter_cons_of_neg (by simp [h]), ih]
    · rw [List.filter_cons_of_pos (by simp [h])]
      simp [Tab.find, h, ih]

/-- A deletion leaves every other key. -/
@[simp] theorem Tab.find_del_other {α : Type} (t : Tab α) (k j : Nat) (h : j ≠ k) : Tab.find (Tab.del t k) j = Tab.find t j := by
  induction t with
  | nil => rfl
  | cons e r ih =>
    obtain ⟨i, w⟩ := e
    unfold Tab.del at *
    by_cases hk : i = k
    · subst hk
      rw [List.filter_cons_of_neg (by simp), ih]
      simp [Tab.find, Ne.symm h]
    · rw [List.filter_cons_of_pos (by simp [hk])]
      simp [Tab.find, ih]

@[simp] theorem Tab.get_put_same {α : Type} (t : Tab α) (d : α) (k : Nat) (v : α) : Tab.get (Tab.put t k v) d k = v := by simp [Tab.get]

/-- The later of two puts at one key stands. -/
@[simp] theorem Tab.put_put {α : Type} (t : Tab α) (k : Nat) (v w : α) : Tab.put (Tab.put t k v) k w = Tab.put t k w := by
  induction t with
  | nil => simp [Tab.put]
  | cons e r ih =>
    obtain ⟨j, x⟩ := e
    simp only [Tab.put]
    split
    · simp [Tab.put]
    · split
      · simp [Tab.put]
      · simp [Tab.put, *]

theorem Tab.get_put_other {α : Type} (t : Tab α) (d : α) (k j : Nat) (v : α) (h : j ≠ k) : Tab.get (Tab.put t k v) d j = Tab.get t d j := by
  simp [Tab.get, h]

/-- A key reads as what was set, listed or not. -/
@[simp] theorem Tab.get_set_same {α : Type} [DecidableEq α] (t : Tab α) (d : α) (k : Nat) (v : α) : Tab.get (Tab.set t d k v) d k = v := by
  unfold Tab.set
  split
  · rename_i h
    simp [Tab.get, h]
  · simp

/-- A set leaves every other key. -/
theorem Tab.get_set_other {α : Type} [DecidableEq α] (t : Tab α) (d : α) (k j : Nat) (v : α) (h : j ≠ k) : Tab.get (Tab.set t d k v) d j = Tab.get t d j := by
  unfold Tab.set
  split <;> simp [Tab.get, h]

@[simp] theorem Tab.get_upd_same {α : Type} (t : Tab α) (d : α) (k : Nat) (f : α → α) : Tab.get (Tab.upd t d k f) d k = f (Tab.get t d k) := by
  simp [Tab.upd]

theorem Tab.get_upd_other {α : Type} (t : Tab α) (d : α) (k j : Nat) (f : α → α) (h : j ≠ k) : Tab.get (Tab.upd t d k f) d j = Tab.get t d j :=
  Tab.get_put_other t d k j _ h

/-! ### The canonical form -/

/-- Rising keys, as a pairwise relation. -/
theorem Tab.rising_iff {α : Type} (t : Tab α) : Tab.rising t = true ↔ t.Pairwise (fun a b => a.1 < b.1) := by
  induction t with
  | nil => simp [Tab.rising]
  | cons e r ih =>
    obtain ⟨i, w⟩ := e
    cases r with
    | nil => simp [Tab.rising]
    | cons f r =>
      obtain ⟨j, v⟩ := f
      simp only [Tab.rising, Bool.and_eq_true, decide_eq_true_eq, ih]
      constructor
      · rintro ⟨hij, hp⟩
        refine List.Pairwise.cons ?_ hp
        intro b hb
        rcases List.mem_cons.1 hb with rfl | hb
        · exact hij
        · exact lt_trans hij ((List.pairwise_cons.1 hp).1 b hb)
      · intro hp
        exact ⟨(List.pairwise_cons.1 hp).1 _ (List.mem_cons_self ..), (List.pairwise_cons.1 hp).2⟩

/-- What a put lists. -/
theorem Tab.mem_put {α : Type} (t : Tab α) (k : Nat) (v : α) (e : Nat × α) (h : e ∈ Tab.put t k v) : e = (k, v) ∨ e ∈ t := by
  induction t with
  | nil => simp_all [Tab.put]
  | cons f r ih =>
    obtain ⟨j, w⟩ := f
    simp only [Tab.put] at h
    split at h
    · rcases List.mem_cons.1 h with h | h
      · exact .inl h
      · exact .inr (List.mem_cons_of_mem _ h)
    · split at h
      · rcases List.mem_cons.1 h with h | h
        · exact .inl h
        · exact .inr h
      · rcases List.mem_cons.1 h with h | h
        · exact .inr (h ▸ List.mem_cons_self ..)
        · exact (ih h).imp id (List.mem_cons_of_mem _)

theorem Tab.rising_put {α : Type} (t : Tab α) (k : Nat) (v : α) (h : Tab.rising t = true) : Tab.rising (Tab.put t k v) = true := by
  rw [Tab.rising_iff] at *
  induction t with
  | nil => simp [Tab.put]
  | cons f r ih =>
    obtain ⟨j, w⟩ := f
    have hr := List.pairwise_cons.1 h
    simp only [Tab.put]
    split
    · rename_i hj
      subst hj
      exact List.Pairwise.cons hr.1 hr.2
    · rename_i hj
      split
      · rename_i hk
        refine List.Pairwise.cons ?_ h
        intro b hb
        rcases List.mem_cons.1 hb with rfl | hb
        · exact hk
        · exact lt_trans hk (hr.1 b hb)
      · rename_i hk
        refine List.Pairwise.cons ?_ (ih hr.2)
        intro b hb
        rcases Tab.mem_put r k v b hb with rfl | hb
        · exact lt_of_le_of_ne (not_lt.1 hk) hj
        · exact hr.1 b hb

theorem Tab.rising_filter {α : Type} (t : Tab α) (p : Nat × α → Bool) (h : Tab.rising t = true) : Tab.rising (t.filter p) = true := by
  rw [Tab.rising_iff] at *
  exact h.filter p

/-- Setting a key keeps the canonical form. -/
theorem Tab.wf_set {α : Type} [DecidableEq α] (t : Tab α) (d : α) (k : Nat) (v : α) (h : Tab.wf t d = true) : Tab.wf (Tab.set t d k v) d = true := by
  simp only [Tab.wf, Bool.and_eq_true, List.all_eq_true] at *
  unfold Tab.set Tab.del
  split
  · exact ⟨Tab.rising_filter t _ h.1, fun e he => h.2 e (List.mem_filter.1 he).1⟩
  · rename_i hv
    refine ⟨Tab.rising_put t k v h.1, fun e he => ?_⟩
    rcases Tab.mem_put t k v e he with rfl | he
    · simpa using hv
    · exact h.2 e he

/-! ### Byte memories -/

/-- Writing one byte keeps the canonical form. -/
theorem Memory.wf_setByte (m : Memory) (a : Nat) (b : Byte) (h : m.wf = true) : (m.setByte a b).wf = true := Tab.wf_set m _ a b h

/-- Writing bytes keeps the canonical form. -/
theorem Memory.wf_write (m : Memory) (a : Nat) (l : List Byte) (h : m.wf = true) : (m.write a l).wf = true := by
  induction l generalizing m a with
  | nil => exact h
  | cons b l ih => exact ih _ _ (Memory.wf_setByte m a b h)

/-- Zeroing a range keeps the canonical form. -/
theorem Memory.wf_zero (m : Memory) (a n : Nat) (h : m.wf = true) : (m.zero a n).wf = true := by
  simp only [Memory.wf, Memory.zero, Tab.wf, Bool.and_eq_true, List.all_eq_true] at *
  exact ⟨Tab.rising_filter m _ h.1, fun e he => h.2 e (List.mem_filter.1 he).1⟩

/-- A byte reads as it was written. -/
@[simp] theorem Memory.byte_setByte_same (m : Memory) (a : Nat) (b : Byte) : (m.setByte a b).byte a = b := Tab.get_set_same m _ a b

/-- Writing a byte leaves every other byte. -/
theorem Memory.byte_setByte_other (m : Memory) (a c : Nat) (b : Byte) (h : c ≠ a) : (m.setByte a b).byte c = m.byte c := Tab.get_set_other m _ a c b h

/-- Writing bytes leaves every byte outside them. -/
theorem Memory.byte_write_other (m : Memory) (a c : Nat) (l : List Byte) (h : c < a ∨ a + l.length ≤ c) : (m.write a l).byte c = m.byte c := by
  induction l generalizing m a with
  | nil => rfl
  | cons b l ih =>
    simp only [List.length_cons] at h
    simp only [Memory.write]
    rw [ih _ _ (by omega), Memory.byte_setByte_other _ _ _ _ (by omega)]

/-- A written byte reads as it was written. -/
theorem Memory.byte_write_at (m : Memory) (a i : Nat) (l : List Byte) (h : i < l.length) : (m.write a l).byte (a + i) = l.getD i 0 := by
  induction l generalizing m a i with
  | nil => simp at h
  | cons b l ih =>
    cases i with
    | zero => simp [Memory.write, Memory.byte_write_other]
    | succ i =>
      have := ih (m.setByte a b) (a + 1) i (by simpa using h)
      simpa [Memory.write, Nat.add_assoc, Nat.add_comm 1] using this

/-- A zeroed byte reads as zero. -/
theorem Memory.byte_zero_in (m : Memory) (a n c : Nat) (h1 : a ≤ c) (h2 : c < a + n) : (m.zero a n).byte c = 0 := by
  have : Tab.find (m.filter (fun e => e.1 < a || a + n ≤ e.1)) c = none := by
    induction m with
    | nil => rfl
    | cons e r ih =>
      obtain ⟨j, w⟩ := e
      by_cases hj : j < a ∨ a + n ≤ j
      · have hjc : j ≠ c := by omega
        rw [List.filter_cons_of_pos (by simpa using hj)]
        simp only [Tab.find, hjc, if_false, ih]
      · rw [List.filter_cons_of_neg (by simpa using hj), ih]
  simp [Memory.byte, Memory.zero, Tab.get, this, Memory.blank]

/-- Both memories are in canonical form after reset: nothing is listed. -/
theorem Memory.wf_nil : Memory.wf [] = true := rfl

end Sys2Proof.Machine
end

