-- ==== Sys2Proof/Laws/State.lean ====
section
/-!
SUPPORT. Laws of the state: what each field is after each update, so that no later proof unfolds a record update.
A field of an event or a count is read through `cases`, which keeps the kernel from comparing whole register files.
-/

namespace Sys2Proof.Machine

/-! ### What both parts hold -/

@[simp] theorem Common.wr_part (c : Common) (a : Nat) (v : Reg) : (c.wr a v).part = c.part := by cases c; rfl
@[simp] theorem Common.wr_id (c : Common) (a : Nat) (v : Reg) : (c.wr a v).id = c.id := by cases c; rfl
@[simp] theorem Common.wr_time (c : Common) (a : Nat) (v : Reg) : (c.wr a v).time = c.time := by cases c; rfl
@[simp] theorem Common.wr_ports (c : Common) (a : Nat) (v : Reg) : (c.wr a v).ports = c.ports := by cases c; rfl
@[simp] theorem Common.wr_opt (c : Common) (a : Nat) (v : Reg) : (c.wr a v).opt = c.opt := by cases c; rfl
@[simp] theorem Common.wr_stage (c : Common) (a : Nat) (v : Reg) : (c.wr a v).stage = c.stage := by cases c; rfl
@[simp] theorem Common.wr_mgmt (c : Common) (a : Nat) (v : Reg) : (c.wr a v).mgmt = c.mgmt := by cases c; rfl
@[simp] theorem Common.wr_ledger (c : Common) (a : Nat) (v : Reg) : (c.wr a v).ledger = c.ledger := by cases c; rfl
@[simp] theorem Common.wr_test (c : Common) (a : Nat) (v : Reg) : (c.wr a v).test = c.test := by cases c; rfl
@[simp] theorem Common.wr_fw (c : Common) (a : Nat) (v : Reg) : (c.wr a v).fw = c.fw := by cases c; rfl
@[simp] theorem Common.wr_pwr (c : Common) (a : Nat) (v : Reg) : (c.wr a v).pwr = c.pwr := by cases c; rfl
@[simp] theorem Common.wr_therm (c : Common) (a : Nat) (v : Reg) : (c.wr a v).therm = c.therm := by cases c; rfl
@[simp] theorem Common.wr_biv (c : Common) (a : Nat) (v : Reg) : (c.wr a v).biv = c.biv := by cases c; rfl
@[simp] theorem Common.wr_sec (c : Common) (a : Nat) (v : Reg) : (c.wr a v).sec = c.sec := by cases c; rfl
@[simp] theorem Common.wr_admitted (c : Common) (a : Nat) (v : Reg) : (c.wr a v).admitted = c.admitted := by cases c; rfl
@[simp] theorem Common.wr_free (c : Common) (a : Nat) (v : Reg) : (c.wr a v).free = c.free := by cases c; rfl
@[simp] theorem Common.wrF_part (c : Common) (a hi lo x : Nat) : (c.wrF a hi lo x).part = c.part := by cases c; rfl
@[simp] theorem Common.wrF_id (c : Common) (a hi lo x : Nat) : (c.wrF a hi lo x).id = c.id := by cases c; rfl
@[simp] theorem Common.wrF_time (c : Common) (a hi lo x : Nat) : (c.wrF a hi lo x).time = c.time := by cases c; rfl
@[simp] theorem Common.wrF_ports (c : Common) (a hi lo x : Nat) : (c.wrF a hi lo x).ports = c.ports := by cases c; rfl
@[simp] theorem Common.wrF_opt (c : Common) (a hi lo x : Nat) : (c.wrF a hi lo x).opt = c.opt := by cases c; rfl
@[simp] theorem Common.wrF_stage (c : Common) (a hi lo x : Nat) : (c.wrF a hi lo x).stage = c.stage := by cases c; rfl
@[simp] theorem Common.wrF_mgmt (c : Common) (a hi lo x : Nat) : (c.wrF a hi lo x).mgmt = c.mgmt := by cases c; rfl
@[simp] theorem Common.wrF_ledger (c : Common) (a hi lo x : Nat) : (c.wrF a hi lo x).ledger = c.ledger := by cases c; rfl
@[simp] theorem Common.wrF_test (c : Common) (a hi lo x : Nat) : (c.wrF a hi lo x).test = c.test := by cases c; rfl
@[simp] theorem Common.wrF_fw (c : Common) (a hi lo x : Nat) : (c.wrF a hi lo x).fw = c.fw := by cases c; rfl
@[simp] theorem Common.wrF_pwr (c : Common) (a hi lo x : Nat) : (c.wrF a hi lo x).pwr = c.pwr := by cases c; rfl
@[simp] theorem Common.wrF_therm (c : Common) (a hi lo x : Nat) : (c.wrF a hi lo x).therm = c.therm := by cases c; rfl
@[simp] theorem Common.wrF_biv (c : Common) (a hi lo x : Nat) : (c.wrF a hi lo x).biv = c.biv := by cases c; rfl
@[simp] theorem Common.wrF_sec (c : Common) (a hi lo x : Nat) : (c.wrF a hi lo x).sec = c.sec := by cases c; rfl
@[simp] theorem Common.wrF_admitted (c : Common) (a hi lo x : Nat) : (c.wrF a hi lo x).admitted = c.admitted := by cases c; rfl
@[simp] theorem Common.wrF_free (c : Common) (a hi lo x : Nat) : (c.wrF a hi lo x).free = c.free := by cases c; rfl
@[simp] theorem Common.bump_part (c : Common) (a : Nat) : (c.bump a).part = c.part := by cases c; rfl
@[simp] theorem Common.bump_id (c : Common) (a : Nat) : (c.bump a).id = c.id := by cases c; rfl
@[simp] theorem Common.bump_time (c : Common) (a : Nat) : (c.bump a).time = c.time := by cases c; rfl
@[simp] theorem Common.bump_ports (c : Common) (a : Nat) : (c.bump a).ports = c.ports := by cases c; rfl
@[simp] theorem Common.bump_opt (c : Common) (a : Nat) : (c.bump a).opt = c.opt := by cases c; rfl
@[simp] theorem Common.bump_stage (c : Common) (a : Nat) : (c.bump a).stage = c.stage := by cases c; rfl
@[simp] theorem Common.bump_mgmt (c : Common) (a : Nat) : (c.bump a).mgmt = c.mgmt := by cases c; rfl
@[simp] theorem Common.bump_ledger (c : Common) (a : Nat) : (c.bump a).ledger = c.ledger := by cases c; rfl
@[simp] theorem Common.bump_test (c : Common) (a : Nat) : (c.bump a).test = c.test := by cases c; rfl
@[simp] theorem Common.bump_fw (c : Common) (a : Nat) : (c.bump a).fw = c.fw := by cases c; rfl
@[simp] theorem Common.bump_pwr (c : Common) (a : Nat) : (c.bump a).pwr = c.pwr := by cases c; rfl
@[simp] theorem Common.bump_therm (c : Common) (a : Nat) : (c.bump a).therm = c.therm := by cases c; rfl
@[simp] theorem Common.bump_biv (c : Common) (a : Nat) : (c.bump a).biv = c.biv := by cases c; rfl
@[simp] theorem Common.bump_sec (c : Common) (a : Nat) : (c.bump a).sec = c.sec := by cases c; rfl
@[simp] theorem Common.bump_admitted (c : Common) (a : Nat) : (c.bump a).admitted = c.admitted := by cases c; rfl
@[simp] theorem Common.bump_free (c : Common) (a : Nat) : (c.bump a).free = c.free := by cases c; rfl
@[simp] theorem Common.bumpLo_part (c : Common) (a : Nat) : (c.bumpLo a).part = c.part := by cases c; rfl
@[simp] theorem Common.bumpLo_id (c : Common) (a : Nat) : (c.bumpLo a).id = c.id := by cases c; rfl
@[simp] theorem Common.bumpLo_time (c : Common) (a : Nat) : (c.bumpLo a).time = c.time := by cases c; rfl
@[simp] theorem Common.bumpLo_ports (c : Common) (a : Nat) : (c.bumpLo a).ports = c.ports := by cases c; rfl
@[simp] theorem Common.bumpLo_opt (c : Common) (a : Nat) : (c.bumpLo a).opt = c.opt := by cases c; rfl
@[simp] theorem Common.bumpLo_stage (c : Common) (a : Nat) : (c.bumpLo a).stage = c.stage := by cases c; rfl
@[simp] theorem Common.bumpLo_mgmt (c : Common) (a : Nat) : (c.bumpLo a).mgmt = c.mgmt := by cases c; rfl
@[simp] theorem Common.bumpLo_ledger (c : Common) (a : Nat) : (c.bumpLo a).ledger = c.ledger := by cases c; rfl
@[simp] theorem Common.bumpLo_test (c : Common) (a : Nat) : (c.bumpLo a).test = c.test := by cases c; rfl
@[simp] theorem Common.bumpLo_fw (c : Common) (a : Nat) : (c.bumpLo a).fw = c.fw := by cases c; rfl
@[simp] theorem Common.bumpLo_pwr (c : Common) (a : Nat) : (c.bumpLo a).pwr = c.pwr := by cases c; rfl
@[simp] theorem Common.bumpLo_therm (c : Common) (a : Nat) : (c.bumpLo a).therm = c.therm := by cases c; rfl
@[simp] theorem Common.bumpLo_biv (c : Common) (a : Nat) : (c.bumpLo a).biv = c.biv := by cases c; rfl
@[simp] theorem Common.bumpLo_sec (c : Common) (a : Nat) : (c.bumpLo a).sec = c.sec := by cases c; rfl
@[simp] theorem Common.bumpLo_admitted (c : Common) (a : Nat) : (c.bumpLo a).admitted = c.admitted := by cases c; rfl
@[simp] theorem Common.bumpLo_free (c : Common) (a : Nat) : (c.bumpLo a).free = c.free := by cases c; rfl
@[simp] theorem Common.bumpHi_part (c : Common) (a : Nat) : (c.bumpHi a).part = c.part := by cases c; rfl
@[simp] theorem Common.bumpHi_id (c : Common) (a : Nat) : (c.bumpHi a).id = c.id := by cases c; rfl
@[simp] theorem Common.bumpHi_time (c : Common) (a : Nat) : (c.bumpHi a).time = c.time := by cases c; rfl
@[simp] theorem Common.bumpHi_ports (c : Common) (a : Nat) : (c.bumpHi a).ports = c.ports := by cases c; rfl
@[simp] theorem Common.bumpHi_opt (c : Common) (a : Nat) : (c.bumpHi a).opt = c.opt := by cases c; rfl
@[simp] theorem Common.bumpHi_stage (c : Common) (a : Nat) : (c.bumpHi a).stage = c.stage := by cases c; rfl
@[simp] theorem Common.bumpHi_mgmt (c : Common) (a : Nat) : (c.bumpHi a).mgmt = c.mgmt := by cases c; rfl
@[simp] theorem Common.bumpHi_ledger (c : Common) (a : Nat) : (c.bumpHi a).ledger = c.ledger := by cases c; rfl
@[simp] theorem Common.bumpHi_test (c : Common) (a : Nat) : (c.bumpHi a).test = c.test := by cases c; rfl
@[simp] theorem Common.bumpHi_fw (c : Common) (a : Nat) : (c.bumpHi a).fw = c.fw := by cases c; rfl
@[simp] theorem Common.bumpHi_pwr (c : Common) (a : Nat) : (c.bumpHi a).pwr = c.pwr := by cases c; rfl
@[simp] theorem Common.bumpHi_therm (c : Common) (a : Nat) : (c.bumpHi a).therm = c.therm := by cases c; rfl
@[simp] theorem Common.bumpHi_biv (c : Common) (a : Nat) : (c.bumpHi a).biv = c.biv := by cases c; rfl
@[simp] theorem Common.bumpHi_sec (c : Common) (a : Nat) : (c.bumpHi a).sec = c.sec := by cases c; rfl
@[simp] theorem Common.bumpHi_admitted (c : Common) (a : Nat) : (c.bumpHi a).admitted = c.admitted := by cases c; rfl
@[simp] theorem Common.bumpHi_free (c : Common) (a : Nat) : (c.bumpHi a).free = c.free := by cases c; rfl
@[simp] theorem Common.event_part (c : Common) (a low : Nat) : (c.event a low).part = c.part := by cases c; rfl
@[simp] theorem Common.event_id (c : Common) (a low : Nat) : (c.event a low).id = c.id := by cases c; rfl
@[simp] theorem Common.event_time (c : Common) (a low : Nat) : (c.event a low).time = c.time := by cases c; rfl
@[simp] theorem Common.event_ports (c : Common) (a low : Nat) : (c.event a low).ports = c.ports := by cases c; rfl
@[simp] theorem Common.event_opt (c : Common) (a low : Nat) : (c.event a low).opt = c.opt := by cases c; rfl
@[simp] theorem Common.event_stage (c : Common) (a low : Nat) : (c.event a low).stage = c.stage := by cases c; rfl
@[simp] theorem Common.event_mgmt (c : Common) (a low : Nat) : (c.event a low).mgmt = c.mgmt := by cases c; rfl
@[simp] theorem Common.event_ledger (c : Common) (a low : Nat) : (c.event a low).ledger = c.ledger := by cases c; rfl
@[simp] theorem Common.event_test (c : Common) (a low : Nat) : (c.event a low).test = c.test := by cases c; rfl
@[simp] theorem Common.event_fw (c : Common) (a low : Nat) : (c.event a low).fw = c.fw := by cases c; rfl
@[simp] theorem Common.event_pwr (c : Common) (a low : Nat) : (c.event a low).pwr = c.pwr := by cases c; rfl
@[simp] theorem Common.event_therm (c : Common) (a low : Nat) : (c.event a low).therm = c.therm := by cases c; rfl
@[simp] theorem Common.event_biv (c : Common) (a low : Nat) : (c.event a low).biv = c.biv := by cases c; rfl
@[simp] theorem Common.event_sec (c : Common) (a low : Nat) : (c.event a low).sec = c.sec := by cases c; rfl
@[simp] theorem Common.event_admitted (c : Common) (a low : Nat) : (c.event a low).admitted = c.admitted := by cases c; rfl
@[simp] theorem Common.event_free (c : Common) (a low : Nat) : (c.event a low).free = c.free := by cases c; rfl
@[simp] theorem Common.linkEvent_part (c : Common) (n cause stage : Nat) : (c.linkEvent n cause stage).part = c.part := by cases c; rfl
@[simp] theorem Common.linkEvent_id (c : Common) (n cause stage : Nat) : (c.linkEvent n cause stage).id = c.id := by cases c; rfl
@[simp] theorem Common.linkEvent_time (c : Common) (n cause stage : Nat) : (c.linkEvent n cause stage).time = c.time := by cases c; rfl
@[simp] theorem Common.linkEvent_ports (c : Common) (n cause stage : Nat) : (c.linkEvent n cause stage).ports = c.ports := by cases c; rfl
@[simp] theorem Common.linkEvent_opt (c : Common) (n cause stage : Nat) : (c.linkEvent n cause stage).opt = c.opt := by cases c; rfl
@[simp] theorem Common.linkEvent_stage (c : Common) (n cause stage : Nat) : (c.linkEvent n cause stage).stage = c.stage := by cases c; rfl
@[simp] theorem Common.linkEvent_mgmt (c : Common) (n cause stage : Nat) : (c.linkEvent n cause stage).mgmt = c.mgmt := by cases c; rfl
@[simp] theorem Common.linkEvent_ledger (c : Common) (n cause stage : Nat) : (c.linkEvent n cause stage).ledger = c.ledger := by cases c; rfl
@[simp] theorem Common.linkEvent_test (c : Common) (n cause stage : Nat) : (c.linkEvent n cause stage).test = c.test := by cases c; rfl
@[simp] theorem Common.linkEvent_fw (c : Common) (n cause stage : Nat) : (c.linkEvent n cause stage).fw = c.fw := by cases c; rfl
@[simp] theorem Common.linkEvent_pwr (c : Common) (n cause stage : Nat) : (c.linkEvent n cause stage).pwr = c.pwr := by cases c; rfl
@[simp] theorem Common.linkEvent_therm (c : Common) (n cause stage : Nat) : (c.linkEvent n cause stage).therm = c.therm := by cases c; rfl
@[simp] theorem Common.linkEvent_biv (c : Common) (n cause stage : Nat) : (c.linkEvent n cause stage).biv = c.biv := by cases c; rfl
@[simp] theorem Common.linkEvent_sec (c : Common) (n cause stage : Nat) : (c.linkEvent n cause stage).sec = c.sec := by cases c; rfl
@[simp] theorem Common.linkEvent_admitted (c : Common) (n cause stage : Nat) : (c.linkEvent n cause stage).admitted = c.admitted := by cases c; rfl
@[simp] theorem Common.linkEvent_free (c : Common) (n cause stage : Nat) : (c.linkEvent n cause stage).free = c.free := by cases c; rfl
@[simp] theorem Common.modTime_part (c : Common) (f : Timebase → Timebase) : (c.modTime f).part = c.part := rfl
@[simp] theorem Common.modTime_id (c : Common) (f : Timebase → Timebase) : (c.modTime f).id = c.id := rfl
@[simp] theorem Common.modTime_rf (c : Common) (f : Timebase → Timebase) : (c.modTime f).rf = c.rf := rfl
@[simp] theorem Common.modTime_time (c : Common) (f : Timebase → Timebase) : (c.modTime f).time = f c.time := rfl
@[simp] theorem Common.modTime_ports (c : Common) (f : Timebase → Timebase) : (c.modTime f).ports = c.ports := rfl
@[simp] theorem Common.modTime_opt (c : Common) (f : Timebase → Timebase) : (c.modTime f).opt = c.opt := rfl
@[simp] theorem Common.modTime_stage (c : Common) (f : Timebase → Timebase) : (c.modTime f).stage = c.stage := rfl
@[simp] theorem Common.modTime_mgmt (c : Common) (f : Timebase → Timebase) : (c.modTime f).mgmt = c.mgmt := rfl
@[simp] theorem Common.modTime_ledger (c : Common) (f : Timebase → Timebase) : (c.modTime f).ledger = c.ledger := rfl
@[simp] theorem Common.modTime_test (c : Common) (f : Timebase → Timebase) : (c.modTime f).test = c.test := rfl
@[simp] theorem Common.modTime_fw (c : Common) (f : Timebase → Timebase) : (c.modTime f).fw = c.fw := rfl
@[simp] theorem Common.modTime_pwr (c : Common) (f : Timebase → Timebase) : (c.modTime f).pwr = c.pwr := rfl
@[simp] theorem Common.modTime_therm (c : Common) (f : Timebase → Timebase) : (c.modTime f).therm = c.therm := rfl
@[simp] theorem Common.modTime_biv (c : Common) (f : Timebase → Timebase) : (c.modTime f).biv = c.biv := rfl
@[simp] theorem Common.modTime_sec (c : Common) (f : Timebase → Timebase) : (c.modTime f).sec = c.sec := rfl
@[simp] theorem Common.modTime_admitted (c : Common) (f : Timebase → Timebase) : (c.modTime f).admitted = c.admitted := rfl
@[simp] theorem Common.modTime_free (c : Common) (f : Timebase → Timebase) : (c.modTime f).free = c.free := rfl
@[simp] theorem Common.modPort_part (c : Common) (n : Nat) (f : Port → Port) : (c.modPort n f).part = c.part := rfl
@[simp] theorem Common.modPort_id (c : Common) (n : Nat) (f : Port → Port) : (c.modPort n f).id = c.id := rfl
@[simp] theorem Common.modPort_rf (c : Common) (n : Nat) (f : Port → Port) : (c.modPort n f).rf = c.rf := rfl
@[simp] theorem Common.modPort_time (c : Common) (n : Nat) (f : Port → Port) : (c.modPort n f).time = c.time := rfl
@[simp] theorem Common.modPort_opt (c : Common) (n : Nat) (f : Port → Port) : (c.modPort n f).opt = c.opt := rfl
@[simp] theorem Common.modPort_stage (c : Common) (n : Nat) (f : Port → Port) : (c.modPort n f).stage = c.stage := rfl
@[simp] theorem Common.modPort_mgmt (c : Common) (n : Nat) (f : Port → Port) : (c.modPort n f).mgmt = c.mgmt := rfl
@[simp] theorem Common.modPort_ledger (c : Common) (n : Nat) (f : Port → Port) : (c.modPort n f).ledger = c.ledger := rfl
@[simp] theorem Common.modPort_test (c : Common) (n : Nat) (f : Port → Port) : (c.modPort n f).test = c.test := rfl
@[simp] theorem Common.modPort_fw (c : Common) (n : Nat) (f : Port → Port) : (c.modPort n f).fw = c.fw := rfl
@[simp] theorem Common.modPort_pwr (c : Common) (n : Nat) (f : Port → Port) : (c.modPort n f).pwr = c.pwr := rfl
@[simp] theorem Common.modPort_therm (c : Common) (n : Nat) (f : Port → Port) : (c.modPort n f).therm = c.therm := rfl
@[simp] theorem Common.modPort_biv (c : Common) (n : Nat) (f : Port → Port) : (c.modPort n f).biv = c.biv := rfl
@[simp] theorem Common.modPort_sec (c : Common) (n : Nat) (f : Port → Port) : (c.modPort n f).sec = c.sec := rfl
@[simp] theorem Common.modPort_admitted (c : Common) (n : Nat) (f : Port → Port) : (c.modPort n f).admitted = c.admitted := rfl
@[simp] theorem Common.modPort_free (c : Common) (n : Nat) (f : Port → Port) : (c.modPort n f).free = c.free := rfl
@[simp] theorem Common.modTrain_part (c : Common) (n : Nat) (f : LinkTrain → LinkTrain) : (c.modTrain n f).part = c.part := rfl
@[simp] theorem Common.modTrain_id (c : Common) (n : Nat) (f : LinkTrain → LinkTrain) : (c.modTrain n f).id = c.id := rfl
@[simp] theorem Common.modTrain_rf (c : Common) (n : Nat) (f : LinkTrain → LinkTrain) : (c.modTrain n f).rf = c.rf := rfl
@[simp] theorem Common.modTrain_time (c : Common) (n : Nat) (f : LinkTrain → LinkTrain) : (c.modTrain n f).time = c.time := rfl
@[simp] theorem Common.modTrain_opt (c : Common) (n : Nat) (f : LinkTrain → LinkTrain) : (c.modTrain n f).opt = c.opt := rfl
@[simp] theorem Common.modTrain_stage (c : Common) (n : Nat) (f : LinkTrain → LinkTrain) : (c.modTrain n f).stage = c.stage := rfl
@[simp] theorem Common.modTrain_mgmt (c : Common) (n : Nat) (f : LinkTrain → LinkTrain) : (c.modTrain n f).mgmt = c.mgmt := rfl
@[simp] theorem Common.modTrain_ledger (c : Common) (n : Nat) (f : LinkTrain → LinkTrain) : (c.modTrain n f).ledger = c.ledger := rfl
@[simp] theorem Common.modTrain_test (c : Common) (n : Nat) (f : LinkTrain → LinkTrain) : (c.modTrain n f).test = c.test := rfl
@[simp] theorem Common.modTrain_fw (c : Common) (n : Nat) (f : LinkTrain → LinkTrain) : (c.modTrain n f).fw = c.fw := rfl
@[simp] theorem Common.modTrain_pwr (c : Common) (n : Nat) (f : LinkTrain → LinkTrain) : (c.modTrain n f).pwr = c.pwr := rfl
@[simp] theorem Common.modTrain_therm (c : Common) (n : Nat) (f : LinkTrain → LinkTrain) : (c.modTrain n f).therm = c.therm := rfl
@[simp] theorem Common.modTrain_biv (c : Common) (n : Nat) (f : LinkTrain → LinkTrain) : (c.modTrain n f).biv = c.biv := rfl
@[simp] theorem Common.modTrain_sec (c : Common) (n : Nat) (f : LinkTrain → LinkTrain) : (c.modTrain n f).sec = c.sec := rfl
@[simp] theorem Common.modTrain_admitted (c : Common) (n : Nat) (f : LinkTrain → LinkTrain) : (c.modTrain n f).admitted = c.admitted := rfl
@[simp] theorem Common.modTrain_free (c : Common) (n : Nat) (f : LinkTrain → LinkTrain) : (c.modTrain n f).free = c.free := rfl
@[simp] theorem Common.modFlit_part (c : Common) (n : Nat) (f : FlitLayer → FlitLayer) : (c.modFlit n f).part = c.part := rfl
@[simp] theorem Common.modFlit_id (c : Common) (n : Nat) (f : FlitLayer → FlitLayer) : (c.modFlit n f).id = c.id := rfl
@[simp] theorem Common.modFlit_rf (c : Common) (n : Nat) (f : FlitLayer → FlitLayer) : (c.modFlit n f).rf = c.rf := rfl
@[simp] theorem Common.modFlit_time (c : Common) (n : Nat) (f : FlitLayer → FlitLayer) : (c.modFlit n f).time = c.time := rfl
@[simp] theorem Common.modFlit_opt (c : Common) (n : Nat) (f : FlitLayer → FlitLayer) : (c.modFlit n f).opt = c.opt := rfl
@[simp] theorem Common.modFlit_stage (c : Common) (n : Nat) (f : FlitLayer → FlitLayer) : (c.modFlit n f).stage = c.stage := rfl
@[simp] theorem Common.modFlit_mgmt (c : Common) (n : Nat) (f : FlitLayer → FlitLayer) : (c.modFlit n f).mgmt = c.mgmt := rfl
@[simp] theorem Common.modFlit_ledger (c : Common) (n : Nat) (f : FlitLayer → FlitLayer) : (c.modFlit n f).ledger = c.ledger := rfl
@[simp] theorem Common.modFlit_test (c : Common) (n : Nat) (f : FlitLayer → FlitLayer) : (c.modFlit n f).test = c.test := rfl
@[simp] theorem Common.modFlit_fw (c : Common) (n : Nat) (f : FlitLayer → FlitLayer) : (c.modFlit n f).fw = c.fw := rfl
@[simp] theorem Common.modFlit_pwr (c : Common) (n : Nat) (f : FlitLayer → FlitLayer) : (c.modFlit n f).pwr = c.pwr := rfl
@[simp] theorem Common.modFlit_therm (c : Common) (n : Nat) (f : FlitLayer → FlitLayer) : (c.modFlit n f).therm = c.therm := rfl
@[simp] theorem Common.modFlit_biv (c : Common) (n : Nat) (f : FlitLayer → FlitLayer) : (c.modFlit n f).biv = c.biv := rfl
@[simp] theorem Common.modFlit_sec (c : Common) (n : Nat) (f : FlitLayer → FlitLayer) : (c.modFlit n f).sec = c.sec := rfl
@[simp] theorem Common.modFlit_admitted (c : Common) (n : Nat) (f : FlitLayer → FlitLayer) : (c.modFlit n f).admitted = c.admitted := rfl
@[simp] theorem Common.modFlit_free (c : Common) (n : Nat) (f : FlitLayer → FlitLayer) : (c.modFlit n f).free = c.free := rfl
@[simp] theorem Common.modEgress_part (c : Common) (n : Nat) (f : Egress → Egress) : (c.modEgress n f).part = c.part := rfl
@[simp] theorem Common.modEgress_id (c : Common) (n : Nat) (f : Egress → Egress) : (c.modEgress n f).id = c.id := rfl
@[simp] theorem Common.modEgress_rf (c : Common) (n : Nat) (f : Egress → Egress) : (c.modEgress n f).rf = c.rf := rfl
@[simp] theorem Common.modEgress_time (c : Common) (n : Nat) (f : Egress → Egress) : (c.modEgress n f).time = c.time := rfl
@[simp] theorem Common.modEgress_opt (c : Common) (n : Nat) (f : Egress → Egress) : (c.modEgress n f).opt = c.opt := rfl
@[simp] theorem Common.modEgress_stage (c : Common) (n : Nat) (f : Egress → Egress) : (c.modEgress n f).stage = c.stage := rfl
@[simp] theorem Common.modEgress_mgmt (c : Common) (n : Nat) (f : Egress → Egress) : (c.modEgress n f).mgmt = c.mgmt := rfl
@[simp] theorem Common.modEgress_ledger (c : Common) (n : Nat) (f : Egress → Egress) : (c.modEgress n f).ledger = c.ledger := rfl
@[simp] theorem Common.modEgress_test (c : Common) (n : Nat) (f : Egress → Egress) : (c.modEgress n f).test = c.test := rfl
@[simp] theorem Common.modEgress_fw (c : Common) (n : Nat) (f : Egress → Egress) : (c.modEgress n f).fw = c.fw := rfl
@[simp] theorem Common.modEgress_pwr (c : Common) (n : Nat) (f : Egress → Egress) : (c.modEgress n f).pwr = c.pwr := rfl
@[simp] theorem Common.modEgress_therm (c : Common) (n : Nat) (f : Egress → Egress) : (c.modEgress n f).therm = c.therm := rfl
@[simp] theorem Common.modEgress_biv (c : Common) (n : Nat) (f : Egress → Egress) : (c.modEgress n f).biv = c.biv := rfl
@[simp] theorem Common.modEgress_sec (c : Common) (n : Nat) (f : Egress → Egress) : (c.modEgress n f).sec = c.sec := rfl
@[simp] theorem Common.modEgress_admitted (c : Common) (n : Nat) (f : Egress → Egress) : (c.modEgress n f).admitted = c.admitted := rfl
@[simp] theorem Common.modEgress_free (c : Common) (n : Nat) (f : Egress → Egress) : (c.modEgress n f).free = c.free := rfl
@[simp] theorem Common.modOptics_part (c : Common) (n : Nat) (f : PortOptics → PortOptics) : (c.modOptics n f).part = c.part := rfl
@[simp] theorem Common.modOptics_id (c : Common) (n : Nat) (f : PortOptics → PortOptics) : (c.modOptics n f).id = c.id := rfl
@[simp] theorem Common.modOptics_rf (c : Common) (n : Nat) (f : PortOptics → PortOptics) : (c.modOptics n f).rf = c.rf := rfl
@[simp] theorem Common.modOptics_time (c : Common) (n : Nat) (f : PortOptics → PortOptics) : (c.modOptics n f).time = c.time := rfl
@[simp] theorem Common.modOptics_opt (c : Common) (n : Nat) (f : PortOptics → PortOptics) : (c.modOptics n f).opt = c.opt := rfl
@[simp] theorem Common.modOptics_stage (c : Common) (n : Nat) (f : PortOptics → PortOptics) : (c.modOptics n f).stage = c.stage := rfl
@[simp] theorem Common.modOptics_mgmt (c : Common) (n : Nat) (f : PortOptics → PortOptics) : (c.modOptics n f).mgmt = c.mgmt := rfl
@[simp] theorem Common.modOptics_ledger (c : Common) (n : Nat) (f : PortOptics → PortOptics) : (c.modOptics n f).ledger = c.ledger := rfl
@[simp] theorem Common.modOptics_test (c : Common) (n : Nat) (f : PortOptics → PortOptics) : (c.modOptics n f).test = c.test := rfl
@[simp] theorem Common.modOptics_fw (c : Common) (n : Nat) (f : PortOptics → PortOptics) : (c.modOptics n f).fw = c.fw := rfl
@[simp] theorem Common.modOptics_pwr (c : Common) (n : Nat) (f : PortOptics → PortOptics) : (c.modOptics n f).pwr = c.pwr := rfl
@[simp] theorem Common.modOptics_therm (c : Common) (n : Nat) (f : PortOptics → PortOptics) : (c.modOptics n f).therm = c.therm := rfl
@[simp] theorem Common.modOptics_biv (c : Common) (n : Nat) (f : PortOptics → PortOptics) : (c.modOptics n f).biv = c.biv := rfl
@[simp] theorem Common.modOptics_sec (c : Common) (n : Nat) (f : PortOptics → PortOptics) : (c.modOptics n f).sec = c.sec := rfl
@[simp] theorem Common.modOptics_admitted (c : Common) (n : Nat) (f : PortOptics → PortOptics) : (c.modOptics n f).admitted = c.admitted := rfl
@[simp] theorem Common.modOptics_free (c : Common) (n : Nat) (f : PortOptics → PortOptics) : (c.modOptics n f).free = c.free := rfl
@[simp] theorem Common.modComb_part (c : Common) (k : Nat) (f : Comb → Comb) : (c.modComb k f).part = c.part := rfl
@[simp] theorem Common.modComb_id (c : Common) (k : Nat) (f : Comb → Comb) : (c.modComb k f).id = c.id := rfl
@[simp] theorem Common.modComb_rf (c : Common) (k : Nat) (f : Comb → Comb) : (c.modComb k f).rf = c.rf := rfl
@[simp] theorem Common.modComb_time (c : Common) (k : Nat) (f : Comb → Comb) : (c.modComb k f).time = c.time := rfl
@[simp] theorem Common.modComb_ports (c : Common) (k : Nat) (f : Comb → Comb) : (c.modComb k f).ports = c.ports := rfl
@[simp] theorem Common.modComb_stage (c : Common) (k : Nat) (f : Comb → Comb) : (c.modComb k f).stage = c.stage := rfl
@[simp] theorem Common.modComb_mgmt (c : Common) (k : Nat) (f : Comb → Comb) : (c.modComb k f).mgmt = c.mgmt := rfl
@[simp] theorem Common.modComb_ledger (c : Common) (k : Nat) (f : Comb → Comb) : (c.modComb k f).ledger = c.ledger := rfl
@[simp] theorem Common.modComb_test (c : Common) (k : Nat) (f : Comb → Comb) : (c.modComb k f).test = c.test := rfl
@[simp] theorem Common.modComb_fw (c : Common) (k : Nat) (f : Comb → Comb) : (c.modComb k f).fw = c.fw := rfl
@[simp] theorem Common.modComb_pwr (c : Common) (k : Nat) (f : Comb → Comb) : (c.modComb k f).pwr = c.pwr := rfl
@[simp] theorem Common.modComb_therm (c : Common) (k : Nat) (f : Comb → Comb) : (c.modComb k f).therm = c.therm := rfl
@[simp] theorem Common.modComb_biv (c : Common) (k : Nat) (f : Comb → Comb) : (c.modComb k f).biv = c.biv := rfl
@[simp] theorem Common.modComb_sec (c : Common) (k : Nat) (f : Comb → Comb) : (c.modComb k f).sec = c.sec := rfl
@[simp] theorem Common.modComb_admitted (c : Common) (k : Nat) (f : Comb → Comb) : (c.modComb k f).admitted = c.admitted := rfl
@[simp] theorem Common.modComb_free (c : Common) (k : Nat) (f : Comb → Comb) : (c.modComb k f).free = c.free := rfl
@[simp] theorem Common.modEngine_part (c : Common) (k : Nat) (f : Engine → Engine) : (c.modEngine k f).part = c.part := rfl
@[simp] theorem Common.modEngine_id (c : Common) (k : Nat) (f : Engine → Engine) : (c.modEngine k f).id = c.id := rfl
@[simp] theorem Common.modEngine_rf (c : Common) (k : Nat) (f : Engine → Engine) : (c.modEngine k f).rf = c.rf := rfl
@[simp] theorem Common.modEngine_time (c : Common) (k : Nat) (f : Engine → Engine) : (c.modEngine k f).time = c.time := rfl
@[simp] theorem Common.modEngine_ports (c : Common) (k : Nat) (f : Engine → Engine) : (c.modEngine k f).ports = c.ports := rfl
@[simp] theorem Common.modEngine_stage (c : Common) (k : Nat) (f : Engine → Engine) : (c.modEngine k f).stage = c.stage := rfl
@[simp] theorem Common.modEngine_mgmt (c : Common) (k : Nat) (f : Engine → Engine) : (c.modEngine k f).mgmt = c.mgmt := rfl
@[simp] theorem Common.modEngine_ledger (c : Common) (k : Nat) (f : Engine → Engine) : (c.modEngine k f).ledger = c.ledger := rfl
@[simp] theorem Common.modEngine_test (c : Common) (k : Nat) (f : Engine → Engine) : (c.modEngine k f).test = c.test := rfl
@[simp] theorem Common.modEngine_fw (c : Common) (k : Nat) (f : Engine → Engine) : (c.modEngine k f).fw = c.fw := rfl
@[simp] theorem Common.modEngine_pwr (c : Common) (k : Nat) (f : Engine → Engine) : (c.modEngine k f).pwr = c.pwr := rfl
@[simp] theorem Common.modEngine_therm (c : Common) (k : Nat) (f : Engine → Engine) : (c.modEngine k f).therm = c.therm := rfl
@[simp] theorem Common.modEngine_biv (c : Common) (k : Nat) (f : Engine → Engine) : (c.modEngine k f).biv = c.biv := rfl
@[simp] theorem Common.modEngine_sec (c : Common) (k : Nat) (f : Engine → Engine) : (c.modEngine k f).sec = c.sec := rfl
@[simp] theorem Common.modEngine_admitted (c : Common) (k : Nat) (f : Engine → Engine) : (c.modEngine k f).admitted = c.admitted := rfl
@[simp] theorem Common.modEngine_free (c : Common) (k : Nat) (f : Engine → Engine) : (c.modEngine k f).free = c.free := rfl
@[simp] theorem Common.modMgmt_part (c : Common) (f : Mgmt → Mgmt) : (c.modMgmt f).part = c.part := rfl
@[simp] theorem Common.modMgmt_id (c : Common) (f : Mgmt → Mgmt) : (c.modMgmt f).id = c.id := rfl
@[simp] theorem Common.modMgmt_rf (c : Common) (f : Mgmt → Mgmt) : (c.modMgmt f).rf = c.rf := rfl
@[simp] theorem Common.modMgmt_time (c : Common) (f : Mgmt → Mgmt) : (c.modMgmt f).time = c.time := rfl
@[simp] theorem Common.modMgmt_ports (c : Common) (f : Mgmt → Mgmt) : (c.modMgmt f).ports = c.ports := rfl
@[simp] theorem Common.modMgmt_opt (c : Common) (f : Mgmt → Mgmt) : (c.modMgmt f).opt = c.opt := rfl
@[simp] theorem Common.modMgmt_stage (c : Common) (f : Mgmt → Mgmt) : (c.modMgmt f).stage = c.stage := rfl
@[simp] theorem Common.modMgmt_mgmt (c : Common) (f : Mgmt → Mgmt) : (c.modMgmt f).mgmt = f c.mgmt := rfl
@[simp] theorem Common.modMgmt_ledger (c : Common) (f : Mgmt → Mgmt) : (c.modMgmt f).ledger = c.ledger := rfl
@[simp] theorem Common.modMgmt_test (c : Common) (f : Mgmt → Mgmt) : (c.modMgmt f).test = c.test := rfl
@[simp] theorem Common.modMgmt_fw (c : Common) (f : Mgmt → Mgmt) : (c.modMgmt f).fw = c.fw := rfl
@[simp] theorem Common.modMgmt_pwr (c : Common) (f : Mgmt → Mgmt) : (c.modMgmt f).pwr = c.pwr := rfl
@[simp] theorem Common.modMgmt_therm (c : Common) (f : Mgmt → Mgmt) : (c.modMgmt f).therm = c.therm := rfl
@[simp] theorem Common.modMgmt_biv (c : Common) (f : Mgmt → Mgmt) : (c.modMgmt f).biv = c.biv := rfl
@[simp] theorem Common.modMgmt_sec (c : Common) (f : Mgmt → Mgmt) : (c.modMgmt f).sec = c.sec := rfl
@[simp] theorem Common.modMgmt_admitted (c : Common) (f : Mgmt → Mgmt) : (c.modMgmt f).admitted = c.admitted := rfl
@[simp] theorem Common.modMgmt_free (c : Common) (f : Mgmt → Mgmt) : (c.modMgmt f).free = c.free := rfl
@[simp] theorem Common.modLedger_part (c : Common) (f : Ledger → Ledger) : (c.modLedger f).part = c.part := rfl
@[simp] theorem Common.modLedger_id (c : Common) (f : Ledger → Ledger) : (c.modLedger f).id = c.id := rfl
@[simp] theorem Common.modLedger_rf (c : Common) (f : Ledger → Ledger) : (c.modLedger f).rf = c.rf := rfl
@[simp] theorem Common.modLedger_time (c : Common) (f : Ledger → Ledger) : (c.modLedger f).time = c.time := rfl
@[simp] theorem Common.modLedger_ports (c : Common) (f : Ledger → Ledger) : (c.modLedger f).ports = c.ports := rfl
@[simp] theorem Common.modLedger_opt (c : Common) (f : Ledger → Ledger) : (c.modLedger f).opt = c.opt := rfl
@[simp] theorem Common.modLedger_stage (c : Common) (f : Ledger → Ledger) : (c.modLedger f).stage = c.stage := rfl
@[simp] theorem Common.modLedger_mgmt (c : Common) (f : Ledger → Ledger) : (c.modLedger f).mgmt = c.mgmt := rfl
@[simp] theorem Common.modLedger_ledger (c : Common) (f : Ledger → Ledger) : (c.modLedger f).ledger = f c.ledger := rfl
@[simp] theorem Common.modLedger_test (c : Common) (f : Ledger → Ledger) : (c.modLedger f).test = c.test := rfl
@[simp] theorem Common.modLedger_fw (c : Common) (f : Ledger → Ledger) : (c.modLedger f).fw = c.fw := rfl
@[simp] theorem Common.modLedger_pwr (c : Common) (f : Ledger → Ledger) : (c.modLedger f).pwr = c.pwr := rfl
@[simp] theorem Common.modLedger_therm (c : Common) (f : Ledger → Ledger) : (c.modLedger f).therm = c.therm := rfl
@[simp] theorem Common.modLedger_biv (c : Common) (f : Ledger → Ledger) : (c.modLedger f).biv = c.biv := rfl
@[simp] theorem Common.modLedger_sec (c : Common) (f : Ledger → Ledger) : (c.modLedger f).sec = c.sec := rfl
@[simp] theorem Common.modLedger_admitted (c : Common) (f : Ledger → Ledger) : (c.modLedger f).admitted = c.admitted := rfl
@[simp] theorem Common.modLedger_free (c : Common) (f : Ledger → Ledger) : (c.modLedger f).free = c.free := rfl
@[simp] theorem Common.modFw_part (c : Common) (f : Firmware → Firmware) : (c.modFw f).part = c.part := rfl
@[simp] theorem Common.modFw_id (c : Common) (f : Firmware → Firmware) : (c.modFw f).id = c.id := rfl
@[simp] theorem Common.modFw_rf (c : Common) (f : Firmware → Firmware) : (c.modFw f).rf = c.rf := rfl
@[simp] theorem Common.modFw_time (c : Common) (f : Firmware → Firmware) : (c.modFw f).time = c.time := rfl
@[simp] theorem Common.modFw_ports (c : Common) (f : Firmware → Firmware) : (c.modFw f).ports = c.ports := rfl
@[simp] theorem Common.modFw_opt (c : Common) (f : Firmware → Firmware) : (c.modFw f).opt = c.opt := rfl
@[simp] theorem Common.modFw_stage (c : Common) (f : Firmware → Firmware) : (c.modFw f).stage = c.stage := rfl
@[simp] theorem Common.modFw_mgmt (c : Common) (f : Firmware → Firmware) : (c.modFw f).mgmt = c.mgmt := rfl
@[simp] theorem Common.modFw_ledger (c : Common) (f : Firmware → Firmware) : (c.modFw f).ledger = c.ledger := rfl
@[simp] theorem Common.modFw_test (c : Common) (f : Firmware → Firmware) : (c.modFw f).test = c.test := rfl
@[simp] theorem Common.modFw_fw (c : Common) (f : Firmware → Firmware) : (c.modFw f).fw = f c.fw := rfl
@[simp] theorem Common.modFw_pwr (c : Common) (f : Firmware → Firmware) : (c.modFw f).pwr = c.pwr := rfl
@[simp] theorem Common.modFw_therm (c : Common) (f : Firmware → Firmware) : (c.modFw f).therm = c.therm := rfl
@[simp] theorem Common.modFw_biv (c : Common) (f : Firmware → Firmware) : (c.modFw f).biv = c.biv := rfl
@[simp] theorem Common.modFw_sec (c : Common) (f : Firmware → Firmware) : (c.modFw f).sec = c.sec := rfl
@[simp] theorem Common.modFw_admitted (c : Common) (f : Firmware → Firmware) : (c.modFw f).admitted = c.admitted := rfl
@[simp] theorem Common.modFw_free (c : Common) (f : Firmware → Firmware) : (c.modFw f).free = c.free := rfl
@[simp] theorem Common.modPwr_part (c : Common) (f : Power → Power) : (c.modPwr f).part = c.part := rfl
@[simp] theorem Common.modPwr_id (c : Common) (f : Power → Power) : (c.modPwr f).id = c.id := rfl
@[simp] theorem Common.modPwr_rf (c : Common) (f : Power → Power) : (c.modPwr f).rf = c.rf := rfl
@[simp] theorem Common.modPwr_time (c : Common) (f : Power → Power) : (c.modPwr f).time = c.time := rfl
@[simp] theorem Common.modPwr_ports (c : Common) (f : Power → Power) : (c.modPwr f).ports = c.ports := rfl
@[simp] theorem Common.modPwr_opt (c : Common) (f : Power → Power) : (c.modPwr f).opt = c.opt := rfl
@[simp] theorem Common.modPwr_stage (c : Common) (f : Power → Power) : (c.modPwr f).stage = c.stage := rfl
@[simp] theorem Common.modPwr_mgmt (c : Common) (f : Power → Power) : (c.modPwr f).mgmt = c.mgmt := rfl
@[simp] theorem Common.modPwr_ledger (c : Common) (f : Power → Power) : (c.modPwr f).ledger = c.ledger := rfl
@[simp] theorem Common.modPwr_test (c : Common) (f : Power → Power) : (c.modPwr f).test = c.test := rfl
@[simp] theorem Common.modPwr_fw (c : Common) (f : Power → Power) : (c.modPwr f).fw = c.fw := rfl
@[simp] theorem Common.modPwr_pwr (c : Common) (f : Power → Power) : (c.modPwr f).pwr = f c.pwr := rfl
@[simp] theorem Common.modPwr_therm (c : Common) (f : Power → Power) : (c.modPwr f).therm = c.therm := rfl
@[simp] theorem Common.modPwr_biv (c : Common) (f : Power → Power) : (c.modPwr f).biv = c.biv := rfl
@[simp] theorem Common.modPwr_sec (c : Common) (f : Power → Power) : (c.modPwr f).sec = c.sec := rfl
@[simp] theorem Common.modPwr_admitted (c : Common) (f : Power → Power) : (c.modPwr f).admitted = c.admitted := rfl
@[simp] theorem Common.modPwr_free (c : Common) (f : Power → Power) : (c.modPwr f).free = c.free := rfl
@[simp] theorem Common.modTherm_part (c : Common) (f : Thermal → Thermal) : (c.modTherm f).part = c.part := rfl
@[simp] theorem Common.modTherm_id (c : Common) (f : Thermal → Thermal) : (c.modTherm f).id = c.id := rfl
@[simp] theorem Common.modTherm_rf (c : Common) (f : Thermal → Thermal) : (c.modTherm f).rf = c.rf := rfl
@[simp] theorem Common.modTherm_time (c : Common) (f : Thermal → Thermal) : (c.modTherm f).time = c.time := rfl
@[simp] theorem Common.modTherm_ports (c : Common) (f : Thermal → Thermal) : (c.modTherm f).ports = c.ports := rfl
@[simp] theorem Common.modTherm_opt (c : Common) (f : Thermal → Thermal) : (c.modTherm f).opt = c.opt := rfl
@[simp] theorem Common.modTherm_stage (c : Common) (f : Thermal → Thermal) : (c.modTherm f).stage = c.stage := rfl
@[simp] theorem Common.modTherm_mgmt (c : Common) (f : Thermal → Thermal) : (c.modTherm f).mgmt = c.mgmt := rfl
@[simp] theorem Common.modTherm_ledger (c : Common) (f : Thermal → Thermal) : (c.modTherm f).ledger = c.ledger := rfl
@[simp] theorem Common.modTherm_test (c : Common) (f : Thermal → Thermal) : (c.modTherm f).test = c.test := rfl
@[simp] theorem Common.modTherm_fw (c : Common) (f : Thermal → Thermal) : (c.modTherm f).fw = c.fw := rfl
@[simp] theorem Common.modTherm_pwr (c : Common) (f : Thermal → Thermal) : (c.modTherm f).pwr = c.pwr := rfl
@[simp] theorem Common.modTherm_therm (c : Common) (f : Thermal → Thermal) : (c.modTherm f).therm = f c.therm := rfl
@[simp] theorem Common.modTherm_biv (c : Common) (f : Thermal → Thermal) : (c.modTherm f).biv = c.biv := rfl
@[simp] theorem Common.modTherm_sec (c : Common) (f : Thermal → Thermal) : (c.modTherm f).sec = c.sec := rfl
@[simp] theorem Common.modTherm_admitted (c : Common) (f : Thermal → Thermal) : (c.modTherm f).admitted = c.admitted := rfl
@[simp] theorem Common.modTherm_free (c : Common) (f : Thermal → Thermal) : (c.modTherm f).free = c.free := rfl
@[simp] theorem Common.modSec_part (c : Common) (f : Security → Security) : (c.modSec f).part = c.part := rfl
@[simp] theorem Common.modSec_id (c : Common) (f : Security → Security) : (c.modSec f).id = c.id := rfl
@[simp] theorem Common.modSec_rf (c : Common) (f : Security → Security) : (c.modSec f).rf = c.rf := rfl
@[simp] theorem Common.modSec_time (c : Common) (f : Security → Security) : (c.modSec f).time = c.time := rfl
@[simp] theorem Common.modSec_ports (c : Common) (f : Security → Security) : (c.modSec f).ports = c.ports := rfl
@[simp] theorem Common.modSec_opt (c : Common) (f : Security → Security) : (c.modSec f).opt = c.opt := rfl
@[simp] theorem Common.modSec_stage (c : Common) (f : Security → Security) : (c.modSec f).stage = c.stage := rfl
@[simp] theorem Common.modSec_mgmt (c : Common) (f : Security → Security) : (c.modSec f).mgmt = c.mgmt := rfl
@[simp] theorem Common.modSec_ledger (c : Common) (f : Security → Security) : (c.modSec f).ledger = c.ledger := rfl
@[simp] theorem Common.modSec_test (c : Common) (f : Security → Security) : (c.modSec f).test = c.test := rfl
@[simp] theorem Common.modSec_fw (c : Common) (f : Security → Security) : (c.modSec f).fw = c.fw := rfl
@[simp] theorem Common.modSec_pwr (c : Common) (f : Security → Security) : (c.modSec f).pwr = c.pwr := rfl
@[simp] theorem Common.modSec_therm (c : Common) (f : Security → Security) : (c.modSec f).therm = c.therm := rfl
@[simp] theorem Common.modSec_biv (c : Common) (f : Security → Security) : (c.modSec f).biv = c.biv := rfl
@[simp] theorem Common.modSec_sec (c : Common) (f : Security → Security) : (c.modSec f).sec = f c.sec := rfl
@[simp] theorem Common.modSec_admitted (c : Common) (f : Security → Security) : (c.modSec f).admitted = c.admitted := rfl
@[simp] theorem Common.modSec_free (c : Common) (f : Security → Security) : (c.modSec f).free = c.free := rfl
@[simp] theorem Common.modTest_part (c : Common) (f : TestRun → TestRun) : (c.modTest f).part = c.part := rfl
@[simp] theorem Common.modTest_id (c : Common) (f : TestRun → TestRun) : (c.modTest f).id = c.id := rfl
@[simp] theorem Common.modTest_rf (c : Common) (f : TestRun → TestRun) : (c.modTest f).rf = c.rf := rfl
@[simp] theorem Common.modTest_time (c : Common) (f : TestRun → TestRun) : (c.modTest f).time = c.time := rfl
@[simp] theorem Common.modTest_ports (c : Common) (f : TestRun → TestRun) : (c.modTest f).ports = c.ports := rfl
@[simp] theorem Common.modTest_opt (c : Common) (f : TestRun → TestRun) : (c.modTest f).opt = c.opt := rfl
@[simp] theorem Common.modTest_stage (c : Common) (f : TestRun → TestRun) : (c.modTest f).stage = c.stage := rfl
@[simp] theorem Common.modTest_mgmt (c : Common) (f : TestRun → TestRun) : (c.modTest f).mgmt = c.mgmt := rfl
@[simp] theorem Common.modTest_ledger (c : Common) (f : TestRun → TestRun) : (c.modTest f).ledger = c.ledger := rfl
@[simp] theorem Common.modTest_test (c : Common) (f : TestRun → TestRun) : (c.modTest f).test = c.test.map f := rfl
@[simp] theorem Common.modTest_fw (c : Common) (f : TestRun → TestRun) : (c.modTest f).fw = c.fw := rfl
@[simp] theorem Common.modTest_pwr (c : Common) (f : TestRun → TestRun) : (c.modTest f).pwr = c.pwr := rfl
@[simp] theorem Common.modTest_therm (c : Common) (f : TestRun → TestRun) : (c.modTest f).therm = c.therm := rfl
@[simp] theorem Common.modTest_biv (c : Common) (f : TestRun → TestRun) : (c.modTest f).biv = c.biv := rfl
@[simp] theorem Common.modTest_sec (c : Common) (f : TestRun → TestRun) : (c.modTest f).sec = c.sec := rfl
@[simp] theorem Common.modTest_admitted (c : Common) (f : TestRun → TestRun) : (c.modTest f).admitted = c.admitted := rfl
@[simp] theorem Common.modTest_free (c : Common) (f : TestRun → TestRun) : (c.modTest f).free = c.free := rfl
@[simp] theorem Common.modSet_part (c : Common) (k : Nat) (f : StagedSet → StagedSet) : (c.modSet k f).part = c.part := rfl
@[simp] theorem Common.modSet_id (c : Common) (k : Nat) (f : StagedSet → StagedSet) : (c.modSet k f).id = c.id := rfl
@[simp] theorem Common.modSet_rf (c : Common) (k : Nat) (f : StagedSet → StagedSet) : (c.modSet k f).rf = c.rf := rfl
@[simp] theorem Common.modSet_time (c : Common) (k : Nat) (f : StagedSet → StagedSet) : (c.modSet k f).time = c.time := rfl
@[simp] theorem Common.modSet_ports (c : Common) (k : Nat) (f : StagedSet → StagedSet) : (c.modSet k f).ports = c.ports := rfl
@[simp] theorem Common.modSet_opt (c : Common) (k : Nat) (f : StagedSet → StagedSet) : (c.modSet k f).opt = c.opt := rfl
@[simp] theorem Common.modSet_mgmt (c : Common) (k : Nat) (f : StagedSet → StagedSet) : (c.modSet k f).mgmt = c.mgmt := rfl
@[simp] theorem Common.modSet_ledger (c : Common) (k : Nat) (f : StagedSet → StagedSet) : (c.modSet k f).ledger = c.ledger := rfl
@[simp] theorem Common.modSet_test (c : Common) (k : Nat) (f : StagedSet → StagedSet) : (c.modSet k f).test = c.test := rfl
@[simp] theorem Common.modSet_fw (c : Common) (k : Nat) (f : StagedSet → StagedSet) : (c.modSet k f).fw = c.fw := rfl
@[simp] theorem Common.modSet_pwr (c : Common) (k : Nat) (f : StagedSet → StagedSet) : (c.modSet k f).pwr = c.pwr := rfl
@[simp] theorem Common.modSet_therm (c : Common) (k : Nat) (f : StagedSet → StagedSet) : (c.modSet k f).therm = c.therm := rfl
@[simp] theorem Common.modSet_biv (c : Common) (k : Nat) (f : StagedSet → StagedSet) : (c.modSet k f).biv = c.biv := rfl
@[simp] theorem Common.modSet_sec (c : Common) (k : Nat) (f : StagedSet → StagedSet) : (c.modSet k f).sec = c.sec := rfl
@[simp] theorem Common.modSet_admitted (c : Common) (k : Nat) (f : StagedSet → StagedSet) : (c.modSet k f).admitted = c.admitted := rfl
@[simp] theorem Common.modSet_free (c : Common) (k : Nat) (f : StagedSet → StagedSet) : (c.modSet k f).free = c.free := rfl

/-! ### The switch -/

@[simp] theorem SwState.mod_c (s : SwState) (f : Common → Common) : (s.mod f).c = f s.c := rfl
@[simp] theorem SwState.mod_core (s : SwState) (f : Common → Common) : (s.mod f).core = s.core := rfl
@[simp] theorem SwState.mod_groups (s : SwState) (f : Common → Common) : (s.mod f).groups = s.groups := rfl
@[simp] theorem SwState.mod_colls (s : SwState) (f : Common → Common) : (s.mod f).colls = s.colls := rfl
@[simp] theorem SwState.mod_slotLag (s : SwState) (f : Common → Common) : (s.mod f).slotLag = s.slotLag := rfl
@[simp] theorem SwState.mod_cores (s : SwState) (f : Common → Common) : (s.mod f).cores = s.cores := rfl
@[simp] theorem SwState.mod_dram (s : SwState) (f : Common → Common) : (s.mod f).dram = s.dram := rfl
@[simp] theorem SwState.mod_stacksLost (s : SwState) (f : Common → Common) : (s.mod f).stacksLost = s.stacksLost := rfl
@[simp] theorem SwState.mod_stacksDue (s : SwState) (f : Common → Common) : (s.mod f).stacksDue = s.stacksDue := rfl
@[simp] theorem SwState.mod_progs (s : SwState) (f : Common → Common) : (s.mod f).progs = s.progs := rfl
@[simp] theorem SwState.mod_loads (s : SwState) (f : Common → Common) : (s.mod f).loads = s.loads := rfl
@[simp] theorem SwState.mod_pitches (s : SwState) (f : Common → Common) : (s.mod f).pitches = s.pitches := rfl
@[simp] theorem SwState.mod_scrubs (s : SwState) (f : Common → Common) : (s.mod f).scrubs = s.scrubs := rfl
@[simp] theorem SwState.modCore_c (s : SwState) (f : Core → Core) : (s.modCore f).c = s.c := rfl
@[simp] theorem SwState.modCore_core (s : SwState) (f : Core → Core) : (s.modCore f).core = f s.core := rfl
@[simp] theorem SwState.modCore_groups (s : SwState) (f : Core → Core) : (s.modCore f).groups = s.groups := rfl
@[simp] theorem SwState.modCore_colls (s : SwState) (f : Core → Core) : (s.modCore f).colls = s.colls := rfl
@[simp] theorem SwState.modCore_slotLag (s : SwState) (f : Core → Core) : (s.modCore f).slotLag = s.slotLag := rfl
@[simp] theorem SwState.modCore_cores (s : SwState) (f : Core → Core) : (s.modCore f).cores = s.cores := rfl
@[simp] theorem SwState.modCore_dram (s : SwState) (f : Core → Core) : (s.modCore f).dram = s.dram := rfl
@[simp] theorem SwState.modCore_stacksLost (s : SwState) (f : Core → Core) : (s.modCore f).stacksLost = s.stacksLost := rfl
@[simp] theorem SwState.modCore_stacksDue (s : SwState) (f : Core → Core) : (s.modCore f).stacksDue = s.stacksDue := rfl
@[simp] theorem SwState.modCore_progs (s : SwState) (f : Core → Core) : (s.modCore f).progs = s.progs := rfl
@[simp] theorem SwState.modCore_loads (s : SwState) (f : Core → Core) : (s.modCore f).loads = s.loads := rfl
@[simp] theorem SwState.modCore_pitches (s : SwState) (f : Core → Core) : (s.modCore f).pitches = s.pitches := rfl
@[simp] theorem SwState.modCore_scrubs (s : SwState) (f : Core → Core) : (s.modCore f).scrubs = s.scrubs := rfl
@[simp] theorem SwState.modBar_c (s : SwState) (k : Nat) (f : BarCore → BarCore) : (s.modBar k f).c = s.c := rfl
@[simp] theorem SwState.modBar_core (s : SwState) (k : Nat) (f : BarCore → BarCore) : (s.modBar k f).core = s.core := rfl
@[simp] theorem SwState.modBar_groups (s : SwState) (k : Nat) (f : BarCore → BarCore) : (s.modBar k f).groups = s.groups := rfl
@[simp] theorem SwState.modBar_colls (s : SwState) (k : Nat) (f : BarCore → BarCore) : (s.modBar k f).colls = s.colls := rfl
@[simp] theorem SwState.modBar_slotLag (s : SwState) (k : Nat) (f : BarCore → BarCore) : (s.modBar k f).slotLag = s.slotLag := rfl
@[simp] theorem SwState.modBar_dram (s : SwState) (k : Nat) (f : BarCore → BarCore) : (s.modBar k f).dram = s.dram := rfl
@[simp] theorem SwState.modBar_stacksLost (s : SwState) (k : Nat) (f : BarCore → BarCore) : (s.modBar k f).stacksLost = s.stacksLost := rfl
@[simp] theorem SwState.modBar_stacksDue (s : SwState) (k : Nat) (f : BarCore → BarCore) : (s.modBar k f).stacksDue = s.stacksDue := rfl
@[simp] theorem SwState.modBar_progs (s : SwState) (k : Nat) (f : BarCore → BarCore) : (s.modBar k f).progs = s.progs := rfl
@[simp] theorem SwState.modBar_loads (s : SwState) (k : Nat) (f : BarCore → BarCore) : (s.modBar k f).loads = s.loads := rfl
@[simp] theorem SwState.modBar_pitches (s : SwState) (k : Nat) (f : BarCore → BarCore) : (s.modBar k f).pitches = s.pitches := rfl
@[simp] theorem SwState.modBar_scrubs (s : SwState) (k : Nat) (f : BarCore → BarCore) : (s.modBar k f).scrubs = s.scrubs := rfl
@[simp] theorem SwState.modColl_c (s : SwState) (g q : Nat) (f : CollRec → CollRec) : (s.modColl g q f).c = s.c := rfl
@[simp] theorem SwState.modColl_core (s : SwState) (g q : Nat) (f : CollRec → CollRec) : (s.modColl g q f).core = s.core := rfl
@[simp] theorem SwState.modColl_groups (s : SwState) (g q : Nat) (f : CollRec → CollRec) : (s.modColl g q f).groups = s.groups := rfl
@[simp] theorem SwState.modColl_slotLag (s : SwState) (g q : Nat) (f : CollRec → CollRec) : (s.modColl g q f).slotLag = s.slotLag := rfl
@[simp] theorem SwState.modColl_cores (s : SwState) (g q : Nat) (f : CollRec → CollRec) : (s.modColl g q f).cores = s.cores := rfl
@[simp] theorem SwState.modColl_dram (s : SwState) (g q : Nat) (f : CollRec → CollRec) : (s.modColl g q f).dram = s.dram := rfl
@[simp] theorem SwState.modColl_stacksLost (s : SwState) (g q : Nat) (f : CollRec → CollRec) : (s.modColl g q f).stacksLost = s.stacksLost := rfl
@[simp] theorem SwState.modColl_stacksDue (s : SwState) (g q : Nat) (f : CollRec → CollRec) : (s.modColl g q f).stacksDue = s.stacksDue := rfl
@[simp] theorem SwState.modColl_progs (s : SwState) (g q : Nat) (f : CollRec → CollRec) : (s.modColl g q f).progs = s.progs := rfl
@[simp] theorem SwState.modColl_loads (s : SwState) (g q : Nat) (f : CollRec → CollRec) : (s.modColl g q f).loads = s.loads := rfl
@[simp] theorem SwState.modColl_pitches (s : SwState) (g q : Nat) (f : CollRec → CollRec) : (s.modColl g q f).pitches = s.pitches := rfl
@[simp] theorem SwState.modColl_scrubs (s : SwState) (g q : Nat) (f : CollRec → CollRec) : (s.modColl g q f).scrubs = s.scrubs := rfl

/-! ### The end-point -/

@[simp] theorem EpState.mod_c (s : EpState) (f : Common → Common) : (s.mod f).c = f s.c := rfl
@[simp] theorem EpState.mod_lha (s : EpState) (f : Common → Common) : (s.mod f).lha = s.lha := rfl
@[simp] theorem EpState.mod_home (s : EpState) (f : Common → Common) : (s.mod f).home = s.home := rfl
@[simp] theorem EpState.mod_src (s : EpState) (f : Common → Common) : (s.mod f).src = s.src := rfl
@[simp] theorem EpState.mod_rlc (s : EpState) (f : Common → Common) : (s.mod f).rlc = s.rlc := rfl
@[simp] theorem EpState.mod_xlt (s : EpState) (f : Common → Common) : (s.mod f).xlt = s.xlt := rfl
@[simp] theorem EpState.mod_ces (s : EpState) (f : Common → Common) : (s.mod f).ces = s.ces := rfl
@[simp] theorem EpState.mod_loop (s : EpState) (f : Common → Common) : (s.mod f).loop = s.loop := rfl
@[simp] theorem EpState.mod_clear (s : EpState) (f : Common → Common) : (s.mod f).clear = s.clear := rfl
@[simp] theorem EpState.mod_pieces (s : EpState) (f : Common → Common) : (s.mod f).pieces = s.pieces := rfl
@[simp] theorem EpState.mod_nextPiece (s : EpState) (f : Common → Common) : (s.mod f).nextPiece = s.nextPiece := rfl
@[simp] theorem EpState.mod_meas (s : EpState) (f : Common → Common) : (s.mod f).meas = s.meas := rfl
@[simp] theorem EpState.mod_coll (s : EpState) (f : Common → Common) : (s.mod f).coll = s.coll := rfl
@[simp] theorem EpState.modLha_c (s : EpState) (f : Lha → Lha) : (s.modLha f).c = s.c := rfl
@[simp] theorem EpState.modLha_lha (s : EpState) (f : Lha → Lha) : (s.modLha f).lha = f s.lha := rfl
@[simp] theorem EpState.modLha_home (s : EpState) (f : Lha → Lha) : (s.modLha f).home = s.home := rfl
@[simp] theorem EpState.modLha_src (s : EpState) (f : Lha → Lha) : (s.modLha f).src = s.src := rfl
@[simp] theorem EpState.modLha_rlc (s : EpState) (f : Lha → Lha) : (s.modLha f).rlc = s.rlc := rfl
@[simp] theorem EpState.modLha_xlt (s : EpState) (f : Lha → Lha) : (s.modLha f).xlt = s.xlt := rfl
@[simp] theorem EpState.modLha_ces (s : EpState) (f : Lha → Lha) : (s.modLha f).ces = s.ces := rfl
@[simp] theorem EpState.modLha_loop (s : EpState) (f : Lha → Lha) : (s.modLha f).loop = s.loop := rfl
@[simp] theorem EpState.modLha_clear (s : EpState) (f : Lha → Lha) : (s.modLha f).clear = s.clear := rfl
@[simp] theorem EpState.modLha_pieces (s : EpState) (f : Lha → Lha) : (s.modLha f).pieces = s.pieces := rfl
@[simp] theorem EpState.modLha_nextPiece (s : EpState) (f : Lha → Lha) : (s.modLha f).nextPiece = s.nextPiece := rfl
@[simp] theorem EpState.modLha_meas (s : EpState) (f : Lha → Lha) : (s.modLha f).meas = s.meas := rfl
@[simp] theorem EpState.modLha_coll (s : EpState) (f : Lha → Lha) : (s.modLha f).coll = s.coll := rfl
@[simp] theorem EpState.modHome_c (s : EpState) (f : Home → Home) : (s.modHome f).c = s.c := rfl
@[simp] theorem EpState.modHome_lha (s : EpState) (f : Home → Home) : (s.modHome f).lha = s.lha := rfl
@[simp] theorem EpState.modHome_home (s : EpState) (f : Home → Home) : (s.modHome f).home = f s.home := rfl
@[simp] theorem EpState.modHome_src (s : EpState) (f : Home → Home) : (s.modHome f).src = s.src := rfl
@[simp] theorem EpState.modHome_rlc (s : EpState) (f : Home → Home) : (s.modHome f).rlc = s.rlc := rfl
@[simp] theorem EpState.modHome_xlt (s : EpState) (f : Home → Home) : (s.modHome f).xlt = s.xlt := rfl
@[simp] theorem EpState.modHome_ces (s : EpState) (f : Home → Home) : (s.modHome f).ces = s.ces := rfl
@[simp] theorem EpState.modHome_loop (s : EpState) (f : Home → Home) : (s.modHome f).loop = s.loop := rfl
@[simp] theorem EpState.modHome_clear (s : EpState) (f : Home → Home) : (s.modHome f).clear = s.clear := rfl
@[simp] theorem EpState.modHome_pieces (s : EpState) (f : Home → Home) : (s.modHome f).pieces = s.pieces := rfl
@[simp] theorem EpState.modHome_nextPiece (s : EpState) (f : Home → Home) : (s.modHome f).nextPiece = s.nextPiece := rfl
@[simp] theorem EpState.modHome_meas (s : EpState) (f : Home → Home) : (s.modHome f).meas = s.meas := rfl
@[simp] theorem EpState.modHome_coll (s : EpState) (f : Home → Home) : (s.modHome f).coll = s.coll := rfl
@[simp] theorem EpState.modSrc_c (s : EpState) (f : Source → Source) : (s.modSrc f).c = s.c := rfl
@[simp] theorem EpState.modSrc_lha (s : EpState) (f : Source → Source) : (s.modSrc f).lha = s.lha := rfl
@[simp] theorem EpState.modSrc_home (s : EpState) (f : Source → Source) : (s.modSrc f).home = s.home := rfl
@[simp] theorem EpState.modSrc_src (s : EpState) (f : Source → Source) : (s.modSrc f).src = f s.src := rfl
@[simp] theorem EpState.modSrc_rlc (s : EpState) (f : Source → Source) : (s.modSrc f).rlc = s.rlc := rfl
@[simp] theorem EpState.modSrc_xlt (s : EpState) (f : Source → Source) : (s.modSrc f).xlt = s.xlt := rfl
@[simp] theorem EpState.modSrc_ces (s : EpState) (f : Source → Source) : (s.modSrc f).ces = s.ces := rfl
@[simp] theorem EpState.modSrc_loop (s : EpState) (f : Source → Source) : (s.modSrc f).loop = s.loop := rfl
@[simp] theorem EpState.modSrc_clear (s : EpState) (f : Source → Source) : (s.modSrc f).clear = s.clear := rfl
@[simp] theorem EpState.modSrc_pieces (s : EpState) (f : Source → Source) : (s.modSrc f).pieces = s.pieces := rfl
@[simp] theorem EpState.modSrc_nextPiece (s : EpState) (f : Source → Source) : (s.modSrc f).nextPiece = s.nextPiece := rfl
@[simp] theorem EpState.modSrc_meas (s : EpState) (f : Source → Source) : (s.modSrc f).meas = s.meas := rfl
@[simp] theorem EpState.modSrc_coll (s : EpState) (f : Source → Source) : (s.modSrc f).coll = s.coll := rfl
@[simp] theorem EpState.modXlt_c (s : EpState) (f : Xlt → Xlt) : (s.modXlt f).c = s.c := rfl
@[simp] theorem EpState.modXlt_lha (s : EpState) (f : Xlt → Xlt) : (s.modXlt f).lha = s.lha := rfl
@[simp] theorem EpState.modXlt_home (s : EpState) (f : Xlt → Xlt) : (s.modXlt f).home = s.home := rfl
@[simp] theorem EpState.modXlt_src (s : EpState) (f : Xlt → Xlt) : (s.modXlt f).src = s.src := rfl
@[simp] theorem EpState.modXlt_rlc (s : EpState) (f : Xlt → Xlt) : (s.modXlt f).rlc = s.rlc := rfl
@[simp] theorem EpState.modXlt_xlt (s : EpState) (f : Xlt → Xlt) : (s.modXlt f).xlt = f s.xlt := rfl
@[simp] theorem EpState.modXlt_ces (s : EpState) (f : Xlt → Xlt) : (s.modXlt f).ces = s.ces := rfl
@[simp] theorem EpState.modXlt_loop (s : EpState) (f : Xlt → Xlt) : (s.modXlt f).loop = s.loop := rfl
@[simp] theorem EpState.modXlt_clear (s : EpState) (f : Xlt → Xlt) : (s.modXlt f).clear = s.clear := rfl
@[simp] theorem EpState.modXlt_pieces (s : EpState) (f : Xlt → Xlt) : (s.modXlt f).pieces = s.pieces := rfl
@[simp] theorem EpState.modXlt_nextPiece (s : EpState) (f : Xlt → Xlt) : (s.modXlt f).nextPiece = s.nextPiece := rfl
@[simp] theorem EpState.modXlt_meas (s : EpState) (f : Xlt → Xlt) : (s.modXlt f).meas = s.meas := rfl
@[simp] theorem EpState.modXlt_coll (s : EpState) (f : Xlt → Xlt) : (s.modXlt f).coll = s.coll := rfl
@[simp] theorem EpState.modColl_c (s : EpState) (f : Member → Member) : (s.modColl f).c = s.c := rfl
@[simp] theorem EpState.modColl_lha (s : EpState) (f : Member → Member) : (s.modColl f).lha = s.lha := rfl
@[simp] theorem EpState.modColl_home (s : EpState) (f : Member → Member) : (s.modColl f).home = s.home := rfl
@[simp] theorem EpState.modColl_src (s : EpState) (f : Member → Member) : (s.modColl f).src = s.src := rfl
@[simp] theorem EpState.modColl_rlc (s : EpState) (f : Member → Member) : (s.modColl f).rlc = s.rlc := rfl
@[simp] theorem EpState.modColl_xlt (s : EpState) (f : Member → Member) : (s.modColl f).xlt = s.xlt := rfl
@[simp] theorem EpState.modColl_ces (s : EpState) (f : Member → Member) : (s.modColl f).ces = s.ces := rfl
@[simp] theorem EpState.modColl_loop (s : EpState) (f : Member → Member) : (s.modColl f).loop = s.loop := rfl
@[simp] theorem EpState.modColl_clear (s : EpState) (f : Member → Member) : (s.modColl f).clear = s.clear := rfl
@[simp] theorem EpState.modColl_pieces (s : EpState) (f : Member → Member) : (s.modColl f).pieces = s.pieces := rfl
@[simp] theorem EpState.modColl_nextPiece (s : EpState) (f : Member → Member) : (s.modColl f).nextPiece = s.nextPiece := rfl
@[simp] theorem EpState.modColl_meas (s : EpState) (f : Member → Member) : (s.modColl f).meas = s.meas := rfl
@[simp] theorem EpState.modColl_coll (s : EpState) (f : Member → Member) : (s.modColl f).coll = f s.coll := rfl
@[simp] theorem EpState.modCe_c (s : EpState) (k : Nat) (f : CopyEngine → CopyEngine) : (s.modCe k f).c = s.c := rfl
@[simp] theorem EpState.modCe_lha (s : EpState) (k : Nat) (f : CopyEngine → CopyEngine) : (s.modCe k f).lha = s.lha := rfl
@[simp] theorem EpState.modCe_home (s : EpState) (k : Nat) (f : CopyEngine → CopyEngine) : (s.modCe k f).home = s.home := rfl
@[simp] theorem EpState.modCe_src (s : EpState) (k : Nat) (f : CopyEngine → CopyEngine) : (s.modCe k f).src = s.src := rfl
@[simp] theorem EpState.modCe_rlc (s : EpState) (k : Nat) (f : CopyEngine → CopyEngine) : (s.modCe k f).rlc = s.rlc := rfl
@[simp] theorem EpState.modCe_xlt (s : EpState) (k : Nat) (f : CopyEngine → CopyEngine) : (s.modCe k f).xlt = s.xlt := rfl
@[simp] theorem EpState.modCe_loop (s : EpState) (k : Nat) (f : CopyEngine → CopyEngine) : (s.modCe k f).loop = s.loop := rfl
@[simp] theorem EpState.modCe_clear (s : EpState) (k : Nat) (f : CopyEngine → CopyEngine) : (s.modCe k f).clear = s.clear := rfl
@[simp] theorem EpState.modCe_pieces (s : EpState) (k : Nat) (f : CopyEngine → CopyEngine) : (s.modCe k f).pieces = s.pieces := rfl
@[simp] theorem EpState.modCe_nextPiece (s : EpState) (k : Nat) (f : CopyEngine → CopyEngine) : (s.modCe k f).nextPiece = s.nextPiece := rfl
@[simp] theorem EpState.modCe_meas (s : EpState) (k : Nat) (f : CopyEngine → CopyEngine) : (s.modCe k f).meas = s.meas := rfl
@[simp] theorem EpState.modCe_coll (s : EpState) (k : Nat) (f : CopyEngine → CopyEngine) : (s.modCe k f).coll = s.coll := rfl
@[simp] theorem EpState.modPiece_c (s : EpState) (k : Nat) (f : Piece → Piece) : (s.modPiece k f).c = s.c := rfl
@[simp] theorem EpState.modPiece_lha (s : EpState) (k : Nat) (f : Piece → Piece) : (s.modPiece k f).lha = s.lha := rfl
@[simp] theorem EpState.modPiece_home (s : EpState) (k : Nat) (f : Piece → Piece) : (s.modPiece k f).home = s.home := rfl
@[simp] theorem EpState.modPiece_src (s : EpState) (k : Nat) (f : Piece → Piece) : (s.modPiece k f).src = s.src := rfl
@[simp] theorem EpState.modPiece_rlc (s : EpState) (k : Nat) (f : Piece → Piece) : (s.modPiece k f).rlc = s.rlc := rfl
@[simp] theorem EpState.modPiece_xlt (s : EpState) (k : Nat) (f : Piece → Piece) : (s.modPiece k f).xlt = s.xlt := rfl
@[simp] theorem EpState.modPiece_ces (s : EpState) (k : Nat) (f : Piece → Piece) : (s.modPiece k f).ces = s.ces := rfl
@[simp] theorem EpState.modPiece_loop (s : EpState) (k : Nat) (f : Piece → Piece) : (s.modPiece k f).loop = s.loop := rfl
@[simp] theorem EpState.modPiece_clear (s : EpState) (k : Nat) (f : Piece → Piece) : (s.modPiece k f).clear = s.clear := rfl
@[simp] theorem EpState.modPiece_nextPiece (s : EpState) (k : Nat) (f : Piece → Piece) : (s.modPiece k f).nextPiece = s.nextPiece := rfl
@[simp] theorem EpState.modPiece_meas (s : EpState) (k : Nat) (f : Piece → Piece) : (s.modPiece k f).meas = s.meas := rfl
@[simp] theorem EpState.modPiece_coll (s : EpState) (k : Nat) (f : Piece → Piece) : (s.modPiece k f).coll = s.coll := rfl

/-! ### Registers -/

/-- A register reads as it was stored. -/
@[simp] theorem Common.rd_wr_same (c : Common) (a : Nat) (v : Reg) : (c.wr a v).rd a = v := by
  have h := Tab.get_set_same c.rf.cur (resetOf c.part a) a v
  unfold Tab.get at h
  simp only [Common.rd, Common.wr]
  cases hf : Tab.find (c.rf.cur.set (resetOf c.part a) a v) a <;> simp_all

/-- Storing a register leaves every other one. -/
theorem Common.rd_wr_other (c : Common) (a b : Nat) (v : Reg) (h : b ≠ a) : (c.wr a v).rd b = c.rd b := by
  have e : Tab.find (Tab.set c.rf.cur (resetOf c.part a) a v) b = Tab.find c.rf.cur b := by
    unfold Tab.set
    split
    · exact Tab.find_del_other _ _ _ h
    · exact Tab.find_put_other _ _ _ _ h
  simp only [Common.rd, Common.wr, e]

/-! ### Ports, combs and engines -/

/-- A port after it was changed. -/
@[simp] theorem Common.port_modPort_same (c : Common) (n : Nat) (f : Port → Port) : (c.modPort n f).port n = f (c.port n) := by
  simp [Common.port, Common.modPort]

/-- Changing a port leaves every other one. -/
theorem Common.port_modPort_other (c : Common) (n m : Nat) (f : Port → Port) (h : m ≠ n) : (c.modPort n f).port m = c.port m := by
  simp [Common.port, Common.modPort, Tab.get_upd_other _ _ _ _ _ h]

/-- Changing the training state of a port. -/
@[simp] theorem Common.port_modTrain_same (c : Common) (n : Nat) (f : LinkTrain → LinkTrain) : (c.modTrain n f).port n = { c.port n with t := f (c.port n).t } :=
  Common.port_modPort_same c n _

/-- Changing the flit layer of a port. -/
@[simp] theorem Common.port_modFlit_same (c : Common) (n : Nat) (f : FlitLayer → FlitLayer) : (c.modFlit n f).port n = { c.port n with fl := f (c.port n).fl } :=
  Common.port_modPort_same c n _

/-- Changing the egress of a port. -/
@[simp] theorem Common.port_modEgress_same (c : Common) (n : Nat) (f : Egress → Egress) : (c.modEgress n f).port n = { c.port n with eg := f (c.port n).eg } :=
  Common.port_modPort_same c n _

/-- Changing the optics of a port. -/
@[simp] theorem Common.port_modOptics_same (c : Common) (n : Nat) (f : PortOptics → PortOptics) : (c.modOptics n f).port n = { c.port n with op := f (c.port n).op } :=
  Common.port_modPort_same c n _

/-- A comb after it was changed. -/
@[simp] theorem Common.comb_modComb_same (c : Common) (k : Nat) (f : Comb → Comb) : (c.modComb k f).comb k = f (c.comb k) := by
  simp [Common.comb, Common.modComb]

/-- Changing a comb leaves every other one. -/
theorem Common.comb_modComb_other (c : Common) (k j : Nat) (f : Comb → Comb) (h : j ≠ k) : (c.modComb k f).comb j = c.comb j := by
  simp [Common.comb, Common.modComb, Tab.get_upd_other _ _ _ _ _ h]

/-- An engine after it was changed. -/
@[simp] theorem Common.engine_modEngine_same (c : Common) (k : Nat) (f : Engine → Engine) : (c.modEngine k f).engine k = f (c.engine k) := by
  simp [Common.engine, Common.modEngine]

/-! ### What a register write leaves of the ports -/

@[simp] theorem Common.port_wr (c : Common) (a : Nat) (v : Reg) (n : Nat) : (c.wr a v).port n = c.port n := by cases c; rfl
@[simp] theorem Common.port_event (c : Common) (a low n : Nat) : (c.event a low).port n = c.port n := by cases c; rfl
@[simp] theorem Common.port_linkEvent (c : Common) (m cause stage n : Nat) : (c.linkEvent m cause stage).port n = c.port n := by cases c; rfl
@[simp] theorem Common.port_modMgmt (c : Common) (f : Mgmt → Mgmt) (n : Nat) : (c.modMgmt f).port n = c.port n := rfl
@[simp] theorem Common.port_modTime (c : Common) (f : Timebase → Timebase) (n : Nat) : (c.modTime f).port n = c.port n := rfl
@[simp] theorem Common.port_modComb (c : Common) (k : Nat) (f : Comb → Comb) (n : Nat) : (c.modComb k f).port n = c.port n := rfl
@[simp] theorem Common.port_modEngine (c : Common) (k : Nat) (f : Engine → Engine) (n : Nat) : (c.modEngine k f).port n = c.port n := rfl
@[simp] theorem Common.port_modPwr (c : Common) (f : Power → Power) (n : Nat) : (c.modPwr f).port n = c.port n := rfl
@[simp] theorem Common.port_modTherm (c : Common) (f : Thermal → Thermal) (n : Nat) : (c.modTherm f).port n = c.port n := rfl
@[simp] theorem Common.port_modFw (c : Common) (f : Firmware → Firmware) (n : Nat) : (c.modFw f).port n = c.port n := rfl
@[simp] theorem Common.port_modSec (c : Common) (f : Security → Security) (n : Nat) : (c.modSec f).port n = c.port n := rfl
@[simp] theorem Common.port_modLedger (c : Common) (f : Ledger → Ledger) (n : Nat) : (c.modLedger f).port n = c.port n := rfl

end Sys2Proof.Machine
end

