-- ==== Sys2Proof/Laws/Waist.lean ====
section
/-!
SUPPORT. Laws of the waist through which every command acts: what `onSw`, `onEp` and `onPart` answer, and when the work that follows a command changes nothing.
-/

namespace Sys2Proof.Machine

@[simp] theorem each_nil {α σ : Type} (s : σ) (f : σ → α → σ) : each ([] : List α) s f = s := rfl
@[simp] theorem each_cons {α σ : Type} (a : α) (l : List α) (s : σ) (f : σ → α → σ) : each (a :: l) s f = each l (f s a) f := rfl

/-- A fold keeps what each step keeps. -/
theorem each_keep {α σ β : Type} (g : σ → β) (l : List α) (s : σ) (f : σ → α → σ) (h : ∀ s a, g (f s a) = g s) : g (each l s f) = g s := by
  induction l generalizing s with
  | nil => rfl
  | cons a l ih => rw [each_cons, ih, h]

/-! ### The switch -/

/-- No port leaves service, so nothing follows. -/
theorem SwState.afterPorts_eq (t : SwState) (b : Common) (h : ∀ n, (b.port n).inService = true → (t.c.port n).inService = true) : t.afterPorts b = t := by
  have : lostPorts b t.c = [] := by
    simp only [lostPorts, List.filter_eq_nil_iff]
    intro n _
    cases hb : (b.port n).inService with
    | false => simp
    | true => simp [h n hb]
  simp [SwState.afterPorts, this]

/-- Nothing waits for a node. -/
theorem SwState.flushReplies_eq (t : SwState) (h : t.c.mgmt.outbox = []) : t.flushReplies = t := by
  have e : t.mod (fun c => c.modMgmt (fun m => { m with outbox := [] })) = t := by
    obtain ⟨⟩ := t
    simp_all [SwState.mod, Common.modMgmt]
    rw [← h]
  simp [SwState.flushReplies, h, e]

/-- The switch after a command that takes no port out of service and leaves no in-band reply. -/
theorem SwState.finish_eq (t b : SwState) (h : ∀ n, (b.c.port n).inService = true → (t.c.port n).inService = true) (o : t.c.mgmt.outbox = []) : t.finish b = t := by
  rw [SwState.finish, SwState.afterPorts_eq t b.c h, SwState.flushReplies_eq t o]

/-- A command on the switch, when it works. -/
theorem onSw_next (s : State) (f : SwState → SwState) (h : s.heldPart .sw = false) : onSw s f = .next { s with sw := (f s.sw).finish s.sw } := by
  simp [onSw, show s.sw.c.held = false from h]

/-- A command on the switch that takes no port out of service and leaves no in-band reply. -/
theorem onSw_eq (s : State) (f : SwState → SwState) (h : s.heldPart .sw = false)
    (hp : ∀ n, (s.sw.c.port n).inService = true → ((f s.sw).c.port n).inService = true) (ho : (f s.sw).c.mgmt.outbox = []) :
    onSw s f = .next { s with sw := f s.sw } := by
  rw [onSw_next s f h, SwState.finish_eq _ _ hp ho]

/-! ### The end-point -/

theorem EpState.still_iff (s : EpState) : s.still = true ↔
    s.loop = [] ∧ s.src.done = [] ∧ s.lha.areqs = [] ∧ s.lha.draining = [] ∧ s.ces = [] ∧ s.coll.recs = [] ∧ s.coll.more = false ∧
    s.xlt.ahead = [] ∧ s.xlt.cmds = [] ∧ s.xlt.order = [] ∧ s.xlt.mgmtDone = [] ∧ s.xlt.faults = [] ∧
    (s.lha.attached = [] ∨ ((∀ e ∈ s.lha.ereqs, e.sent = true) ∧ s.lha.ersp = [] ∧ s.lha.notes = [])) ∧ (s.lha.noteWaited = true ∨ s.lha.notes = []) := by
  simp [EpState.still, and_assoc]

/-- What both parts hold has no say in it. -/
theorem EpState.still_c (s : EpState) (c : Common) : ({ s with c := c } : EpState).still = s.still := by simp only [EpState.still]

theorem EpState.pumpEreq_sent (s : EpState) (l : List Ereq) (k : List Nat) (h : ∀ e ∈ l, e.sent = true) : s.pumpEreq l k = s := by
  induction l with
  | nil => rfl
  | cons e l ih => simp_all [EpState.pumpEreq]

theorem EpState.pumpEreq_none (s : EpState) (l : List Ereq) (k : List Nat) (h : s.lha.attached = []) : s.pumpEreq l k = s := by
  induction l with
  | nil => rfl
  | cons e l ih =>
    have : s.steer e.addr = none := by simp [EpState.steer, h]
    simp [EpState.pumpEreq, this, ih]

theorem EpState.pumpErsp_none (s : EpState) (l : List LhaMsg) (k : List Nat) (h : s.lha.attached = []) : s.pumpErsp l k = s := by
  induction l generalizing k with
  | nil => rfl
  | cons m l ih =>
    have e : s.erspModule m = none := by simp [EpState.erspModule, EpState.effective, h]
    simp [EpState.pumpErsp, e, ih]

theorem EpState.pumpNotes_none (s : EpState) (l : List Note) (h : s.lha.attached = []) : s.pumpNotes l = s := by
  cases l <;> simp [EpState.pumpNotes, h]

/-- Nothing can leave for the accelerator. -/
theorem EpState.pump_still (s : EpState) (h : s.lha.attached = [] ∨ ((∀ e ∈ s.lha.ereqs, e.sent = true) ∧ s.lha.ersp = [] ∧ s.lha.notes = []))
    (w : s.lha.noteWaited = true ∨ s.lha.notes = []) : s.pump = s := by
  have e : (s.modLha (fun l => { l with noteWaited := l.noteWaited || !l.notes.isEmpty })) = s := by
    have : (s.lha.noteWaited || !s.lha.notes.isEmpty) = s.lha.noteWaited := by rcases w with w | w <;> simp [w]
    simp only [EpState.modLha, this]
  rcases h with h | ⟨h1, h2, h3⟩
  · simp [EpState.pump, EpState.pumpEreq_none _ _ _ h, EpState.pumpErsp_none _ _ _ h, EpState.pumpNotes_none _ _ h, e]
  · have p : s.pumpErsp s.lha.ersp [] = s := by simp [h2, EpState.pumpErsp]
    have n : s.pumpNotes s.lha.notes = s := by simp [h3, EpState.pumpNotes]
    simp only [EpState.pump, EpState.pumpEreq_sent _ _ _ h1, ite_self, p, n, e]

/-- No re-issue waits for its turn. -/
theorem EpState.freeReissues_none (s : EpState) (h : s.c.reissuesFree = true) : s.freeReissues = s := by
  have k : ∀ n < 8, (((s.c.port n).eg.queue 3).any (fun e => e.reissue && !e.released && !s.behindReissue e)) = false := by
    intro n hn
    simp only [Common.reissuesFree, List.all_eq_true, List.mem_range] at h
    simp only [List.any_eq_false]
    intro e he
    have := h n hn e he
    revert this
    cases e.reissue <;> cases e.released <;> simp
  have all : ∀ l : List Nat, (∀ n ∈ l, n < 8) → each l s (fun s k =>
      if ((s.c.port k).eg.queue 3).any (fun e => e.reissue && !e.released && !s.behindReissue e) then
        s.mod (fun c => c.modEgress k (fun g => g.setQueue 3 ((g.queue 3).map (fun e => if e.reissue && !s.behindReissue e then { e with released := true } else e))))
      else s) = s := by
    intro l hl
    induction l with
    | nil => rfl
    | cons n l ih =>
      rw [each_cons, if_neg (by rw [k n (hl n (by simp))]; decide)]
      exact ih (fun m hm => hl m (by simp [hm]))
  exact all (List.range 8) (fun n hn => List.mem_range.mp hn)

/-- An end-point in which nothing waits stays as it is. -/
theorem EpState.settle_still (s : EpState) (h : s.still = true) (f : s.c.reissuesFree = true) : s.settle = s := by
  obtain ⟨h1, h2, h3, h4, h5, h6, h7, h0, h8, h9, h10, h11, h12, h13⟩ := (EpState.still_iff s).1 h
  have a : s.takeLoop = s := by
    simp only [EpState.takeLoop, h1, each_nil]
    rw [← h1]
  have b : s.takeDone = s := by
    simp only [EpState.takeDone, h2, each_nil, EpState.modSrc]
    rw [← h2]
  have c : s.tryAreqs s.lha.areqs [] = s := by simp [h3, EpState.tryAreqs]
  have d : s.memSettle = s := by
    simp [EpState.memSettle, EpState.collFetch, EpState.memQueries, EpState.memRecord, h6, h7]
  have e : (s.xqRefuse 64) = s := by simp [EpState.xqRefuse, EpState.xqFront, h8]
  have r : (s.xqRecords 64) = s := by simp [EpState.xqRecords, h9]
  have g : s.takeXlt = s := by
    simp only [EpState.takeXlt, h10, each_nil, EpState.modXlt]
    rw [← h10]
  have i : s.modXlt (fun x => { x with faults := [] }) = s := by
    simp only [EpState.modXlt]
    rw [← h11]
  have j : s.drainModules = s := by simp [EpState.drainModules, h4]
  have k : s.walkCmds = s := by simp [EpState.walkCmds, h8]
  have l : s.prefetchGo = s := by simp [EpState.prefetchGo, h0, EpState.prefetchRun]
  simp only [EpState.settle, a, b, c, h5, each_nil, d, e, r, g, i, j, k, l, EpState.pump_still s h12 h13, EpState.freeReissues_none s f]

/-- No port leaves service. -/
theorem EpState.afterPorts_eq (t : EpState) (b : Common) (h : ∀ n, (b.port n).inService = true → (t.c.port n).inService = true) : t.afterPorts b = t := by
  have : (b.ports.map (·.1)).filter (fun k => (b.port k).inService && !(t.c.port k).inService) = [] := by
    simp only [List.filter_eq_nil_iff]
    intro n _
    cases hb : (b.port n).inService with
    | false => simp
    | true => simp [h n hb]
  simp [EpState.afterPorts, this]

/-- No in-band reply waits. -/
theorem EpState.flushReplies_eq (t : EpState) (h : t.c.mgmt.outbox = []) : t.flushReplies = t := by
  have e : t.mod (fun c => c.modMgmt (fun m => { m with outbox := [] })) = t := by
    simp only [EpState.mod, Common.modMgmt]
    rw [← h]
  simp [EpState.flushReplies, h, e]

/-- The end-point after a command that takes no port out of service, leaves no in-band reply and sets nothing going. -/
theorem EpState.finish_eq (t b : EpState) (h : ∀ n, (b.c.port n).inService = true → (t.c.port n).inService = true) (o : t.c.mgmt.outbox = []) (q : t.still = true)
    (f : t.c.reissuesFree = true) : t.finish b = t := by
  rw [EpState.finish, EpState.afterPorts_eq t b.c h, EpState.settle_still t q f, EpState.flushReplies_eq t o]

/-- A command on the end-point, when it works. -/
theorem onEp_next (s : State) (f : EpState → EpState) (h : s.heldPart .ep = false) : onEp s f = .next { s with ep := (f s.ep).finish s.ep } := by
  simp [onEp, show s.ep.c.held = false from h]

/-- A command on the end-point that takes no port out of service, leaves no in-band reply and sets nothing going. -/
theorem onEp_eq (s : State) (f : EpState → EpState) (h : s.heldPart .ep = false)
    (hp : ∀ n, (s.ep.c.port n).inService = true → ((f s.ep).c.port n).inService = true) (ho : (f s.ep).c.mgmt.outbox = []) (hq : (f s.ep).still = true)
    (hf : (f s.ep).c.reissuesFree = true) : onEp s f = .next { s with ep := f s.ep } := by
  rw [onEp_next s f h, EpState.finish_eq _ _ hp ho hq hf]

/-! ### Every command answers a next state, and keeps the queue and the other part -/

/-- A command on the switch answers a next state; the queue and the end-point stay. -/
theorem onSw_total (s : State) (f : SwState → SwState) : ∃ t, onSw s f = .next t ∧ t.pending = s.pending ∧ t.ep = s.ep := by
  unfold onSw
  split
  · exact ⟨s, rfl, rfl, rfl⟩
  · exact ⟨_, rfl, rfl, rfl⟩

/-- A command on the end-point answers a next state; the queue and the switch stay. -/
theorem onEp_total (s : State) (f : EpState → EpState) : ∃ t, onEp s f = .next t ∧ t.pending = s.pending ∧ t.sw = s.sw := by
  unfold onEp
  split
  · exact ⟨s, rfl, rfl, rfl⟩
  · exact ⟨_, rfl, rfl, rfl⟩

/-- The part that a command does not act on. -/
def State.otherSame (s t : State) (part : Part) : Prop :=
  match part with
  | .sw => t.ep = s.ep
  | .ep => t.sw = s.sw

/-- A command on what both parts hold answers a next state; the queue and the other part stay. -/
theorem onPart_total (part : Part) (s : State) (f : Common → Common) : ∃ t, onPart part s f = .next t ∧ t.pending = s.pending ∧ s.otherSame t part := by
  cases part with
  | sw =>
    simp only [onPart, State.otherSame]
    exact onSw_total s _
  | ep =>
    simp only [onPart, State.otherSame]
    exact onEp_total s _

/-- A command with a function for each part. -/
theorem onBoth_total (part : Part) (s : State) (f : SwState → SwState) (g : EpState → EpState) : ∃ t, onBoth part s f g = .next t ∧ t.pending = s.pending ∧ s.otherSame t part := by
  cases part with
  | sw =>
    simp only [onBoth, State.otherSame]
    exact onSw_total s _
  | ep =>
    simp only [onBoth, State.otherSame]
    exact onEp_total s _

/-- A command that reaches a held part too. -/
theorem onRaw_total (part : Part) (s : State) (f : SwState → SwState) (g : EpState → EpState) : ∃ t, onRaw part s f g = .next t ∧ t.pending = s.pending ∧ s.otherSame t part := by
  cases part <;> exact ⟨_, rfl, rfl, rfl⟩

/-- A Zhevseler command. -/
theorem onZ_total (op : Nat) (z : ZPacket) (s : State) (f : SwState → SwState) (g : EpState → EpState) : ∃ t, onZ op z s f g = .next t ∧ t.pending = s.pending ∧ s.otherSame t z.part := by
  unfold onZ
  cases z.part with
  | sw =>
    simp only [State.otherSame]
    exact onSw_total s _
  | ep =>
    simp only [State.otherSame]
    exact onEp_total s _

/-- A command that names units of the switch. -/
theorem onSwIf_total (ok : Bool) (s : State) (f : SwState → SwState) (h : ok = true) : ∃ t, onSwIf ok s f = .next t ∧ t.pending = s.pending ∧ s.otherSame t .sw := by
  subst h
  exact onSw_total s f

/-- A command that names units of the end-point. -/
theorem onEpIf_total (ok : Bool) (s : State) (f : EpState → EpState) (h : ok = true) : ∃ t, onEpIf ok s f = .next t ∧ t.pending = s.pending ∧ s.otherSame t .ep := by
  subst h
  exact onEp_total s f

/-- A command that names a port. -/
theorem onPort_total (part : Part) (n : Nat) (s : State) (f : Common → Common) (h : decide (n < portCount part) = true) :
    ∃ t, onPort part n s f = .next t ∧ t.pending = s.pending ∧ s.otherSame t part := by
  simp only [onPort, of_decide_eq_true h, if_true]
  exact onPart_total part s f

/-- A command that names a comb. -/
theorem onComb_total (part : Part) (k : Nat) (s : State) (f : Common → Common) (h : decide (k < combCount part) = true) :
    ∃ t, onComb part k s f = .next t ∧ t.pending = s.pending ∧ s.otherSame t part := by
  simp only [onComb, of_decide_eq_true h, if_true]
  exact onPart_total part s f

/-! ### What both parts hold -/

/-- A command on what both parts hold, in a part that is ready: it changes that and nothing else. -/
theorem onPart_eq (part : Part) (s : State) (f : Common → Common) (h : s.ready part = true)
    (hp : ∀ n, ((s.common part).port n).inService = true → ((f (s.common part)).port n).inService = true)
    (hm : part = .ep → (f (s.common part)).markerPorts = (s.common part).markerPorts)
    (hf : part = .ep → (f (s.common part)).reissuesFree = true) (ho : (f (s.common part)).mgmt.outbox = []) :
    onPart part s f = .next (s.modPart part f) := by
  cases part with
  | sw =>
    simp only [State.ready, Bool.and_eq_true, Bool.not_eq_true'] at h
    simp only [State.common] at hp ho
    have e := onSw_eq s (fun w => w.mod f) h.1 hp ho
    simp only [onPart, e, State.modPart]
    rfl
  | ep =>
    simp only [State.ready, Bool.and_eq_true, Bool.not_eq_true'] at h
    have hm' := hm rfl
    have hf' := hf rfl
    simp only [State.common] at hp hm' hf' ho
    have e := onEp_eq s (fun e => e.mod (fun c => (f c).refollow c)) h.1
    simp only [EpState.mod, Common.refollow, hm', if_true] at e
    have e' := e hp ho (by rw [EpState.still_c]; exact h.2.2) hf'
    simp only [onPart, EpState.mod, Common.refollow, State.modPart, ← e']

end Sys2Proof.Machine
end

