-- ==== Sys2Proof/Laws/Sending.lean ====
section
/-!
SUPPORT. Laws of sending: what putting a packet into an egress queue leaves of a part, and that no in-band reply stays behind a command.
-/

namespace Sys2Proof.Machine

/-! ### Egress queues -/

/-- What sending a packet never touches of what both parts hold. -/
structure Common.SentFrom (a b : Common) : Prop where
  part : b.part = a.part
  id : b.id = a.id
  time : b.time = a.time
  opt : b.opt = a.opt
  stage : b.stage = a.stage
  mgmt : b.mgmt = a.mgmt
  ledger : b.ledger = a.ledger
  test : b.test = a.test
  fw : b.fw = a.fw
  pwr : b.pwr = a.pwr
  therm : b.therm = a.therm
  biv : b.biv = a.biv
  admitted : b.admitted = a.admitted
  train : ∀ n, (b.port n).t = (a.port n).t

theorem Common.SentFrom.refl (a : Common) : Common.SentFrom a a := ⟨rfl, rfl, rfl, rfl, rfl, rfl, rfl, rfl, rfl, rfl, rfl, rfl, rfl, fun _ => rfl⟩

theorem Common.SentFrom.trans {a b c : Common} (h : Common.SentFrom a b) (k : Common.SentFrom b c) : Common.SentFrom a c :=
  ⟨k.part.trans h.part, k.id.trans h.id, k.time.trans h.time, k.opt.trans h.opt, k.stage.trans h.stage, k.mgmt.trans h.mgmt, k.ledger.trans h.ledger, k.test.trans h.test,
   k.fw.trans h.fw, k.pwr.trans h.pwr, k.therm.trans h.therm, k.biv.trans h.biv, k.admitted.trans h.admitted, fun n => (k.train n).trans (h.train n)⟩

/-- Storing a register. -/
theorem Common.sent_wr (c : Common) (a : Nat) (v : Reg) : Common.SentFrom c (c.wr a v) := by
  cases c
  exact ⟨rfl, rfl, rfl, rfl, rfl, rfl, rfl, rfl, rfl, rfl, rfl, rfl, rfl, fun _ => rfl⟩

/-- Changing the egress of a port. -/
theorem Common.sent_modEgress (c : Common) (n : Nat) (f : Egress → Egress) : Common.SentFrom c (c.modEgress n f) := by
  refine ⟨rfl, rfl, rfl, rfl, rfl, rfl, rfl, rfl, rfl, rfl, rfl, rfl, rfl, fun m => ?_⟩
  by_cases h : m = n
  · subst h
    simp
  · simp [Common.modEgress, Common.port_modPort_other _ _ _ _ h]

/-- Putting a packet into a queue. -/
theorem Common.sent_enqueue (c : Common) (n q : Nat) (e : QEntry) : Common.SentFrom c (c.enqueue n q e) := by
  have h1 : ∀ d : Common, Common.SentFrom d (d.markDepth n q) := fun d => by
    unfold Common.markDepth
    simp only
    split
    · exact Common.sent_wr d _ _
    · exact Common.SentFrom.refl d
  have h2 : ∀ (d : Common) (v : Nat), Common.SentFrom d (d.noteLevel n v) := fun d v => by
    unfold Common.noteLevel
    split
    · exact Common.SentFrom.refl d
    · exact Common.sent_modEgress d n _
  exact ((Common.sent_modEgress c n _).trans (h1 _)).trans (h2 _ _)

/-! ### The switch -/

/-- The switch sends a packet of its own to a node. -/
theorem SwState.sent_toNode (s : SwState) (node : Nat) (p : Packet) : Common.SentFrom s.c (s.toNode node p).c := by
  have ho : ∀ n q, Common.SentFrom s.c (s.originate n q).c := fun n q => by
    unfold SwState.originate
    split
    · exact Common.SentFrom.refl _
    · split
      · exact Common.sent_enqueue _ _ _ _
      · exact Common.SentFrom.refl _
  unfold SwState.toNode
  split
  · split
    · exact Common.SentFrom.refl _
    · exact ho _ _
  · exact Common.SentFrom.refl _

/-- A fold whose steps send leaves what sending leaves. -/
theorem SwState.sent_each {α : Type} (l : List α) (s : SwState) (f : SwState → α → SwState) (h : ∀ s a, Common.SentFrom s.c (f s a).c) : Common.SentFrom s.c (each l s f).c := by
  induction l generalizing s with
  | nil => exact Common.SentFrom.refl _
  | cons a l ih => exact (h s a).trans (ih (f s a))

/-- In-band replies leave: no part of the switch changes but queues, and none of them waits any more. -/
theorem SwState.sent_flushReplies (s : SwState) : Common.SentFrom { s.c with mgmt := { s.c.mgmt with outbox := [] } } s.flushReplies.c := by
  exact SwState.sent_each s.c.mgmt.outbox (s.mod (fun c => c.modMgmt (fun m => { m with outbox := [] }))) _ (fun _ _ => SwState.sent_toNode _ _ _)

/-- No in-band reply waits behind a command of the switch (R675). -/
@[simp] theorem SwState.finish_outbox (s b : SwState) : (s.finish b).c.mgmt.outbox = [] := by
  rw [SwState.finish, (SwState.sent_flushReplies _).mgmt]

/-! ### The end-point -/

/-- The end-point puts a packet into a queue of a plane. -/
theorem EpState.sent_putPacket (s : EpState) (plane : Nat) (p : Packet) (excess : Bool) : Common.SentFrom s.c (s.putPacket plane p excess).c := by
  have hw : ∀ q r, s.toWire q = some r → Common.SentFrom s.c r.2.c := fun q r h => by
    unfold EpState.toWire at h
    split at h
    · cases he : s.c.encrypt s.pitch q with
      | none => simp [he] at h
      | some x =>
        simp only [he, Option.some.injEq] at h
        subst h
        unfold Common.encrypt at he
        split at he
        · exact absurd he (by simp)
        · cases hk : s.c.activeKey s.pitch with
          | none => simp [hk] at he
          | some k =>
            simp only [hk, Option.some.injEq] at he
            subst he
            exact ⟨rfl, rfl, rfl, rfl, rfl, rfl, rfl, rfl, rfl, rfl, rfl, rfl, rfl, fun _ => rfl⟩
    · simp only [Option.some.injEq] at h
      subst h
      exact Common.SentFrom.refl _
  unfold EpState.putPacket EpState.egress
  simp only
  split
  · rename_i r h
    exact (hw _ r h).trans (Common.sent_enqueue _ _ _ _)
  · exact Common.SentFrom.refl _

/-- A fold whose steps send leaves what sending leaves. -/
theorem EpState.sent_each {α : Type} (l : List α) (s : EpState) (f : EpState → α → EpState) (h : ∀ s a, Common.SentFrom s.c (f s a).c) : Common.SentFrom s.c (each l s f).c := by
  induction l generalizing s with
  | nil => exact Common.SentFrom.refl _
  | cons a l ih => exact (h s a).trans (ih (f s a))

/-- In-band replies leave: nothing of what both parts hold changes but queues, registers and encryption counts, and none of them waits any more. -/
theorem EpState.sent_flushReplies (s : EpState) : Common.SentFrom { s.c with mgmt := { s.c.mgmt with outbox := [] } } s.flushReplies.c := by
  exact EpState.sent_each s.c.mgmt.outbox (s.mod (fun c => c.modMgmt (fun m => { m with outbox := [] }))) _ (fun _ _ => EpState.sent_putPacket _ _ _ _)

/-- No in-band reply waits behind a command of the end-point (R675). -/
@[simp] theorem EpState.finish_outbox (s b : EpState) : (s.finish b).c.mgmt.outbox = [] := by
  rw [EpState.finish, (EpState.sent_flushReplies _).mgmt]

end Sys2Proof.Machine
end

