-- ==== Sys2Proof/Laws/Steps.lean ====
section
/-!
SUPPORT. What a step can do, said once: every command acts through `onSw` or `onEp` of its part, but for those that reach a held part; from this come completion, the held part, and the invariant.
-/

namespace Sys2Proof.Machine

/-- An outcome that comes of one function on the state of one part. -/
def Through (s : State) (part : Part) (o : Host.Outcome State Fault Refusal) : Prop :=
  match part with
  | .sw => ∃ f, o = onSw s f
  | .ep => ∃ f, o = onEp s f

theorem through_sw (s : State) (f : SwState → SwState) : Through s .sw (onSw s f) := ⟨f, rfl⟩
theorem through_ep (s : State) (f : EpState → EpState) : Through s .ep (onEp s f) := ⟨f, rfl⟩

theorem through_part (part : Part) (s : State) (f : Common → Common) : Through s part (onPart part s f) := by
  cases part with
  | sw => exact ⟨fun w => w.mod f, by simp only [onPart]⟩
  | ep => exact ⟨fun e => e.mod (fun c => (f c).refollow c), by simp only [onPart]⟩

theorem through_both (part : Part) (s : State) (f : SwState → SwState) (g : EpState → EpState) : Through s part (onBoth part s f g) := by
  cases part with
  | sw => exact ⟨f, by simp only [onBoth]⟩
  | ep => exact ⟨g, by simp only [onBoth]⟩

theorem through_swIf (ok : Bool) (s : State) (f : SwState → SwState) (h : ok = true) : Through s .sw (onSwIf ok s f) := by
  subst h
  exact ⟨f, by simp only [onSwIf, if_true]⟩

theorem through_epIf (ok : Bool) (s : State) (f : EpState → EpState) (h : ok = true) : Through s .ep (onEpIf ok s f) := by
  subst h
  exact ⟨f, by simp only [onEpIf, if_true]⟩

theorem through_port (part : Part) (n : Nat) (s : State) (f : Common → Common) (h : decide (n < portCount part) = true) : Through s part (onPort part n s f) := by
  simp only [onPort, of_decide_eq_true h, if_true]
  exact through_part part s f

theorem through_comb (part : Part) (k : Nat) (s : State) (f : Common → Common) (h : decide (k < combCount part) = true) : Through s part (onComb part k s f) := by
  simp only [onComb, of_decide_eq_true h, if_true]
  exact through_part part s f

theorem through_z (op : Nat) (z : ZPacket) (s : State) (f : SwState → SwState) (g : EpState → EpState) : Through s z.part (onZ op z s f g) := by
  cases h : z.part with
  | sw => exact ⟨fun w => w.zRun op z f, by simp only [onZ, h]⟩
  | ep => exact ⟨fun e => e.zRun op z g, by simp only [onZ, h]⟩

theorem through_write (part : Part) (addr value : Nat) (s : State) : Through s part (s.regWrite part addr value) := by
  cases part with
  | sw => exact ⟨_, by simp only [State.regWrite]; rfl⟩
  | ep => exact ⟨_, by simp only [State.regWrite]; rfl⟩

theorem through_measure (q : SpdmReq) (s : State) : Through s q.part (execGetMeasurements q s) := by
  unfold execGetMeasurements
  exact through_both _ _ _ _

/-- Every command whose units exist acts through its part, but for those that reach a held part. -/
theorem exec_through (c : Instr) (s : State) (h : unitsExist c = true) (r : reachesHeld c = false) : Through s (partOf c) (exec c s) := by
  cases c
  case registerWrite => rw [exec_registerWrite]; unfold execRegisterWrite; exact through_write _ _ _ _
  case viewWrite => rw [exec_viewWrite]; unfold execViewWrite; exact through_write _ _ _ _
  case eventRegisterClear => rw [exec_eventRegisterClear]; unfold execEventRegisterClear; exact through_write _ _ _ _
  case loWordRead => rw [exec_loWordRead]; unfold execLoWordRead; rename_i p _ _; cases p <;> exact ⟨_, rfl⟩
  case wpWriteComplete => rw [exec_wpWriteComplete]; unfold execWpWriteComplete; exact through_part _ _ _
  case idCntClear => rw [exec_idCntClear]; unfold execIdCntClear; exact through_part _ _ _
  case telHwmClr => rw [exec_telHwmClr]; unfold execTelHwmClr; exact through_port _ _ _ _ h
  case thermHwmClear => rw [exec_thermHwmClear]; unfold execThermHwmClear; exact through_part _ _ _
  case pickBoundary => rw [exec_pickBoundary]; unfold execPickBoundary; rename_i b; show Through s b.part _; cases e : b.part <;> exact ⟨_, rfl⟩
  case pickSyncPulse => rw [exec_pickSyncPulse]; unfold execPickSyncPulse; rename_i p _ _ _; (cases p with | sw => exact through_part _ _ _ | ep => exact absurd h (by simp [unitsExist]))
  case holdoverExpired => rw [exec_holdoverExpired]; unfold execHoldoverExpired; exact through_part _ _ _
  case pickMarker => rw [exec_pickMarker]; unfold execPickMarker; exact through_port _ _ _ _ h
  case stagedSetCommit => rw [exec_stagedSetCommit]; unfold execStagedSetCommit; rename_i p _; (cases p with | sw => exact through_swIf _ _ _ h | ep => exact through_epIf _ _ _ h)
  case membershipCommit => rw [exec_membershipCommit]; unfold execMembershipCommit; rename_i p; cases p <;> exact ⟨_, rfl⟩
  case stakedAccept => rw [exec_stakedAccept]; unfold execStakedAccept; exact through_epIf _ _ _ h
  case wheelSlot => rw [exec_wheelSlot]; unfold execWheelSlot; exact through_epIf _ _ _ h
  case flitSend => rw [exec_flitSend]; unfold execFlitSend; exact through_port _ _ _ _ h
  case flitReceived => rw [exec_flitReceived]; unfold execFlitReceived; exact through_port _ _ _ _ h
  case replayTimeout => rw [exec_replayTimeout]; unfold execReplayTimeout; exact through_port _ _ _ _ h
  case trainingSet => rw [exec_trainingSet]; unfold execTrainingSet; exact through_port _ _ _ _ h
  case stageTimeout => rw [exec_stageTimeout]; unfold execStageTimeout; exact through_port _ _ _ _ h
  case caps => rw [exec_caps]; unfold execCaps; exact through_port _ _ _ _ h
  case ident => rw [exec_ident]; unfold execIdent; exact through_port _ _ _ _ h
  case wire => rw [exec_wire]; unfold execWire; exact through_port _ _ _ _ h
  case creditInit => rw [exec_creditInit]; unfold execCreditInit; exact through_port _ _ _ _ h
  case admitMsg => rw [exec_admitMsg]; unfold execAdmitMsg; exact through_port _ _ _ _ h
  case laneCtrlCheck => rw [exec_laneCtrlCheck]; unfold execLaneCtrlCheck; exact through_port _ _ _ _ h
  case move => rw [exec_move]; unfold execMove; exact through_port _ _ _ _ h
  case moveOk => rw [exec_moveOk]; unfold execMoveOk; exact through_port _ _ _ _ h
  case moveNo => rw [exec_moveNo]; unfold execMoveNo; exact through_port _ _ _ _ h
  case width => rw [exec_width]; unfold execWidth; exact through_port _ _ _ _ h
  case widthOk => rw [exec_widthOk]; unfold execWidthOk; exact through_port _ _ _ _ h
  case laneCtrlRetry => rw [exec_laneCtrlRetry]; unfold execLaneCtrlRetry; exact through_port _ _ _ _ h
  case drain => rw [exec_drain]; unfold execDrain; exact through_port _ _ _ _ h
  case drainDone => rw [exec_drainDone]; unfold execDrainDone; exact through_port _ _ _ _ h
  case strike => rw [exec_strike]; unfold execStrike; exact through_port _ _ _ _ h
  case strikeDone => rw [exec_strikeDone]; unfold execStrikeDone; exact through_port _ _ _ _ h
  case strikeComplete => rw [exec_strikeComplete]; unfold execStrikeComplete; exact through_port _ _ _ _ h
  case strikeStepTimeout => rw [exec_strikeStepTimeout]; unfold execStrikeStepTimeout; exact through_port _ _ _ _ h
  case linkCmdRaise => rw [exec_linkCmdRaise]; unfold execLinkCmdRaise; exact through_port _ _ _ _ h
  case linkCmdStrike => rw [exec_linkCmdStrike]; unfold execLinkCmdStrike; exact through_port _ _ _ _ h
  case linkCmdCheck => rw [exec_linkCmdCheck]; unfold execLinkCmdCheck; exact through_port _ _ _ _ h
  case linkCmdClrLane => rw [exec_linkCmdClrLane]; unfold execLinkCmdClrLane; exact through_port _ _ _ _ h
  case eyeStart => rw [exec_eyeStart]; unfold execEyeStart; exact through_port _ _ _ _ h
  case eyeStop => rw [exec_eyeStop]; unfold execEyeStop; exact through_port _ _ _ _ h
  case eyeScanDone => rw [exec_eyeScanDone]; unfold execEyeScanDone; exact through_port _ _ _ _ h
  case monitorSample => rw [exec_monitorSample]; unfold execMonitorSample; exact through_port _ _ _ _ h
  case warmReraiseDone => rw [exec_warmReraiseDone]; unfold execWarmReraiseDone; exact through_port _ _ _ _ h
  case openFibre => rw [exec_openFibre]; unfold execOpenFibre; exact through_port _ _ _ _ h
  case launchLimit => rw [exec_launchLimit]; unfold execLaunchLimit; exact through_port _ _ _ _ h
  case probePulse => rw [exec_probePulse]; unfold execProbePulse; exact through_port _ _ _ _ h
  case probeSet => rw [exec_probeSet]; unfold execProbeSet; exact through_port _ _ _ _ h
  case laserEnLow => exact absurd r (by simp [reachesHeld])
  case laserEnHigh => exact absurd r (by simp [reachesHeld])
  case combLocked => rw [exec_combLocked]; unfold execCombLocked; exact through_comb _ _ _ _ h
  case combWarmTimeout => rw [exec_combWarmTimeout]; unfold execCombWarmTimeout; exact through_comb _ _ _ _ h
  case combLockerLost => rw [exec_combLockerLost]; unfold execCombLockerLost; exact through_comb _ _ _ _ h
  case combOutputLow => rw [exec_combOutputLow]; unfold execCombOutputLow; exact through_comb _ _ _ _ h
  case spareLightArrived => rw [exec_spareLightArrived]; unfold execSpareLightArrived; rw [if_pos (of_decide_eq_true h)]; exact through_part _ _ _
  case feedforwardSample => rw [exec_feedforwardSample]; unfold execFeedforwardSample; exact through_port _ _ _ _ h
  case ringLockLost => rw [exec_ringLockLost]; unfold execRingLockLost; exact through_port _ _ _ _ h
  case ringRelock => rw [exec_ringRelock]; unfold execRingRelock; exact through_port _ _ _ _ h
  case slipRelockTimeout => rw [exec_slipRelockTimeout]; unfold execSlipRelockTimeout; exact through_port _ _ _ _ h
  case opticalReport => rw [exec_opticalReport]; unfold execOpticalReport; exact through_port _ _ _ _ h
  case ringsLocked => rw [exec_ringsLocked]; unfold execRingsLocked; exact through_port _ _ _ _ h
  case packetForward => rw [exec_packetForward]; unfold execPacketForward; exact through_swIf _ _ _ h
  case bufferAdmission => rw [exec_bufferAdmission]; unfold execBufferAdmission; exact through_swIf _ _ _ h
  case matcherSlot => rw [exec_matcherSlot]; unfold execMatcherSlot; exact through_sw _ _
  case sprayUnitArrival => rw [exec_sprayUnitArrival]; unfold execSprayUnitArrival; exact through_swIf _ _ _ h
  case reedReceipt => rw [exec_reedReceipt]; unfold execReedReceipt; exact through_swIf _ _ _ h
  case reedHoleTimeout => rw [exec_reedHoleTimeout]; unfold execReedHoleTimeout; exact through_swIf _ _ _ h
  case packetAgeDiscard => rw [exec_packetAgeDiscard]; unfold execPacketAgeDiscard; exact through_swIf _ _ _ h
  case castSend => rw [exec_castSend]; unfold execCastSend; exact through_swIf _ _ _ h
  case combineAnswer => rw [exec_combineAnswer]; unfold execCombineAnswer; exact through_swIf _ _ _ h
  case mergedForget => rw [exec_mergedForget]; unfold execMergedForget; exact through_swIf _ _ _ h
  case msgSendRoute => rw [exec_msgSendRoute]; unfold execMsgSendRoute; exact through_swIf _ _ _ h
  case msgSendSelvedge => rw [exec_msgSendSelvedge]; unfold execMsgSendSelvedge; exact through_swIf _ _ _ h
  case msgAckRoute => rw [exec_msgAckRoute]; unfold execMsgAckRoute; exact through_swIf _ _ _ h
  case requestSend => rw [exec_requestSend]; unfold execRequestSend; exact through_epIf _ _ _ h
  case read => rw [exec_read]; unfold execRead; exact through_epIf _ _ _ h
  case write => rw [exec_write]; unfold execWrite; exact through_epIf _ _ _ h
  case writeMasked => rw [exec_writeMasked]; unfold execWriteMasked; exact through_epIf _ _ _ h
  case writeFlagNode => rw [exec_writeFlagNode]; unfold execWriteFlagNode; exact through_epIf _ _ _ h
  case writeFlagAll => rw [exec_writeFlagAll]; unfold execWriteFlagAll; exact through_epIf _ _ _ h
  case atomic => rw [exec_atomic]; unfold execAtomic; exact through_epIf _ _ _ h
  case mergedRequest => rw [exec_mergedRequest]; unfold execMergedRequest; exact through_epIf _ _ _ h
  case combineReceipt => rw [exec_combineReceipt]; unfold execCombineReceipt; exact through_epIf _ _ _ h
  case flagHoldRelease => rw [exec_flagHoldRelease]; unfold execFlagHoldRelease; exact through_ep _ _
  case flagHoldDiscard => rw [exec_flagHoldDiscard]; unfold execFlagHoldDiscard; exact through_ep _ _
  case combineBatchDrop => rw [exec_combineBatchDrop]; unfold execCombineBatchDrop; exact through_epIf _ _ _ h
  case readRsp => rw [exec_readRsp]; unfold execReadRsp; exact through_epIf _ _ _ h
  case writeAck => rw [exec_writeAck]; unfold execWriteAck; exact through_epIf _ _ _ h
  case atomicRsp => rw [exec_atomicRsp]; unfold execAtomicRsp; exact through_epIf _ _ _ h
  case msgSend => rw [exec_msgSend]; unfold execMsgSend; exact through_epIf _ _ _ h
  case msgAck => rw [exec_msgAck]; unfold execMsgAck; exact through_epIf _ _ _ h
  case msgDupExpiry => rw [exec_msgDupExpiry]; unfold execMsgDupExpiry; exact through_ep _ _
  case responseTimeout => rw [exec_responseTimeout]; unfold execResponseTimeout; exact through_ep _ _
  case portDownReissue => rw [exec_portDownReissue]; unfold execPortDownReissue; exact through_ep _ _
  case fenceComplete => rw [exec_fenceComplete]; unfold execFenceComplete; exact through_epIf _ _ _ h
  case ctrSub => rw [exec_ctrSub]; unfold execCtrSub; exact through_epIf _ _ _ h
  case rlcInval => rw [exec_rlcInval]; unfold execRlcInval; exact through_ep _ _
  case rlcAdviceWrite => rw [exec_rlcAdviceWrite]; unfold execRlcAdviceWrite; exact through_epIf _ _ _ h
  case keyTableWrite => rw [exec_keyTableWrite]; unfold execKeyTableWrite; exact through_epIf _ _ _ h
  case rlcDisable => rw [exec_rlcDisable]; unfold execRlcDisable; exact through_ep _ _
  case ld => rw [exec_ld]; unfold execLd; exact through_epIf _ _ _ h
  case st => rw [exec_st]; unfold execSt; exact through_epIf _ _ _ h
  case stMasked => rw [exec_stMasked]; unfold execStMasked; exact through_epIf _ _ _ h
  case lhaAt => rw [exec_lhaAt]; unfold execLhaAt; exact through_epIf _ _ _ h
  case lhaFence => rw [exec_lhaFence]; unfold execLhaFence; exact through_epIf _ _ _ h
  case kernelStart => rw [exec_kernelStart]; unfold execKernelStart; exact through_epIf _ _ _ h
  case regRd => rw [exec_regRd]; unfold execRegRd; exact through_epIf _ _ _ h
  case regWr => rw [exec_regWr]; unfold execRegWr; exact through_epIf _ _ _ h
  case mrdRsp => rw [exec_mrdRsp]; unfold execMrdRsp; exact through_epIf _ _ _ h
  case mwrAck => rw [exec_mwrAck]; unfold execMwrAck; exact through_epIf _ _ _ h
  case matRsp => rw [exec_matRsp]; unfold execMatRsp; exact through_epIf _ _ _ h
  case credit => rw [exec_credit]; unfold execCredit; exact through_epIf _ _ _ h
  case moduleTrained => rw [exec_moduleTrained]; unfold execModuleTrained; exact through_epIf _ _ _ h
  case offerRetry => rw [exec_offerRetry]; unfold execOfferRetry; exact through_epIf _ _ _ h
  case accept => rw [exec_accept]; unfold execAccept; exact through_epIf _ _ _ h
  case quiesce => rw [exec_quiesce]; unfold execQuiesce; exact through_epIf _ _ _ h
  case quiesceComplete => rw [exec_quiesceComplete]; unfold execQuiesceComplete; exact through_ep _ _
  case moduleLinkLost => rw [exec_moduleLinkLost]; unfold execModuleLinkLost; exact through_epIf _ _ _ h
  case ereqTimeout => rw [exec_ereqTimeout]; unfold execEreqTimeout; exact through_epIf _ _ _ h
  case ereqPauseEnd => rw [exec_ereqPauseEnd]; unfold execEreqPauseEnd; exact through_ep _ _
  case noticeSend => rw [exec_noticeSend]; unfold execNoticeSend; exact through_ep _ _
  case serveWrite => rw [exec_serveWrite]; unfold execServeWrite; exact through_ep _ _
  case pwrAlertInWrite => rw [exec_pwrAlertInWrite]; unfold execPwrAlertInWrite; exact through_ep _ _
  case lhaMalformedMessage => rw [exec_lhaMalformedMessage]; unfold execLhaMalformedMessage; exact through_epIf _ _ _ h
  case ceDoorbell => rw [exec_ceDoorbell]; unfold execCeDoorbell; exact through_epIf _ _ _ h
  case ceEnable => rw [exec_ceEnable]; unfold execCeEnable; exact through_epIf _ _ _ h
  case ceDisable => rw [exec_ceDisable]; unfold execCeDisable; exact through_epIf _ _ _ h
  case ceResume => rw [exec_ceResume]; unfold execCeResume; exact through_epIf _ _ _ h
  case ceAbort => rw [exec_ceAbort]; unfold execCeAbort; exact through_epIf _ _ _ h
  case copy => rw [exec_copy]; unfold execCopy; exact through_epIf _ _ _ h
  case qcopy => rw [exec_qcopy]; unfold execQcopy; exact through_epIf _ _ _ h
  case ceAtomic => rw [exec_ceAtomic]; unfold execCeAtomic; exact through_epIf _ _ _ h
  case ceFlag => rw [exec_ceFlag]; unfold execCeFlag; exact through_epIf _ _ _ h
  case ceFence => rw [exec_ceFence]; unfold execCeFence; exact through_epIf _ _ _ h
  case nop => rw [exec_nop]; unfold execNop; exact through_epIf _ _ _ h
  case ceCompletion => rw [exec_ceCompletion]; unfold execCeCompletion; exact through_epIf _ _ _ h
  case measSlotOpen => rw [exec_measSlotOpen]; unfold execMeasSlotOpen; exact through_epIf _ _ _ h
  case measSlotClose => rw [exec_measSlotClose]; unfold execMeasSlotClose; exact through_epIf _ _ _ h
  case xqDoorbell => rw [exec_xqDoorbell]; unfold execXqDoorbell; exact through_ep _ _
  case invalidate => rw [exec_invalidate]; unfold execInvalidate; exact through_ep _ _
  case invalidateDrained => rw [exec_invalidateDrained]; unfold execInvalidateDrained; exact through_ep _ _
  case invalidateStuck => rw [exec_invalidateStuck]; unfold execInvalidateStuck; exact through_ep _ _
  case migrate => rw [exec_migrate]; unfold execMigrate; exact through_ep _ _
  case migrateCopyDone => rw [exec_migrateCopyDone]; unfold execMigrateCopyDone; exact through_ep _ _
  case adviseResident => rw [exec_adviseResident]; unfold execAdviseResident; exact through_ep _ _
  case adviseReadMostly => rw [exec_adviseReadMostly]; unfold execAdviseReadMostly; exact through_ep _ _
  case adviseStreaming => rw [exec_adviseStreaming]; unfold execAdviseStreaming; exact through_ep _ _
  case adviseEvict => rw [exec_adviseEvict]; unfold execAdviseEvict; exact through_ep _ _
  case adviseNormal => rw [exec_adviseNormal]; unfold execAdviseNormal; exact through_ep _ _
  case intent => rw [exec_intent]; unfold execIntent; exact through_swIf _ _ _ h
  case contrib => rw [exec_contrib]; unfold execContrib; exact through_swIf _ _ _ h
  case abort => rw [exec_abort]; unfold execAbort; exact through_swIf _ _ _ h
  case received => rw [exec_received]; unfold execReceived; exact through_swIf _ _ _ h
  case query => rw [exec_query]; unfold execQuery; exact through_swIf _ _ _ h
  case intentWaitExpired => rw [exec_intentWaitExpired]; unfold execIntentWaitExpired; exact through_swIf _ _ _ h
  case collStall => rw [exec_collStall]; unfold execCollStall; exact through_swIf _ _ _ h
  case collDoorbell => rw [exec_collDoorbell]; unfold execCollDoorbell; exact through_ep _ _
  case collDescriptorStart => rw [exec_collDescriptorStart]; unfold execCollDescriptorStart; exact through_ep _ _
  case grantAdmit => rw [exec_grantAdmit]; unfold execGrantAdmit; exact through_epIf _ _ _ h
  case grantCredit => rw [exec_grantCredit]; unfold execGrantCredit; exact through_epIf _ _ _ h
  case result => rw [exec_result]; unfold execResult; exact through_epIf _ _ _ h
  case abortNotice => rw [exec_abortNotice]; unfold execAbortNotice; exact through_epIf _ _ _ h
  case done => rw [exec_done]; unfold execDone; exact through_epIf _ _ _ h
  case resend => rw [exec_resend]; unfold execResend; exact through_epIf _ _ _ h
  case collWaitExpired => rw [exec_collWaitExpired]; unfold execCollWaitExpired; exact through_ep _ _
  case barAdd => rw [exec_barAdd]; unfold execBarAdd; exact through_swIf _ _ _ h
  case barSub => rw [exec_barSub]; unfold execBarSub; exact through_swIf _ _ _ h
  case barAnd => rw [exec_barAnd]; unfold execBarAnd; exact through_swIf _ _ _ h
  case barOr => rw [exec_barOr]; unfold execBarOr; exact through_swIf _ _ _ h
  case barXor => rw [exec_barXor]; unfold execBarXor; exact through_swIf _ _ _ h
  case barSll => rw [exec_barSll]; unfold execBarSll; exact through_swIf _ _ _ h
  case barSrl => rw [exec_barSrl]; unfold execBarSrl; exact through_swIf _ _ _ h
  case barSra => rw [exec_barSra]; unfold execBarSra; exact through_swIf _ _ _ h
  case barMul => rw [exec_barMul]; unfold execBarMul; exact through_swIf _ _ _ h
  case barMulhu => rw [exec_barMulhu]; unfold execBarMulhu; exact through_swIf _ _ _ h
  case barDivu => rw [exec_barDivu]; unfold execBarDivu; exact through_swIf _ _ _ h
  case barRemu => rw [exec_barRemu]; unfold execBarRemu; exact through_swIf _ _ _ h
  case barSlt => rw [exec_barSlt]; unfold execBarSlt; exact through_swIf _ _ _ h
  case barSltu => rw [exec_barSltu]; unfold execBarSltu; exact through_swIf _ _ _ h
  case barMin => rw [exec_barMin]; unfold execBarMin; exact through_swIf _ _ _ h
  case barMax => rw [exec_barMax]; unfold execBarMax; exact through_swIf _ _ _ h
  case barAddi => rw [exec_barAddi]; unfold execBarAddi; exact through_swIf _ _ _ h
  case barAndi => rw [exec_barAndi]; unfold execBarAndi; exact through_swIf _ _ _ h
  case barOri => rw [exec_barOri]; unfold execBarOri; exact through_swIf _ _ _ h
  case barXori => rw [exec_barXori]; unfold execBarXori; exact through_swIf _ _ _ h
  case barLui => rw [exec_barLui]; unfold execBarLui; exact through_swIf _ _ _ h
  case barSlli => rw [exec_barSlli]; unfold execBarSlli; exact through_swIf _ _ _ h
  case barSrli => rw [exec_barSrli]; unfold execBarSrli; exact through_swIf _ _ _ h
  case barBeq => rw [exec_barBeq]; unfold execBarBeq; exact through_swIf _ _ _ h
  case barBne => rw [exec_barBne]; unfold execBarBne; exact through_swIf _ _ _ h
  case barBlt => rw [exec_barBlt]; unfold execBarBlt; exact through_swIf _ _ _ h
  case barBge => rw [exec_barBge]; unfold execBarBge; exact through_swIf _ _ _ h
  case barBltu => rw [exec_barBltu]; unfold execBarBltu; exact through_swIf _ _ _ h
  case barBgeu => rw [exec_barBgeu]; unfold execBarBgeu; exact through_swIf _ _ _ h
  case barJal => rw [exec_barJal]; unfold execBarJal; exact through_swIf _ _ _ h
  case barJr => rw [exec_barJr]; unfold execBarJr; exact through_swIf _ _ _ h
  case barLd => rw [exec_barLd]; unfold execBarLd; exact through_swIf _ _ _ h
  case barLw => rw [exec_barLw]; unfold execBarLw; exact through_swIf _ _ _ h
  case barSt => rw [exec_barSt]; unfold execBarSt; exact through_swIf _ _ _ h
  case barSw => rw [exec_barSw]; unfold execBarSw; exact through_swIf _ _ _ h
  case barDld => rw [exec_barDld]; unfold execBarDld; exact through_swIf _ _ _ h
  case barDst => rw [exec_barDst]; unfold execBarDst; exact through_swIf _ _ _ h
  case barFlush => rw [exec_barFlush]; unfold execBarFlush; exact through_swIf _ _ _ h
  case barCpy => rw [exec_barCpy]; unfold execBarCpy; exact through_swIf _ _ _ h
  case barCwait => rw [exec_barCwait]; unfold execBarCwait; exact through_swIf _ _ _ h
  case barVcvt => rw [exec_barVcvt]; unfold execBarVcvt; exact through_swIf _ _ _ h
  case barVacc => rw [exec_barVacc]; unfold execBarVacc; exact through_swIf _ _ _ h
  case barVfin => rw [exec_barVfin]; unfold execBarVfin; exact through_swIf _ _ _ h
  case barVqnt => rw [exec_barVqnt]; unfold execBarVqnt; exact through_swIf _ _ _ h
  case barVmrg => rw [exec_barVmrg]; unfold execBarVmrg; exact through_swIf _ _ _ h
  case barVspr => rw [exec_barVspr]; unfold execBarVspr; exact through_swIf _ _ _ h
  case barVmov => rw [exec_barVmov]; unfold execBarVmov; exact through_swIf _ _ _ h
  case barVwait => rw [exec_barVwait]; unfold execBarVwait; exact through_swIf _ _ _ h
  case barSwait => rw [exec_barSwait]; unfold execBarSwait; exact through_swIf _ _ _ h
  case barSall => rw [exec_barSall]; unfold execBarSall; exact through_swIf _ _ _ h
  case barSrel => rw [exec_barSrel]; unfold execBarSrel; exact through_swIf _ _ _ h
  case barScnt => rw [exec_barScnt]; unfold execBarScnt; exact through_swIf _ _ _ h
  case barRcast => rw [exec_barRcast]; unfold execBarRcast; exact through_swIf _ _ _ h
  case barRsend => rw [exec_barRsend]; unfold execBarRsend; exact through_swIf _ _ _ h
  case barRwait => rw [exec_barRwait]; unfold execBarRwait; exact through_swIf _ _ _ h
  case barPick => rw [exec_barPick]; unfold execBarPick; exact through_swIf _ _ _ h
  case barAbrt => rw [exec_barAbrt]; unfold execBarAbrt; exact through_swIf _ _ _ h
  case barEnd => rw [exec_barEnd]; unfold execBarEnd; exact through_swIf _ _ _ h
  case contextResume => rw [exec_contextResume]; unfold execContextResume; exact through_swIf _ _ _ h
  case watchdogFire => rw [exec_watchdogFire]; unfold execWatchdogFire; exact through_swIf _ _ _ h
  case progLoad => rw [exec_progLoad]; unfold execProgLoad; exact through_z _ _ _ _ _
  case progUnload => rw [exec_progUnload]; unfold execProgUnload; exact through_z _ _ _ _ _
  case progPieceTimeout => rw [exec_progPieceTimeout]; unfold execProgPieceTimeout; exact through_swIf _ _ _ h
  case peFailure => rw [exec_peFailure]; unfold execPeFailure; exact through_swIf _ _ _ h
  case dramStackFailure => rw [exec_dramStackFailure]; unfold execDramStackFailure; exact through_swIf _ _ _ h
  case fence => rw [exec_fence]; unfold execFence; unfold onZc; exact through_z _ _ _ _ _
  case takeover => rw [exec_takeover]; unfold execTakeover; unfold onZc; exact through_z _ _ _ _ _
  case membNotice => rw [exec_membNotice]; unfold execMembNotice; exact through_epIf _ _ _ h
  case unitTest => rw [exec_unitTest]; unfold execUnitTest; exact through_z _ _ _ _ _
  case unitTestDone => rw [exec_unitTestDone]; unfold execUnitTestDone; exact through_part _ _ _
  case ledgerClear => rw [exec_ledgerClear]; unfold execLedgerClear; unfold onZc; exact through_z _ _ _ _ _
  case ledgerRead => rw [exec_ledgerRead]; unfold execLedgerRead; unfold onZc; exact through_z _ _ _ _ _
  case fwStageBegin => rw [exec_fwStageBegin]; unfold execFwStageBegin; unfold onZc; exact through_z _ _ _ _ _
  case fwStageData => rw [exec_fwStageData]; unfold execFwStageData; unfold onZc; exact through_z _ _ _ _ _
  case fwStageEnd => rw [exec_fwStageEnd]; unfold execFwStageEnd; unfold onZc; exact through_z _ _ _ _ _
  case fwActivate => rw [exec_fwActivate]; unfold execFwActivate; unfold onZc; exact through_z _ _ _ _ _
  case fwActivationPick => rw [exec_fwActivationPick]; unfold execFwActivationPick; exact through_part _ _ _
  case fwRestartDone => rw [exec_fwRestartDone]; unfold execFwRestartDone; exact through_part _ _ _
  case fwTrialEnd => rw [exec_fwTrialEnd]; unfold execFwTrialEnd; exact through_part _ _ _
  case guyLinkChange => exact absurd r (by simp [reachesHeld])
  case flashEraseComplete => rw [exec_flashEraseComplete]; unfold execFlashEraseComplete; exact through_part _ _ _
  case sensorSample => rw [exec_sensorSample]; unfold execSensorSample; exact through_both _ _ _ _
  case rampAlarmEnd => rw [exec_rampAlarmEnd]; unfold execRampAlarmEnd; exact through_part _ _ _
  case flashInhibitEnd => rw [exec_flashInhibitEnd]; unfold execFlashInhibitEnd; exact through_part _ _ _
  case powerCap => rw [exec_powerCap]; unfold execPowerCap; unfold onZc; exact through_z _ _ _ _ _
  case leaseExpired => rw [exec_leaseExpired]; unfold execLeaseExpired; exact through_part _ _ _
  case thermalAlert => rw [exec_thermalAlert]; unfold execThermalAlert; unfold onZc; exact through_z _ _ _ _ _
  case powerAlertAssert => exact absurd r (by simp [reachesHeld])
  case powerAlertDeassert => exact absurd r (by simp [reachesHeld])
  case alertHoldExpired => rw [exec_alertHoldExpired]; unfold execAlertHoldExpired; exact through_part _ _ _
  case bivouac => rw [exec_bivouac]; unfold execBivouac; exact through_z _ _ _ _ _
  case bivouacEntry => rw [exec_bivouacEntry]; unfold execBivouacEntry; exact through_both _ _ _ _
  case wake => rw [exec_wake]; unfold execWake; unfold onZc; exact through_z _ _ _ _ _
  case wakeComplete => rw [exec_wakeComplete]; unfold execWakeComplete; exact through_both _ _ _ _
  case resetAssert => exact absurd r (by simp [reachesHeld])
  case resetRelease => exact absurd r (by simp [reachesHeld])
  case secureBootDone => rw [exec_secureBootDone]; unfold execSecureBootDone; exact through_part _ _ _
  case railFault => rw [exec_railFault]; unfold execRailFault; exact through_both _ _ _ _
  case suddenPowerLoss => exact absurd r (by simp [reachesHeld])
  case pitchScrubDone => rw [exec_pitchScrubDone]; unfold execPitchScrubDone; exact through_swIf _ _ _ h
  case epScrubDone => rw [exec_epScrubDone]; unfold execEpScrubDone; exact through_ep _ _
  case resourceScrubDone => rw [exec_resourceScrubDone]; unfold execResourceScrubDone; exact through_swIf _ _ _ h
  case debugUnlock => rw [exec_debugUnlock]; unfold execDebugUnlock; exact through_both _ _ _ _
  case ownerEnrol => rw [exec_ownerEnrol]; unfold execOwnerEnrol; unfold onZc; exact through_z _ _ _ _ _
  case ownerRelease => rw [exec_ownerRelease]; unfold execOwnerRelease; unfold onZc; exact through_z _ _ _ _ _
  case pitchEnrol => rw [exec_pitchEnrol]; unfold execPitchEnrol; unfold onZc; exact through_z _ _ _ _ _
  case pitchKeySet => rw [exec_pitchKeySet]; unfold execPitchKeySet; unfold onZc; exact through_z _ _ _ _ _
  case spdmMsg => rw [exec_spdmMsg]; unfold execSpdmMsg; exact through_both _ _ _ _
  case getVersion => rw [exec_getVersion]; unfold execGetVersion; unfold onSpdm; exact through_part _ _ _
  case getCapabilities => rw [exec_getCapabilities]; unfold execGetCapabilities; unfold onSpdm; exact through_part _ _ _
  case negotiateAlgorithms => rw [exec_negotiateAlgorithms]; unfold execNegotiateAlgorithms; unfold onSpdm; exact through_part _ _ _
  case getDigests => rw [exec_getDigests]; unfold execGetDigests; unfold onSpdm; exact through_part _ _ _
  case getCertificate => rw [exec_getCertificate]; unfold execGetCertificate; unfold onSpdm; exact through_part _ _ _
  case challenge => rw [exec_challenge]; unfold execChallenge; unfold onSpdm; exact through_part _ _ _
  case getMeasurements => rw [exec_getMeasurements]; exact through_measure _ _
  case keyExchange => rw [exec_keyExchange]; unfold execKeyExchange; unfold onSpdm; exact through_part _ _ _
  case finish => rw [exec_finish]; unfold execFinish; unfold onSpdm; exact through_part _ _ _
  case heartbeat => rw [exec_heartbeat]; unfold execHeartbeat; unfold onSpdm; exact through_part _ _ _
  case keyUpdate => rw [exec_keyUpdate]; unfold execKeyUpdate; unfold onSpdm; exact through_part _ _ _
  case endSession => rw [exec_endSession]; unfold execEndSession; unfold onSpdm; exact through_part _ _ _
  case identify => rw [exec_identify]; unfold execIdentify; exact through_z _ _ _ _ _
  case regRead => rw [exec_regRead]; unfold execRegRead; exact through_z _ _ _ _ _
  case regWriteCmd => rw [exec_regWriteCmd]; unfold execRegWriteCmd; exact through_z _ _ _ _ _
  case echo => rw [exec_echo]; unfold execEcho; unfold onZc; exact through_z _ _ _ _ _
  case relay => rw [exec_relay]; unfold execRelay; exact through_z _ _ _ _ _
  case relayReply => rw [exec_relayReply]; unfold execRelayReply; exact through_part _ _ _
  case relayTimeout => rw [exec_relayTimeout]; unfold execRelayTimeout; exact through_part _ _ _
  case stageWrite => rw [exec_stageWrite]; unfold execStageWrite; unfold onZc; exact through_z _ _ _ _ _
  case check => rw [exec_check]; unfold execCheck; exact through_z _ _ _ _ _
  case commitAt => rw [exec_commitAt]; unfold execCommitAt; exact through_z _ _ _ _ _
  case cancel => rw [exec_cancel]; unfold execCancel; unfold onZc; exact through_z _ _ _ _ _
  case stageStatus => rw [exec_stageStatus]; unfold execStageStatus; unfold onZc; exact through_z _ _ _ _ _
  case portRaise => rw [exec_portRaise]; unfold execPortRaise; unfold onZc; exact through_z _ _ _ _ _
  case portStrike => rw [exec_portStrike]; unfold execPortStrike; unfold onZc; exact through_z _ _ _ _ _
  case collAbort => rw [exec_collAbort]; unfold execCollAbort; exact through_z _ _ _ _ _
  case collStatus => rw [exec_collStatus]; unfold execCollStatus; exact through_z _ _ _ _ _
  case xltCmd => rw [exec_xltCmd]; unfold execXltCmd; exact through_z _ _ _ _ _
  case tagRecordExpired => rw [exec_tagRecordExpired]; unfold execTagRecordExpired; exact through_part _ _ _
  case i3cPrivateRead => rw [exec_i3cPrivateRead]; unfold execI3cPrivateRead; exact through_part _ _ _
  case entdaa => rw [exec_entdaa]; unfold execEntdaa; exact through_part _ _ _
  case arpRequest => rw [exec_arpRequest]; unfold execArpRequest; exact through_part _ _ _
  case neighbourSolicit => rw [exec_neighbourSolicit]; unfold execNeighbourSolicit; exact through_part _ _ _
  case zhevselerPacketRejected => rw [exec_zhevselerPacketRejected]; unfold execZhevselerPacketRejected; exact through_part _ _ _
  case reservedOpcodePacket => rw [exec_reservedOpcodePacket]; unfold execReservedOpcodePacket; exact through_epIf _ _ _ h

/-- What a command through its part answers where the part works. -/
theorem through_next (s : State) (part : Part) (o : Host.Outcome State Fault Refusal) (h : Through s part o) :
    ∃ t, o = .next t ∧ t.pending = s.pending ∧ s.otherSame t part := by
  cases part with
  | sw =>
    obtain ⟨f, rfl⟩ := h
    simp only [State.otherSame]
    exact onSw_total s f
  | ep =>
    obtain ⟨f, rfl⟩ := h
    simp only [State.otherSame]
    exact onEp_total s f

/-- A held part does nothing. -/
theorem through_held (s : State) (part : Part) (o : Host.Outcome State Fault Refusal) (h : Through s part o) (k : s.heldPart part = true) : o = .next s := by
  cases part with
  | sw =>
    obtain ⟨f, rfl⟩ := h
    have k : s.sw.c.held = true := k
    simp only [onSw, k, if_true]
  | ep =>
    obtain ⟨f, rfl⟩ := h
    have k : s.ep.c.held = true := k
    simp only [onEp, k, if_true]

/-! ### The next state of a command whose part works -/

/-- An end-point follows on only where its marked ports change. -/
theorem refollow_same (c : Common) : c.refollow c = c := by simp [Common.refollow]

/-- A change that leaves the ports alone leaves the reference port alone. -/
theorem refollow_ports (c b : Common) (h : c.ports = b.ports) : c.refollow b = c := by
  have : c.markerPorts = b.markerPorts := by simp [Common.markerPorts, Common.port, h]
  simp [Common.refollow, this]

/-- A command on what both parts hold, when its part works. -/
theorem onPart_after (s : State) (part : Part) (f : Common → Common) (h : s.heldPart part = false) : onPart part s f = .next (s.after part (f (s.common part))) := by
  cases part with
  | sw => simp only [onPart]; rw [onSw_next _ _ h]; rfl
  | ep => simp only [onPart]; rw [onEp_next _ _ h]; rfl

/-- A command on the switch, when it works. -/
theorem onSw_after (s : State) (f : SwState → SwState) (h : s.heldPart .sw = false) : onSw s f = .next (s.afterSw (f s.sw)) := onSw_next _ _ h

/-- A command on the end-point, when it works. -/
theorem onEp_after (s : State) (f : EpState → EpState) (h : s.heldPart .ep = false) : onEp s f = .next (s.afterEp (f s.ep)) := onEp_next _ _ h

/-- A command that names a port which the part has. -/
theorem onPort_after (s : State) (part : Part) (n : Nat) (f : Common → Common) (h : s.heldPart part = false) (k : n < portCount part) : onPort part n s f = .next (s.after part (f (s.common part))) := by
  simp only [onPort, k, if_true]; exact onPart_after s part f h

/-- A command that names a comb which the part has. -/
theorem onComb_after (s : State) (part : Part) (n : Nat) (f : Common → Common) (h : s.heldPart part = false) (k : n < combCount part) : onComb part n s f = .next (s.after part (f (s.common part))) := by
  simp only [onComb, k, if_true]; exact onPart_after s part f h

/-- A command that names units which the switch has. -/
theorem onSwIf_after (s : State) (ok : Bool) (f : SwState → SwState) (h : s.heldPart .sw = false) (k : ok = true) : onSwIf ok s f = .next (s.afterSw (f s.sw)) := by
  subst k; exact onSw_after s f h

/-- A command that names units which the end-point has. -/
theorem onEpIf_after (s : State) (ok : Bool) (f : EpState → EpState) (h : s.heldPart .ep = false) (k : ok = true) : onEpIf ok s f = .next (s.afterEp (f s.ep)) := by
  subst k; exact onEp_after s f h

/-- Nothing has changed in the switch. -/
theorem after_sw_same (s : State) : s.after .sw s.sw.c = s.afterSw s.sw := rfl

/-- Nothing has changed in the end-point. -/
theorem after_ep_same (s : State) : s.after .ep s.ep.c = s.afterEp s.ep := by simp only [State.after, refollow_same]

end Sys2Proof.Machine
end

