-- ==== Sys2Proof/Laws/Accept.lean ====
section
/-!
SUPPORT. What Safety's words say of the shared operations: a port that a part has, a packet that an end-point takes whole, a Zhevseler command that a part accepts.
-/

namespace Sys2Proof.Machine

/-- A part that works has the port. -/
theorem State.hasPort_iff (s : State) (part : Part) (n : Nat) : s.hasPort part n = true ↔ s.heldPart part = false ∧ n < portCount part := by
  simp [State.hasPort]

/-- Two changes of one port are one. -/
@[simp] theorem Common.modPort_modPort (c : Common) (n : Nat) (f g : Port → Port) : (c.modPort n f).modPort n g = c.modPort n (fun p => g (f p)) := by
  simp only [Common.modPort, Tab.upd, Tab.get_put_same, Tab.put_put]

/-- A sealed packet passes its CRC check. -/
theorem Packet.crcOk_seal (p : Packet) : p.seal.crcOk = true := by
  have h : p.seal.goodCrc = p.goodCrc := rfl
  simp only [Packet.crcOk, h, beq_iff_eq]
  rfl

/-- What a packet that reaches the end-point whole has passed. -/
theorem EpState.brings_iff (e : EpState) (k : Nat) (p q : Packet) :
    e.brings k p q = true ↔ e.portOpen k p.vc = true ∧ p.crcOk = true ∧ (e.takeIn k p).opened k p = some q := by
  simp [EpState.brings, and_assoc]

/-- A packet that arrives whole is acted on as it opens. -/
theorem EpState.arrive_brings (e : EpState) (k : Nat) (p q : Packet) (go : EpState → Packet → EpState) (h : e.brings k p q = true) :
    e.arrive k p go = go (e.takeIn k p) q := by
  obtain ⟨a, b, c⟩ := (e.brings_iff k p q).mp h
  simp [EpState.arrive, a, b, c]

/-- A part that accepts a command works. -/
theorem State.accepts_held (s : State) (op : Nat) (z : ZPacket) (h : s.accepts op z = true) : s.heldPart z.part = false := by
  simp only [State.accepts, Bool.and_eq_true, Bool.not_eq_true'] at h
  exact h.1

/-- An accepted command acts on what both parts hold once its checks are over. -/
theorem onZ_accepted (op : Nat) (z : ZPacket) (s : State) (f : SwState → SwState) (g : EpState → EpState) (h : s.accepts op z = true) :
    onZ op z s f g = .next (match z.part with
      | .sw => s.afterSw (f { s.sw with c := s.gated op z })
      | .ep => s.afterEp (g { s.ep with c := s.gated op z })) := by
  have k := s.accepts_held op z h
  simp only [State.accepts, Bool.and_eq_true] at h
  obtain ⟨-, h⟩ := h
  unfold onZ
  cases e : z.part <;> rw [e] at h k <;> simp only [State.common] at h
  · rw [onSw_after s _ k]
    simp [SwState.zRun, State.gated, State.common, e, h]
  · rw [onEp_after s _ k]
    simp [EpState.zRun, State.gated, State.common, e, h]

/-- The same of a command whose effect lies in what both parts hold. -/
theorem onZc_accepted (op : Nat) (z : ZPacket) (s : State) (f : Common → Common) (h : s.accepts op z = true) :
    onZc op z s f = .next (s.afterZ z (f (s.gated op z))) := by
  unfold onZc
  rw [onZ_accepted op z s _ _ h]
  unfold State.afterZ
  cases z.part <;> rfl

end Sys2Proof.Machine
end

