-- ==== Sys2Proof/Tests/Slice0.lean ====
section
/-!
SUPPORT. Tests: ill-formed commands that each check of well-formedness refuses; a witness for every statement that has hypotheses, clause by clause, at bounds where a clause names one; single commands against the spec's worked examples.
-/

namespace Sys2Proof.Tests

-- One theorem after the other: kernel evaluations side by side would each hold a thread and its stack.
set_option Elab.async false
open Sys2Proof.Machine

/-- What both parts hold in the tests: AWAKE, guy line A up, a manager's session 1, a session 2 without a role, a tenant's session 3 of pitch 1. -/
def tc (part : Part) : Common :=
  { part := part, biv := { st := .awake, booted := true }, mgmt := { lineA := true },
    sec := { sessions := [(1, { role := .manager, established := true }), (2, { role := .session, established := true, chain := [1] }), (3, { role := .tenant 1, established := true })] } }

/-- Both parts work, and nothing is under way. -/
def st : State := { sw := { c := tc .sw }, ep := { c := tc .ep } }

/-- The same with what one part holds changed. -/
def on (part : Part) (f : Common → Common) : State := st.modPart part f

/-- The same with one port. -/
def pt (part : Part) (n : Nat) (p : Port) : State := on part (fun c => { c with ports := [(n, p)] })

/-- A command with a payload, in a manager's session. -/
def cmd (part : Part) (payload : List Byte) (kind : Nat := 0) (index : Nat := 0) (session : Option Nat := some 1) : ZPacket :=
  { part := part, session := session, length := payload.length / 4, size := 16 + payload.length, tag := 7, kind := kind, index := index, payload := payload }

/-- A raised port in its initial lanes. -/
def up : Port := { t := { st := .raised, roles := defaultRoles }, op := { ostate := .lit } }

/-- A part with registers set. -/
def regs (part : Part) (l : List (Nat × Reg)) : State := on part (fun c => { c with rf := { c.rf with cur := l } })

/-- The cells of an `ATOMIC` add on i32 in a scope. -/
def addTo (scope : Nat) : List Byte := beBytes (1 * 2 ^ 120 + scope * 2 ^ 114) 16 ++ List.replicate 48 0

theorem seal_crcOk (p : Packet) : p.seal.crcOk = true := by
  have h : p.seal.goodCrc = p.goodCrc := rfl
  simp [Packet.crcOk, h]; rfl

theorem brings_seal (e : EpState) (k : Nat) (p : Packet) (ho : e.portOpen k p.seal.vc = true) (hn : p.seal.flags.encrypted = false) : e.brings k p.seal p.seal = true := by
  simp [EpState.brings, EpState.opened, ho, hn, seal_crcOk]

/-! ### Witnesses: the machine and its registers -/

theorem witness_EmptyQueueIdles : st.pending = [] := rfl

theorem witness_EveryCommandCompletes : unitsExist (.probePulse .sw 287) = true ∧ unitsExist (.probePulse .sw 288) = false ∧ unitsExist (.probePulse .ep 7) = true ∧ unitsExist (.probePulse .ep 8) = false := by decide +kernel

theorem witness_HeldPartDoesNothing :
    unitsExist (.probePulse .sw 0) = true ∧ reachesHeld (.probePulse .sw 0) = false ∧ (on .sw (fun c => { c with biv := { c.biv with inReset := true } })).heldPart (partOf (.probePulse .sw 0)) = true := by
  decide +kernel

theorem witness_NothingFollowsInAReadyPart : st.ready .sw = true ∧ st.ready .ep = true ∧ (st.common .ep).mgmt.outbox = [] ∧ (st.common .ep).reissuesFree = true ∧ ∀ n, ((st.common .ep).port n).inService = true → ((st.common .ep).port n).inService = true :=
  ⟨by decide +kernel, by decide +kernel, rfl, by decide +kernel, fun _ h => h⟩

theorem witness_EveryStepSendsItsReplies : st.inv = true ∧ step st = .next st := ⟨by decide +kernel, rfl⟩

theorem witness_PacketsSurviveTheirCells : (∃ p : Packet, p.wf = true ∧ p.data.length = 16 * dataCells p.op p.len ∧ p.auth.isSome = p.flags.encrypted) :=
  ⟨{ op := 0x11 }, by decide +kernel⟩

theorem witness_WritesFollowTheirViews :
    (decodeAddr .ep 0xE0030 = .reg 0xE0030 .normal ∧ (regAt .ep 0xE0030).any (fun r => st.writable .ep r.1 0xE0030 .normal) = true) ∧
    (decodeAddr .sw 0x1070 = .hole) := by
  decide +kernel

theorem witness_WritesThroughEachView :
    (List.range 4).map (fun k => decodeAddr .ep (0xE0030 + 0x400 * k)) = [.reg 0xE0030 .normal, .reg 0xE0030 .setBits, .reg 0xE0030 .clearBits, .reg 0xE0030 .toggle] ∧
    [View.normal, .setBits, .clearBits, .toggle].all (fun v => (regAt .ep 0xE0030).any (fun r => st.writable .ep r.1 0xE0030 v)) = true := by
  decide +kernel

theorem witness_EventsClearOnTheirSequence :
    Tab.get (tc .sw).rf.seqs 0 0x20008 < 65536 ∧ decodeAddr .sw 0x20008 = .reg 0x20008 .normal ∧ decodeAddr .sw 0x20408 = .reg 0x20008 .setBits ∧
    (regAt .sw 0x20008).any (fun r => r.1.staged == .never && r.1.re) = true ∧ fld (((tc .sw).event 0x20008 0xFFFF).rd 0x20008) 31 16 = 1 := by
  decide +kernel

theorem witness_SlowWritesArePosted :
    (decodeAddr .sw 0x300050 = .reg 0x300050 .normal ∧ (regAt .sw 0x300050).any (fun r => r.1.staged == .never && !r.1.re && r.1.wp != 0) = true ∧ (tc .sw).combLocks 0x300050 = false) ∧
    (decodeAddr .sw 0x10048 = .reg 0x10048 .normal ∧ (regAt .sw 0x10048).any (fun r => r.1.staged == .admitted) = true ∧ (on .sw (fun c => { c with admitted := true })).sw.c.admitted = true) ∧
    ((on .sw (fun c => { c with rf := { c.rf with posted := [{ block := 3, addr := 0x300050, value := 1 }] } })).common .sw).rf.posted.find? (fun w => w.block == 3) = some { block := 3, addr := 0x300050, value := 1 } ∧
    (decodeAddr .sw 0x10000 = .reg 0x10000 .normal ∧ hiOf .sw 0x10000 = some 0x10004) ∧ (decodeAddr .sw 0x10004 = .reg 0x10004 .normal ∧ hiOf .sw 0x10004 = none) ∧
    (decodeAddr .ep 0x8000C = .reg 0x8000C .normal ∧ flag ((regs .ep [(0x80000, 1)]).ep.c.rd 0x80000) 0 = true) ∧
    ((regAt .sw 0x0).any (fun r => !r.1.re && r.1.rw == 0 && r.1.wp == 0 && r.1.wo == 0) = true ∧ isHeatMark .sw 0x0 = false) ∧ combCtrlOf .sw 0x300050 = none ∧ combCtrlOf .sw (combA .sw 0 0 + 4) = some 0 := by
  decide +kernel

theorem witness_CountsAndMarksClear :
    bit 1 0 = true ∧ (regAt .sw 0x24).any (fun r => r.1.sat.any (fun x => decide (x.2 ≤ x.1) && decide (x.1 < 32) && fld (resetOf .sw 0x24) x.1 x.2 == 0)) = true ∧ 287 < portCount .sw ∧ 7 < portCount .ep := by
  decide +kernel

theorem witness_BoundaryOpensTheNextPick : st.heldPart .sw = false ∧ st.heldPart .ep = false ∧ ({ part := .ep, lhaRetries := 70000 } : BoundaryIn).part = .ep := by decide +kernel

/-- A switch whose timebase stands so: state, pick, and on input A the position, the bits collected and the last edge. -/
def timed (state : TimeState) (pick : Nat) (k : Option Nat) (acc : Nat) (l : Option Int) : State :=
  on .sw (fun c => { c with time := { c.time with st := state, pick := pick, inA := { c.time.inA with pos := k, acc := acc, lastEdge := l } } })

theorem witness_FramesLockTheTimebase :
    (let s := timed .acquiring 5 none 0 (some 4800)
     s.heldPart .sw = false ∧ s.sw.c.time.st = .acquiring ∧ (s.sw.c.time.inp .a).lastEdge = some 4800 ∧ (((5 + 1 : Nat) : Int) * 1000 + (-100) - 4800 - 1000).natAbs = 100 ∧ (s.sw.c.time.inp .a).pos = none) ∧
    ((timed .acquiring 5 (some 71) 5 none).sw.c.time.inp .a).lastEdge = none ∧ ((timed .acquiring 5 (some 71) 5 none).sw.c.time.inp .a).pos = some 71 ∧
    (let s := timed .acquiring 9 (some 72) ((256 * 1000 + crc8 1000) / 2) none
     (s.sw.c.time.inp .a).pos = some 72 ∧ (s.sw.c.time.inp .a).bad = false ∧ 2 * (s.sw.c.time.inp .a).acc + (crc8 1000) % 2 = 256 * 1000 + crc8 1000 ∧ crc8 1000 < 256) ∧
    (let s := timed .locked 5 none 0 (some 4000)
     s.sw.c.time.st = .locked ∧ (s.sw.c.time.inp .a).lastEdge = some 4000 ∧ (((5 : Nat) : Int) * 1000 + 20 - 4000 - 1000).natAbs ≤ 100 ∧ (s.sw.c.time.inp .a).pos = none) ∧
    (let s := timed .holdover 5 none 0 none
     (s.common .sw).time.st = .holdover ∧ (s.common .sw).time.mismatch = false) ∧
    ((timed .locked 5 none 0 none).common .sw).time.st ≠ .holdover ∧ ((on .ep (fun c => { c with time := { c.time with st := .holdover, mismatch := true } })).common .ep).time.mismatch = true := by
  decide +kernel

/-- A port at stage 11 with 15 equal round trips. -/
def tripped (v : Int) : Port := { t := { st := .raising, stage := 11 }, mark := { rtts := List.replicate 15 v } }

theorem witness_MarkersAreMeasured :
    (st.heldPart .sw = false ∧ ((tc .sw).port 287).t.st = .struck ∧ (∀ w ∈ ([(40, 7)] : List (Nat × Nat)), w.2 + 1 ≠ w.1 ∧ w.2 ≠ w.1 + 1) ∧ ((pt .sw 0 up).sw.c.port 0).t.st = .raised) ∧
    (let trips := fun (v : Int) => List.take 16 (v :: (tripped v).mark.rtts)
     (tripped 900).t.st = .raising ∧ (tripped 900).t.stage = 11 ∧ rttSettled (trips 900) = true ∧ rttDelay (trips 900) ≤ reachMax .sw 3 ∧ rttSettled (trips 1900000) = true ∧ reachMax .sw 3 < rttDelay (trips 1900000) ∧
     selvedge .sw 287 = true ∧ (timed .locked 5 none 0 none).sw.c.time.st ≠ .acquiring) := by
  decide +kernel

/-- A set scheduled for a pick. -/
def setAt (part : Part) (p : Nat) : State := on part (fun c => { c with stage := { c.stage with sets := [(7, { st := .scheduled, pick := p, entries := [{ addr := 0x20004, value := 1, mask := 1 }] })] } })

theorem witness_ScheduledChangesCommit :
    ((setAt .sw 0).sw.commitMembs.c.setDue 7 = true ∧ (setAt .sw 1).sw.commitMembs.c.setDue 7 = false ∧ (setAt .ep 0).ep.c.setDue 7 = true ∧ (setAt .ep 1).ep.c.setDue 7 = false) ∧
    ((regAt .sw 0x20004).any (fun r => r.1.wp == 0) = true ∧ (regAt .ep 0xE0030).any (fun r => r.1.wp == 0) = true) ∧
    (let at_ := fun (m : MembChange) => on .sw (fun c => { c with stage := { c.stage with memb := [m] } })
     let f : MembChange := { pick := 0, epoch := 5, fenced := 2 ^ 255 }
     let m : MembChange := { pick := 0, epoch := 5, fenced := 0, move := some (255, 255, 15) }
     (at_ f).heldPart .sw = false ∧ (at_ f).sw.c.stage.memb = [f] ∧ f.pick ≤ (at_ f).sw.c.time.pick ∧ (at_ m).sw.c.stage.memb = [m] ∧ (at_ m).heldPart .sw = false ∧
     (∀ x ∈ (at_ { f with pick := 1 }).sw.c.stage.memb, (at_ { f with pick := 1 }).sw.c.time.pick < x.pick)) ∧ st.heldPart .ep = false := by
  decide +kernel

/-- An end-point whose flow 2047 holds one packet under a budget, in a pick. -/
def flow (pick budget : Nat) : State :=
  { st with ep := { st.ep with c := { st.ep.c with time := { st.ep.c.time with pick := pick }, rf := { st.ep.c.rf with cur := [(flowA 2047, 1)] } }, src := { st.ep.src with flows := [(2047, { wait := [({ op := 2 }, none)], budget := budget })] } } }

theorem witness_StakedPacketsArePaced :
    let w : Packet × Option Nat := ({ op := 2 }, none)
    (flow 1 64).heldPart .ep = false ∧ (Tab.get (flow 1 64).ep.dropFlows.src.flows {} 2047).wait = [w] ∧ quiet (flow 1 64).ep.dropFlows.c.pick = false ∧
      ({ op := 2 } : Packet).cellCount + b2n ((flow 1 64).ep.dropFlows.mustEncrypt { op := 2 }) ≤ (Tab.get (flow 1 64).ep.dropFlows.src.flows {} 2047).budget ∧
      quiet (flow 1024 64).ep.dropFlows.c.pick = true ∧ (Tab.get (flow 1 0).ep.dropFlows.src.flows {} 2047).budget < ({ op := 2 } : Packet).cellCount ∧ (Tab.get st.ep.dropFlows.src.flows {} 2047).wait = [] := by
  decide +kernel

/-- A packet that waits in a queue of port 7. -/
def waitsIn (q : Nat) (flow : Option Nat) (loose : Nat) : State := pt .ep 7 { eg := { q := [(q, [{ pkt := { op := 2 }, at_ := 0, released := false, flow := flow }])], looseElig := loose } }

theorem witness_WheelReleases :
    ((waitsIn 1 (some 5) 0).ep.c.port 7).eg.queue 1 = [{ pkt := { op := 2 }, at_ := 0, released := false, flow := some 5 }] ∧
    ((List.range 8).all (fun k => (List.range 11).all (fun q => ((waitsIn 1 (some 5) 0).ep.c.port k).eg.queue q |>.all (fun x => x.released || x.reissue || (k == 7 && q == 1))))) = true ∧
    (Tab.get (waitsIn 1 (some 5) 0).ep.src.flows {} 5).elig ≤ 0 * 65536 + 1023 % 64 * 1024 + 1023 := by
  decide +kernel

theorem witness_WheelReleasesLoose :
    ((waitsIn 3 none 0).ep.c.port 7).eg.queue 3 = [{ pkt := { op := 2 }, at_ := 0, released := false }] ∧ (waitsIn 3 none 0).ep.looseFlow 7 { op := 2 } = none ∧
    ((waitsIn 3 none 0).ep.c.port 7).eg.looseElig ≤ 0 * 65536 + 0 % 64 * 1024 + 1023 ∧ 0 * 65536 + 0 % 64 * 1024 + 1023 < ((waitsIn 3 none 2048).ep.c.port 7).eg.looseElig := by
  decide +kernel

/-! ### Witnesses: ports and light -/

/-- A raising port at a stage. -/
def raising (stage : Nat) : Port := { t := { st := .raising, stage := stage } }

/-- A raised port whose flit layer stands so. -/
def flits (f : FlitLayer) : Port := { up with fl := f }

/-- One flit held for replay. -/
def heldFlit : List HeldFlit := [{ flit := {} }]

theorem witness_FlitsLeaveInOrder :
    ((pt .sw 287 {}).hasPort .sw 287 = true ∧ ((pt .sw 287 {}).sw.c.port 287).flitsRun = false) ∧
    ((pt .ep 7 up).hasPort .ep 7 = true ∧ up.flitsRun = true ∧ up.fl.slots < up.slotLimit 0 ∧ up.slotLimit 0 ≤ (flits { slots := up.slotLimit 0 }).fl.slots) ∧
    (let p := flits { replay := [{ flit := {} }, { flit := { fseq := 1 } }], replaying := 2 }
     0 < p.fl.replaying ∧ p.fl.replay[p.fl.replay.length - p.fl.replaying]? = some { flit := {} } ∧ p.flitsRun = true) ∧
    (let p := flits { ctrlOut := [.ident {}], txNext := 4095 }
     p.fl.replaying = 0 ∧ ((pt .sw 0 p).common .sw).noNew 0 = false ∧ p.fl.ctrlOut = [.ident {}]) ∧
    (let p := flits { txCells := List.replicate 15 1 }
     ((pt .sw 0 p).common .sw).noNew 0 = false ∧ p.fl.ctrlOut = [] ∧ 15 ≤ p.fl.txCells.length ∧ (flits { txCells := [1] }).fl.txCells.length < 15 ∧
     (((pt .sw 0 (flits { txCells := [1] })).common .sw).fill 0 0 [] 64).1 ≠ []) ∧
    ((pt .sw 0 { up with t := { up.t with drainSent := true } }).sw.c.noNew 0 = true ∧ (raising 7).flitsRun = true ∧ (raising 7).fl.ctrlOut = [] ∧ (raising 7).t.st ≠ .standby ∧ (raising 7).t.st ≠ .raised ∧
      (((pt .sw 0 up).common .sw).fill 0 0 [] 64).1 = []) := by
  decide +kernel

/-- A flit with a cell of a wrong version. -/
def verFlit : Flit := Flit.seal { ftype := .data, fseq := 0, cells := [0x3 <<< 124] }

theorem witness_FlitsAreAcceptedInSequence :
    up.calm = true ∧ (pt .sw 287 up).hasPort .sw 287 = true ∧
    (({ crc := 1 } : Flit).crcOk = false ∧ (flits { nakAt := some 0, nakSent := true }).calm = true ∧ (flits { nakAt := some 0, nakSent := true }).fl.nakAt = some up.fl.rxNext ∧ ({ crc := 1 } : Flit).fseq = up.fl.rxNext) ∧
    (let f : Flit := Flit.seal { ftype := .data, fseq := 0 }
     f.crcOk = true ∧ f.ftype = .data ∧ f.nak = false ∧ f.fseq = up.fl.rxNext ∧ (parseCells ((f.cells ++ List.replicate (15 - f.cells.length) 0).take 15) up.fl.rxCells []).2.2 = 0) ∧
    (verFlit.crcOk = true ∧ (parseCells ((verFlit.cells ++ List.replicate (15 - verFlit.cells.length) 0).take 15) [] []).2.2 ≠ 0 ∧ up.fl.verAt ≠ some up.fl.rxNext ∧ (flits { verAt := some 0 }).fl.verAt = some (flits { verAt := some 0 }).fl.rxNext) ∧
    (let f : Flit := Flit.seal { ftype := .data, fseq := 4095, nak := true }
     f.crcOk = true ∧ f.nak = true ∧ f.fseq ≠ up.fl.rxNext) ∧
    ((Flit.seal { ftype := .ctrl }).crcOk = true ∧ (Flit.seal { ftype := .ctrl }).fseq = up.fl.rxNext ∧ (Flit.seal { ftype := .idle }).ftype = .idle ∧ (Flit.seal { ftype := .reserved 7 }).ftype = .reserved 7) := by
  decide +kernel

theorem witness_StagesGoOnOrFail :
    ((pt .sw 0 (raising 5)).hasPort .sw 0 = true ∧ (raising 5).t.resume = false ∧ (tc .sw).fw.restart = false ∧ (on .sw (fun c => { c with fw := { c.fw with restart := true } })).sw.c.fw.restart = true) ∧
    ((raising 2).t.stage < 3 ∧ 6 < (raising 7).t.stage ∧ up.t.st ≠ .raising ∧ up.t.st ≠ .paused) ∧
    (flag ((pt .sw 0 (raising 3)).sw.c.rd (pePortA .sw 0 0x058)) 0 ≠ ({ commonRef := true } : TrainingSet).commonRef ∧ flag ((pt .sw 0 (raising 3)).sw.c.rd (pePortA .sw 0 0x058)) 0 = ({ stage := 3 } : TrainingSet).commonRef ∧
      flag ((pt .sw 0 (raising 3)).sw.c.rd (pePortA .sw 0 0x058)) 1 = ({ stage := 3 } : TrainingSet).spread) ∧
    (({ stage := 6, exitMet := true } : TrainingSet).stage = (raising 6).t.stage ∧ (raising 4).t.stage = 4) ∧
    (let p : Port := { t := { st := .paused, resume := true, stage := 6 } }
     p.t.st = .paused ∧ p.t.resume = true ∧ ({ stage := 6, exitMet := true } : TrainingSet).stage = p.t.stage) ∧
    (1 ≤ (raising 1).t.stage ∧ (raising 11).t.stage ≤ 11 ∧ 11 < (raising 12).t.stage ∧ (raising 0).t.stage = 0) ∧
    (({ lverMax := 0 } : Caps).lverMax = 0 ∧ ({ lverMax := 1 } : Caps).lverMax ≠ 0 ∧ (raising 7).t.stage = 7 ∧ (raising 8).t.stage ≠ 7) := by
  decide +kernel

theorem witness_FarEndIsCheckedAndAdmitted :
    ((pt .sw 287 (raising 8)).hasPort .sw 287 = true ∧ (raising 8).t.st = .raising ∧ (raising 8).t.resume = false ∧ up.t.st ≠ .raising) ∧
    (let p : Port := { t := { st := .paused, resume := true } }
     p.t.st = .paused ∧ p.t.resume = true ∧ p.far.bound ≠ some {}) ∧
    ((raising 7).ctrlAcked = true ∧ (raising 8).ctrlAcked = true ∧ (raising 10).ctrlAcked = true ∧ ({ raising 7 with fl := { ctrlOut := [.ident {}] } } : Port).ctrlAcked = false ∧ (raising 6).t.stage ≠ 7) ∧
    ((raising 9).t.stage = 9 ∧ (1 : Nat) ≠ 0 ∧ (2 : Nat) ≠ 0 ∧ ({ t := { st := .quarantined } } : Port).t.st = .quarantined) ∧
    (7 ≤ (raising 7).t.stage ∧ (raising 10).t.stage ≤ 10 ∧ 10 < (raising 11).t.stage ∧ (raising 6).t.stage < 7) ∧
    ((pt .ep 7 (raising 12)).hasPort .ep 7 = true ∧ ((pt .ep 7 (raising 12)).ep.c.port 7).t.stage = 12 ∧ ((pt .ep 7 (raising 11)).ep.c.port 7).t.stage ≠ 12 ∧
      ({ up with t := { up.t with st := .standby } } : Port).t.st = .standby ∧ up.t.st = .raised) := by
  decide +kernel

/-- A raised port with an exchange under way. -/
def swapping (x : Exchange) : Port := { up with t := { up.t with exchange := some x } }

theorem witness_LanesMoveByAgreement :
    ((pt .sw 287 up).hasPort .sw 287 = true ∧ up.t.st = .raised ∧ up.t.check = none ∧ ({} : Port).t.st ≠ .raised ∧ ({} : Port).t.st ≠ .standby ∧ ({} : Port).t.check = none) ∧
    (∀ e ∈ ([(3, true), (32, false)] : List (Nat × Bool)), roleOf up.t.roles e.1 < 0x22) ∧
    ((pt .sw 287 { up with op := { tx := [(33, { locked := true })], rx := [(33, { locked := true })] } }).sw.c.goodTarget 287 33 = true ∧ (pt .sw 287 up).sw.c.goodTarget 287 33 = false ∧
      (pt .sw 287 up).sw.c.pick ≤ pickNear 0 0 ∧ pickNear 5 4 < 5) ∧
    (let y : Exchange := { fromCh := 3, toCh := 33, mine := false }
     let z : Exchange := { fromCh := 3, toCh := 33, mine := true }
     y.mine = false ∧ y.isWidth = false ∧ (33 : Nat) = 33 % 64 ∧ (swapping y).t.exchange = some y ∧ z.mine = true ∧ z.isWidth = false ∧ (swapping z).t.exchange = some z ∧ ({ fromCh := 4 } : Exchange).fromCh ≠ z.fromCh) ∧
    ((let x : Exchange := { isWidth := true, mine := true }
      let p : Port := { up with t := { up.t with widthEx := some x } }
      p.t.widthEx = some x ∧ x.mine = true ∧ (pt .sw 0 p).sw.c.leading 0 = true) ∧ up.t.widthEx = none) ∧
    (let x : Exchange := { fromCh := 3, toCh := 33, mine := true }
     (swapping x).t.exchange = some x ∧ x.mine = true ∧ x.isWidth = false ∧ ({ cmd := 4, arg1 := 3, arg2 := x.set.arg2 } : LaneSet).arg1 = x.fromCh ∧ ({ arg1 := 4 } : LaneSet).arg1 ≠ x.fromCh) ∧
    (let x : Exchange := { isWidth := true, mine := true, lanes := 8 }
     x.mine = true ∧ x.isWidth = true ∧ ({ arg0 := 9 } : LaneSet).arg0 ≠ x.set.arg0) := by
  decide +kernel

theorem witness_DrainedPortsPause :
    ((pt .ep 7 up).hasPort .ep 7 = true ∧ up.t.st = .raised ∧ up.t.doneSent = false ∧ up.t.exchanges = [] ∧ up.fl.replay = [] ∧ up.t.doneRecv = false) ∧
    (({ up with t := { up.t with doneSent := true } } : Port).t.doneSent = true ∧ ({ t := { st := .paused } } : Port).fl.replay = [] ∧ ({} : Port).t.st ≠ .raised) ∧
    ((swapping {}).t.exchanges ≠ [] ∧ (flits { replay := heldFlit }).fl.replay ≠ [] ∧ ({ up with t := { up.t with doneRecv := true } } : Port).t.doneRecv = true) ∧
    (let p : Port := { up with t := { up.t with drainRecv := true, doneSent := true } }
     p.t.st = .raised ∧ p.t.drainRecv = true ∧ p.t.doneSent = true) ∧
    (let p : Port := { up with t := { up.t with drainSent := true }, fl := { replay := heldFlit } }
     p.t.st = .raised ∧ p.t.drainSent = true ∧ p.t.doneSent = false ∧ p.fl.replay ≠ []) := by
  decide +kernel

/-- A struck port whose strike stands so. -/
def striking (k : StrikeRun) : Port := { t := { strike := some k } }

theorem witness_StruckPortsLeaveService :
    ((pt .sw 287 up).hasPort .sw 287 = true ∧ up.t.st ≠ .struck ∧ up.fl.replay = [] ∧ (flits { replay := heldFlit }).fl.replay ≠ [] ∧ ({} : Port).t.st = .struck ∧ ({} : Port).t.strike = none) ∧
    (let k : StrikeRun := { step := 2, cold := true }
     (striking k).t.strike = some k ∧ k.cold = true ∧ k.step = 2 ∧ ({ striking k with fl := { replay := heldFlit } } : Port).fl.replay ≠ [] ∧ (striking k).fl.replay = []) ∧
    (let k : StrikeRun := { step := 3 }
     k.step = 3 ∧ k.step ≠ 2 ∧ (striking k).t.strike = some k ∧ (striking k).fl.replay = [] ∧ (striking k).op.shutter = false ∧ ({ striking k with op := { shutter := true } } : Port).op.shutter = true) := by
  decide +kernel

theorem witness_PortCommandsAct :
    ((pt .ep 7 {}).hasPort .ep 7 = true ∧ ({} : Port).t.st = .struck ∧ up.t.st ≠ .struck) ∧
    (let c := (regs .ep [(linkA .ep 7 0, 1)]).ep.c
     let d := c.modTrain 7 (fun t => { t with needCmd := false, failedRaises := 0 })
     (c.port 7).t.holdUntil ≤ c.pick ∧ d.mayRaise 7 = false) ∧
    (let c := { (regs .ep [(linkA .ep 0 0, 1)]).ep.c with opt := { combs := (List.range 5).map (fun k => (k, { st := .lit })) } }
     let d := c.modTrain 0 (fun t => { t with needCmd := false, failedRaises := 0 })
     d.mayRaise 0 = true ∧ (c.port 0).t.holdUntil ≤ c.pick ∧ ({ t := { holdUntil := 1 } } : Port).t.holdUntil = c.pick + 1) ∧
    (up.t.check = none ∧ ({ up with t := { up.t with check := some 0 } } : Port).t.check ≠ none) ∧ (bit 1 0 = true ∧ bit 2 0 = false) ∧
    (({ eyeBusy := true, eyeChan := some 33 } : Port).eyeBusy = true ∧ ({ eyeBusy := true, eyeChan := some 33 } : Port).eyeChan = some 33 ∧ 33 < 34 ∧ ({ eyeBusy := true } : Port).eyeChan = none) ∧ (pt .ep 7 {}).ep.c.eyeScanning 7 = false := by
  decide +kernel

/-- A part with one comb. -/
def lamp (part : Part) (k : Nat) (b : Comb) : State := on part (fun c => { c with opt := { c.opt with combs := [(k, b)] } })

theorem witness_CombsLightAndGoDark :
    (st.heldPart .sw = false ∧ (on .sw (fun c => { c with biv := { c.biv with inReset := true } })).heldPart .sw = true) ∧ 89 < combCount .sw ∧ 2 < combCount .ep ∧ (lamp .sw 89 {}).hasComb .sw 89 = true ∧
    ((((lamp .sw 0 { st := .warming }).sw.c.comb 0).st = .warming) ∧ combPlace .sw 0 = (0, some 0)) ∧ (combPlace .sw 4).2 = none ∧ combPlace .sw 88 = (17, some 3) ∧ (0 ∈ posPorts .sw 0 0 ∧ 287 ∉ posPorts .sw 0 0) ∧
    (({ st := .lit } : Comb).burns = true ∧ ({ st := .dark } : Comb).burns = false ∧ ({ st := .lit } : Comb).st ≠ .retired ∧ ({ st := .lit } : Comb).st ≠ .warming) ∧
    (let c := { (pt .sw 0 up).sw.c with opt := { combs := [(0, { st := .lit }), (4, { st := .standby })] } }
     (c.comb 0).st = .lit ∧ (c.comb (spareOf .sw 0)).st = .standby ∧ 0 ∈ posPorts .sw 0 0 ∧ (c.port 0).t.st = .raised) := by
  decide +kernel

theorem witness_RingsLockAndSlip :
    ((pt .sw 287 up).hasPort .sw 287 = true ∧ up.calm = true ∧ up.t.st = .raised ∧ ({} : Port).t.st ≠ .raised ∧ ({} : Port).t.st ≠ .standby ∧ (up.ring { tx := false, chan := 33 }).slipAt = none) ∧
    (let r : RingId := { tx := false, chan := 33 }
     let p : Port := { up with t := { up.t with roles := defaultRoles.set 33 0x23 }, op := { rx := [(33, { slipAt := some 0 })] } }
     let at_ := fun (k : Nat) => (timed .locked k none 0 none).sw.c.pick
     (p.ring r).slipAt = some 0 ∧ at_ 10000 ≤ 0 + 10000 ∧ 0 + 10000 ≤ at_ 10000 ∧ 0 + 10000 < at_ 10001 ∧ at_ 9999 < 0 + 10000 ∧ roleOf p.t.roles r.chan = 0x23 ∧ roleOf (p.t.roles.set 33 0x21) r.chan = 0x21) ∧
    (up.inService = true ∧ ({} : Port).inService = false) ∧
    (let c := on .sw (fun c => { c with opt := { c.opt with engines := [(17, { swap := some { pos := 3, phase := 2 } })] } })
     c.heldPart .sw = false ∧ ((c.common .sw).engine 17).swap = some { pos := 3, phase := 2 } ∧ 17 < engineCount .sw ∧ ((c.common .sw).engine 0).swap = none) := by
  decide +kernel

theorem witness_LightIsWatched :
    ((pt .sw 287 up).hasPort .sw 287 = true ∧ up.t.st = .raised ∧ up.t.st ≠ .raising ∧ ({ tap := some 5 } : MonitorIn).allDark = false ∧ ({ tap := some 5 } : MonitorIn).lightBack = false) ∧
    (({ allDark := true } : MonitorIn).allDark = true ∧ ({ lightBack := true } : MonitorIn).lightBack = true) ∧
    (let c := (pt .sw 0 { t := { st := .paused } }).sw.c
     ((c.monitor 0 { lightBack := true }).port 0).t.st = .paused) ∧
    (let p : Port := { raising 1 with op := { farLight := true, shutter := true } }
     p.t.st = .raising ∧ p.t.stage = 1 ∧ p.op.farLight = true ∧ p.op.shutter = true ∧ 100 ≤ ({ brightUs := 100 } : MonitorIn).brightUs ∧ ({ brightUs := 99 } : MonitorIn).brightUs < 100) ∧
    (let c := { (regs .sw [(linkA .sw 0 0, 3)]).sw.c with opt := { combs := (List.range 5).map (fun k => (k, { st := .lit })) }, ports := [(0, { op := { ostate := .probe } })] }
     (c.port 0).t.st = .struck ∧ (c.port 0).op.ostate = .probe ∧ flag (c.rd (linkA c.part 0 0x000)) 1 = true ∧ (c.port 0).t.needCmd = false ∧ c.mayRaise 0 = true ∧ (c.port 0).t.holdUntil ≤ c.pick) ∧
    (let p : Port := { t := { st := .paused, resume := true }, far := { bound := some {} } }
     p.t.st = .paused ∧ p.t.resume = true ∧ p.far.bound = some {} ∧ ({ p with far := {} } : Port).far.bound ≠ some {}) := by
  decide +kernel

/-! ### Witnesses: the switch core -/

/-- A switch of domain 0: node 1 at port 0, node 2 at port 255, node 3 at port 3 and fenced, node 4 at port 4 in pitch 1; the route table leads to domain 9 by selvedge port 31, back in with pitch 1. -/
def woven : State :=
  let s := regs .sw [(0x504004, 0x80000000), (0x504008, 0x800000FF), (0x50400C, 0x80000003), (0x504010, 0x80000004), (0x504014, 0), (0xA00044, 8), (0x900200, 0x10000)]
  { s with sw := { s.sw with core := { s.sw.core with selv := [(9, { port := 31, pitch := some 1 })] } } }

/-- A request of node 1 to a node. -/
def ask (op dst : Nat) (pitch : Nat := 0) : Packet := { op := op, src := 1, dst := dst, pitch := pitch }

theorem witness_IngressChecksInOrder :
    (woven.heldPart .sw = false ∧ ({ ask 1 2 with ver := 2 } : Packet).ver ≠ 1 ∧ (ask 1 2).ver = 1 ∧ ({ ask 1 2 with merged := true } : Packet).merged = true ∧ woven.sw.c.aliasOf 2 ≠ some 0 ∧ woven.sw.c.aliasOf (ask 1 2).src = some 0 ∧
      (ask 1 2).merged = false ∧ (ask 1 2 1).pitch ≠ woven.sw.c.portPitch 0 ∧ (ask 1 2).pitch = woven.sw.c.portPitch 0 ∧ woven.sw.c.fenced 3 = true) ∧
    (let p : Packet := { ask 1 2 with src := 3 }
     p.ver = 1 ∧ p.merged = false ∧ woven.sw.c.aliasOf p.src = some 3 ∧ p.pitch = woven.sw.c.portPitch 3 ∧ woven.sw.c.fenced p.src = true ∧ isRequest 1 = true ∧ isRequest opMsgSend = false ∧ isRequest 0x11 = false ∧ 0x11 ≠ opMsgSend) ∧
    (woven.sw.passes 0 (ask 0x22 0) = true ∧ consumed 0 (ask 0x22 0) = true ∧ ({ ask 0x22 0 with crc := (ask 0x22 0).goodCrc + 1 } : Packet).crcOk = false) ∧
    (woven.sw.passes 0 (ask 1 2) = true ∧ consumed 0 (ask 1 2) = false ∧ (ask 1 2).op ≠ opMsgSend ∧ (ask 1 2).op ≠ opMsgAck ∧ woven.sw.c.fenced 2 = false ∧ woven.sw.c.aliasOf 2 = some 255 ∧ woven.sw.c.portPitch 255 = 0) ∧
    (woven.sw.passes 255 { op := 1, src := 2, dst := 5 } = true ∧ woven.sw.c.aliasOf 5 = none ∧ isRequest 1 = true) ∧ (woven.sw.passes 0 (ask 0x11 3) = true ∧ woven.sw.c.fenced 3 = true ∧ isRequest 0x11 = false) ∧
    (woven.sw.passes 0 (ask 1 4) = true ∧ woven.sw.c.fenced 4 = false ∧ woven.sw.c.aliasOf 4 = some 4 ∧ woven.sw.c.portPitch 4 ≠ 0) ∧
    (256 ≤ 287 ∧ 287 < 288 ∧ consumed 287 { op := opMgmt, vc := 0 } = true ∧ ({ op := opMgmt, vc := 0 } : Packet).ver = 1 ∧ (Packet.seal { op := opMgmt, vc := 0 }).crcOk = true ∧ consumed 287 (Packet.seal { op := opMgmt, vc := 0 }) = true ∧ ({ op := opMgmt, vc := 0, crc := (Packet.seal { op := opMgmt, vc := 0 }).crc + 1 } : Packet).crcOk = false ∧
      consumed 256 { op := opMsgSend, vc := 1 } = false ∧ ¬(({ op := opMsgSend, vc := 1 } : Packet).vc = 7)) := by
  decide +kernel

theorem witness_MessagesLeaveByTheSelvedge :
    (let m := fun d : Nat => { ask opMsgSend 2 with vc := 7, woff := d * 2 ^ 40 }
     woven.sw.passes 0 (m 0) = true ∧ (m 0).msgDstDomain = woven.sw.c.swDomain ∧ (m 9).msgDstDomain ≠ woven.sw.c.swDomain ∧ woven.sw.passes 0 (m 9) = true ∧
     woven.sw.selvedgeFor (m 9).msgDstDomain = some 287 ∧ woven.sw.passes 0 (m 4095) = true ∧ woven.sw.selvedgeFor (m 4095).msgDstDomain = none ∧ (m 4095).msgDstDomain = 4095) ∧
    (let a := fun d : Nat => { ask opMsgAck 2 with vc := 7, woff := d * 2 ^ 16 }
     woven.sw.passes 0 (a 0) = true ∧ (a 0).ackDomain = woven.sw.c.swDomain ∧ woven.sw.passes 0 (a 9) = true ∧ woven.sw.selvedgeFor (a 9).ackDomain = some 287 ∧ (a 4095).ackDomain ≠ woven.sw.c.swDomain ∧
     woven.sw.selvedgeFor (a 4095).ackDomain = none) ∧
    (let p := fun d : Nat => ({ op := opMsgSend, vc := 7, woff := d * 2 ^ 28 } : Packet)
     (p 9).ver = 1 ∧ (p 9).vc = 7 ∧ ({ p 9 with vc := 1 } : Packet).vc ≠ 7 ∧ (Tab.find woven.sw.core.selv (p 9).msgSrcDomain).bind (·.pitch) = some 1 ∧ (Tab.find woven.sw.core.selv (p 4095).msgSrcDomain).bind (·.pitch) = none) ∧
    (let a := fun d : Nat => ({ op := opMsgAck, vc := 7, woff := d } : Packet)
     (a (9 * 2 ^ 4)).ver = 1 ∧ (a (9 * 2 ^ 4)).vc = 7 ∧ (a (9 * 2 ^ 4)).ackDomain = woven.sw.c.swDomain ∧ (Tab.find woven.sw.core.selv (a (9 * 2 ^ 4)).ackFrom).bind (·.pitch) = some 1 ∧
     (a 0).ackDomain = woven.sw.c.swDomain ∧ (Tab.find woven.sw.core.selv (a 0).ackFrom).bind (·.pitch) = none ∧ (a (9 * 2 ^ 16)).ackDomain ≠ woven.sw.c.swDomain) ∧
    ((woven.sw.ingressChecks 0 (ask opMsgSend 2 1)).2 = false ∧ (ask 1 2).op ≠ opMsgSend) := by
  decide +kernel

/-- A switch whose core holds packets. -/
def holding (l : List CorePkt) : State := { st with sw := { st.sw with core := { st.sw.core with pkts := l } } }

theorem witness_PacketsEnterTheBufferWhole :
    (∀ p, p ∈ (holding []).sw.core.pkts → p.input = 287 → p.admitted = true) ∧
    (let q : CorePkt := { id := 0, pkt := { op := 2, vc := 0 }, input := 287, output := 0, high := false }
     (holding [q]).sw.core.pkts.filter (fun q => q.input == 287 && !q.admitted) = [q] ∧ q.pkt.vc < 8 ∧ (holding [q]).sw.takeBlocks 287 0 ((holding [q]).sw.c.pitchOf 287 q.pkt) (packetBlocks q.pkt) [] = some [.resMgmt] ∧ (holding [q]).sw.mustPark q = false) ∧
    (let full : List CorePkt := (List.range 79).map (fun i => { id := i, pkt := {}, input := 287, output := 0, high := false, admitted := true, blocks := List.replicate 16 .priv, unreceipted := (List.range 16).map (16 * ·) })
     let q : CorePkt := { id := 79, pkt := { op := 2 }, input := 287, output := 0, high := false }
     let s : State := { regs .sw [(0x501004, 0)] with sw := { (regs .sw [(0x501004, 0)]).sw with core := { pkts := full ++ [q] } } }
     s.sw.core.pkts.filter (fun q => q.input == 287 && !q.admitted) = [q] ∧ s.sw.takeBlocks 287 q.pkt.vc (s.sw.c.pitchOf 287 q.pkt) (packetBlocks q.pkt) [] = none) ∧
    (let before : CorePkt := { id := 0, pkt := { op := 2, vc := 3 }, input := 287, output := 0, high := true, admitted := true, unreleased := 1 }
     let q : CorePkt := { id := 1, pkt := { op := 2, vc := 3 }, input := 287, output := 0, high := false, excess := true }
     (holding [before, q]).sw.core.pkts.filter (fun q => q.input == 287 && !q.admitted) = [q] ∧ q.pkt.vc < 8 ∧ ((holding [before, q]).sw.takeBlocks 287 3 ((holding [before, q]).sw.c.pitchOf 287 q.pkt) (packetBlocks q.pkt) []).isSome = true ∧
       (holding [before, q]).sw.mustPark q = true) :=
  ⟨by simp [holding], by decide +kernel, by decide +kernel, by decide +kernel⟩

/-- A switch with shaft 7 active and its last result so. -/
def weaving (retry : Bool) (voqs : Tab Voq) : State := { st with sw := { st.sw with core := { st.sw.core with shafts := [(7, { retry := retry })], rotation := [7], voqs := voqs } } }

/-- A unit of the triple 287, 287 of a class that waits for shaft 7. -/
def waitsHigh (high : Bool) : Tab Voq := [(tripleKey 287 287 high, { units := [{ seq := 0, shaft := 7 }] })]

theorem witness_MatchersMatchOneToOne :
    (let s := weaving false []
     s.heldPart .sw = false ∧ s.sw.core.active = [7] ∧ s.sw.core.lane = [] ∧ s.sw.core.pkts = [] ∧ (Tab.get s.sw.core.shafts {} 7).retry = false ∧ (Tab.get s.sw.core.shafts {} 7).due = none ∧ 7 ∈ ([7] : List Nat) ∧ 7 ∉ ([] : List Nat) ∧
       (weaving true []).sw.core.active = [7] ∧ (Tab.get (weaving true []).sw.core.shafts {} 7).retry = true) ∧
    (let waiting := fun (s : State) (h : Bool) => (Tab.get s.sw.core.voqs {} (tripleKey 287 287 h)).units.find? (fun u => u.shaft == 7 && !u.sent)
     waiting (weaving false (waitsHigh true)) true = some { seq := 0, shaft := 7 } ∧ waiting (weaving false (waitsHigh false)) true = none ∧ waiting (weaving false (waitsHigh false)) false = some { seq := 0, shaft := 7 } ∧
     waiting (weaving false []) true = none ∧ waiting (weaving false []) false = none) ∧
    (weaving false (waitsHigh true)).sw.core.requests 7 = [{ i := 287, o := 287, high := true }] := by
  decide +kernel

/-- A switch with one unit of the triple 287, 287, LOW on the wire and in its queue, its receipt on the way. -/
def spun (next : Nat) (neg : Bool) : State :=
  let key := tripleKey 287 287 false
  { st with sw := { st.sw with core := { st.sw.core with wire := [{ key := key, seq := 4095, shaft := 8, cells := [] }], reeds := [(key, { next := next })], receipts := [(key, 4095, neg)], voqs := [(key, { units := [{ seq := 4095, shaft := 8, sent := true }] })] } } }

theorem witness_UnitsArriveInSequence :
    (spun 0 true).heldPart .sw = false ∧ (spun 0 true).sw.core.wire.find? (fun x => x.key == tripleKey 287 287 false && x.seq == 4095) = some { key := tripleKey 287 287 false, seq := 4095, shaft := 8, cells := [] } ∧
    (Tab.get (spun 4095 true).sw.core.reeds {} (tripleKey 287 287 false)).held = [] ∧ (Tab.get (spun 4095 true).sw.core.reeds {} (tripleKey 287 287 false)).next = 4095 ∧
    (Tab.get (spun 4090 true).sw.core.reeds {} (tripleKey 287 287 false)).next ≠ 4095 ∧ behindSeq 4090 4095 = false ∧ behindSeq (4095 - 2047) 4095 = false ∧ behindSeq (4095 - 2048) 4095 = true ∧
    (spun 0 true).sw.core.receipts.contains (tripleKey 287 287 false, 4094, true) = false ∧ (spun 0 true).sw.core.receipts.contains (tripleKey 287 287 false, 4095, true) = true ∧
    (spun 0 false).sw.core.receipts.contains (tripleKey 287 287 false, 4095, false) = true ∧ (spun 0 true).sw.core.wire.find? (fun x => x.key == tripleKey 287 287 false && x.seq == 0) = none ∧
    (Tab.get (spun 0 true).sw.core.voqs {} (tripleKey 287 287 false)).units.find? (fun x => x.seq == 0) = none ∧
    (Tab.get (spun 0 true).sw.core.voqs {} (tripleKey 287 287 false)).units.find? (fun x => x.seq == 4095) = some { seq := 4095, shaft := 8, sent := true } := by
  decide +kernel

/-- A switch at a pick with one unit of the triple 287, 287, LOW held since the domain epoch. -/
def holed (pick : Nat) : State :=
  let s := on .sw (fun c => { c with time := { c.time with pick := pick } })
  { s with sw := { s.sw with core := { reeds := [(tripleKey 287 287 false, { held := [{ key := tripleKey 287 287 false, seq := 4095, shaft := 8, cells := [] }] })] } } }

/-- A switch whose port of the bus's first tap holds that many cast entries, with one cast at the head of bus 31. -/
def casting (n : Nat) (l : List LaneJob) : State :=
  let tap := ((tc .sw).taps 31).headD (0, 0)
  let s := on .sw (fun c => { c with ports := [(tap.1, { up with eg := { q := [(2, List.replicate n { pkt := { op := opGrant, src := 0 }, at_ := 0, tap := some 31 })] } })] })
  { s with sw := { s.sw with core := { casts := [{ bus := 31, pkt := { op := opGrant, src := 0 }, ord := 1 }], lane := l } } }

theorem witness_CoreStrikesAndCasts :
    ((holed 4).heldPart .sw = false ∧ (Tab.get (holed 4).sw.core.reeds {} (tripleKey 287 287 false)).holeSince = some 0 ∧ 0 + 4000 ≤ (holed 4).sw.c.now ∧ (holed 3).sw.c.now < 0 + 4000 ∧
      (Tab.get (holed 3).sw.core.reeds {} (tripleKey 287 287 false)).holeSince = some 0 ∧ (Tab.get (holed 3).sw.core.reeds {} (tripleKey 287 287 true)).holeSince = none) ∧
    ((holding [{ id := 0, pkt := {}, input := 0, output := 287, high := true, age := 40 }]).sw.aged 287 = true ∧ (holding [{ id := 0, pkt := {}, input := 0, output := 287, high := true, age := 39 }]).sw.aged 287 = false) ∧
    (let s := casting 0 []
     let j : CastJob := { bus := 31, pkt := { op := opGrant, src := 0 }, ord := 1 }
     s.sw.core.casts.find? (fun j => j.bus == 31) = some j ∧ s.sw.core.casts.find? (fun j => j.bus == 0) = none ∧ s.sw.c.sealLets j.pkt.pitch (laneNs j.pkt) = true ∧ s.sw.laneBefore j = false ∧
       ((s.sw.c.taps 31).filter (fun t => s.sw.c.needsRoom j.pkt t.1)).all (fun t => s.sw.c.tapRoom 31 t.1 j.pkt) = true ∧
       (((casting 1024 []).sw.c.taps 31).filter (fun t => (casting 1024 []).sw.c.needsRoom j.pkt t.1)).all (fun t => (casting 1024 []).sw.c.tapRoom 31 t.1 j.pkt) = false ∧
       (casting 0 [{ port := (((tc .sw).taps 31).headD (0, 0)).1, pkt := { op := opGrant, src := 0 }, ord := 0 }]).sw.laneBefore j = true) ∧
    (let b : CombBatch := { number := 4095, line := 0, sentAt := some 0, members := [(0, ask 6 2), (7, ask 6 2)] }
     let s : State := { woven with sw := { woven.sw with c := { woven.sw.c with time := { woven.sw.c.time with pick := 8 } }, core := { woven.sw.core with combiners := [(255, { batches := [b] })] } } }
     let p : Packet := Packet.seal { mgmtPacket 2 0 0 0 (zBytes 2 0x0511 0 0 0 (beBytes 8191 2 ++ List.replicate 30 0)) with pitch := 0 }
     p.op = opMgmt ∧ s.heldPart .sw = false ∧ (s.sw.ingressChecks 255 p).2 = true ∧ p.crcOk = true ∧ (badHeader p = none ∧ lenAllowed p = true ∧ noticeOk p.mgmtBody 0x0511 = true) ∧ s.sw.answered 255 (p.mgmtBody.drop 16) = some b ∧
     (s.sw.ingressChecks 254 p).2 = false ∧ ({ p with crc := p.crc + 1 } : Packet).crcOk = false ∧ (s.sw.ingressChecks 255 { p with crc := p.crc + 1 }).2 = true ∧ woven.sw.answered 255 (p.mgmtBody.drop 16) = none ∧ (ask 1 2).op ≠ opMgmt ∧
     (s.sw.combiner 255).batches = [b] ∧ b.number = 4095 ∧ b.sentAt = some 0 ∧ 0 + 8 ≤ s.sw.c.pick ∧ ((s.sw.mod (fun c => { c with time := { c.time with pick := 7 } })).combiner 255).batches.find? (fun b => b.number == 4095 && (match b.sentAt with | some t => decide (t + 8 ≤ 7) | none => false)) = none) := by
  decide +kernel

/-! ### Witnesses: remote operations -/

/-- An end-point of node 7 and pitch 1 that serves: window 15 open for everything with key 5, port 7 raised, what it holds changed. -/
def hall (f : EpState → EpState := id) : State :=
  let c : Common := { (tc .ep) with ports := [(7, up)], rf := { (tc .ep).rf with cur := [(0xC8000, 7), (0xF0000, 1), (0x80000, 1), (0x301E0, 0x10F), (0x301E4, 5), (0x301F0, 0x10000)] } }
  { st with ep := f { st.ep with c := c } }

/-- A request of node 1 to window 15 of the hall. -/
def call (op : Nat) (len : Nat) (data : List Byte) (seq : Nat := 0) : Packet :=
  { op := op, src := 1, dst := 7, pitch := 1, len := len, woff := 15 * 2 ^ 48, seq := seq, data := data, key := 5, flags := { flagStore := isFlagged op } }

/-- A sequence record of source 1. -/
def seen (r : SrcRec) : State := hall (fun e => { e with home := { e.home with recs := [(1, r)] } })

/-- A packet that a port of the hall takes and that stays in the clear. -/
def taken (s : State) (p : Packet) : Bool := s.ep.portOpen 7 p.vc && s.ep.brings 7 p p && (badHeader p).isNone && lenAllowed p

/-- The same packet, said to be encrypted: it does not authenticate. -/
def forged (p : Packet) : Packet := Packet.seal { p with flags := { p.flags with encrypted := true }, auth := some 0 }

theorem witness_HomeServesEachRequestOnce :
    (let p := (call 1 0xF []).seal
     hall.heldPart .ep = false ∧ opListed p.op = true ∧ p.op ≠ 2 ∧ opListed 0x55 = false ∧ hall.ep.portOpen 0 p.vc = false ∧ ({ p with key := 6 } : Packet).crcOk = false ∧ (forged p).crcOk = true ∧ (hall.ep.takeIn 7 (forged p)).opened 7 (forged p) = none ∧
     taken hall p = true ∧ p.merged = false ∧ (hall.ep.takeIn 7 p).homeCheck p = none ∧ (hall.ep.takeIn 7 p).home.reqs = [] ∧ (Tab.get (hall.ep.takeIn 7 p).home.recs {} 1).isApplied 0 = false ∧ (Tab.get (hall.ep.takeIn 7 p).home.recs {} 1).open_.contains 0 = false) ∧
    (let p := ({ call 1 0xF [] with key := 6 } : Packet).seal
     taken hall p = true ∧ (hall.ep.takeIn 7 p).homeCheck p = some (stKey, 15)) ∧
    ([call 2 4 (List.replicate 64 1) 4095, call 1 4 [] 4095, call 5 4 (addTo 0) 4095].all (fun p =>
      let s := seen { low := 0 }
      taken s p.seal && (s.ep.takeIn 7 p.seal).homeCheck p.seal == none && (Tab.get (s.ep.takeIn 7 p.seal).home.recs {} 1).isApplied 4095) = true) ∧
    (let p := (call 2 4 (List.replicate 64 1) 4095).seal
     let s := seen { low := 4095, open_ := [4095] }
     (Tab.get (s.ep.takeIn 7 p).home.recs {} 1).isApplied 4095 = false ∧ (Tab.get (s.ep.takeIn 7 p).home.recs {} 1).open_.contains 4095 = true) ∧
    ([call 1 4 [], call 2 4 (List.replicate 64 1), call 6 8 (maskedData (List.replicate 64 1) (2 ^ 64 - 1)), call 3 8 (maskedData (List.replicate 64 1) 1), call 4 8 (maskedData (List.replicate 64 1) 1)].all (fun p =>
      taken hall p.seal && (hall.ep.takeIn 7 p.seal).homeCheck p.seal == none && !(isFlagged p.op && !(Tab.get hall.ep.home.recs {} 1).lowerDone 0)) = true) ∧
    ([0, 1, 2].map (fun k => let p := (call 5 4 (addTo k)).seal; taken hall p && (hall.ep.takeIn 7 p).homeCheck p == none && scopeOf (p.cell 0) == k) = [true, true, true]) := by
  decide +kernel

/-- The hall with a flagged store of source 1, SEQ 1, held since the domain epoch. -/
def heldFlag (low pick : Nat) : State :=
  hall (fun e => { e with c := { e.c with time := { e.c.time with pick := pick } }, home := { e.home with reqs := [{ id := 0, plane := 7, pkt := call 4 8 (maskedData (List.replicate 64 1) 1) 1, arrival := 0, st := .held 0 }], recs := [(1, { low := low, open_ := [1] })] } })

/-- A merged request of batch 4095. -/
def mergedOf (op len : Nat) (data : List Byte) : Packet := Packet.seal { call op len data 4095 with src := 0, merged := true, flags := {} }

/-- A receipt for batch 4095 with one member. -/
def receiptOf : Packet := mgmtPacket 0 7 1 0 (zBytes 2 0x0510 0 0 0 (beBytes (0x1000 + 4095) 2 ++ beBytes 1 2 ++ beBytes 0 2 ++ beBytes 1 2 ++ List.replicate 8 0 ++ beBytes (1 * 2 ^ 24) 4))

theorem witness_FlagsWaitForLowerSequences :
    (let find := fun (s : State) => s.ep.home.reqs.find? (fun r => r.pkt.src == 1 && r.pkt.seq == 1 && (match r.st with | .held _ => true | _ => false))
     let due := fun (s : State) => s.ep.home.reqs.find? (fun r => r.pkt.src == 1 && r.pkt.seq == 1 && (match r.st with | .held t => decide (t + 256 ≤ s.ep.c.pick) | _ => false))
     (find (heldFlag 0 0)).any (fun r => !(Tab.get (heldFlag 0 0).ep.home.recs {} r.pkt.src).lowerDone r.pkt.seq) = true ∧
     (find (heldFlag 1 0)).any (fun r => (Tab.get (heldFlag 1 0).ep.home.recs {} r.pkt.src).lowerDone r.pkt.seq && decide ((heldFlag 1 0).ep.home.reqs = [r]) && isMasked r.pkt.op && !r.fromTable) = true ∧
     find hall = none ∧ due (heldFlag 0 255) = none ∧ (due (heldFlag 0 256)).isSome = true) ∧
    (let s := hall (fun e => { e with c := { e.c with time := { e.c.time with pick := 4 } }, home := { e.home with batches := [(4096 * 7 + 4095, {}), (4096 * 7, { started := true }), (4096 * 7 + 1, { first := 1 })] } })
     Tab.find s.ep.home.batches (4096 * 7 + 4095) = some {} ∧ ({} : Batch).started = false ∧ ({} : Batch).first + 4 ≤ s.ep.c.pick ∧ Tab.find s.ep.home.batches (4096 * 7) = some { started := true } ∧
     Tab.find s.ep.home.batches (4096 * 7 + 1) = some { first := 1 } ∧ s.ep.c.pick < 1 + 4 ∧ Tab.find s.ep.home.batches 0 = none) ∧
    ([mergedOf 6 8 (maskedData (List.replicate 64 1) 1), mergedOf 5 4 (addTo 0)].all (fun p =>
      taken hall p && p.merged && p.src == 0 && (hall.ep.takeIn 7 p).homeCheck p == none && Tab.find (hall.ep.takeIn 7 p).home.batches (4096 * 7 + p.seq) == none) = true) ∧
    (let p := mergedOf 6 8 (maskedData (List.replicate 64 1) 1)
     let b : Batch := { total := some 1, entries := [{ index := 0, src := 1, seq := 0 }] }
     let s := fun (b : Batch) => hall (fun e => { e with home := { e.home with batches := [(4096 * 7 + 4095, b)] } })
     Tab.find ((s b).ep.takeIn 7 p).home.batches (4096 * 7 + p.seq) = some b ∧ b.req = none ∧ b.started = false ∧ b.total = some b.entries.length ∧ b.ordered.length = b.entries.length ∧
     ((s b).ep.takeIn 7 p).homeCheck p = none ∧ b.entries.any ((s b).ep.takeIn 7 p).memberTaken = false ∧ ({ b with req := some p } : Batch).req.isSome = true ∧ (call 6 8 []).merged = false) ∧
    (taken hall receiptOf = true ∧ receiptOf.op = opMgmt ∧ noticeOk receiptOf.mgmtBody 0x0510 = true ∧ receiptOk (receiptOf.mgmtBody.drop 16) = true ∧
     Tab.find hall.ep.home.batches (4096 * 7 + pn (receiptOf.mgmtBody.drop 16) 0 2 % 4096) = none ∧
     (let bad := mgmtPacket 0 7 1 0 (zBytes 2 0x0511 0 0 0 (List.replicate 32 0))
      taken hall bad = true ∧ bad.op = opMgmt ∧ noticeOk bad.mgmtBody 0x0510 = false)) := by
  decide +kernel

/-- A request of the hall to node 1. -/
def owed (op : Nat) (timeouts : Nat := 0) (plane : Nat := 7) : SrcReq :=
  { id := 0, engine := 32, op := op, dst := 1, woff := 0, len := 64, st := .sent, tag := 262143, seq := 4095, plane := plane, timeouts := timeouts }

/-- The hall with one operation toward node 1 outstanding. -/
def owing (op : Nat) (pick : Nat := 0) (timeouts : Nat := 0) (plane : Nat := 7) : State :=
  hall (fun e => { e with c := { e.c with time := { e.c.time with pick := pick } }, src := { e.src with reqs := [owed op timeouts plane] } })

/-- An answer of node 1. -/
def reply (op status len : Nat) (data : List Byte) : Packet :=
  Packet.seal { op := op, vc := 2, src := 1, dst := 7, pitch := 1, tag := 262143, seq := 4095, len := len, woff := rspWoff status 0, data := data }

/-- The answer is taken and matches what is owed, and it is well formed. -/
def matched (op : Nat) (p : Packet) : Bool :=
  !(owing op).heldPart .ep && (owing op).ep.brings 7 p p && ((owing op).ep.takeIn 7 p).src.reqs.any (fun r => r.matches_ p && r.wellAnswered p) && !p.flags.encrypted

theorem witness_AnswersCompleteTheirRequests :
    ([(1, reply 0x10 stOk 4 (List.replicate 64 9)), (2, reply 0x11 stDup 0 []), (5, reply 0x12 stOk 4 (atomRspData 0 false false false)), (1, reply 0x10 stAbsent 0 []), (2, reply 0x11 stFenced 0 []), (2, reply 0x11 stBounds 0 []), (2, reply 0x11 0xFFFF 0 [])].all
      (fun x => matched x.1 x.2) = true) ∧
    (let p := Packet.seal { op := 0x31, vc := 7, src := 1, dst := 7, pitch := 1, tag := 262143, seq := 4095, woff := 0 }
     let a := Packet.seal { p with data := [] }
     matched 0x30 a = true ∧ p.op ≠ 0x10) ∧
    (let p := reply 0x10 stOk 8 (List.replicate 128 9)
     (owing 1).ep.brings 7 p p = true ∧ ((owing 1).ep.takeIn 7 p).src.reqs.any (fun r => r.matches_ p && !r.wellAnswered p) = true ∧ hall.ep.portOpen 0 p.vc = false ∧ ({ p with tag := 0 } : Packet).crcOk = false ∧ ((owing 1).ep.takeIn 7 (forged p)).opened 7 (forged p) = none ∧ (forged p).crcOk = true) ∧
    (hall.ep.src.reqs = [] ∧ hall.ep.node ≠ 1 ∧ statusListed 0xFFFF = false ∧ statusListed stBounds = true) ∧
    (hall.ep.byTag 0 = none ∧ (owing 1).ep.byTag 262143 = some (owed 1) ∧ (owing 1).ep.rspTimeout = 100 ∧ (owing 1 99).ep.c.pick < 0 + (owing 1).ep.rspTimeout ∧ 0 + (owing 1 100).ep.rspTimeout ≤ (owing 1 100).ep.c.pick) ∧
    ((owed 1 1).timeouts < 2 ∧ (owed 1 1).plane ≠ selfPlane ∧ (owed 1 1).op ≠ opMsgSend ∧ 2 ≤ (owed 1 2).timeouts ∧ (owed 1 1 selfPlane).plane = selfPlane) ∧
    ((owing 1 64).ep.portDown 7 = false ∧ (owing 1 64 0 0).ep.portDown 0 = true ∧ 0 + 64 ≤ (owing 1 64 0 0).ep.c.pick ∧ (owed 1).live = true) := by
  decide +kernel

/-- The hall with one request of engine 287 issued and not sent. -/
def asking (fenced : Option Nat := none) (dst : Nat := 1) : State :=
  hall (fun e => { e with src := { e.src with fencedEpoch := fenced, reqs := [{ id := 0, engine := 287, op := 1, dst := dst, woff := 0, len := 64 }] } })

/-- The hall with one message of engine 287 issued for node 1 of a domain. -/
def posting (domain : Nat) : State := { hall with ep := hall.ep.issueMsg 287 { domain := domain, node := 1, queue := 255, data := [3] } }

/-- A message of node 1. -/
def letter (replay : Bool) (len : Nat := 4) : Packet := Packet.seal { op := opMsgSend, vc := 7, src := 1, dst := 7, pitch := 1, len := len, seq := 4095, woff := 255 * 2 ^ 20 + 63 * 2 ^ 12, data := List.replicate (lenBytes len) 3, flags := { replay := replay } }

theorem witness_RequestsAndMessagesGoInOrder :
    (hall.heldPart .ep = false ∧ ([] : List Byte).length = 0 ∧ 256 < (List.replicate 257 (0 : Byte)).length ∧ 0 < ([3] : List Byte).length ∧ (List.replicate 256 (0 : Byte)).length ≤ 256) ∧
    (hall.ep.nextToSend 287 = none ∧ (asking.ep.nextToSend 287).isSome = true ∧ asking.ep.src.fencedEpoch = none ∧ (asking (some 5)).ep.src.fencedEpoch.isSome = true ∧ ((asking (some 5)).ep.nextToSend 287).isSome = true) ∧
    (let r : SrcReq := { id := 0, engine := 287, op := 1, dst := 1, woff := 0, len := 64 }
     asking.ep.nextToSend 287 = some r ∧ r.dst ≠ asking.ep.node ∧ r.message = false ∧ asking.ep.planeOf 1 0 = some 7 ∧ asking.ep.flowFor r 7 = none ∧ asking.ep.held r 7 1 = false ∧ asking.ep.tagFree 287 = true ∧
     (let s : State := { asking with ep := { asking.ep with c := { asking.ep.c with ports := [] } } }
      s.ep.nextToSend 287 = some r ∧ s.ep.planeOf 1 0 = none ∧ s.ep.src.fencedEpoch = none) ∧
     (let s := fun (f : FenceRun) => ({ asking with ep := { asking.ep with src := { asking.ep.src with fences := [f] } } } : State)
      (s { engine := 287 }).ep.nextToSend 287 = some r ∧ (s { engine := 287 }).ep.src.fences.any (fun f => f.engine == r.engine && decide (f.before ≤ r.id)) = true ∧
      (s { engine := 287, before := 1 }).ep.src.fences.any (fun f => f.engine == r.engine && decide (f.before ≤ r.id)) = false)) ∧
    (((asking none 7).ep.nextToSend 287).any (fun r => r.dst == (asking none 7).ep.node && !r.message && !(asking none 7).ep.held r selfPlane 1) = true) ∧
    (((posting 0).ep.nextToSend 287).any (fun r => r.message && (posting 0).ep.msgPlane (bits r.woff 51 40) r.dst 0 == some 7 && !(posting 0).ep.held r 7 7) = true ∧ (posting 0).ep.tagFree 287 = true ∧
      ((posting 9).ep.nextToSend 287).any (fun r => r.message && bits r.woff 51 40 == 9) = true) := by
  decide +kernel

theorem witness_RequestsAndMessagesGoInOrder_received :
    (let p := letter
     taken hall (p true) = true ∧ taken hall (p false) = true ∧ (hall.ep.takeIn 7 (p false)).confidential = false ∧ msgLegal 7 (p false) = true ∧ msgLegal 7 (p true) = true ∧ hall.ep.serving = true ∧ (hall.ep.rxq 255).jobs = [] ∧
     hall.ep.portOpen 0 7 = false ∧ ({ p true with tag := 5 } : Packet).crcOk = false ∧ (hall.ep.takeIn 7 (forged (p true))).opened 7 (forged (p true)) = none ∧ (forged (p true)).crcOk = true ∧
     (let s := hall (fun e => { e with home := { e.home with senders := [(1, { seqs := [4095] })] } })
      taken s (p true) = true ∧ Tab.find (s.ep.takeIn 7 (p true)).home.senders (msgSender (p true)) = some { seqs := [4095] }) ∧
     (let s := hall (fun e => { e with home := { e.home with rq := [(255, { jobs := [{ pkt := p false, plane := 3, arrival := 0 }] })] } })
      taken s (p true) = true ∧ ((s.ep.takeIn 7 (p true)).rxq (p true).msgQueue).jobs.any (fun j => msgSender j.pkt == msgSender (p true) && j.pkt.seq == (p true).seq) = true) ∧
     (let s := hall (fun e => { e with c := { e.c with sec := { e.c.sec with scrubOn := true } } })
      s.ep.brings 7 (p false) (p false) = true ∧ (s.ep.takeIn 7 (p false)).serving = false) ∧
     (let s := hall (fun e => { e with c := { e.c with rf := { e.c.rf with cur := [(0xF0000, 0x11)] ++ e.c.rf.cur.filter (fun x => x.1 != 0xF0000) } } })
      (s.ep.takeIn 7 (p false)).confidential = true ∧ (p false).flags.encrypted = false ∧ (p false).msgSrcDomain = (s.ep.takeIn 7 (p false)).domain ∧ s.ep.brings 7 (p false) (p false) = true) ∧
     taken hall (letter false 8) = true ∧ msgLegal 7 (letter false 8) = false) ∧
    (let s := fun (pick : Nat) => hall (fun e => { e with c := { e.c with time := { e.c.time with pick := pick } }, home := { e.home with senders := [(1048575, {})] } })
     Tab.find (s 0).ep.home.senders 0 = none ∧ Tab.find (s 999).ep.home.senders 1048575 = some {} ∧ (s 999).ep.c.pick < 0 + 1000 ∧ 0 + 1000 ≤ (s 1000).ep.c.pick) := by
  decide +kernel

theorem witness_CachedLinesNeverOutliveTheirEvents :
    (let r : SrcReq := { id := 0, engine := 0, op := 6, dst := 255, woff := 15 * 2 ^ 48 + 2 ^ 48 - 64, data := maskedData (List.replicate 64 1) 1 }
     isStore r.op = true ∧ r.lines = [2 ^ 42 - 1]) ∧
    (bit 0 0 = false ∧ bit 0 1 = false ∧ bit 0 2 = false ∧ bit 1 0 = true ∧ (bit 2 0 = false ∧ bit 2 1 = true ∧ bit 2 2 = false) ∧ (bit 4 0 = false ∧ bit 4 1 = false ∧ bit 4 2 = true) ∧ bit 6 1 = true ∧ bit 6 2 = true) ∧ (127 < 128) ∧ (0x34000 ≤ 0x37FFC ∧ 0x37FFC < 0x38000 ∧ 0x37FFC % 4 = 0) ∧ st.heldPart .ep = false ∧
    (let f : FenceRun := { engine := 287, before := 1, areq := some 0 }
     let g : FenceRun := { engine := 287, before := 1 }
     let s := fun (l : List FenceRun) => hall (fun e => { e with src := { e.src with fences := l } })
     (s []).ep.src.fences.find? (fun f => f.engine == 287 && (s []).ep.fenceReady f) = none ∧ (s [f]).ep.src.fences.find? (fun x => x.engine == 287 && (s [f]).ep.fenceReady x) = some f ∧ f.areq = some 0 ∧
     (s [g]).ep.src.fences.find? (fun x => x.engine == 287 && (s [g]).ep.fenceReady x) = some g ∧ g.areq = none) := by
  decide +kernel

/-! ### Witnesses: the host attachment -/

/-- An end-point with module 3 attached and context 255 enabled on it, privileged, in address space 63; what it holds changed. -/
def attached (f : EpState → EpState := id) : State :=
  let s := regs .ep [(0x813FC, 1 + 2 + 3 * 4 + 63 * 16), (0x80000, 0xF0)]
  { s with ep := f { s.ep with lha := { s.ep.lha with attached := [3], trained := [3] } } }

/-- A message of the accelerator on module 3. -/
def word (mop : Nat) (len : Nat := 0) (addr : Nat := 0) (data : List Byte := []) : LhaMsg :=
  { module := 3, mop := mop, ctx := 255, asid := 63, len := len, addr := addr, data := data, tag := 65535 }

/-- A message of another channel. -/
def told (chan mop : Nat) (len : Nat := 0) (addr : Nat := 0) (data : List Byte := []) : LhaMsg :=
  { module := 3, chan := chan, mop := mop, len := len, addr := addr, data := data, tag := 65535 }

theorem witness_DirectAccessesAreTakenOrRefused :
    attached.heldPart .ep = false ∧
    ([word 1 16, word 2 4 0xFC0 (List.replicate 64 1), word 3 5 0 (List.replicate 72 1 ++ List.replicate 8 0), word 4 4 0 (addTo 2), word 5, word 6, word 7 0 0xC0000, word 8 1 0xC0000 (List.replicate 16 0), word 8 1 0xE0030 (List.replicate 16 0)].all
      (fun m => areqBad m == none && (attached.ep.owe m).areqRefusal m == 0) = true) ∧
    managedPage (0xC0000 / 0x1000) = true ∧ managedPage (0xE0030 / 0x1000) = false ∧
    areqBad (word 1 5) = some 75 ∧ (attached.ep.owe { word 1 16 with asid := 0 }).areqRefusal { word 1 16 with asid := 0 } = 4 ∧ (attached.ep.owe { word 1 16 with module := 0 }).areqRefusal { word 1 16 with module := 0 } = 2 ∧
    (let s := attached (fun e => { e with c := { e.c with rf := { e.c.rf with cur := [(0x813FC, 1 + 3 * 4 + 63 * 16)] } } })
     (s.ep.owe (word 7)).areqRefusal (word 7) = 8 ∧ areqBad (word 7) = none) ∧
    (let x : Ereq := { id := 0, purp := .walk 0, mop := 0x21, addr := 0, len := 4, module := 3, tag := 65535, sent := true }
     let s := attached (fun e => { e with lha := { e.lha with ereqs := [x] } })
     lhaOther (told 1 0x31 4 0 (List.replicate 64 0)) = true ∧ (s.ep.owe (told 1 0x31)).lha.ereqs.find? (fun x => x.sent && x.module == 3 && x.tag == 65535 && arspOf x.mop == 0x31) = some x ∧
     lhaOther (told 1 0x31 8 0 (List.replicate 128 0)) = true ∧ lhaOther (told 1 0x32) = true ∧ (s.ep.owe (told 1 0x32)).lha.ereqs.find? (fun x => x.sent && x.module == 3 && x.tag == 65535 && arspOf x.mop == 0x32) = none ∧
     lhaOther (told 1 0x33) = false ∧ lhaOther (told 1 0x33 4 0 (List.replicate 64 0)) = true) ∧
    (word 9).chan = 0 ∧ areqBad (word 9) = some 120 ∧ (told 7 0x76).chan = 7 ∧ lhaOther (told 7 0x76) = false := by
  decide +kernel

theorem witness_ModulesAttachAndAreLost :
    (flag (attached.ep.c.rd 0x80000) (4 + 3) = true ∧ attached.ep.lha.attached.contains 3 = true ∧ st.ep.lha.attached.contains 3 = false ∧ flag (attached.ep.c.rd 0x80000) (4 + 0) = true) ∧
    (let s := fun (pick : Nat) => attached (fun e => { e with c := { e.c with time := { e.c.time with pick := pick } }, lha := { e.lha with attached := [], offered := [(3, 0)] } })
     Tab.find (s 0).ep.lha.offered 0 = none ∧ Tab.find (s 0).ep.lha.offered 3 = some 0 ∧ (s 0).ep.lha.trained.contains 3 = true ∧ (s 0).ep.lha.joining.contains 3 = false ∧ (s 999).ep.c.pick < 0 + 1000 ∧ 0 + 1000 ≤ (s 1000).ep.c.pick ∧
     (let acc := told 7 0x73 1 0 (beBytes (1 * 2 ^ 124 + 3 * 2 ^ 122 + 0xFFFF) 16)
      let no := told 7 0x73 1 0 (beBytes (3 * 2 ^ 122) 16)
      lhaOther acc = true ∧ lhaOther no = true ∧ bits (cellOf acc.data 0) 123 122 = 3 ∧ bits (cellOf acc.data 0) 121 96 = 0 ∧ bits (cellOf acc.data 0) 127 124 ≠ 0 ∧ bits (cellOf no.data 0) 127 124 = 0 ∧
      (Tab.find (s 0).ep.lha.offered 3).isSome = true ∧ (s 0).ep.lha.lost.contains 3 = false ∧ (s 0).ep.lha.attached.contains 3 = false ∧ ({ (s 0).ep.lha with lost := [3] } : Lha).lost.contains 3 = true ∧
      bits (cellOf (told 7 0x73 1 0 (beBytes (2 * 2 ^ 122) 16)).data 0) 123 122 ≠ 3 ∧ (attached.ep.lha.attached.contains 3 = true) ∧ lhaOther (told 7 0x72) = false)) ∧
    (let s := attached (fun e => { e with c := { e.c with time := { e.c.time with pick := 200 } }, lha := { e.lha with ereqs := [{ id := 0, purp := .walk 0, mop := 0x21, addr := 0, len := 4, module := 3, sent := true }] } })
     (s.ep.lha.ereqs.any (fun e => e.sent && e.module == 3 && decide (e.sentPick + 200 ≤ s.ep.c.pick))) = true ∧ (s.ep.lha.ereqs.any (fun e => e.sent && e.module == 0 && decide (e.sentPick + 200 ≤ s.ep.c.pick))) = false ∧ 199 < 0 + 200) ∧
    (attached.ep.lha.attached = [3] ∧ attached.ep.lha.ereqs = []) ∧
    (let s := attached (fun e => { e with lha := { e.lha with attached := [0, 3] } })
     s.ep.lha.attached.contains 3 = true ∧ 0 ∈ s.ep.lha.attached ∧ s.ep.lha.ereqs = []) ∧
    (lhaOther (told 7 0x71) = true ∧ lhaOther (told 7 0x71 0 (2 ^ 60)) = false ∧ lhaOther (told 7 0x74) = true ∧ lhaOther (told 7 0x75) = false) ∧
    (let s := attached (fun e => { e with lha := { e.lha with quiescing := true, owesDone := true } })
     s.ep.lha.quiescing = true ∧ s.ep.lha.owesDone = true ∧ s.ep.lha.ereqs = [] ∧ s.ep.lha.areqs = [] ∧ s.ep.lha.ersp = [] ∧ s.ep.c.sec.scrubTo = none) ∧ (attached.ep.lha.notes = [] ∧ attached.ep.lha.pauseEnd = none) ∧ attached.ep.lha.quiescing = false ∧
    (let s := fun (pick : Nat) => attached (fun e => { e with c := { e.c with time := { e.c.time with pick := pick } }, lha := { e.lha with pauseEnd := some 100 } })
     (s 99).ep.lha.pauseEnd = some 100 ∧ (s 99).ep.c.pick < 100 ∧ 100 ≤ (s 100).ep.c.pick ∧ (s 100).ep.lha.joining = []) ∧
    (let n : Note := { kind := 0, source := 0 }
     let s := fun (h : Nat) => attached (fun e => { e with lha := { e.lha with notes := [n], cred := [(11, { hdr := h, cells := 1 })] } })
     (s 0).ep.lha.attached = 3 :: [] ∧ (s 0).ep.lha.notes = [n] ∧ ((s 0).ep.lha.credit (3 * 3 + 2)).hdr = 0 ∧ ((s 1).ep.lha.credit (3 * 3 + 2)).hdr ≠ 0 ∧ ((s 1).ep.lha.credit (3 * 3 + 2)).cells ≠ 0) := by
  decide +kernel

/-! ### Witnesses: copy engines and translation -/

/-- An end-point whose engine 31 stands so. -/
def geared (g : CopyEngine) (l : List (Nat × Reg) := []) : State :=
  let s := regs .ep l
  { s with ep := { s.ep with ces := [(31, g)] } }

/-- A descriptor: operation, flags, row bytes, rows, AUX0. -/
def desc (op flags rowBytes rows : Nat) (aux : Nat := 0) (tail : List Byte := []) : CeJob :=
  { idx := 0, fetched := true, bytes := [BitVec.ofNat 8 op, BitVec.ofNat 8 flags] ++ List.replicate 22 0 ++ leBytes rowBytes 4 ++ leBytes rows 4 ++ List.replicate 16 0 ++ leBytes aux 8 ++ List.replicate 8 0 ++ tail }

/-- A descriptor that has issued everything. -/
def issued (j : CeJob) : CeJob := { j with started := true, issuedAll := true }

theorem witness_EngineStatesFollowTheirTable :
    ((geared { st := .idle }).heldPart .ep = false ∧ ((geared { st := .idle }).ep.ce 31).st = .idle ∧ ((geared { st := .faulted }).ep.ce 31).st = .faulted ∧ ((geared { st := .aborting }).ep.ce 31).st = .aborting ∧
      ((geared { st := .running }).ep.ce 31).st = .running ∧ ((geared {}).ep.ce 31).st = .disabled) ∧
    (let s := geared { st := .running, jobs := [desc 6 0 1 1] }
     s.ep.src.reqs = [] ∧ s.ep.lha.ereqs = [] ∧ (desc 6 0 1 1).finished = false ∧ (desc 6 0 1 1).code = 0 ∧ (issued (desc 6 0 1 1)).finished = true) ∧
    (let g : CopyEngine := { st := .idle, prod := 2 ^ 32 - 1, cons := 2 ^ 32 - 1 }
     ringSlots ((geared g).ep.c.rf' (ceA 31 0) 20 16) = 16 ∧ (15 + 2 ^ 32 - g.cons) % 2 ^ 32 = 16 ∧ (16 + 2 ^ 32 - g.cons) % 2 ^ 32 = 17 ∧ (g.prod + 2 ^ 32 - g.cons) % 2 ^ 32 = 0) ∧
    (let j := issued (desc 6 0 1 1)
     let r := issued (desc 6 1 1 1)
     j.final = 0 ∧ j.flag 0 = false ∧ r.finished = true ∧ r.flag 0 = true ∧ { j with code := 5 }.final = 5 ∧ (geared {}).ep.slotOk 31 j = true ∧ ((geared { jobs := [j, r] }).ep.ce 31).jobs = j :: [r] ∧ ((geared {}).ep.ce 31).jobs = [] ∧
     ringSlots (fld ((geared { jobs := [r] }).ep.c.rd (ceA 31 0)) 28 24) = 16 ∧ (15 + 2 ^ 32 - ((geared { jobs := [r] }).ep.c.rd (ceA 31 0x24)).toNat) % 2 ^ 32 < 16 ∧ 16 ≤ (16 + 2 ^ 32 - ((geared { jobs := [r] }).ep.c.rd (ceA 31 0x24)).toNat) % 2 ^ 32) ∧
    (let m := issued (desc 1 16 1 1)
     m.measured = true ∧ m.final = 0 ∧ { m with code := 1 }.final ≠ 0 ∧ m.finished = true ∧ (geared {}).ep.slotOk 31 m = false ∧ (Tab.get st.ep.meas {} 0).frozen = false ∧ ({ frozen := true } : MeasSlot).frozen = true ∧ (desc 1 0 1 1).measured = false) := by
  decide +kernel

/-- A descriptor of the quantiser: one row of a group's bytes, binary32 to binary32. -/
def quant (tail : List Byte) : CeJob := desc 2 0 128 1 0 (List.replicate 24 0 ++ tail ++ List.replicate (40 - tail.length) 0)

theorem witness_DescriptorsIssueInOrder :
    (let go := fun (l : List CeJob) => geared { st := .running, jobs := l }
     ((go []).ep.ceNext 31 = none ∧ (geared { st := .faulted, jobs := [desc 6 0 1 1] }).ep.ceNext 31 = none ∧ (desc 1 0 1 1).op ≠ 6) ∧
     ([desc 1 0 1 1, desc 3 0 1 1 0x001, desc 4 0 8 1, desc 5 0 1 1, desc 6 0 1 1].all (fun j => !j.invalid && (go [j]).ep.ceNext 31 == some j && (go [j]).ep.slotOk 31 j) = true) ∧
     (let j := quant []
      j.op = 2 ∧ j.qInvalid = false ∧ st.ep.quUnits.isEmpty = false ∧ (go [j]).ep.ceNext 31 = some j ∧ (go [j]).ep.qWaits 31 j = false ∧ (go [j]).ep.slotOk 31 j = true ∧
      (regs .ep [(0x7000C, 0xFF)]).ep.quUnits.isEmpty = true ∧
      (let k := { j with idx := 1, started := true, issuedAll := true, left := 1 }
       (go [k, j]).ep.ceNext 31 = some j ∧ (go [k, j]).ep.qWaits 31 j = true) ∧
      (let q := desc 2 0 1 2 0 (List.replicate 64 0)
       q.qInvalid = true ∧ q.op = 2 ∧ (go [q]).ep.ceNext 31 = some q)) ∧
     ([desc 1 0 0 1, desc 3 0 8 1, desc 4 0 3 1, desc 5 8 1 1, desc 6 64 1 1, desc 6 0 0 0].all (fun j => j.invalid && (go [j]).ep.ceNext 31 == some j) = true) ∧
     (let j := desc 1 16 1 1
      j.invalid = false ∧ (go [j]).ep.slotOk 31 j = false ∧ (go [j]).ep.ceNext 31 = some j)) := by
  decide +kernel

/-- An end-point with translation commands. -/
def queued (l : List XqCmd) (streams : List (Nat × Nat × Nat) := []) (pick : Nat := 0) : State :=
  { st with ep := { st.ep with c := { st.ep.c with time := { st.ep.c.time with pick := pick } }, xlt := { st.ep.xlt with cmds := l, streams := streams } } }

theorem witness_TranslationCommandsBlockDropAndEnd :
    (let s := regs .ep [(0x60000, 1), (0x61000, 1)]
     let e : EpState := { s.ep with xlt := { s.ep.xlt with cmds := [{ slot := 0, st := .draining, blocking := true, va := 2 ^ 48 - 65536, length := 65536 }] } }
     2 ^ 48 - 1 < 2 ^ 48 ∧ flag (e.c.rd 0x60000) 0 = true ∧ e.root 0 = some 0 ∧ e.blockedRange 0 (2 ^ 48 - 1) 1 = true) ∧
    (let s := regs .ep [(0x60028, 1)]
     flag (s.ep.c.rd 0x60028) 0 = true ∧ ringSlots (fld (s.ep.c.rd 0x60028) 12 8) = 16 ∧ (16 + 2 ^ 32 - s.ep.xlt.cons) % 2 ^ 32 ≤ 16 ∧ flag (st.ep.c.rd 0x60028) 0 = false ∧ 16 < (17 + 2 ^ 32 - s.ep.xlt.cons) % 2 ^ 32) ∧
    ([(1, 0), (2, 0), (3, 1), (3, 2), (3, 3), (3, 4), (3, 5)].all (fun x =>
      let c : XqCmd := { slot := 0, st := .waiting, cmd := x.1, kind := x.2, length := 65536 }
      (queued [c]).ep.xqFront == some c && (queued [c]).ep.xqMayStart c) = true) ∧
    (queued []).ep.xqFront = none ∧ (queued [{ slot := 0, cmd := 1 }]).ep.xqMayStart { slot := 0, cmd := 1 } = false ∧ (queued [] (List.replicate 16 (0, 0, 65536))).ep.xlt.streams.length = 16 ∧ (queued []).ep.xlt.streams.length < 16 ∧
    (let d : XqCmd := { slot := 0, st := .draining, cmd := 1 }
     let m : XqCmd := { slot := 0, st := .draining, cmd := 2 }
     (queued [d]).ep.xlt.cmds.find? (fun c => c.slot == 0) = some d ∧ (queued [d]).ep.undrained d = [] ∧ (queued [m]).ep.xlt.cmds.find? (fun c => c.slot == 0) = some m ∧ (queued [m]).ep.undrained m = []) ∧
    (let d : XqCmd := { slot := 0, st := .draining, cmd := 1, beforeReq := 1, va := 0, length := 65536 }
     let s : State := { queued [d] [] 64 with ep := { (queued [d] [] 64).ep with src := { reqs := [{ id := 0, engine := 287, op := 1, dst := 1, woff := 0, span := some (0, 0, 65536) }] } } }
     s.ep.xlt.cmds.find? (fun c => c.slot == 0) = some d ∧ s.ep.undrained d = [(32, some (0, 0, 65536))] ∧ d.blockAt + 64 ≤ s.ep.c.pick ∧ (queued [d] [] 63).ep.c.pick < d.blockAt + 64) ∧
    (let c : XqCmd := { slot := 0, st := .copying, va := 0, length := 65536, cursor := 65536 }
     (queued [c]).ep.xlt.cmds.find? (fun d => d.slot == 0) = some c ∧ c.va + c.length ≤ c.cursor ∧ ({ c with cursor := 65535 } : XqCmd).cursor < c.va + c.length ∧ c.leaves = [] ∧ c.st = .copying) ∧
    (let c : XqCmd := { slot := 0, st := .walking, cmd := 2, va := 2 ^ 48 - 65536, length := 131072, cursor := 2 ^ 48 }
     (queued [c]).ep.xlt.cmds.find? (fun d => d.slot == c.slot) = some c ∧ c.cursor < c.va + c.length ∧ 2 ^ 48 ≤ c.cursor ∧ (queued [c]).ep.root c.asid = none ∧ ({ c with cmd := 3 } : XqCmd).cmd ≠ 2) ∧
    (let m : XqCmd := { slot := 0, st := .draining, cmd := 2, length := 65536 }
     (queued [m]).ep.undrained m = [] ∧ 0 < m.length ∧ ({ m with length := 0 } : XqCmd).length = 0 ∧ (queued []).ep.xlt.cmds.find? (fun d => d.slot == 0) = none) := by
  decide +kernel

/-! ### Witnesses: collectives -/

/-- A switch with group 1023 of nodes 1 and 2 at ports 0 and 255, its handle 4095 for a program with an INTENT wait of 1,024 picks and a stall of 2, in a pick, with collectives. -/
def loom (op : Nat) (pick : Nat := 0) (colls : List CollRec := []) : State :=
  let s := regs .sw [(0x504004, 0x80000000), (0x504008, 0x800000FF), (0x74FFC0, 1), (0x74FFD0, 6), (0x717FF8, BitVec.ofNat 32 (0x3FF01 + op * 2 ^ 24)), (0x717FFC, 0x20001)]
  { s with sw := { s.sw with c := { s.sw.c with time := { s.sw.c.time with pick := pick } }, colls := colls } }

/-- A collective of that handle. -/
def coll (op seq : Nat) (st : CollSt) (members : List CollMember) (count : Nat := 8192) : CollRec :=
  { handle := 4095, group := 1023, seq := seq, pitch := 0, st := st, firstPick := some 0, members := members, dig := (op * 2 ^ 120 + 1 * 2 ^ 72 + count, 0) }

/-- A packet of node 1 for the collective. -/
def thread (op chunk seq len : Nat) (data : List Byte) : Packet :=
  Packet.seal { op := op, vc := 5, src := 1, len := len, woff := collWoff 4095 1023 chunk, seq := seq % 4096, data := data }

/-- An `INTENT` of a sequence, and an `ABORT` of a kind. -/
def intent (seq : Nat) : Packet := thread 0x22 0 seq 4 (beBytes 0 16 ++ beBytes 0 16 ++ beBytes (seq * 2 ^ 96) 16 ++ beBytes 0 16)
/-- The same of `ABORT`. -/
def stop (kind seq : Nat) : Packet := thread 0x25 0 seq 4 (ctrlData (kind * 2 ^ 120 + seq * 2 ^ 64) 0)

theorem witness_CollectivesDecide :
    (let r := { coll 1 0 .gathering [{ node := 1, intent := some (2 ^ 120 + 2 ^ 72 + 8192, 0) }, { node := 2, intent := some (2 ^ 120 + 2 ^ 72 + 8192, 0) }] with cause := none }
     r.members ≠ [] ∧ r.cause = none ∧ r.members.all (fun m => m.intent == some (2 ^ 120 + 2 ^ 72 + 8192, 0)) = true ∧ (loom 1).sw.refused { r with decided := true, dig := (2 ^ 120 + 2 ^ 72 + 8192, 0), fullPick := some 0 } = false ∧
     (loom 2).sw.refused { r with decided := true, dig := (2 ^ 120 + 2 ^ 72 + 8192, 0), fullPick := some 0 } = true) ∧
    (({ node := 1, intent := some (0, 0) } : CollMember).intent.getD (0, 0) ≠ ({ node := 2, intent := some (0, 1) } : CollMember).intent.getD (0, 0)) ∧
    (let r := coll 8 0 .running [{ node := 1, received := true }, { node := 2, received := true }]
     (loom 8 0 [r]).sw.complete r = true) ∧ (coll 8 0 .running []).cause.isSome = false := by
  decide +kernel

theorem witness_IntentsAreGathered :
    (let d : Nat × Nat := (2 ^ 120 + 2 ^ 72 + 8192, 0)
     let one := coll 1 0 .gathering [{ node := 1 }, { node := 2, intent := some d }]
     let two := coll 1 0 .gathering [{ node := 1 }, { node := 2 }]
     let set := fun (r : CollRec) => r.modMember 0 (fun m => { m with intent := some d })
     one.st = .gathering ∧ one.decided = false ∧ (one.members.getD 0 { node := 0 }).intent = none ∧ (set one).members.all (fun x => x.intent.isSome) = true ∧ (set two).members.any (fun x => x.intent.isNone) = true ∧
     (set one).st = .gathering ∧ ((set one).members.getD 0 { node := 0 }).intent.isSome = true ∧ (coll 1 0 .running []).st ≠ .gathering ∧ one.cause = none ∧ (one.abort { state := 0x11, node := 1, count := 1 }).cause.isSome = true) := by
  decide +kernel

theorem witness_SwitchGathersDigestsAndStagesChunks :
    (let s := loom 1
     s.heldPart .sw = false ∧ s.sw.passes 0 (intent 0) = true ∧ (intent 0).crcOk = true ∧ ({ intent 0 with seq := 1 } : Packet).crcOk = false ∧ (badHeader (intent 0)).isSome = false ∧ (intent 0).len = 4 ∧ (intent 0).collHandle = 4095 ∧ (intent 0).collGroup = 1023 ∧
       s.sw.passes 255 (intent 0) = false ∧ 256 ≤ 287 ∧ (badHeader ({ intent 0 with vc := 1 } : Packet).seal).isSome = true ∧ (thread 0x22 0 0 8 []).len ≠ 4 ∧ (bits ((stop 0 5).cell 0) 127 120 ≠ 1)) ∧
    (belowBase 0 (2 ^ 32 - 1) = true ∧ belowBase 0 (2 ^ 31 - 1) = false ∧ belowBase 0 (2 ^ 31) = true ∧ inWindow 0 15 = true ∧ inWindow 0 16 = false) ∧
    (let w := ((loom 1).sw.mod (fun c => c.takeRx 0 (intent 15))).dispose 0 (intent 15)
     let rank := fun (n : Nat) => (w.c.groupNodes 1023).findIdx? (· == n)
     bits ((intent 15).cell 2) 127 96 = 15 ∧ (w.grp 1023).base = 0 ∧ ((w.grp 1023).record 15).isSome = false ∧ w.openColl 1023 15 = none ∧ w.c.handleFor 4095 1023 = true ∧ rank 1 = some 0 ∧ rank 2 = some 1 ∧ rank 9 = none ∧ w.c.handleFor 7 1023 = false) ∧
    (let r := coll 1 15 .gathering [{ node := 1 }, { node := 2 }]
     let w := ((loom 1 0 [r]).sw.mod (fun c => c.takeRx 0 (intent 15))).dispose 0 (intent 15)
     w.openColl 1023 15 = some r ∧ r.handle = 4095) ∧
    (loom 1).sw.c.groupNodes 1023 = [1, 2] ∧ st.sw.c.groupNodes 1023 = [] := by
  decide +kernel

theorem witness_AbortsAndContributions :
    (let r := coll 7 5 .running [{ node := 1, limit := 1, staged := [] }, { node := 2 }]
     let s := loom 7 0 [r]
     [1, 2, 3].map (fun k => bits ((stop k 5).cell 0) 127 120) = [1, 2, 3] ∧ bits ((stop 1 5).cell 0) 95 64 = 5 ∧ s.sw.passes 0 (stop 1 5) = true ∧ (badHeader (stop 1 5)).isSome = false ∧ s.sw.openColl 1023 5 = some r ∧ r.rank 1 = some 0 ∧
     (loom 7).sw.openColl 1023 5 = none ∧ [1, 2, 3].all (fun k => (stop k 5).crcOk && (stop k 5).len == 4) = true ∧ r.handle = 4095 ∧ (stop 1 5).collHandle = 4095 ∧ (s.sw.c.groupNodes 1023).contains 1 = true ∧ (s.sw.c.groupNodes 1023).contains 9 = false ∧
     r.st = .running ∧ (coll 7 5 .queued []).st ≠ .running ∧ r.rank 9 = none) ∧
    (let d : List Byte := List.replicate 256 7
     let r := fun (limit : Nat) (staged : Tab (List Byte)) => coll 7 5 .running [{ node := 1, limit := limit, staged := staged, top := 1 }, { node := 2 }]
     let p := { thread 0x20 1 5 0xF d with len := 0xF }
     p.collChunk = 1 ∧ (loom 7 0 [r 2 []]).sw.passes 0 p = true ∧ (loom 7 0 [r 2 []]).sw.collOf p = some (r 2 []) ∧ (loom 7).sw.collOf p = none ∧ ((r 2 []).members.getD 0 { node := 0 }).dup 1 = false ∧
     ((r 2 []).members.getD 0 { node := 0 }).dup 0 = true ∧ ((r 2 [(1, d)]).members.getD 0 { node := 0 }).dup 1 = true ∧ ((r 1 []).members.getD 0 { node := 0 }).limit ≤ 1 ∧ 1 < ((r 2 []).members.getD 0 { node := 0 }).limit ∧
     1 < (loom 7 0 [r 2 []]).sw.partOf (r 2 []) 0 ∧ (r 2 []).rank 1 = some 0 ∧ (r 2 []).rank 9 = none ∧ nativeOp (r 2 []).op = false ∧ nativeOp 1 = true ∧ (badHeader p).isSome = false) := by
  decide +kernel

theorem witness_ContributionCrc : (thread 0x20 1 5 0xF (List.replicate 256 7)).crcOk = true := seal_crcOk _

theorem witness_ContributionKey : (loom 7).sw.c.decrypt 0 (loom 7).sw.c.plane false { thread 0x20 1 5 0xF (List.replicate 256 7) with flags := { encrypted := true } } = none := by
  decide +kernel

theorem witness_WaitsAndStalls :
    (let r := coll 1 0 .gathering [{ node := 1 }]
     fld ((loom 1).sw.c.handleB 4095) 15 0 * 1024 = 1024 ∧ (loom 1 1024 [r]).sw.colls[0]? = some r ∧ r.handle = 4095 ∧ r.decided = false ∧ r.firstPick = some 0 ∧ 0 + 1024 ≤ (loom 1 1024 [r]).sw.c.pick ∧ (loom 1 1023 [r]).sw.c.pick < 0 + 1024 ∧ fld ((regs .sw [(0x717FFC, 0)]).sw.c.handleB 4095) 15 0 * 1024 = 0) ∧
    (let r := coll 1 0 .running [{ node := 1, silent := 2 }]
     fld ((loom 1).sw.c.handleB 4095) 31 16 = 2 ∧ r.members.any (fun m => decide (2 ≤ m.silent)) = true ∧ (coll 1 0 .running [{ node := 1, silent := 1 }]).members.any (fun m => decide (2 ≤ m.silent)) = false ∧ r.st = .running) := by
  decide +kernel

/-- The descriptor of a member: operation 1, format 0, plane 7 only; its first two bytes given. -/
def patternOf (a b : Nat) : List Byte := [BitVec.ofNat 8 a, BitVec.ofNat 8 b] ++ List.replicate 6 0 ++ [1] ++ List.replicate 5 0 ++ [0x80] ++ List.replicate 113 0

/-- The hall with member records and waiting descriptors, in a pick. -/
def membered (recs : List MemRec) (waiting : List (Nat × List Byte) := []) (pick : Nat := 0) (fenced : Option Nat := none) : State :=
  hall (fun e => { e with c := { e.c with time := { e.c.time with pick := pick } }, coll := { e.coll with recs := recs, waiting := waiting }, src := { e.src with fencedEpoch := fenced } })

/-- A started record of handle 0, group 0. -/
def mem (p : MemPlane) : MemRec := { id := 0, idx := 0, bytes := patternOf 0 0, started := true, planes := [(7, p)] }

/-- A packet of the switch of plane 7 for it. -/
def weft (op c0 c1 : Nat) : Packet := Packet.seal { op := op, vc := 6, src := 0, dst := 7, pitch := 1, len := 4, data := ctrlData c0 c1 }

theorem witness_MembersFollowTheirPlanes :
    (let r := mem { state := 0x11, commit := 5 }
     r.form true = some 0x11 ∧ 7 ∈ r.maskPlanes ∧ 0x10 ≤ (r.plane 7).state) ∧
    (ringSlots (hall.ep.c.rf' 0xA0000 20 16) = 16 ∧ 16 < (17 + 2 ^ 32 - hall.ep.coll.cons) % 2 ^ 32 ∧ (16 + 2 ^ 32 - hall.ep.coll.cons) % 2 ^ 32 ≤ 16 ∧ (hall.ep.coll.prod + 2 ^ 32 - hall.ep.coll.cons) % 2 ^ 32 ≤ 16) ∧
    ((membered []).ep.coll.waiting.find? (fun w => (membered []).ep.memMayStart ((membered []).ep.memFresh w)) = none) ∧
    (let w := (0, patternOf 0 0x10)
     let s := membered [] [w]
     s.ep.memInvalid (s.ep.memFresh w) = true ∧ s.ep.coll.waiting.find? (fun w => s.ep.memMayStart (s.ep.memFresh w)) = some w) ∧
    (let w := (0, patternOf 0 0)
     let s := membered [] [w] 0 (some 9)
     s.ep.memInvalid (s.ep.memFresh w) = false ∧ s.ep.coll.waiting.find? (fun w => s.ep.memMayStart (s.ep.memFresh w)) = some w ∧ s.ep.src.fencedEpoch.isSome = true ∧ (membered [] [w]).ep.src.fencedEpoch = none ∧
     (membered [] [w]).ep.memInvalid ((membered [] [w]).ep.memFresh w) = false ∧ (membered [] [w]).ep.coll.waiting.find? (fun w => (membered [] [w]).ep.memMayStart ((membered [] [w]).ep.memFresh w)) = some w) ∧
    (let p := weft opGrant (2 ^ 120) 0
     p.op ≠ opDone ∧ hall.ep.portOpen 7 p.vc = true ∧ hall.ep.portOpen 0 p.vc = false ∧ ({ p with crc := p.crc + 1 } : Packet).crcOk = false ∧ (forged p).crcOk = true ∧ ((membered []).ep.takeIn 7 (forged p)).opened 7 (forged p) = none) ∧
    (let r := mem { granted := true, next := 2 }
     let s := membered [r]
     [(opGrant, 1), (opGrant, 2), (opDone, 1), (opDone, 0xF), (opAbortNotice, 0x10), (opResend, 0)].all (fun x =>
       let p := weft x.1 (x.2 * 2 ^ 120) 0
       s.ep.brings 7 p p && (s.ep.takeIn 7 p).collFor 7 p == some r && ((membered []).ep.takeIn 7 p).collFor 7 p == none && ((membered []).ep.takeIn 7 p).strays p &&
       (let e := (membered [{ r with outcome := some 1 }]).ep.takeIn 7 p; e.collFor 7 p == none && !e.strays p) && bits (p.cell 0) 127 120 == x.2) = true ∧ (r.plane 7).state = 0 ∧ (r.plane 7).granted = true ∧
     ((mem {}).plane 7).granted = false ∧ ((mem { state := 1 }).plane 7).state ≠ 0) ∧
    (let r := { mem {} with waitFrom := some 0 }
     (membered [r]).ep.memRec 0 = some r ∧ r.live = true ∧ (mem {}).waitFrom = none ∧ (membered []).ep.c.rf' 0xA0028 15 0 = 10000 ∧ (membered [r] [] 9999).ep.c.pick < 0 + 10000 ∧ 0 + 10000 ≤ (membered [r] [] 10000).ep.c.pick) := by
  decide +kernel

theorem witness_ResultsCome :
    let r := mem {}
    let p : Packet := { op := opResult, vc := 6, src := 0, dst := 7, pitch := 1, len := 0xF, data := List.replicate 256 0 }
    (membered [r]).ep.brings 7 p.seal p.seal = true ∧ ((membered [r]).ep.takeIn 7 p.seal).collFor 7 p.seal = some r ∧ r.lists = false ∧ (membered [r]).ep.resultParts r 7 p.collChunk (r.plane 7).listLen = [] ∧ (r.plane 7).state = 0 ∧ ((mem { state := 1 }).plane 7).state ≠ 0 ∧ p.seal.len = 0xF ∧
      (membered [r]).ep.resultParts { r with bytes := r.bytes.set 17 0x20 } 7 0 none ≠ [] :=
  ⟨brings_seal _ _ _ (by decide +kernel) rfl, by decide +kernel, by decide +kernel, by decide +kernel, by decide +kernel, by decide +kernel, rfl, by decide +kernel⟩

/-! ### Witnesses: Bartas programs -/

/-- A switch whose context 15 of core 63 has a word at its program counter, with local registers, a scratch page and the changes given; the collective has members 1 and 2 and 64 KiB of DRAM in stack 1. -/
def bench (word : Nat) (regs : Tab Word64 := []) (f : BarCtx → BarCtx := id) (g : CollRec → CollRec := id) (paused : Bool := false) : State :=
  let r : CollRec := { handle := 4095, group := 1023, seq := 5, pitch := 0, st := .running, slot := 9, ctxs := [(63, 15)], members := [{ node := 1, top := 1, staged := [(0, List.replicate 256 7)] }, { node := 2, top := 1 }], dram := (1, 0, 65536), dig := (0x80 * 2 ^ 120 + 1 * 2 ^ 72 + 8192, 0) }
  let x : BarCtx := { slot := 9, idx := 0, regs := regs, scratch := [127], size := 32768 }
  { st with sw := { st.sw with c := { st.sw.c with pwr := { st.sw.c.pwr with paused := paused } }, progs := [(0, { code := [word, 0], stage := 1, wdog := 65535 })], colls := [g r], cores := [(63, { ctxs := [(15, f x)] })] } }

/-- The context issues the word. -/
def issues (word : Nat) : Bool := ((bench word).issuing 63 15 word).isSome

/-- The context as it issues, with registers. -/
def run (word : Nat) (regs : Tab Word64) : BarRun := (((bench word regs).issuing 63 15 word).getD { s := {}, k := 0, cx := 0, x := { slot := 0, idx := 0 }, r := { handle := 0, group := 0, seq := 0, pitch := 0 } }).issued

theorem witness_ScalarsWriteOneRegister :
    ((List.range 16).all (fun f => issues (wordA 0 31 1 2 f)) && [1, 2, 3, 4].all (fun m => issues (wordI m 31 1 65535)) && issues (wordI 5 31 0 65535) && [6, 7].all (fun m => issues (wordI m 31 1 63)) && issues (wordA 0x3C 31 0 0 0)) = true ∧
    (bench 0).heldPart .sw = false ∧ (bench 0).issuing 63 15 1 = none ∧ legalWord (wordI 6 31 1 64) = false ∧ legalWord (wordA 0 31 1 2 16) = false ∧ (((run 0 []).s.core' 63).ctxs.map (·.1)) = [15] := by
  decide +kernel

theorem witness_BranchesStayInTheCode :
    ([8, 9, 0xA, 0xB, 0xC, 0xD].all (fun m => issues (wordI m 31 1 65535)) && issues (wordJ 0xE (2 ^ 26 - 1)) && issues (wordA 0xF 0 1 0 0) && issues (wordA 0x3E 0 0 0 0)) = true ∧
    ((run 0 []).prog.map (·.code.length)) = some 2 ∧ (let x : BarCtx := { slot := 9, idx := 0, wdog := 65535 }; let s := bench 0 [] (fun _ => x)
      Tab.find (s.sw.core' 63).ctxs 15 = some x ∧ (s.sw.slotColl 9).isSome = true ∧ ((s.sw.slotColl 9).bind (fun r => s.sw.userProg r.op)).map (·.wdog) = some 65535 ∧ x.stopped = false ∧ x.ended = false ∧ ({ x with wdog := 65534 } : BarCtx).wdog < 65535) ∧ Tab.find (st.sw.core' 63).ctxs 15 = none ∧
    (BitVec.ofNat 64 5 ≠ (0 : Word64) ∧ (BitVec.ofNat 64 (2 ^ 64 - 1)).toInt < (0 : Word64).toInt) := by
  decide +kernel

theorem witness_LoadsAndStoresReachTheirMemory :
    ([0x10, 0x11, 0x12, 0x13, 0x14, 0x15].all (fun m => issues (wordI m 31 1 0)) && issues (wordA 0x16 0 1 2 0) && issues (wordA 0x19 0 0 0 0) && issues (wordA 0x27 0 0 0 0) && [0, 1, 2].all (fun m => issues (wordV 0x18 3 1 0 2 m)) && issues (wordV 0x26 3 1 0 2 0)) = true ∧
    ((run 0 []).bytes 8 (32768 - 8) = some (List.replicate 8 0) ∧ (run 0 []).bytes 8 (32768 - 4) = none ∧ ((run 0 []).store (32768 - 8) (List.replicate 8 1)).isSome = true ∧ (run 0 []).store (32768 - 4) (List.replicate 8 1) = none) ∧
    ((run 0 []).range (32768 - 64) 64 = some (List.replicate 64 0) ∧ (run 0 []).range 32768 64 = none) ∧ ((run 0 []).r.dram.2.2 = 65536 ∧ 65528 % 8 = 0 ∧ 65528 + 8 ≤ 65536 ∧ 65536 < 65536 + 8 ∧ 65532 % 8 ≠ 0 ∧ 64 ≤ padBytes ∧ padBytes < 2 ^ 32) ∧
    (Tab.rising ((bench 0).sw.core' 63).lines = true ∧ [(1 : Byte), 2][1]? = some 2) := by
  decide +kernel

theorem witness_VectorStepsAreCheckedByResidues :
    ([0x21, 0x22, 0x23, 0x24].all (fun m => issues (wordV m 3 1 2 4 0)) && issues (wordV 0x20 3 1 0 4 0) && issues (wordV 0x25 3 1 2 0 0)) = true ∧ (8191 % 8192 ≠ 0 ∧ 63 % 64 ≠ 0 ∧ 7 % 8 ≠ 0) ∧ ([({} : List Pair), []].map (·.length)) = [0, 0] ∧
    Tab.find ((run 0 []).s.core' (run 0 []).k).ctxs (run 0 []).cx = some (run 0 []).x := by
  decide +kernel

theorem witness_ContextsWaitForChunksAndResults :
    ([0x30, 0x32].all (fun m => issues (wordA m 0 1 2 0)) && issues (wordA 0x31 0 0 2 0) && issues (wordA 0x33 3 1 0 0) && [0x36, 0x3F].all (fun m => issues (wordA m 0 0 0 0)) && issues (wordV 0x34 0 1 2 3 0) && issues (wordV 0x35 4 1 2 3 0)) = true ∧
    (let b := run 0 []
     let b2 := { b with r := { b.r with members := [{ node := 1 }, { node := 2 }] } }
     b.inPart 1 0 = true ∧ b.inPart 2 0 = false ∧ b.r.hasStaged 1 0 = true ∧ b.inPart 0 (b.s.partOf b.r 0) = false ∧ b.inPart 0 (b.s.partOf b.r 0 - 1) = true ∧ b2.r.hasStaged 0 0 = false ∧ b2.inPart 0 0 = true ∧ b.r.m = 2 ∧ b.reg 1 ≠ BitVec.allOnes 64 ∧
     b.s.ctxResultsLeft b.r b.x.idx = true ∧ b.range 0 256 = some (List.replicate 256 0) ∧ b.range 32768 256 = none ∧
     (run 0 [(1, BitVec.allOnes 64)]).reg 1 = BitVec.allOnes 64 ∧ b2.r.members.length = 2 ∧ 2 ≤ 2 ∧ 1 < b.r.m ∧ b.x.tripped = false ∧
     (let c : CollRec := { b.r with members := b.r.members.map (fun (m : CollMember) => { m with staged := [(0, List.replicate 256 7)] }) }
      (List.range c.m).all (fun j => b.inPart j 0 && c.hasStaged j 0) = true)) ∧
    (let s := bench 0
     let waiting := { s.sw with core := { s.sw.core with lane := [{ port := 0, pkt := { op := opResult, woff := collWoff 4095 1023 0, seq := 5 }, ord := 0 }] } }
     let r : CollRec := { ((s.sw.slotColl 9).getD { handle := 0, group := 0, seq := 0, pitch := 0 }) with results := [(0, 0)] }
     waiting.ctxResultsLeft r 0 = false) ∧
    Tab.find (st.sw.core' 63).ctxs 15 = none ∧
    (let y : BarCtx := { slot := 9, idx := 0, wait := some (.chunk 1 0) }
     let z : BarCtx := { slot := 9, idx := 0, wait := some .finish }
     let v : BarCtx := { slot := 9, idx := 0, wait := some (.chunk 1 1) }
     let s := bench 0 [] (fun _ => y)
     Tab.find (s.sw.core' 63).ctxs 15 = some y ∧ s.sw.c.pwr.paused = false ∧ (s.sw.slotColl 9).map (fun r => (s.sw.waitOver 63 y 15 r (.chunk 1 0), s.sw.waitOver 63 z 15 r .finish, s.sw.waitOver 63 v 15 r (.chunk 1 1))) = some (true, true, false) ∧
     ((bench 0).sw.core' 63).ctxs.map (fun e => e.2.wait) = [none]) := by
  decide +kernel

/-- A legal container of one `END`, its watchdog 5, with the key of its signature and r = s. -/
def signer : List Byte := [4] ++ beBytes 0x015048d8fd208866f05a3c8e8f04300d2f9e840509f95cb3adcb35289456f75ea5ac8f0c92c604ee9fc648ab7809d643 48 ++ beBytes 0xc4d5d119affee0575a98778683490998f8e6f4d1a9edf72009b78e5c8a64b3b2667f0d43d4d9750fb5ed3ae98c1014ca 48
/-- Its signature. -/
def mark : List Byte := beBytes 0x31f472e52a5132f9f6fe3a3fc03ca6c78976460a37919aec439c2b04c4a20cf7047192e8ab66eee2f42ce405ea545f1b 48
/-- The container. -/
def container : List Byte :=
  [0x42, 0x52, 0x54, 0x43, 1, 0, 0, 0] ++ leBytes 516 4 ++ leBytes 4 4 ++ leBytes 0 4 ++ leBytes 512 4 ++ [0, 1, 2, 0, 2, 0, 0, 0] ++ List.replicate 44 0 ++ leBytes 5 2 ++ List.replicate 178 0 ++
  leBytes 0xFC000000 4 ++ signer ++ List.replicate 7 0 ++ mark ++ mark ++ List.replicate 56 0

theorem witness_ContainerIsGood :
    (let s := regs .sw [(0x600004, 1)]
     let w : SwState := { s.sw with c := { s.sw.c with sec := { s.sw.c.sec with enrol := [(0, { signers := [sha384 signer] })] } } }
     w.loadCheck 63 0 container = none ∧ s.sw.loadCheck 63 0 container = some (0x0603, 0) ∧ Tab.find w.progs 63 = none) := by
  decide +kernel

/-- A piece of a container for slot 63: whether it is the last, its offset and bytes. -/
def piece (last off : Nat) (l : List Byte) (pitch : Nat := 0) : ZPacket := cmd .sw ([63, BitVec.ofNat 8 pitch, BitVec.ofNat 8 last, 0] ++ beBytes off 4 ++ l)

theorem witness_ProgramsAreCheckedBeforeTheyLoad :
    (let s : State := { st with sw := { st.sw with loads := [(63, { pitch := 0, bytes := [1, 2, 3, 4] })] } }
     [(0, 4), (1, 4), (0, 8), (0, 0), (1, 0)].all (fun x => s.accepts 0x0601 (piece x.1 x.2 [5, 6, 7, 8]) && pn (piece x.1 x.2 []).payload 4 4 == x.2) = true ∧ s.accepts 0x0601 (piece 0 4 [] 1) = true ∧ Tab.find s.sw.loads 63 = some { pitch := 0, bytes := [1, 2, 3, 4] } ∧
     pb (piece 1 4 []).payload 2 = 1 ∧ pb (piece 0 4 []).payload 2 ≠ 1 ∧ pb (piece 0 4 [] 1).payload 1 ≠ 0 ∧ (piece 0 4 []).part = .sw ∧ Tab.find st.sw.loads 63 = none ∧ st.accepts 0x0601 (piece 0 4 [5, 6, 7, 8]) = true) ∧
    (let z := cmd .sw [63, 0, 0, 0]
     let s := regs .sw [(0x717FF8, 0xBF000001)]
     s.accepts 0x0602 z = true ∧ lowest ((s.gated 0x0602 z).handlesOf (0x80 + 63)) = some 4095 ∧ st.accepts 0x0602 z = true ∧ lowest ((st.gated 0x0602 z).handlesOf (0x80 + 63)) = none ∧ Tab.find st.sw.progs 63 = none ∧
     (let t : State := { st with sw := { st.sw with progs := [(63, {})] } }
      Tab.find t.sw.progs 63 = some {} ∧ t.accepts 0x0602 z = true ∧ lowest ((t.gated 0x0602 z).handlesOf (0x80 + 63)) = none)) ∧
    (let s := fun (pick : Nat) => { (timed .locked pick none 0 none) with sw := { (timed .locked pick none 0 none).sw with loads := [(63, { pitch := 0, bytes := [1, 2, 3, 4] })] } }
     Tab.find (s 0).sw.loads 63 = some { pitch := 0, bytes := [1, 2, 3, 4] } ∧ (s 9999999).sw.c.pick < 0 + 10000000 ∧ 0 + 10000000 ≤ (s 10000000).sw.c.pick ∧ (s 0).heldPart .sw = false) ∧
    ((st.sw.c.engine 17).failed = false ∧ ((on .sw (fun c => { c with opt := { c.opt with engines := [(17, { failed := true })] } })).sw.c.engine 17).failed = true ∧ st.sw.stacksLost.contains 1 = false ∧ st.sw.stacksDue.contains 1 = false ∧
      ({ st.sw with stacksLost := [1] } : SwState).stacksLost.contains 1 = true) := by
  decide +kernel

/-! ### Witnesses: resilience -/

/-- A switch whose firmware stands so. -/
def ware (f : Firmware → Firmware) : State := on .sw (fun c => { c with fw := f c.fw })

/-- A signed image of version 4 and SVN 127: header, keys, signatures. -/
def imageSigner : List Byte := [4] ++ beBytes 0xd1ea0560095aa6b03e104a35e654a7efde165561e81f1794b038b7143a4d0aabb6aa42c4780ccc2a6841631cac72593d 48 ++ beBytes 0xd2e446babb0e09cb96f50a2510206f33337af883931b4e91b116e86f9d12c80cc0633ba466dfd35213ebee04a785b74e 48
/-- The vendor's key. -/
def imageRoot : List Byte := [4] ++ beBytes 0xa7e71a2116bd10b5597f0cef4a60d4538a5f376e5f78caadff0f6e3afcc540461b744b733330be35c504379446e2e2eb 48 ++ beBytes 0xe03c5803511563c606ede3e540fffbef8cda31afb2bb18e057209e239b56ff7e42165369659a271e71fca166327af67f 48
/-- The file. -/
def imageFile : List Byte :=
  let a := beBytes 0xeed9328e078c91b204fac28bad2212d0b632b577d22181a111077172d26f529a42cb1043b2fa797d5dfb4e5e174d2349 48
  let b := beBytes 0x4d6b6d2eac8578d414db7f1063ae2fa428b0fb69b42babd028ee657770cece724d1e17384593f700d06b05eac5481c8c 48
  [0x47, 0x4D, 0x57, 0x46, 1, 1, 127, 1] ++ leBytes 0 4 ++ leBytes 4 4 ++ List.replicate 240 0 ++ imageRoot ++ imageSigner ++ a ++ a ++ [0, 0] ++ b ++ b ++ List.replicate 4 0

/-- A switch that holds the file in staging and has booted, or has found no slot good. -/
def imageStaged (booted : Bool) : State :=
  on .sw (fun c =>
    let c := { c with fw := { c.fw with staging := some { total := 648, kind := 1, svn := 127, data := imageFile, erased := true } } }
    let c := { c with sec := { c.sec with bootOk := booted, vendorHashes := [(beBytes 0x32a995f4a8469eb997d07a79249ebbabad25ae54ef01bba06332dc51f4fc7b4a457cd2e39c437b72aaa55288a6eba158 48, false)] } }
    if booted then c else { c with biv := { c.biv with st := .bivouac } })

/-- FW_STAGE_END of it. -/
def stageEnd (session : Option Nat) : ZPacket := cmd .sw (beBytes 0xe5b222074f1ea8850f3481b41ab8230dd0b1c6b637ca06011fd351931c15608c6f2d37f1d653521d4b84dc74becdb36f 48) 0 0 session

theorem witness_ImageIsGood :
    (imageStaged true).accepts 0x0803 (stageEnd (some 1)) = true ∧ ((imageStaged true).gated 0x0803 (stageEnd (some 1))).stageBusy = none ∧ ((imageStaged true).gated 0x0803 (stageEnd (some 1))).failedBoot = false ∧
      ((imageStaged true).gated 0x0803 (stageEnd (some 1))).imageBad { total := 648, kind := 1, svn := 127, data := imageFile, erased := true } ((stageEnd none).payload.take 48) = none := by
  decide +kernel

theorem witness_ImageIsGood_failedBoot :
    (imageStaged false).accepts 0x0803 (stageEnd none) = true ∧ ((imageStaged false).gated 0x0803 (stageEnd none)).stageBusy = none ∧ ((imageStaged false).gated 0x0803 (stageEnd none)).failedBoot = true ∧
      ((imageStaged false).gated 0x0803 (stageEnd none)).imageBad { total := 648, kind := 1, svn := 127, data := imageFile, erased := true } ((stageEnd none).payload.take 48) = none := by
  decide +kernel

theorem witness_FirmwareStagesRunsOnTrialAndStays :
    (let z := fun (total kind : Nat) => cmd .sw (beBytes total 4 ++ [BitVec.ofNat 8 kind, 1, 0, 0])
     let s := ware (fun f => { f with trial := true })
     st.accepts 0x0801 (z (14 * 2 ^ 20) 1) = true ∧ st.accepts 0x0801 (z (14 * 2 ^ 20 + 4) 1) = true ∧ st.accepts 0x0801 (z 8 2) = true ∧ (st.gated 0x0801 (z 8 1)).stageBusy = none ∧ s.accepts 0x0801 (z 8 1) = true ∧ (s.gated 0x0801 (z 8 1)).stageBusy = some 0x15 ∧
     imageKind .sw = 1) ∧
    (let g : FwStaging := { total := 8, kind := 1, svn := 0 }
     let e : FwStaging := { g with erased := true }
     st.heldPart .sw = false ∧ (ware (fun f => { f with staging := some g })).sw.c.fw.staging = some g ∧ g.erased = false ∧ g.suspended = false ∧
     (let z := cmd .sw (beBytes 0 4 ++ beBytes 8 2 ++ [0, 0] ++ List.replicate 8 1)
      [st, ware (fun f => { f with staging := some g }), ware (fun f => { f with staging := some e }), ware (fun f => { f with trial := true })].all (fun s => s.accepts 0x0802 z) = true ∧ pn z.payload 0 4 = e.data.length ∧ pn z.payload 0 4 + pn z.payload 4 2 ≤ e.total) ∧
     (let z := cmd .sw (List.replicate 48 0)
      [st, ware (fun f => { f with staging := some e }), ware (fun f => { f with trial := true })].all (fun s => s.accepts 0x0803 z) = true ∧ ((ware (fun f => { f with staging := some e })).gated 0x0803 z).imageBad e (z.payload.take 48) = some 0x10)) ∧
    (let i : FwImage := { digest := List.replicate 48 9 }
     let z := fun (a : Nat) (d : Byte) => cmd .sw (beBytes a 8 ++ List.replicate 8 d)
     let s := ware (fun f => { f with staged := some i })
     st.accepts 0x0804 (z 0 9) = true ∧ (st.gated 0x0804 (z 0 9)).fwSame (List.replicate 8 9) = false ∧ (st.gated 0x0804 (z 0 9)).fw.staged = none ∧ s.accepts 0x0804 (z 999 9) = true ∧ s.accepts 0x0804 (z 1000 9) = true ∧ s.accepts 0x0804 (z 1000 8) = true ∧
     (s.gated 0x0804 (z 1000 9)).fw.staged = some i ∧ i.digest.take 8 = List.replicate 8 9 ∧ 999 < (s.gated 0x0804 (z 999 9)).pick + 1000 ∧ (s.gated 0x0804 (z 1000 9)).pick + 1000 ≤ 1000 ∧ (s.gated 0x0804 (z 1000 9)).test = none ∧
     ((on .sw (fun c => { c with test := some { kind := 1, unit := 0, chan := 0, start := 0 }, fw := { c.fw with staged := some i } })).gated 0x0804 (z 1000 9)).test.isSome = true ∧
     (let t := ware (fun f => { f with imgA := i })
      t.accepts 0x0804 (z 0 9) = true ∧ (t.gated 0x0804 (z 0 9)).fwSame (List.replicate 8 9) = true)) ∧
    ((ware (fun f => { f with pending := some 0 })).sw.c.fw.pending = some 0 ∧ (ware (fun f => { f with pending := some 1 })).sw.c.pick < 1 ∧ (ware (fun f => { f with trial := true })).sw.c.fw.trial = true ∧ st.sw.c.fw.trial = false) ∧
    (st.sw.c.mgmt.lineA = true ∧ st.sw.c.mgmt.lineA ≠ false ∧ st.sw.c.mgmt.lineB ≠ false ∧ st.heldPart .sw = false ∧ (on .sw (fun c => { c with biv := { c.biv with inReset := true } })).heldPart .sw = true) ∧
    ((ware (fun f => { f with pending := some 0 })).sw.c.pick = 0 ∧ st.sw.c.fw.pending = none ∧ (Tab.get st.sw.c.ledger.loss {} 0).times = 0 ∧ st.sw.c.mgmt.executing = []) ∧
    (let z := cmd .sw [0, 0, 1, 0]
     let r : LedgerRec := { day := 1 }
     let s := on .sw (fun c => { c with ledger := { c.ledger with records := [r] } })
     st.accepts 0x0321 z = true ∧ (st.gated 0x0321 z).ledger.records[pn z.payload 0 2]? = none ∧ s.accepts 0x0321 z = true ∧ (s.gated 0x0321 z).ledger.records[pn z.payload 0 2]? = some r) ∧
    (st.accepts 0x0320 (cmd .sw [] 1 287) = true ∧ lossKinds 1 = [1, 2]) := by
  decide +kernel

/-- A switch with scheduled membership changes, in a pick, its timebase in a state. -/
def sworn (l : List MembChange) (t : TimeState := .locked) (pick : Nat := 0) : State := on .sw (fun c => { c with stage := { c.stage with memb := l }, time := { c.time with st := t, pick := pick } })

/-- A `FENCE` and a `TAKEOVER` of node 255 to port 255. -/
def fence (epoch pick set : Nat) : ZPacket := cmd .sw (beBytes epoch 4 ++ beBytes pick 8 ++ beBytes set 32)
/-- The other. -/
def move (epoch pick : Nat) (port : Nat := 255) : ZPacket := cmd .sw ([255, 0] ++ beBytes port 2 ++ beBytes epoch 4 ++ beBytes pick 8)

theorem witness_FencesTakeoversAndUnitTestsAreAdmitted :
    (let m : MembChange := { pick := 2000, epoch := 5, fenced := 4 }
     (sworn []).accepts 0x0301 (fence 1 1000 2) = true ∧ fencedOf (fence 1 1000 2).payload 12 = 2 ∧ ((sworn []).gated 0x0301 (fence 1 1000 2)).fencedSet = 0 ∧ ((sworn []).gated 0x0301 (fence 1 1000 2)).membStale 1 1000 = false ∧ ((sworn [m]).gated 0x0301 (fence 5 3000 2)).membStale 5 3000 = true ∧
     ((sworn [m]).gated 0x0301 (fence 6 2000 2)).membStale 6 2000 = true ∧ ((sworn [m]).gated 0x0301 (fence 6 2001 2)).membStale 6 2001 = false ∧ m ∈ ((sworn [m]).gated 0x0301 (fence 5 0 4)).stage.memb ∧ (sworn [m]).accepts 0x0301 (fence 5 0 4) = true ∧
     (sworn (List.replicate 4 m)).accepts 0x0301 (fence 9 9000 2) = true ∧ (sworn [] .expired).accepts 0x0301 (fence 9 9000 2) = true ∧ ((sworn [] .expired).gated 0x0301 (fence 9 9000 2)).time.st = .expired ∧ (sworn [] .holdover).accepts 0x0301 (fence 9 60000001 2) = true ∧ 999 < ((sworn []).gated 0x0301 (fence 1 999 2)).pick + 1000 ∧ (sworn []).accepts 0x0301 (fence 1 999 2) = true ∧
      (List.replicate 4 m).length = 4 ∧ ((sworn [] .holdover).gated 0x0301 (fence 9 60000001 2)).pick + 60000000 < 60000001 ∧ (sworn []).accepts 0x0301 (fence 0 9 0) = true ∧ (((sworn []).gated 0x0301 (fence 0 9 0)).rd 0xA00040).toNat = 0) ∧
    (let m : MembChange := { pick := 1200, epoch := 5, fenced := 0, move := some (255, 255, 0) }
     let s := on .sw (fun c => { c with rf := { c.rf with cur := (List.range 256).map (fun i => (0x504000 + 4 * i, 0)) ++ [(0xA00060, 0x80000000)] }, time := { c.time with st := .locked } })
     (sworn [m]).accepts 0x0302 (move 5 1200) = true ∧ s.accepts 0x0302 (move 1 1000) = true ∧ s.accepts 0x0302 (move 1 1500) = true ∧ s.accepts 0x0302 (move 1 999) = true ∧ s.accepts 0x0302 (move 1 1501) = true ∧ (s.gated 0x0302 (move 1 1000)).fenced 255 = true ∧
     (s.gated 0x0302 (move 1 1000)).nodeAt 255 = none ∧ (s.gated 0x0302 (move 1 1000)).membStale 1 1000 = false ∧ ((sworn []).gated 0x0302 (move 1 1000)).fenced 255 = false ∧ (((sworn []).gated 0x0302 (move 1 1000 0)).nodeAt 0).isSome = true ∧
     (sworn [] .expired).accepts 0x0302 (move 1 1000) = true ∧ (sworn (List.replicate 4 m)).accepts 0x0302 (move 9 9000) = true ∧
     (let w := on .sw (fun c => { c with rf := { c.rf with cur := [(0xA00040, 5), (aliasA 255, 0x800000FF)] }, stage := { c.stage with last := some m } })
      w.accepts 0x0302 (move 5 1200) = true ∧ ((w.gated 0x0302 (move 5 1200)).rd 0xA00040).toNat = 5 ∧ (w.gated 0x0302 (move 5 1200)).aliasOf 255 = some 255 ∧ (w.gated 0x0302 (move 5 1200)).stage.last = some m)) := by
  decide +kernel

theorem witness_FencesTakeoversAndUnitTestsAreAdmitted_notices :
    (let p := fun (epoch f : Nat) => { mgmtPacket 0 7 1 1 (zBytes 2 0x0303 0 0 0 (beBytes epoch 4 ++ [BitVec.ofNat 8 f, 0, 0, 0])) with pitch := 1 }
     hall.ep.brings 7 (p 1 1) (p 1 1) = true ∧ (p 1 1).op = opMgmt ∧ [(1, 1), (1, 0)].all (fun x => noticeOk (p x.1 x.2).mgmtBody 0x0303 && membNoticeOk ((p x.1 x.2).mgmtBody.drop 16)) = true ∧ noticeOk (p 1 1).mgmtBody 0x0304 = false ∧
     membNoticeOk ((p 1 2).mgmtBody.drop 16) = false ∧ ({ hall.ep with src := { hall.ep.src with fencedEpoch := some 5 } } : EpState).src.fencedEpoch = some 5 ∧ hall.ep.src.fencedEpoch = none ∧
     (badHeader (p 1 1) = none ∧ lenAllowed (p 1 1) = true) ∧ pb ((p 1 1).mgmtBody.drop 16) 4 = 1 ∧ pb ((p 1 0).mgmtBody.drop 16) 4 ≠ 1 ∧ (call 1 0xF []).op ≠ opMgmt ∧ hall.ep.portOpen 0 (p 1 1).vc = false ∧ ({ p 1 1 with crc := (p 1 1).crc + 1 } : Packet).crcOk = false ∧
     (forged (p 1 1)).crcOk = true ∧ (hall.ep.takeIn 7 (forged (p 1 1))).opened 7 (forged (p 1 1)) = none ∧ hall.ep.portOpen 7 (forged (p 1 1)).vc = true) := by
  decide +kernel

theorem witness_FencesTakeoversAndUnitTestsAreAdmitted_tests :
    (let z := fun (kind chan index t : Nat) => cmd .sw [BitVec.ofNat 8 kind, BitVec.ofNat 8 chan, 0, 0] t index
     let t : TestRun := { kind := 2, unit := 8, chan := 0, start := 1024 }
     let s := on .sw (fun c => { c with test := some t })
     st.accepts 0x0310 (z 2 0 8 4) = true ∧ s.accepts 0x0310 (z 2 0 8 4) = true ∧ (s.gated 0x0310 (z 2 0 8 4)).test = some t ∧ s.accepts 0x0310 (z 1 0 63 5) = true ∧ (st.gated 0x0310 (z 2 0 8 4)).test = none ∧
     (let p := ware (fun f => { f with pending := some 2000 })
      p.accepts 0x0310 (z 2 0 8 4) = true ∧ (p.gated 0x0310 (z 2 0 8 4)).fw.pending.isSome = true) ∧
     ({ st.sw with c := st.gated 0x0310 (z 2 0 8 4) } : SwState).shaftBad t (1024 + 5000) = none ∧ ({ st.sw with c := st.gated 0x0310 (z 1 0 63 5) } : SwState).coreBad { kind := 1, unit := 63, chan := 0, start := 1024 } (1024 + 20000) = none ∧
     (let u := pt .sw 287 up
      st.accepts 0x0310 (z 3 33 287 1) = true ∧ (st.gated 0x0310 (z 3 33 287 1)).laneBad { kind := 3, unit := 287, chan := 33, start := 1024 } 3024 = some (0x13, 0) ∧ u.accepts 0x0310 (z 3 33 287 1) = true ∧
      (u.gated 0x0310 (z 3 33 287 1)).laneBad { kind := 3, unit := 287, chan := 33, start := 1024 } 3024 = none)) ∧
    (let c := (pt .sw 287 up).sw.c
     st.sw.c.testable 287 33 = false ∧ c.testable 287 33 = true ∧ up.t.roles.contains 0x21 = true ∧ ({ up with t := { up.t with roles := List.range 32 ++ [0x22, 3] } } : Port).t.roles.contains 0x21 = false) ∧
    (let w := fun (l : Tab Shaft) => ({ st.sw with core := { st.sw.core with shafts := l } } : SwState)
     (Tab.get (w [(8, { st := .failed })]).core.shafts {} 8).st = .failed ∧ (Tab.get (w [(8, { st := .standby })]).core.shafts {} 8).st = .standby ∧
     (Tab.get (w [(7, { st := .active }), (8, { st := .standby })]).core.shafts {} 7).st = .active ∧ (w [(7, { st := .active }), (8, { st := .standby })]).core.shafts.any (fun e => e.2.st == .standby) = true ∧
     (w [(7, { st := .active })]).core.shafts.any (fun e => e.2.st == .standby) = false ∧ (w [(7, { st := .active })]).core.active.length < 8) ∧
    (let w := fun (b : BarCore) => ({ st.sw with cores := [(63, b)] } : SwState)
     ((w { st := .retired }).core' 63).st = .retired ∧ ((w {}).core' 63).st ≠ .retired ∧ (w {}).coreOpen 63 = false) ∧
    (let t : TestRun := { kind := 2, unit := 8, chan := 0, start := 0, running := true }
     (on .sw (fun c => { c with test := some t })).sw.c.test = some t ∧ t.running = true ∧ ({ t with running := false } : TestRun).running = false) := by
  decide +kernel

/-! ### Witnesses: power, heat and bivouac -/

/-- A rack command: on a guy line, outside a session. -/
def rack (part : Part) (payload : List Byte) : ZPacket := cmd part payload 0 0 none

/-- A part in a power state. -/
def stands (part : Part) (f : Bivouac → Bivouac) (pick : Nat := 0) (ports : Tab Port := []) : State := on part (fun c => { c with biv := f c.biv, time := { c.time with pick := pick }, ports := ports })

/-- A part with heat or supplies so. -/
def warm (part : Part) (f : Thermal → Thermal) : State := on part (fun c => { c with therm := f c.therm })

theorem witness_CapsAlertsAndHeatLimitAPart :
    (let z := fun (cap : Nat) => rack .sw ([0, 0] ++ beBytes cap 2)
     let s := on .sw (fun c => { c with pwr := { c.pwr with floor := 100 } })
     s.accepts 0x0401 (z 99) = true ∧ s.accepts 0x0401 (z 100) = true ∧ (s.gated 0x0401 (z 99)).pwr.floor = 100 ∧ pn (z 99).payload 2 2 = 99 ∧ s.accepts 0x0401 (z 65535) = true ∧ pwrMax .sw ≤ 65535) ∧
    (st.sw.c.pwr.lease = 0 ∧ (on .sw (fun c => { c with pwr := { c.pwr with lease := 1, alert := true } })).sw.c.pwr.lease ≠ 0 ∧ st.sw.c.pwr.alert = false ∧ (on .sw (fun c => { c with pwr := { c.pwr with alert := true } })).sw.c.pwr.alert = true) ∧
    (st.sw.c.therm.ramp = none ∧ (warm .sw (fun t => { t with ramp := some true })).sw.c.therm.ramp ≠ none ∧ st.sw.c.therm.flashInhibit = false ∧ (warm .ep (fun t => { t with flashInhibit := true, goodSince := some 0 })).ep.c.therm.goodSince ≠ none) ∧
    (stands .sw (fun b => { b with inReset := true })).heldPart .sw = true ∧ st.heldPart .sw = false ∧ st.heldPart .ep = false ∧
    (let c := fun (hold : Nat) => ({ tc .sw with pwr := { (tc .sw).pwr with reserve := true }, rf := { (tc .sw).rf with cur := [(pwrA .sw 0x020, hold)] } } : Common)
     (c 0).pwr.alert = false ∧ (c 0).pwr.alertSeen = false ∧ (c 0).pwr.reserve = true ∧ (c 1).alertHoldPicks ≤ (c 1).pwr.alertHold + 1 ∧ (c 2).pwr.alertHold + 1 < (c 2).alertHoldPicks) ∧
    (1000 + 1000 + 1000 ≤ 98 * 4000 / 100 ∧ chanCount .sw ≤ 201 ∧ 200 < chanCount .sw ∧ 19 < chanCount .ep) ∧
    ({ tc .sw with therm := { (tc .sw).therm with sensors := [(32, { median := 64 * 110 })] } } : Common).tripChan = some 32 ∧ ({ tc .sw with therm := { (tc .sw).therm with sensors := [(176, { median := 64 * 100 })] } } : Common).tripChan = some 176 ∧
    ((tc .sw).sweep []).newTrip = none ∧ ((tc .sw).sweep [{ chan := 32, raw := 64 * 110 }]).newTrip = some 32 ∧ ((tc .ep).sweep [{ chan := 0, raw := 64 * 110 }]).newTrip = some 0 ∧ ((tc .ep).sweep []).newTrip = none ∧
    (let z := fun (b : Byte) => rack .sw [b, 0, 0, 0]
     st.accepts 0x0402 (z 1) = true ∧ bit (pb (z 1).payload 0) 0 = true ∧ st.accepts 0x0402 (z 0) = true ∧ bit (pb (z 0).payload 0) 0 = false ∧ (warm .sw (fun t => { t with ramp := some true })).accepts 0x0402 (z 0) = true) := by
  decide +kernel

theorem witness_PartsSleepWakeAndReset :
    (let z := fun (part : Part) (p : Nat) => cmd part (beBytes p 8)
     let a : State := { st with ep := { st.ep with lha := { st.ep.lha with attached := [3] } } }
     a.accepts 0x0403 (z .ep 5000) = true ∧ a.ep.lha.quiesced = false ∧ a.ep.lha.attached ≠ [] ∧ st.accepts 0x0403 (z .sw 999) = true ∧ st.accepts 0x0403 (z .sw 1000) = true ∧ (st.gated 0x0403 (z .sw 999)).pick = 0 ∧ pn (z .sw 999).payload 0 8 = 999) ∧
    (let b := fun (s : BivState) (b : Bivouac) => { b with st := s, entryPick := some 10 }
     let k : Tab Port := [(7, { t := { strike := some { step := 2 } } })]
     (stands .sw (b .awake) 9).sw.c.biv.st = .awake ∧ (stands .sw (b .awake) 9).sw.c.biv.entryPick = some 10 ∧ (stands .sw (b .awake) 9).sw.c.pick < 10 ∧ 10 ≤ (stands .sw (b .awake) 10).sw.c.pick ∧ (stands .sw (b .entering) 1009 k).sw.c.pick < 10 + 1000 ∧
     (stands .sw (b .entering) 1009 k).sw.c.ports.any (fun e => e.2.t.strike.isSome) = true ∧ 10 + 1000 ≤ (stands .sw (b .entering) 1010 k).sw.c.pick ∧ (stands .ep (b .entering) 11).ep.c.ports = [] ∧ (stands .sw (b .bivouac)).sw.c.biv.st = .bivouac ∧
     (stands .sw (b .entering)).heldPart .sw = false ∧ (stands .ep (b .entering)).heldPart .ep = false) ∧
    (let z := rack .sw []
     let s := fun (b : BivState) => stands .sw (fun x => { x with st := b })
     let dark := on .sw (fun c => { c with biv := { c.biv with st := .bivouac }, sec := { c.sec with bootOk := true }, opt := { c.opt with laserEn := true }, therm := { c.therm with flashInhibit := true } })
     let lit := on .sw (fun c => { c with biv := { c.biv with st := .bivouac }, sec := { c.sec with bootOk := true }, opt := { c.opt with laserEn := true } })
     st.accepts 0x0404 z = true ∧ (s .waking).accepts 0x0404 z = true ∧ (s .entering).accepts 0x0404 z = true ∧ ((s .entering).gated 0x0404 z).biv.st = .entering ∧ dark.accepts 0x0404 z = true ∧ (dark.gated 0x0404 z).wakeReady = false ∧ lit.accepts 0x0404 z = true ∧
     (lit.gated 0x0404 z).wakeReady = true) ∧
    (st.sw.c.wakeMayEnd = false ∧ st.ep.c.wakeMayEnd = false ∧ (stands .sw (fun b => { b with st := .waking })).sw.c.wakeMayEnd = true ∧ (stands .ep (fun b => { b with st := .waking })).ep.c.wakeMayEnd = true) ∧
    (st.sw.c.biv.st ≠ .bivouac ∧ st.sw.c.biv.dead = false ∧ (stands .sw (fun b => { b with dead := true })).sw.c.biv.dead = true ∧ st.sw.c.biv.inReset = false ∧ (stands .ep (fun b => { b with inReset := true })).ep.c.biv.inReset = true) ∧
    (let s := fun (a b : Nat) => on .sw (fun c => { c with biv := { c.biv with st := .waking, cause := 3, booted := false }, fw := { c.fw with imgA := { svn := a }, imgB := { svn := b } }, sec := { c.sec with svnFloor := 5 } })
     (s 5 0).heldPart .sw = false ∧ (s 5 0).sw.c.biv.st = .waking ∧ (s 5 0).sw.c.biv.cause = 3 ∧ (s 5 0).sw.c.biv.booted = false ∧ (s 5 0).sw.c.fw.slotB = false ∧ (s 5 0).sw.c.sec.svnFloor ≤ ((s 5 0).sw.c.fw.img false).svn ∧ ¬((s 4 5).sw.c.sec.svnFloor ≤ ((s 4 5).sw.c.fw.img false).svn) ∧
     (s 4 5).sw.c.sec.svnFloor ≤ ((s 4 5).sw.c.fw.img true).svn ∧ ¬((s 4 4).sw.c.sec.svnFloor ≤ ((s 4 4).sw.c.fw.img true).svn) ∧ st.sw.c.biv.booted = true) := by
  decide +kernel

theorem witness_CapsAlertsAndHeatLimitAPart_more :
    (let f : FwStaging := { total := 8, kind := 2, svn := 1, suspended := true }
     let w := on .ep (fun c => { c with therm := { c.therm with flashInhibit := true, goodSince := some 0 }, fw := { c.fw with staging := some f } })
     w.heldPart .ep = false ∧ w.ep.c.therm.flashInhibit = true ∧ w.ep.c.therm.goodSince ≠ none ∧ f.erased = false ∧
     (match exec (.flashInhibitEnd .ep) w with | .next t => t.ep.c.fw.staging.any (fun f => !f.erased && !f.suspended) | _ => false) = true) ∧
    (let c := fun (a b : Bool) => { tc .sw with pwr := { (tc .sw).pwr with alert := a, alertSeen := b } }
     (c true false).pwr.alert = true ∧ (c false true).pwr.alertSeen = true) ∧
    (let c := fun (l : List Int) => { tc .sw with therm := { (tc .sw).therm with sensors := [(200, { samples := l })] } }
     200 < chanCount (c []).part ∧ chanCount (c []).part ≤ 201 ∧ (Tab.get (c []).therm.sensors {} 200).samples = [] ∧ (Tab.get (c [1]).therm.sensors {} 200).samples ≠ []) ∧
    (let z := fun (b : Byte) => rack .ep [b, 0, 0, 0]
     let s := fun (r : Option Bool) => warm .ep (fun t => { t with ramp := r })
     (s (some false)).accepts 0x0402 (z 1) = true ∧ ((s (some false)).gated 0x0402 (z 1)).therm.ramp ≠ none ∧ (s (some false)).accepts 0x0402 (z 0) = true ∧ ((s (some false)).gated 0x0402 (z 0)).therm.ramp ≠ some true ∧
     ((s (some true)).gated 0x0402 (z 0)).therm.ramp = some true ∧ ((s none).gated 0x0402 (z 1)).therm.ramp = none) := by
  decide +kernel

theorem witness_PartsSleepWakeAndReset_more :
    (let z := fun (p : Nat) => cmd .ep (beBytes p 8)
     let q : State := { st with ep := { st.ep with lha := { st.ep.lha with attached := [3], quiesced := true } } }
     q.accepts 0x0403 (z 1000) = true ∧ q.ep.lha.quiesced = true ∧ st.accepts 0x0403 (z 999) = true ∧ st.ep.lha.attached = [] ∧ (z 1000).part = .ep ∧ pn (z 1000).payload 0 8 = 1000 ∧ (q.gated 0x0403 (z 1000)).pick = 0) ∧
    (let k : Tab Port := [(7, { t := { strike := some { step := 2 } } })]
     let s := fun (part : Part) (b : BivState) (e : Option Nat) (pick : Nat) (p : Tab Port) => stands part (fun x => { x with st := b, entryPick := e }) pick p
     [Part.sw, .ep].all (fun part => !(s part .awake none 9 []).heldPart part && !(s part .entering (some 10) 9 k).heldPart part && !(s part .bivouac none 9 []).heldPart part && !(s part .waking none 9 []).heldPart part) = true ∧
     ((s .ep .awake none 9 []).ep.c.biv.st = .awake ∧ (s .ep .awake none 9 []).ep.c.biv.entryPick = none) ∧ ((s .ep .awake (some 10) 9 []).ep.c.biv.entryPick = some 10 ∧ (s .ep .awake (some 10) 9 []).ep.c.pick < 10 ∧ 10 ≤ (s .ep .awake (some 10) 10 []).ep.c.pick) ∧
     ((s .ep .entering (some 10) 1009 k).ep.c.biv.st = .entering ∧ (s .ep .entering (some 10) 1009 k).ep.c.pick < 10 + 1000 ∧ (s .ep .entering (some 10) 1009 k).ep.c.ports.any (fun e => e.2.t.strike.isSome) = true ∧
      10 + 1000 ≤ (s .ep .entering (some 10) 1010 k).ep.c.pick ∧ (s .sw .entering (some 10) 10 []).sw.c.ports = []) ∧
     ((s .ep .bivouac none 0 []).ep.c.biv.st = .bivouac ∧ (s .sw .waking none 0 []).sw.c.biv.st = .waking)) ∧
    (let c : Common := { tc .sw with ledger := { (tc .sw).ledger with loss := [(unitKey 3 2, { times := 2, out := true }), (unitKey 6 1, { times := 3, out := true })] } }
     c.returns 3 2 = true ∧ c.returns 6 1 = false ∧ c.returns 3 3 = false ∧ (Tab.get c.ledger.loss {} (unitKey 3 2)).out = true ∧ (Tab.get c.ledger.loss {} (unitKey 3 2)).times < 3) ∧
    (let w := fun (part : Part) => stands part (fun b => { b with st := .bivouac })
     (w .sw).heldPart .sw = false ∧ (w .sw).sw.c.biv.st = .bivouac ∧ (w .ep).heldPart .ep = false ∧ (w .ep).ep.c.biv.st = .bivouac ∧ st.ep.c.biv.st ≠ .bivouac) ∧
    (let r := fun (part : Part) (d : Bool) => stands part (fun b => { b with inReset := true, dead := d })
     (r .ep true).ep.c.biv.dead = true ∧ (r .ep false).ep.c.biv.inReset = true ∧ (r .sw false).sw.c.biv.inReset = true ∧ (st.common .ep).biv.dead = false ∧ st.ep.c.biv.inReset = false) ∧
    (let s := fun (b : Bool) (st : BivState) (cause : Nat) => on .ep (fun c => { c with biv := { c.biv with st := st, cause := cause, booted := false }, fw := { c.fw with slotB := b, imgA := { svn := 5 }, imgB := { svn := 4 } }, sec := { c.sec with svnFloor := 5 } })
     (s true .waking 3).heldPart .ep = false ∧ (s true .waking 3).ep.c.fw.slotB = true ∧ ¬((s true .waking 3).ep.c.sec.svnFloor ≤ ((s true .waking 3).ep.c.fw.img true).svn) ∧ (s true .waking 3).ep.c.sec.svnFloor ≤ ((s true .waking 3).ep.c.fw.img false).svn ∧
     (s true .awake 3).ep.c.biv.st ≠ .waking ∧ (s true .waking 1).ep.c.biv.cause ≠ 3) := by
  decide +kernel

/-! ### Witnesses: security -/

/-- A part whose security state is changed. -/
def guard (part : Part) (f : Security → Security) : State := on part (fun c => { c with sec := f c.sec })

/-- The key of an owner, and a signature of it on the release of slot 0 of the part of serial 2. -/
def ownerKey : List Byte := [4] ++ beBytes 0x1d642da8946c75c4f387c430a5c403484821182bb50aae691ba64e3490b6be5c824b4056ffad38e4f6000e7bae9ac0d6 48 ++ beBytes 0xf8fe713beba809f2d4b1f5aefdad1330e71fce05e3eded097d46e174ca6f4434246539137d877417ca969fc28a27b7e8 48
/-- The signature: r = s. -/
def ownerMark : List Byte := beBytes 0xbd101bc577664a5df4a64d6246039f46ab4a4c9b4bcc6a146536e8972b79c266b32609fac390df2cc7193db82685d76e 48

theorem witness_OwnerSigns : ecdsaOk ownerKey ({ tc .sw with id := { (tc .sw).id with serial := 2 } } : Common).releaseText (pn (ownerMark ++ ownerMark) 0 48) (pn (ownerMark ++ ownerMark) 48 48) = true ∧
    sha384 ownerKey = beBytes 0xa264fddcf2ea7f36449461fe75015fc166ac46ef9102a003c80db234aba948092bb424d6647ee5c93efcbca9956fc328 48 := by
  decide +kernel

theorem witness_ScrubsErasePitchesAndKeysHaveOwners :
    (let s : State := { st with sw := { st.sw with pitches := [(15, .scrubbing)], scrubs := [{ kind := .core, unit := 63, pitch := 15, start := 0 }, { kind := .dram, unit := 65536, pitch := 15, start := 0 }] } }
     s.heldPart .sw = false ∧ Tab.get s.sw.pitches .free 15 = .scrubbing ∧ Tab.get st.sw.pitches .free 15 ≠ .scrubbing ∧ s.sw.scrubs.any (fun x => x.pitch == 15 && x.kind == .core) = true ∧ s.sw.scrubs.any (fun x => x.kind.code == 2 && x.unit == 65536) = true ∧
     1 * 2 ^ 36 ≤ 2 ^ 36 + 2 ^ 26 - 1 ∧ 2 ^ 36 + 2 ^ 26 - 1 < 1 * 2 ^ 36 + 0 * 2 ^ 26 + 2 ^ 26) ∧
    (st.ep.c.sec.scrubTo = none ∧ (guard .ep (fun x => { x with scrubTo := some 3, scrubOn := true })).ep.c.sec.scrubTo = some 3) ∧
    (let z := cmd .sw [] 0 0 (some 2)
     let own : OwnerSlot := { hash := [] }
     let spent := guard .sw (fun x => { x with owners := List.replicate 8 { own with released := true } })
     let owned := guard .sw (fun x => { x with owners := [own] })
     st.accepts 0x0902 z = true ∧ (st.gated 0x0902 z).sec.owned = false ∧ (st.gated 0x0902 z).sec.owners.length < 8 ∧ owned.accepts 0x0902 z = true ∧ (owned.gated 0x0902 z).sec.owned = true ∧ spent.accepts 0x0902 z = true ∧ (spent.gated 0x0902 z).sec.owned = false ∧
     8 ≤ (spent.gated 0x0902 z).sec.owners.length) ∧
    (let z := cmd .sw (ownerMark ++ ownerMark)
     let s := on .sw (fun c => { c with id := { c.id with serial := 2 }, sec := { c.sec with owners := [{ hash := beBytes 0xa264fddcf2ea7f36449461fe75015fc166ac46ef9102a003c80db234aba948092bb424d6647ee5c93efcbca9956fc328 48 }], sessions := [(1, { role := .manager, established := true, chain := ownerKey })] } })
     s.accepts 0x0903 z = true ∧ ((s.gated 0x0903 z).sessionAt z).chain = ownerKey ∧ (s.gated 0x0903 z).sec.owned = true ∧ ((s.gated 0x0903 z).sec.owners.getLast?.map (·.hash)) = some (beBytes 0xa264fddcf2ea7f36449461fe75015fc166ac46ef9102a003c80db234aba948092bb424d6647ee5c93efcbca9956fc328 48) ∧
     (s.gated 0x0903 z).releaseText = ({ tc .sw with id := { (tc .sw).id with serial := 2 } } : Common).releaseText ∧ z.payload = ownerMark ++ ownerMark ∧ st.accepts 0x0903 z = true ∧ (st.gated 0x0903 z).sec.owned = false) ∧
    (st.accepts 0x0904 (cmd .sw ([1, 0, 0, 0] ++ List.replicate 96 5) 7 15) = true) ∧
    (let z := fun (part : Part) (p session : Nat) => cmd part (List.replicate 32 5) 7 p (some session)
     st.accepts 0x0905 (z .sw 1 3) = true ∧ (st.gated 0x0905 (z .sw 1 3)).mayKey (z .sw 1 3) = true ∧ st.accepts 0x0905 (z .sw 15 3) = true ∧ (st.gated 0x0905 (z .sw 15 3)).mayKey (z .sw 15 3) = false ∧ st.accepts 0x0905 (z .ep 0 1) = true ∧
     (st.gated 0x0905 (z .ep 0 1)).mayKey (z .ep 0 1) = true) := by
  decide +kernel

theorem witness_SessionsOpenUpdateAndClose :
    (let r := fun (k : Nat) (good : Bool) => ({ part := .sw, session := k, good := good } : SpdmReq)
     let at_ := fun (n : Nat) => guard .sw (fun x => { x with negotiated := n })
     let half := guard .sw (fun x => { x with negotiated := 3, sessions := [(9, { role := .measure })] })
     let full := guard .sw (fun x => { x with negotiated := 3, sessions := (List.range 8).map (fun k => (k + 1, {})) })
     (st.common .sw).spdmUp = true ∧ ((on .sw (fun c => { c with fw := { c.fw with restart := true } })).common .sw).spdmUp = false ∧ ((at_ 1).common .sw).sec.negotiated + 1 = 2 ∧ ((at_ 2).common .sw).sec.negotiated = 2 ∧ ((at_ 0).common .sw).sec.negotiated + 1 ≠ 2 ∧
     3 ≤ ((at_ 3).common .sw).sec.negotiated ∧ (r 9 true).index = 0 ∧ (r 9 true).good = true ∧ (r 9 true).session ≠ 0 ∧ Tab.find (at_ 3).sw.c.sec.sessions 9 = none ∧ (at_ 3).sw.c.sec.sessions.length < 8 ∧ full.sw.c.sec.sessions.length = 8 ∧
     Tab.find half.sw.c.sec.sessions 9 = some { role := .measure } ∧ ({ role := .measure } : Session).established = false ∧ half.sw.c.sessionUp 9 = false ∧ st.sw.c.sessionUp 1 = true ∧ (Tab.find st.sw.c.sec.sessions 1).map (·.established) = some true) ∧
    ((st.common .ep).spdmUp = true ∧ (tc .sw).mgmt.executing = [] ∧ (let x : ZExec := { op := 0x0901, tag := 5, ret := {} }; [x].find? (fun e => e.op == 0x0901) = some x)) ∧
    (let z := fun (k : Nat) => cmd .sw (beBytes k 4 ++ beBytes 4 2 ++ [0, 0] ++ [1, 2, 3, 4]) 0 0 none
     st.accepts 0x0901 (z 0) = true ∧ st.accepts 0x0901 (z 9) = true ∧ pn (z 9).payload 0 4 = 9 ∧ Tab.find (st.gated 0x0901 (z 9)).sec.sessions 9 = none ∧ st.accepts 0x0901 (z 1) = true ∧ (Tab.find (st.gated 0x0901 (z 1)).sec.sessions 1).isSome = true ∧ (8 : Nat) ≠ (z 0).tag) := by
  decide +kernel

theorem witness_ScrubsErasePitchesAndKeysHaveOwners_more :
    (let s : State := { st with sw := { st.sw with scrubs := [{ kind := .dram, unit := 0, pitch := 0, start := 0 }] } }
     s.sw.scrubs.all (fun x => x.kind != .core && x.kind.code == 2) = true ∧ ¬(2 ^ 26 < 0 * 2 ^ 36 + 0 * 2 ^ 26 + 2 ^ 26) ∧ st.heldPart .ep = false) ∧
    ((guard .ep (fun x => { x with scrubTo := some 3, scrubOn := false })).ep.c.sec.scrubOn = false ∧ (guard .ep (fun x => { x with scrubTo := some 3 })).heldPart .ep = false) ∧
    (let r : CollRec := { handle := 4095, group := 1023, seq := 5, pitch := 0, st := .running }
     (({ st.sw with colls := [r] } : SwState).managerStop r).colls.any (fun r => r.st != .committed && r.cause.isSome) = true) := by
  decide +kernel

theorem witness_SessionsOpenUpdateAndClose_more :
    (let r := fun (k i : Nat) (good : Bool) => ({ part := .ep, session := k, index := i, good := good } : SpdmReq)
     let down := on .ep (fun c => { c with fw := { c.fw with restart := true } })
     let s := fun (n : Nat) => guard .ep (fun x => { x with negotiated := n })
     down.heldPart (r 1 0 true).part = false ∧ (down.common .ep).spdmUp = false ∧ (s 3).heldPart .ep = false ∧ ((s 3).common .ep).spdmUp = true ∧ 3 ≤ ((s 3).common .ep).sec.negotiated ∧ (r 1 1 true).index ≠ 0 ∧ ¬3 ≤ ((s 2).common .ep).sec.negotiated ∧
     (r 1 0 false).good = false ∧ (r 0 0 true).session = 0 ∧ (Tab.find (s 3).ep.c.sec.sessions 1).isSome = true ∧ Tab.find (s 3).ep.c.sec.sessions 9 = none ∧ (s 3).ep.c.sessionUp 9 = false ∧ (15 : Nat) < 16) ∧
    (let z := cmd .sw (beBytes 1 4 ++ beBytes 4 2 ++ [0, 0] ++ [1, 2, 3, 4]) 0 0 none
     let k : ZKept := { tag := 7, reply := { ret := {}, op := 1, tag := 7 }, at_ := 0 }
     let again := on .sw (fun c => { c with mgmt := { c.mgmt with kept := [k] } })
     again.heldPart .sw = false ∧ (again.common .sw).repeatsInner z (some 7) = true ∧ (again.common .sw).repeatsInner z none = false ∧ again.accepts 0x0901 z = false) := by
  decide +kernel

/-! ### Witnesses: Zhevseler -/

theorem witness_CommandsAreCheckedBeforeTheyAct :
    (let z := cmd .sw []
     (tc .sw).held = false ∧ (tc .sw).lineUp z = true ∧ ({ z with size := 15 } : ZPacket).size < 16 ∧ 16 ≤ z.size ∧ ((tc .sw).i3cClear z).zCheck 0x0001 z = none ∧ ((tc .sw).i3cClear z).zCheck 0x7777 z ≠ none ∧ ((tc .sw).i3cClear z).zBusyFor 0x0001 = none ∧
     (let k : ZKept := { tag := 7, reply := { ret := {}, op := 1, tag := 7 }, at_ := 0 }
      ({ tc .sw with mgmt := { (tc .sw).mgmt with kept := [k] } } : Common).mgmt.kept.find? (fun x => x.tag == z.tag) = some k) ∧
     (let c : Common := { tc .sw with fw := { (tc .sw).fw with restart := true } }
      (c.i3cClear (cmd .sw [0, 0, 0, 0] 0 0)).zBusyFor 0x0102 ≠ none)) ∧
    (st.heldPart .sw = false ∧ ((st.common .sw).gate 0x0102 (cmd .sw [] )).2 = false) ∧
    (st.accepts 0x0004 (cmd .sw [1, 2, 3, 4]) = true ∧ st.accepts 0x0001 (cmd .ep []) = true) ∧
    (let z := fun (part : Part) (a : Nat) (session : Nat) => cmd part (beBytes a 4 ++ beBytes 1 2 ++ [0, 0]) 0 0 (some session)
     st.accepts 0x0002 (z .sw 0x20 1) = true ∧ pn (z .sw 0x20 1).payload 4 2 = 1 ∧ (st.gated 0x0002 (z .sw 0x20 1)).zMayRead (z .sw 0x20 1) ({ st.sw with c := st.gated 0x0002 (z .sw 0x20 1) } : SwState).tenantReads 0x20 = true ∧ st.accepts 0x0002 (z .sw 0x900020 3) = true ∧
     (st.gated 0x0002 (z .sw 0x900040 3)).zMayRead (z .sw 0x900040 3) ({ st.sw with c := st.gated 0x0002 (z .sw 0x900040 3) } : SwState).tenantReads 0x900040 = false ∧ st.accepts 0x0002 (z .ep 0x20 1) = true ∧
     (st.gated 0x0002 (z .ep 0x20 1)).zMayRead (z .ep 0x20 1) ({ st.ep with c := st.gated 0x0002 (z .ep 0x20 1) } : EpState).tenantReads 0x20 = true ∧
     (st.gated 0x0002 (z .ep 0xF0000 3)).zMayRead (z .ep 0xF0000 3) ({ st.ep with c := st.gated 0x0002 (z .ep 0xF0000 3) } : EpState).tenantReads 0xF0000 = false) ∧
    (let z := fun (part : Part) (a v : Nat) => cmd part (beBytes a 4 ++ beBytes v 4)
     st.accepts 0x0003 (z .sw 0x20004 1) = true ∧ (({ st.sw with c := st.gated 0x0003 (z .sw 0x20004 1) } : SwState).write 0x20004 1).1 = .taken ∧ (({ st.sw with c := st.gated 0x0003 (z .sw 0x1070 1) } : SwState).write 0x1070 1).1 ≠ .taken ∧ st.accepts 0x0003 (z .ep 0xE0030 1) = true ∧
     (({ st.ep with c := st.gated 0x0003 (z .ep 0xE0030 1) } : EpState).write 0xE0030 1).1 = .taken ∧ (({ st.ep with c := st.gated 0x0003 (z .ep 0xE0000 1) } : EpState).write 0xFFFFFC 1).1 ≠ .taken) ∧
    (let c : Common := { tc .sw with mgmt := { (tc .sw).mgmt with lineA := false } }
     c.lineUp (cmd .sw []) = false ∧ (0x5A49 : Nat) ≠ 0x5A48) ∧
    (let s := regs .sw [(0x20, 1)]
     s.sw.c.guyUp false = true ∧ st.sw.c.guyIpv4 false = 0 ∧ (let p : Packet := { op := 1 }; (opListed p.op && vcAllowed p.op p.vc && lenAllowed p) = false) ∧ (let p : Packet := { op := 1, len := 0xF }; (opListed p.op && vcAllowed p.op p.vc && lenAllowed p) = true)) ∧
    (let p := Packet.seal { op := 0x7F, src := 1, dst := 7, pitch := 1 }
     let q := Packet.seal { op := 0x10, vc := 1, src := 1, dst := 7, pitch := 1 }
     (opListed p.op && vcAllowed p.op p.vc && lenAllowed p) = false ∧ hall.ep.brings 7 p p = true ∧ opListed p.op = false ∧ (opListed q.op && vcAllowed q.op q.vc && lenAllowed q) = false ∧ hall.ep.brings 7 q q = true ∧ isRequest q.op = false ∧ opListed q.op = true ∧ q.op ≠ opMsgSend) := by
  decide +kernel

/-- A switch with a set in a state, scheduled for a pick, and another. -/
def staged (x : SetState) (pick : Nat := 0) (entries : List StageEntry := []) (more : Tab StagedSet := []) (t : TimeState := .locked) : State :=
  on .sw (fun c => { c with stage := { c.stage with sets := [(7, { st := x, pick := pick, entries := entries })] ++ more }, time := { c.time with st := t } })

theorem witness_SetsPortsCollectivesAndRelaysAreCommanded :
    (let z := fun (a : Nat) => cmd .sw ([7, 0] ++ beBytes 1 2 ++ [0, 0, 0, 0] ++ beBytes a 4 ++ beBytes 1 4 ++ beBytes 1 4)
     st.accepts 0x0101 (z 0x504000) = true ∧ stageable .sw 0x504000 = true ∧ stageable .sw 0x20 = false ∧ (st.gated 0x0101 (z 0x504000)).stageRoom = 16384 ∧ (staged .scheduled 5000).accepts 0x0101 (z 0x504000) = true ∧ (((staged .scheduled 5000).gated 0x0101 (z 0x504000)).set 7).st = .scheduled ∧ st.accepts 0x0101 (z 0x20) = true) ∧
    (let z := cmd .sw [7, 0, 0, 0]
     (staged .opened).accepts 0x0102 z = true ∧ (((staged .opened).gated 0x0102 z).set 7).st = .opened ∧ st.accepts 0x0102 z = true ∧ ((st.gated 0x0102 z).set 7).st = .empty) ∧
    (let z := fun (p : Nat) => cmd .sw ([7, 0, 0, 0] ++ beBytes p 8)
     let x : State := staged .opened 0 [] [] .expired
     (staged .opened).accepts 0x0103 (z 16) = true ∧ st.accepts 0x0103 (z 16) = true ∧ x.accepts 0x0103 (z 16) = true ∧ (x.gated 0x0103 (z 16)).time.st = .expired ∧ (staged .opened).accepts 0x0103 (z 60000001) = true ∧
     (let z := cmd .ep ([7, 0, 0, 0] ++ beBytes 16 8)
      let s := on .ep (fun c => { c with stage := { c.stage with sets := [(7, { st := .opened })] }, time := { c.time with st := .locked } })
      let g := s.gated 0x0103 z
      s.accepts 0x0103 z = true ∧ (g.set 7).st = .opened ∧ g.time.st ≠ .expired ∧ g.pick + 16 ≤ 16 ∧ ({ s.ep with c := g } : EpState).conflicts (g.checking 7 16) = [])) ∧
    (let z := cmd .sw [7, 0, 0, 0]
     let two := staged .scheduled 5000 [] [(6, { st := .scheduled, pick := 6000 })]
     st.accepts 0x0104 z = true ∧ (staged .opened).accepts 0x0104 z = true ∧ (staged .committed).accepts 0x0104 z = true ∧ (staged .cancelled).accepts 0x0104 z = true ∧ two.accepts 0x0104 z = true ∧ ((two.gated 0x0104 z).set 6).pick = 6000 ∧ (staged .scheduled 5000).accepts 0x0104 z = true ∧
     (List.range 8).all (fun j => ((((staged .scheduled 5000).gated 0x0104 z).set j).st != .scheduled) || decide ((((staged .scheduled 5000).gated 0x0104 z).set j).pick ≤ 5000)) = true) ∧
    st.accepts 0x0105 (cmd .sw []) = true ∧ st.accepts 0x0201 (cmd .sw [] 1 287) = true ∧ ((st.gated 0x0201 (cmd .sw [] 1 287)).port 287).t.st = .struck ∧ (pt .sw 287 up).accepts 0x0201 (cmd .sw [] 1 287) = true ∧ st.accepts 0x0202 (cmd .sw [1, 0, 0, 0] 1 287) = true ∧
    (pt .sw 287 up).accepts 0x0202 (cmd .sw [1, 0, 0, 0] 1 287) = true ∧
    (let z := cmd .sw (beBytes 4095 2 ++ beBytes 1023 2 ++ beBytes 5 4)
     let s := fun (c : List CollRec) (g : Tab GroupRec) => ({ st with sw := { st.sw with colls := c, groups := g } } : State)
     let r : CollRec := { handle := 4095, group := 1023, seq := 5, pitch := 0, st := .running }
     st.accepts 0x0501 z = true ∧ ({ st.sw with c := st.gated 0x0501 z } : SwState).collKnown 4095 1023 5 = none ∧ (({ (s [r] []).sw with c := (s [r] []).gated 0x0501 z } : SwState).collKnown 4095 1023 5).map (·.2) = some true ∧ (s [r] []).accepts 0x0501 z = true ∧
     (({ (s [] [(1023, { kept := [{ seq := 5, handle := 4095, c0 := 0, c1 := 0 }] })]).sw with c := tc .sw } : SwState).collKnown 4095 1023 5).map (·.2) = some false ∧
     (let t := { z with session := some 3 }
      let h := regs .sw [(0x717FF8, 0x21)]
      st.accepts 0x0502 t = true ∧ st.accepts 0x0502 z = true ∧ h.accepts 0x0502 t = true ∧ (h.gated 0x0502 t).sessionOf t = some (.tenant 1) ∧ flag ((h.gated 0x0502 t).handleA 4095) 0 = true ∧ fld ((h.gated 0x0502 t).handleA 4095) 7 4 ≠ 1)) ∧
    (let z := fun (part : Part) (plane : Nat) => cmd part ([BitVec.ofNat 8 plane, 1, 5, 0] ++ zBytes 0 1 9 0 0 [])
     st.accepts 0x0005 (z .sw 1) = true ∧ pb (z .sw 1).payload 0 ≠ (st.gated 0x0005 (z .sw 1)).plane ∧ st.accepts 0x0005 (z .ep 7) = true ∧ ((st.gated 0x0005 (z .ep 7)).port 7).inService = false) ∧
    (let x : ZExec := { op := 5, tag := 7, inner := 9, ret := {} }
     [x].find? (fun e => e.op == 5 && e.inner == 9) = some x ∧ (tc .sw).mgmt.executing.find? (fun e => e.op == 5 && e.inner == 9) = none) ∧
    st.accepts 0x0701 (cmd .ep (List.replicate 64 0)) = true := by
  decide +kernel

theorem witness_AFullStagingAreaRefusesAWrite :
    (let z := cmd .sw ([7, 0] ++ beBytes 1 2 ++ [0, 0, 0, 0] ++ beBytes 0x504000 4 ++ beBytes 1 4 ++ beBytes 1 4)
     let s := staged .empty 0 [] [(6, { st := .opened, entries := List.replicate 16384 { addr := 0x504000, value := 1, mask := 1 } })]
     s.accepts 0x0101 z = true ∧ (s.gated 0x0101 z).stageRoom = 0) := by
  refine ⟨by decide +kernel, ?_⟩
  have h : ((staged .empty 0 [] [(6, { st := .opened, entries := List.replicate 16384 { addr := 0x504000, value := 1, mask := 1 } })]).gated 0x0101 (cmd .sw ([7, 0] ++ beBytes 1 2 ++ [0, 0, 0, 0] ++ beBytes 0x504000 4 ++ beBytes 1 4 ++ beBytes 1 4))).stage.sets = [(7, { st := .empty }), (6, { st := .opened, entries := List.replicate 16384 { addr := 0x504000, value := 1, mask := 1 } })] := by rfl
  show 16384 - (((_ : Common).stage.sets).map _).sum = 0
  rw [h]
  simp only [List.map_cons, List.map_nil, List.length_replicate, List.sum_cons, List.sum_nil, List.length_nil]
  omega

theorem witness_CommandsAreCheckedBeforeTheyAct_more :
    (let z := cmd .ep []
     let x : ZExec := { op := 1, tag := 7, ret := {} }
     let c : Common := { tc .ep with mgmt := { (tc .ep).mgmt with executing := [x] } }
     c.held = false ∧ c.lineUp z = true ∧ (c.i3cClear z).mgmt.kept = [] ∧ (c.i3cClear z).mgmt.executing.any (fun x => x.tag == z.tag) = true ∧ z.noReply = false ∧
     ({ z with noReply := true } : ZPacket).noReply = true ∧ (c.i3cClear { z with noReply := true }).zCheck 0x0001 { z with noReply := true } = none ∧ ({ z with replyFlag := true } : ZPacket).replyFlag = true) ∧
    ((st.common .ep).lineUp (cmd .ep []) = true ∧ (tc .ep).zCheck 0x0004 (cmd .ep [1, 2, 3, 4]) = none ∧ lengthFor 0x0001 (cmd .ep []).payload = some 0 ∧ (cmd .ep []).session.isSome = true) ∧
    (let z := fun (a n session : Nat) => cmd .ep (beBytes a 4 ++ beBytes n 2 ++ [0, 0]) 0 0 (some session)
     st.accepts 0x0002 (z 0xF0000 1 3) = true ∧ st.accepts 0x0002 (z 0x20 64 2) = true ∧ (st.gated 0x0002 (z 0xF0000 1 3)).sessionOf (z 0xF0000 1 3) = some (.tenant 1) ∧ (st.gated 0x0002 (z 0x20 64 2)).sessionOf (z 0x20 64 2) ≠ some .manager ∧
     (openRanges .ep).any (fun x => decide (x.1 ≤ 0x20 ∧ 0x20 ≤ x.2)) = true ∧ (openRanges .sw).any (fun x => decide (x.1 ≤ 0x20 ∧ 0x20 ≤ x.2)) = true) ∧
    (let s := regs .ep [(0x20, 1)]
     s.ep.c.guyUp false = true ∧ (0 : Nat) ≠ s.ep.c.guyIpv6 false ∧ st.heldPart .ep = false) ∧
    (let p := Packet.seal { op := 0x7F, src := 1, dst := 7, pitch := 1 }
     hall.heldPart .ep = false ∧ hall.ep.portOpen 7 p.vc = true ∧ hall.ep.portOpen 0 p.vc = false ∧ ({ p with crc := p.crc + 1 } : Packet).crcOk = false ∧ (forged p).crcOk = true ∧ (hall.ep.takeIn 7 (forged p)).opened 7 (forged p) = none ∧
     (opListed (forged p).op && vcAllowed (forged p).op (forged p).vc && lenAllowed (forged p)) = false ∧ isRequest 0x10 = false) ∧
    (let q := Packet.seal { op := opMsgSend, vc := 1, src := 1, dst := 7, pitch := 1 }
     (opListed q.op && vcAllowed q.op q.vc && lenAllowed q) = false ∧ hall.ep.brings 7 q q = true) := by
  decide +kernel

theorem witness_SetsPortsCollectivesAndRelaysAreCommanded_more :
    (let z := fun (a : Nat) => cmd .ep ([7, 0] ++ beBytes 1 2 ++ [0, 0, 0, 0] ++ beBytes a 4 ++ beBytes 1 4 ++ beBytes 1 4)
     st.accepts 0x0101 (z 0x20) = true ∧ stageable .ep 0x20 = false ∧ (st.gated 0x0101 (z 0x20)).stageRoom = 16384 ∧ ((st.gated 0x0101 (z 0x20)).set 7).st ≠ .scheduled) ∧
    (let z := cmd .sw [7, 0, 0, 0]
     (staged .scheduled 5000).accepts 0x0102 z = true ∧ (((staged .scheduled 5000).gated 0x0102 z).set 7).st = .scheduled ∧
     (let s := on .ep (fun c => { c with stage := { c.stage with sets := [(7, { st := .opened })] } })
      s.accepts 0x0102 (cmd .ep [7, 0, 0, 0]) = true ∧ ((s.gated 0x0102 (cmd .ep [7, 0, 0, 0])).set 7).st = .opened)) ∧
    (let z := fun (p : Nat) => cmd .sw ([7, 0, 0, 0] ++ beBytes p 8)
     let d := staged .opened 0 [{ addr := 0xA00060, value := 1, mask := 1 }]
     domainWide .sw 0xA00060 = true ∧ d.accepts 0x0103 (z 999) = true ∧ (d.gated 0x0103 (z 999)).pick = 0 ∧ ((d.gated 0x0103 (z 999)).set 7).entries.any (fun e => domainWide .sw e.addr) = true ∧ (staged .opened).accepts 0x0103 (z 15) = true ∧
     (staged .opened).accepts 0x0103 (z 60000000) = true ∧ (st.gated 0x0103 (z 16)).time.st ≠ .expired ∧ ((staged .opened).gated 0x0103 (z 60000001)).pick + 60000000 < 60000001) ∧
    (let z := cmd .sw [7, 0, 0, 0]
     let two := staged .scheduled 5000 [] [(6, { st := .scheduled, pick := 6000 })]
     ((st.gated 0x0104 z).set 7).st = .empty ∧ (((staged .cancelled).gated 0x0104 z).set 7).st = .cancelled ∧ (((staged .committed).gated 0x0104 z).set 7).st = .committed ∧ (((staged .opened).gated 0x0104 z).set 7).st = .opened ∧
     ((two.gated 0x0104 z).set 7).st = .scheduled ∧ ((two.gated 0x0104 z).set 6).st = .scheduled ∧ ((two.gated 0x0104 z).set 7).pick < ((two.gated 0x0104 z).set 6).pick) ∧
    (((pt .sw 287 up).gated 0x0201 (cmd .sw [] 1 287)).port 287).t.st ≠ .struck ∧ ((st.gated 0x0202 (cmd .sw [1, 0, 0, 0] 1 287)).port 287).t.st = .struck ∧
    (let w := fun (c : List CollRec) (g : Tab GroupRec) => ({ st.sw with colls := c, groups := g } : SwState)
     let r : CollRec := { handle := 4095, group := 1023, seq := 5, pitch := 0, st := .running }
     let k : CollKept := { seq := 5, handle := 4095, c0 := 0, c1 := 0 }
     (w [r] []).openColl 1023 5 = some r ∧ r.handle = 4095 ∧ (w [] [(1023, { kept := [k] })]).openColl 1023 5 = none ∧ ((w [] [(1023, { kept := [k] })]).grp 1023).record 5 = some k ∧ k.handle = 4095 ∧ r.handle ≠ 7 ∧ k.handle ≠ 7 ∧
     (w [] []).openColl 1023 5 = none ∧ ((w [] []).grp 1023).record 5 = none ∧ (w [r] []).collKnown 7 1023 5 = none) ∧
    (let z := cmd .sw (beBytes 4095 2 ++ beBytes 1023 2 ++ beBytes 5 4)
     let s : State := { st with sw := { st.sw with groups := [(1023, { kept := [{ seq := 5, handle := 4095, c0 := 0, c1 := 0 }] })] } }
     z.part = .sw ∧ s.accepts 0x0501 z = true ∧ (({ s.sw with c := s.gated 0x0501 z } : SwState).collKnown 4095 1023 5).map (·.2) = some false ∧ s.accepts 0x0502 z = true ∧ (({ s.sw with c := s.gated 0x0502 z } : SwState).collKnown 4095 1023 5).isSome = true ∧
     ({ st.sw with c := st.gated 0x0502 z } : SwState).collKnown 4095 1023 5 = none ∧
     (let t := { z with session := some 3 }
      flag ((s.gated 0x0502 t).handleA 4095) 0 = false ∧ s.accepts 0x0502 t = true)) ∧
    (let z := fun (part : Part) (plane kind : Nat) => cmd part ([BitVec.ofNat 8 plane, BitVec.ofNat 8 kind, 5, 0] ++ zBytes 0 1 9 0 0 [])
     let s := pt .ep 7 up
     st.accepts 0x0005 (z .sw 0 1) = true ∧ pb (z .sw 0 1).payload 0 = (st.gated 0x0005 (z .sw 0 1)).plane ∧ pb (z .sw 0 1).payload 1 = 1 ∧ st.accepts 0x0005 (z .sw 0 0) = true ∧ pb (z .sw 0 0).payload 1 ≠ 1 ∧
     s.accepts 0x0005 (z .ep 7 1) = true ∧ ((s.gated 0x0005 (z .ep 7 1)).port 7).inService = true ∧ s.heldPart .ep = false) := by
  decide +kernel

/-! ### Well-formed commands: each check refuses what lies outside its bound, and takes what lies just inside -/

/-- An ill-formed command is refused. -/
def refused (i : Instr) : Bool := !wellFormed i

/-- A command is well-formed with an operand just below a bound, and not at it. -/
def edge (b : Nat) (f : Nat → Instr) : Bool := wellFormed (f (b - 1)) && refused (f b)

/-- A well-formed marker. -/
def marker : Marker := { roles := List.replicate 34 0 }

/-- A well-formed optical report. -/
def report : OptReport := { drop := List.replicate 34 none }

theorem test_ill_formed_refused_1 :
    (([.registerWrite, .viewWrite, .eventRegisterClear] : List (Part → Nat → Nat → Instr)).all (fun i => edge (2 ^ 32) (fun n => i .sw n 0) && edge (2 ^ 32) (fun n => i .sw 0 n))) = true ∧
    (edge (2 ^ 32) (fun n => .loWordRead .sw (.session 0) n)) = true ∧
    (edge (2 ^ 24) (fun n => .wpWriteComplete .sw n)) = true ∧
    (([.idCntClear, .thermHwmClear, .relayTimeout, .tagRecordExpired] : List (Part → Nat → Instr)).all (fun i => edge (2 ^ 32) (fun n => i .sw n))) = true ∧
    (([.telHwmClr, .eyeStart] : List (Part → Nat → Nat → Instr)).all (fun i => edge 288 (fun n => i .sw n 0) && edge 8 (fun n => i .ep n 0) && edge (2 ^ 32) (fun n => i .sw 0 n))) = true ∧
    (refused (.pickBoundary { slackDie := 256 })) = true ∧
    (edge 1000 (fun n => .pickSyncPulse .sw .a n 0) && edge 1000 (fun n => .pickSyncPulse .sw .a 0 n) && edge 1000 (fun n => .pickSyncPulse .sw .a 0 (-n))) = true ∧
    (edge 288 (fun n => .pickMarker .sw n marker) && edge 8 (fun n => .pickMarker .ep n marker) && refused (.pickMarker .sw 0 { })) = true ∧
    (edge 8 (fun n => .stagedSetCommit .sw n)) = true ∧
    (edge 2048 (fun n => .stakedAccept n)) = true ∧
    (edge 1024 (fun n => .wheelSlot n)) = true ∧
    (edge 288 (fun n => .flitSend .sw n 0) && edge 8 (fun n => .flitSend .ep n 0) && edge 2048 (fun n => .flitSend .sw 0 n)) = true ∧
    (edge 288 (fun n => .flitReceived .sw n { }) && edge 8 (fun n => .flitReceived .ep n { }) && refused (.flitReceived .sw 0 { fseq := 4096 })) = true ∧
    (([.replayTimeout, .stageTimeout, .laneCtrlRetry, .drain, .drainDone, .strike, .strikeDone, .strikeComplete, .strikeStepTimeout, .linkCmdRaise, .linkCmdCheck, .linkCmdClrLane, .eyeStop, .openFibre, .launchLimit, .probePulse, .probeSet] : List (Part → Nat → Instr)).all (fun i => edge 288 (fun n => i .sw n) && edge 8 (fun n => i .ep n))) = true ∧
    (edge 288 (fun n => .trainingSet .sw n { } false) && edge 8 (fun n => .trainingSet .ep n { } false) && refused (.trainingSet .sw 0 { chan := 34 } false)) = true := by
  decide +kernel

theorem test_ill_formed_refused_2 :
    (edge 288 (fun n => .caps .sw n { }) && edge 8 (fun n => .caps .ep n { }) && refused (.caps .sw 0 { kind := 16 })) = true ∧
    (([.ident, .warmReraiseDone] : List (Part → Nat → Ident → Instr)).all (fun i => edge 288 (fun n => i .sw n { }) && edge 8 (fun n => i .ep n { }) && refused (i .sw 0 { plane := 256 }))) = true ∧
    (edge 288 (fun n => .wire .sw n 0 0) && edge 8 (fun n => .wire .ep n 0 0) && edge 256 (fun n => .wire .sw 0 n 0) && edge 65536 (fun n => .wire .sw 0 0 n)) = true ∧
    (edge 288 (fun n => .creditInit .sw n (List.replicate 8 0)) && edge 8 (fun n => .creditInit .ep n (List.replicate 8 0)) && refused (.creditInit .sw 0 (List.replicate 7 0)) && refused (.creditInit .sw 0 (List.replicate 8 16384))) = true ∧
    (edge 8 (fun n => .admitMsg n 0) && edge 256 (fun n => .admitMsg 0 n)) = true ∧
    (edge 288 (fun n => .laneCtrlCheck .sw n { } []) && edge 8 (fun n => .laneCtrlCheck .ep n { } []) && refused (.laneCtrlCheck .sw 0 { cmd := 256 } []) && refused (.laneCtrlCheck .sw 0 { } [(34, false)])) = true ∧
    (([.move, .moveOk, .moveNo, .width, .widthOk] : List (Part → Nat → LaneSet → Instr)).all (fun i => edge 288 (fun n => i .sw n { }) && edge 8 (fun n => i .ep n { }) && refused (i .sw 0 { cmd := 256 }))) = true ∧
    (edge 288 (fun n => .linkCmdStrike .sw n false) && edge 8 (fun n => .linkCmdStrike .ep n false)) = true ∧
    (edge 288 (fun n => .eyeScanDone .sw n [] []) && edge 8 (fun n => .eyeScanDone .ep n [] []) && refused (.eyeScanDone .sw 0 [(34, 0, 0)] []) && refused (.eyeScanDone .sw 0 [(0, 64, 0)] []) && refused (.eyeScanDone .sw 0 [(0, 0, 64)] []) && refused (.eyeScanDone .sw 0 [] [65536])) = true ∧
    (edge 288 (fun n => .monitorSample .sw n { }) && edge 8 (fun n => .monitorSample .ep n { }) && refused (.monitorSample .sw 0 { tap := some 32768 })) = true ∧
    (([.combLocked, .combWarmTimeout, .combLockerLost, .combOutputLow] : List (Part → Nat → Instr)).all (fun i => edge 90 (fun n => i .sw n) && edge 3 (fun n => i .ep n))) = true := by
  decide +kernel

theorem test_ill_formed_refused_3 :
    (edge 18 (fun n => .spareLightArrived .sw n) && edge 1 (fun n => .spareLightArrived .ep n)) = true ∧
    (edge 288 (fun n => .feedforwardSample .sw n 0) && edge 8 (fun n => .feedforwardSample .ep n 0) && edge 32768 (fun n => .feedforwardSample .sw 0 n) && edge 32768 (fun n => .feedforwardSample .sw 0 (-n))) = true ∧
    (([.ringLockLost, .ringRelock, .slipRelockTimeout, .ringsLocked] : List (Part → Nat → RingId → Instr)).all (fun i => edge 288 (fun n => i .sw n { }) && edge 8 (fun n => i .ep n { }) && refused (i .sw 0 { chan := 34 }))) = true ∧
    (edge 288 (fun n => .opticalReport .sw n report) && edge 8 (fun n => .opticalReport .ep n report) && refused (.opticalReport .sw 0 { })) = true ∧
    (([.packetForward, .combineAnswer, .msgSendRoute, .msgSendSelvedge, .msgAckRoute, .intent, .contrib, .abort, .received, .query] : List (Nat → Packet → Instr)).all (fun i => edge 288 (fun n => i n { }) && refused (i 0 { op := 256 }))) = true ∧
    (([.bufferAdmission, .packetAgeDiscard, .fenceComplete] : List (Nat → Instr)).all (fun i => edge 288 (fun n => i n))) = true ∧
    (edge 63 (fun n => .matcherSlot n []) && refused (.matcherSlot 0 [9])) = true ∧
    (let m : OutMsg := { domain := 0, node := 0, queue := 0, data := [0] }
     edge 288 (fun n => .requestSend { engine := n }) && edge 4096 (fun n => .requestSend { engine := 0, msg := some { m with domain := n } }) && edge 256 (fun n => .requestSend { engine := 0, msg := some { m with node := n } }) &&
      edge 256 (fun n => .requestSend { engine := 0, msg := some { m with queue := n } }) && edge 257 (fun n => .requestSend { engine := 0, msg := some { m with data := List.replicate n 0 } }) && refused (.requestSend { engine := 0, msg := some { m with data := [] } })) = true ∧
    (edge 288 (fun n => .sprayUnitArrival n 0 0 false { }) && edge 288 (fun n => .sprayUnitArrival 0 n 0 false { }) && edge 4096 (fun n => .sprayUnitArrival 0 0 n false { }) && edge 33 (fun n => .sprayUnitArrival 0 0 0 false { corrected := n })) = true ∧
    (edge 288 (fun n => .reedReceipt n 0 0 false false) && edge 288 (fun n => .reedReceipt 0 n 0 false false) && edge 4096 (fun n => .reedReceipt 0 0 n false false)) = true ∧
    (edge 288 (fun n => .reedHoleTimeout n 0) && edge 288 (fun n => .reedHoleTimeout 0 n)) = true ∧
    (([.castSend, .ceEnable, .ceDisable, .ceResume, .ceAbort, .copy, .ceAtomic, .ceFlag, .ceFence, .nop, .ceCompletion] : List (Nat → Instr)).all (fun i => edge 32 (fun n => i n))) = true ∧
    (edge 288 (fun n => .mergedForget n 0) && edge 4096 (fun n => .mergedForget 0 n)) = true ∧
    (([.read, .write, .writeMasked, .writeFlagNode, .writeFlagAll, .atomic, .mergedRequest, .combineReceipt, .readRsp, .writeAck, .atomicRsp, .msgSend, .msgAck, .grantCredit, .result, .abortNotice, .done, .resend, .membNotice, .reservedOpcodePacket] : List (Nat → Packet → Instr)).all (fun i => edge 8 (fun n => i n { }) && refused (i 0 { op := 256 }))) = true := by
  decide +kernel

theorem test_ill_formed_refused_4 :
    (([.flagHoldRelease, .flagHoldDiscard] : List (Nat → Nat → Instr)).all (fun i => edge 256 (fun n => i n 0) && edge 4096 (fun n => i 0 n))) = true ∧
    (edge 8 (fun n => .combineBatchDrop n 0) && edge 4096 (fun n => .combineBatchDrop 0 n)) = true ∧
    (edge (2 ^ 20) (fun n => .msgDupExpiry n)) = true ∧
    (([.responseTimeout, .portDownReissue] : List (Nat → Instr)).all (fun i => edge (2 ^ 18) (fun n => i n))) = true ∧
    (edge 65536 (fun n => .ctrSub n 0) && edge (2 ^ 32) (fun n => .ctrSub 0 n)) = true ∧
    (([.rlcInval, .pwrAlertInWrite, .xqDoorbell, .collDoorbell] : List (Nat → Instr)).all (fun i => edge (2 ^ 32) (fun n => i n))) = true ∧
    (edge 128 (fun n => .rlcAdviceWrite n 0) && edge (2 ^ 32) (fun n => .rlcAdviceWrite 0 n)) = true ∧
    (refused (.keyTableWrite 0x33FFC 0) && refused (.keyTableWrite 0x38000 0) && refused (.keyTableWrite 0x34002 0) && edge (2 ^ 32) (fun n => .keyTableWrite 0x34000 n)) = true ∧
    (([.ld, .st, .stMasked, .lhaAt, .lhaFence, .kernelStart, .regRd, .regWr, .mrdRsp, .mwrAck, .matRsp, .credit, .accept, .quiesce, .lhaMalformedMessage] : List (LhaMsg → Instr)).all (fun i => refused (i { module := 4 }))) = true ∧
    (edge 4 (fun n => .moduleTrained n false)) = true ∧
    (([.offerRetry, .moduleLinkLost, .ereqTimeout] : List (Nat → Instr)).all (fun i => edge 4 (fun n => i n))) = true ∧
    (edge 32 (fun n => .ceDoorbell n 0) && edge (2 ^ 32) (fun n => .ceDoorbell 0 n)) = true ∧
    (edge 32 (fun n => .qcopy n []) && refused (.qcopy 0 [(65536, false)])) = true ∧
    (edge 16 (fun n => .measSlotOpen n 0) && edge (2 ^ 32) (fun n => .measSlotOpen 0 n)) = true ∧
    (([.measSlotClose, .pitchScrubDone] : List (Nat → Instr)).all (fun i => edge 16 (fun n => i n))) = true ∧
    (([.intentWaitExpired, .collStall] : List (Nat → Instr)).all (fun i => edge 4096 (fun n => i n))) = true ∧
    (edge 8 (fun n => .grantAdmit n { } []) && refused (.grantAdmit 0 { op := 256 } []) && refused (.grantAdmit 0 { } [(65536, false)])) = true := by
  decide +kernel

theorem test_ill_formed_refused_5 :
    (([.barAdd, .barSub, .barAnd, .barOr, .barXor, .barSll, .barSrl, .barSra, .barMul, .barMulhu, .barDivu, .barRemu, .barSlt, .barSltu, .barMin, .barMax, .barJr, .barFlush, .barCwait, .barVwait, .barSwait, .barSall, .barSrel, .barScnt, .barRwait, .barPick, .barAbrt, .barEnd] : List (Nat → Nat → Nat → Nat → Nat → Instr)).all (fun i => edge 64 (fun n => i n 0 0 0 0) && edge 16 (fun n => i 0 n 0 0 0) && edge 32 (fun n => i 0 0 n 0 0) && edge 32 (fun n => i 0 0 0 n 0) && edge 32 (fun n => i 0 0 0 0 n))) = true ∧
    (([.barAddi, .barAndi, .barOri, .barXori, .barSlli, .barSrli, .barBeq, .barBne, .barBlt, .barBge, .barBltu, .barBgeu, .barLd, .barLw, .barSt, .barSw, .barDld, .barDst] : List (Nat → Nat → Nat → Nat → Nat → Instr)).all (fun i => edge 64 (fun n => i n 0 0 0 0) && edge 16 (fun n => i 0 n 0 0 0) && edge 32 (fun n => i 0 0 n 0 0) && edge 32 (fun n => i 0 0 0 n 0) && edge 65536 (fun n => i 0 0 0 0 n))) = true ∧
    (edge 64 (fun n => .barLui n 0 0 0 0) && edge 16 (fun n => .barLui 0 n 0 0 0) && edge 32 (fun n => .barLui 0 0 n 0 0) && refused (.barLui 0 0 0 1 0) && edge 65536 (fun n => .barLui 0 0 0 0 n)) = true ∧
    (edge 64 (fun n => .barJal n 0 0) && edge 16 (fun n => .barJal 0 n 0) && edge (2 ^ 26) (fun n => .barJal 0 0 n)) = true ∧
    (([.barCpy, .barVmrg, .barVmov, .barRcast, .barRsend] : List (Nat → Nat → Nat → Nat → Nat → Nat → Nat → Instr)).all (fun i => edge 64 (fun n => i n 0 0 0 0 0 0) && edge 16 (fun n => i 0 n 0 0 0 0 0) && edge 32 (fun n => i 0 0 n 0 0 0 0) && edge 32 (fun n => i 0 0 0 n 0 0 0) && edge 32 (fun n => i 0 0 0 0 n 0 0) && edge 32 (fun n => i 0 0 0 0 0 n 0) && edge 64 (fun n => i 0 0 0 0 0 0 n))) = true ∧
    (([.barVcvt, .barVacc, .barVfin, .barVqnt, .barVspr] : List (Nat → Nat → Nat → Nat → Nat → Nat → Nat → Nat → Instr)).all (fun i => edge 64 (fun n => i n 0 0 0 0 0 0 0) && edge 16 (fun n => i 0 n 0 0 0 0 0 0) && edge 32 (fun n => i 0 0 n 0 0 0 0 0) && edge 32 (fun n => i 0 0 0 n 0 0 0 0) && edge 32 (fun n => i 0 0 0 0 n 0 0 0) && edge 32 (fun n => i 0 0 0 0 0 n 0 0) && edge 64 (fun n => i 0 0 0 0 0 0 n 0) && edge (2 ^ 32) (fun n => i 0 0 0 0 0 0 0 n))) = true := by
  decide +kernel

theorem test_ill_formed_refused_6 :
    (([.contextResume, .watchdogFire] : List (Nat → Nat → Instr)).all (fun i => edge 64 (fun n => i n 0) && edge 16 (fun n => i 0 n))) = true ∧
    (([.progLoad, .progUnload, .fence, .takeover, .unitTest, .ledgerClear, .ledgerRead, .fwStageBegin, .fwStageData, .fwStageEnd, .fwActivate, .powerCap, .thermalAlert, .bivouac, .wake, .ownerEnrol, .ownerRelease, .pitchEnrol, .pitchKeySet, .identify, .regRead, .regWriteCmd, .echo, .relay, .stageWrite, .check, .commitAt, .cancel, .stageStatus, .portRaise, .portStrike, .collAbort, .collStatus, .xltCmd] : List (ZPacket → Instr)).all (fun i => refused (i { version := 256 }))) = true ∧
    (edge 64 (fun n => .progPieceTimeout n)) = true ∧
    (edge 18 (fun n => .peFailure n)) = true ∧
    (edge 2 (fun n => .dramStackFailure n false)) = true ∧
    (refused (.sensorSample .sw [{ chan := 201 }]) && refused (.sensorSample .sw [{ raw := 32768 }])) = true ∧
    (refused (.wakeComplete .sw [(16, 0)]) && refused (.wakeComplete .sw [(0, 512)])) = true ∧
    (edge 5 (fun n => .resourceScrubDone n 0) && edge (2 ^ 17) (fun n => .resourceScrubDone 0 n)) = true ∧
    (refused (.spdmMsg { version := 256 } none) && refused (.spdmMsg { } (some (2 ^ 32)))) = true ∧
    (([.getVersion, .getCapabilities, .negotiateAlgorithms, .getDigests, .getCertificate, .challenge, .getMeasurements, .keyExchange, .finish, .heartbeat, .keyUpdate, .endSession] : List (SpdmReq → Instr)).all (fun i => refused (i { index := 256 }))) = true ∧
    (edge (2 ^ 32) (fun n => .relayReply .sw n []) && refused (.relayReply .sw 0 (List.replicate 257 0))) = true ∧
    (edge 128 (fun n => .entdaa .sw n)) = true ∧
    (edge (2 ^ 32) (fun n => .arpRequest .sw false n)) = true ∧
    (edge (2 ^ 128) (fun n => .neighbourSolicit .sw false n)) = true ∧
    (refused (.zhevselerPacketRejected { version := 256 } 0 0) && edge 65536 (fun n => .zhevselerPacketRejected { } n 0) && edge 65536 (fun n => .zhevselerPacketRejected { } 0 n)) = true := by
  decide +kernel

theorem test_ill_formed_fields_refused_1 :
    (let i : Packet → Instr := fun p => .intent 0 p; (edge 16 (fun n => i { ver := n }) && edge 256 (fun n => i { op := n }) && edge 8 (fun n => i { vc := n }) && edge 256 (fun n => i { src := n }) && edge 256 (fun n => i { dst := n }) && edge 16 (fun n => i { pitch := n }) && edge (2 ^ 18) (fun n => i { tag := n }) && edge 16 (fun n => i { len := n }) && edge (2 ^ 52) (fun n => i { woff := n }) && edge 4096 (fun n => i { seq := n }) && edge (2 ^ 32) (fun n => i { key := n }) && edge (2 ^ 13) (fun n => i { rsvd := n }) && edge 4 (fun n => i { cmode := n }) && edge 65536 (fun n => i { counter := n }) && refused (i { data := [0] }) && refused (i { data := List.replicate 272 0 })) = true) ∧
    (let i : Flit → Instr := fun f => .flitReceived .sw 0 f; (edge 4096 (fun n => i { fseq := n }) && edge 4096 (fun n => i { ack := n }) && edge 8 (fun n => i { cvcA := n }) && edge 16384 (fun n => i { credA := n }) && edge 8 (fun n => i { cvcB := n }) && edge 16384 (fun n => i { credB := n }) && edge 65536 (fun n => i { pickLo := n }) && edge 4 (fun n => i { cn := n }) && refused (i { ftype := .reserved 1 }) && refused (i { ftype := .reserved 16 }) && refused (i { cells := List.replicate 16 0 })) = true) ∧
    (let i : Ident → Instr := fun x => .ident .sw 0 x; (edge (2 ^ 64) (fun n => i { serial := n }) && edge 65536 (fun n => i { port := n }) && edge 256 (fun n => i { plane := n }) && edge 256 (fun n => i { node := n }) && edge 4096 (fun n => i { domain := n }) && edge 16 (fun n => i { pitch := n })) = true) ∧
    (let i : Caps → Instr := fun x => .caps .sw 0 x; (edge 16 (fun n => i { lverMax := n }) && edge 16 (fun n => i { kind := n }) && edge 65536 (fun n => i { replayFlits := n })) = true) ∧
    (let i : LaneSet → Instr := fun x => .move .sw 0 x; (edge 256 (fun n => i { cmd := n }) && edge 256 (fun n => i { arg0 := n }) && edge 256 (fun n => i { arg1 := n }) && edge 256 (fun n => i { arg2 := n }) && edge 256 (fun n => i { arg3 := n })) = true) := by
  decide +kernel

theorem test_ill_formed_fields_refused_2 :
    (let i : TrainingSet → Instr := fun x => .trainingSet .sw 0 x false; (edge 34 (fun n => i { chan := n }) && edge 64 (fun n => i { role := n }) && edge 16 (fun n => i { stage := n }) && edge 256 (fun n => i { dsk := n })) = true) ∧
    (let i : Marker → Instr := fun x => .pickMarker .sw 0 x; (edge (2 ^ 64) (fun n => i { marker with pn := n }) && edge 8 (fun n => i { marker with state := n }) && edge 256 (fun n => i { marker with echo := n }) && edge 65536 (fun n => i { marker with turn := n }) && refused (i { marker with roles := List.replicate 33 0 }) && refused (i { marker with roles := List.replicate 34 64 }) && refused (i { marker with wrongIds := [(34, 0)] }) && refused (i { marker with wrongIds := [(0, 64)] })) = true) ∧
    (let i : OptReport → Instr := fun x => .opticalReport .sw 0 x; (edge 288 (fun n => i { report with port := n }) && edge 33 (fun n => i { report with lanes := n }) && edge (2 ^ 64) (fun n => i { report with pick := n }) && refused (i { report with txTap := 32768 }) && refused (i { report with rxIn := -32768 }) && refused (i { report with drop := List.replicate 33 none }) && refused (i { report with drop := List.replicate 34 (some 32768) })) = true) ∧
    (let i : RingId → Instr := fun x => .ringRelock .sw 0 x; (edge 34 (fun n => i { chan := n })) = true) ∧
    (let i : LhaMsg → Instr := fun x => .ld x; (edge 4 (fun n => i { module := n }) && edge 16 (fun n => i { lver := n }) && edge 8 (fun n => i { chan := n }) && edge 256 (fun n => i { mop := n }) && edge 256 (fun n => i { ctx := n }) && edge 64 (fun n => i { asid := n }) && edge 4 (fun n => i { rsvdHi := n }) && edge 128 (fun n => i { rsvdLo := n }) && edge 65536 (fun n => i { tag := n }) && edge 32 (fun n => i { len := n }) && edge (2 ^ 64) (fun n => i { addr := n }) && refused (i { data := [0] }) && refused (i { data := List.replicate 512 0 })) = true) := by
  decide +kernel

theorem test_ill_formed_fields_refused_3 :
    (let i : ZPacket → Instr := fun x => .echo x; (edge 256 (fun n => i { version := n }) && edge 64 (fun n => i { rsvdFlags := n }) && edge 65536 (fun n => i { length := n }) && edge (2 ^ 32) (fun n => i { tag := n }) && edge 256 (fun n => i { kind := n }) && edge (2 ^ 24) (fun n => i { index := n }) && edge 256 (fun n => i { srcNode := n }) && edge 8 (fun n => i { plane := n }) && refused (i { size := 17 }) && refused (i { session := some (2 ^ 32) })) = true) ∧
    (let i : SpdmReq → Instr := fun x => .finish x; (edge (2 ^ 32) (fun n => i { session := n }) && edge 256 (fun n => i { index := n })) = true) ∧
    (let i : BoundaryIn → Instr := fun x => .pickBoundary x; (edge 256 (fun n => i { slackDie := n }) && edge 65 (fun n => i { eyeMin := n }) && edge 288 (fun n => i { eyePort := n }) && edge 288 (fun n => i { heaterPort := n }) && refused (i { dramRows := [2] }) && refused (i { dramEcc := [(2, true)] }) && refused (i { badShafts := [9] })) = true) ∧
    (let i : MonitorIn → Instr := fun x => .monitorSample .sw 0 x; (refused (i { tap := some 32768 }) && refused (i { dist := some (-32768) }) && refused (i { rxIn := some 32768 }) && refused (i { combOut := some 32768 }) && refused (i { combLockErr := some (-32768) }) && refused (i { drop := [(34, 0)] }) && refused (i { drop := [(0, 32768)] }) && refused (i { txErr := [(34, 0)] }) && refused (i { rxErr := [(0, 32768)] })) = true) := by
  decide +kernel

/-! ### The spec's worked examples, and single commands -/

/-- The store of the worked example of spec/02. -/
def store : Packet := { op := 0x02, src := 0x12, dst := 0xB7, pitch := 2, tag := 0x1A2B, len := 0xF, woff := 0x3000000400000, seq := 0x2C4, key := 0x7A419C02, data := List.replicate 256 0 }

/-- The header cell, the low half of the check cell, and the 18 cells of the store (spec/02, Table 2.5, Table 2.10). -/
theorem test_header_of_a_store : store.header = 0x1022004ADC81A2BF30000004000002C4 ∧ store.checkLow = 0x7A419C0200000000 ∧ store.cellCount = 18 ∧ store.cells.length = 18 := by decide +kernel

/-- The hash and the plane of the store, the domain's seed being 3 (spec/03, R90). -/
theorem test_plane_of_a_store : planeHash 3 0xB7 store.woff = 0x0D ∧ ({ st.ep with c := { st.ep.c with rf := { st.ep.c.rf with cur := [(0x40000, 3)] }, ports := (List.range 8).map (fun n => (n, up)) } } : EpState).planeOf 0xB7 store.woff = some 5 := by decide +kernel

/-- A `FETCH_ADD` of the batch of spec/03. -/
def fetchAdd (src operand : Nat) : Packet := { op := 5, src := src, dst := 0x6D, data := beBytes (1 * 2 ^ 120 + 3 * 2 ^ 116 + 2 ^ 113) 16 ++ beBytes operand 16 ++ List.replicate 32 0 }

/-- Five fetch-adds in one batch (spec/03, Table 3.14): the merged operand, and one receipt of 92 bytes in 8 data cells. -/
theorem test_five_fetch_adds :
    (let l := [fetchAdd 0x05 3, fetchAdd 0x21 1, fetchAdd 0x9C 7, fetchAdd 0x05 2, fetchAdd 0xE0 5]
     let b : CombBatch := { number := 1, line := 0x1008, members := l.map (fun p => (0, p)) }
     operandOf b.request = 18 ∧ fetchOf (b.request.cell 0) = true ∧ b.receipts.map (fun p => (p.mgmtBody.length, p.data.length)) = [(92, 128)]) := by decide +kernel

/-- Two instruction words of spec/10. -/
theorem test_bartas_words : wordI 0x11 2 0 0x2C = 0x4440002C ∧ wordV 0x21 7 16 17 10 3 = 0x84F08A83 := by decide +kernel

/-- One MXFP4 group in exact mode (spec/11): the alignment exponent, the accumulators of two elements, their output codes under the scale 0x7E. -/
theorem test_one_mxfp4_group :
    (let f := fmtOf 0x24
     let x := fun (s c : Nat) => match f.groupValues s [c] with | v :: _ => (exOf 4 v).1 | [] => 0
     let tree := fun (a b c d : Nat) => (exJoin (exJoin a b).1 (exJoin c d).1).1
     f.align [0x7F, 0x7D, 0x43, 0x80] = 4 ∧ tree (x 0x7F 5) (x 0x7D 7) (x 0x43 3) (x 0x80 0xB) = 0x000C000000000000 ∧ tree (x 0x7F 1) (x 0x7D 1) (x 0x43 2) (x 0x80 2) = 0x0015000000000000 ∧
     (f.chooseScale [exValue 4 1 0x000C000000000000, exValue 4 1 0x0015000000000000]).1 = 0x7E ∧ (f.encodeElem 0x7E (exValue 4 1 0x000C000000000000) none).1 = 5 ∧ (f.encodeElem 0x7E (exValue 4 1 0x0015000000000000) none).1 = 7 ∧
     (f.encodeElem 0x7E (exValue 4 1 0x0015000000000000) (some 10485759)).1 = 7 ∧ (f.encodeElem 0x7E (exValue 4 1 0x0015000000000000) (some 10485760)).1 = 6) := by decide +kernel

/-- Gates under three caps (spec/15, Table 15.3), in tenths of a watt. -/
theorem test_gates_under_three_caps : gatesFor 8000 6000 1680 3820 8400 = (1, 64) ∧ gatesFor 11000 6000 1680 3820 8400 = (23, 64) ∧ gatesFor 7000 6000 1680 3820 8400 = (1, 5) := by decide +kernel

/-- The loose limit of plane 2 through picks 0 to 3 (spec/08, Table 8.10). -/
theorem test_loose_limit_backs_off :
    (let c := fun (l : Option Nat) (level : Nat) => ({ tc .ep with ports := [(2, { up with eg := { loose := l, level := level } })] } : Common)
     let next := fun (l : Option Nat) (level : Nat) => (((c l level).looseBoundary 2).port 2).eg.loose
     next none 1 = some 6563 ∧ next (some 6563) 2 = some 4923 ∧ next (some 4923) 1 = some 4308 ∧ next (some 4308) 0 = some 4458 ∧ next (some 7458) 0 = some 7500) := by decide +kernel

/-- `STAGE_WRITE` of reservation D (spec/17): the entries as staged, in the set that the packet names. -/
theorem test_stage_write_of_reservation_d :
    (let z := cmd .sw [0x02, 0, 0, 2, 0, 0, 0, 0, 0, 0x51, 0, 0x18, 0, 0x6D, 0x21, 0x21, 0xFF, 0xFF, 0xFF, 0xFF, 0, 0x51, 0, 0x1C, 0, 0x50, 0x02, 0xD0, 0xFF, 0xFF, 0xFF, 0xFF]
     (match execStageWrite z st with
      | .next t => (t.sw.c.set 2).st == .opened && (t.sw.c.set 2).entries == [{ addr := 0x510018, value := 0x6D2121, mask := 0xFFFFFFFF }, { addr := 0x51001C, value := 0x5002D0, mask := 0xFFFFFFFF }]
      | _ => false) = true) := by decide +kernel

/-- The switch of spec/08 with reservations A, B and C, and D of a FWD and REV staged in set 2. -/
def withReservations (fwd rev : Nat) : State :=
  on .sw (fun c => { c with
    rf := { c.rf with cur := [(0x510000, 0x006D1201), (0x510004, BitVec.ofNat 32 (200 * 65536 + 1800)), (0x510008, 0x006D4001), (0x51000C, BitVec.ofNat 32 (240 * 65536 + 2160)), (0x510010, 0x00126D01), (0x510014, BitVec.ofNat 32 (100 * 65536 + 900))] ++ [0x12, 0x21, 0x40, 0x6D].map (fun n => (aliasA n, BitVec.ofNat 32 (2 ^ 31 + n))) },
    ports := [0x12, 0x21, 0x40, 0x6D].map (fun n => (n, up)),
    stage := { c.stage with sets := [(2, { st := .opened, entries := [{ addr := 0x510018, value := 0x6D2101, mask := 0xFFFFFFFF }, { addr := 0x51001C, value := rev * 65536 + fwd, mask := 0xFFFFFFFF }] })] } })

/-- A fourth reservation (spec/08, spec/17): 4,780 cells from the switch to node 0x6D are too many, 4,492 are not. -/
theorem test_fourth_reservation :
    (let f := fun (s : State) => s.sw.stakedOver (s.sw.c.checking 2 1000)
     f (withReservations 720 80) = [{ code := 0x130, index := 0x806D, addr := 0x51001C, value := 4780 }] ∧ f (withReservations 432 48) = [] ∧
     conflictBytes { } (f (withReservations 720 80)) = [0, 1, 0, 1, 0x01, 0x30, 0x80, 0x6D, 0, 0x51, 0, 0x1C, 0, 0, 0x12, 0xAC]) := by decide +kernel

/-- Views and aliases of the page of port 106 (spec/18). -/
theorem test_views_and_aliases :
    decodeAddr .sw 0x16A880 = .reg 0x16A080 .clearBits ∧ decodeAddr .sw 0x16AC80 = .reg 0x16A080 .toggle ∧ decodeAddr .sw 0x16A208 = .reg 0x16A008 .normal ∧ decodeAddr .sw 0x16A1C8 = .hole ∧ decodeAddr .sw 0x313008 = .reg 0x311008 .normal := by decide +kernel

/-- The automatic eye scans of port 106 stop, then the scans of all channels (spec/18). -/
theorem test_clear_and_toggle_views :
    (let s := regs .sw [(0x16A080, 0x440)]
     ((s.sw.write 0x16A880 0x400).2.c.rd 0x16A080 = 0x40) ∧ (((regs .sw [(0x16A080, 0x40)]).sw.write 0x16AC80 0x40).2.c.rd 0x16A080 = 0)) := by decide +kernel

/-- `PORT_LINK_EVENT` of port 106 (spec/18, Table 18.14). -/
theorem test_event_clears_on_its_sequence :
    (let c := { tc .sw with rf := { (tc .sw).rf with seqs := [(0x16A008, 0x2D)] } }
     let c1 := c.event 0x16A008 0x4000
     let c2 := c1.event 0x16A008 0x4100
     let w := fun (c : Common) (v : Nat) => (({ st.sw with c := c } : SwState).write 0x16A008 v).2.c
     c1.rd 0x16A008 = 0x2E4000 ∧ c2.rd 0x16A008 = 0x2F4100 ∧ (w c2 0x2E0000).rd 0x16A008 = 0x2F4100 ∧ (w c2 0x2F0000).rd 0x16A008 = 0 ∧ ((w c2 0x2F0000).event 0x16A008 0x4000).rd 0x16A008 = 0x304000) := by decide +kernel

/-- An empty queue idles. -/
theorem test_reset_idles : step State.reset = .next State.reset := rfl

end Sys2Proof.Tests
end

section
/-!
PROOF. `exec` is total but for units that a part does not have: with `exec_through` for the commands that a held part ignores, what is said here of the eight that reach a held part, and of commands whose units do not exist.
-/

namespace Sys2Proof.Machine

/-! ### The commands that reach a held part -/

/-- Changing what both parts hold keeps the queue and the other part. -/
theorem State.modPart_keeps (s : State) (part : Part) (f : Common → Common) : (s.modPart part f).pending = s.pending ∧ s.otherSame (s.modPart part f) part := by
  cases part <;> exact ⟨rfl, rfl⟩

theorem State.otherSame_trans {s u t : State} {part : Part} (hu : s.otherSame u part) (ht : u.otherSame t part) : s.otherSame t part := by
  cases part with
  | sw => exact Eq.trans (b := u.ep) ht hu
  | ep => exact Eq.trans (b := u.sw) ht hu

/-- A pin that changes what both parts hold even in a held part, and then acts through its part: the level of LASER_EN. -/
theorem onPart_modPart_total (part : Part) (s : State) (f g : Common → Common) :
    ∃ t, onPart part (s.modPart part f) g = .next t ∧ t.pending = s.pending ∧ s.otherSame t part := by
  obtain ⟨hq, ho⟩ := s.modPart_keeps part f
  obtain ⟨t, ht, hp, hs⟩ := onPart_total part (s.modPart part f) g
  exact ⟨t, ht, hp.trans hq, State.otherSame_trans ho hs⟩

/-- The commands that reach a held part answer a next state too, and keep the queue and the other part. -/
theorem exec_reachesHeld_total (c : Instr) (s : State) (r : reachesHeld c = true) :
    ∃ t, exec c s = .next t ∧ t.pending = s.pending ∧ s.otherSame t (partOf c) := by
  cases c
  case laserEnLow => exact onPart_modPart_total _ _ _ _
  case laserEnHigh => exact onPart_modPart_total _ _ _ _
  case guyLinkChange => rw [exec_guyLinkChange, execGuyLinkChange]; exact onRaw_total _ _ _ _
  case powerAlertAssert => rw [exec_powerAlertAssert, execPowerAlertAssert]; exact onRaw_total _ _ _ _
  case powerAlertDeassert => rw [exec_powerAlertDeassert, execPowerAlertDeassert]; exact onRaw_total _ _ _ _
  case resetAssert => rw [exec_resetAssert, execResetAssert]; exact onRaw_total _ _ _ _
  case resetRelease => rw [exec_resetRelease, execResetRelease]; exact onRaw_total _ _ _ _
  case suddenPowerLoss => rw [exec_suddenPowerLoss, execSuddenPowerLoss]; exact onRaw_total _ _ _ _
  all_goals exact absurd r Bool.false_ne_true

/-- A command whose units exist answers a next state, and keeps the queue and the other part. -/
theorem exec_total (c : Instr) (s : State) (h : unitsExist c = true) :
    ∃ t, exec c s = .next t ∧ t.pending = s.pending ∧ s.otherSame t (partOf c) := by
  cases r : reachesHeld c with
  | false => exact through_next s _ _ (exec_through c s h r)
  | true => exact exec_reachesHeld_total c s r

/-! ### Units that a part does not have -/

theorem onPort_noUnit (part : Part) (n : Nat) (s : State) (f : Common → Common) (h : decide (n < portCount part) = false) :
    onPort part n s f = .fault .noUnit := if_neg (of_decide_eq_false h)

theorem onComb_noUnit (part : Part) (k : Nat) (s : State) (f : Common → Common) (h : decide (k < combCount part) = false) :
    onComb part k s f = .fault .noUnit := if_neg (of_decide_eq_false h)

theorem onSwIf_noUnit (ok : Bool) (s : State) (f : SwState → SwState) (h : ok = false) : onSwIf ok s f = .fault .noUnit := by
  subst h; rfl

theorem onEpIf_noUnit (ok : Bool) (s : State) (f : EpState → EpState) (h : ok = false) : onEpIf ok s f = .fault .noUnit := by
  subst h; rfl

/-- A command that names a unit its part does not have stops with the fault `noUnit`: the split is by the waist through which the command's units are checked, and every command not listed names no unit. -/
theorem exec_noUnit (c : Instr) (s : State) (h : unitsExist c = false) : exec c s = .fault .noUnit := by
  cases c
  case pickSyncPulse part _ _ _ =>
    cases part with
    | sw => exact absurd h.symm Bool.false_ne_true
    | ep => rfl
  case stagedSetCommit part _ =>
    cases part with
    | sw => exact onSwIf_noUnit _ _ _ h
    | ep => exact onEpIf_noUnit _ _ _ h
  case spareLightArrived => exact if_neg (of_decide_eq_false h)
  case combLocked | combWarmTimeout | combLockerLost | combOutputLow =>
    exact onComb_noUnit _ _ _ _ h
  case telHwmClr | pickMarker | flitSend | flitReceived | replayTimeout | trainingSet | stageTimeout | caps | ident | wire | creditInit | admitMsg |
      laneCtrlCheck | move | moveOk | moveNo | width | widthOk | laneCtrlRetry | drain | drainDone | strike | strikeDone | strikeComplete |
      strikeStepTimeout | linkCmdRaise | linkCmdStrike | linkCmdCheck | linkCmdClrLane | eyeStart | eyeStop | eyeScanDone | monitorSample |
      warmReraiseDone | openFibre | launchLimit | probePulse | probeSet | feedforwardSample | ringLockLost | ringRelock | slipRelockTimeout |
      opticalReport | ringsLocked =>
    exact onPort_noUnit _ _ _ _ h
  case packetForward | bufferAdmission | sprayUnitArrival | reedReceipt | reedHoleTimeout | packetAgeDiscard | castSend | combineAnswer | mergedForget
      | msgSendRoute | msgSendSelvedge | msgAckRoute | intent | contrib | abort | received | query | intentWaitExpired | collStall | barAdd | barSub |
      barAnd | barOr | barXor | barSll | barSrl | barSra | barMul | barMulhu | barDivu | barRemu | barSlt | barSltu | barMin | barMax | barAddi |
      barAndi | barOri | barXori | barLui | barSlli | barSrli | barBeq | barBne | barBlt | barBge | barBltu | barBgeu | barJal | barJr | barLd | barLw
      | barSt | barSw | barDld | barDst | barFlush | barCpy | barCwait | barVcvt | barVacc | barVfin | barVqnt | barVmrg | barVspr | barVmov |
      barVwait | barSwait | barSall | barSrel | barScnt | barRcast | barRsend | barRwait | barPick | barAbrt | barEnd | contextResume | watchdogFire |
      progPieceTimeout | peFailure | dramStackFailure | pitchScrubDone | resourceScrubDone =>
    exact onSwIf_noUnit _ _ _ h
  case stakedAccept | wheelSlot | requestSend | read | write | writeMasked | writeFlagNode | writeFlagAll | atomic | mergedRequest | combineReceipt |
      combineBatchDrop | readRsp | writeAck | atomicRsp | msgSend | msgAck | fenceComplete | ctrSub | rlcAdviceWrite | keyTableWrite | ld | st |
      stMasked | lhaAt | lhaFence | kernelStart | regRd | regWr | mrdRsp | mwrAck | matRsp | credit | moduleTrained | offerRetry | accept | quiesce |
      moduleLinkLost | ereqTimeout | lhaMalformedMessage | ceDoorbell | ceEnable | ceDisable | ceResume | ceAbort | copy | qcopy | ceAtomic | ceFlag |
      ceFence | nop | ceCompletion | measSlotOpen | measSlotClose | grantAdmit | grantCredit | result | abortNotice | done | resend | membNotice |
      reservedOpcodePacket =>
    exact onEpIf_noUnit _ _ _ h
  all_goals exact absurd h.symm Bool.false_ne_true

/-- Settles O3: a command whose units exist acts through its part or reaches it held, and either way answers a next state; any other is stopped where its units are checked. -/
theorem everyCommandCompletes : Obligations.EveryCommandCompletes := by
  intro c s
  refine ⟨fun h => ?_, exec_noUnit c s⟩
  obtain ⟨t, ht, hq, ho⟩ := exec_total c s h
  exact ⟨t, ht, hq, ho⟩

end Sys2Proof.Machine
end

section
/-!
PROOF. What a register write does where it stores nothing at once (it is posted, dropped or ignored), what `WP_WRITE_COMPLETE` stores, and what a read leaves of the captures.
-/

namespace Sys2Proof.Machine

/-! ### Writes that store nothing at once -/

/-- A plan that puts a value in the register and sets off the register's own action. -/
def WritePlan.stores : WritePlan → Bool
  | .store _ _ _ => true
  | _ => false

/-- What both parts hold after a plan that does not store. -/
def Common.unstored (c : Common) (row : RegRow) (a : Nat) : WritePlan → Common
  | .ignore .busy => c.bump (dropCounter row a)
  | .clearEvent => c.wr a 0
  | .post v => c.post row a v
  | _ => c

theorem Common.unstored_ports (c : Common) (row : RegRow) (a : Nat) (p : WritePlan) : (c.unstored row a p).ports = c.ports := by
  unfold Common.unstored
  split
  · exact c.bump_ports _
  · exact c.wr_ports _ _
  · rfl
  · rfl

@[simp] theorem Common.unstored_busy (c : Common) (row : RegRow) (a : Nat) : c.unstored row a (.ignore .busy) = c.bump (dropCounter row a) := rfl
@[simp] theorem Common.unstored_stagedOnly (c : Common) (row : RegRow) (a : Nat) : c.unstored row a (.ignore .stagedOnly) = c := rfl
@[simp] theorem Common.unstored_readOnly (c : Common) (row : RegRow) (a : Nat) : c.unstored row a (.ignore .readOnly) = c := rfl
@[simp] theorem Common.unstored_post (c : Common) (row : RegRow) (a v : Nat) : c.unstored row a (.post v) = c.post row a v := rfl

theorem SwState.carry_unstored (s : SwState) (row : RegRow) (a : Nat) (p : WritePlan) (h : p.stores = false) :
    (s.carry row a p).2 = { s with c := s.c.unstored row a p } := by
  cases p with
  | store => exact absurd h.symm Bool.false_ne_true
  | ignore w => cases w <;> rfl
  | _ => rfl

theorem EpState.carry_unstored (s : EpState) (row : RegRow) (a : Nat) (p : WritePlan) (h : p.stores = false) :
    (s.carry row a p).2 = { s with c := s.c.unstored row a p } := by
  cases p with
  | store => exact absurd h.symm Bool.false_ne_true
  | ignore w => cases w <;> rfl
  | _ => rfl

/-- The state after a command that leaves what both parts hold as `c`, with the ports that it had. -/
theorem State.after_ep_ports (s : State) (c : Common) (h : c.ports = s.ep.c.ports) : s.after .ep c = s.afterEp { s.ep with c := c } := by
  simp only [State.after, refollow_ports c s.ep.c h]

/-- A write of `EP_LHA_STEER` while SERVE is 1 (R254). -/
def State.steering (s : State) (part : Part) (a : Nat) : Prop := part = .ep ∧ a = 0x8000C ∧ flag (s.ep.c.rd 0x80000) 0 = true

/-- A write that is planned not to store changes what both parts hold by its plan, and nothing else. -/
theorem State.regWrite_unstored (s : State) (part : Part) (a0 a v i : Nat) (view : View) (row : RegRow) (p : WritePlan)
    (hw : s.heldPart part = false) (hd : decodeAddr part a0 = .reg a view) (hr : regAt part a = some (row, i)) (hs : ¬s.steering part a)
    (hp : (s.common part).plan row a view (s.shownReg part a) (v % 2 ^ 32) = p) (hn : p.stores = false) :
    s.regWrite part a0 v = .next (s.after part ((s.common part).unstored row a p)) := by
  cases part with
  | sw =>
    have e : (s.sw.write a0 v).2 = { s.sw with c := s.sw.c.unstored row a p } := by
      simp only [SwState.write, hd, hr]
      rw [← SwState.carry_unstored s.sw row a p hn, ← hp]
      rfl
    simp only [State.regWrite, onSw_after _ _ hw, e]
    rfl
  | ep =>
    have e : (s.ep.write a0 v).2 = { s.ep with c := s.ep.c.unstored row a p } := by
      have hs' : ¬(a = 0x8000C ∧ flag (s.ep.c.rd 0x80000) 0 = true) := fun h => hs ⟨rfl, h⟩
      simp only [EpState.write, hd, hr, if_neg hs']
      rw [← EpState.carry_unstored s.ep row a p hn, ← hp]
      rfl
    simp only [State.regWrite, onEp_after _ _ hw, e, State.common, State.after_ep_ports _ _ (s.ep.c.unstored_ports row a p)]

theorem State.regWrite_steering (s : State) (part : Part) (a0 a v i : Nat) (view : View) (row : RegRow)
    (hw : s.heldPart part = false) (hd : decodeAddr part a0 = .reg a view) (hr : regAt part a = some (row, i)) (hs : s.steering part a) :
    s.regWrite part a0 v = .next (s.after part (s.common part)) := by
  obtain ⟨rfl, hs⟩ := hs
  have e : (s.ep.write a0 v).2 = s.ep := by simp only [EpState.write, hd, hr, if_pos hs]
  simp only [State.regWrite, onEp_after _ _ hw, e, State.common, after_ep_same]

theorem State.regWrite_hole (s : State) (part : Part) (a0 v : Nat) (hw : s.heldPart part = false) (hd : decodeAddr part a0 = .hole) :
    s.regWrite part a0 v = .next (s.after part ((s.common part).bumpLo 0x24)) := by
  cases part with
  | sw =>
    simp only [State.regWrite, onSw_after _ _ hw, SwState.write, hd]
    rfl
  | ep =>
    simp only [State.regWrite, onEp_after _ _ hw, EpState.write, hd, State.common, State.after_ep_ports _ _ (s.ep.c.bumpLo_ports 0x24)]
    rfl

/-! ### Plans -/

/-- A register that only a staged set may change now (R719). -/
def Common.stagedNow (c : Common) (row : RegRow) : Prop := row.staged = .always ∨ (row.staged = .admitted ∧ c.admitted = true)

/-- A WP register takes writes through the normal view: it is posted, or dropped where its block is busy (R714). -/
theorem Common.plan_wp (c : Common) (row : RegRow) (a : Nat) (shown : Reg) (v : Nat) (hs : ¬c.stagedNow row) (hre : row.re = false)
    (hwp : row.wp ≠ 0) (hl : c.combLocks a = false) :
    c.plan row a .normal shown v = if c.blockBusy (slowBlock row a) then .ignore .busy else .post v := by
  unfold Common.stagedNow at hs
  simp [Common.plan, hs, hre, hwp, hl]

/-- No field of the register is written through the view. -/
def Common.unwritten (c : Common) (row : RegRow) (a : Nat) (view : View) : Prop :=
  row.re = false ∧ row.rw = 0 ∧ isHeatMark c.part a = false ∧ (view ≠ .normal ∨ (row.wp = 0 ∧ row.wo = 0))

theorem Common.plan_stagedNow (c : Common) (row : RegRow) (a : Nat) (view : View) (shown : Reg) (v : Nat) (h : c.stagedNow row) :
    c.plan row a view shown v = .ignore .stagedOnly := if_pos h

theorem Common.plan_unwritten (c : Common) (row : RegRow) (a : Nat) (view : View) (shown : Reg) (v : Nat) (hs : ¬c.stagedNow row)
    (h : c.unwritten row a view) : c.plan row a view shown v = .ignore .readOnly := by
  unfold Common.stagedNow at hs
  obtain ⟨hre, hrw, hm, hv | ⟨hwp, hwo⟩⟩ := h
  · simp [Common.plan, hs, hre, hrw, hm, hv]
  · simp [Common.plan, hs, hre, hrw, hm, hwp, hwo]

/-- A write that the register does not take now, whatever it writes: it changes nothing. -/
theorem State.regWrite_refused (s : State) (part : Part) (a0 a v i : Nat) (view : View) (row : RegRow)
    (hw : s.heldPart part = false) (hd : decodeAddr part a0 = .reg a view) (hr : regAt part a = some (row, i))
    (h : (s.common part).stagedNow row ∨ s.steering part a ∨ (s.common part).unwritten row a view) :
    s.regWrite part a0 v = .next (s.after part (s.common part)) := by
  by_cases hst : s.steering part a
  · exact s.regWrite_steering part a0 a v i view row hw hd hr hst
  by_cases hs : (s.common part).stagedNow row
  · have e := s.regWrite_unstored part a0 a v i view row _ hw hd hr hst (Common.plan_stagedNow _ _ _ _ _ _ hs) rfl
    rwa [Common.unstored_stagedOnly] at e
  · have hu := (h.resolve_left hs).resolve_left hst
    have e := s.regWrite_unstored part a0 a v i view row _ hw hd hr hst (Common.plan_unwritten _ _ _ _ _ _ hs hu) rfl
    rwa [Common.unstored_readOnly] at e

/-- `EP_LHA_STEER` is no WP register. -/
theorem steer_wp : (regAt .ep 0x8000C).all (fun r => r.1.wp == 0) = true := by decide +kernel

theorem State.not_steering_of_wp (s : State) (part : Part) (a i : Nat) (row : RegRow) (hr : regAt part a = some (row, i)) (hwp : row.wp ≠ 0) :
    ¬s.steering part a := by
  rintro ⟨rfl, rfl, -⟩
  have := steer_wp
  rw [hr] at this
  simp [hwp] at this

/-- A write of a WP register through the normal view is posted behind the earlier ones, or counted as dropped where the block is busy (R714). -/
theorem State.regWrite_wp (s : State) (part : Part) (a0 a v i : Nat) (row : RegRow)
    (hw : s.heldPart part = false) (hd : decodeAddr part a0 = .reg a .normal) (hr : regAt part a = some (row, i))
    (hs : ¬(s.common part).stagedNow row) (hre : row.re = false) (hwp : row.wp ≠ 0) (hl : (s.common part).combLocks a = false) (hv : v < 2 ^ 32) :
    s.regWrite part a0 v =
      .next (s.after part (if (s.common part).blockBusy (slowBlock row a) then (s.common part).bump (dropCounter row a) else (s.common part).post row a v)) := by
  have hst := s.not_steering_of_wp part a i row hr hwp
  have e := s.regWrite_unstored part a0 a v i .normal row _ hw hd hr hst (Common.plan_wp _ row a _ _ hs hre hwp hl)
  rw [Nat.mod_eq_of_lt hv] at e
  split at e
  case isTrue hb =>
    rw [if_pos hb, e rfl, Common.unstored_busy]
  case isFalse hb =>
    rw [if_neg hb, e rfl, Common.unstored_post]

/-! ### `WP_WRITE_COMPLETE` -/

/-- A posted write has left the list. -/
def Common.unpost (c : Common) (w : Posted) : Common := { c with rf := { c.rf with posted := c.rf.posted.erase w } }

theorem Common.wpComplete_none (c : Common) (block : Nat) (h : c.rf.posted.find? (fun w => w.block == block) = none) : c.wpComplete block = c := by
  simp only [Common.wpComplete, h]

/-- A completed write that enables no comb stores its value. -/
theorem Common.wpComplete_store (c : Common) (block : Nat) (w : Posted) (h : c.rf.posted.find? (fun w => w.block == block) = some w)
    (hk : combCtrlOf c.part w.addr = none ∨ flag w.value 0 = false) : c.wpComplete block = (c.unpost w).wr w.addr w.value := by
  simp only [Common.wpComplete, h]
  rcases hk with hk | hf
  · rw [hk]; rfl
  · simp only [hf, Bool.false_eq_true, if_false]
    split <;> rfl

/-- A completed write of `COMB_CTRL` that enables its comb stores its value, and the comb may start warming. -/
theorem Common.wpComplete_warm (c : Common) (block k : Nat) (w : Posted) (h : c.rf.posted.find? (fun w => w.block == block) = some w)
    (hk : combCtrlOf c.part w.addr = some k) (hf : flag w.value 0 = true) : c.wpComplete block = ((c.unpost w).wr w.addr w.value).warmComb k := by
  simp only [Common.wpComplete, h, hk, hf, if_true]
  rfl

@[simp] theorem Common.warmComb_rf (c : Common) (k : Nat) : (c.warmComb k).rf = c.rf := by
  unfold Common.warmComb
  split <;> rfl

@[simp] theorem Common.wr_posted (c : Common) (a : Nat) (v : Reg) : (c.wr a v).rf.posted = c.rf.posted := by cases c; rfl

theorem Common.wpComplete_posted (c : Common) (block : Nat) (w : Posted) (h : c.rf.posted.find? (fun w => w.block == block) = some w) :
    (c.wpComplete block).rf.posted = c.rf.posted.erase w := by
  have hu : ((c.unpost w).wr w.addr w.value).rf.posted = c.rf.posted.erase w := Common.wr_posted _ _ _
  cases hk : combCtrlOf c.part w.addr with
  | none => rw [c.wpComplete_store block w h (.inl hk), hu]
  | some k =>
    cases hf : flag w.value 0 with
    | false => rw [c.wpComplete_store block w h (.inr hf), hu]
    | true => rw [c.wpComplete_warm block k w h hk hf, Common.warmComb_rf, hu]

/-- Storing a register changes the register file alone. -/
theorem Common.wr_eq (c : Common) (a : Nat) (v : Reg) : c.wr a v = { c with rf := { c.rf with cur := (c.wr a v).rf.cur } } := rfl

/-! ### Reading -/

theorem Common.readWord_ports (c : Common) (get : Nat → Reg) (who : Requester) (a0 : Nat) : (c.readWord get who a0).2.ports = c.ports := by
  unfold Common.readWord
  split
  · exact c.bumpLo_ports _
  · dsimp only
    split
    · rfl
    · split <;> rfl

theorem exec_loWordRead_after (s : State) (part : Part) (who : Requester) (a0 : Nat) (hw : s.heldPart part = false) :
    exec (.loWordRead part who a0) s = .next (s.after part ((s.common part).readWord ((s.common part).shown (s.shownReg part)) who a0).2) := by
  cases part with
  | sw =>
    simp only [exec_loWordRead, execLoWordRead, onSw_after _ _ hw]
    rfl
  | ep =>
    have hp := s.ep.c.readWord_ports (s.ep.c.shown (s.shownReg .ep)) who a0
    simp only [exec_loWordRead, execLoWordRead, onEp_after _ _ hw, State.common]
    rw [State.after_ep_ports _ _ hp]
    rfl

/-- A LO word captures its HI word for the requester. -/
theorem Common.readWord_lo (c : Common) (get : Nat → Reg) (who : Requester) (a0 a h : Nat) (view : View) (hd : decodeAddr c.part a0 = .reg a view)
    (hh : hiOf c.part a = some h) :
    (c.readWord get who a0).2 = { c with rf := { c.rf with
      captures := c.rf.captures.filter (fun x => !(x.who == who && x.addr == h)) ++ [{ who := who, addr := h, value := get h }] } } := by
  simp only [Common.readWord, hd, hh]

/-- Any other word takes away what its requester had captured of it. -/
theorem Common.readWord_other (c : Common) (get : Nat → Reg) (who : Requester) (a0 a : Nat) (view : View) (hd : decodeAddr c.part a0 = .reg a view)
    (hh : hiOf c.part a = none) :
    (c.readWord get who a0).2 = { c with rf := { c.rf with captures := c.rf.captures.filter (fun x => !(x.who == who && x.addr == a)) } } := by
  simp only [Common.readWord, hd, hh]
  split
  case h_1 => rfl
  case h_2 hf =>
    have hk : c.rf.captures.filter (fun x => !(x.who == who && x.addr == a)) = c.rf.captures := by
      rw [List.filter_eq_self]
      intro x hx
      simpa only [Bool.not_eq_true', Bool.not_eq_true] using List.find?_eq_none.mp hf x hx
    rw [hk]

/-- Settles O11: each clause is what one operation does, said above. -/
theorem slowWritesArePosted : Obligations.SlowWritesArePosted := by
  refine ⟨?_, ?_, ?_, ?_, ?_, ?_, ?_⟩
  · intro s part a0 a v i row hw hd hr hs hre hwp hl hv
    have e := s.regWrite_wp part a0 a v i row hw hd hr hs hre hwp hl hv
    exact ⟨e, e⟩
  · intro s part a0 a v i view row hw hd hr h
    have e := s.regWrite_refused part a0 a v i view row hw hd hr h
    exact ⟨e, e⟩
  · intro s part a0 v hw hd
    have e := s.regWrite_hole part a0 v hw hd
    exact ⟨e, e, e⟩
  · intro s part block w hw hf
    refine ⟨(s.common part).wpComplete block, onPart_after s part _ hw, Common.wpComplete_posted _ block w hf, fun hk => ?_,
      fun k hk hl => Common.wpComplete_warm _ block k w hf hk hl⟩
    rw [Common.wpComplete_store _ block w hf hk]
    exact ⟨Common.rd_wr_same _ _ _, fun b hb => Common.rd_wr_other _ _ b _ hb, Common.wr_eq _ _ _⟩
  · intro s part block hw hf
    rw [exec_wpWriteComplete, execWpWriteComplete, onPart_after s part _ hw, Common.wpComplete_none _ block hf]
  · intro s part who a0 a h view hw hd hh
    rw [exec_loWordRead_after s part who a0 hw, Common.readWord_lo _ _ who a0 a h view hd hh]
  · intro s part who a0 a view hw hd hh
    rw [exec_loWordRead_after s part who a0 hw, Common.readWord_other _ _ who a0 a view hd hh]

end Sys2Proof.Machine
end

section
/-!
PROOF. A pick boundary opens the next pick: what the count of picks and an expiry keep, what stands open after them, and what an end-point counts of the pick that ends.
-/

namespace Sys2Proof.Machine

/-! ### What the clock keeps -/

/-- A part without its registers, its staged sets and the state of its timebase, of which the pick and the nanosecond stand. -/
def Common.steady (c : Common) : Common := { c with rf := {}, stage := {}, time := { pick := c.time.pick, ns := c.time.ns } }

@[simp] theorem Timebase.setInp_pick (t : Timebase) (i : SyncInput) (s : SyncState) : (t.setInp i s).pick = t.pick := by cases i <;> rfl
@[simp] theorem Timebase.setInp_ns (t : Timebase) (i : SyncInput) (s : SyncState) : (t.setInp i s).ns = t.ns := by cases i <;> rfl

@[simp] theorem Common.steady_event (c : Common) (a low : Nat) : (c.event a low).steady = c.steady := by cases c; rfl

@[simp] theorem Common.steady_pickEvent (c : Common) (cause low : Nat) : (c.pickEvent cause low).steady = c.steady := c.steady_event _ _

theorem Common.steady_modTime (c : Common) (f : Timebase → Timebase) (hp : (f c.time).pick = c.time.pick) (hn : (f c.time).ns = c.time.ns) :
    (c.modTime f).steady = c.steady := by
  simp only [Common.steady, Common.modTime, hp, hn]

@[simp] theorem Common.steady_setInp (c : Common) (i : SyncInput) (g : Timebase → SyncState) : (c.modTime (fun t => t.setInp i (g t))).steady = c.steady :=
  c.steady_modTime _ (Timebase.setInp_pick ..) (Timebase.setInp_ns ..)

/-- Both branches keep it, so the choice keeps it. -/
theorem Common.steady_ite {p : Prop} [Decidable p] {a b d : Common} (ha : a.steady = d) (hb : b.steady = d) : (if p then a else b).steady = d := by
  split
  · exact ha
  · exact hb

theorem Common.steady_enterHoldover (c : Common) : c.enterHoldover.steady = c.steady := rfl

theorem Common.steady_disqualify (c : Common) (i : SyncInput) : (c.disqualify i).steady = c.steady := by
  refine Common.steady_ite (c.steady_setInp i _) ?_
  rw [Common.steady_pickEvent]
  refine Eq.trans ?_ (c.steady_setInp i (fun _ => { c.time.inp i with qualified := false, goodFrames := 0, fresh := false }))
  generalize c.modTime _ = d
  split
  · split <;> rfl
  · exact Common.steady_ite d.steady_enterHoldover rfl
  · rfl

theorem Common.steady_badEdge (c : Common) (i : SyncInput) : (c.badEdge i).steady = c.steady :=
  Common.steady_ite ((Common.steady_disqualify _ i).trans (c.steady_setInp i _)) (c.steady_setInp i _)

theorem Common.steady_missEdge (c : Common) (i : SyncInput) : (c.missEdge i).steady = c.steady :=
  Common.steady_ite rfl (Common.steady_ite ((Common.steady_badEdge _ i).trans (c.steady_setInp i _)) (c.steady_setInp i _))

theorem Common.steady_slewStep (c : Common) : c.slewStep.steady = c.steady := by
  refine Common.steady_ite (Common.steady_ite ?_ rfl) rfl
  dsimp only
  split
  · rw [Common.steady_pickEvent, Common.steady_setInp]; rfl
  · rw [Common.steady_pickEvent]; rfl

@[simp] theorem Common.steady_cancelScheduled (c : Common) (cause : Nat) : (c.cancelScheduled cause).steady = c.steady := by
  have h : ∀ l : List Nat, (each l c (fun c k => (c.closeSet k .cancelled).stageEvent cause k)).steady = c.steady := fun l =>
    each_keep Common.steady l c _ (fun d k => (d.closeSet k .cancelled).steady_event _ _)
  exact h _

@[simp] theorem Common.steady_expire (c : Common) : c.expire.steady = c.steady := by
  unfold Common.expire
  split
  · rfl
  · rw [Common.steady_cancelScheduled]
    split <;> rw [Common.steady_pickEvent] <;> rfl

/-! ### The pick that opens -/

/-- The pick after this one, at its first nanosecond. -/
def Timebase.nextPick (t : Timebase) : Timebase := { t with pick := (t.pick + 1) % 2 ^ 64, ns := 0 }

/-- A tick counts the pick and starts the encryption counter afresh; beside that it acts on registers and on the timebase. -/
theorem Common.steady_tick (c : Common) : c.tick.steady = (c.steady.modTime Timebase.nextPick).openPick c.pick := by
  have missed : (match c.part with | .sw => (c.missEdge .a).missEdge .b | .ep => c).steady = c.steady := by
    split
    · rw [Common.steady_missEdge, Common.steady_missEdge]
    · rfl
  exact (Common.steady_slewStep _).trans (congrArg (fun d : Common => (d.modTime Timebase.nextPick).openPick d.pick) missed)

/-- A boundary opens the next pick and clears what was sent in the ended one. -/
theorem Common.steady_openBoundary (c : Common) :
    c.openBoundary.steady = (((c.steady.modTime Timebase.nextPick).openPick c.pick).modMgmt (fun m => { m with replies := [], neigh := [] })).modSec
      (fun x => { x with rsp := [] }) := by
  have expired : (if c.tick.time.st = .holdover ∧ 10000000 ≤ c.tick.time.holdPicks then c.tick.expire else c.tick).steady = c.tick.steady :=
    Common.steady_ite c.tick.steady_expire rfl
  exact congrArg (fun d : Common => (d.modMgmt (fun m => { m with replies := [], neigh := [] })).modSec (fun x => { x with rsp := [] }))
    (expired.trans c.steady_tick)

/-- What stands open in the pick just opened. -/
theorem Common.openBoundary_opens (c : Common) :
    c.openBoundary.time.pick = (c.time.pick + 1) % 2 ^ 64 ∧ c.openBoundary.time.ns = 0 ∧ c.openBoundary.rf.old = [] ∧
      c.openBoundary.mgmt.replies = [] ∧ c.openBoundary.mgmt.neigh = [] ∧ c.openBoundary.sec.rsp = [] ∧ c.openBoundary.sec.ctr = 0 ∧
      c.openBoundary.ports = c.ports ∧ c.openBoundary.opt = c.opt ∧ c.openBoundary.ledger = c.ledger ∧ c.openBoundary.pwr = c.pwr ∧ c.openBoundary.biv = c.biv := by
  have h := c.steady_openBoundary
  exact ⟨congrArg (·.time.pick) h, congrArg (·.time.ns) h, rfl, rfl, rfl, rfl, congrArg (·.sec.ctr) h, congrArg (·.ports) h, congrArg (·.opt) h,
    congrArg (·.ledger) h, congrArg (·.pwr) h, congrArg (·.biv) h⟩

/-! ### Fields of registers -/

theorem toNat_setFld_low (v : Reg) (x : Nat) : (setFld v 15 0 x).toNat = v.toNat / 65536 * 65536 + x % 65536 := by
  have hv := v.isLt
  simp only [setFld, bits, BitVec.toNat_ofNat]
  omega

theorem toNat_setFld_whole (v : Reg) (x : Nat) : (setFld v 31 0 x).toNat = x % 2 ^ 32 := by
  have hv := v.isLt
  simp only [setFld, bits, BitVec.toNat_ofNat]
  omega

theorem Common.rd_bump_same (c : Common) (a : Nat) : ((c.bump a).rd a).toNat = min (2 ^ 32 - 1) ((c.rd a).toNat + 1) := by
  have hv := (c.rd a).isLt
  simp only [Common.bump, Common.bumpBy, Common.wrF, Common.rd_wr_same, toNat_setFld_whole, satAdd, fld, bits]
  omega

theorem Common.rd_bumpBy_other (c : Common) (a b hi lo n : Nat) (h : b ≠ a) : (c.bumpBy a hi lo n).rd b = c.rd b := Common.rd_wr_other c a b _ h

/-- A count in the low half of a register. -/
theorem Common.low_bumpBy_same (c : Common) (a n : Nat) : fld ((c.bumpBy a 15 0 n).rd a) 15 0 = min 65535 (fld (c.rd a) 15 0 + n) := by
  simp only [Common.bumpBy, Common.wrF, Common.rd_wr_same, toNat_setFld_low, satAdd, fld, bits]
  omega

/-- A count in the low half of a register leaves the high half. -/
theorem Common.high_bumpBy_low (c : Common) (a n : Nat) : fld ((c.bumpBy a 15 0 n).rd a) 31 16 = fld (c.rd a) 31 16 := by
  simp only [Common.bumpBy, Common.wrF, Common.rd_wr_same, toNat_setFld_low, satAdd, fld, bits]
  omega

/-! ### What an end-point counts of the pick that ends -/

/-- What both parts hold once a pick in which a notice has waited is counted (R251). -/
def EpState.noteCounted (e : EpState) : Common := if e.lha.notes.isEmpty && !e.lha.noteWaited then e.c else e.c.bump 0x80018

theorem EpState.noteStall_eq (e : EpState) : e.noteStall = { e with c := e.noteCounted, lha := { e.lha with noteWaited := false } } := by
  unfold EpState.noteStall EpState.noteCounted
  dsimp only
  split <;> rfl

theorem EpState.noteCounted_stalls (e : EpState) : (e.noteCounted.rd 0x80018).toNat =
    if e.lha.notes = [] ∧ e.lha.noteWaited = false then (e.c.rd 0x80018).toNat else min (2 ^ 32 - 1) ((e.c.rd 0x80018).toNat + 1) := by
  have h : (e.lha.notes.isEmpty && !e.lha.noteWaited) = true ↔ e.lha.notes = [] ∧ e.lha.noteWaited = false := by simp
  simp only [EpState.noteCounted, h]
  split
  · rfl
  · exact Common.rd_bump_same _ _

theorem EpState.noteCounted_other (e : EpState) (a : Nat) (h : a ≠ 0x80018) : e.noteCounted.rd a = e.c.rd a := by
  unfold EpState.noteCounted
  split
  · rfl
  · exact Common.rd_bumpBy_other _ _ _ _ _ _ h

theorem EpState.noteCounted_eq (e : EpState) : e.noteCounted = { e.c with rf := { e.c.rf with cur := e.noteCounted.rf.cur } } := by
  unfold EpState.noteCounted
  split <;> rfl

theorem EpState.boundary_eq (e : EpState) (b : BoundaryIn) :
    e.boundary b = ({ e with c := (e.noteCounted.bumpBy 0x80010 15 0 b.lhaRetries).openBoundary, lha := { e.lha with out := [], noteWaited := false } } : EpState).boundaryWork b := by
  unfold EpState.boundary
  rw [e.noteStall_eq]
  rfl

/-! ### The boundary -/

/-- Settles O13: what stands open in the next pick is said above of any part, and what an end-point counts before it opens of its two registers. -/
theorem boundaryOpensTheNextPick : Obligations.BoundaryOpensTheNextPick := by
  refine ⟨Common.openBoundary_opens, ?_, ?_⟩
  · intro s b hb hw
    simp only [exec_pickBoundary, execPickBoundary, hb, onSw_after _ _ hw]
    rfl
  · intro s b hb hw
    refine ⟨s.ep.noteCounted.bumpBy 0x80010 15 0 b.lhaRetries, ?_, ?_, ?_, ?_, ?_, ?_⟩
    · simp only [exec_pickBoundary, execPickBoundary, hb, onEp_after _ _ hw, EpState.boundary_eq]
    · rw [Common.rd_bumpBy_other _ _ _ _ _ _ (by decide), EpState.noteCounted_stalls]
    · rw [Common.low_bumpBy_same, EpState.noteCounted_other _ _ (by decide)]
    · rw [Common.high_bumpBy_low, EpState.noteCounted_other _ _ (by decide)]
    · intro a h h'
      rw [Common.rd_bumpBy_other _ _ _ _ _ _ h, EpState.noteCounted_other _ _ h']
    · refine (Common.wr_eq _ _ _).trans ?_
      rw [EpState.noteCounted_eq]
      rfl

end Sys2Proof.Machine
end

section
/-!
PROOF. Ingress of the switch: what the checks of Table 7.1 answer for each packet, what becomes of one that passes them, and the ways that messages take inside the domain, out of it and into it.
-/

namespace Sys2Proof.Machine

/-! ### Ports and kinds of packet -/

theorem selvedge_domain (n : Nat) (h : n < 256) : selvedge .sw n = false := by simp [selvedge, h]

theorem selvedge_outer (n : Nat) (h : 256 ≤ n) : selvedge .sw n = true := by simp [selvedge, h]

/-- The switch consumes no message at a domain port. -/
theorem consumed_msgSend (n : Nat) (p : Packet) (hp : p.op = opMsgSend) : consumed n p = false := by
  unfold consumed
  split <;> simp [hp, opMsgSend, opMgmt, opContrib, opIntent, opAbort]

theorem consumed_msgAck (n : Nat) (p : Packet) (hp : p.op = opMsgAck) : consumed n p = false := by
  unfold consumed
  split <;> simp [hp, opMsgAck, opMgmt, opContrib, opIntent, opAbort]

/-- A message crosses a selvedge port on VC7 alone (R29). -/
theorem Packet.crosses_iff (p : Packet) : p.crosses = true ↔ p.vc = 7 ∧ (p.op = opMsgSend ∨ p.op = opMsgAck) := by
  simp [Packet.crosses]

/-- The switch, the packet taken from the port that brought it. -/
def SwState.took (s : SwState) (n : Nat) (p : Packet) : SwState := s.mod (fun c => c.takeRx n p)

theorem SwState.passes_iff (s : SwState) (n : Nat) (p : Packet) :
    s.passes n p = true ↔ p.ver = 1 ∧ n < 256 ∧ p.merged = false ∧ s.c.aliasOf p.src = some n ∧ p.pitch = s.c.portPitch n ∧ s.c.fenced p.src = false := by
  simp [SwState.passes, and_assoc]

/-! ### The checks of Table 7.1 -/

theorem SwState.ingressChecks_version (s : SwState) (n : Nat) (p : Packet) (hv : p.ver ≠ 1) :
    s.ingressChecks n p = ((s.took n p).drop n p 0x01C, false) := if_pos hv

theorem SwState.ingressChecks_selvedge (s : SwState) (n : Nat) (p : Packet) (hv : p.ver = 1) (hn : 256 ≤ n) :
    s.ingressChecks n p = (s.took n p, true) := by
  simp [SwState.ingressChecks, hv, selvedge_outer n hn, SwState.took]

section
variable (s : SwState) (n : Nat) (p : Packet) (hv : p.ver = 1) (hn : n < 256)
include hv hn

theorem SwState.ingressChecks_source (h : p.merged = true ∨ s.c.aliasOf p.src ≠ some n) :
    s.ingressChecks n p = ((s.took n p).drop n p 0x300, false) := by
  simp only [SwState.ingressChecks, hv, selvedge_domain n hn, ne_eq, not_true_eq_false, if_false, Bool.false_eq_true]
  rw [if_pos h]
  rfl

theorem SwState.ingressChecks_pitch (hm : p.merged = false) (ha : s.c.aliasOf p.src = some n) (h : p.pitch ≠ s.c.portPitch n) :
    s.ingressChecks n p = ((s.took n p).drop n p 0x304, false) := by
  simp [SwState.ingressChecks, hv, selvedge_domain n hn, hm, ha, h, SwState.took]

/-- A fenced source is answered FENCED: a request with the membership epoch, a message without (R571). -/
theorem SwState.ingressChecks_fenced (hm : p.merged = false) (ha : s.c.aliasOf p.src = some n) (hp : p.pitch = s.c.portPitch n) (hf : s.c.fenced p.src = true) :
    s.ingressChecks n p =
      (if isRequest p.op = true then ((s.took n p).drop n p 0x30C).originate n (respond p p.pitch stFenced (s.c.rd 0xA00040).toNat [])
       else if p.op = opMsgSend then ((s.took n p).drop n p 0x30C).originate n (msgAnswer p stFenced)
       else (s.took n p).drop n p 0x30C, false) := by
  simp only [SwState.ingressChecks, hv, selvedge_domain n hn, hm, ha, ← hp, hf, ne_eq, not_true_eq_false, if_false, if_true, Bool.false_eq_true, or_self]
  by_cases hr : isRequest p.op = true
  · simp only [hr, if_true]; rfl
  · by_cases ho : p.op = opMsgSend
    · simp only [ho, if_true]; rfl
    · simp only [hr, ho, if_false]; rfl

end

theorem SwState.ingressChecks_passes (s : SwState) (n : Nat) (p : Packet) (h : s.passes n p = true) : s.ingressChecks n p = (s.took n p, true) := by
  obtain ⟨hv, hn, hm, ha, hp, hf⟩ := (s.passes_iff n p).mp h
  simp [SwState.ingressChecks, hv, selvedge_domain n hn, hm, ha, hp, hf, SwState.took]

/-! ### What becomes of a packet behind the checks -/

theorem SwState.forward_stopped (s : SwState) (n : Nat) (p : Packet) (h : (s.ingressChecks n p).2 = false) :
    s.forward n p = (s.ingressChecks n p).1 := by
  cases hc : s.ingressChecks n p with
  | mk t ok =>
    rw [hc] at h
    simp only [SwState.forward, hc, show ok = false from h]

/-- The answer of the checks, where it is known and the packet goes no further. -/
theorem SwState.forward_dropped (s t : SwState) (n : Nat) (p : Packet) (h : s.ingressChecks n p = (t, false)) : s.forward n p = t := by
  rw [s.forward_stopped n p (by rw [h]), h]

section
variable (s t : SwState) (n : Nat) (p : Packet) (h : s.ingressChecks n p = (t, true))
include h

/-- A packet that the switch consumes is disposed of, and with a bad CRC-64 strikes its port (R67). -/
theorem SwState.forward_consumed (hc : consumed n p = true) :
    s.forward n p = if p.crcOk = true then t.dispose n p else (t.dispose n p).endToEndError n := by
  simp only [SwState.forward, h, hc, if_true]

theorem SwState.forward_outside (hc : consumed n p = false) (hn : 256 ≤ n) (hx : p.crosses = false) : s.forward n p = t.drop n p 0x308 := by
  simp [SwState.forward, h, hc, selvedge_outer n hn, hx]

theorem SwState.forward_within (hc : consumed n p = false) (hn : n < 256) (hs : p.op ≠ opMsgSend) (ha : p.op ≠ opMsgAck) : s.forward n p = t.toDst n p := by
  simp [SwState.forward, h, hc, selvedge_domain n hn, hs, ha]

theorem SwState.forward_msgSend_domain (hp : p.op = opMsgSend) (hn : n < 256) : s.forward n p = t.msgRoute n p := by
  simp [SwState.forward, h, consumed_msgSend n p hp, selvedge_domain n hn, hp]

theorem SwState.forward_msgSend_selvedge (hp : p.op = opMsgSend) (hn : 256 ≤ n) (hx : p.crosses = true) : s.forward n p = t.msgSelvedge n p := by
  simp [SwState.forward, h, consumed_msgSend n p hp, selvedge_outer n hn, hx, hp]

theorem SwState.forward_msgAck (hp : p.op = opMsgAck) (hx : n < 256 ∨ p.crosses = true) : s.forward n p = t.ackRoute n p := by
  have hk : (selvedge .sw n && !p.crosses) = false := by
    rcases hx with hn | hx
    · simp [selvedge_domain n hn]
    · simp [hx]
  simp [SwState.forward, h, consumed_msgAck n p hp, hk, hp, show opMsgAck ≠ opMsgSend by decide]

end

/-! ### Toward a node of the domain -/

/-- Returned credits change no register. -/
theorem Common.rd_freeCells (c : Common) (n vc k a : Nat) : (c.freeCells n vc k).rd a = c.rd a := rfl

section
variable (t : SwState) (n : Nat) (p : Packet)

theorem SwState.toDst_output (o : Nat) (arrived : Nat) (hf : t.c.fenced p.dst = false) (ha : t.c.aliasOf p.dst = some o) (hp : t.c.portPitch o = p.pitch) :
    t.toDst n p arrived = t.toOutput n o p arrived := by
  simp [SwState.toDst, SwState.outputFor, hf, ha, hp]

/-- The entry that names the packet's destination counts as not valid. -/
theorem SwState.outputFor_away (h : t.c.fenced p.dst = true ∨ t.c.aliasOf p.dst = none) : t.outputFor p = (none, t) := by
  unfold SwState.outputFor
  rcases h with h | h
  · rw [if_pos h]
  · rw [h]; exact ite_self _

theorem SwState.outputFor_pitch (o : Nat) (hf : t.c.fenced p.dst = false) (ha : t.c.aliasOf p.dst = some o) (hp : t.c.portPitch o ≠ p.pitch) :
    t.outputFor p = (none, t.mod (fun c => c.bump 0x900288)) := by
  simp [SwState.outputFor, hf, ha, hp]

variable (u : SwState) (h : t.outputFor p = (none, u))
include h

theorem SwState.toDst_request (hr : isRequest p.op = true) (hm : p.merged = false) :
    t.toDst n p = (((u.mod (fun c => c.bump (coreA n 0x310))).originate n (respond p p.pitch stAbsent u.c.plane [])).dispose n p) := by
  have hs : p.op ≠ opMsgSend := fun e => by simp [isRequest, e, opMsgSend] at hr
  simp only [SwState.toDst, h, answerable, hr, Bool.true_or, if_true, SwState.answerAbsent, hm, hs, Bool.false_eq_true, if_false]
  rfl

theorem SwState.toDst_other (hr : isRequest p.op = false) (hs : p.op ≠ opMsgSend) (ha : p.op ≠ opMsgAck) : t.toDst n p = u.dispose n p := by
  simp [SwState.toDst, h, answerable, hr, hs, ha]

end

/-! ### What an answer of the switch leaves -/

/-- The high-water mark of a queue at a domain port, by its place in its page. -/
theorem telA_place (part : Part) (n q : Nat) (hq : q ≤ 6) : telA part n (0x40 + 4 * q) % 0x200 = 0x40 + 4 * q := by
  cases part <;> simp only [telA] <;> omega

/-- A packet that leaves by a domain port waits in one of its first seven queues. -/
theorem Common.queueOf_le (c : Common) (n : Nat) (p : Packet) (excess : Bool) (h : n < 256) : c.queueOf n p excess ≤ 6 := by
  have hs : selvedge c.part n = false := by
    cases c.part with
    | sw => exact selvedge_domain n h
    | ep => rfl
  simp only [Common.queueOf, hs, Bool.false_eq_true, if_false]
  split_ifs <;> omega

theorem Common.rd_enqueue (c : Common) (n q a : Nat) (e : QEntry) (h : a ≠ telA c.part n (0x40 + 4 * q)) : (c.enqueue n q e).rd a = c.rd a := by
  have hm : ∀ d : Common, d.part = c.part → (d.markDepth n q).rd a = d.rd a := fun d hd => by
    unfold Common.markDepth
    dsimp only
    split
    · exact Common.rd_wr_other _ _ _ _ (hd ▸ h)
    · rfl
  have hl : ∀ (d : Common) (v : Nat), (d.noteLevel n v).rd a = d.rd a := fun d v => by
    unfold Common.noteLevel
    split <;> rfl
  exact (hl _ _).trans (hm _ rfl)

/-- An answer that leaves by a domain port changes no register but a high-water mark. -/
theorem SwState.rd_originate (s : SwState) (n a : Nat) (p : Packet) (hn : n < 256) (ha : 0x58 < a % 0x200) : (s.originate n p).c.rd a = s.c.rd a := by
  unfold SwState.originate
  split
  · rfl
  · split
    · refine Common.rd_enqueue _ _ _ _ _ fun e => ?_
      have hq := s.c.queueOf_le n p false hn
      have := telA_place s.c.part n _ hq
      omega
    · rfl

theorem SwState.originate_pkts (s : SwState) (n : Nat) (p : Packet) : (s.originate n p).core.pkts = s.core.pkts := by
  unfold SwState.originate
  split
  · rfl
  · split <;> rfl

/-- Two parts in which a register reads alike count it alike. -/
theorem Common.rd_bump_congr (c d : Common) (a : Nat) (h : c.rd a = d.rd a) : (c.bump a).rd a = (d.bump a).rd a := by
  simp only [Common.bump, Common.bumpBy, Common.wrF, Common.rd_wr_same, h]

theorem Common.rd_bump_other (c : Common) (a b : Nat) (h : b ≠ a) : (c.bump a).rd b = c.rd b := c.rd_bumpBy_other a b 31 0 1 h

/-- A packet whose destination lies at a port of another pitch is counted (R627), and a request counted as answered too; the core takes nothing of it. -/
theorem SwState.toDst_pitch (t : SwState) (n : Nat) (p : Packet) (o : Nat) (hn : n < 256) (hm : p.merged = false) (hs : p.op ≠ opMsgSend) (hk : p.op ≠ opMsgAck)
    (hf : t.c.fenced p.dst = false) (ha : t.c.aliasOf p.dst = some o) (hp : t.c.portPitch o ≠ p.pitch) :
    (t.toDst n p).c.rd 0x900288 = (t.c.bump 0x900288).rd 0x900288 ∧ (t.toDst n p).core.pkts = t.core.pkts ∧
      (t.toDst n p).c.rd (coreA n 0x310) = (if isRequest p.op = true then t.c.bump (coreA n 0x310) else t.c).rd (coreA n 0x310) := by
  have hne : coreA n 0x310 ≠ 0x900288 := by simp only [coreA]; omega
  have hplace : 0x58 < coreA n 0x310 % 0x200 := by simp only [coreA]; omega
  have hu := t.outputFor_pitch p o hf ha hp
  cases hr : isRequest p.op with
  | true =>
    rw [t.toDst_request n p _ hu hr hm]
    refine ⟨?_, SwState.originate_pkts _ _ _, ?_⟩
    · refine (SwState.rd_originate _ _ _ _ hn (by decide)).trans ?_
      exact Common.rd_bump_other _ _ _ hne.symm
    · refine (SwState.rd_originate _ _ _ _ hn hplace).trans ?_
      exact Common.rd_bump_congr _ _ _ (Common.rd_bump_other _ _ _ hne)
  | false =>
    rw [t.toDst_other n p _ hu hr hs hk]
    refine ⟨rfl, rfl, ?_⟩
    rw [if_neg Bool.false_ne_true]
    exact (Common.rd_freeCells (t.c.bump 0x900288) _ _ _ _).trans (Common.rd_bump_other _ _ _ hne)

/-! ### The commands -/

theorem exec_packetForward_after (s : State) (n : Nat) (p : Packet) (hw : s.heldPart .sw = false) (hn : n < 288) :
    exec (.packetForward n p) s = .next (s.afterSw (s.sw.forward n p)) := by
  rw [exec_packetForward, execPacketForward, onSwIf_after s (swPort n) _ hw (decide_eq_true hn)]

/-- A message command acts as PACKET_FORWARD on a packet of its kind. -/
theorem packetForward_msgAck (s : State) (n : Nat) (p : Packet) (h : p.op = opMsgAck) : exec (.packetForward n p) s = exec (.msgAckRoute n p) s := by
  simp only [exec_packetForward, execPacketForward, exec_msgAckRoute, execMsgAckRoute, h, if_true]

theorem packetForward_msgSendRoute (s : State) (n : Nat) (p : Packet) (h : p.op = opMsgSend) (hn : n < 256) :
    exec (.packetForward n p) s = exec (.msgSendRoute n p) s := by
  simp [execPacketForward, execMsgSendRoute, h, selvedge_domain n hn]

theorem packetForward_msgSendSelvedge (s : State) (n : Nat) (p : Packet) (h : p.op = opMsgSend) (hn : 256 ≤ n) :
    exec (.packetForward n p) s = exec (.msgSendSelvedge n p) s := by
  simp [execPacketForward, execMsgSendSelvedge, h, selvedge_outer n hn]

/-- Settles O29: each clause is what the checks answer, or what becomes of a packet behind them, said above. -/
theorem ingressChecksInOrder : Obligations.IngressChecksInOrder := by
  refine ⟨?_, ?_, ?_⟩
  · intro s n p hw hn w c away
    have run := exec_packetForward_after s n p hw (by omega)
    simp only [run]
    refine ⟨?_, ?_, ?_, ?_, ?_, ?_⟩
    · intro hv
      rw [SwState.forward_dropped _ _ _ _ (s.sw.ingressChecks_version n p hv)]
      rfl
    · intro hv h
      rw [SwState.forward_dropped _ _ _ _ (s.sw.ingressChecks_source n p hv hn h)]
      rfl
    · intro hv hm ha h
      rw [SwState.forward_dropped _ _ _ _ (s.sw.ingressChecks_pitch n p hv hn hm ha h)]
      rfl
    · intro hv hm ha hp hf
      rw [SwState.forward_dropped _ _ _ _ (s.sw.ingressChecks_fenced n p hv hn hm ha hp hf)]
      refine ⟨fun hr => ?_, fun ho => ?_, fun hr ho => ?_⟩
      · rw [if_pos hr]; rfl
      · rw [if_neg (by rw [ho]; decide), if_pos ho]; rfl
      · rw [if_neg (by simp [hr]), if_neg ho]; rfl
    · intro h hc
      rw [SwState.forward_consumed _ _ _ _ (s.sw.ingressChecks_passes n p h) hc]
      rfl
    · intro h hc hs hk
      obtain ⟨-, -, hm, -⟩ := (s.sw.passes_iff n p).mp h
      rw [SwState.forward_within _ _ _ _ (s.sw.ingressChecks_passes n p h) hc hn hs hk]
      refine ⟨fun o hf ha hp => ?_, fun ha hr => ?_, fun ha hr => ?_, fun o hf ha hp => ?_⟩
      · rw [SwState.toDst_output (s.sw.took n p) n p o _ hf ha hp]; rfl
      · rw [SwState.toDst_request (s.sw.took n p) n p _ (SwState.outputFor_away _ p ha) hr hm]; rfl
      · rw [SwState.toDst_other (s.sw.took n p) n p _ (SwState.outputFor_away _ p ha) hr hs hk]; rfl
      · obtain ⟨hseal, hpkts, hcount⟩ := SwState.toDst_pitch (s.sw.took n p) n p o hn hm hs hk hf ha hp
        refine ⟨_, rfl, hseal.trans (Common.rd_bump_congr _ _ _ rfl), hpkts, hcount.trans ?_⟩
        split
        · exact Common.rd_bump_congr _ _ _ rfl
        · rfl
  · intro s n p hw hl hn w
    simp only [exec_packetForward_after s n p hw hn]
    refine ⟨?_, ?_, ?_, ?_⟩
    · intro hv
      rw [SwState.forward_dropped _ _ _ _ (s.sw.ingressChecks_version n p hv)]
      rfl
    · intro hv hc hk
      rw [SwState.forward_consumed _ _ _ _ (s.sw.ingressChecks_selvedge n p hv hl) hc, if_pos hk]
      rfl
    · intro hv hc hk
      rw [SwState.forward_consumed _ _ _ _ (s.sw.ingressChecks_selvedge n p hv hl) hc, if_neg (by simp [hk])]
      rfl
    · intro hv hc hx
      have hx : p.crosses = false := by rwa [← p.crosses_iff, Bool.not_eq_true] at hx
      rw [SwState.forward_outside _ _ _ _ (s.sw.ingressChecks_selvedge n p hv hl) hc hl hx]
      rfl
  · intro s n p hn
    refine ⟨packetForward_msgAck s n p, fun ho => ?_⟩
    split
    case isTrue h => exact packetForward_msgSendRoute s n p ho h
    case isFalse h => exact packetForward_msgSendSelvedge s n p ho (by omega)

/-! ### Messages -/

section
variable (t : SwState) (n : Nat) (p : Packet)

theorem SwState.msgRoute_home (h : p.msgDstDomain = t.c.swDomain) : t.msgRoute n p = t.toDst n p := if_pos h

theorem SwState.msgRoute_out (o : Nat) (h : p.msgDstDomain ≠ t.c.swDomain) (ho : t.selvedgeFor p.msgDstDomain = some o) : t.msgRoute n p = t.toOutput n o p := by
  simp only [SwState.msgRoute, h, if_false, ho]

theorem SwState.msgRoute_none (h : p.msgDstDomain ≠ t.c.swDomain) (ho : t.selvedgeFor p.msgDstDomain = none) :
    t.msgRoute n p = (t.originate n (msgAnswer p stUnreachable)).dispose n p := by
  simp only [SwState.msgRoute, h, if_false, ho]

theorem SwState.msgSelvedge_in (pitch : Nat) (h : (Tab.find t.core.selv p.msgSrcDomain).bind (·.pitch) = some pitch) :
    t.msgSelvedge n p = t.toDst n { p with pitch := pitch } p.pitch := by
  simp only [SwState.msgSelvedge, h]

theorem SwState.msgSelvedge_none (h : (Tab.find t.core.selv p.msgSrcDomain).bind (·.pitch) = none) : t.msgSelvedge n p = t.drop n p 0x308 := by
  simp only [SwState.msgSelvedge, h]

theorem SwState.ackRoute_home (hn : n < 256) (h : p.ackDomain = t.c.swDomain) : t.ackRoute n p = t.toDst n p := by
  simp [SwState.ackRoute, selvedge_domain n hn, h]

theorem SwState.ackRoute_out (hn : n < 256) (o : Nat) (h : p.ackDomain ≠ t.c.swDomain) (ho : t.selvedgeFor p.ackDomain = some o) :
    t.ackRoute n p = t.toOutput n o p := by
  simp [SwState.ackRoute, selvedge_domain n hn, h, ho]

theorem SwState.ackRoute_none (hn : n < 256) (h : p.ackDomain ≠ t.c.swDomain) (ho : t.selvedgeFor p.ackDomain = none) : t.ackRoute n p = t.drop n p 0x308 := by
  simp [SwState.ackRoute, selvedge_domain n hn, h, ho]

theorem SwState.ackRoute_in (hn : 256 ≤ n) (pitch : Nat) (h : p.ackDomain = t.c.swDomain) (hp : (Tab.find t.core.selv p.ackFrom).bind (·.pitch) = some pitch) :
    t.ackRoute n p = t.toDst n { p with pitch := pitch } p.pitch := by
  simp only [SwState.ackRoute, selvedge_outer n hn, if_true, h, ne_eq, not_true_eq_false, if_false, hp]

theorem SwState.ackRoute_refused (hn : 256 ≤ n) (h : p.ackDomain ≠ t.c.swDomain ∨ (Tab.find t.core.selv p.ackFrom).bind (·.pitch) = none) :
    t.ackRoute n p = t.drop n p 0x308 := by
  simp only [SwState.ackRoute, selvedge_outer n hn, if_true]
  rcases h with h | h
  · rw [if_pos h]
  · rw [h]; exact ite_self _

end

section
variable (s : State) (n : Nat) (p : Packet) (hw : s.heldPart .sw = false) (hn : n < 288)
include hw hn

theorem exec_msgSendRoute_after : exec (.msgSendRoute n p) s = .next (s.afterSw (if p.op = opMsgSend ∧ n < 256 then s.sw.forward n p else s.sw)) := by
  rw [exec_msgSendRoute, execMsgSendRoute, onSwIf_after s (swPort n) _ hw (decide_eq_true hn)]
  simp [selvedge]

theorem exec_msgSendSelvedge_after : exec (.msgSendSelvedge n p) s = .next (s.afterSw (if p.op = opMsgSend ∧ 256 ≤ n then s.sw.forward n p else s.sw)) := by
  rw [exec_msgSendSelvedge, execMsgSendSelvedge, onSwIf_after s (swPort n) _ hw (decide_eq_true hn)]
  simp [selvedge]

theorem exec_msgAckRoute_after : exec (.msgAckRoute n p) s = .next (s.afterSw (if p.op = opMsgAck then s.sw.forward n p else s.sw)) := by
  rw [exec_msgAckRoute, execMsgAckRoute, onSwIf_after s (swPort n) _ hw (decide_eq_true hn)]

end

/-- A message at a selvedge port, off VC7, does not cross. -/
theorem Packet.crosses_of_message (p : Packet) (h : p.op = opMsgSend ∨ p.op = opMsgAck) : p.crosses = decide (p.vc = 7) := by
  rw [Bool.eq_iff_iff, p.crosses_iff, decide_eq_true_eq, and_iff_left h]

section
variable (s t : SwState) (n : Nat) (p : Packet) (h : s.ingressChecks n p = (t, true)) (hn : 256 ≤ n)
include h hn

/-- A MSG_SEND at a selvedge port is dropped off VC7, or from a domain of no pitch. -/
theorem SwState.forward_msgSend_refused (hp : p.op = opMsgSend) (hr : p.vc ≠ 7 ∨ (Tab.find t.core.selv p.msgSrcDomain).bind (·.pitch) = none) :
    s.forward n p = t.drop n p 0x308 := by
  have hx := p.crosses_of_message (.inl hp)
  by_cases hv : p.vc = 7
  · rw [s.forward_msgSend_selvedge t n p h hp hn (hx.trans (decide_eq_true hv)), t.msgSelvedge_none n p (hr.resolve_left (not_not_intro hv))]
  · exact s.forward_outside t n p h (consumed_msgSend n p hp) hn (hx.trans (decide_eq_false hv))

/-- A MSG_ACK at a selvedge port is dropped off VC7, for another domain, or from a domain of no pitch. -/
theorem SwState.forward_msgAck_refused (hp : p.op = opMsgAck)
    (hr : p.vc ≠ 7 ∨ p.ackDomain ≠ t.c.swDomain ∨ (Tab.find t.core.selv p.ackFrom).bind (·.pitch) = none) : s.forward n p = t.drop n p 0x308 := by
  have hx := p.crosses_of_message (.inr hp)
  by_cases hv : p.vc = 7
  · rw [s.forward_msgAck t n p h hp (.inr (hx.trans (decide_eq_true hv))), t.ackRoute_refused n p hn (hr.resolve_left (not_not_intro hv))]
  · exact s.forward_outside t n p h (consumed_msgAck n p hp) hn (hx.trans (decide_eq_false hv))

end

/-- Settles O30: a command takes a message of its kind as PACKET_FORWARD does, and behind the checks each message goes by its domain and its port. -/
theorem messagesLeaveByTheSelvedge : Obligations.MessagesLeaveByTheSelvedge := by
  refine ⟨?_, ?_, ?_⟩
  · intro s n p hw h w
    have hc := s.sw.ingressChecks_passes n p h
    obtain ⟨-, hn, -⟩ := (s.sw.passes_iff n p).mp h
    refine ⟨fun hp => ?_, fun hp => ?_⟩
    · rw [exec_msgSendRoute_after s n p hw (by omega), if_pos ⟨hp, hn⟩, SwState.forward_msgSend_domain _ _ n p hc hp hn]
      refine ⟨fun hd => ?_, fun o hd ho => ?_, fun hd ho => ?_⟩
      · rw [SwState.msgRoute_home (s.sw.took n p) n p hd]; rfl
      · rw [SwState.msgRoute_out (s.sw.took n p) n p o hd ho]; rfl
      · rw [SwState.msgRoute_none (s.sw.took n p) n p hd ho]; rfl
    · rw [exec_msgAckRoute_after s n p hw (by omega), if_pos hp, SwState.forward_msgAck _ _ n p hc hp (.inl hn)]
      refine ⟨fun hd => ?_, fun o hd ho => ?_, fun hd ho => ?_⟩
      · rw [SwState.ackRoute_home (s.sw.took n p) n p hn hd]; rfl
      · rw [SwState.ackRoute_out (s.sw.took n p) n p hn o hd ho]; rfl
      · rw [SwState.ackRoute_none (s.sw.took n p) n p hn hd ho]; rfl
  · intro s n p hw
    refine ⟨fun hn hc => ⟨fun hp => ?_, fun hp => ?_⟩, fun hn => ⟨fun h => ?_, fun h => ?_, fun h => ?_⟩⟩
    · rw [exec_msgSendRoute_after s n p hw (by omega), if_pos ⟨hp, hn⟩, SwState.forward_stopped _ n p hc]
    · rw [exec_msgAckRoute_after s n p hw (by omega), if_pos hp, SwState.forward_stopped _ n p hc]
    · rw [exec_msgSendRoute_after s n p hw hn, if_neg h]
    · rw [exec_msgSendSelvedge_after s n p hw hn, if_neg h]
    · rw [exec_msgAckRoute_after s n p hw hn, if_neg h]
  · intro s n p hw hl hn w
    refine ⟨fun hp => ?_, fun hp => ?_⟩
    · rw [exec_msgSendSelvedge_after s n p hw hn, if_pos ⟨hp, hl⟩]
      have hx := p.crosses_of_message (.inl hp)
      refine ⟨fun hv => ?_, fun pitch hv hvc hs => ?_, fun hv h => ?_⟩
      · rw [SwState.forward_dropped _ _ _ _ (s.sw.ingressChecks_version n p hv)]; rfl
      · rw [SwState.forward_msgSend_selvedge _ _ n p (s.sw.ingressChecks_selvedge n p hv hl) hp hl (hx.trans (decide_eq_true hvc)),
          SwState.msgSelvedge_in (s.sw.took n p) n p pitch hs]
        rfl
      · rw [SwState.forward_msgSend_refused _ _ n p (s.sw.ingressChecks_selvedge n p hv hl) hl hp h]; rfl
    · rw [exec_msgAckRoute_after s n p hw hn, if_pos hp]
      have hx := p.crosses_of_message (.inr hp)
      refine ⟨fun hv => ?_, fun pitch hv hvc hd hs => ?_, fun hv h => ?_⟩
      · rw [SwState.forward_dropped _ _ _ _ (s.sw.ingressChecks_version n p hv)]; rfl
      · rw [SwState.forward_msgAck _ _ n p (s.sw.ingressChecks_selvedge n p hv hl) hp (.inr (hx.trans (decide_eq_true hvc))),
          SwState.ackRoute_in (s.sw.took n p) n p hl pitch hd hs]
        rfl
      · rw [SwState.forward_msgAck_refused _ _ n p (s.sw.ingressChecks_selvedge n p hv hl) hl hp h]; rfl

end Sys2Proof.Machine
end

section
/-!
PROOF. The source of requests and the receiver of messages: what issuing a message adds, what sending a request gives it and counts on, which messages are answered, and which join their queue.
-/

namespace Sys2Proof.Machine

/-! ### What sending a packet leaves of the source side -/

/-- The source side without its flows, and the remote-line cache. -/
def EpState.source (e : EpState) : Source × Tab (List Byte) := ({ e.src with flows := [] }, e.rlc)

@[simp] theorem EpState.source_mod (e : EpState) (f : Common → Common) : (e.mod f).source = e.source := rfl
@[simp] theorem EpState.source_modHome (e : EpState) (f : Home → Home) : (e.modHome f).source = e.source := rfl
@[simp] theorem EpState.source_modFlow (e : EpState) (n : Nat) (g : FlowState → FlowState) : (e.modFlow n g).source = e.source := rfl
@[simp] theorem EpState.source_modRec (e : EpState) (n : Nat) (f : SrcRec → SrcRec) : (e.modRec n f).source = e.source := rfl
@[simp] theorem EpState.source_addReq (e : EpState) (r : HomeReq) : (e.addReq r).source = e.source := rfl
@[simp] theorem EpState.source_winFault (e : EpState) (p : Packet) (f : Nat × Nat) : (e.winFault p f).source = e.source := rfl

theorem EpState.source_toWire (e : EpState) (p : Packet) (r : Packet × EpState) (h : e.toWire p = some r) : r.2.source = e.source := by
  unfold EpState.toWire at h
  split at h
  · split at h
    · obtain rfl := Option.some.inj h
      rfl
    · exact absurd h (by simp)
  · obtain rfl := Option.some.inj h
    rfl

@[simp] theorem EpState.source_egress (e : EpState) (plane q : Nat) (x : QEntry) : (e.egress plane q x).source = e.source := by
  unfold EpState.egress
  split
  case h_1 r h => exact e.source_toWire _ r h
  case h_2 => rfl

@[simp] theorem EpState.source_putPacket (e : EpState) (plane : Nat) (p : Packet) (excess : Bool) : (e.putPacket plane p excess).source = e.source :=
  e.source_egress _ _ _

@[simp] theorem EpState.source_sendResponse (e : EpState) (plane : Nat) (p : Packet) : (e.sendResponse plane p).source = e.source := by
  unfold EpState.sendResponse
  split
  · rfl
  · split
    · split
      · rfl
      · exact e.source_putPacket _ _ _
    · exact e.source_putPacket _ _ _

/-! ### What serving a request inside leaves of the source side (R21) -/

@[simp] theorem EpState.source_answerDup (e : EpState) (r : HomeReq) : (e.answerDup r).source = e.source := by
  unfold EpState.answerDup
  dsimp only
  split
  · rfl
  · split
    · exact e.source_sendResponse _ _
    · split
      · rfl
      · exact e.source_sendResponse _ _

@[simp] theorem EpState.source_startReq (e : EpState) (r : HomeReq) : (e.startReq r).source = e.source := by
  unfold EpState.startReq
  dsimp only
  split_ifs <;> rfl

@[simp] theorem EpState.source_startWaiting (e : EpState) (l : List HomeReq) : (e.startWaiting l).source = e.source := by
  induction l generalizing e with
  | nil => rfl
  | cons r l ih =>
    simp only [EpState.startWaiting, ih]
    split
    · exact e.source_startReq r
    · rfl

theorem EpState.source_homeArrive (e : EpState) (plane : Nat) (p : Packet) : (e.homeArrive plane p).source = e.source := by
  unfold EpState.homeArrive
  split
  · simp
  · dsimp only
    split
    · simp
    · split <;> simp

/-! ### Issuing a message -/

/-- The message that software hands to an engine, as a request of the source side (R72). -/
def EpState.outgoing (e : EpState) (engine : Nat) (m : OutMsg) : SrcReq :=
  { id := e.src.nextId, engine := engine, op := opMsgSend, dst := m.node % 256, vc := 7,
    woff := m.domain % 4096 * 2 ^ 40 + e.domain % 4096 * 2 ^ 28 + m.queue % 256 * 2 ^ 20 + (m.data.length - 1) % 256 * 2 ^ 12,
    data := m.data ++ List.replicate (lenBytes (lenCode m.data.length) - m.data.length) 0 }

theorem EpState.issueMsg_none (e : EpState) (engine : Nat) (m : OutMsg) (h : m.data.length = 0 ∨ 256 < m.data.length) : e.issueMsg engine m = e := if_pos h

theorem EpState.issueMsg_some (e : EpState) (engine : Nat) (m : OutMsg) (h0 : 0 < m.data.length) (h1 : m.data.length ≤ 256) :
    e.issueMsg engine m = e.modSrc (fun q => { q with nextId := e.src.nextId + 1, reqs := q.reqs ++ [e.outgoing engine m] }) :=
  if_neg (by omega)

/-- The fields of a message's address (R72). -/
theorem EpState.outgoing_woff (e : EpState) (engine : Nat) (m : OutMsg) (h : m.data.length ≤ 256) :
    bits (e.outgoing engine m).woff 51 40 = m.domain % 4096 ∧ bits (e.outgoing engine m).woff 39 28 = e.domain % 4096 ∧
      bits (e.outgoing engine m).woff 27 20 = m.queue % 256 ∧ bits (e.outgoing engine m).woff 19 12 = m.data.length - 1 := by
  simp only [EpState.outgoing, bits]
  omega

/-! ### Sending a request -/

/-- A request as it is sent: its tag, SEQ, plane, channel and time of issue (R68, R90, R195, R322). -/
def EpState.dispatched (e : EpState) (r : SrcReq) (k : Nat) (flow : Option Nat) : SrcReq :=
  { r with
    tag := freeSrcTag ((e.src.reqs.filter (·.live)).map (·.tag)) e.src.nextTag (e.src.reqs.filter (·.live)).length, seq := r.seqOf e.src, plane := k,
    vc := if r.message then 7 else if flow.isSome then 3 else 1, lastIssue := e.c.pick, st := match flow with | some f => .accepting f | none => .sent }

/-- The source side once a request is sent: the request as it went, and its counter of SEQ one further. -/
def EpState.counted (e : EpState) (r : SrcReq) (k : Nat) (flow : Option Nat) : EpState :=
  (e.modSrcReq r.id (fun _ => e.dispatched r k flow)).modSrc (fun q => { (r.stepSeq q) with nextTag := ((e.dispatched r k flow).tag + 1) % 262144 })

theorem EpState.source_sendReq (e : EpState) (r : SrcReq) (k : Nat) (flow : Option Nat) : (e.sendReq r k flow).source = (e.counted r k flow).source := by
  unfold EpState.sendReq
  dsimp only
  split
  · exact EpState.source_homeArrive _ _ _
  · split
    · rfl
    · exact EpState.source_putPacket _ _ _ _

theorem SrcReq.stepSeq_request (r : SrcReq) (q : Source) (h : r.message = false) : r.stepSeq q = { q with seqs := Tab.put q.seqs r.dst ((Tab.get q.seqs 0 r.dst + 1) % 4096) } := by
  simp [SrcReq.stepSeq, SrcReq.seqOf, h]

theorem SrcReq.stepSeq_message (r : SrcReq) (q : Source) (h : r.message = true) :
    r.stepSeq q = { q with msgSeqs := Tab.put q.msgSeqs (bits r.woff 51 40 * 256 + r.dst) ((r.seqOf q + 1) % 4096) } := if_pos h

theorem SrcReq.stepSeq_reqs (r : SrcReq) (q : Source) : (r.stepSeq q).reqs = q.reqs := by
  unfold SrcReq.stepSeq
  dsimp only
  split <;> rfl

section
variable (e : EpState) (r : SrcReq) (k : Nat) (flow : Option Nat)

theorem EpState.sendReq_reqs : (e.sendReq r k flow).src.reqs = e.src.reqs.map (fun x => if x.id = r.id then e.dispatched r k flow else x) :=
  (congrArg (·.1.reqs) (e.source_sendReq r k flow)).trans (r.stepSeq_reqs _)

theorem EpState.sendReq_rlc : (e.sendReq r k flow).rlc = e.rlc := congrArg (·.2) (e.source_sendReq r k flow)

/-- A request counts its destination's SEQ on, and no other (R68). -/
theorem EpState.sendReq_request (h : r.message = false) :
    (e.sendReq r k flow).src.seqs = Tab.put e.src.seqs r.dst ((Tab.get e.src.seqs 0 r.dst + 1) % 4096) ∧ (e.sendReq r k flow).src.msgSeqs = e.src.msgSeqs := by
  have hs : ∀ {β : Type} (g : Source → β), g (r.stepSeq (e.modSrcReq r.id (fun _ => e.dispatched r k flow)).src) = g _ := fun g =>
    congrArg g (r.stepSeq_request _ h)
  exact ⟨(congrArg (·.1.seqs) (e.source_sendReq r k flow)).trans (hs (·.seqs)), (congrArg (·.1.msgSeqs) (e.source_sendReq r k flow)).trans (hs (·.msgSeqs))⟩

/-- A message counts on the SEQ of its domain and node, and no other (R72). -/
theorem EpState.sendReq_message (h : r.message = true) :
    (e.sendReq r k flow).src.msgSeqs = Tab.put e.src.msgSeqs (bits r.woff 51 40 * 256 + r.dst) ((r.seqOf e.src + 1) % 4096) ∧
      (e.sendReq r k flow).src.seqs = e.src.seqs := by
  have hs : ∀ {β : Type} (g : Source → β), g (r.stepSeq (e.modSrcReq r.id (fun _ => e.dispatched r k flow)).src) = g _ := fun g =>
    congrArg g (r.stepSeq_message _ h)
  exact ⟨(congrArg (·.1.msgSeqs) (e.source_sendReq r k flow)).trans (hs (·.msgSeqs)), (congrArg (·.1.seqs) (e.source_sendReq r k flow)).trans (hs (·.seqs))⟩

/-- What `t` shows of a request that `e` has sent on plane `k` and channel `vc`, by a flow where it is staked. -/
def EpState.Sent (e t : EpState) (r : SrcReq) (k vc : Nat) (flow : Option Nat) : Prop :=
  (r.message = false → Tab.get t.src.seqs 0 r.dst = (Tab.get e.src.seqs 0 r.dst + 1) % 4096 ∧ (∀ d, d ≠ r.dst → Tab.get t.src.seqs 0 d = Tab.get e.src.seqs 0 d) ∧
    t.src.msgSeqs = e.src.msgSeqs) ∧
  (r.message = true → Tab.get t.src.msgSeqs 0 (bits r.woff 51 40 * 256 + r.dst) = (r.seqOf e.src + 1) % 4096 ∧ t.src.seqs = e.src.seqs) ∧
  t.src.reqs.length = e.src.reqs.length ∧ t.rlc = e.rlc ∧
  ∀ x, x ∈ t.src.reqs → x.id = r.id → x.st = (match flow with | some f => .accepting f | none => .sent) ∧ x.plane = k ∧ x.vc = vc ∧ x.seq = r.seqOf e.src ∧ x.lastIssue = e.c.pick

theorem EpState.sendReq_sent (vc : Nat) (hvc : (if r.message then 7 else if flow.isSome then 3 else 1) = vc) : e.Sent (e.sendReq r k flow) r k vc flow := by
  refine ⟨fun h => ?_, fun h => ?_, ?_, e.sendReq_rlc r k flow, fun x hx hid => ?_⟩
  · obtain ⟨hs, hm⟩ := e.sendReq_request r k flow h
    rw [hs]
    exact ⟨Tab.get_put_same _ _ _ _, fun d hd => Tab.get_put_other _ _ _ _ _ hd, hm⟩
  · obtain ⟨hm, hs⟩ := e.sendReq_message r k flow h
    rw [hm]
    exact ⟨Tab.get_put_same _ _ _ _, hs⟩
  · rw [e.sendReq_reqs, List.length_map]
  · rw [e.sendReq_reqs] at hx
    obtain ⟨y, -, rfl⟩ := List.mem_map.mp hx
    have hy : y.id = r.id := by
      by_contra hne
      rw [if_neg hne] at hid
      exact hne hid
    rw [if_pos hy]
    exact ⟨rfl, rfl, hvc, rfl, rfl⟩

end

/-! ### `REQUEST_SEND` -/

section
variable (e : EpState) (engine : Nat) (r : SrcReq) (h : e.nextToSend engine = some r)
include h

theorem EpState.requestSend_fence (hf : e.src.fences.any (fun f => f.engine == r.engine && decide (f.before ≤ r.id)) = true) : e.requestSend engine = e := by
  simp only [EpState.requestSend, h, hf, if_true]

variable (hf : e.src.fences.any (fun f => f.engine == r.engine && decide (f.before ≤ r.id)) = false)
include hf

theorem EpState.requestSend_fenced (he : e.src.fencedEpoch.isSome = true) : e.requestSend engine = e.complete r stFenced none := by
  simp only [EpState.requestSend, h, hf, he, Bool.false_eq_true, if_false, if_true]

variable (he : e.src.fencedEpoch = none)
include he

theorem EpState.requestSend_own (ho : r.dst = e.node ∧ r.message = false) :
    e.requestSend engine = if e.held r selfPlane 1 ∨ !e.tagFree engine then e else e.sendReq r selfPlane none := by
  simp [EpState.requestSend, h, hf, he, ho]

variable (ho : ¬(r.dst = e.node ∧ r.message = false))
include ho

theorem EpState.requestSend_absent (hp : (if r.message then e.msgPlane (bits r.woff 51 40) r.dst 0 else e.planeOf r.dst r.woff) = none) :
    e.requestSend engine = e.complete r stAbsent none := by
  simp only [EpState.requestSend, h, hf, he, Bool.not_eq_true', ho, Bool.false_eq_true, if_false, Option.isSome_none, hp]

theorem EpState.requestSend_plane (k : Nat) (hp : (if r.message then e.msgPlane (bits r.woff 51 40) r.dst 0 else e.planeOf r.dst r.woff) = some k) :
    e.requestSend engine =
      if e.held r k (if r.message then 7 else if (if r.message then none else e.flowFor r k).isSome then 3 else 1) ∨ !e.tagFree engine then e
      else e.sendReq r k (if r.message then none else e.flowFor r k) := by
  simp only [EpState.requestSend, h, hf, he, Bool.not_eq_true', ho, Bool.false_eq_true, if_false, Option.isSome_none, hp]

end

section
variable (s : State) (engine : Nat) (hw : s.heldPart .ep = false) (hn : engine < 288)
include hw hn

theorem exec_requestSend_issue (m : OutMsg) :
    exec (.requestSend { engine := engine, msg := some m }) s = .next (s.afterEp ((s.ep.issueMsg engine m).requestSend engine)) :=
  (exec_requestSend _ _).trans (onEpIf_after s _ _ hw (decide_eq_true hn))

theorem exec_requestSend_next : exec (.requestSend { engine := engine }) s = .next (s.afterEp (s.ep.requestSend engine)) :=
  (exec_requestSend _ _).trans (onEpIf_after s _ _ hw (decide_eq_true hn))

end

/-- A request that is held, or for which no tag is free, waits; any other is sent. -/
theorem exec_requestSend_sends (s : State) (engine : Nat) (hw : s.heldPart .ep = false) (hn : engine < 288) (r : SrcReq) (k vc : Nat) (flow : Option Nat)
    (h : s.ep.requestSend engine = if s.ep.held r k vc ∨ !s.ep.tagFree engine then s.ep else s.ep.sendReq r k flow)
    (hvc : (if r.message then 7 else if flow.isSome then 3 else 1) = vc) :
    ((s.ep.held r k vc = true ∨ s.ep.tagFree engine = false) → exec (.requestSend { engine := engine }) s = .next (s.afterEp s.ep)) ∧
    (s.ep.held r k vc = false → s.ep.tagFree engine = true → ∃ t, exec (.requestSend { engine := engine }) s = .next (s.afterEp t) ∧ s.ep.Sent t r k vc flow) := by
  rw [exec_requestSend_next s engine hw hn, h]
  refine ⟨fun hk => ?_, fun hk ht => ⟨_, ?_, s.ep.sendReq_sent r k flow vc hvc⟩⟩
  · rw [if_pos (by simpa using hk)]
  · rw [if_neg (by simp [hk, ht])]

/-! ### Messages at their receiver -/

/-- A message in clear, of this domain, where the pitch is confidential (R657). -/
def EpState.inClear (e : EpState) (q : Packet) : Prop := e.confidential = true ∧ q.flags.encrypted = false ∧ q.msgSrcDomain = e.domain

/-- A re-sent message that its sender's record shows delivered (R80). -/
def EpState.delivered (e : EpState) (q : Packet) : Bool :=
  q.flags.replay && (match Tab.find e.home.senders (msgSender q) with | some r => r.seqs.contains q.seq | none => false)

/-- A message of the same sender and SEQ is still being received. -/
def EpState.receiving (e : EpState) (q : Packet) : Bool := (e.rxq q.msgQueue).jobs.any (fun j => msgSender j.pkt == msgSender q && j.pkt.seq == q.seq)

/-- The job that a message becomes in its queue. -/
def EpState.newJob (e : EpState) (k : Nat) (q : Packet) : RqJob :=
  { pkt := q, plane := k, arrival := e.c.pick, replayed := q.flags.replay && (Tab.find e.home.senders (msgSender q)).isNone }

/-- The sender of a message is heard, and the message stands last in its queue. -/
def EpState.joined (e : EpState) (k : Nat) (q : Packet) : EpState :=
  (e.hearSender (msgSender q)).modRxq q.msgQueue (fun x => { x with jobs := x.jobs ++ [e.newJob k q] })

section
variable (e : EpState) (k : Nat) (q : Packet)

theorem EpState.msgTake_clear (h : e.inClear q) : e.msgTake k q = (e.mod (fun c => c.bump 0xF0010)).msgReply k q stMalformed := by
  obtain ⟨hc, he, hd⟩ := h
  simp [EpState.msgTake, hc, he, hd]

variable (hc : ¬e.inClear q)
include hc

theorem EpState.msgTake_illegal (h : msgLegal e.node q = false) : e.msgTake k q = e.msgReply k q stMalformed := by
  refine (if_neg ?_).trans (if_pos (by simp [h]))
  simpa [EpState.inClear] using hc

variable (hl : msgLegal e.node q = true)
include hl

theorem EpState.msgTake_delivered (h : e.delivered q = true) : e.msgTake k q = (e.hearSender (msgSender q)).msgReply k q stOk := by
  refine (if_neg ?_).trans ((if_neg (by simp [hl])).trans (if_pos h))
  simpa [EpState.inClear] using hc

variable (hd : e.delivered q = false)
include hd

/-- A re-sent copy of a message that is still being received waits with it. -/
theorem EpState.msgTake_copy (hr : q.flags.replay = true) (h : e.receiving q = true) :
    e.msgTake k q = (e.hearSender (msgSender q)).modRxq q.msgQueue (fun x =>
      { x with jobs := x.jobs.map (fun j => if msgSender j.pkt = msgSender q ∧ j.pkt.seq = q.seq then { j with copies := j.copies ++ [(k, q)] } else j) }) := by
  refine (if_neg ?_).trans ((if_neg (by simp [hl])).trans ((if_neg (Bool.eq_false_iff.mp hd)).trans (if_pos (Bool.and_eq_true_iff.mpr ⟨hr, h⟩))))
  simpa [EpState.inClear] using hc

variable (h : q.flags.replay = false ∨ e.receiving q = false)
include h

theorem EpState.msgTake_new : e.msgTake k q =
    if !e.serving then (e.hearSender (msgSender q)).msgReply k q stDisabled
    else if (e.rxq q.msgQueue).jobs.isEmpty then (e.joined k q).rqBegin q.msgQueue else e.joined k q := by
  refine (if_neg ?_).trans ((if_neg (by simp [hl])).trans ((if_neg (Bool.eq_false_iff.mp hd)).trans (if_neg ?_)))
  · simpa [EpState.inClear] using hc
  · rw [Bool.and_eq_true_iff]
    rintro ⟨hr, ht⟩
    rcases h with h | h
    · rw [h] at hr; exact Bool.false_ne_true hr
    · exact Bool.eq_false_iff.mp h ht

end

@[simp] theorem EpState.rxq_modRxq_same (e : EpState) (q : Nat) (f : RxQueue → RxQueue) : (e.modRxq q f).rxq q = f (e.rxq q) := Tab.get_upd_same _ _ _ _

theorem EpState.joined_jobs (e : EpState) (k : Nat) (q : Packet) : ((e.joined k q).rxq q.msgQueue).jobs = (e.rxq q.msgQueue).jobs ++ [e.newJob k q] := by
  rw [EpState.joined, EpState.rxq_modRxq_same]
  rfl

/-- A queue with a message reads its descriptor (R76). -/
theorem EpState.rqBegin_joined (e : EpState) (k : Nat) (q : Packet) :
    (e.joined k q).rqBegin q.msgQueue = (e.joined k q).mrd (.rqDesc q.msgQueue) (e.rqDescA q.msgQueue) 4 := by
  refine if_neg ?_
  rw [EpState.joined_jobs]
  simp

/-- What `t` shows of a message that has joined its queue: the first in a queue reads the queue's descriptor (R76). -/
def EpState.Joined (e t : EpState) (k : Nat) (q : Packet) : Prop :=
  t.c = e.c ∧ t.home.senders = (e.hearSender (msgSender q)).home.senders ∧ (t.rxq q.msgQueue).jobs = (e.rxq q.msgQueue).jobs ++ [e.newJob k q] ∧
  t.lha.ereqs = e.lha.ereqs ++ (if (e.rxq q.msgQueue).jobs = [] then
    [{ id := e.lha.nextEreq, purp := .rqDesc q.msgQueue, mop := 0x21, addr := e.rqDescA q.msgQueue % 2 ^ 64, len := 4, data := [] }] else [])

theorem EpState.msgTake_joins (e : EpState) (k : Nat) (q : Packet) (hc : ¬e.inClear q) (hl : msgLegal e.node q = true) (hd : e.delivered q = false)
    (h : q.flags.replay = false ∨ e.receiving q = false) (hs : e.serving = true) : e.Joined (e.msgTake k q) k q := by
  rw [e.msgTake_new k q hc hl hd h, if_neg (by simp [hs])]
  by_cases hj : (e.rxq q.msgQueue).jobs = []
  · rw [if_pos (by rw [hj]; rfl), e.rqBegin_joined]
    exact ⟨rfl, rfl, e.joined_jobs k q, by rw [if_pos hj]; rfl⟩
  · rw [if_neg (by simpa using hj)]
    exact ⟨rfl, rfl, e.joined_jobs k q, by rw [if_neg hj, List.append_nil]; rfl⟩

/-! ### `MSG_SEND` and `MSG_DUP_EXPIRY` -/

section
variable (s : State) (k : Nat) (p : Packet) (hw : s.heldPart .ep = false) (hk : k < 8)
include hw hk

theorem exec_msgSend_after : exec (.msgSend k p) s =
    .next (s.afterEp (if p.op = opMsgSend then s.ep.arrive k p (fun e q => e.msgTake k q) else s.ep)) := by
  rw [exec_msgSend, execMsgSend, onEpIf_after s (epPlane k) _ hw (decide_eq_true hk)]

/-- A message that reaches the end-point whole is taken as it opens. -/
theorem exec_msgSend_brings (q : Packet) (hp : p.op = opMsgSend) (hb : s.ep.brings k p q = true) :
    exec (.msgSend k p) s = .next (s.afterEp ((s.ep.takeIn k p).msgTake k q)) := by
  rw [exec_msgSend_after s k p hw hk, if_pos hp, EpState.arrive_brings _ _ _ _ _ hb]

end

section
variable (e : EpState) (k : Nat) (p : Packet) (go : EpState → Packet → EpState)

theorem EpState.arrive_closed (h : e.portOpen k p.vc = false) : e.arrive k p go = e := if_pos (by simp [h])

theorem EpState.arrive_badCrc (h : e.portOpen k p.vc = true) (hc : p.crcOk = false) : e.arrive k p go = (e.takeIn k p).crcDrop k := by
  simp [EpState.arrive, h, hc]

theorem EpState.arrive_shut (h : e.portOpen k p.vc = true) (hc : p.crcOk = true) (ho : (e.takeIn k p).opened k p = none) :
    e.arrive k p go = (e.takeIn k p).authDrop k := by
  simp [EpState.arrive, h, hc, ho]

end

/-- Settles O38: what a message handed over adds, what a request that goes counts on, how a message that comes is taken, and which record of a sender goes, each said above. -/
theorem requestsAndMessagesGoInOrder : Obligations.RequestsAndMessagesGoInOrder := by
  refine ⟨?_, ?_, ?_, ?_⟩
  · intro s engine m hw hn
    have run := exec_requestSend_issue s engine hw hn m
    refine ⟨run, fun hm => ?_, fun h0 h1 => ?_⟩
    · rw [run, exec_requestSend_next s engine hw hn, s.ep.issueMsg_none engine m hm]
    · obtain ⟨hdom, hown, hqueue, hlen⟩ := s.ep.outgoing_woff engine m h1
      rw [s.ep.issueMsg_some engine m h0 h1]
      exact ⟨s.ep.outgoing engine m, rfl, rfl, rfl, rfl, rfl, rfl, rfl, List.take_left, hdom, hown, hqueue, hlen, rfl, rfl⟩
  · intro s engine hw hn
    have run := exec_requestSend_next s engine hw hn
    refine ⟨fun h => ?_, fun r h => ⟨fun hf => ?_, fun hf he => ?_, fun hf he => ⟨fun ⟨hd, hm⟩ => ?_, fun ho hp => ?_, fun k ho hp hm => ?_, fun k ho hp hm => ?_⟩⟩⟩
    · rw [run]
      simp only [EpState.requestSend, h]
    · rw [run, s.ep.requestSend_fence engine r h hf]
    · rw [run, s.ep.requestSend_fenced engine r h hf he]
    · exact exec_requestSend_sends s engine hw hn r selfPlane 1 none (s.ep.requestSend_own engine r h hf he ⟨hd, hm⟩) (by simp [hm])
    · rw [run, s.ep.requestSend_absent engine r h hf he ho hp]
    · have go := s.ep.requestSend_plane engine r h hf he ho k hp
      simp only [hm, if_true] at go
      exact exec_requestSend_sends s engine hw hn r k 7 none go (by simp [hm])
    · have go := s.ep.requestSend_plane engine r h hf he ho k hp
      simp only [hm, Bool.false_eq_true, if_false] at go
      exact exec_requestSend_sends s engine hw hn r k _ _ go (by simp [hm])
  · intro s k p q hw hk e
    have run := exec_msgSend_after s k p hw hk
    refine ⟨fun hp => ?_, fun hp ho => ?_, fun hp ho hc => ?_, fun hp ho hc hx => ?_, fun hp hb => ?_⟩
    · rw [run, if_neg hp]
    · rw [run, if_pos hp, EpState.arrive_closed _ _ _ _ ho]
    · rw [run, if_pos hp, EpState.arrive_badCrc _ _ _ _ ho hc]
    · rw [run, if_pos hp, EpState.arrive_shut _ _ _ _ ho hc hx]
    · rw [exec_msgSend_brings s k p hw hk q hp hb]
      refine ⟨fun hc => ?_, fun hc hl => ?_, fun ⟨hc, hl⟩ hd => ?_, fun ⟨hc, hl⟩ hd hr ht => ?_, fun ⟨hc, hl⟩ hd h => ⟨fun hs => ?_, fun hs => ?_⟩⟩
      · rw [e.msgTake_clear k q hc]
      · rw [e.msgTake_illegal k q hc hl]
      · rw [e.msgTake_delivered k q hc hl hd]
      · rw [e.msgTake_copy k q hc hl hd hr ht]
      · rw [e.msgTake_new k q hc hl hd h, if_pos (by simp [hs])]
      · exact ⟨_, rfl, e.msgTake_joins k q hc hl hd h hs⟩
  · intro s k hw
    have run : exec (.msgDupExpiry k) s = .next (s.afterEp (s.ep.msgExpiry k)) := by
      rw [exec_msgDupExpiry, execMsgDupExpiry, onEp_after s _ hw]
    refine ⟨fun h => ?_, fun r h => ⟨fun hr => ?_, fun hr => ?_⟩⟩
    · simp only [run, EpState.msgExpiry, h]
    · simp only [run, EpState.msgExpiry, h, if_neg (Nat.not_le.mpr hr)]
    · simp only [run, EpState.msgExpiry, h, if_pos hr]

end Sys2Proof.Machine
end

section
/-!
PROOF. The remote-line cache: which lines each event of Table 4.4 leaves, and which it drops; beside it what a subtraction leaves of the counters, and what a fence that ends leaves to later ones.
-/

namespace Sys2Proof.Machine

/-! ### Lines that stay and lines that go -/

/-- A key that no entry carries is unlisted. -/
theorem Tab.find_none_of_forall_ne {α : Type} (t : Tab α) (k : Nat) (h : ∀ x ∈ t, x.1 ≠ k) : Tab.find t k = none := by
  induction t with
  | nil => rfl
  | cons x t ih =>
    obtain ⟨hx, ht⟩ := List.forall_mem_cons.mp h
    exact (if_neg hx).trans (ih ht)

section
variable (e : EpState) (pairs : Nat → Bool)

@[simp] theorem EpState.rlcDrop_rlc : (e.rlcDrop pairs).rlc = e.rlc.filter (fun x => !pairs (x.1 / 2 ^ 42)) := rfl
@[simp] theorem EpState.rlcDrop_c : (e.rlcDrop pairs).c = e.c.bump 0x42010 := rfl
@[simp] theorem EpState.rlcDrop_reqs : (e.rlcDrop pairs).src.reqs =
    e.src.reqs.map (fun r => if r.op = 1 ∧ r.mayFill = true ∧ pairs r.pair = true then { r with fillLost := true } else r) := rfl

end

/-- A store takes the lines that it overlaps out of the cache. -/
theorem EpState.rlcStore_rlc (e : EpState) (r : SrcReq) : (e.rlcStore r).rlc = e.rlc.filter (fun x => !(r.lines.map (rlcKey r.pair)).contains x.1) := rfl

/-- What the issue of a store leaves in the cache lies on none of its lines: an acquire only drops more. -/
theorem EpState.issue_store_rlc (e : EpState) (r : SrcReq) (hr : isStore r.op = true) (x : Nat × List Byte) (hx : x ∈ (e.issue r).rlc) :
    x.1 ∉ r.lines.map (rlcKey r.pair) := by
  have hx : x ∈ (e.rlcStore r).rlc := by
    simp only [EpState.issue, hr, if_true, EpState.modSrc_rlc] at hx
    split at hx
    · rw [EpState.rlcDrop_rlc] at hx
      exact List.mem_of_mem_filter hx
    · exact hx
  rw [EpState.rlcStore_rlc] at hx
  simpa using List.of_mem_filter hx

theorem EpState.issue_store_find (e : EpState) (r : SrcReq) (l : Nat) (hr : isStore r.op = true) (hl : l ∈ r.lines) :
    Tab.find (e.issue r).rlc (rlcKey r.pair l) = none := by
  refine Tab.find_none_of_forall_ne _ _ fun x hx he => ?_
  exact e.issue_store_rlc r hr x hx (he ▸ List.mem_map_of_mem hl)

/-! ### `RLC_INVAL` and the writes that drop lines -/

section
variable (e : EpState) (v : Nat)

theorem EpState.rlcInval_none (h0 : bit v 0 = false) (h1 : bit v 1 = false) (h2 : bit v 2 = false) : e.rlcInval v = e := by
  simp [EpState.rlcInval, h0, h1, h2, b2n]

theorem EpState.rlcInval_all (h : bit v 0 = true ∨ (bit v 1 = true ∧ bit v 2 = true)) : e.rlcInval v = e.rlcDrop (fun _ => true) := by
  rcases h with h0 | ⟨h1, h2⟩
  · simp [EpState.rlcInval, h0, b2n]
  · simp only [EpState.rlcInval, h1, h2, b2n, if_true]
    rw [if_neg (by omega), if_pos (.inl (by omega))]

theorem EpState.rlcInval_node (h0 : bit v 0 = false) (h1 : bit v 1 = true) (h2 : bit v 2 = false) :
    e.rlcInval v = e.rlcDrop (fun p => p / 16 == bits v 11 4) := by
  simp [EpState.rlcInval, h0, h1, h2, b2n]

theorem EpState.rlcInval_pair (h0 : bit v 0 = false) (h1 : bit v 1 = false) (h2 : bit v 2 = true) :
    e.rlcInval v = e.rlcDrop (fun p => p == bits v 11 4 * 16 + bits v 15 12) := by
  simp [EpState.rlcInval, h0, h1, h2, b2n]

end

/-- Every bit of a whole word is 1. -/
theorem bit_ones (i : Nat) (h : i < 32) : bit (2 ^ 32 - 1) i = true := by
  have : ∀ i : Fin 32, bit (2 ^ 32 - 1) i = true := by decide
  exact this ⟨i, h⟩

/-- A whole write of an advice register drops the lines of each of its 32 pairs. -/
theorem EpState.writeAdvice_whole (e : EpState) (n v : Nat) :
    e.writeAdvice n v (2 ^ 32 - 1) = (e.mod (fun c => c.wr (0x42100 + 4 * n) (BitVec.ofNat 32 v))).rlcDrop (fun p => p / 32 == n) := by
  have h : (fun p => p / 32 == n && bit (2 ^ 32 - 1) (p % 32)) = (fun p => p / 32 == n) := by
    funext p
    rw [bit_ones _ (Nat.mod_lt _ (by decide)), Bool.and_true]
  rw [EpState.writeAdvice, h]

theorem flag_setFld_zero (r : Reg) : flag (setFld r 0 0 0) 0 = false := by
  have hr := r.isLt
  simp only [flag, bit, setFld, bits, BitVec.toNat_ofNat, beq_eq_false_iff_ne]
  omega

/-! ### Counters -/

/-- Storing a register that holds no word of a counter leaves the counter. -/
theorem EpState.counter_wr_other (e : EpState) (a i : Nat) (v : Reg) (hlo : ctrA i ≠ a) (hhi : ctrA i + 4 ≠ a) :
    (e.mod (fun c => c.wr a v)).counter i = e.counter i := by
  simp only [EpState.counter, EpState.mod_c, Common.rd_wr_other _ _ _ _ hlo, Common.rd_wr_other _ _ _ _ hhi]

@[simp] theorem EpState.notice_c (e : EpState) (kind source a b : Nat) : (e.notice kind source a b).c = e.c := by
  unfold EpState.notice
  split <;> rfl

/-- The wait slots lie above the counters, so that firing one leaves every counter. -/
theorem EpState.counter_fireSlot (e : EpState) (w j : Nat) (hj : j < 65536) : (e.fireSlot w).counter j = e.counter j := by
  simp only [EpState.fireSlot, EpState.counter, EpState.notice_c]
  exact e.counter_wr_other _ j _ (by unfold ctrA; omega) (by unfold ctrA; omega)

theorem EpState.counter_checkSlots (e : EpState) (i j : Nat) (hj : j < 65536) : (e.checkSlots i).counter j = e.counter j := by
  refine each_keep (fun s : EpState => s.counter j) _ e _ fun s x => ?_
  dsimp only
  split
  · exact s.counter_fireSlot _ j hj
  · rfl

/-- A counter that is set holds the value modulo 2^64. -/
theorem EpState.counter_setCounter_same (e : EpState) (i v : Nat) (hi : i < 65536) : (e.setCounter i v).counter i = v % 2 ^ 64 := by
  rw [EpState.setCounter, EpState.counter_checkSlots _ _ _ hi]
  simp only [EpState.counter, EpState.mod_c, Common.rd_wr_same, Common.rd_wr_other _ (ctrA i + 4) (ctrA i) _ (by omega), BitVec.toNat_ofNat]
  omega

theorem EpState.counter_setCounter_other (e : EpState) (i j v : Nat) (hj : j < 65536) (h : j ≠ i) : (e.setCounter i v).counter j = e.counter j := by
  rw [EpState.setCounter, EpState.counter_checkSlots _ _ _ hj]
  simp only [EpState.counter, EpState.mod_c]
  rw [Common.rd_wr_other _ _ _ _ (by unfold ctrA; omega), Common.rd_wr_other _ _ _ _ (by unfold ctrA; omega),
    Common.rd_wr_other _ _ _ _ (by unfold ctrA; omega), Common.rd_wr_other _ _ _ _ (by unfold ctrA; omega)]

/-! ### Fences -/

/-- What a fence reported stands as reported by its engine, so that no later fence of the engine counts it again (R115). -/
theorem EpState.endFence_fenceErrors (e : EpState) (f : FenceRun) : (e.endFence f).fenceErrors f = 0 := by
  simp only [EpState.fenceErrors, EpState.endFence, EpState.modSrc_src, List.length_eq_zero_iff, List.filter_eq_nil_iff, List.mem_map]
  rintro x ⟨y, -, rfl⟩
  split
  case isTrue h => simp
  case isFalse h => simpa using h

section
variable (e : EpState) (engine : Nat)

theorem EpState.fenceComplete_none (h : e.src.fences.find? (fun f => f.engine == engine && e.fenceReady f) = none) : e.fenceComplete engine = e := by
  simp only [EpState.fenceComplete, h]

variable (f : FenceRun) (h : e.src.fences.find? (fun f => f.engine == engine && e.fenceReady f) = some f)
include h

theorem EpState.fenceComplete_areq (id : Nat) (ha : f.areq = some id) : e.fenceComplete engine = (e.endFence f).endAreq id stOk (e.fenceErrors f) [] := by
  simp only [EpState.fenceComplete, h, ha]

theorem EpState.fenceComplete_job (ha : f.areq = none) :
    e.fenceComplete engine = (e.endFence f).modJob engine f.idx (fun j => { j with errors := e.fenceErrors f, left := 0 }) := by
  simp only [EpState.fenceComplete, h, ha]

end

/-- Settles O39: which lines each event drops, what a subtraction leaves, and what a fence tells, each said above. -/
theorem cachedLinesNeverOutliveTheirEvents : Obligations.CachedLinesNeverOutliveTheirEvents := by
  refine ⟨EpState.issue_store_find, ?_, ?_, ?_, ?_⟩
  · intro e pairs t
    exact ⟨fun x => by simp [t], rfl, rfl⟩
  · intro s v hw
    have inval : exec (.rlcInval v) s = .next (s.afterEp (s.ep.rlcInval v)) := by
      rw [exec_rlcInval, execRlcInval, onEp_after s _ hw]
    refine ⟨fun h0 h1 h2 => ?_, fun h => ?_, fun h0 h1 h2 => ?_, fun h0 h1 h2 => ?_, fun n hn => ?_, fun a h0 h1 h4 => ?_, ?_⟩
    · rw [inval, s.ep.rlcInval_none v h0 h1 h2]
    · rw [inval, s.ep.rlcInval_all v h]
    · rw [inval, s.ep.rlcInval_node v h0 h1 h2]
    · rw [inval, s.ep.rlcInval_pair v h0 h1 h2]
    · refine ⟨_, ?_, rfl⟩
      rw [exec_rlcAdviceWrite, execRlcAdviceWrite, onEpIf_after s _ _ hw (decide_eq_true hn), EpState.writeAdvice_whole]
      rfl
    · rw [exec_keyTableWrite, execKeyTableWrite, onEpIf_after s _ _ hw (by simp [h0, h1, h4])]
      rfl
    · refine ⟨s.ep.c.wrF 0x42000 0 0 0, ?_, ?_⟩
      · rw [exec_rlcDisable, execRlcDisable, onEp_after s _ hw]
        rfl
      · rw [Common.wrF, Common.rd_wr_same, flag_setFld_zero]
  · intro s i v hw hi
    have run : exec (.ctrSub i v) s = .next (s.afterEp (s.ep.subCounter i v)) := by
      rw [exec_ctrSub, execCtrSub, onEpIf_after s _ _ hw (decide_eq_true hi)]
    refine ⟨s.ep.subCounter i v, run, ?_, fun j hj h => s.ep.counter_setCounter_other i j _ hj h⟩
    rw [EpState.subCounter, EpState.counter_setCounter_same _ _ _ hi, Nat.mod_mod]
  · intro s engine hw hn f?
    have run : exec (.fenceComplete engine) s = .next (s.afterEp (s.ep.fenceComplete engine)) := by
      rw [exec_fenceComplete, execFenceComplete, onEpIf_after s _ _ hw (decide_eq_true hn)]
    refine ⟨fun h => ?_, fun f h => ⟨s.ep.endFence_fenceErrors f, fun id ha => ?_, fun ha => ?_⟩⟩
    · rw [run, s.ep.fenceComplete_none engine h]
    · rw [run, s.ep.fenceComplete_areq engine f h id ha]
    · rw [run, s.ep.fenceComplete_job engine f h ha]

end Sys2Proof.Machine
end

section
/-!
PROOF. Messages of the accelerator on AREQ and ARSP: which are malformed, refused or taken, and what each answer says.
-/

namespace Sys2Proof.Machine

/-! ### Reasons of a refusal -/

/-- Three reasons, each with a bit of its own. -/
theorem bits_of_reasons (x y z : Bool) :
    let n := (if x = true then 4 else 0) + (if y = true then 2 else 0) + (if z = true then 8 else 0)
    bit n 2 = x ∧ bit n 1 = y ∧ bit n 3 = z ∧ n < 16 ∧ n % 2 = 0 := by
  revert x y z
  decide

/-- The refusal of an AREQ message shows its reasons apart: the context, its module, its privilege (R239, R240). -/
theorem EpState.areqRefusal_eq (e : EpState) (m : LhaMsg) :
    e.areqRefusal m =
      (if (!flag (e.c.rd (0x81000 + 4 * m.ctx)) 0 || fld (e.c.rd (0x81000 + 4 * m.ctx)) 9 4 != m.asid) = true then 4 else 0) +
        (if (e.effective m.ctx != some m.module) = true then 2 else 0) +
        (if ((m.mop == 7 || m.mop == 8) && !flag (e.c.rd (0x81000 + 4 * m.ctx)) 1) = true then 8 else 0) := by
  simp [EpState.areqRefusal]

/-! ### AREQ -/

/-- A message that keeps the rules of AREQ is on that channel. -/
theorem chan_of_areqBad_none (m : LhaMsg) (h : areqBad m = none) : m.chan = 0 := by
  by_contra hc
  by_cases hl : m.lver = 1
  · have hk : areqBad m = some 123 := (if_neg (not_not_intro hl)).trans (if_pos hc)
    exact Option.some_ne_none _ (hk.symm.trans h)
  · have hk : areqBad m = some 127 := if_pos hl
    exact Option.some_ne_none _ (hk.symm.trans h)

section
variable (e : EpState) (m : LhaMsg) (mop : Nat) (go : EpState → EpState)

theorem EpState.areqMsg_bad (h : areqBad m ≠ none ∨ m.mop ≠ mop) : e.areqMsg m mop go = e.lhaBad m := by
  refine if_pos (.inr (h.imp_left fun hb => ?_))
  exact Option.isSome_iff_ne_none.mpr hb

variable (hb : areqBad m = none) (hm : m.mop = mop)
include hb hm

theorem EpState.areqMsg_good : e.areqMsg m mop go =
    if (e.owe m).areqRefusal m ≠ 0 then (e.owe m).ersp m stAddress ((e.owe m).areqRefusal m) [] else go (e.owe m) := by
  refine if_neg ?_
  simp [chan_of_areqBad_none m hb, hb, hm]

theorem EpState.areqMsg_refused (h : (e.owe m).areqRefusal m ≠ 0) : e.areqMsg m mop go = (e.owe m).ersp m stAddress ((e.owe m).areqRefusal m) [] := by
  rw [e.areqMsg_good m mop go hb hm, if_pos h]

theorem EpState.areqMsg_taken (h : (e.owe m).areqRefusal m = 0) : e.areqMsg m mop go = go (e.owe m) := by
  rw [e.areqMsg_good m mop go hb hm, if_neg (not_not_intro h)]

end

/-- An access that has been accepted waits behind those in progress. -/
def EpState.withAreq (e : EpState) (m : LhaMsg) : EpState :=
  e.modLha (fun l => { l with nextAreq := l.nextAreq + 1, areqs := l.areqs ++ [{ id := l.nextAreq, msg := m }] })

/-- What an AREQ message of an opcode does to the end-point once it has been accepted (Table 6.3). -/
def EpState.areqEffect (e : EpState) (m : LhaMsg) : Nat → EpState
  | 6 => (e.rlcDrop (fun _ => true)).ersp m stOk 0 []
  | 7 => e.lhaRegRd m
  | 8 => e.lhaRegWr m
  | _ => e.withAreq m

theorem EpState.areqEffect_access (e : EpState) (m : LhaMsg) (own : Nat) (h : own ≤ 5) : e.areqEffect m own = e.withAreq m := by
  interval_cases own <;> rfl

/-- The commands on AREQ with their opcodes (Table 6.3). -/
def areqCommand (m : LhaMsg) (i : Instr) (own : Nat) : Prop :=
  i = .ld m ∧ own = 1 ∨ i = .st m ∧ own = 2 ∨ i = .stMasked m ∧ own = 3 ∨ i = .lhaAt m ∧ own = 4 ∨ i = .lhaFence m ∧ own = 5 ∨
    i = .kernelStart m ∧ own = 6 ∨ i = .regRd m ∧ own = 7 ∨ i = .regWr m ∧ own = 8

theorem onModule_after (s : State) (m : LhaMsg) (f : EpState → EpState) (hw : s.heldPart .ep = false) (hm : m.module < 4) :
    onEpIf (epModule m.module) s f = .next (s.afterEp (f s.ep)) := onEpIf_after s _ f hw (decide_eq_true hm)

theorem exec_areqCommand (s : State) (m : LhaMsg) (i : Instr) (own : Nat) (hw : s.heldPart .ep = false) (hm : m.module < 4) (h : areqCommand m i own) :
    exec i s = .next (s.afterEp (s.ep.areqMsg m own (fun e => e.areqEffect m own))) := by
  rcases h with ⟨rfl, rfl⟩ | ⟨rfl, rfl⟩ | ⟨rfl, rfl⟩ | ⟨rfl, rfl⟩ | ⟨rfl, rfl⟩ | ⟨rfl, rfl⟩ | ⟨rfl, rfl⟩ | ⟨rfl, rfl⟩ <;>
    exact onModule_after s m _ hw hm

theorem exec_lhaMalformedMessage_after (s : State) (m : LhaMsg) (hw : s.heldPart .ep = false) (hm : m.module < 4) :
    exec (.lhaMalformedMessage m) s = .next (s.afterEp (s.ep.lhaBad m)) := onModule_after s m _ hw hm

/-! ### ARSP -/

section
variable (e : EpState) (m : LhaMsg) (mop : Nat)

/-- The access that an answer on ARSP matches: by its module, tag and kind (R236). -/
def EpState.answered (e : EpState) (m : LhaMsg) : Option Ereq :=
  e.lha.ereqs.find? (fun x => x.sent && x.module == m.module && x.tag == m.tag && arspOf x.mop == m.mop)

theorem EpState.arsp_bad (h : lhaOther m = false ∨ m.mop ≠ mop) : e.arsp m mop = e.lhaBad m := by
  refine if_pos ?_
  rcases h with h | h <;> simp [h]

variable (ho : lhaOther m = true) (hm : m.mop = mop)
include ho hm

theorem EpState.arsp_good : e.arsp m mop =
    match (e.owe m).answered m with
    | none => e.owe m
    | some x =>
      if m.mop = 0x31 ∧ m.addr / 2 ^ 48 = 0 ∧ m.len ≠ x.len then (e.owe m).malformed m 0 else (e.owe m).answerEreq x (m.addr / 2 ^ 48) m.data :=
  if_neg (by simp [ho, hm])

theorem EpState.arsp_stray (h : (e.owe m).answered m = none) : e.arsp m mop = e.owe m := by
  rw [e.arsp_good m mop ho hm, h]

variable (x : Ereq) (h : (e.owe m).answered m = some x)
include h

theorem EpState.arsp_short (hs : m.mop = 0x31 ∧ m.addr / 2 ^ 48 = 0 ∧ m.len ≠ x.len) : e.arsp m mop = (e.owe m).malformed m 0 := by
  rw [e.arsp_good m mop ho hm, h]
  exact if_pos hs

theorem EpState.arsp_answers (hs : ¬(m.mop = 0x31 ∧ m.addr / 2 ^ 48 = 0 ∧ m.len ≠ x.len)) :
    e.arsp m mop = (e.owe m).answerEreq x (m.addr / 2 ^ 48) m.data := by
  rw [e.arsp_good m mop ho hm, h]
  exact if_neg hs

end

/-- The commands on ARSP with their opcodes (Table 6.3). -/
def arspCommand (m : LhaMsg) (i : Instr) (own : Nat) : Prop := i = .mrdRsp m ∧ own = 0x31 ∨ i = .mwrAck m ∧ own = 0x32 ∨ i = .matRsp m ∧ own = 0x33

theorem exec_arspCommand (s : State) (m : LhaMsg) (i : Instr) (own : Nat) (hw : s.heldPart .ep = false) (hm : m.module < 4) (h : arspCommand m i own) :
    exec i s = .next (s.afterEp (s.ep.arsp m own)) := by
  rcases h with ⟨rfl, rfl⟩ | ⟨rfl, rfl⟩ | ⟨rfl, rfl⟩ <;> exact onModule_after s m _ hw hm

/-! ### Malformed messages -/

/-- A malformed message is counted, and its module noted (R233). -/
theorem EpState.lhaMalformed_eq (e : EpState) (m : LhaMsg) (hm : m.module < 4) :
    e.lhaMalformed m = e.mod (fun c => (c.bump 0x80014).event 0x80008 (0x05 * 256 + m.module)) := by
  rw [EpState.lhaMalformed, Nat.mod_eq_of_lt hm]

section
variable (e : EpState) (m : LhaMsg)

theorem EpState.lhaBad_areq (k : Nat) (hc : m.chan = 0) (hk : areqBad m = some k) : e.lhaBad m = ((e.owe m).lhaMalformed m).ersp m stMalformed k [] := by
  simp only [EpState.lhaBad, EpState.malformed, hc, hk, if_true]

theorem EpState.lhaBad_other (hc : m.chan ≠ 0) (ho : lhaOther m = false) : e.lhaBad m = (if m.chan = 1 then e.owe m else e).lhaMalformed m := by
  simp only [EpState.lhaBad, EpState.malformed, hc, ho, if_false, Bool.false_eq_true]

/-- A message that keeps the rules of its channel is left to the command of its kind. -/
theorem EpState.lhaBad_good (h : m.chan = 0 ∧ areqBad m = none ∨ m.chan ≠ 0 ∧ lhaOther m = true) : e.lhaBad m = e := by
  rcases h with ⟨hc, hb⟩ | ⟨hc, ho⟩
  · simp only [EpState.lhaBad, hc, hb, if_true]
  · simp only [EpState.lhaBad, hc, ho, if_false, if_true]

end

/-- Settles O40: the reasons of a refusal, what an AREQ of each opcode does, which answer of ARSP ends its access, and how a malformed message is taken, each said above. -/
theorem directAccessesAreTakenOrRefused : Obligations.DirectAccessesAreTakenOrRefused := by
  refine ⟨?_, ?_, ?_, ?_⟩
  · intro e m r
    rw [e.areqRefusal_eq m]
    exact bits_of_reasons _ _ _
  · intro s m i own hw hm hi e
    have run := exec_areqCommand s m i own hw hm hi
    refine ⟨fun h => ?_, fun hb ho hr => ?_, fun hb ho hr => ?_⟩
    · rw [run, s.ep.areqMsg_bad m own _ h, exec_lhaMalformedMessage_after s m hw hm]
    · rw [run, s.ep.areqMsg_refused m own _ hb ho hr]
    · rw [run, s.ep.areqMsg_taken m own _ hb ho hr]
      refine ⟨fun h5 => ⟨e.withAreq m, ?_, rfl, rfl, rfl, rfl, rfl, rfl, rfl⟩, fun h => ?_, fun h => ?_, fun h hp => ?_, fun h hp => ?_⟩
      · rw [e.areqEffect_access m own h5]
      · rw [h]; rfl
      · rw [h]; rfl
      · rw [h, EpState.areqEffect, EpState.lhaRegWr, if_pos hp]
      · rw [h, EpState.areqEffect, EpState.lhaRegWr, if_neg (by simp [hp])]
  · intro s m i own hw hm hi e hit
    have run := exec_arspCommand s m i own hw hm hi
    refine ⟨fun h => ?_, fun ho hk => ⟨fun h => ?_, fun x h => ⟨fun h31 hok hl => ?_, fun hs => ?_⟩⟩⟩
    · rw [run, s.ep.arsp_bad m own h, exec_lhaMalformedMessage_after s m hw hm]
    · rw [run, s.ep.arsp_stray m own ho hk h]
    · rw [run, s.ep.arsp_short m own ho hk x h ⟨h31, hok, hl⟩]
    · rw [run, s.ep.arsp_answers m own ho hk x h (by tauto)]
      rfl
  · intro s m hw hm note
    have run := exec_lhaMalformedMessage_after s m hw hm
    refine ⟨fun k hc hk => ?_, fun hc ho => ?_, fun h => ?_⟩
    · rw [run, s.ep.lhaBad_areq m k hc hk, EpState.lhaMalformed_eq _ m hm]
    · rw [run, s.ep.lhaBad_other m hc ho, EpState.lhaMalformed_eq _ m hm]
    · rw [run, s.ep.lhaBad_good m h]

end Sys2Proof.Machine
end

section
/-!
PROOF. Membership and unit tests: when FENCE and TAKEOVER are scheduled and what forbids them, what a membership notice leaves of the end-point, and which unit tests are admitted.
-/

namespace Sys2Proof.Machine

/-! ### `FENCE` (R571, R693) -/

/-- A FENCE that is in force or scheduled already (R582). -/
def Common.fenceHeld (c : Common) (epoch set : Nat) : Bool :=
  ((c.rd 0xA00040).toNat == epoch && c.fencedSet == set) || c.stage.memb.any (fun m => m.move.isNone && m.epoch == epoch && m.fenced == set)

theorem Common.fenceHeld_iff (c : Common) (epoch set : Nat) : c.fenceHeld epoch set = true ↔
    (c.rd 0xA00040).toNat = epoch ∧ c.fencedSet = set ∨ ∃ m, m ∈ c.stage.memb ∧ m.move = none ∧ m.epoch = epoch ∧ m.fenced = set := by
  simp [Common.fenceHeld, and_assoc]

theorem Common.membStale_iff (c : Common) (epoch pick : Nat) : c.membStale epoch pick = false ↔
    laterEpoch epoch (c.rd 0xA00040).toNat = true ∧ ∀ m, m ∈ c.stage.memb → laterEpoch epoch m.epoch = true ∧ m.pick < pick := by
  simp [Common.membStale]

section
variable (c : Common) (pick lead : Nat)

theorem Common.pickBad_expired (h : c.time.st = .expired) : c.pickBad pick lead = some (0x0111, 0) := if_pos h

variable (h : c.time.st ≠ .expired)
include h

theorem Common.pickBad_soon (hp : pick < c.pick + lead) : c.pickBad pick lead = some (0x0112, 1) := (if_neg h).trans (if_pos hp)

variable (hp : c.pick + lead ≤ pick)
include hp

theorem Common.pickBad_far (hf : c.pick + 60000000 < pick) : c.pickBad pick lead = some (0x0112, 2) :=
  (if_neg h).trans ((if_neg (Nat.not_lt.mpr hp)).trans (if_pos hf))

theorem Common.pickBad_none (hf : pick ≤ c.pick + 60000000) : c.pickBad pick lead = none :=
  (if_neg h).trans ((if_neg (Nat.not_lt.mpr hp)).trans (if_neg (Nat.not_lt.mpr hf)))

end

section
variable (c : Common) (z : ZPacket)

theorem Common.fenceCmd_held (h : c.fenceHeld (pn z.payload 0 4) (fencedOf z.payload 12) = true) : c.fenceCmd z = c.zSame 0x0301 z [] := if_pos h

variable (h : c.fenceHeld (pn z.payload 0 4) (fencedOf z.payload 12) = false)
include h

theorem Common.fenceCmd_full (hm : 4 ≤ c.stage.memb.length) : c.fenceCmd z = c.zAnswer 0x0301 z 0x0114 0 [] :=
  (if_neg (Bool.eq_false_iff.mp h)).trans (if_pos hm)

variable (hm : c.stage.memb.length < 4)
include hm

theorem Common.fenceCmd_pick (e : Nat × Nat) (hp : c.pickBad (pn z.payload 4 8) 1000 = some e) : c.fenceCmd z = c.zAnswer 0x0301 z e.1 e.2 [] := by
  refine (if_neg (Bool.eq_false_iff.mp h)).trans ((if_neg (Nat.not_le.mpr hm)).trans ?_)
  rw [hp]

theorem Common.fenceCmd_judged (hp : c.pickBad (pn z.payload 4 8) 1000 = none) : c.fenceCmd z =
    if c.membStale (pn z.payload 0 4) (pn z.payload 4 8) then c.zAnswer 0x0301 z 0x0110 1 []
    else (c.scheduleMemb { pick := pn z.payload 4 8, epoch := pn z.payload 0 4, fenced := fencedOf z.payload 12 }).zOk 0x0301 z [] := by
  refine (if_neg (Bool.eq_false_iff.mp h)).trans ((if_neg (Nat.not_le.mpr hm)).trans ?_)
  rw [hp]

end

/-! ### `TAKEOVER` (R576, R693) -/

/-- A change that is the TAKEOVER of a node at a port, of an epoch and a pick. -/
def MembChange.isMove (m : MembChange) (node port epoch pick : Nat) : Bool :=
  m.epoch == epoch && m.pick == pick && (match m.move with | some v => v.1 == node && v.2.1 == port | none => false)

theorem MembChange.isMove_iff (m : MembChange) (node port epoch pick : Nat) :
    m.isMove node port epoch pick = true ↔ m.epoch = epoch ∧ m.pick = pick ∧ ∃ x, m.move = some (node, port, x) := by
  cases hm : m.move with
  | none => simp [MembChange.isMove, hm]
  | some v =>
    obtain ⟨a, b, x⟩ := v
    simp [MembChange.isMove, hm, and_assoc]

/-- The last change that came into force is the TAKEOVER of a node at a port, of an epoch and a pick, and still stands. -/
def Common.moveInForce (c : Common) (node port epoch pick : Nat) : Bool :=
  match c.stage.last with
  | some m => m.isMove node port epoch pick && (c.rd 0xA00040).toNat == epoch && c.aliasOf node == some port
  | none => false

/-- A TAKEOVER that is in force or scheduled already (R582). -/
def Common.moveHeld (c : Common) (node port epoch pick : Nat) : Prop :=
  c.moveInForce node port epoch pick = true ∨ c.stage.memb.any (fun m => m.isMove node port epoch pick) = true

theorem Common.moveInForce_iff (c : Common) (node port epoch pick : Nat) : c.moveInForce node port epoch pick = true ↔
    (c.rd 0xA00040).toNat = epoch ∧ c.aliasOf node = some port ∧ ∃ m, c.stage.last = some m ∧ m.isMove node port epoch pick = true := by
  unfold Common.moveInForce
  cases c.stage.last with
  | none => simp
  | some m => simp [and_comm, and_left_comm]

theorem Common.moveHeld_iff (c : Common) (node port epoch pick : Nat) : c.moveHeld node port epoch pick ↔
    (∃ m, m ∈ c.stage.memb ∧ m.epoch = epoch ∧ m.pick = pick ∧ ∃ x, m.move = some (node, port, x)) ∨
      ((c.rd 0xA00040).toNat = epoch ∧ c.aliasOf node = some port ∧ ∃ m, c.stage.last = some m ∧ m.epoch = epoch ∧ m.pick = pick ∧ ∃ x, m.move = some (node, port, x)) := by
  simp only [← MembChange.isMove_iff, Common.moveHeld, Common.moveInForce_iff, List.any_eq_true, or_comm]

/-- What forbids a TAKEOVER (Table 17.9): a stale epoch, a node not fenced, a port that has a node, a pick outside its range. -/
def Common.moveConflicts (c : Common) (node port epoch pick : Nat) : List Conflict :=
  (if c.membStale epoch pick then [{ code := 0x150, index := 0, addr := 0, value := 0 }] else []) ++
    (if c.fenced node then [] else [{ code := 0x151, index := node, addr := 0, value := 0 }]) ++
    (if (c.nodeAt port).isSome then [{ code := 0x152, index := port, addr := 0, value := 0 }] else []) ++
    (if c.pick + 1000 ≤ pick ∧ pick ≤ c.pick + 1500 then [] else [{ code := 0x153, index := 0, addr := 0, value := 0 }])

theorem code_mem_if (p : Prop) [Decidable p] (k : Nat) (x : Conflict) : k ∈ (if p then [x] else []).map (·.code) ↔ p ∧ k = x.code := by
  split <;> simp [*]

theorem code_mem_unless (p : Prop) [Decidable p] (k : Nat) (x : Conflict) : k ∈ (if p then [] else [x]).map (·.code) ↔ ¬p ∧ k = x.code := by
  split <;> simp [*]

section
variable (c : Common) (node port epoch pick : Nat)

/-- Each conflict is listed by its code exactly where its cause holds. -/
theorem Common.moveConflicts_codes :
    (0x150 ∈ (c.moveConflicts node port epoch pick).map (·.code) ↔ c.membStale epoch pick = true) ∧
    (0x151 ∈ (c.moveConflicts node port epoch pick).map (·.code) ↔ c.fenced node = false) ∧
    (0x152 ∈ (c.moveConflicts node port epoch pick).map (·.code) ↔ (c.nodeAt port).isSome = true) ∧
    (0x153 ∈ (c.moveConflicts node port epoch pick).map (·.code) ↔ pick < c.pick + 1000 ∨ c.pick + 1500 < pick) := by
  have hr : (pick < c.pick + 1000 ∨ c.pick + 1500 < pick) ↔ ¬(c.pick + 1000 ≤ pick ∧ pick ≤ c.pick + 1500) := by omega
  simp only [hr, Common.moveConflicts, List.map_append, List.mem_append, code_mem_if, code_mem_unless]
  simp

theorem Common.moveConflicts_nil (hs : c.membStale epoch pick = false) (hf : c.fenced node = true) (hn : c.nodeAt port = none)
    (hp : c.pick + 1000 ≤ pick) (hq : pick ≤ c.pick + 1500) : c.moveConflicts node port epoch pick = [] := by
  simp [Common.moveConflicts, hs, hf, hn, hp, hq]

theorem Common.moveConflicts_ne_nil
    (h : c.membStale epoch pick = true ∨ c.fenced node = false ∨ (c.nodeAt port).isSome = true ∨ pick < c.pick + 1000 ∨ c.pick + 1500 < pick) :
    c.moveConflicts node port epoch pick ≠ [] := by
  obtain ⟨hs, hf, hn, hp⟩ := c.moveConflicts_codes node port epoch pick
  rw [← hs, ← hf, ← hn, ← hp] at h
  intro hl
  simp [hl] at h

end

section
variable (c : Common) (z : ZPacket)

/-- The TAKEOVER that a packet asks for is in force or scheduled. -/
def Common.moveAgain : Prop := c.moveHeld (pb z.payload 0) (pn z.payload 2 2) (pn z.payload 4 4) (pn z.payload 8 8)

/-- What forbids the TAKEOVER that a packet asks for. -/
def Common.moveBad : List Conflict := c.moveConflicts (pb z.payload 0) (pn z.payload 2 2) (pn z.payload 4 4) (pn z.payload 8 8)

theorem Common.takeoverCmd_again (h : c.moveAgain z) : c.takeoverCmd z = c.zSame 0x0302 z [] := if_pos h

variable (h : ¬c.moveAgain z)
include h

theorem Common.takeoverCmd_full (hm : 4 ≤ c.stage.memb.length) : c.takeoverCmd z = c.zAnswer 0x0302 z 0x0114 0 [] := (if_neg h).trans (if_pos hm)

variable (hm : c.stage.memb.length < 4)
include hm

theorem Common.takeoverCmd_expired (ht : c.time.st = .expired) : c.takeoverCmd z = c.zAnswer 0x0302 z 0x0111 0 [] :=
  (if_neg h).trans ((if_neg (Nat.not_le.mpr hm)).trans (if_pos ht))

variable (ht : c.time.st ≠ .expired)
include ht

theorem Common.takeoverCmd_forbidden (hl : c.moveBad z ≠ []) :
    c.takeoverCmd z = c.zAnswer 0x0302 z 0x0110 (c.moveBad z).length (conflictBytes z (c.moveBad z)) :=
  (if_neg h).trans ((if_neg (Nat.not_le.mpr hm)).trans ((if_neg ht).trans (if_pos hl)))

theorem Common.takeoverCmd_joins (hl : c.moveBad z = []) : c.takeoverCmd z =
    (c.scheduleMemb
      { pick := pn z.payload 8 8, epoch := pn z.payload 4 4, fenced := 0,
        move := some (pb z.payload 0, pn z.payload 2 2, c.portPitch (fld (c.rd (aliasA (pb z.payload 0))) 7 0)) }).zOk 0x0302 z [] :=
  (if_neg h).trans ((if_neg (Nat.not_le.mpr hm)).trans ((if_neg ht).trans (if_neg (not_not_intro hl))))

end

/-! ### Unit tests (R584 to R586) -/

/-- The pick at which a test begins (R584). -/
theorem testStart_range (pick : Nat) : testStart pick % 1024 = 0 ∧ pick + 16 ≤ testStart pick ∧ testStart pick < pick + 1040 := by
  unfold testStart
  omega

/-- Why the part that a packet reaches turns a test down, by the test's kind. -/
def State.testBad (s : State) (part : Part) (c : Common) (t : TestRun) (stop : Nat) : Option (Nat × Nat) :=
  match part with
  | .sw =>
    match t.kind with
    | 1 => ({ s.sw with c := c } : SwState).coreBad t stop
    | 2 => ({ s.sw with c := c } : SwState).shaftBad t stop
    | _ => c.laneBad t stop
  | .ep => c.laneBad t stop

theorem exec_unitTest_accepted (s : State) (z : ZPacket) (h : s.accepts 0x0310 z = true) :
    exec (.unitTest z) s = .next (s.afterZ z ((s.gated 0x0310 z).unitTest z (s.testBad z.part (s.gated 0x0310 z)))) := by
  rw [exec_unitTest, execUnitTest, onZ_accepted 0x0310 z s _ _ h]
  unfold State.afterZ
  cases z.part <;> rfl

/-- The channel that a test names: of a lane only. -/
def testChan (z : ZPacket) : Nat := if pb z.payload 0 = 3 then pb z.payload 1 else 0

/-- The test that a packet asks for. -/
def Common.askedTest (c : Common) (z : ZPacket) : TestRun := { kind := pb z.payload 0, unit := z.index, chan := testChan z, start := testStart c.pick }

section
variable (c : Common) (z : ZPacket) (bad : TestRun → Nat → Option (Nat × Nat))

theorem Common.unitTest_same (r : TestRun) (hr : c.test = some r) (h : r.kind = pb z.payload 0 ∧ r.unit = z.index ∧ r.chan = testChan z) :
    c.unitTest z bad = c.zSame 0x0310 z (beBytes r.start 8) := by
  unfold testChan at h
  simp only [Common.unitTest, hr, if_pos h]

theorem Common.unitTest_busy (r : TestRun) (hr : c.test = some r) (h : ¬(r.kind = pb z.payload 0 ∧ r.unit = z.index ∧ r.chan = testChan z)) :
    c.unitTest z bad = c.zAnswer 0x0310 z zBusy 5 [] := by
  unfold testChan at h
  simp only [Common.unitTest, hr, if_neg h, Option.isSome_some, if_true]

variable (ht : c.test = none)
include ht

theorem Common.unitTest_activation (hp : c.fw.pending.isSome = true) : c.unitTest z bad = c.zAnswer 0x0310 z zBusy 6 [] := by
  simp [Common.unitTest, ht, hp]

variable (hp : c.fw.pending = none)
include hp

theorem Common.unitTest_refused (e : Nat × Nat) (hb : bad (c.askedTest z) (testStart c.pick + testTime (pb z.payload 0)) = some e) :
    c.unitTest z bad = c.zAnswer 0x0310 z e.1 e.2 [] := by
  unfold Common.askedTest testChan at hb
  simp only [Common.unitTest, ht, hp, Option.isSome_none, Bool.false_eq_true, if_false, hb]

theorem Common.unitTest_admitted (hb : bad (c.askedTest z) (testStart c.pick + testTime (pb z.payload 0)) = none) :
    c.unitTest z bad = ({ c with test := some (c.askedTest z) } : Common).zOk 0x0310 z (beBytes (testStart c.pick) 8) := by
  unfold Common.askedTest testChan at hb
  simp only [Common.unitTest, ht, hp, Option.isSome_none, Bool.false_eq_true, if_false, hb]
  rfl

end

/-- A lane is judged alike in both parts; a core and a shaft are of the switch. -/
theorem State.testBad_eq (s : State) (z : ZPacket) (c : Common) (bad : Option (Nat × Nat))
    (h : pb z.payload 0 = 3 ∧ bad = c.laneBad (c.askedTest z) (testStart c.pick + 2000) ∨
      z.part = .sw ∧ pb z.payload 0 = 1 ∧ bad = ({ s.sw with c := c } : SwState).coreBad (c.askedTest z) (testStart c.pick + 20000) ∨
      z.part = .sw ∧ pb z.payload 0 = 2 ∧ bad = ({ s.sw with c := c } : SwState).shaftBad (c.askedTest z) (testStart c.pick + 5000)) :
    s.testBad z.part c (c.askedTest z) (testStart c.pick + testTime (pb z.payload 0)) = bad := by
  have kind : (c.askedTest z).kind = pb z.payload 0 := rfl
  rcases h with ⟨hk, rfl⟩ | ⟨hp, hk, rfl⟩ | ⟨hp, hk, rfl⟩
  · cases z.part <;> simp only [State.testBad, kind, hk, testTime]
  · simp only [State.testBad, kind, hk, hp, testTime]
  · simp only [State.testBad, kind, hk, hp, testTime]

/-! ### What a unit says of its own test (Table 14.7) -/

section
variable (c : Common) (t : TestRun) (stop : Nat)

theorem Common.laneBad_absent (h : c.testable t.unit t.chan = false) : c.laneBad t stop = some (0x13, 0) := if_pos (by simp [h])

variable (h : c.testable t.unit t.chan = true)
include h

theorem Common.laneBad_spare (hs : (c.port t.unit).t.roles.contains 0x21 = true) : c.laneBad t stop = none :=
  (if_neg (by simp [h])).trans (if_pos hs)

theorem Common.laneBad_load (hs : (c.port t.unit).t.roles.contains 0x21 = false) : c.laneBad t stop = none ∨ c.laneBad t stop = some (zBusy, 1) := by
  simp only [Common.laneBad, h, hs, Bool.not_true, Bool.false_eq_true, if_false]
  split <;> simp

end

section
variable (w : SwState) (t : TestRun) (stop : Nat)

/-- The state of the shaft that a test names. -/
def SwState.testShaft : ShaftState := (Tab.get w.core.shafts {} t.unit).st

/-- A shaft stands by. -/
def SwState.spareShaft : Bool := w.core.shafts.any (fun e => e.2.st == .standby)

theorem SwState.shaftBad_failed (h : w.testShaft t = .failed) : w.shaftBad t stop = some (0x13, 0) := if_pos h

theorem SwState.shaftBad_spare (hf : w.testShaft t ≠ .failed) (h : w.testShaft t ≠ .active ∨ w.spareShaft = true) : w.shaftBad t stop = none :=
  (if_neg hf).trans (if_pos h)

section
variable (ha : w.testShaft t = .active) (hs : w.spareShaft = false)
include ha hs

theorem SwState.shaftBad_few (h : w.core.active.length < 8) : w.shaftBad t stop = some (zBusy, 4) := by
  have hf : w.testShaft t ≠ .failed := by simp [ha]
  have hn : ¬(w.testShaft t ≠ .active ∨ w.spareShaft = true) := by simp [ha, hs]
  exact (if_neg hf).trans ((if_neg hn).trans (if_pos h))

theorem SwState.shaftBad_load (h : 8 ≤ w.core.active.length) : w.shaftBad t stop = none ∨ w.shaftBad t stop = some (zBusy, 1) := by
  have hf : w.testShaft t ≠ .failed := by simp [ha]
  have hn : ¬(w.testShaft t ≠ .active ∨ w.spareShaft = true) := by simp [ha, hs]
  have judged : w.shaftBad t stop = if _ then none else some (zBusy, 1) := (if_neg hf).trans ((if_neg hn).trans (if_neg (Nat.not_lt.mpr h)))
  rw [judged]
  split <;> simp

end

theorem SwState.coreBad_retired (h : (w.core' t.unit).st = .retired) : w.coreBad t stop = some (0x13, 0) := if_pos h

section
variable (hr : (w.core' t.unit).st ≠ .retired)
include hr

theorem SwState.coreBad_open (h : w.coreOpen t.unit = true) : w.coreBad t stop = some (zBusy, 2) := (if_neg hr).trans (if_pos h)

theorem SwState.coreBad_short (h : w.coreOpen t.unit = false) : w.coreBad t stop = none ∨ w.coreBad t stop = some (zBusy, 3) := by
  have judged : w.coreBad t stop = if _ then some (zBusy, 3) else none := (if_neg hr).trans (if_neg (Bool.eq_false_iff.mp h))
  rw [judged]
  split <;> simp

end

end

/-! ### `UNIT_TEST_DONE` -/

/-- The result of a test, noted where it runs. -/
def TestRun.noted (t : TestRun) (pass : Bool) : TestRun := if t.running then { t with ended := some pass } else t

theorem exec_unitTestDone_after (s : State) (part : Part) (pass : Bool) (hw : s.heldPart part = false) :
    exec (.unitTestDone part pass) s = .next (s.after part ((s.common part).modTest (fun t => t.noted pass))) := by
  rw [exec_unitTestDone, execUnitTestDone, onPart_after s part _ hw]
  rfl

/-- With no test that runs, nothing is noted. -/
theorem Common.modTest_idle (c : Common) (pass : Bool) (h : ∀ t, c.test = some t → t.running = false) : c.modTest (fun t => t.noted pass) = c := by
  have ht : c.test.map (fun t => t.noted pass) = c.test := by
    cases hc : c.test with
    | none => rfl
    | some t => simp [TestRun.noted, h t hc]
  rw [Common.modTest, ht]

theorem Common.modTest_running (c : Common) (pass : Bool) (t : TestRun) (hc : c.test = some t) (h : t.running = true) :
    c.modTest (fun t => t.noted pass) = { c with test := some { t with ended := some pass } } := by
  simp [Common.modTest, hc, TestRun.noted, h]

/-! ### Membership notices (R141, R574) -/

theorem beNat_lt (l : List Byte) : beNat l < 256 ^ l.length := by
  induction l using List.reverseRecOn with
  | nil => simp [beNat]
  | append_singleton l b ih =>
    have hb := b.isLt
    simp only [beNat, List.foldl_append, List.foldl_cons, List.foldl_nil, List.length_append, List.length_singleton, pow_succ] at ih ⊢
    omega

/-- A field of 4 bytes fits a register. -/
theorem pn_four_lt (l : List Byte) (i : Nat) : pn l i 4 < 2 ^ 32 := by
  refine (beNat_lt _).trans_le ?_
  exact (Nat.pow_le_pow_right (by decide) (List.length_take_le 4 _)).trans (by decide)

theorem laterEpoch_self (a : Nat) : laterEpoch a a = false := by simp [laterEpoch]

/-- The end-point has heard of an epoch: its own moves forward only (R571). -/
def EpState.heard (e : EpState) (epoch : Nat) : EpState :=
  if laterEpoch epoch (e.c.rd 0xD0040).toNat then e.mod (fun c => c.wr 0xD0040 (BitVec.ofNat 32 epoch)) else e

section
variable (e : EpState) (epoch : Nat)

theorem EpState.heard_epoch (h : epoch < 2 ^ 32) :
    ((e.heard epoch).c.rd 0xD0040).toNat = if laterEpoch epoch (e.c.rd 0xD0040).toNat = true then epoch else (e.c.rd 0xD0040).toNat := by
  unfold EpState.heard
  split
  · rw [EpState.mod_c, Common.rd_wr_same, BitVec.toNat_ofNat, Nat.mod_eq_of_lt h]
  · rfl

theorem EpState.heard_heard (h : epoch < 2 ^ 32) : (e.heard epoch).heard epoch = e.heard epoch := by
  refine if_neg ?_
  rw [e.heard_epoch epoch h]
  split
  · simp [laterEpoch_self]
  · assumption

@[simp] theorem EpState.heard_src : (e.heard epoch).src = e.src := by unfold EpState.heard; split <;> rfl
@[simp] theorem EpState.heard_home : (e.heard epoch).home = e.home := by unfold EpState.heard; split <;> rfl
@[simp] theorem EpState.heard_rlc : (e.heard epoch).rlc = e.rlc := by unfold EpState.heard; split <;> rfl
@[simp] theorem EpState.heard_clear : (e.heard epoch).clear = e.clear := by unfold EpState.heard; split <;> rfl
@[simp] theorem EpState.heard_ports : (e.heard epoch).c.ports = e.c.ports := by unfold EpState.heard; split <;> rfl
@[simp] theorem EpState.heard_node : (e.heard epoch).node = e.node := by
  unfold EpState.heard
  split
  · exact congrArg (fun v => fld v 7 0) (Common.rd_wr_other _ _ _ _ (by decide))
  · rfl

end

/-- What a notice keeps of the end-point beside its notices: the source side, the home, the cache, the epoch and what waits for the cipher. -/
theorem EpState.notice_keeps (e : EpState) (kind source a b : Nat) :
    (e.notice kind source a b).src = e.src ∧ (e.notice kind source a b).home = e.home ∧ (e.notice kind source a b).rlc = e.rlc ∧
      (e.notice kind source a b).clear = e.clear := by
  unfold EpState.notice
  split <;> exact ⟨rfl, rfl, rfl, rfl⟩

/-- A request completes FENCED without an answer, wherever it waited (R141). -/
def EpState.endFenced (e : EpState) (r : SrcReq) : EpState := (e.unqueue r).complete r stFenced none

theorem EpState.source_unqueue (e : EpState) (r : SrcReq) : (e.unqueue r).source = e.source := by
  unfold EpState.unqueue
  dsimp only
  split <;> rfl

/-- What a completion without an answer makes of the source side. -/
theorem EpState.complete_src (e : EpState) (r : SrcReq) (st : Nat) : (e.complete r st none).src =
    { e.src with
      reqs := e.src.reqs.filter (fun x => x.id != r.id), done := e.src.done ++ [{ req := r, status := st }],
      fails := if st ≠ stOk then e.src.fails ++ [{ id := r.id, engine := r.engine, node := r.dst }] else e.src.fails } := by
  unfold EpState.complete
  dsimp only
  split_ifs <;> rfl

/-- What ending requests FENCED leaves alone. -/
def EpState.asideFenced (e : EpState) : Home × Tab (List Byte) × Option Nat × Reg := (e.home, e.rlc, e.src.fencedEpoch, e.c.rd 0xD0040)

theorem EpState.asideFenced_mod (e : EpState) (f : Common → Common) (h : (f e.c).rd 0xD0040 = e.c.rd 0xD0040) : (e.mod f).asideFenced = e.asideFenced := by
  rw [EpState.asideFenced, EpState.mod_home, EpState.mod_rlc, EpState.mod_src, EpState.mod_c, h, EpState.asideFenced]

theorem EpState.asideFenced_complete (e : EpState) (r : SrcReq) (st : Nat) : (e.complete r st none).asideFenced = e.asideFenced := by
  unfold EpState.complete
  dsimp only
  split
  · exact EpState.asideFenced_mod _ _ (Common.rd_bumpBy_other _ _ _ _ _ _ (by decide))
  · split
    · exact EpState.asideFenced_mod _ _ (Common.rd_bumpBy_other _ _ _ _ _ _ (by decide))
    · rfl

theorem EpState.asideFenced_unqueue (e : EpState) (r : SrcReq) : (e.unqueue r).asideFenced = e.asideFenced := by
  unfold EpState.unqueue
  dsimp only
  split <;> rfl

theorem EpState.asideFenced_endFenced (e : EpState) (r : SrcReq) : (e.endFenced r).asideFenced = e.asideFenced := by
  rw [EpState.endFenced, EpState.asideFenced_complete, EpState.asideFenced_unqueue]

theorem EpState.endFenced_reqs (e : EpState) (r : SrcReq) : (e.endFenced r).src.reqs = e.src.reqs.filter (fun x => x.id != r.id) := by
  rw [EpState.endFenced, EpState.complete_src]
  exact congrArg (fun x : Source × Tab (List Byte) => x.1.reqs.filter (fun x => x.id != r.id)) (e.source_unqueue r)

theorem EpState.endFenced_done (e : EpState) (r : SrcReq) : (e.endFenced r).src.done = e.src.done ++ [{ req := r, status := stFenced }] := by
  rw [EpState.endFenced, EpState.complete_src]
  exact congrArg (fun x : Source × Tab (List Byte) => x.1.done ++ [{ req := r, status := stFenced }]) (e.source_unqueue r)

/-- Ending a list of requests takes every request of their numbers out. -/
theorem EpState.mem_each_endFenced (l : List SrcReq) (e : EpState) (x : SrcReq) :
    x ∈ (each l e EpState.endFenced).src.reqs ↔ x ∈ e.src.reqs ∧ ∀ r ∈ l, r.id ≠ x.id := by
  induction l generalizing e with
  | nil => simp
  | cons r l ih =>
    rw [each_cons, ih, e.endFenced_reqs r, List.mem_filter, List.forall_mem_cons, and_assoc, bne_iff_ne, ne_comm]

theorem EpState.done_each_endFenced (l : List SrcReq) (e : EpState) :
    (each l e EpState.endFenced).src.done.map (fun d => (d.req, d.status)) = e.src.done.map (fun d => (d.req, d.status)) ++ l.map (fun r => (r, stFenced)) := by
  induction l generalizing e with
  | nil => simp
  | cons r l ih =>
    rw [each_cons, ih, e.endFenced_done r]
    simp

theorem EpState.asideFenced_each (l : List SrcReq) (e : EpState) : (each l e EpState.endFenced).asideFenced = e.asideFenced :=
  each_keep EpState.asideFenced l e _ EpState.asideFenced_endFenced

theorem EpState.dropUnsent_eq (e : EpState) : e.dropUnsent = each (e.src.reqs.filter e.unsent) e EpState.endFenced := rfl

/-- The fenced state has begun under an epoch, and its requests that have not left the part still stand. -/
def EpState.fencedNow (e : EpState) (epoch : Nat) : EpState := ((e.heard epoch).modSrc (fun q => { q with fencedEpoch := some epoch })).notice 0x06 1090 epoch 1

section
variable (e : EpState) (epoch : Nat)

theorem EpState.fencedNow_src : (e.fencedNow epoch).src = { e.src with fencedEpoch := some epoch } := by
  obtain ⟨hs, -⟩ := ((e.heard epoch).modSrc (fun q => { q with fencedEpoch := some epoch })).notice_keeps 0x06 1090 epoch 1
  rw [EpState.fencedNow, hs, EpState.modSrc_src, EpState.heard_src]

theorem EpState.fencedNow_c : (e.fencedNow epoch).c = (e.heard epoch).c := by
  rw [EpState.fencedNow, EpState.notice_c, EpState.modSrc_c]

theorem EpState.fencedNow_clear : (e.fencedNow epoch).clear = e.clear := by
  obtain ⟨-, -, -, hc⟩ := ((e.heard epoch).modSrc (fun q => { q with fencedEpoch := some epoch })).notice_keeps 0x06 1090 epoch 1
  rw [EpState.fencedNow, hc, EpState.modSrc_clear, EpState.heard_clear]

theorem EpState.asideFenced_fencedNow : (e.fencedNow epoch).asideFenced = (e.home, e.rlc, some epoch, (e.heard epoch).c.rd 0xD0040) := by
  obtain ⟨-, hh, hr, -⟩ := ((e.heard epoch).modSrc (fun q => { q with fencedEpoch := some epoch })).notice_keeps 0x06 1090 epoch 1
  rw [EpState.asideFenced, EpState.fencedNow_src, EpState.fencedNow_c, EpState.fencedNow, hh, hr, EpState.modSrc_home, EpState.modSrc_rlc, EpState.heard_home, EpState.heard_rlc]

/-- The start of the fenced state decides nothing about what has left the part. -/
theorem EpState.fencedNow_unsent : (e.fencedNow epoch).unsent = e.unsent := by
  have hn : (e.fencedNow epoch).node = e.node := (congrArg (fun c : Common => c.rf' 0xC8000 7 0) (e.fencedNow_c epoch)).trans (e.heard_node epoch)
  have hp : ∀ k, (e.fencedNow epoch).c.port k = e.c.port k := fun k => by rw [EpState.fencedNow_c, Common.port, EpState.heard_ports, Common.port]
  funext r
  simp only [EpState.unsent, hn, hp, EpState.fencedNow_clear]

end

/-! ### The notice -/

section
variable (e : EpState) (epoch : Nat)

theorem EpState.enterFenced_eq : e.enterFenced epoch = if e.src.fencedEpoch.isSome = true then e.heard epoch else (e.fencedNow epoch).dropUnsent := by
  unfold EpState.enterFenced EpState.fencedNow EpState.heard
  dsimp only

/-- A notice that fences begins the fenced state where it does not stand. -/
theorem EpState.membNotice_fences (h : epoch < 2 ^ 32) : e.membNotice epoch true =
    if e.src.fencedEpoch.isSome = true then e.heard epoch else (e.fencedNow epoch).dropUnsent := by
  have go : e.membNotice epoch true = (e.heard epoch).enterFenced epoch := by
    unfold EpState.membNotice EpState.heard
    simp only [if_true]
  rw [go, EpState.enterFenced_eq, EpState.heard_src, EpState.fencedNow, EpState.heard_heard _ _ h, EpState.fencedNow]

theorem EpState.membNotice_unfenced (hf : e.src.fencedEpoch = none) : e.membNotice epoch false = e.heard epoch := by
  unfold EpState.membNotice EpState.heard
  simp only [hf, Bool.false_eq_true, if_false]

theorem EpState.membNotice_frees (f : Nat) (hf : e.src.fencedEpoch = some f) : e.membNotice epoch false =
    if laterEpoch epoch f = true then ((e.heard epoch).modSrc (fun q => { q with fencedEpoch := none })).notice 0x06 1090 epoch 0 else e.heard epoch := by
  unfold EpState.membNotice EpState.heard
  simp only [hf, Bool.false_eq_true, if_false]

/-- The epoch under which the end-point is fenced once it has heard a notice (R141, R574). -/
def EpState.fencedAfter (fenced : Bool) : Option Nat :=
  if fenced then some (e.src.fencedEpoch.getD epoch) else e.src.fencedEpoch.filter (fun f => !laterEpoch epoch f)

theorem EpState.asideFenced_heard : (e.heard epoch).asideFenced = (e.home, e.rlc, e.src.fencedEpoch, (e.heard epoch).c.rd 0xD0040) := by
  rw [EpState.asideFenced, EpState.heard_home, EpState.heard_rlc, EpState.heard_src]

/-- A notice moves the epoch and the fenced state, and nothing of the home or the cache. -/
theorem EpState.asideFenced_membNotice (fenced : Bool) (h : epoch < 2 ^ 32) :
    (e.membNotice epoch fenced).asideFenced = (e.home, e.rlc, e.fencedAfter epoch fenced, (e.heard epoch).c.rd 0xD0040) := by
  cases fenced with
  | true =>
    rw [e.membNotice_fences epoch h]
    cases hf : e.src.fencedEpoch with
    | none =>
      rw [if_neg (by simp), EpState.dropUnsent_eq, EpState.asideFenced_each, EpState.asideFenced_fencedNow]
      simp [EpState.fencedAfter, hf]
    | some f =>
      rw [if_pos (by simp), EpState.asideFenced_heard]
      simp [EpState.fencedAfter, hf]
  | false =>
    cases hf : e.src.fencedEpoch with
    | none =>
      rw [e.membNotice_unfenced epoch hf, EpState.asideFenced_heard]
      simp [EpState.fencedAfter, hf]
    | some f =>
      rw [e.membNotice_frees epoch f hf]
      split
      case isTrue hl =>
        obtain ⟨hs, hh, hr, -⟩ := ((e.heard epoch).modSrc (fun q => { q with fencedEpoch := none })).notice_keeps 0x06 1090 epoch 0
        rw [EpState.asideFenced, hs, hh, hr, EpState.notice_c, EpState.modSrc_src, EpState.modSrc_home, EpState.modSrc_rlc, EpState.modSrc_c, EpState.heard_home, EpState.heard_rlc]
        simp [EpState.fencedAfter, hf, hl, Option.filter]
      case isFalse hl =>
        rw [EpState.asideFenced_heard]
        simp [EpState.fencedAfter, hf, hl, Option.filter]

/-- A notice that begins no fenced state ends no request. -/
theorem EpState.membNotice_ends_none (fenced : Bool) (h : epoch < 2 ^ 32) (hf : fenced = false ∨ e.src.fencedEpoch.isSome = true) :
    (e.membNotice epoch fenced).src.reqs = e.src.reqs ∧ (e.membNotice epoch fenced).src.done = e.src.done := by
  cases fenced with
  | true =>
    rw [e.membNotice_fences epoch h, if_pos (hf.resolve_left (by simp)), EpState.heard_src]
    exact ⟨rfl, rfl⟩
  | false =>
    cases hk : e.src.fencedEpoch with
    | none =>
      rw [e.membNotice_unfenced epoch hk, EpState.heard_src]
      exact ⟨rfl, rfl⟩
    | some f =>
      rw [e.membNotice_frees epoch f hk]
      split
      · obtain ⟨hs, -⟩ := ((e.heard epoch).modSrc (fun q => { q with fencedEpoch := none })).notice_keeps 0x06 1090 epoch 0
        rw [hs, EpState.modSrc_src, EpState.heard_src]
        exact ⟨rfl, rfl⟩
      · rw [EpState.heard_src]
        exact ⟨rfl, rfl⟩

/-- The start of the fenced state completes FENCED each request that has not left the part. -/
theorem EpState.membNotice_ends_unsent (h : epoch < 2 ^ 32) (hf : e.src.fencedEpoch = none) :
    (∀ x, x ∈ (e.membNotice epoch true).src.reqs ↔ x ∈ e.src.reqs ∧ ∀ r, r ∈ e.src.reqs → e.unsent r = true → r.id ≠ x.id) ∧
    (e.membNotice epoch true).src.done.map (fun d => (d.req, d.status)) =
      e.src.done.map (fun d => (d.req, d.status)) ++ (e.src.reqs.filter e.unsent).map (fun r => (r, stFenced)) := by
  rw [e.membNotice_fences epoch h, if_neg (by simp [hf]), EpState.dropUnsent_eq, EpState.done_each_endFenced, EpState.fencedNow_unsent]
  refine ⟨fun x => ?_, by rw [EpState.fencedNow_src]⟩
  rw [EpState.mem_each_endFenced, EpState.fencedNow_src]
  simp only [List.mem_filter, and_imp]

end

/-! ### Notices as they arrive -/

theorem EpState.noticeArrive_else (e : EpState) (k op : Nat) (p : Packet) (ok : List Byte → Bool) (go : EpState → List Byte → EpState) (h : p.op ≠ opMgmt) :
    e.noticeArrive k op p ok go = e := if_pos h

/-- A notice that reaches the end-point whole is acted on where it keeps the rules, and counted where it breaks them (R671, R672). -/
theorem EpState.noticeArrive_brings (e : EpState) (k op : Nat) (p q : Packet) (ok : List Byte → Bool) (go : EpState → List Byte → EpState) (h : p.op = opMgmt)
    (hb : e.brings k p q = true) : e.noticeArrive k op p ok go =
      if badHeader q = none ∧ lenAllowed q = true ∧ noticeOk q.mgmtBody op = true ∧ ok (q.mgmtBody.drop 16) = true then
        go (e.takeIn k p) (q.mgmtBody.drop 16)
      else (e.takeIn k p).mod (fun c => c.bump 0xD0024) := by
  rw [EpState.noticeArrive, if_neg (not_not_intro h), EpState.arrive_brings _ _ _ _ _ hb]
  simp [and_assoc]

/-- The commands that take a notice by a port. -/
theorem exec_notice_arrives (s : State) (k : Nat) (p : Packet) (i : Instr) (hw : s.heldPart .ep = false) (hk : k < 8) (hp : p.op = opMgmt)
    (hi : i = .membNotice k p ∨ i = .combineReceipt k p) : ∃ go : EpState → Packet → EpState, exec i s = .next (s.afterEp (s.ep.arrive k p go)) := by
  rcases hi with rfl | rfl
  · rw [exec_membNotice, execMembNotice, onEpIf_after s (epPlane k) _ hw (decide_eq_true hk), EpState.noticeArrive, if_neg (not_not_intro hp)]
    exact ⟨_, rfl⟩
  · rw [exec_combineReceipt, execCombineReceipt, onEpIf_after s (epPlane k) _ hw (decide_eq_true hk), EpState.noticeArrive, if_neg (not_not_intro hp)]
    exact ⟨_, rfl⟩

theorem exec_membNotice_after (s : State) (k : Nat) (p : Packet) (hw : s.heldPart .ep = false) (hk : k < 8) :
    exec (.membNotice k p) s = .next (s.afterEp (s.ep.noticeArrive k 0x0303 p membNoticeOk (fun e b => e.membNotice (pn b 0 4) (pb b 4 == 1)))) := by
  rw [exec_membNotice, execMembNotice, onEpIf_after s (epPlane k) _ hw (decide_eq_true hk)]

theorem exec_fence_accepted (s : State) (z : ZPacket) (h : s.accepts 0x0301 z = true) :
    exec (.fence z) s = .next (s.afterZ z ((s.gated 0x0301 z).fenceCmd z)) := by
  rw [exec_fence, execFence, onZc_accepted 0x0301 z s _ h]

theorem exec_takeover_accepted (s : State) (z : ZPacket) (h : s.accepts 0x0302 z = true) :
    exec (.takeover z) s = .next (s.afterZ z ((s.gated 0x0302 z).takeoverCmd z)) := by
  rw [exec_takeover, execTakeover, onZc_accepted 0x0302 z s _ h]

/-- Settles O54: each command's cases, and what a notice leaves of the end-point, are said above. -/
theorem fencesTakeoversAndUnitTestsAreAdmitted : Obligations.FencesTakeoversAndUnitTestsAreAdmitted := by
  refine ⟨?_, ?_, ?_, ?_, ?_, ?_, ?_, ?_, ?_⟩
  · intro s z hz c epoch pick set same
    have held : c.fenceHeld epoch set = true ↔ same := c.fenceHeld_iff epoch set
    rw [exec_fence_accepted s z hz]
    refine ⟨fun h => ?_, fun h => ?_, c.membStale_iff epoch pick⟩
    · rw [c.fenceCmd_held z (held.mpr h)]
    · have h : c.fenceHeld epoch set = false := Bool.eq_false_iff.mpr (mt held.mp h)
      refine ⟨fun hm => ?_, fun hm => ⟨fun ht => ?_, fun ht hp => ?_, fun ht hp => ?_, fun ht hp hf => ?_⟩⟩
      · rw [c.fenceCmd_full z h hm]
      · rw [c.fenceCmd_pick z h hm _ (c.pickBad_expired pick 1000 ht)]
      · rw [c.fenceCmd_pick z h hm _ (c.pickBad_soon pick 1000 ht hp)]
      · rw [c.fenceCmd_pick z h hm _ (c.pickBad_far pick 1000 ht (by omega) hp)]
      · rw [c.fenceCmd_judged z h hm (c.pickBad_none pick 1000 ht hp hf)]
        refine ⟨fun hs => ?_, fun hs => ?_⟩
        · rw [if_pos hs]
        · rw [if_neg (Bool.eq_false_iff.mp hs)]
          rfl
  · intro s z hz c node port epoch pick is same
    have again : c.moveAgain z ↔ same := c.moveHeld_iff node port epoch pick
    rw [exec_takeover_accepted s z hz]
    refine ⟨fun h => ?_, fun h => ?_⟩
    · rw [c.takeoverCmd_again z (again.mpr h)]
    · have h : ¬c.moveAgain z := mt again.mp h
      refine ⟨fun hm => ?_, fun hm ht => ?_, fun hm ht => ⟨fun hs hf hn hp hq => ?_, fun hbad => ?_⟩⟩
      · rw [c.takeoverCmd_full z h hm]
      · rw [c.takeoverCmd_expired z h hm ht]
      · rw [c.takeoverCmd_joins z h hm ht (c.moveConflicts_nil node port epoch pick hs hf hn hp hq)]
        rfl
      · have hl := c.moveConflicts_ne_nil node port epoch pick hbad
        refine ⟨_, hl, ?_, c.moveConflicts_codes node port epoch pick⟩
        rw [c.takeoverCmd_forbidden z h hm ht hl]
        rfl
  · intro s k p hw hk hp
    rw [exec_membNotice_after s k p hw hk, EpState.noticeArrive_else _ _ _ _ _ _ hp]
  · intro s k p i hw hk hp hi
    obtain ⟨go, run⟩ := exec_notice_arrives s k p i hw hk hp hi
    rw [run]
    refine ⟨fun ho => ?_, fun ho hc => ?_, fun ho hc hx => ?_⟩
    · rw [EpState.arrive_closed _ _ _ _ ho]
    · rw [EpState.arrive_badCrc _ _ _ _ ho hc]
    · rw [EpState.arrive_shut _ _ _ _ ho hc hx]
  · intro s k p q hw hk hb hp e pay epoch good
    have hepoch : epoch < 2 ^ 32 := pn_four_lt pay 0
    rw [exec_membNotice_after s k p hw hk, EpState.noticeArrive_brings _ _ _ _ q _ _ hp hb]
    refine ⟨fun hg => ?_, fun hg => ⟨_, by rw [if_pos hg], ?_⟩⟩
    · rw [if_neg hg]
      rfl
    · have aside := e.asideFenced_membNotice epoch (pb pay 4 == 1) hepoch
      have hfenced := congrArg (fun x => x.2.2.1) aside
      refine ⟨congrArg (·.1) aside, congrArg (·.2.1) aside, fun h => ?_, fun h hf => ?_, ?_, fun h => ?_, fun h f hf => ?_, fun h hf => ?_⟩
      · exact e.membNotice_ends_none epoch _ hepoch (h.imp_left beq_false_of_ne)
      · rw [beq_iff_eq.mpr h]
        exact e.membNotice_ends_unsent epoch hepoch hf
      · exact (congrArg (fun x => x.2.2.2.toNat) aside).trans (e.heard_epoch epoch hepoch)
      · refine hfenced.trans ?_
        rw [beq_iff_eq.mpr h]
        rfl
      · refine hfenced.trans ?_
        by_cases hl : laterEpoch epoch f = true <;> simp [EpState.fencedAfter, beq_false_of_ne h, hf, hl, Option.filter]
      · refine hfenced.trans ?_
        simp [EpState.fencedAfter, beq_false_of_ne h, hf]
  · intro s z hz c kind chan start t
    rw [exec_unitTest_accepted s z hz]
    refine ⟨testStart_range c.pick, fun r hr => ⟨fun h => ?_, fun h => ?_⟩, fun ht => ⟨fun hp => ?_, fun hp bad hbad => ?_⟩⟩
    · rw [c.unitTest_same z _ r hr h]
    · rw [c.unitTest_busy z _ r hr h]
    · rw [c.unitTest_activation z _ ht hp]
    · have judged : s.testBad z.part c (c.askedTest z) (testStart c.pick + testTime (pb z.payload 0)) = bad := s.testBad_eq z c bad hbad
      refine ⟨fun e he => ?_, fun he => ?_⟩
      · rw [c.unitTest_refused z _ ht hp e (judged.trans he)]
      · rw [c.unitTest_admitted z _ ht hp (judged.trans he)]
        rfl
  · intro c t stop
    exact ⟨c.laneBad_absent t stop, c.laneBad_spare t stop, c.laneBad_load t stop⟩
  · intro w t stop x spare
    refine ⟨w.shaftBad_failed t stop, fun hx => ?_, fun hx hs => ?_, w.shaftBad_few t stop, w.shaftBad_load t stop, w.coreBad_retired t stop, w.coreBad_open t stop,
      w.coreBad_short t stop⟩
    · have hx : w.testShaft t = .standby := hx
      exact w.shaftBad_spare t stop (by simp [hx]) (.inl (by simp [hx]))
    · have hx : w.testShaft t = .active := hx
      exact w.shaftBad_spare t stop (by simp [hx]) (.inr hs)
  · intro s part pass hw c
    rw [exec_unitTestDone_after s part pass hw]
    refine ⟨fun h => ?_, fun t hc h => ?_⟩
    · rw [c.modTest_idle pass h]
    · rw [c.modTest_running pass t hc h]

end Sys2Proof.Machine
end

section
/-!
PROOF. The addresses that the end-point asks accelerator memory for: what leaves them alone, what adds one, and that nothing that a command ends with takes one away.
-/

namespace Sys2Proof.Machine

/-- Addresses of the accesses asked for and not yet answered, in order. -/
def EpState.asks (s : EpState) : List Nat := s.lha.ereqs.map (·.addr)

theorem asks_of_lha {s t : EpState} (h : t.lha = s.lha) : t.asks = s.asks := congrArg (fun l => l.ereqs.map (·.addr)) h

/-! ### What leaves the list of accesses alone: changes of the other parts of the state -/

@[simp] theorem EpState.asks_mod (s : EpState) (f) : (s.mod f).asks = s.asks := asks_of_lha rfl
@[simp] theorem EpState.asks_modHome (s : EpState) (f) : (s.modHome f).asks = s.asks := asks_of_lha rfl
@[simp] theorem EpState.asks_modSrc (s : EpState) (f) : (s.modSrc f).asks = s.asks := asks_of_lha rfl
@[simp] theorem EpState.asks_modXlt (s : EpState) (f) : (s.modXlt f).asks = s.asks := asks_of_lha rfl
@[simp] theorem EpState.asks_modCe (s : EpState) (e f) : (s.modCe e f).asks = s.asks := asks_of_lha rfl
@[simp] theorem EpState.asks_modColl (s : EpState) (f) : (s.modColl f).asks = s.asks := asks_of_lha rfl
@[simp] theorem EpState.asks_modPiece (s : EpState) (id f) : (s.modPiece id f).asks = s.asks := asks_of_lha rfl
@[simp] theorem EpState.asks_modFlow (s : EpState) (k f) : (s.modFlow k f).asks = s.asks := asks_of_lha rfl
@[simp] theorem EpState.asks_modRec (s : EpState) (k f) : (s.modRec k f).asks = s.asks := asks_of_lha rfl
@[simp] theorem EpState.asks_modReq (s : EpState) (k f) : (s.modReq k f).asks = s.asks := asks_of_lha rfl
@[simp] theorem EpState.asks_addReq (s : EpState) (r) : (s.addReq r).asks = s.asks := asks_of_lha rfl
@[simp] theorem EpState.asks_modSrcReq (s : EpState) (k f) : (s.modSrcReq k f).asks = s.asks := asks_of_lha rfl
@[simp] theorem EpState.asks_modJob (s : EpState) (e k f) : (s.modJob e k f).asks = s.asks := asks_of_lha rfl
@[simp] theorem EpState.asks_modCmd (s : EpState) (k f) : (s.modCmd k f).asks = s.asks := asks_of_lha rfl
@[simp] theorem EpState.asks_modMem (s : EpState) (k f) : (s.modMem k f).asks = s.asks := asks_of_lha rfl
@[simp] theorem EpState.asks_modMemPlane (s : EpState) (i k f) : (s.modMemPlane i k f).asks = s.asks := asks_of_lha rfl
@[simp] theorem EpState.asks_refuseFills (s : EpState) (f) : (s.refuseFills f).asks = s.asks := by simp [EpState.refuseFills]
@[simp] theorem EpState.asks_rlcPurge (s : EpState) (f) : (s.rlcPurge f).asks = s.asks := (EpState.asks_refuseFills ..).trans (asks_of_lha rfl)
@[simp] theorem EpState.asks_rlcDrop (s : EpState) (f) : (s.rlcDrop f).asks = s.asks := by simp [EpState.rlcDrop]
@[simp] theorem EpState.asks_rlcStore (s : EpState) (r) : (s.rlcStore r).asks = s.asks := (EpState.asks_mod ..).trans ((EpState.asks_refuseFills ..).trans (asks_of_lha rfl))
@[simp] theorem EpState.asks_startFence (s : EpState) (f) : (s.startFence f).asks = s.asks := by simp [EpState.startFence]
@[simp] theorem EpState.asks_fillMicro (s : EpState) (u l) : (s.fillMicro u l).asks = s.asks := by simp [EpState.fillMicro]
@[simp] theorem EpState.asks_dropRange (s : EpState) (a v n) : (s.dropRange a v n).asks = s.asks := by simp [EpState.dropRange]
@[simp] theorem EpState.asks_blockCmd (s : EpState) (c) : (s.blockCmd c).asks = s.asks := by simp [EpState.blockCmd]
@[simp] theorem EpState.asks_endCmd (s : EpState) (c st u d) : (s.endCmd c st u d).asks = s.asks := by simp [EpState.endCmd]
@[simp] theorem EpState.asks_winFault (s : EpState) (p f) : (s.winFault p f).asks = s.asks := by simp [EpState.winFault]
@[simp] theorem EpState.asks_markPlane (s : EpState) (k d w c) : (s.markPlane k d w c).asks = s.asks := (EpState.asks_mod ..).trans (asks_of_lha (by simp only [EpState.modSrc_lha]))
@[simp] theorem EpState.asks_ceFault (s : EpState) (e k) : (s.ceFault e k).asks = s.asks := by simp [EpState.ceFault]
@[simp] theorem EpState.asks_storeDone (s : EpState) (e k d) : (s.storeDone e k d).asks = s.asks := by simp [EpState.storeDone]
@[simp] theorem EpState.asks_backArrive (s : EpState) (e k a d o st du re) : (s.backArrive e k a d o st du re).asks = s.asks := by simp [EpState.backArrive]
@[simp] theorem EpState.asks_memEvent (s : EpState) (k) : (s.memEvent k).asks = s.asks := by simp [EpState.memEvent]
@[simp] theorem EpState.asks_memRefuse (s : EpState) (k) : (s.memRefuse k).asks = s.asks := by simp [EpState.memRefuse]
@[simp] theorem EpState.asks_memRead (s : EpState) (r k u) : (s.memRead r k u).asks = s.asks := by simp [EpState.memRead]

/-- A run of steps that each leave the list alone leaves it alone. -/
theorem asks_each {α : Type} {l : List α} {s : EpState} {f : EpState → α → EpState} (h : ∀ s x, (f s x).asks = s.asks) : (each l s f).asks = s.asks :=
  each_keep EpState.asks l s f h

/-- A choice between two states that both leave the list alone. -/
theorem asks_ite {c : Prop} [Decidable c] {s x y : EpState} (hx : x.asks = s.asks) (hy : y.asks = s.asks) : (if c then x else y).asks = s.asks := by
  split
  · exact hx
  · exact hy

/-! ### What leaves the list of accesses alone: packets out and the source side -/

theorem EpState.asks_toWire {s : EpState} {p : Packet} {r : Packet × EpState} (h : s.toWire p = some r) : r.2.asks = s.asks := by
  unfold EpState.toWire at h
  split at h
  · split at h <;> simp only [Option.some.injEq, reduceCtorEq] at h
    subst h; rfl
  · simp only [Option.some.injEq] at h
    subst h; rfl

@[simp] theorem EpState.asks_egress (s : EpState) (k q e) : (s.egress k q e).asks = s.asks := by
  unfold EpState.egress
  split
  next r hr => rw [EpState.asks_mod]; exact EpState.asks_toWire hr
  next => rfl

@[simp] theorem EpState.asks_putPacket (s : EpState) (k p x) : (s.putPacket k p x).asks = s.asks := EpState.asks_egress ..

@[simp] theorem EpState.asks_sendResponse (s : EpState) (k p) : (s.sendResponse k p).asks = s.asks := by
  unfold EpState.sendResponse
  split
  · rfl
  · split
    · split <;> simp
    · simp

@[simp] theorem EpState.asks_rlcFill (s : EpState) (k l) : (s.rlcFill k l).asks = s.asks := by
  unfold EpState.rlcFill
  split
  · rfl
  · simp only; split <;> rfl

@[simp] theorem EpState.asks_rlcAnswer (s : EpState) (r d) : (s.rlcAnswer r d).asks = s.asks := by
  unfold EpState.rlcAnswer
  split
  · rfl
  · split
    · rw [EpState.asks_mod]
    · rw [EpState.asks_mod]; exact asks_each fun s x => s.asks_rlcFill ..

@[simp] theorem EpState.asks_issue (s : EpState) (r) : (s.issue r).asks = s.asks := by
  simp only [EpState.issue, EpState.asks_modSrc]
  split <;> split <;> simp

@[simp] theorem EpState.asks_complete (s : EpState) (r st a) : (s.complete r st a).asks = s.asks := by
  unfold EpState.complete
  simp only
  split
  · simp
  · split <;> simp

@[simp] theorem EpState.asks_freeReissues (s : EpState) : s.freeReissues.asks = s.asks :=
  asks_each fun s k => by split <;> simp

@[simp] theorem EpState.asks_unqueue (s : EpState) (r) : (s.unqueue r).asks = s.asks := by
  unfold EpState.unqueue
  extract_lets mine s0 s1
  have dropped : s1.asks = s.asks := (EpState.asks_mod ..).trans (asks_of_lha rfl)
  split <;> simp [dropped]

@[simp] theorem EpState.asks_dropUnsent (s : EpState) : s.dropUnsent.asks = s.asks :=
  asks_each fun s r => by simp

/-! ### What leaves the list of accesses alone: messages out, translation commands and engines -/

@[simp] theorem EpState.asks_ersp (s : EpState) (m st d x) : (s.ersp m st d x).asks = s.asks := by simp [EpState.asks, EpState.ersp]

@[simp] theorem EpState.asks_notice (s : EpState) (k n a b) : (s.notice k n a b).asks = s.asks := by
  unfold EpState.notice
  split <;> rfl

@[simp] theorem EpState.asks_enterFenced (s : EpState) (k) : (s.enterFenced k).asks = s.asks := by
  unfold EpState.enterFenced
  simp only
  split <;> split <;> simp

@[simp] theorem EpState.asks_endAreq (s : EpState) (i st d x) : (s.endAreq i st d x).asks = s.asks := by
  unfold EpState.endAreq
  split <;> rfl

@[simp] theorem EpState.asks_areqFault (s : EpState) (a d) : (s.areqFault a d).asks = s.asks := by simp [EpState.areqFault]

@[simp] theorem EpState.asks_areqDone (s : EpState) (i d) : (s.areqDone i d).asks = s.asks := EpState.asks_endAreq ..

@[simp] theorem EpState.asks_noLeaves (s : EpState) (c) : (s.noLeaves c).asks = s.asks := by
  unfold EpState.noLeaves
  split <;> simp

@[simp] theorem EpState.asks_xqRefuse (n : Nat) (s : EpState) : (s.xqRefuse n).asks = s.asks := by
  induction n generalizing s with
  | zero => rfl
  | succ n ih =>
    unfold EpState.xqRefuse
    split
    · split
      · rw [ih, EpState.asks_endCmd]
      · rfl
    · rfl

@[simp] theorem EpState.asks_ceStop (s : EpState) (e k c v) : (s.ceStop e k c v).asks = s.asks := by
  unfold EpState.ceStop
  simp only
  split <;> simp

@[simp] theorem EpState.asks_ceSettle (s : EpState) (e) : (s.ceSettle e).asks = s.asks := by
  unfold EpState.ceSettle
  simp only
  split
  · split <;> simp
  · split <;> simp
  · rfl

@[simp] theorem EpState.asks_ceReserved (s : EpState) (e) : (s.ceReserved e).asks = s.asks := by
  unfold EpState.ceReserved
  split
  · split <;> simp
  · rfl

@[simp] theorem EpState.asks_quRun (s : EpState) (n f) : (s.quRun n f).asks = s.asks := by
  refine (asks_each fun s u => ?_).trans (EpState.asks_mod ..)
  simp only
  split
  · rfl
  · split <;> simp

@[simp] theorem EpState.asks_qQuantise (s : EpState) (e k j) : (s.qQuantise e k j).asks = s.asks := by
  unfold EpState.qQuantise
  simp only
  split <;> simp

/-- The access asked for last is told what it was made through; its address stays. -/
@[simp] theorem EpState.asks_throughFor (s : EpState) (sp u p) : (s.throughFor sp u p).asks = s.asks := by
  simp only [EpState.asks, EpState.throughFor, EpState.modLha_lha, List.map_map]
  refine List.map_congr_left fun x _ => ?_
  simp only [Function.comp_apply]
  split <;> rfl

@[simp] theorem EpState.asks_through (s : EpState) (sp u) : (s.through sp u).asks = s.asks := s.asks_throughFor ..

/-! ### What leaves the list of accesses alone: the member of collectives -/

@[simp] theorem EpState.asks_toSwitch (s : EpState) (r k o c d) : (s.toSwitch r k o c d).asks = s.asks := s.asks_putPacket ..

@[simp] theorem EpState.asks_memAbort (s : EpState) (r k x c) : (s.memAbort r k x c).asks = s.asks := s.asks_toSwitch ..

@[simp] theorem EpState.asks_abortPlanes (s : EpState) (i c w) : (s.abortPlanes i c w).asks = s.asks := by
  unfold EpState.abortPlanes
  split
  · rfl
  · exact asks_each fun s k => by simp

@[simp] theorem EpState.asks_memFault (s : EpState) (i) : (s.memFault i).asks = s.asks := s.asks_abortPlanes ..

@[simp] theorem EpState.asks_memBegin (s : EpState) (r) : (s.memBegin r).asks = s.asks := by
  unfold EpState.memBegin
  extract_lets down r1 s1 s2
  have sent : s2.asks = s.asks := asks_each (s := s1) fun s k => s.asks_toSwitch ..
  refine asks_ite sent ?_
  rw [EpState.asks_abortPlanes]
  exact (asks_each fun s _ => s.asks_memEvent 4).trans sent

@[simp] theorem EpState.asks_memImage (s : EpState) (r k u) : (s.memImage r k u).asks = s.asks := by
  unfold EpState.memImage
  extract_lets p done stop b x f sc xs rs i o s1 s2 back
  split
  · simp [done]
  split
  · simp [done]
  have run : s1.asks = s.asks := by simp [s1]
  split
  · simp [stop, run]
  split
  · simp [stop, run]
  have counted : s2.asks = s.asks := asks_ite run (by simp [run])
  simp [done, counted]

@[simp] theorem EpState.asks_memReceived (s : EpState) (i k) : (s.memReceived i k).asks = s.asks := by
  unfold EpState.memReceived
  split
  · rfl
  · extract_lets p due
    exact asks_ite (by simp) rfl

@[simp] theorem EpState.asks_memForm (s : EpState) (i) : (s.memForm i).asks = s.asks := by
  unfold EpState.memForm
  split
  · rfl
  · split
    · rfl
    · split
      · simp
      · split
        · rfl
        · split
          · simp
          · simp only; split <;> simp

@[simp] theorem EpState.asks_memQueries (s : EpState) : s.memQueries.asks = s.asks :=
  asks_each fun s r => asks_each fun s k => by simp

@[simp] theorem EpState.asks_memPortLost (s : EpState) (k) : (s.memPortLost k).asks = s.asks := by
  refine (asks_each fun s r => ?_).trans (EpState.asks_modColl ..)
  simp only
  split <;> simp

@[simp] theorem EpState.asks_afterPorts (s : EpState) (b) : (s.afterPorts b).asks = s.asks := asks_each fun s k => s.asks_memPortLost k

@[simp] theorem EpState.asks_flushReplies (s : EpState) : s.flushReplies.asks = s.asks :=
  (asks_each fun s _ => s.asks_putPacket ..).trans (EpState.asks_mod ..)

@[simp] theorem EpState.asks_takeXlt (s : EpState) : s.takeXlt.asks = s.asks :=
  (asks_each fun s d => by simp).trans (EpState.asks_modXlt ..)

@[simp] theorem EpState.asks_drainModules (s : EpState) : s.drainModules.asks = s.asks :=
  asks_each fun s m => by
    split
    · rfl
    · exact EpState.asks_notice ..

end Sys2Proof.Machine
end

section
/-!
PROOF. Nothing that a command of the end-point ends with takes an access away or moves it: an address once asked for stays asked for.
-/

namespace Sys2Proof.Machine

variable {a : Nat} {s : EpState}

/-! ### Sending what waits -/

@[simp] theorem EpState.asks_sendEreq (s : EpState) (e m) : (s.sendEreq e m).asks = s.asks := by
  simp only [EpState.asks, EpState.sendEreq, EpState.modLha_lha, List.map_map, Lha.spend]
  refine List.map_congr_left fun x _ => ?_
  simp only [Function.comp_apply]
  split <;> rfl

@[simp] theorem EpState.asks_beginWait (s : EpState) (e) : (s.beginWait e).asks = s.asks := by
  unfold EpState.beginWait
  split
  · simp only [EpState.asks, EpState.modLha_lha, List.map_map]
    refine List.map_congr_left fun x _ => ?_
    simp only [Function.comp_apply]
    split <;> rfl
  · rfl

@[simp] theorem EpState.asks_endWait (s : EpState) (e) : (s.endWait e).asks = s.asks := by
  unfold EpState.endWait
  split <;> simp

@[simp] theorem EpState.asks_pumpEreq (l : List Ereq) (s : EpState) (k : List Nat) : (s.pumpEreq l k).asks = s.asks := by
  induction l generalizing s k with
  | nil => rfl
  | cons e r ih =>
    unfold EpState.pumpEreq
    split
    · exact ih ..
    · split
      · rfl
      · dsimp only
        split <;> simp [ih]

@[simp] theorem EpState.asks_pumpErsp (l : List LhaMsg) (s : EpState) (k : List Nat) : (s.pumpErsp l k).asks = s.asks := by
  induction l generalizing s k with
  | nil => rfl
  | cons m r ih =>
    unfold EpState.pumpErsp
    split
    · exact ih ..
    · dsimp only
      split
      · exact ih ..
      · refine (ih ..).trans ?_
        simp [EpState.asks, Lha.spend]

@[simp] theorem EpState.asks_pumpNotes (l : List Note) (s : EpState) : (s.pumpNotes l).asks = s.asks := by
  induction l generalizing s with
  | nil => rfl
  | cons n r ih =>
    unfold EpState.pumpNotes
    split
    · rfl
    · dsimp only
      split
      · rfl
      · refine (ih _).trans ?_
        simp [EpState.asks, Lha.spend]

@[simp] theorem EpState.asks_pump (s : EpState) : s.pump.asks = s.asks := by
  unfold EpState.pump
  extract_lets s1 s2 s3
  have sent : s1.asks = s.asks := asks_ite rfl (s.asks_pumpEreq ..)
  calc s3.asks = s2.asks := EpState.asks_pumpNotes ..
    _ = s1.asks := EpState.asks_pumpErsp ..
    _ = s.asks := sent

/-! ### Asking -/

/-- A new access goes behind the others, its address in 64 bits. -/
theorem EpState.asks_ereq (s : EpState) (p o n l d) : (s.ereq p o n l d).asks = s.asks ++ [n % 2 ^ 64] := by simp [EpState.asks, EpState.ereq]

@[simp] theorem mem_asks_ereq {p o n l d} (h : a ∈ s.asks) : a ∈ (s.ereq p o n l d).asks := by
  rw [EpState.asks_ereq]; exact List.mem_append_left _ h

@[simp] theorem mem_asks_mrd {p n l} (h : a ∈ s.asks) : a ∈ (s.mrd p n l).asks := mem_asks_ereq h
@[simp] theorem mem_asks_mwr {p n d} (h : a ∈ s.asks) : a ∈ (s.mwr p n d).asks := mem_asks_ereq h
@[simp] theorem mem_asks_mwrMasked {p n d k} (h : a ∈ s.asks) : a ∈ (s.mwrMasked p n d k).asks := mem_asks_ereq h
@[simp] theorem mem_asks_mat {p n d} (h : a ∈ s.asks) : a ∈ (s.mat p n d).asks := mem_asks_ereq h
@[simp] theorem mem_asks_mwrBytes {p n d} (h : a ∈ s.asks) : a ∈ (s.mwrBytes p n d).asks := mem_asks_mwrMasked h

theorem mem_asks_of_lha {t : EpState} (e : t.lha = s.lha) (h : a ∈ s.asks) : a ∈ t.asks := asks_of_lha e ▸ h

/-- A choice between two steps that both keep an address and say whether to go on. -/
theorem mem_asks_ite_fst {c : Prop} [Decidable c] {x y : EpState × Bool} (hx : a ∈ x.1.asks) (hy : a ∈ y.1.asks) : a ∈ (if c then x else y).1.asks := by
  split
  · exact hx
  · exact hy

/-- A run of steps that each keep an address keeps it. -/
theorem mem_asks_each {α : Type} {l : List α} {f : EpState → α → EpState} (hf : ∀ s x, a ∈ s.asks → a ∈ (f s x).asks) (h : a ∈ s.asks) : a ∈ (each l s f).asks := by
  induction l generalizing s with
  | nil => exact h
  | cons x l ih => exact ih (hf s x h)

/-- The same for steps that carry a result beside the state. -/
theorem mem_asks_each_fst {α β : Type} {l : List α} {f : EpState × β → α → EpState × β} (hf : ∀ p x, a ∈ p.1.asks → a ∈ (f p x).1.asks) {p : EpState × β} (h : a ∈ p.1.asks) :
    a ∈ (each l p f).1.asks := by
  induction l generalizing p with
  | nil => exact h
  | cons x l ih => exact ih (hf p x h)

/-! ### Requests at home and answers at the source -/

@[simp] theorem mem_asks_startReq {r} (h : a ∈ s.asks) : a ∈ (s.startReq r).asks := by
  unfold EpState.startReq
  dsimp only
  split
  · simp [h]
  · split
    · simp [h]
    · split
      · simp [h]
      · split
        · split <;> simp [h]
        · simp [h]

@[simp] theorem mem_asks_startWaiting {l : List HomeReq} (h : a ∈ s.asks) : a ∈ (s.startWaiting l).asks := by
  induction l generalizing s with
  | nil => exact h
  | cons r l ih =>
    unfold EpState.startWaiting
    refine ih ?_
    split
    · exact mem_asks_startReq h
    · exact h

@[simp] theorem EpState.asks_answerDup (s : EpState) (r) : (s.answerDup r).asks = s.asks := by
  unfold EpState.answerDup
  dsimp only
  split
  · simp
  · split
    · simp
    · split <;> simp

@[simp] theorem mem_asks_homeArrive {k p} (h : a ∈ s.asks) : a ∈ (s.homeArrive k p).asks := by
  unfold EpState.homeArrive
  split
  · simp [h]
  · dsimp only
    split
    · simp [h]
    · split <;> simp [h]

@[simp] theorem mem_asks_reissue {r} (h : a ∈ s.asks) : a ∈ (s.reissue r).asks := by
  unfold EpState.reissue
  dsimp only
  split
  · simp [h]
  · split
    · simp [h]
    · split <;> simp [h]

@[simp] theorem mem_asks_answerReq {r p} (h : a ∈ s.asks) : a ∈ (s.answerReq r p).asks := by
  unfold EpState.answerReq
  extract_lets st s1 s2
  split
  · have filled : s1.asks = s.asks := asks_ite (s.asks_rlcAnswer ..) rfl
    have purged : s2.asks = s.asks := asks_ite ((s1.asks_rlcPurge _).trans filled) filled
    simp [purged, h]
  · split
    · simp [h]
    · split <;> simp [h]

@[simp] theorem mem_asks_response {p} (h : a ∈ s.asks) : a ∈ (s.response p).asks := by
  unfold EpState.response
  split
  · simp [h]
  · split <;> simp [h]

@[simp] theorem mem_asks_takeLoop (h : a ∈ s.asks) : a ∈ s.takeLoop.asks := mem_asks_each (fun _ _ h => mem_asks_response h) h

/-! ### Translation -/

@[simp] theorem mem_asks_startWalk {n v u k r} (h : a ∈ s.asks) : a ∈ (s.startWalk n v u k r).asks := by simp [EpState.startWalk, EpState.readEntry, h]

theorem mem_asks_translate {u n v} (h : a ∈ s.asks) : a ∈ (s.translate u n v).2.asks := by
  unfold EpState.translate
  split
  · exact h
  · split
    · exact h
    · split
      · exact h
      · split
        · exact h
        · split
          · simpa using h
          · split
            · exact h
            · split
              · exact h
              · dsimp only; split <;> simp [h]

/-- The state that a translation leaves, whatever it found. -/
theorem mem_asks_translated {u n v} {t : Trans} {s1 : EpState} (h : a ∈ s.asks) (e : s.translate u n v = (t, s1)) : a ∈ s1.asks := by
  have := mem_asks_translate (u := u) (n := n) (v := v) h
  rwa [e] at this

theorem mem_asks_prefetchRun {l : List (Nat × Nat)} (h : a ∈ s.asks) : a ∈ (s.prefetchRun l).asks := by
  induction l generalizing s with
  | nil => exact h
  | cons x l ih =>
    unfold EpState.prefetchRun
    dsimp only
    split
    · exact ih (by simpa using h)
    · split
      · exact ih (by simpa using h)
      · split
        · exact h
        · exact ih (by simp [h])

@[simp] theorem mem_asks_prefetchGo (h : a ∈ s.asks) : a ∈ s.prefetchGo.asks := mem_asks_prefetchRun h

@[simp] theorem mem_asks_cmdNext {k} (h : a ∈ s.asks) : a ∈ (s.cmdNext k).asks := by
  unfold EpState.cmdNext
  split
  · exact h
  · split
    · split
      · split
        · simpa using h
        · split <;> simp [h]
      · simpa using h
    · split
      · simpa using h
      · dsimp only
        split
        · simpa using h
        · split
          · simpa using h
          · split <;> simp [h]

@[simp] theorem mem_asks_walkCmds (h : a ∈ s.asks) : a ∈ s.walkCmds.asks := mem_asks_each (fun _ _ h => mem_asks_cmdNext h) h

@[simp] theorem mem_asks_xqRecords {n} (h : a ∈ s.asks) : a ∈ (s.xqRecords n).asks := by
  induction n generalizing s with
  | zero => exact h
  | succ n ih =>
    unfold EpState.xqRecords
    split
    · exact h
    · dsimp only
      split
      · exact h
      · split
        · exact h
        · exact ih (by simp [h])

/-! ### Copy engines -/

theorem mem_asks_ceStop {e k c v} (h : a ∈ s.asks) : a ∈ (s.ceStop e k c v).asks := (s.asks_ceStop e k c v).symm ▸ h
theorem mem_asks_modJob {e k f} (h : a ∈ s.asks) : a ∈ (s.modJob e k f).asks := (s.asks_modJob e k f).symm ▸ h

@[simp] theorem mem_asks_ceFetch {e} (h : a ∈ s.asks) : a ∈ (s.ceFetch e).asks := by
  unfold EpState.ceFetch
  extract_lets c half ctl base slot idx
  split
  · exact h
  · exact mem_asks_mrd (by simpa using h)

theorem mem_asks_unitOn {p u} (h : a ∈ s.asks) : a ∈ (s.unitOn p u).1.asks := by
  unfold EpState.unitOn
  dsimp only
  split
  · split <;> simp [h]
  · split
    · exact h
    · split
      · simp [h]
      · split <;> simp [h]

@[simp] theorem mem_asks_pieceLines {i f n d} (h : a ∈ s.asks) : a ∈ (s.pieceLines i f n d).asks := by
  unfold EpState.pieceLines
  extract_lets s1
  have h1 : a ∈ s1.asks := by simpa [s1] using h
  split
  · exact h1
  · extract_lets r
    have hr : a ∈ r.1.asks := by
      refine mem_asks_each_fst (fun x u hx => ?_) h1
      exact mem_asks_unitOn hx
    split
    · exact mem_asks_of_lha (s := r.1) rfl hr
    · simpa using hr

@[simp] theorem mem_asks_issuePiece {e j sl dl sv dv at_ len last} (h : a ∈ s.asks) : a ∈ (s.issuePiece e j sl dl sv dv at_ len last).asks := by
  unfold EpState.issuePiece
  extract_lets sa da id us nl rs p s0 s1 r1 s2 s3
  have h1 : a ∈ s1.asks := mem_asks_of_lha (s := s) rfl h
  have hr : a ∈ r1.1.asks := by
    refine mem_asks_each_fst (fun x r hx => ?_) h1
    dsimp only
    split
    · split <;> simpa using hx
    · simp [hx]
  have h2 : a ∈ s2.1.asks := by
    refine mem_asks_each_fst (fun x u hx => ?_) hr
    dsimp only
    split <;> simpa using hx
  refine mem_asks_each (fun s x h => mem_asks_pieceLines h) ?_
  simpa [s3] using h2

theorem mem_asks_copyStep {e k} (h : a ∈ s.asks) : a ∈ (s.copyStep e k).1.asks := by
  unfold EpState.copyStep
  split
  · exact h
  · split
    · exact h
    · dsimp only
      split
      next s1 h1 => exact mem_asks_translate (mem_asks_translated h h1)
      next s1 h1 => simpa using mem_asks_translated h h1
      next sl s1 h1 =>
        have m1 := mem_asks_translated h h1
        split
        next s2 h2 => exact mem_asks_translated m1 h2
        next s2 h2 => simpa using mem_asks_translated m1 h2
        next dl s2 h2 =>
          have m2 := mem_asks_translated m1 h2
          refine mem_asks_ite_fst ?_ (mem_asks_ite_fst ?_ ?_)
          · simpa using m2
          · simpa using m2
          · rw [EpState.asks_modJob]
            exact mem_asks_issuePiece m2

@[simp] theorem mem_asks_copyRun {e k n} (h : a ∈ s.asks) : a ∈ (s.copyRun e k n).asks := by
  induction n generalizing s with
  | zero => exact h
  | succ n ih =>
    have step := mem_asks_copyStep (e := e) (k := k) h
    unfold EpState.copyRun
    split <;> rename_i hs <;> rw [hs] at step
    · exact ih step
    · exact step

@[simp] theorem mem_asks_atomicTry {e k} (h : a ∈ s.asks) : a ∈ (s.atomicTry e k).asks := by
  unfold EpState.atomicTry
  split
  · exact h
  · dsimp only
    split
    next s1 h1 => exact mem_asks_translate (mem_asks_translated h h1)
    next s1 h1 => simpa using mem_asks_translated h h1
    next sl s1 h1 =>
      have m1 := mem_asks_translated h h1
      split
      next s2 h2 => exact mem_asks_translated m1 h2
      next s2 h2 => simpa using mem_asks_translated m1 h2
      next dl s2 h2 =>
        have m2 := mem_asks_translated m1 h2
        split
        · simpa using m2
        · split
          · simpa using m2
          · split
            · simpa using m2
            · rw [EpState.asks_throughFor]
              refine mem_asks_mrd (mem_asks_of_lha (s := s2.issue _) rfl ?_)
              rw [EpState.asks_issue]
              exact m2

@[simp] theorem mem_asks_flagTry {e k} (h : a ∈ s.asks) : a ∈ (s.flagTry e k).asks := by
  unfold EpState.flagTry
  split
  · exact h
  · dsimp only
    split
    next s1 h1 => exact mem_asks_translated h h1
    next s1 h1 => simpa using mem_asks_translated h h1
    next l s1 h1 =>
      have m1 := mem_asks_translated h h1
      split
      · simpa using m1
      · split
        · split <;> simp [m1]
        · simpa using m1

@[simp] theorem mem_asks_pieceRead {p f n d} (h : a ∈ s.asks) : a ∈ (s.pieceRead p f n d).asks := by
  unfold EpState.pieceRead
  split <;> simp [h]

@[simp] theorem mem_asks_atomicDone {e k d} (h : a ∈ s.asks) : a ∈ (s.atomicDone e k d).asks := by
  unfold EpState.atomicDone
  split
  · exact h
  · dsimp only
    split <;> simp [h]

theorem mem_asks_backStep {e k} (h : a ∈ s.asks) : a ∈ (s.backStep e k).1.asks := by
  unfold EpState.backStep
  split
  · exact h
  · split
    · exact h
    · dsimp only
      split
      next s1 h1 => exact mem_asks_translated h h1
      next s1 h1 => simpa using mem_asks_translated h h1
      next l s1 h1 =>
        have m1 := mem_asks_translated h h1
        split <;> simp [m1]

@[simp] theorem mem_asks_backRun {e k n} (h : a ∈ s.asks) : a ∈ (s.backRun e k n).asks := by
  induction n generalizing s with
  | zero => exact h
  | succ n ih =>
    have step := mem_asks_backStep (e := e) (k := k) h
    unfold EpState.backRun
    split <;> rename_i hs <;> rw [hs] at step
    · exact ih step
    · exact step

@[simp] theorem mem_asks_backSettle {e} (h : a ∈ s.asks) : a ∈ (s.backSettle e).asks := by
  refine mem_asks_each (fun s j h => ?_) h
  dsimp only
  split
  · split
    · simp [h]
    · split
      · split <;> simp [h]
      · exact h
  · split <;> simp [h]

theorem mem_asks_qStep {e k} (h : a ∈ s.asks) : a ∈ (s.qStep e k).1.asks := by
  unfold EpState.qStep
  split
  · exact h
  · extract_lets asid i st va n
    split
    · exact h
    · split
      · split
        next s1 h1 => exact mem_asks_translated h h1
        next s1 h1 => exact mem_asks_ceStop (mem_asks_translated h h1)
        next l s1 h1 =>
          have m1 := mem_asks_translated h h1
          split
          · exact mem_asks_ceStop m1
          · split
            · exact mem_asks_ceStop m1
            · split
              · exact mem_asks_modJob m1
              · split
                next s2 h2 => exact mem_asks_translated m1 h2
                next s2 h2 => exact mem_asks_ceStop (mem_asks_translated m1 h2)
                next r s2 h2 =>
                  have m2 := mem_asks_translated m1 h2
                  split
                  · exact mem_asks_ceStop m2
                  · split
                    · exact mem_asks_ceStop m2
                    · exact mem_asks_modJob m2
      · split
        · split
          · exact mem_asks_modJob h
          · split
            next s1 h1 => exact mem_asks_translated h h1
            next s1 h1 => exact mem_asks_ceStop (mem_asks_translated h h1)
            next l s1 h1 =>
              have m1 := mem_asks_translated h h1
              split
              · exact mem_asks_ceStop m1
              · rw [EpState.asks_through]
                exact mem_asks_mrd (mem_asks_modJob m1)
        · split
          · split
            · exact h
            · split
              · exact mem_asks_modJob h
              · simpa using h
          · split
            · exact mem_asks_modJob h
            · split
              next s1 h1 => exact mem_asks_translated h h1
              next s1 h1 => exact mem_asks_ceStop (mem_asks_translated h h1)
              next l s1 h1 =>
                have m1 := mem_asks_translated h h1
                extract_lets b last us s2
                have m2 : a ∈ s2.asks := mem_asks_modJob m1
                split
                · exact mem_asks_ceStop m1
                · split
                  · exact mem_asks_ceStop m1
                  · refine mem_asks_each (fun s u hs => ?_) m2
                    extract_lets bs p whole op ln
                    split
                    · rw [EpState.asks_through]
                      split
                      · exact mem_asks_mwr hs
                      · exact mem_asks_mwrBytes hs
                    · rw [EpState.asks_issue]
                      exact hs

@[simp] theorem mem_asks_qRun {e k n} (h : a ∈ s.asks) : a ∈ (s.qRun e k n).asks := by
  induction n generalizing s with
  | zero => exact h
  | succ n ih =>
    have step := mem_asks_qStep (e := e) (k := k) h
    unfold EpState.qRun
    split <;> rename_i hs <;> rw [hs] at step
    · exact ih step
    · exact step

@[simp] theorem mem_asks_ceRun {e} (h : a ∈ s.asks) : a ∈ (s.ceRun e).asks := by
  refine mem_asks_each (fun s j h => ?_) h
  split
  · exact h
  · split <;> simp [h]

@[simp] theorem mem_asks_engineGo {e} (h : a ∈ s.asks) : a ∈ (s.engineGo e).asks := by
  rw [EpState.engineGo, EpState.asks_ceSettle]
  refine mem_asks_ceFetch ?_
  rw [EpState.asks_ceReserved]
  exact mem_asks_backSettle (mem_asks_ceRun h)

/-! ### Direct accesses -/

@[simp] theorem mem_asks_startAreq {m} (h : a ∈ s.asks) : a ∈ (s.startAreq m).asks := by
  unfold EpState.startAreq
  extract_lets msg unit go op
  have began (t : EpState) (ht : a ∈ t.asks) : a ∈ (go t).asks := ht
  split
  · exact began s h
  · split
    next s1 h1 => exact mem_asks_translated h h1
    next s1 h1 => simpa using mem_asks_translated h h1
    next l s1 h1 =>
      have m1 := mem_asks_translated h h1
      extract_lets pa q s2 s3
      split
      · simpa using m1
      · split
        · split
          · simpa using m1
          · rw [EpState.asks_issue]
            exact began s1 m1
        · split
          · simpa using m1
          · split
            · simpa using m1
            · rw [EpState.asks_through]
              have m2 : a ∈ s2.asks := began s1 m1
              simp only [s3]
              split
              · exact mem_asks_mrd m2
              · split
                · exact mem_asks_mwr m2
                · split
                  · exact mem_asks_ereq m2
                  · exact mem_asks_mat m2

@[simp] theorem mem_asks_tryAreqs {l : List Areq} {k} (h : a ∈ s.asks) : a ∈ (s.tryAreqs l k).asks := by
  induction l generalizing s k with
  | nil => exact h
  | cons m l ih =>
    unfold EpState.tryAreqs
    split
    · exact ih h
    · split
      · exact ih h
      · exact ih (mem_asks_startAreq h)

/-! ### The member of collectives -/

@[simp] theorem mem_asks_collFetch (h : a ∈ s.asks) : a ∈ s.collFetch.asks := by
  unfold EpState.collFetch
  dsimp only
  split
  · exact h
  · exact mem_asks_mrd (by simpa using h)

@[simp] theorem mem_asks_memCheck {i n} (h : a ∈ s.asks) : a ∈ (s.memCheck i n).asks := by
  induction n generalizing s with
  | zero => exact h
  | succ n ih =>
    unfold EpState.memCheck
    split
    · exact h
    · split
      · exact h
      · split
        · simpa using h
        · split
          next s1 h1 => exact mem_asks_translated h h1
          next s1 h1 => simpa using mem_asks_translated h h1
          next l s1 h1 =>
            have m1 := mem_asks_translated h h1
            split
            · exact ih (by simpa using m1)
            · split
              · simpa using m1
              · exact ih (by simpa using m1)

@[simp] theorem mem_asks_memAsk {i k n} (h : a ∈ s.asks) : a ∈ (s.memAsk i k n).asks := by
  induction n generalizing s with
  | zero => exact h
  | succ n ih =>
    unfold EpState.memAsk
    split
    · exact h
    · dsimp only
      split
      · split
        · simpa using h
        · exact h
      · split
        next s1 h1 => exact mem_asks_translated h h1
        next s1 h1 => simpa using mem_asks_translated h h1
        next l s1 h1 =>
          have m1 := mem_asks_translated h h1
          split
          · simpa using m1
          · exact ih (by simp [m1])
      · exact h

@[simp] theorem mem_asks_memSend {i k n} (h : a ∈ s.asks) : a ∈ (s.memSend i k n).asks := by
  induction n generalizing s with
  | zero => exact h
  | succ n ih =>
    unfold EpState.memSend
    split
    · exact h
    · dsimp only
      split
      · exact h
      · split
        · exact ih (by simpa using h)
        · split
          · exact h
          · split
            · exact ih (by simpa using h)
            · split <;> simp [h]

/-- A block written in units, each an access of the member's. -/
theorem mem_asks_units {α : Type} {l : List α} {p : Purp} {q : α → Nat} {b : α → List Byte} {c : α → Prop} [DecidablePred c] {sp u} (h : a ∈ s.asks) :
    a ∈ (each l s (fun s x => (if c x then s.mwr p (q x) (b x) else s.mwrBytes p (q x) (b x)).through sp u)).asks :=
  mem_asks_each (fun s x hs => by split <;> simp [hs]) h

@[simp] theorem mem_asks_memWrite {i k n} (h : a ∈ s.asks) : a ∈ (s.memWrite i k n).asks := by
  induction n generalizing s with
  | zero => exact h
  | succ n ih =>
    unfold EpState.memWrite
    split
    · exact h
    · split
      · exact h
      · dsimp only
        split
        next s1 h1 => exact mem_asks_translated h h1
        next s1 h1 => simpa using mem_asks_translated h h1
        next l s1 h1 =>
          have m1 := mem_asks_translated h h1
          split
          · simpa using m1
          · exact ih (mem_asks_units (by simpa using m1))

@[simp] theorem mem_asks_memResid {i n} (h : a ∈ s.asks) : a ∈ (s.memResid i n).asks := by
  induction n generalizing s with
  | zero => exact h
  | succ n ih =>
    unfold EpState.memResid
    split
    · exact h
    · split
      · exact h
      · dsimp only
        split
        next s1 h1 => exact mem_asks_translated h h1
        next s1 h1 => simpa using mem_asks_translated h h1
        next l s1 h1 =>
          have m1 := mem_asks_translated h h1
          split
          · simpa using m1
          · exact ih (mem_asks_units (by simpa using m1))

@[simp] theorem mem_asks_memRecord (h : a ∈ s.asks) : a ∈ s.memRecord.asks := by
  unfold EpState.memRecord
  split
  · exact h
  · dsimp only
    split <;> simp [h]

@[simp] theorem mem_asks_memGo {r} (h : a ∈ s.asks) : a ∈ (s.memGo r).asks := by
  unfold EpState.memGo
  extract_lets s1 s2
  have h1 : a ∈ s1.asks := by
    simp only [s1]
    split <;> simp [h]
  have h2 : a ∈ s2.asks := by
    refine mem_asks_each (fun s k hs => ?_) h1
    rw [EpState.asks_memReceived]
    exact mem_asks_memWrite (mem_asks_memSend (mem_asks_memAsk hs))
  simp [h2]

@[simp] theorem mem_asks_memSettle (h : a ∈ s.asks) : a ∈ s.memSettle.asks :=
  mem_asks_memRecord (mem_asks_each (fun _ _ h => mem_asks_memGo h) (by simp [h]))

/-! ### What a command ends with -/

@[simp] theorem mem_asks_requestDone {d} (h : a ∈ s.asks) : a ∈ (s.requestDone d).asks := by
  unfold EpState.requestDone
  split <;> simp [h]

@[simp] theorem mem_asks_takeDone (h : a ∈ s.asks) : a ∈ s.takeDone.asks := mem_asks_each (fun _ _ h => mem_asks_requestDone h) (by simpa using h)

@[simp] theorem mem_asks_settle (h : a ∈ s.asks) : a ∈ s.settle.asks := by
  unfold EpState.settle
  extract_lets s1 s2 s3 s4 s5
  have h2 : a ∈ s2.asks := mem_asks_tryAreqs (mem_asks_takeDone (mem_asks_takeLoop h))
  have h3 : a ∈ s3.asks := mem_asks_each (fun _ _ h => mem_asks_engineGo h) h2
  have h4 : a ∈ s4.asks := mem_asks_prefetchGo (mem_asks_walkCmds (mem_asks_takeDone (mem_asks_memSettle h3)))
  simp [s5, h4]

/-- What was asked for when a command has acted is still asked for when it has ended. -/
theorem mem_asks_finish {b} (h : a ∈ s.asks) : a ∈ (s.finish b).asks := by simp [EpState.finish, h]

end Sys2Proof.Machine
end

section
/-!
PROOF. A held store whose physical address is past 64 bits: the access that its release begins is asked for by the address in 64 bits, not by the address that the request holds.
-/

namespace Sys2Proof.Machine

theorem State.afterEp_ep (s : State) (e : EpState) : (s.afterEp e).ep = e.finish s.ep := by simp only [State.afterEp]

/-- A masked write of node 0, held since pick 0, at the first address past 64 bits. -/
def farStore : HomeReq := { id := 0, plane := 0, pkt := { op := 6, src := 0 }, arrival := 0, pa := 2 ^ 64, st := .held 0 }

/-- An end-point that works and holds that store alone; every lower SEQ of its source is finished. -/
def holdingFar : State := { ep := { c := { part := .ep, biv := { st := .awake, booted := true } }, home := { reqs := [farStore] } } }

theorem holdingFar_works : holdingFar.heldPart .ep = false := by decide +kernel

theorem holdingFar_holds :
    holdingFar.ep.home.reqs.find? (fun r => r.pkt.src == 0 && r.pkt.seq == 0 && (match r.st with | .held _ => true | _ => false)) = some farStore := by decide +kernel

theorem holdingFar_lowerDone : (Tab.get holdingFar.ep.home.recs {} farStore.pkt.src).lowerDone farStore.pkt.seq = true := by decide +kernel

/-- What the release leaves asked for: the address of the store, cut to 64 bits. -/
theorem holdingFar_released_asks : ((holdingFar.ep.releaseFlag 0 0).finish holdingFar.ep).asks = [0] := by decide +kernel

/-- The end-point that a release of the store ends in. -/
theorem holdingFar_release : exec (.flagHoldRelease 0 0) holdingFar = .next (holdingFar.afterEp (holdingFar.ep.releaseFlag 0 0)) :=
  onEp_after holdingFar _ holdingFar_works

/-- No end-point that has asked for the store's own address ends the release in the same state. -/
theorem holdingFar_release_ne {t : EpState} (h : farStore.pa ∈ t.asks) : exec (.flagHoldRelease 0 0) holdingFar ≠ .next (holdingFar.afterEp t) := by
  rw [holdingFar_release]
  intro same
  have ends := congrArg State.ep (Host.Outcome.next.inj same)
  rw [State.afterEp_ep, State.afterEp_ep] at ends
  have kept : farStore.pa ∈ (t.finish holdingFar.ep).asks := mem_asks_finish h
  rw [← ends, holdingFar_released_asks] at kept
  exact absurd kept (by decide +kernel)

/-- Refutes O36: a held store may hold a physical address of `2 ^ 64`, for a state bounds no `HomeReq.pa`; its release asks for address 0,
while the statement wants an access at `2 ^ 64`, and no access once asked for is lost or moved by what a command ends with. -/
theorem not_flagsWaitForLowerSequences : ¬ Obligations.FlagsWaitForLowerSequences := by
  unfold Obligations.FlagsWaitForLowerSequences
  rintro ⟨flags, -⟩
  obtain ⟨-, release, -, -⟩ := flags holdingFar 0 0 holdingFar_works
  obtain ⟨-, -, alone⟩ := release farStore holdingFar_holds
  obtain ⟨t, ends, -, -, -, asked⟩ := alone holdingFar_lowerDone rfl rfl rfl
  refine holdingFar_release_ne ?_ ends
  rw [EpState.asks, asked]
  simp

end Sys2Proof.Machine
end

section
/-!
PROOF. What a context's loads and stores do: the instruction that a context issues runs at once; what a read, a write and a flush leave of a core's line buffer and of DRAM; and how each load, store, copy and flush ends.
-/

namespace Sys2Proof.Machine

/-! ### Tables whose keys rise -/

section
variable {α : Type} {t : Tab α} {k : Nat} {v : α}

theorem Tab.mem_of_find (h : Tab.find t k = some v) : (k, v) ∈ t := by
  induction t with
  | nil => cases h
  | cons e t ih =>
    obtain ⟨j, w⟩ := e
    simp only [Tab.find] at h
    split at h
    case isTrue hj => cases h; exact hj ▸ List.mem_cons_self
    case isFalse => exact List.mem_cons_of_mem _ (ih h)

/-- The tail of a table rises, and does not list the key of its head. -/
theorem Tab.rising_cons {e : Nat × α} (h : Tab.rising (e :: t) = true) : Tab.find t e.1 = none ∧ Tab.rising t = true := by
  rw [Tab.rising_iff, List.pairwise_cons] at h
  exact ⟨Tab.find_none_of_forall_ne t e.1 fun x hx => (h.1 x hx).ne', (Tab.rising_iff t).mpr h.2⟩

/-- Where keys rise, every entry is the one that its key reads. -/
theorem Tab.find_of_mem (h : Tab.rising t = true) (hm : (k, v) ∈ t) : Tab.find t k = some v := by
  induction t with
  | nil => cases hm
  | cons e t ih =>
    obtain ⟨hn, ht⟩ := Tab.rising_cons h
    rcases List.mem_cons.mp hm with rfl | hm
    · exact if_pos rfl
    · have hk := ih ht hm
      have hne : e.1 ≠ k := by rintro rfl; rw [hn] at hk; cases hk
      exact (if_neg hne).trans hk

theorem Tab.find_filter (p : Nat × α → Bool) (h : Tab.rising t = true) : Tab.find (t.filter p) k = (Tab.find t k).filter (fun v => p (k, v)) := by
  ext v
  rw [Option.filter_eq_some_iff]
  constructor
  · intro hv
    obtain ⟨hm, hp⟩ := List.mem_filter.mp (Tab.mem_of_find hv)
    exact ⟨Tab.find_of_mem h hm, hp⟩
  · rintro ⟨hv, hp⟩
    exact Tab.find_of_mem (Tab.rising_filter t p h) (List.mem_filter.mpr ⟨Tab.mem_of_find hv, hp⟩)

end

/-! ### A core's line buffer -/

section
variable (t : Tab LineByte) (a : Nat) (v : LineByte)

/-- A byte put into the buffer turns out no byte, or a clean one at another address. -/
theorem lineSet_cases : lineSet t a v = Tab.put t a v ∨ ∃ c l, (c, l) ∈ Tab.put t a v ∧ l.dirty = false ∧ c ≠ a ∧ lineSet t a v = Tab.del (Tab.put t a v) c := by
  simp only [lineSet]
  split
  case isTrue => exact .inl rfl
  case isFalse =>
    split
    case h_2 => exact .inl rfl
    case h_1 c hc =>
      obtain ⟨e, he, rfl⟩ := List.mem_map.mp (List.mem_of_getElem? hc)
      obtain ⟨hm, hp⟩ := List.mem_filter.mp he
      simp only [Bool.and_eq_true, Bool.not_eq_true', bne_iff_ne] at hp
      exact .inr ⟨e.1, e.2, hm, hp.1, hp.2, rfl⟩

theorem find_lineSet_same : Tab.find (lineSet t a v) a = some v := by
  rcases lineSet_cases t a v with h | ⟨c, l, -, -, hc, h⟩
  · rw [h, Tab.find_put_same]
  · rw [h, Tab.find_del_other _ _ _ hc.symm, Tab.find_put_same]

variable {t}

theorem rising_lineSet (ht : Tab.rising t = true) : Tab.rising (lineSet t a v) = true := by
  have hp := Tab.rising_put t a v ht
  rcases lineSet_cases t a v with h | ⟨c, l, -, -, -, h⟩
  · rwa [h]
  · rw [h]; exact Tab.rising_filter _ _ hp

/-- A dirty byte at another address stays. -/
theorem find_lineSet_dirty (ht : Tab.rising t = true) {c : Nat} {l : LineByte} (hc : c ≠ a) (hl : Tab.find t c = some l) (hd : l.dirty = true) :
    Tab.find (lineSet t a v) c = some l := by
  have hput : Tab.find (Tab.put t a v) c = some l := (Tab.find_put_other t a c v hc).trans hl
  rcases lineSet_cases t a v with h | ⟨o, m, hm, hclean, -, h⟩
  · rw [h, hput]
  · have ho : c ≠ o := by
      rintro rfl
      have hsame : some l = some m := hput.symm.trans (Tab.find_of_mem (Tab.rising_put t a v ht) hm)
      cases hsame
      simp [hd] at hclean
    rw [h, Tab.find_del_other _ _ _ ho, hput]

end

/-- The line buffer after bytes have been written from an address. -/
def linesWritten (t : Tab LineByte) (a : Nat) (l : List Byte) : Tab LineByte :=
  (List.zip (List.range l.length) l).foldl (fun (t : Tab LineByte) (e : Nat × Byte) => lineSet t (a + e.1) { val := e.2, dirty := true }) t

theorem linesWritten_concat (t : Tab LineByte) (a : Nat) (l : List Byte) (v : Byte) :
    linesWritten t a (l ++ [v]) = lineSet (linesWritten t a l) (a + l.length) { val := v, dirty := true } := by
  simp [linesWritten, List.range_succ, List.zip_append]

theorem rising_linesWritten {t : Tab LineByte} (a : Nat) (l : List Byte) (ht : Tab.rising t = true) : Tab.rising (linesWritten t a l) = true := by
  induction l using List.reverseRecOn with
  | nil => exact ht
  | append_singleton l v ih => rw [linesWritten_concat]; exact rising_lineSet _ _ ih

/-- Every byte written stands in the buffer, dirty: a later one of the same write turns none of them out. -/
theorem find_linesWritten {t : Tab LineByte} (a : Nat) (l : List Byte) (ht : Tab.rising t = true) {j : Nat} {v : Byte} (hj : l[j]? = some v) :
    Tab.find (linesWritten t a l) (a + j) = some { val := v, dirty := true } := by
  induction l using List.reverseRecOn with
  | nil => cases hj
  | append_singleton l w ih =>
    rw [linesWritten_concat]
    by_cases hlast : j = l.length
    · subst hlast
      obtain rfl : w = v := by simpa using hj
      exact find_lineSet_same ..
    · have hlt : j < l.length := by
        have := (List.getElem?_eq_some_iff.mp hj).1
        simp only [List.length_append, List.length_singleton] at this
        omega
      rw [List.getElem?_append_left hlt] at hj
      exact find_lineSet_dirty _ _ (rising_linesWritten a l ht) (by omega) (ih hj) rfl

@[simp] theorem SwState.core'_modBar_same (w : SwState) (k : Nat) (f : BarCore → BarCore) : (w.modBar k f).core' k = f (w.core' k) := Tab.get_upd_same ..

theorem BarRun.lines_dramWrite (b : BarRun) (a : Nat) (l : List Byte) :
    ((b.dramWrite a l).s.core' b.k).lines = linesWritten (b.s.core' b.k).lines a l := by
  simp only [BarRun.dramWrite, SwState.core'_modBar_same, linesWritten]

/-! ### A flush -/

/-- Of bytes written one after another, a table whose keys rise leaves at each address its own. -/
theorem Memory.byte_foldl_setByte (t : Tab LineByte) (ht : Tab.rising t = true) (m : Memory) (a : Nat) :
    (t.foldl (fun (m : Memory) (e : Nat × LineByte) => m.setByte e.1 e.2.val) m).byte a = ((Tab.find t a).map (·.val)).getD (m.byte a) := by
  induction t generalizing m with
  | nil => rfl
  | cons e t ih =>
    obtain ⟨hn, ht⟩ := Tab.rising_cons ht
    rw [List.foldl_cons, ih ht]
    by_cases ha : e.1 = a
    · subst ha
      simp [Tab.find, hn]
    · simp [Tab.find, ha, Memory.byte_setByte_other m e.1 a e.2.val (Ne.symm ha)]

section
variable (w : SwState) (k lo hi a : Nat)

/-- A flush writes the dirty bytes of its range to DRAM, and no other. -/
theorem SwState.byte_flushLines (ht : Tab.rising (w.core' k).lines = true) :
    (w.flushLines k lo hi).dram.byte a =
      ((Tab.find (w.core' k).lines a).filter (fun l => l.dirty && decide (lo ≤ a) && decide (a < hi))).elim (w.dram.byte a) (·.val) := by
  rw [SwState.flushLines, SwState.modBar_dram, Memory.byte_foldl_setByte _ (Tab.rising_filter _ _ ht), Tab.find_filter _ ht]
  cases (Tab.find (w.core' k).lines a).filter (fun l => l.dirty && decide (lo ≤ a) && decide (a < hi)) <;> rfl

/-- A flush leaves no byte of its range dirty. -/
theorem SwState.flushLines_clean {l : LineByte} (hl : Tab.find ((w.flushLines k lo hi).core' k).lines a = some l) (hd : l.dirty = true) : a < lo ∨ hi ≤ a := by
  rw [SwState.flushLines, SwState.core'_modBar_same] at hl
  obtain ⟨e, -, he⟩ := List.mem_map.mp (Tab.mem_of_find hl)
  split at he
  case isTrue =>
    obtain ⟨-, rfl⟩ := Prod.mk.inj he
    cases hd
  case isFalse hout =>
    subst he
    simp only [hd, Bool.true_and, Bool.and_eq_true, decide_eq_true_eq] at hout
    omega

end

/-! ### Issuing -/

theorem State.issuing_eq_some {s : State} {k cx word : Nat} {b : BarRun} (h : s.issuing k cx word = some b) :
    s.heldPart .sw = false ∧ barUnit k cx = true ∧ s.sw.issuer k cx word = some b := by
  simpa [State.issuing, and_assoc] using h

/-- The context that issues a word is the one asked for. -/
theorem SwState.issuer_eq_some {w : SwState} {k cx word : Nat} {b : BarRun} (h : w.issuer k cx word = some b) : b.s = w ∧ b.k = k ∧ b.cx = cx := by
  simp only [SwState.issuer] at h
  split at h
  · cases h
  · split at h
    · cases h
    · obtain ⟨-, h⟩ := Option.ite_none_right_eq_some.mp h
      cases h
      exact ⟨rfl, rfl, rfl⟩

theorem SwState.issue_of_issuer {w : SwState} {k cx word : Nat} {b : BarRun} (f : BarRun → SwState) (h : w.issuer k cx word = some b) :
    w.issue k cx word f = f b.issued := by
  obtain ⟨rfl, rfl, rfl⟩ := SwState.issuer_eq_some h
  simp only [SwState.issue, h, BarRun.issued]

/-- A command that issues a word runs its instruction in the context that issues it. -/
theorem onSwIf_issue {s : State} {k cx word : Nat} {b : BarRun} (h : s.issuing k cx word = some b) (f : BarRun → SwState) :
    onSwIf (barUnit k cx) s (fun w => w.issue k cx word f) = .next (s.afterSw (f b.issued)) := by
  obtain ⟨hw, hu, hb⟩ := State.issuing_eq_some h
  rw [onSwIf_after s _ _ hw hu, SwState.issue_of_issuer f hb]

/-! ### How each instruction ends -/

section
variable (g : BarRun) (rd ra rb rn imm w : Nat)

section
variable (hw : w ∣ 2 ^ 32)
include hw

theorem BarRun.load_stop (h : g.addr ra imm % w ≠ 0 ∨ g.bytes w (g.addr ra imm % 2 ^ 32) = none) : g.load rd ra imm w = g.stop 1 := by
  simp only [BarRun.load, Nat.mod_mod_of_dvd _ hw]
  rcases h with h | h
  · exact if_pos h
  · rw [h]; exact ite_self _

theorem BarRun.load_bytes {l : List Byte} (ha : g.addr ra imm % w = 0) (hl : g.bytes w (g.addr ra imm % 2 ^ 32) = some l) :
    g.load rd ra imm w = g.alu rd (BitVec.ofNat 64 (leNat l)) := by
  simp only [BarRun.load, Nat.mod_mod_of_dvd _ hw, ha, hl, ne_eq, not_true_eq_false, if_false]

theorem BarRun.save_stop (h : g.addr ra imm % w ≠ 0 ∨ g.store (g.addr ra imm % 2 ^ 32) (leBytes (g.reg rd).toNat w) = none) :
    g.save rd ra imm w = g.stop 1 := by
  simp only [BarRun.save, Nat.mod_mod_of_dvd _ hw]
  rcases h with h | h
  · exact if_pos h
  · rw [h]; exact ite_self _

theorem BarRun.save_store {b : BarRun} (ha : g.addr ra imm % w = 0) (hb : g.store (g.addr ra imm % 2 ^ 32) (leBytes (g.reg rd).toNat w) = some b) :
    g.save rd ra imm w = b.next := by
  simp only [BarRun.save, Nat.mod_mod_of_dvd _ hw, ha, hb, ne_eq, not_true_eq_false, if_false]

end

section
variable {off n : Nat}

theorem BarRun.dramAt_inside (h : off + n ≤ g.r.dram.2.2) : g.dramAt off n = some (g.r.dram.1 * 2 ^ 36 + g.r.dram.2.1 + off) := if_pos h

theorem BarRun.dramAt_outside (h : g.r.dram.2.2 < off + n) : g.dramAt off n = none := if_neg (by omega)

end

/-- A misaligned doubleword, or one outside the range of the collective, has no DRAM address. -/
theorem BarRun.doubleword_none (h : g.addr ra imm % 8 ≠ 0 ∨ g.r.dram.2.2 < g.addr ra imm + 8) :
    (if g.addr ra imm % 8 = 0 then g.dramAt (g.addr ra imm) 8 else none) = none := by
  rcases h with h | h
  · exact if_neg h
  · rw [g.dramAt_outside h]; exact ite_self _

theorem BarRun.dld_stop (h : g.addr ra imm % 8 ≠ 0 ∨ g.r.dram.2.2 < g.addr ra imm + 8) : g.dld rd ra imm = g.stop 1 := by
  simp only [BarRun.dld, g.doubleword_none ra imm h]

theorem BarRun.dld_read (ha : g.addr ra imm % 8 = 0) (h : g.addr ra imm + 8 ≤ g.r.dram.2.2) :
    g.dld rd ra imm =
      (g.dramRead 8 (g.r.dram.1 * 2 ^ 36 + g.r.dram.2.1 + g.addr ra imm)).2.alu rd
        (BitVec.ofNat 64 (leNat (g.dramRead 8 (g.r.dram.1 * 2 ^ 36 + g.r.dram.2.1 + g.addr ra imm)).1)) := by
  simp only [BarRun.dld, ha, if_true, g.dramAt_inside h]

theorem BarRun.dst_stop (h : g.addr ra imm % 8 ≠ 0 ∨ g.r.dram.2.2 < g.addr ra imm + 8) : g.dst rd ra imm = g.stop 1 := by
  simp only [BarRun.dst, g.doubleword_none ra imm h]

theorem BarRun.dst_write (ha : g.addr ra imm % 8 = 0) (h : g.addr ra imm + 8 ≤ g.r.dram.2.2) :
    g.dst rd ra imm = (g.dramWrite (g.r.dram.1 * 2 ^ 36 + g.r.dram.2.1 + g.addr ra imm) (leBytes (g.reg rd).toNat 8)).next := by
  simp only [BarRun.dst, ha, if_true, g.dramAt_inside h]

theorem BarRun.flush_stop (h : g.r.dram.2.2 < (g.reg ra).toNat + (g.reg rb).toNat) : g.flush ra rb = g.stop 1 := by
  simp only [BarRun.flush, g.dramAt_outside h]

/-- A flush inside the collective's range, and on to the next word. -/
theorem BarRun.flush_lines (h : (g.reg ra).toNat + (g.reg rb).toNat ≤ g.r.dram.2.2) :
    let lo := g.r.dram.1 * 2 ^ 36 + g.r.dram.2.1 + (g.reg ra).toNat
    ∃ b : BarRun, g.flush ra rb = b.next ∧ b.s = g.s.flushLines g.k lo (lo + (g.reg rb).toNat) ∧ b.x = g.x := by
  simp only [BarRun.flush, g.dramAt_inside h]
  exact ⟨_, rfl, rfl, rfl⟩

/-! A copy inside local memory, to DRAM, and from it. -/

theorem BarRun.cpy_unread {mode : Nat} (hm : mode ≠ 2) (h : g.range (g.reg ra).toNat (g.reg rn).toNat = none) : g.cpy rd ra rn mode = g.stop 1 := by
  simp only [BarRun.cpy, hm, if_false, h]

section
variable {l : List Byte} (hl : g.range (g.reg ra).toNat (g.reg rn).toNat = some l)
include hl

theorem BarRun.cpy_local_stop (h : g.store ((g.reg rd).toNat % 2 ^ 32) l = none) : g.cpy rd ra rn 0 = g.stop 1 := by
  simp only [BarRun.cpy, OfNat.zero_ne_ofNat, zero_ne_one, if_false, hl, h]

theorem BarRun.cpy_local_store {b : BarRun} (h : g.store ((g.reg rd).toNat % 2 ^ 32) l = some b) : g.cpy rd ra rn 0 = b.next := by
  simp only [BarRun.cpy, OfNat.zero_ne_ofNat, zero_ne_one, if_false, hl, h]

theorem BarRun.cpy_out_stop (h : g.r.dram.2.2 < (g.reg rd).toNat + (g.reg rn).toNat) : g.cpy rd ra rn 1 = g.stop 1 := by
  simp [BarRun.cpy, hl, g.dramAt_outside h]

theorem BarRun.cpy_out_write (h : (g.reg rd).toNat + (g.reg rn).toNat ≤ g.r.dram.2.2) :
    g.cpy rd ra rn 1 = (g.dramWrite (g.r.dram.1 * 2 ^ 36 + g.r.dram.2.1 + (g.reg rd).toNat) l).next := by
  simp [BarRun.cpy, hl, g.dramAt_inside h]

end

theorem BarRun.cpy_in_stop (h : g.r.dram.2.2 < (g.reg ra).toNat + (g.reg rn).toNat ∨ padBytes < (g.reg rn).toNat) : g.cpy rd ra rn 2 = g.stop 1 := by
  simp only [BarRun.cpy, if_true]
  rcases lt_or_ge g.r.dram.2.2 ((g.reg ra).toNat + (g.reg rn).toNat) with ho | hi
  · rw [g.dramAt_outside ho]
  · rw [g.dramAt_inside hi]; exact if_pos (h.resolve_left hi.not_gt)

section
variable (hi : (g.reg ra).toNat + (g.reg rn).toNat ≤ g.r.dram.2.2) (hp : (g.reg rn).toNat ≤ padBytes)
  {read : List Byte × BarRun} (hr : g.dramRead (g.reg rn).toNat (g.r.dram.1 * 2 ^ 36 + g.r.dram.2.1 + (g.reg ra).toNat) = read)
include hi hp hr

theorem BarRun.cpy_in_unstored (h : read.2.store ((g.reg rd).toNat % 2 ^ 32) read.1 = none) : g.cpy rd ra rn 2 = g.stop 1 := by
  simp only [BarRun.cpy, if_true, g.dramAt_inside hi, hp.not_gt, if_false, hr, h]

theorem BarRun.cpy_in_store {b : BarRun} (h : read.2.store ((g.reg rd).toNat % 2 ^ 32) read.1 = some b) : g.cpy rd ra rn 2 = b.next := by
  simp only [BarRun.cpy, if_true, g.dramAt_inside hi, hp.not_gt, if_false, hr, h]

end

end

/-! ### The statement's parts -/

section
variable {s : State} {k cx : Nat} {b : BarRun}

theorem exec_load {rd ra imm width major : Nat} {i : Instr} (h : s.issuing k cx (wordI major rd ra imm) = some b)
    (hi : i = .barLd k cx rd ra imm ∧ major = 0x10 ∧ width = 8 ∨ i = .barLw k cx rd ra imm ∧ major = 0x11 ∧ width = 4) :
    width ∣ 2 ^ 32 ∧ exec i s = .next (s.afterSw (b.issued.load rd ra imm width)) := by
  rcases hi with ⟨rfl, rfl, rfl⟩ | ⟨rfl, rfl, rfl⟩
  · exact ⟨by decide, onSwIf_issue h _⟩
  · exact ⟨by decide, onSwIf_issue h _⟩

theorem exec_save {rd ra imm width major : Nat} {i : Instr} (h : s.issuing k cx (wordI major rd ra imm) = some b)
    (hi : i = .barSt k cx rd ra imm ∧ major = 0x12 ∧ width = 8 ∨ i = .barSw k cx rd ra imm ∧ major = 0x13 ∧ width = 4) :
    width ∣ 2 ^ 32 ∧ exec i s = .next (s.afterSw (b.issued.save rd ra imm width)) := by
  rcases hi with ⟨rfl, rfl, rfl⟩ | ⟨rfl, rfl, rfl⟩
  · exact ⟨by decide, onSwIf_issue h _⟩
  · exact ⟨by decide, onSwIf_issue h _⟩

theorem exec_barDld_issued {rd ra imm : Nat} (h : s.issuing k cx (wordI 0x14 rd ra imm) = some b) :
    exec (.barDld k cx rd ra imm) s = .next (s.afterSw (b.issued.dld rd ra imm)) := onSwIf_issue h _

theorem exec_barDst_issued {rd ra imm : Nat} (h : s.issuing k cx (wordI 0x15 rd ra imm) = some b) :
    exec (.barDst k cx rd ra imm) s = .next (s.afterSw (b.issued.dst rd ra imm)) := onSwIf_issue h _

theorem exec_barFlush_issued {rd ra rb : Nat} (h : s.issuing k cx (wordA 0x16 rd ra rb 0) = some b) :
    exec (.barFlush k cx rd ra rb) s = .next (s.afterSw (b.issued.flush ra rb)) := onSwIf_issue h _

theorem exec_barCpy_issued {rd ra rb rn mode : Nat} (h : s.issuing k cx (wordV 0x18 rd ra rb rn mode) = some b) :
    exec (.barCpy k cx rd ra rb rn mode) s = .next (s.afterSw (b.issued.cpy rd ra rn mode)) := onSwIf_issue h _

/-- A copy inside local memory: CPY of mode 0, or VMOV. -/
theorem exec_copy_local {rd ra rb rn mode : Nat} {i : Instr}
    (hi : i = .barCpy k cx rd ra rb rn mode ∧ s.issuing k cx (wordV 0x18 rd ra rb rn mode) = some b ∧ mode = 0 ∨
      i = .barVmov k cx rd ra rb rn mode ∧ s.issuing k cx (wordV 0x26 rd ra rb rn mode) = some b) :
    exec i s = .next (s.afterSw (b.issued.cpy rd ra rn 0)) := by
  rcases hi with ⟨rfl, h, rfl⟩ | ⟨rfl, h⟩
  · exact exec_barCpy_issued h
  · exact onSwIf_issue h _

end

/-- Settles O49: what a write and a flush leave of lines and DRAM, and then each instruction, run in the context that issues it, by the lemmas on how it ends;
issuing leaves that context its registers and its collective. -/
theorem loadsAndStoresReachTheirMemory : Obligations.LoadsAndStoresReachTheirMemory := by
  unfold Obligations.LoadsAndStoresReachTheirMemory
  refine ⟨?written, ?flushed, ?scalar, ?whole, ?inside, ?out, ?into⟩
  case written =>
    intro b a l j v hj ht
    rw [BarRun.lines_dramWrite]
    exact find_linesWritten a l ht hj
  case flushed =>
    intro w k lo hi a ht
    refine ⟨?_, rfl, rfl, fun l hl hd => w.flushLines_clean k lo hi a hl hd⟩
    rw [w.byte_flushLines k lo hi a ht]
    cases Tab.find (w.core' k).lines a with
    | none => rfl
    | some l => simp only [Option.filter_some, Bool.and_eq_true, decide_eq_true_eq, and_assoc]; split <;> rfl
  case scalar =>
    intro s k cx rd ra imm width major b i h
    refine ⟨fun hi => ?load, fun hi => ?store, ?dld, ?dst⟩
    case load =>
      obtain ⟨hw, run⟩ := exec_load h hi
      rw [run]
      exact ⟨fun bad => by rw [b.issued.load_stop rd ra imm width hw bad], fun l ha hl => by rw [b.issued.load_bytes rd ra imm width hw ha hl]⟩
    case store =>
      obtain ⟨hw, run⟩ := exec_save h hi
      rw [run]
      exact ⟨fun bad => by rw [b.issued.save_stop rd ra imm width hw bad], fun c ha hc => by rw [b.issued.save_store rd ra imm width hw ha hc]⟩
    case dld =>
      rintro rfl rfl
      rw [exec_barDld_issued h]
      exact ⟨fun bad => by rw [b.issued.dld_stop rd ra imm bad], fun ha hin => by rw [b.issued.dld_read rd ra imm ha hin]; rfl⟩
    case dst =>
      rintro rfl rfl
      rw [exec_barDst_issued h]
      exact ⟨fun bad => by rw [b.issued.dst_stop rd ra imm bad], fun ha hin => by rw [b.issued.dst_write rd ra imm ha hin]; rfl⟩
  case whole =>
    intro s k cx rd ra rb b
    refine ⟨fun h => ?_, fun h => onSwIf_issue h _, fun h => onSwIf_issue h _⟩
    rw [exec_barFlush_issued h]
    refine ⟨fun bad => by rw [b.issued.flush_stop ra rb bad], fun hin => ?_⟩
    obtain ⟨c, run, lines, ctx⟩ := b.issued.flush_lines ra rb hin
    exact ⟨c, by rw [run], lines, ctx⟩
  case inside =>
    intro s k cx rd ra rb rn mode b i hi
    rw [exec_copy_local hi]
    refine ⟨fun bad => by rw [b.issued.cpy_unread rd ra rn (by decide) bad], fun l hl => ⟨fun bad => ?_, fun c hc => ?_⟩⟩
    · rw [b.issued.cpy_local_stop rd ra rn hl bad]
    · rw [b.issued.cpy_local_store rd ra rn hl hc]
  case out =>
    intro s k cx rd ra rb rn b h
    rw [exec_barCpy_issued h]
    refine ⟨fun l hl => ⟨fun hin => ?_, fun bad => ?_⟩, fun bad => by rw [b.issued.cpy_unread rd ra rn (by decide) bad]⟩
    · rw [b.issued.cpy_out_write rd ra rn hl hin]; rfl
    · rw [b.issued.cpy_out_stop rd ra rn hl bad]
  case into =>
    intro s k cx rd ra rb rn b h
    rw [exec_barCpy_issued h]
    refine ⟨fun bad => by rw [b.issued.cpy_in_stop rd ra rn bad], fun hin hp => ⟨fun bad => ?_, fun c hc => ?_⟩⟩
    · rw [b.issued.cpy_in_unstored rd ra rn hin hp rfl bad]
    · rw [b.issued.cpy_in_store rd ra rn hin hp rfl hc]

end Sys2Proof.Machine
end

section
/-!
PROOF. Copy engines: what a change of one engine leaves of the rest, how each command moves an engine (Table 5.5), and how a finished descriptor leaves (R192, R223 to R225).
-/

namespace Sys2Proof.Machine

/-! ### What a change of an engine leaves -/

@[simp] theorem EpState.ce_modCe_same (e : EpState) (n : Nat) (f : CopyEngine → CopyEngine) : (e.modCe n f).ce n = f (e.ce n) := Tab.get_upd_same _ _ _ _

theorem EpState.ce_modCe_other (e : EpState) (n m : Nat) (f : CopyEngine → CopyEngine) (h : m ≠ n) : (e.modCe n f).ce m = e.ce m := Tab.get_upd_other _ _ _ _ _ h

@[simp] theorem EpState.ce_mod (e : EpState) (f : Common → Common) (n : Nat) : (e.mod f).ce n = e.ce n := rfl

@[simp] theorem EpState.ce_mwrBytes (e : EpState) (purp : Purp) (a : Nat) (bs : List Byte) (n : Nat) : (e.mwrBytes purp a bs).ce n = e.ce n := rfl

/-- Asking for a masked write of bytes leaves everything but the host attachment, and puts one access last. -/
theorem EpState.mwrBytes_asks (e : EpState) (purp : Purp) (a : Nat) (bs : List Byte) :
    ∃ x : Ereq, (e.mwrBytes purp a bs).lha.ereqs = e.lha.ereqs ++ [x] ∧ x.mop = 0x23 ∧ x.addr = a / 64 * 64 % 2 ^ 64 ∧
      x.data = (lineWith (a % 64) bs).1 ++ beBytes ((lineWith (a % 64) bs).2 % 2 ^ 64 * 2 ^ 64) 16 :=
  ⟨{ id := e.lha.nextEreq, purp := purp, mop := 0x23, addr := a / 64 * 64 % 2 ^ 64, len := 5, data := _ }, rfl, rfl, rfl, rfl⟩

/-! ### Each command acts through its function -/

section
variable (s : State) (n : Nat) (hw : s.heldPart .ep = false) (hn : n < 32)
include hw hn

theorem exec_ceEnable_after : exec (.ceEnable n) s = .next (s.afterEp (s.ep.ceEnable n)) := (exec_ceEnable _ _).trans (onEpIf_after s _ _ hw (decide_eq_true hn))
theorem exec_ceDisable_after : exec (.ceDisable n) s = .next (s.afterEp (s.ep.ceDisable n)) := (exec_ceDisable _ _).trans (onEpIf_after s _ _ hw (decide_eq_true hn))
theorem exec_ceResume_after : exec (.ceResume n) s = .next (s.afterEp (s.ep.ceResume n)) := (exec_ceResume _ _).trans (onEpIf_after s _ _ hw (decide_eq_true hn))
theorem exec_ceAbort_after : exec (.ceAbort n) s = .next (s.afterEp (s.ep.ceAbort n)) := (exec_ceAbort _ _).trans (onEpIf_after s _ _ hw (decide_eq_true hn))
theorem exec_ceDoorbell_after (v : Nat) : exec (.ceDoorbell n v) s = .next (s.afterEp (s.ep.ceDoorbell n v)) :=
  (exec_ceDoorbell _ _ _).trans (onEpIf_after s _ _ hw (decide_eq_true hn))
theorem exec_ceCompletion_after : exec (.ceCompletion n) s = .next (s.afterEp ((s.ep.ceRefused n).ceRecord n)) :=
  (exec_ceCompletion _ _).trans (onEpIf_after s _ _ hw (decide_eq_true hn))

end

/-! ### Enabled, disabled, resumed -/

section
variable (e : EpState) (n : Nat)

theorem EpState.ceEnable_ce : (e.ceEnable n).ce n = { e.ce n with st := if (e.ce n).st = .disabled then .idle else (e.ce n).st } := by
  rw [EpState.ceEnable, EpState.ce_modCe_same, EpState.ce_mod]
  split <;> rfl

theorem EpState.ceResume_ce : (e.ceResume n).ce n = { e.ce n with st := if (e.ce n).st = .faulted then .running else (e.ce n).st } := by
  rw [EpState.ceResume, EpState.ce_modCe_same]
  split <;> rfl

theorem EpState.ceDisable_disabled (h : (e.ce n).st = .disabled) : e.ceDisable n = e.mod (fun c => c.wrF (ceA n 0) 0 0 0) := by
  simp only [EpState.ceDisable, h]

theorem EpState.ceDisable_idle (h : (e.ce n).st = .idle) :
    e.ceDisable n = (e.mod (fun c => c.wrF (ceA n 0) 0 0 0)).modCe n (fun c => { c with st := .disabled }) := by
  simp only [EpState.ceDisable, h]

theorem EpState.ceDisable_busy (h : (e.ce n).st = .running ∨ (e.ce n).st = .faulted ∨ (e.ce n).st = .aborting) :
    e.ceDisable n = (e.mod (fun c => c.wrF (ceA n 0) 0 0 0)).ceAborting n true := by
  rcases h with h | h | h <;> simp only [EpState.ceDisable, h]

theorem EpState.ceAbort_rest (hr : (e.ce n).st ≠ .running) (hf : (e.ce n).st ≠ .faulted) : e.ceAbort n = e := by
  unfold EpState.ceAbort
  split
  case h_1 h => exact absurd h hr
  case h_2 h => exact absurd h hf
  case h_3 => rfl

theorem EpState.ceAbort_busy (h : (e.ce n).st = .running ∨ (e.ce n).st = .faulted) : e.ceAbort n = e.ceAborting n false := by
  rcases h with h | h <;> simp only [EpState.ceAbort, h]

end

/-! ### An engine enters ABORTING -/

/-- A descriptor as ABORTING finds it: one that is not finished has issued all it will, and is ABORTED unless it has a code. -/
def CeJob.aborted (j : CeJob) : CeJob := if j.finished then j else { j with started := true, issuedAll := true, code := if j.code = 0 then 5 else j.code }

/-- A request was issued for a descriptor of its engine. -/
def SrcReq.ofJob (r : SrcReq) (i : Nat) : Bool :=
  match r.cont with
  | .store _ k => k == i
  | .atomic _ k => k == i
  | .back _ k _ => k == i
  | _ => false

/-- An access was asked for by a descriptor of an engine. -/
def Ereq.ofJob (x : Ereq) (n i : Nat) : Bool :=
  match x.purp with
  | .localWrite f k => f == n && k == i
  | .opWrite f k => f == n && k == i
  | .qRead f k _ _ => f == n && k == i
  | .backRead f k _ => f == n && k == i
  | _ => false

/-- Requests and accesses of a descriptor that an abort of its engine still waits for: a request that has not been sent is waited for no longer. -/
def EpState.abortLeft (e : EpState) (n i : Nat) : Nat :=
  ((e.src.reqs.filter (fun r => !(r.engine == n && r.st == .issued))).filter (fun r => r.engine == n && r.ofJob i)).length + (e.lha.ereqs.filter (fun x => x.ofJob n i)).length

/-- An access that a descriptor asked for is of its engine. -/
theorem Ereq.ofJob_ofEngine (x : Ereq) (n i : Nat) (h : x.ofJob n i = true) : x.ofEngine n = true := by
  unfold Ereq.ofJob at h
  unfold Ereq.ofEngine
  split at h
  case h_5 => exact absurd h Bool.false_ne_true
  all_goals
    simp only [Bool.and_eq_true] at h
    simp_all

/-- Where all that an engine has outstanding is unsent, its descriptors wait for nothing. -/
theorem EpState.abortLeft_zero (e : EpState) (n i : Nat) (hr : ∀ r, r ∈ e.src.reqs → r.engine ≠ n ∨ r.st = .issued) (hx : ∀ x, x ∈ e.lha.ereqs → x.ofEngine n = false) :
    e.abortLeft n i = 0 := by
  have reqs : (e.src.reqs.filter (fun r => !(r.engine == n && r.st == .issued))).filter (fun r => r.engine == n && r.ofJob i) = [] := by
    refine List.filter_eq_nil_iff.mpr fun r h => ?_
    obtain ⟨h, k⟩ := List.mem_filter.mp h
    rcases hr r h with h | h <;> simp_all
  have ereqs : e.lha.ereqs.filter (fun x => x.ofJob n i) = [] :=
    List.filter_eq_nil_iff.mpr fun x h k => absurd (x.ofJob_ofEngine n i k) (by simp [hx x h])
  simp only [EpState.abortLeft, reqs, ereqs, List.length_nil]

section
variable (e : EpState) (n : Nat) (off : Bool)

theorem EpState.ceAborting_ce : (e.ceAborting n off).ce n =
    { e.ce n with
      st := .aborting, toDisabled := off || ((e.ce n).toDisabled && (e.ce n).st == .aborting),
      jobs := (e.ce n).jobs.map (fun j => { j.aborted with left := e.abortLeft n j.aborted.idx }) } := by
  simp only [EpState.ceAborting, EpState.ce_modCe_same, List.map_map]
  rfl

theorem EpState.ceAborting_ce_other (m : Nat) (h : m ≠ n) : (e.ceAborting n off).ce m = e.ce m := by
  simp only [EpState.ceAborting, EpState.ce_modCe_other _ _ _ _ h]
  rfl

theorem EpState.ceAborting_src : (e.ceAborting n off).src =
    { e.src with reqs := e.src.reqs.filter (fun r => !(r.engine == n && r.st == .issued)), fences := e.src.fences.filter (fun f => f.engine != n) } := rfl
theorem EpState.ceAborting_pieces : (e.ceAborting n off).pieces = e.pieces.filter (fun p => p.engine != n) := rfl
theorem EpState.ceAborting_lha : (e.ceAborting n off).lha = e.lha := rfl
theorem EpState.ceAborting_c : (e.ceAborting n off).c = e.c := rfl

end

/-- What `t` shows of an engine of `e` that has entered ABORTING, toward DISABLED where `off`. -/
def EpState.Aborted (e t : EpState) (n : Nat) (off : Bool) : Prop :=
  (t.ce n).st = .aborting ∧ (t.ce n).toDisabled = off ∧ (t.ce n).prod = (e.ce n).prod ∧ (t.ce n).cons = (e.ce n).cons ∧
  (∀ k : Nat, (t.ce n).jobs[k]?.map (fun j => { j with left := 0 }) =
    (e.ce n).jobs[k]?.map (fun j => if j.finished = true then { j with left := 0 } else { j with started := true, issuedAll := true, code := if j.code = 0 then 5 else j.code, left := 0 })) ∧
  ((∀ r, r ∈ e.src.reqs → r.engine ≠ n ∨ r.st = .issued) → (∀ x, x ∈ e.lha.ereqs → x.ofEngine n = false) → ∀ j, j ∈ (t.ce n).jobs → j.left = 0) ∧
  t.src = { e.src with reqs := e.src.reqs.filter (fun r => !(r.engine == n && r.st == .issued)), fences := e.src.fences.filter (fun f => f.engine != n) } ∧
  t.pieces = e.pieces.filter (fun p => p.engine != n) ∧ t.lha = e.lha ∧ (∀ m, m ≠ n → t.ce m = e.ce m) ∧ t.c = e.c

/-- An engine aborts toward DISABLED where it is told to, or where it did so already. -/
theorem EpState.ceAborting_aborted (e : EpState) (n : Nat) (off : Bool) (h : off = true ∨ (e.ce n).st ≠ .aborting) : e.Aborted (e.ceAborting n off) n off := by
  have toDisabled : (off || ((e.ce n).toDisabled && (e.ce n).st == .aborting)) = off := by
    rcases h with rfl | h
    · rfl
    · simp [h]
  refine ⟨?_, ?_, ?_, ?_, fun k => ?_, fun hr hx j hj => ?_, rfl, rfl, rfl, e.ceAborting_ce_other n off, rfl⟩ <;> rw [e.ceAborting_ce n off] at *
  case refine_2 => exact toDisabled
  case refine_5 =>
    simp only [List.getElem?_map, Option.map_map]
    refine congrArg (fun f => ((e.ce n).jobs[k]?).map f) (funext fun j => ?_)
    simp only [Function.comp_apply, CeJob.aborted]
    split <;> rfl
  case refine_6 =>
    obtain ⟨j, -, rfl⟩ := List.mem_map.mp hj
    exact e.abortLeft_zero n _ hr hx

/-! ### Doorbells -/

section
variable (e : EpState) (n v : Nat)

theorem EpState.ceDoorbell_disabled (h : (e.ce n).st = .disabled) : e.ceDoorbell n v = e := if_pos h

variable (h : (e.ce n).st ≠ .disabled)
include h

theorem EpState.ceDoorbell_overrun (ho : ringSlots (e.c.rf' (ceA n 0) 20 16) < (v + 2 ^ 32 - (e.ce n).cons) % 2 ^ 32) :
    e.ceDoorbell n v = e.mod (fun c => c.event (ceA n 0x2C) 0xFF00) :=
  (if_neg h).trans (if_pos ho)

theorem EpState.ceDoorbell_taken (ho : (v + 2 ^ 32 - (e.ce n).cons) % 2 ^ 32 ≤ ringSlots (e.c.rf' (ceA n 0) 20 16)) :
    e.ceDoorbell n v = e.modCe n (fun c =>
      { c with prod := v % 2 ^ 32,
               st := if c.st = .idle ∧ ((e.ce n).prod + 2 ^ 32 - (e.ce n).cons) % 2 ^ 32 < (v + 2 ^ 32 - (e.ce n).cons) % 2 ^ 32 then .running else c.st }) :=
  (if_neg h).trans (if_neg (Nat.not_lt.mpr ho))

end

/-! ### Measurement slots -/

section
variable (e : EpState) (j : CeJob)

theorem EpState.measure_none (h : j.measured = false ∨ (Tab.get e.meas {} (j.f 3 1 % 16)).frozen = true) : e.measure j = e :=
  if_pos (by simpa using h)

variable (hm : j.measured = true) (hf : (Tab.get e.meas {} (j.f 3 1 % 16)).frozen = false)
include hm hf

theorem EpState.measure_breaks (h : j.final ≠ 0) : (e.measure j).meas = Tab.upd e.meas {} (j.f 3 1 % 16) (fun x => { x with broken := true }) :=
  congrArg EpState.meas ((if_neg (by rw [hm, hf]; decide)).trans (if_neg h))

theorem EpState.measure_extends (h : j.final = 0) :
    (e.measure j).meas = Tab.upd e.meas {} (j.f 3 1 % 16) (fun x =>
      { x with digest := sha384 (x.digest ++ sha384 (j.hash.flatMap (·.2))), count := x.count + 1,
               bytes := x.bytes + (if j.op = 1 ∨ j.op = 2 then j.rows * j.rowBytes else (j.hash.flatMap (·.2)).length) }) :=
  congrArg EpState.meas ((if_neg (by rw [hm, hf]; decide)).trans (if_pos h))

end

/-- Measuring touches the slots alone. -/
theorem EpState.measure_eq (e : EpState) (j : CeJob) : e.measure j = { e with meas := (e.measure j).meas } := by
  unfold EpState.measure
  dsimp only
  split
  · rfl
  · split <;> rfl

@[simp] theorem EpState.ce_measure (e : EpState) (j : CeJob) (n : Nat) : (e.measure j).ce n = e.ce n := by rw [e.measure_eq j]; rfl

/-- Measuring leaves every slot but the descriptor's own. -/
theorem EpState.measure_other (e : EpState) (j : CeJob) (k : Nat) (h : k ≠ j.f 3 1 % 16) : Tab.get (e.measure j).meas {} k = Tab.get e.meas {} k := by
  by_cases hs : j.measured = false ∨ (Tab.get e.meas {} (j.f 3 1 % 16)).frozen = true
  · rw [e.measure_none j hs]
  · obtain ⟨hm, hf⟩ := not_or.mp hs
    have hm := Bool.eq_true_of_not_eq_false hm
    have hf := Bool.eq_false_of_not_eq_true hf
    by_cases h0 : j.final = 0
    · rw [e.measure_extends j hm hf h0]
      exact Tab.get_upd_other _ _ _ _ _ h
    · rw [e.measure_breaks j hm hf h0]
      exact Tab.get_upd_other _ _ _ _ _ h

theorem EpState.measClose_same (e : EpState) (m : Nat) : Tab.get (e.measClose m).meas {} m = { Tab.get e.meas {} m with opened := false, frozen := true } := by
  rw [EpState.measClose, Tab.get_upd_same]

theorem EpState.measClose_other (e : EpState) (m k : Nat) (h : k ≠ m) : Tab.get (e.measClose m).meas {} k = Tab.get e.meas {} k := by
  rw [EpState.measClose, Tab.get_upd_other _ _ _ _ _ h]

/-! ### Completion -/

/-- A failed descriptor, and one whose FLAGS ask for it, owes a record (R192). -/
theorem CeJob.owesRecord (j : CeJob) (h : j.final ≠ 0 ∨ j.flag 0 = true) : ¬(j.final = 0 ∧ (!j.flag 0) = true) := by
  rintro ⟨h0, hf⟩
  rcases h with h | h
  · exact h h0
  · simp [h] at hf

section
variable (e : EpState) (n : Nat)

theorem EpState.ceRefused_nil (h : (e.ce n).jobs = []) : e.ceRefused n = e := by simp only [EpState.ceRefused, h]

theorem EpState.ceRecord_nil (h : (e.ce n).jobs = []) : e.ceRecord n = e := by simp only [EpState.ceRecord, h]

variable (j : CeJob) (rest : List CeJob) (h : (e.ce n).jobs = j :: rest)
include h

theorem EpState.ceRefused_stops (hd : j.finished = true) (h0 : j.final = 0) (hs : e.slotOk n j = false) : e.ceRefused n = e.ceStop n j.idx 7 0 := by
  simp [EpState.ceRefused, h, hd, h0, hs]

theorem EpState.ceRefused_passes (hp : j.finished = false ∨ j.final ≠ 0 ∨ e.slotOk n j = true) : e.ceRefused n = e := by
  simp only [EpState.ceRefused, h]
  refine if_neg ?_
  rcases hp with hp | hp | hp <;> simp [hp]

theorem EpState.ceRecord_waits (hd : j.finished = false) : e.ceRecord n = e := by simp [EpState.ceRecord, h, hd]

variable (hd : j.finished = true)
include hd

theorem EpState.ceRecord_silent (h0 : j.final = 0) (hr : j.flag 0 = false) : e.ceRecord n = (e.measure j).modCe n (fun c => { c with jobs := rest }) := by
  simp [EpState.ceRecord, h, hd, h0, hr]

variable (hr : j.final ≠ 0 ∨ j.flag 0 = true)
include hr

/-- A descriptor that owes a record waits where the ring is full. -/
theorem EpState.ceRecord_full (hf : ringSlots (fld (e.c.rd (ceA n 0)) 28 24) ≤ ((e.ce n).cplProd + 2 ^ 32 - (e.c.rd (ceA n 0x24)).toNat) % 2 ^ 32) : e.ceRecord n = e := by
  simp only [EpState.ceRecord, h, hd, Bool.not_true, Bool.false_eq_true, if_false, if_neg (j.owesRecord hr), if_pos hf]

/-- A descriptor that owes a record writes it where the ring has room. -/
theorem EpState.ceRecord_writes (hf : ((e.ce n).cplProd + 2 ^ 32 - (e.c.rd (ceA n 0x24)).toNat) % 2 ^ 32 < ringSlots (fld (e.c.rd (ceA n 0)) 28 24)) :
    let prod := (e.ce n).cplProd
    let size := ringSlots (fld (e.c.rd (ceA n 0)) 28 24)
    e.ceRecord n =
      ((e.measure j).modCe n (fun c => { c with jobs := rest, cplProd := (c.cplProd + 1) % 2 ^ 32 })).mwrBytes (.cpl n (j.flag 1) (j.final + 256 * ((prod + 1) % 2 ^ 32)))
        ((e.c.rd (ceA n 0x14)).toNat * 2 ^ 32 + fld (e.c.rd (ceA n 0x10)) 31 12 * 4096 + prod % size * 32) (j.record (prod / size % 2)) := by
  simp only [EpState.ceRecord, h, hd, Bool.not_true, Bool.false_eq_true, if_false, if_neg (j.owesRecord hr), if_neg (Nat.not_le.mpr hf)]

end

/-- Settles O42: what each command makes of an engine, of its descriptors and of a measurement slot is said above. -/
theorem engineStatesFollowTheirTable : Obligations.EngineStatesFollowTheirTable := by
  refine ⟨?states, ?doorbells, ?measured, ?records, ?slots⟩
  case states =>
    intro s n hw hn g en
    refine ⟨⟨_, exec_ceEnable_after s n hw hn, s.ep.ceEnable_ce n, fun m => (s.ep.mod _).ce_modCe_other n m _, rfl, rfl⟩,
      ⟨_, exec_ceResume_after s n hw hn, s.ep.ceResume_ce n, fun m => s.ep.ce_modCe_other n m _, rfl, rfl⟩, fun h => ?_, fun h => ?_, fun hr hf => ?_, ?_⟩
    · rw [exec_ceDisable_after s n hw hn, s.ep.ceDisable_disabled n h]
      rfl
    · rw [exec_ceDisable_after s n hw hn, s.ep.ceDisable_idle n h]
      exact ⟨_, rfl, EpState.ce_modCe_same _ _ _, fun m => (s.ep.mod _).ce_modCe_other n m _, rfl, rfl⟩
    · rw [exec_ceAbort_after s n hw hn, s.ep.ceAbort_rest n hr hf]
    · rintro i off (⟨rfl, rfl, h⟩ | ⟨rfl, rfl, h⟩)
      · rw [exec_ceDisable_after s n hw hn, s.ep.ceDisable_busy n h]
        exact ⟨_, rfl, (s.ep.mod (fun c => c.wrF (ceA n 0) 0 0 0)).ceAborting_aborted n true (.inl rfl)⟩
      · rw [exec_ceAbort_after s n hw hn, s.ep.ceAbort_busy n h]
        exact ⟨_, rfl, s.ep.ceAborting_aborted n false (.inr fun ha => by rcases h with h | h <;> exact absurd (h.symm.trans ha) (by decide))⟩
  case doorbells =>
    intro s n v hw hn g ahead had room
    rw [exec_ceDoorbell_after s n hw hn]
    refine ⟨fun h => ?_, fun h ho => ?_, fun h ho => ⟨_, rfl, ?_⟩⟩
    · rw [s.ep.ceDoorbell_disabled n v h]
    · rw [s.ep.ceDoorbell_overrun n v h ho]
      rfl
    · rw [s.ep.ceDoorbell_taken n v h ho]
      exact ⟨EpState.ce_modCe_same _ _ _, fun m => s.ep.ce_modCe_other n m _, rfl, rfl, rfl⟩
  case measured =>
    intro e n
    refine ⟨e.ceRefused_nil n, fun j rest h => ⟨e.ceRefused_stops n j rest h, e.ceRefused_passes n j rest h⟩, fun j => ⟨e.measure_none j, fun hm hf => ⟨e.measure_eq j, e.measure_other j, fun h => ?_, fun h => ?_⟩⟩⟩
    · rw [e.measure_breaks j hm hf h]
      exact Tab.get_upd_same _ _ _ _
    · rw [e.measure_extends j hm hf h]
      exact Tab.get_upd_same _ _ _ _
  case records =>
    intro s n hw hn e g
    rw [exec_ceCompletion_after s n hw hn]
    refine ⟨fun h => ?_, fun j rest h => ⟨fun hd => ?_, fun hd h0 hr => ?_, fun hd hr => ?_⟩⟩
    · rw [e.ceRecord_nil n h]
    · rw [e.ceRecord_waits n j rest h hd]
    · rw [e.ceRecord_silent n j rest h hd h0 hr]
    · intro size used at_ line
      refine ⟨fun hf => ?_, fun hf => ⟨_, rfl, ?_⟩⟩
      · rw [e.ceRecord_full n j rest h hd hr hf]
      · rw [e.ceRecord_writes n j rest h hd hr hf]
        refine ⟨?_, fun m hm => ?_, rfl, ?_, ?_, ?_⟩
        · rw [EpState.ce_mwrBytes, EpState.ce_modCe_same, EpState.ce_measure]
        · rw [EpState.ce_mwrBytes, EpState.ce_modCe_other _ _ _ _ hm, EpState.ce_measure]
        all_goals rw [e.measure_eq j]
        · rfl
        · rfl
        · exact EpState.mwrBytes_asks _ _ _ _
  case slots =>
    intro s slot v hw hn
    exact ⟨⟨_, (exec_measSlotOpen _ _ _).trans (onEpIf_after s _ _ hw (decide_eq_true hn)), Tab.get_put_same _ _ _ _, fun m hm => Tab.get_put_other _ _ _ _ _ hm, rfl⟩,
      _, (exec_measSlotClose _ _).trans (onEpIf_after s _ _ hw (decide_eq_true hn)), s.ep.measClose_same slot, s.ep.measClose_other slot, rfl⟩

end Sys2Proof.Machine
end

section
/-!
PROOF. Descriptors of copy engines: how a copy is cut into reads and writes (R189), what stops an engine (R193), and how the six commands start the next descriptor (R188 to R191, R219, R222, R223).
-/

namespace Sys2Proof.Machine

/-! ### Cutting a copy -/

/-- Runs of a range, as first place and length: from `a` on they follow one another, cover `n` places, and each is as `P` says. -/
def FollowOn (P : Nat × Nat → Prop) : Nat → Nat → List (Nat × Nat) → Prop
  | _, n, [] => n = 0
  | a, n, u :: us => u.1 = a ∧ P u ∧ u.2 ≤ n ∧ FollowOn P (a + u.2) (n - u.2) us

theorem FollowOn.covers {P : Nat × Nat → Prop} (us : List (Nat × Nat)) (a n : Nat) (h : FollowOn P a n us) :
    (us.map (·.2)).foldl (· + ·) 0 = n ∧ ∀ (i : Nat) (u : Nat × Nat), us[i]? = some u → u.1 = a + ((us.take i).map (·.2)).foldl (· + ·) 0 ∧ P u := by
  simp only [← List.sum_eq_foldl]
  induction us generalizing a n with
  | nil => exact ⟨h.symm, fun i u hu => by simp at hu⟩
  | cons v us ih =>
    obtain ⟨hv, hp, hn, h⟩ := h
    obtain ⟨sum, at_⟩ := ih _ _ h
    refine ⟨by simp only [List.map_cons, List.sum_cons, sum]; omega, fun i u hu => ?_⟩
    cases i with
    | zero =>
      obtain rfl : v = u := by simpa using hu
      exact ⟨by simpa using hv, hp⟩
    | succ i =>
      obtain ⟨hu, hp⟩ := at_ i u (by simpa using hu)
      exact ⟨by simp only [List.take_succ_cons, List.map_cons, List.sum_cons, hu]; omega, hp⟩

/-- A unit of a destination: whole lines, at most four, or part of one line (R189). -/
def lineUnit (dst : Nat) (u : Nat × Nat) : Prop := 0 < u.2 ∧ (((dst + u.1) % 64 = 0 ∧ u.2 % 64 = 0 ∧ u.2 ≤ 256) ∨ (dst + u.1) % 64 + u.2 ≤ 64)

theorem unitsOf_followOn (dst off len fuel : Nat) (h : len ≤ fuel) : FollowOn (lineUnit dst) off len (unitsOf dst off len fuel) := by
  induction fuel generalizing off len with
  | zero => exact Nat.le_zero.mp h
  | succ fuel ih =>
    unfold unitsOf
    split
    next h0 => exact h0
    next h0 =>
      extract_lets a k
      have unit : lineUnit dst (off, k) ∧ k ≤ len := by
        unfold lineUnit
        dsimp only
        simp only [k]
        split <;> omega
      obtain ⟨⟨pos, line⟩, le⟩ := unit
      exact ⟨rfl, ⟨pos, line⟩, le, ih _ _ (by dsimp only at pos; omega)⟩

/-- A read of a source: one to four lines, across no 4 KiB boundary (R189). -/
def lineRead (base : Nat) (r : Nat × Nat) : Prop := 1 ≤ r.2 ∧ r.2 ≤ 4 ∧ (base / 64 + r.1) % 64 + r.2 ≤ 64

theorem readsOf_followOn (base first n fuel : Nat) (h : n ≤ fuel) : FollowOn (lineRead base) first n (readsOf base first n fuel) := by
  induction fuel generalizing first n with
  | zero => exact Nat.le_zero.mp h
  | succ fuel ih =>
    unfold readsOf
    split
    next h0 => exact h0
    next h0 =>
      extract_lets k
      have read : 1 ≤ k ∧ k ≤ 4 ∧ (base / 64 + first) % 64 + k ≤ 64 ∧ k ≤ n := by
        simp only [k]
        omega
      obtain ⟨pos, four, page, le⟩ := read
      exact ⟨rfl, ⟨pos, four, page⟩, le, ih _ _ (by omega)⟩

/-! ### What a change of a descriptor leaves -/

theorem EpState.modCe_modCe (e : EpState) (n : Nat) (f g : CopyEngine → CopyEngine) : (e.modCe n f).modCe n g = e.modCe n (fun c => g (f c)) := by
  simp only [EpState.modCe, Tab.upd, Tab.get_put_same, Tab.put_put]

/-- Two changes of one descriptor are one, where the first keeps its number. -/
theorem EpState.modJob_modJob (e : EpState) (n i : Nat) (f g : CeJob → CeJob) (h : ∀ j, (f j).idx = j.idx) :
    (e.modJob n i f).modJob n i g = e.modJob n i (fun j => g (f j)) := by
  simp only [EpState.modJob, EpState.modCe_modCe, List.map_map]
  congr 1
  funext c
  congr 1
  refine List.map_congr_left fun j _ => ?_
  simp only [Function.comp_apply]
  split
  next hj => simp [h, hj]
  next hj => rfl

theorem EpState.ce_modJob_same (e : EpState) (n i : Nat) (f : CeJob → CeJob) :
    (e.modJob n i f).ce n = { e.ce n with jobs := (e.ce n).jobs.map (fun j => if j.idx = i then f j else j) } := EpState.ce_modCe_same _ _ _

theorem EpState.ce_modJob_other (e : EpState) (n i m : Nat) (f : CeJob → CeJob) (h : m ≠ n) : (e.modJob n i f).ce m = e.ce m := EpState.ce_modCe_other _ _ _ _ h

@[simp] theorem EpState.ce_notice (e : EpState) (kind source a b n : Nat) : (e.notice kind source a b).ce n = e.ce n := by
  unfold EpState.notice
  split <;> rfl

/-- A notice joins the list of notices, and nothing else. -/
theorem EpState.notice_eq (e : EpState) (kind source a b : Nat) : ∃ l, e.notice kind source a b = e.modLha (fun h => { h with notes := l }) := by
  unfold EpState.notice
  split
  · exact ⟨_, rfl⟩
  · exact ⟨e.lha.notes, rfl⟩

/-! ### Stopping codes (R193) -/

section
variable (e : EpState) (n i code va : Nat)

/-- A descriptor that a code stops. -/
def CeJob.stopped (j : CeJob) (code va : Nat) : CeJob := { j with started := true, issuedAll := true, code := code, va := if code = 2 ∨ code = 3 then va else 0 }

/-- The end-point before a RUNNING engine that is stopped becomes FAULTED: the descriptor has its code, and the fault is recorded. -/
def EpState.stopRecorded : EpState :=
  ((e.modJob n i (fun j => j.stopped code va)).ceFault n code).mod (fun c => (c.wr (ceA n 0x30) (BitVec.ofNat 32 va)).wr (ceA n 0x34) (BitVec.ofNat 32 (va / 2 ^ 32)))

theorem EpState.stopRecorded_ce :
    (e.stopRecorded n i code va).ce n = { e.ce n with jobs := (e.ce n).jobs.map (fun j => if j.idx = i then j.stopped code va else j) } := e.ce_modJob_same n i _

theorem EpState.ceStop_running (h : (e.ce n).st = .running) :
    e.ceStop n i code va = ((e.stopRecorded n i code va).modCe n (fun c => { c with st := .faulted })).notice 0x03 (1056 + n) i code := by
  have st : ((e.stopRecorded n i code va).ce n).st = .running := by rw [e.stopRecorded_ce n i code va, h]
  unfold EpState.ceStop
  extract_lets s1 s2
  rw [show s2 = e.stopRecorded n i code va from rfl, st]

theorem EpState.ceStop_rest (h : (e.ce n).st ≠ .running) : e.ceStop n i code va = e.stopRecorded n i code va := by
  have st : ((e.stopRecorded n i code va).ce n).st = (e.ce n).st := by rw [e.stopRecorded_ce n i code va]
  unfold EpState.ceStop
  extract_lets s1 s2
  rw [show s2 = e.stopRecorded n i code va from rfl, st]
  split
  next hr => exact absurd hr h
  next => rfl

end

/-! ### Starting the next descriptor -/

section
variable (e : EpState) (n op : Nat) (bad : CeJob → Bool) (go : EpState → CeJob → EpState)

theorem EpState.ceStart_none (h : e.ceNext n = none) : e.ceStart n op bad go = e := by simp only [EpState.ceStart, h]

variable (j : CeJob) (h : e.ceNext n = some j)
include h

theorem EpState.ceStart_other (ho : j.op ≠ op) : e.ceStart n op bad go = e := by simp only [EpState.ceStart, h, if_pos ho]

variable (ho : j.op = op)
include ho

theorem EpState.ceStart_bad (hb : bad j = true) : e.ceStart n op bad go = e.ceStop n j.idx 4 0 := by
  simp only [EpState.ceStart, h, if_neg (not_not_intro ho), if_pos hb]

variable (hb : bad j = false)
include hb

theorem EpState.ceStart_slot (hs : e.slotOk n j = false) : e.ceStart n op bad go = e.ceStop n j.idx 7 0 := by
  simp [EpState.ceStart, h, ho, hb, hs]

theorem EpState.ceStart_goes (hs : e.slotOk n j = true) : e.ceStart n op bad go = go (e.modJob n j.idx (fun j => { j with started := true })) j := by
  simp [EpState.ceStart, h, ho, hb, hs]

end

/-- A descriptor of an operation is invalid, or a QCOPY finds no unit left. -/
def EpState.descBad (e : EpState) (op : Nat) (j : CeJob) : Bool := if op = 2 then j.qInvalid || e.quUnits.isEmpty else j.invalid

/-- What a started descriptor of an operation does first. -/
def EpState.descGo (n op : Nat) (fails : List (Nat × Bool)) (e : EpState) (j : CeJob) : EpState :=
  match op with
  | 2 => ((e.modJob n j.idx (fun j => { j with fails := fails })).ceStreams n j).ceRun n
  | 4 => (e.prefetch (j.f 7 1 % 64) (e.ceAsid n) (j.f 16 8)).ceRun n
  | 5 => (e.modJob n j.idx (fun j => { j with issuedAll := true, left := 1 })).startFence
      { engine := n, all := bits (j.f 2 1) 3 2 == 1, node := if bit (j.f 2 1) 4 then some (j.f 56 4 % 256) else none, idx := j.idx }
  | 6 => e.modJob n j.idx (fun j => { j with issuedAll := true })
  | _ => (e.ceStreams n j).ceRun n

/-- The command of an operation, as it reaches an engine. -/
def descCommand (n op : Nat) (fails : List (Nat × Bool)) (i : Instr) : Prop :=
  i = .copy n ∧ op = 1 ∨ i = .qcopy n fails ∧ op = 2 ∨ i = .ceAtomic n ∧ op = 3 ∨ i = .ceFlag n ∧ op = 4 ∨ i = .ceFence n ∧ op = 5 ∨ i = .nop n ∧ op = 6

/-- What the command of an operation makes of the end-point: a QCOPY may wait for another (R222), and each starts the next descriptor. -/
def EpState.descRun (e : EpState) (n op : Nat) (fails : List (Nat × Bool)) : EpState :=
  if op = 2 then e.ceQcopy n fails else e.ceStart n op (e.descBad op) (EpState.descGo n op fails)

theorem exec_desc_after (s : State) (n op : Nat) (fails : List (Nat × Bool)) (i : Instr) (hw : s.heldPart .ep = false) (hn : n < 32) (hi : descCommand n op fails i) :
    exec i s = .next (s.afterEp (s.ep.descRun n op fails)) := by
  rcases hi with ⟨rfl, rfl⟩ | ⟨rfl, rfl⟩ | ⟨rfl, rfl⟩ | ⟨rfl, rfl⟩ | ⟨rfl, rfl⟩ | ⟨rfl, rfl⟩
  · exact (exec_copy _ _).trans (onEpIf_after s _ _ hw (decide_eq_true hn))
  · exact (exec_qcopy _ _ _).trans (onEpIf_after s _ _ hw (decide_eq_true hn))
  · exact (exec_ceAtomic _ _).trans (onEpIf_after s _ _ hw (decide_eq_true hn))
  · exact (exec_ceFlag _ _).trans (onEpIf_after s _ _ hw (decide_eq_true hn))
  · exact (exec_ceFence _ _).trans (onEpIf_after s _ _ hw (decide_eq_true hn))
  · exact (exec_nop _ _).trans (onEpIf_after s _ _ hw (decide_eq_true hn))

section
variable (e : EpState) (n op : Nat) (fails : List (Nat × Bool))

theorem EpState.descRun_none (h : e.ceNext n = none) : e.descRun n op fails = e := by
  unfold EpState.descRun
  split
  · simp only [EpState.ceQcopy, h]
  · exact e.ceStart_none n op _ _ h

variable (j : CeJob) (h : e.ceNext n = some j)
include h

/-- A QCOPY that waits for the residual ranges of another changes nothing. -/
theorem EpState.descRun_waits (ho : j.op = op) (hq : op = 2 ∧ e.qWaits n j = true ∧ j.qInvalid = false) : e.descRun n op fails = e := by
  obtain ⟨rfl, hq, hv⟩ := hq
  simp [EpState.descRun, EpState.ceQcopy, h, ho, hq, hv]

theorem EpState.descRun_starts (hq : ¬(j.op = op ∧ op = 2 ∧ e.qWaits n j = true ∧ j.qInvalid = false)) :
    e.descRun n op fails = e.ceStart n op (e.descBad op) (EpState.descGo n op fails) := by
  unfold EpState.descRun
  split
  next h2 =>
    subst h2
    simp only [EpState.ceQcopy, h]
    rw [if_neg (by simpa using hq)]
    rfl
  next => rfl

end

/-- What `t` shows of a fence that a started descriptor has begun in `e`: it waits with its scope behind every request issued before it (R191). -/
theorem EpState.fence_begun (e : EpState) (n : Nat) (fails : List (Nat × Bool)) (j : CeJob) :
    let u := EpState.descGo n 5 fails (e.modJob n j.idx (fun j => { j with started := true })) j
    u.c = e.c ∧ u.lha = e.lha ∧ u.src.reqs = e.src.reqs ∧ (∀ m, m ≠ n → u.ce m = e.ce m) ∧
      u.src.fences = e.src.fences ++ [{ engine := n, all := bits (j.f 2 1) 3 2 == 1, node := if bit (j.f 2 1) 4 = true then some (j.f 56 4 % 256) else none, before := e.src.nextId, idx := j.idx }] ∧
      (u.ce n).jobs = (e.ce n).jobs.map (fun k => if k.idx = j.idx then { k with started := true, issuedAll := true, left := 1 } else k) := by
  simp only [EpState.descGo, e.modJob_modJob n j.idx (fun j => { j with started := true }) _ fun _ => rfl]
  exact ⟨rfl, rfl, rfl, fun m => e.ce_modJob_other n j.idx m _, rfl, congrArg (·.jobs) (e.ce_modJob_same n j.idx _)⟩

/-- A started NOP has issued all it will. -/
theorem EpState.nop_done (e : EpState) (n : Nat) (fails : List (Nat × Bool)) (j : CeJob) :
    let u := EpState.descGo n 6 fails (e.modJob n j.idx (fun j => { j with started := true })) j
    u.c = e.c ∧ u.lha = e.lha ∧ u.src = e.src ∧ (∀ m, m ≠ n → u.ce m = e.ce m) ∧
      (u.ce n).jobs = (e.ce n).jobs.map (fun k => if k.idx = j.idx then { k with started := true, issuedAll := true } else k) := by
  simp only [EpState.descGo, e.modJob_modJob n j.idx (fun j => { j with started := true }) _ fun _ => rfl]
  exact ⟨rfl, rfl, rfl, fun m => e.ce_modJob_other n j.idx m _, congrArg (·.jobs) (e.ce_modJob_same n j.idx _)⟩

/-- Settles O43: how a copy is cut, what stops an engine and what each command does with the next descriptor are said above. -/
theorem descriptorsIssueInOrder : Obligations.DescriptorsIssueInOrder := by
  refine ⟨fun dst off len => ?units, fun base first n => ?reads, fun e n idx code va => ?stops, ?starts⟩
  case units => exact (unitsOf_followOn dst off len len le_rfl).covers
  case reads => exact (readsOf_followOn base first n n le_rfl).covers
  case stops =>
    intro t
    by_cases h : (e.ce n).st = .running
    · obtain ⟨l, hl⟩ := ((e.stopRecorded n idx code va).modCe n (fun c => { c with st := .faulted })).notice_eq 0x03 (1056 + n) idx code
      simp only [t, e.ceStop_running n idx code va h, EpState.ce_notice, if_pos h]
      refine ⟨?_, fun m hm => ?_, ?_⟩
      · rw [EpState.ce_modCe_same, e.stopRecorded_ce n idx code va]
        rfl
      · rw [EpState.ce_modCe_other _ _ _ _ hm]
        exact e.ce_modJob_other n idx m _ hm
      · rw [hl]
        exact ⟨rfl, rfl, rfl, rfl⟩
    · simp only [t, e.ceStop_rest n idx code va h, if_neg h]
      exact ⟨e.stopRecorded_ce n idx code va, fun m => e.ce_modJob_other n idx m _, rfl, rfl, rfl, rfl⟩
  case starts =>
    intro s n i op fails hw hn hi
    rw [exec_desc_after s n op fails i hw hn hi]
    refine ⟨fun h => ?_, fun j hj => ?_⟩
    · rw [s.ep.descRun_none n op fails h]
    · intro bad waits
      have start := s.ep.descRun_starts n op fails j hj
      refine ⟨fun ho => ?_, fun ho hq => ?_, fun ho hq hb => ?_, fun ho hq hb hs => ?_, fun ho hq hb hs => ?_⟩
      · rw [start fun h => ho h.1, s.ep.ceStart_other _ _ _ _ j hj ho]
      · rw [s.ep.descRun_waits n op fails j hj ho hq]
      · rw [start fun h => hq h.2, s.ep.ceStart_bad _ _ _ _ j hj ho hb]
      · rw [start fun h => hq h.2, s.ep.ceStart_slot _ _ _ _ j hj ho hb hs]
      · rw [start fun h => hq h.2, s.ep.ceStart_goes _ _ _ _ j hj ho hb hs]
        refine ⟨?_, ?_, ?_, ?_, ?_⟩
        · rintro (rfl | rfl) <;> rfl
        · rintro rfl
          rfl
        · rintro rfl
          rfl
        · rintro rfl
          exact ⟨_, rfl, s.ep.fence_begun n fails j⟩
        · rintro rfl
          exact ⟨_, rfl, s.ep.nop_done n fails j⟩

end Sys2Proof.Machine
end

section
/-!
PROOF. The member of collectives: how the states of its planes form its own (R395), how a descriptor starts (R388, R389), and what each packet of the switch and the end of a wait change of a record (R289, R358, R367, R391).
-/

namespace Sys2Proof.Machine

/-! ### Planes and records -/

theorem Tab.find_map {α : Type} (t : Tab α) (f : α → α) (k : Nat) : Tab.find (t.map (fun e => (e.1, f e.2))) k = (Tab.find t k).map f := by
  induction t with
  | nil => rfl
  | cons e t ih =>
    simp only [List.map_cons, Tab.find]
    split
    · rfl
    · exact ih

theorem MemRec.plane_modPlane_same (r : MemRec) (k : Nat) (f : MemPlane → MemPlane) : (r.modPlane k f).plane k = f (r.plane k) := Tab.get_upd_same _ _ _ _

theorem MemRec.plane_modPlane_other (r : MemRec) (k j : Nat) (f : MemPlane → MemPlane) (h : j ≠ k) : (r.modPlane k f).plane j = r.plane j :=
  Tab.get_upd_other _ _ _ _ _ h

/-- A record of the state after a change of the records of an identifier. -/
theorem EpState.recs_modMem (e : EpState) (id n : Nat) (f : MemRec → MemRec) (x : MemRec) (h : e.coll.recs[n]? = some x) :
    (e.modMem id f).coll.recs[n]? = some (if x.id = id then f x else x) := by
  simp only [EpState.modMem, EpState.modColl_coll, List.getElem?_map, h, Option.map_some]

/-! ### The state of a record (R395, R396) -/

/-- The plane that committed first, of a plane and others. -/
def MemPlane.earliest (a : MemPlane) (l : List MemPlane) : MemPlane := l.foldl (fun b p => if p.commit < b.commit then p else b) a

theorem MemPlane.earliest_spec (a : MemPlane) (l : List MemPlane) : a.earliest l ∈ a :: l ∧ ∀ p ∈ a :: l, (a.earliest l).commit ≤ p.commit := by
  induction l generalizing a with
  | nil => exact ⟨List.mem_singleton_self a, by simp [MemPlane.earliest]⟩
  | cons b l ih =>
    have step : a.earliest (b :: l) = (if b.commit < a.commit then b else a).earliest l := rfl
    obtain ⟨mem, least⟩ := ih (if b.commit < a.commit then b else a)
    have first := least _ (List.mem_cons_self ..)
    rw [step]
    refine ⟨?_, fun p hp => ?_⟩
    · split at mem <;> grind
    · rcases List.mem_cons.mp hp with rfl | hp
      · split at first <;> grind
      · rcases List.mem_cons.mp hp with rfl | hp
        · split at first <;> grind
        · exact least p (List.mem_cons_of_mem _ hp)

/-- Where a plane of the mask is aborted, the record's state is that of the aborted plane that committed first. -/
theorem MemRec.form_aborted (r : MemRec) (late : Bool) (st : Nat) (h : r.form late = some st) (ha : ∃ k, k ∈ r.maskPlanes ∧ 0x10 ≤ (r.plane k).state) :
    ∃ k, k ∈ r.maskPlanes ∧ (r.plane k).state = st ∧ 0x10 ≤ st ∧ ∀ j, j ∈ r.maskPlanes → 0x10 ≤ (r.plane j).state → (r.plane k).commit ≤ (r.plane j).commit := by
  have aborted : ∀ j, j ∈ r.maskPlanes → 0x10 ≤ (r.plane j).state → r.plane j ∈ (r.maskPlanes.map r.plane).filter (fun p => decide (0x10 ≤ p.state)) :=
    fun j hj hs => List.mem_filter.mpr ⟨List.mem_map_of_mem hj, decide_eq_true hs⟩
  unfold MemRec.form at h
  extract_lets ps known at h
  split at h
  · exact absurd h (by simp)
  · split at h
    next a rest hl =>
      obtain rfl : (a.earliest rest).state = st := Option.some.inj h
      obtain ⟨mem, least⟩ := a.earliest_spec rest
      rw [← hl] at mem least
      obtain ⟨hm, hs⟩ := List.mem_filter.mp mem
      obtain ⟨k, hk, he⟩ := List.mem_map.mp hm
      refine ⟨k, hk, by rw [he], of_decide_eq_true hs, fun j hj hjs => ?_⟩
      rw [he]
      exact least _ (aborted j hj hjs)
    next hl =>
      obtain ⟨k, hk, hs⟩ := ha
      have mem := aborted k hk hs
      rw [show (r.maskPlanes.map r.plane).filter (fun p => decide (0x10 ≤ p.state)) = [] from hl] at mem
      exact absurd mem (by simp)

theorem MemRec.ends_done (r : MemRec) (st : Nat) (h : st < 0x10) : r.ends st = { r with outcome := some st } := if_pos h

theorem MemRec.ends_aborted (r : MemRec) (st : Nat) (h : 0x10 ≤ st) :
    r.ends st = { r with outcome := some st, resid := [], planes := r.planes.map (fun e => (e.1, { e.2 with todo := [] })) } := if_neg (Nat.not_lt.mpr h)

/-- A record whose state is an abort writes nothing further. -/
theorem MemRec.plane_ends (r : MemRec) (st k : Nat) (h : 0x10 ≤ st) : (r.ends st).plane k = { r.plane k with todo := [] } := by
  rw [r.ends_aborted st h, MemRec.plane, MemRec.plane, Tab.get, Tab.get, Tab.find_map r.planes (fun p => { p with todo := [] })]
  cases Tab.find r.planes k <;> rfl

/-! ### The ring -/

theorem EpState.collDoorbell_ignored (e : EpState) (v : Nat) (h : ringSlots (e.c.rf' 0xA0000 20 16) < (v + 2 ^ 32 - e.coll.cons) % 2 ^ 32) : e.collDoorbell v = e := if_pos h

theorem EpState.collDoorbell_taken (e : EpState) (v : Nat) (h : (v + 2 ^ 32 - e.coll.cons) % 2 ^ 32 ≤ ringSlots (e.c.rf' 0xA0000 20 16)) :
    e.collDoorbell v = e.modColl (fun c => { c with prod := v % 2 ^ 32 }) := if_neg (Nat.not_lt.mpr h)

section
variable (e : EpState)

theorem EpState.collStart_none (h : e.coll.waiting.find? (fun w => e.memMayStart (e.memFresh w)) = none) : e.collStart = e := by
  simp only [EpState.collStart, h]

variable (w : Nat × List Byte) (h : e.coll.waiting.find? (fun w => e.memMayStart (e.memFresh w)) = some w)
include h

theorem EpState.collStart_invalid (hi : e.memInvalid (e.memFresh w) = true) :
    e.collStart = (e.addMem w { e.memFresh w with held := false, outcome := some 0x1E, fill := 0x1E }).memEvent 1 := by
  simp only [EpState.collStart, h, if_pos hi]

variable (hi : e.memInvalid (e.memFresh w) = false)
include hi

theorem EpState.collStart_fenced (hf : e.src.fencedEpoch.isSome = true) :
    e.collStart = e.addMem w { e.memFresh w with held := false, outcome := some 0x12, fill := 0x12 } := by
  simp only [EpState.collStart, h, hi, if_pos hf, Bool.false_eq_true, if_false]

/-- A descriptor that starts has its ranges and its AUX address checked. -/
theorem EpState.collStart_checks (hf : e.src.fencedEpoch = none) :
    let r := e.memFresh w
    let ranges := ((e.memRanges r).filter (fun x => x.2 != 0)).map (fun x => ({ va := x.1, len := x.2 } : MemCheck))
    let r1 : MemRec := { r with checks := ranges ++ (if r.auxAddr = true then [{ va := r.f 48 8, len := 0, aux := true }] else []) }
    e.collStart = (e.addMem w r1).memCheck r1.id r1.checkSteps := by
  simp only [EpState.collStart, h, hi, hf, Option.isSome_none, Bool.false_eq_true, if_false]

end

/-! ### Packets from the switch (R289) -/

section
variable (e : EpState) (k : Nat) (p : Packet)

/-- A packet that a member's record may be meant by: legal, and from the switch to this node. -/
def EpState.fits (e : EpState) (p : Packet) : Prop := ¬((badHeader p).isSome = true ∨ (!lenAllowed p) = true ∨ p.src ≠ 0 ∨ p.dst ≠ e.node)

theorem EpState.fits_iff : e.fits p ↔ badHeader p = none ∧ lenAllowed p = true ∧ p.src = 0 ∧ p.dst = e.node := by simp [EpState.fits]

theorem EpState.fits_of_strays (h : e.strays p = true) : e.fits p := by
  simp only [EpState.strays, Bool.and_eq_true, Option.isNone_iff_eq_none, beq_iff_eq] at h
  obtain ⟨⟨⟨⟨hb, hl⟩, hs⟩, hd⟩, -⟩ := h
  exact (e.fits_iff p).mpr ⟨hb, hl, hs, hd⟩

/-- The record that a packet names is held for the packet's handle and group. -/
theorem EpState.memOf_held (r : MemRec) (h : e.memOf p = some r) : e.holdsMember p = true := by
  have named := List.find?_some h
  simp only [Bool.and_eq_true] at named
  exact List.any_eq_true.mpr ⟨r, List.mem_of_find?_eq_some h, by simp [named]⟩

variable (op : Nat) (go : EpState → MemRec → EpState) (hp : p.op = op)
include hp

/-- A packet that fits no open record is counted where no record has its handle and group, and changes nothing else. -/
theorem EpState.fromSwitch_none (h : e.collFor k p = none) :
    e.fromSwitch k p op go = if e.strays p = true then e.mod (fun c => c.bump 0x40054) else e := by
  by_cases hf : e.fits p
  · obtain ⟨hb, hl, hs, hd⟩ := (e.fits_iff p).mp hf
    cases hm : e.memOf p with
    | none =>
      simp only [EpState.fromSwitch, EpState.strays, hp, hb, hl, hs, hd, hm]
      cases e.holdsMember p <;> simp
    | some r =>
      have held := e.memOf_held p r hm
      have out : (bit r.mask k && (p.op == opResult || bits (p.cell 0) 95 64 == r.seq)) = false := by
        simpa [EpState.collFor, hb, hl, hs, hd, hm] using h
      rw [hp] at out
      simp [EpState.fromSwitch, EpState.strays, hp, hb, hl, hs, hd, hm, held, out]
  · rw [Bool.eq_false_of_not_eq_true (mt (e.fits_of_strays p) hf)]
    exact if_pos (.inr (not_not.mp hf))

/-- A packet that fits an open record of the member is acted on. -/
theorem EpState.fromSwitch_some (r : MemRec) (h : e.collFor k p = some r) : e.fromSwitch k p op go = go e r := by
  unfold EpState.collFor at h
  split at h
  · exact absurd h (by simp)
  next hf =>
    obtain ⟨hb, hl, hs, hd⟩ := (e.fits_iff p).mp hf
    obtain ⟨x, hm, hx⟩ := Option.bind_eq_some_iff.mp h
    split at hx
    next good =>
      obtain rfl := Option.some.inj hx
      rw [hp] at good
      simp [EpState.fromSwitch, hp, hb, hl, hs, hd, hm, good]
    next => exact absurd hx (by simp)

end

/-! ### `GRANT`, `RESULT`, `DONE`, `ABORT_NOTICE` and `RESEND` for a record -/

/-- What a terminal state says of its plane: state, commit pick and counts; nothing more is sent on it (R357, R391). -/
def MemPlane.known (x : MemPlane) (q : Packet) : MemPlane :=
  { x with state := bits (q.cell 0) 127 120, commit := bits (q.cell 0) 63 0, sat := bits (q.cell 1) 127 96, under := bits (q.cell 1) 95 64, nan := bits (q.cell 1) 63 32,
           again := [], reading := none, ask := [], query := false }

/-- Pairs of a list result, as its first chunk tells them or as they are known (R438). -/
def MemRec.pairsOf (r : MemRec) (k : Nat) (q : Packet) : Option Nat :=
  if r.lists = true ∧ q.collChunk = 0 then some (leNat (q.data.take 8)) else (r.plane k).listLen

/-- What a `RESULT` brings of the member's result: its chunk, and each address with its bytes (R391, R438). -/
def EpState.resultWrites (e : EpState) (k : Nat) (q : Packet) (r : MemRec) : List (Nat × Nat × List Byte) :=
  (e.resultParts r k q.collChunk (r.pairsOf k q)).filterMap (fun x => if x.2.2 = 0 then none else some (q.collChunk, x.1, (q.data.drop x.2.1).take x.2.2))

/-- Chunks already sent that a `RESEND` names and that do not yet go again (R358, R393). -/
def MemPlane.renamed (x : MemPlane) (q : Packet) : List Nat :=
  (List.range (x.next - bits (q.cell 0) 61 32)).filterMap (fun i => if bits (q.cell 0) 61 32 + i ≤ bits (q.cell 0) 29 0 then some (bits (q.cell 0) 61 32 + i) else none)

theorem MemPlane.mem_renamed (x : MemPlane) (q : Packet) (c : Nat) :
    c ∈ x.renamed q ↔ bits (q.cell 0) 61 32 ≤ c ∧ c ≤ bits (q.cell 0) 29 0 ∧ c < x.next := by
  simp only [MemPlane.renamed, List.mem_filterMap, List.mem_range, Option.ite_none_right_eq_some, Option.some.injEq]
  constructor
  · rintro ⟨i, hi, hc, rfl⟩
    omega
  · rintro ⟨h1, h2, h3⟩
    exact ⟨c - bits (q.cell 0) 61 32, by omega, by omega, by omega⟩

section
variable (e : EpState) (k : Nat) (q : Packet) (r : MemRec) (h : e.collFor k q = some r)
include h

section
variable (hp : q.op = opGrant) (adm : Bool) (fails : List (Nat × Bool))
include hp

theorem EpState.memGrant_ignored (hk : bits (q.cell 0) 127 120 ≠ (if adm then 1 else 2) ∨ (adm = false ∧ (r.plane k).granted = false)) : e.memGrant k q adm fails = e := by
  rw [EpState.memGrant, e.fromSwitch_some k q opGrant _ hp r h]
  exact if_pos (by simpa using hk)

theorem EpState.memGrant_opens (hk : bits (q.cell 0) 127 120 = (if adm then 1 else 2)) (hg : adm = true ∨ (r.plane k).granted = true) :
    e.memGrant k q adm fails =
      (e.modMemPlane r.id k (fun x => { x with granted := true, limit := bits (q.cell 0) 61 32 })).modMem r.id (fun x => { x with fails := x.fails ++ fails }) := by
  rw [EpState.memGrant, e.fromSwitch_some k q opGrant _ hp r h]
  refine if_neg ?_
  rintro (hn | ⟨ha, hn⟩)
  · exact hn hk
  · rcases hg with hg | hg <;> simp [hg] at ha hn

end

section
variable (hp : q.op = opResult)
include hp

theorem EpState.memResult_ignored (hl : q.len ≠ 0xF ∨ (r.plane k).state ≠ 0) : e.memResult k q = e := by
  rw [EpState.memResult, e.fromSwitch_some k q opResult _ hp r h]
  exact if_pos hl

variable (hl : q.len = 0xF) (hs : (r.plane k).state = 0)
include hl hs

/-- A `RESULT` of which nothing is the member's counts as written. -/
theorem EpState.memResult_counts (hn : e.resultWrites k q r = []) :
    e.memResult k q = e.modMemPlane r.id k (fun x => { x with listLen := r.pairsOf k q, acked := if x.acked.contains q.collChunk then x.acked else x.acked ++ [q.collChunk] }) := by
  rw [EpState.memResult, e.fromSwitch_some k q opResult _ hp r h]
  exact (if_neg (by simp [hl, hs])).trans (if_pos (List.isEmpty_iff.mpr hn))

/-- A `RESULT` that brings bytes of the member has them written, cut at pages. -/
theorem EpState.memResult_writes (hn : e.resultWrites k q r ≠ []) :
    e.memResult k q = e.modMemPlane r.id k (fun x =>
      { x with listLen := r.pairsOf k q, todo := x.todo ++ (e.resultWrites k q r).flatMap (fun w => (cutAt 4096 w.2.1 w.2.2 3).map (fun c => (q.collChunk, c.1, c.2))) }) := by
  rw [EpState.memResult, e.fromSwitch_some k q opResult _ hp r h]
  exact (if_neg (by simp [hl, hs])).trans (if_neg (mt List.isEmpty_iff.mp hn))

end

section
variable (op : Nat) (hp : q.op = op)
include hp

theorem EpState.memReport_ignored
    (hk : bits (q.cell 0) 127 120 = 0 ∨ (r.plane k).state ≠ 0 ∨ (decide (0 < bits (q.cell 0) 127 120) && decide (bits (q.cell 0) 127 120 < 0x10)) ≠ (op == opDone)) : e.memReport k q op = e := by
  rw [EpState.memReport, e.fromSwitch_some k q op _ hp r h]
  exact if_pos (by simpa using hk)

variable (hk : bits (q.cell 0) 127 120 ≠ 0) (hs : (r.plane k).state = 0)
  (ho : (decide (0 < bits (q.cell 0) 127 120) && decide (bits (q.cell 0) 127 120 < 0x10)) = (op == opDone))
include hk hs ho

/-- A state that is learned is recorded, and an abort is carried to the planes that are not known (R394). -/
theorem EpState.memReport_learns :
    e.memReport k q op =
      if 0x10 ≤ bits (q.cell 0) 127 120 then (e.modMemPlane r.id k (fun x => x.known q)).abortPlanes r.id 3 (fun j x => j != k && x.state == 0)
      else e.modMemPlane r.id k (fun x => x.known q) := by
  rw [EpState.memReport, e.fromSwitch_some k q op _ hp r h]
  exact if_neg (by simp [hk, hs, ho])

end

/-- A `RESEND` asks for the named chunks, and is counted as an event. -/
theorem EpState.memResend_asks (hp : q.op = opResend) :
    e.memResend k q = (e.modMemPlane r.id k (fun x => { x with again := x.again ++ ((r.plane k).renamed q).filter (fun i => !x.again.contains i) })).memEvent 2 := by
  rw [EpState.memResend, e.fromSwitch_some k q opResend _ hp r h]
  rfl

end

/-! ### Each command acts through its function -/

theorem EpState.collArrive_other (e : EpState) (k op : Nat) (p : Packet) (go : EpState → Packet → EpState) (h : p.op ≠ op) : e.collArrive k op p go = e := if_neg h

theorem EpState.collArrive_arrives (e : EpState) (k op : Nat) (p : Packet) (go : EpState → Packet → EpState) (h : p.op = op) :
    e.collArrive k op p go = e.arrive k p go := if_pos h

theorem EpState.collArrive_brings (e : EpState) (k op : Nat) (p q : Packet) (go : EpState → Packet → EpState) (h : p.op = op) (hb : e.brings k p q = true) :
    e.collArrive k op p go = go (e.takeIn k p) q := by
  rw [e.collArrive_arrives k op p go h, EpState.arrive_brings _ _ _ _ _ hb]

section
variable (s : State) (k : Nat) (p : Packet) (hw : s.heldPart .ep = false) (hk : k < 8)
include hw hk

theorem exec_grantAdmit_after (fails : List (Nat × Bool)) :
    exec (.grantAdmit k p fails) s = .next (s.afterEp (s.ep.collArrive k opGrant p (fun e q => e.memGrant k q true fails))) :=
  (exec_grantAdmit _ _ _ _).trans (onEpIf_after s _ _ hw (decide_eq_true hk))
theorem exec_grantCredit_after : exec (.grantCredit k p) s = .next (s.afterEp (s.ep.collArrive k opGrant p (fun e q => e.memGrant k q false []))) :=
  (exec_grantCredit _ _ _).trans (onEpIf_after s _ _ hw (decide_eq_true hk))
theorem exec_result_after : exec (.result k p) s = .next (s.afterEp (s.ep.collArrive k opResult p (fun e q => e.memResult k q))) :=
  (exec_result _ _ _).trans (onEpIf_after s _ _ hw (decide_eq_true hk))
theorem exec_done_after : exec (.done k p) s = .next (s.afterEp (s.ep.collArrive k opDone p (fun e q => e.memReport k q opDone))) :=
  (exec_done _ _ _).trans (onEpIf_after s _ _ hw (decide_eq_true hk))
theorem exec_abortNotice_after : exec (.abortNotice k p) s = .next (s.afterEp (s.ep.collArrive k opAbortNotice p (fun e q => e.memReport k q opAbortNotice))) :=
  (exec_abortNotice _ _ _).trans (onEpIf_after s _ _ hw (decide_eq_true hk))
theorem exec_resend_after : exec (.resend k p) s = .next (s.afterEp (s.ep.collArrive k opResend p (fun e q => e.memResend k q))) :=
  (exec_resend _ _ _).trans (onEpIf_after s _ _ hw (decide_eq_true hk))

/-- Each command that takes a packet from the switch of a plane looks for the record that the packet fits. -/
theorem exec_coll_arrives (i : Instr) (op : Nat) (fails : List (Nat × Bool))
    (hi : i = .grantAdmit k p fails ∧ op = opGrant ∨ i = .grantCredit k p ∧ op = opGrant ∨ i = .result k p ∧ op = opResult ∨ i = .done k p ∧ op = opDone ∨
      i = .abortNotice k p ∧ op = opAbortNotice ∨ i = .resend k p ∧ op = opResend) :
    ∃ go : Packet → EpState → MemRec → EpState, exec i s = .next (s.afterEp (s.ep.collArrive k op p (fun e q => e.fromSwitch k q op (go q)))) := by
  rcases hi with ⟨rfl, rfl⟩ | ⟨rfl, rfl⟩ | ⟨rfl, rfl⟩ | ⟨rfl, rfl⟩ | ⟨rfl, rfl⟩ | ⟨rfl, rfl⟩
  · exact ⟨_, exec_grantAdmit_after s k p hw hk fails⟩
  · exact ⟨_, exec_grantCredit_after s k p hw hk⟩
  · exact ⟨_, exec_result_after s k p hw hk⟩
  · exact ⟨_, exec_done_after s k p hw hk⟩
  · exact ⟨_, exec_abortNotice_after s k p hw hk⟩
  · exact ⟨_, exec_resend_after s k p hw hk⟩

end

/-! ### `COLL_WAIT_EXPIRED` -/

section
variable (e : EpState) (id : Nat)

theorem EpState.collWaitExpired_none (h : e.memRec id = none) : e.collWaitExpired id = e := by simp only [EpState.collWaitExpired, h]

variable (r : MemRec) (h : e.memRec id = some r)
include h

theorem EpState.collWaitExpired_early (hd : ¬(r.live = true ∧ ∃ t0, r.waitFrom = some t0 ∧ t0 + e.c.rf' 0xA0028 15 0 ≤ e.c.pick)) : e.collWaitExpired id = e := by
  simp only [EpState.collWaitExpired, h]
  split
  next t ht => exact if_neg fun ⟨hl, hp⟩ => hd ⟨hl, t, ht, hp⟩
  next => rfl

theorem EpState.collWaitExpired_due (hl : r.live = true) (t0 : Nat) (ht : r.waitFrom = some t0) (hp : t0 + e.c.rf' 0xA0028 15 0 ≤ e.c.pick) :
    e.collWaitExpired id = (e.modMem id (fun r => r.ends ((r.form true).getD 0x1F))).memEvent 3 := by
  simp only [EpState.collWaitExpired, h, ht]
  exact if_pos ⟨hl, hp⟩

end

theorem EpState.memResend_keeps (e : EpState) (k : Nat) (q : Packet) (r : MemRec) (h : e.collFor k q = some r) (hp : q.op = opResend) :
    (e.memResend k q).c = e.c.event 0xA002C 512 ∧ (e.memResend k q).lha = e.lha ∧ (e.memResend k q).coll.recs.length = e.coll.recs.length := by
  rw [e.memResend_asks k q r h hp]
  exact ⟨rfl, by simp only [EpState.memEvent, EpState.mod_lha, EpState.modMemPlane, EpState.modMem, EpState.modColl_lha], List.length_map _⟩

/-- What a `RESEND` leaves of the records: those of its identifier send the named chunks again on its plane, and change in nothing else there. -/
theorem EpState.memResend_recs (e : EpState) (k : Nat) (q : Packet) (r : MemRec) (h : e.collFor k q = some r) (hp : q.op = opResend) (n : Nat) (x : MemRec)
    (hx : e.coll.recs[n]? = some x) :
    (x.id ≠ r.id → (e.memResend k q).coll.recs[n]? = some x) ∧
    (x.id = r.id → ∃ y, (e.memResend k q).coll.recs[n]? = some y ∧ (∀ j, j ≠ k → y.plane j = x.plane j) ∧ (y.plane k).next = (x.plane k).next ∧
      ∀ c, c ∈ (y.plane k).again ↔ c ∈ (x.plane k).again ∨ (bits (q.cell 0) 61 32 ≤ c ∧ c ≤ bits (q.cell 0) 29 0 ∧ c < (r.plane k).next)) := by
  have recs := e.recs_modMem r.id n (fun x => x.modPlane k (fun x => { x with again := x.again ++ ((r.plane k).renamed q).filter (fun i => !x.again.contains i) })) x hx
  rw [e.memResend_asks k q r h hp]
  refine ⟨fun hi => ?_, fun hi => ⟨_, recs.trans (by rw [if_pos hi]), fun j hj => MemRec.plane_modPlane_other _ _ _ _ hj, ?_, fun c => ?_⟩⟩
  · rw [if_neg hi] at recs
    exact recs
  · rw [MemRec.plane_modPlane_same]
  · rw [MemRec.plane_modPlane_same, ← (r.plane k).mem_renamed q c]
    simp only [List.mem_append, List.mem_filter, Bool.not_eq_true', List.contains_eq_mem, decide_eq_false_iff_not]
    tauto

/-- Settles O46: the state of a record, the start of a descriptor and what each packet and the end of a wait change are said above. -/
theorem membersFollowTheirPlanes : Obligations.MembersFollowTheirPlanes := by
  refine ⟨MemRec.form_aborted, fun r st => ⟨r.ends_done st, fun h => ?ends⟩, ?doorbell, ?start, ?arrive, ?act, ?wait⟩
  case ends =>
    refine ⟨?_, ?_, fun x hx => ?_, fun k => r.plane_ends st k h⟩
    all_goals rw [r.ends_aborted st h] at *
    obtain ⟨y, -, rfl⟩ := List.mem_map.mp hx
    rfl
  case doorbell =>
    intro s v hw n ahead
    rw [exec_collDoorbell, execCollDoorbell, onEp_after s _ hw]
    refine ⟨fun h => ?_, fun h => ?_⟩
    · rw [s.ep.collDoorbell_ignored v h]
    · rw [s.ep.collDoorbell_taken v h]
  case start =>
    intro s hw first
    rw [exec_collDescriptorStart, execCollDescriptorStart, onEp_after s _ hw]
    refine ⟨fun h => ?_, fun w h => ⟨fun hi => ?_, fun hi hf => ?_, fun hi hf => ?_⟩⟩
    · rw [s.ep.collStart_none h]
    · exact ⟨_, rfl, by rw [s.ep.collStart_invalid w h hi]; exact ⟨rfl, rfl, rfl, rfl⟩⟩
    · exact ⟨_, rfl, by rw [s.ep.collStart_fenced w h hi hf]; exact ⟨rfl, rfl, rfl, rfl⟩⟩
    · rw [s.ep.collStart_checks w h hi hf]
  case arrive =>
    intro s k p i op fails hw hk hi e
    obtain ⟨go, run⟩ := exec_coll_arrives s k p hw hk i op fails hi
    rw [run]
    refine ⟨fun h => ?_, fun hp ho hc => ?_, fun hp ho hc hx => ?_, fun q hp hb hq hn => ?_⟩
    · by_cases hp : p.op = op
      · rw [s.ep.collArrive_arrives _ _ _ _ hp, EpState.arrive_closed _ _ _ _ (h.resolve_left (not_not_intro hp))]
      · rw [s.ep.collArrive_other _ _ _ _ hp]
    · rw [s.ep.collArrive_arrives _ _ _ _ hp, EpState.arrive_badCrc _ _ _ _ ho hc]
    · rw [s.ep.collArrive_arrives _ _ _ _ hp, EpState.arrive_shut _ _ _ _ ho hc hx]
    · rw [s.ep.collArrive_brings _ _ _ q _ hp hb, e.fromSwitch_none k q op _ (hq.trans hp) hn]
  case act =>
    intro s k p q r hw hk hb hq hr e kind opens known
    refine ⟨fun hp => ?_, fun hp => ?_, fun hp => ?_, fun hp => ?_, fun hp => ?_⟩
    · have grants := fun fails => exec_grantAdmit_after s k p hw hk fails
      rw [exec_grantCredit_after s k p hw hk, s.ep.collArrive_brings _ _ _ q _ hp hb]
      simp only [grants, s.ep.collArrive_brings _ _ _ q _ hp hb]
      have hp := hq.trans hp
      refine ⟨fun fails => ⟨fun hk => ?_, fun hk => ?_⟩, fun hk => ?_, fun hk hg => ?_⟩
      · rw [e.memGrant_ignored k q r hr hp true fails (.inl hk)]
      · rw [e.memGrant_opens k q r hr hp true fails hk (.inl rfl)]
      · rw [e.memGrant_ignored k q r hr hp false [] (hk.imp_right fun h => ⟨rfl, h⟩)]
      · rw [e.memGrant_opens k q r hr hp false [] hk (.inr hg)]
    · intro pairs ws
      rw [exec_result_after s k p hw hk, s.ep.collArrive_brings _ _ _ q _ hp hb]
      have hp := hq.trans hp
      refine ⟨fun hl => ?_, fun hl hs hn => ?_, fun hl hs hn => ?_⟩
      · rw [e.memResult_ignored k q r hr hp hl]
      · exact congrArg (fun t => Host.Outcome.next (s.afterEp t)) (e.memResult_counts k q r hr hp hl hs hn)
      · exact congrArg (fun t => Host.Outcome.next (s.afterEp t)) (e.memResult_writes k q r hr hp hl hs hn)
    · rw [exec_done_after s k p hw hk, s.ep.collArrive_brings _ _ _ q _ hp hb]
      have hp := hq.trans hp
      refine ⟨fun h => ?_, fun h0 h1 hs => ?_⟩
      · rw [e.memReport_ignored k q r hr opDone hp]
        rcases h with h | h | h
        · exact .inl h
        · exact .inr (.inr (by rw [decide_eq_false (Nat.not_lt.mpr h), Bool.and_false]; decide))
        · exact .inr (.inl h)
      · rw [e.memReport_learns k q r hr opDone hp (by omega) hs (by rw [decide_eq_true h0, decide_eq_true h1]; rfl), if_neg (by omega)]
        rfl
    · rw [exec_abortNotice_after s k p hw hk, s.ep.collArrive_brings _ _ _ q _ hp hb]
      have hp := hq.trans hp
      refine ⟨fun h => ?_, fun h1 hs => ?_⟩
      · rw [e.memReport_ignored k q r hr opAbortNotice hp]
        rcases h with h | h
        · rcases Nat.eq_zero_or_pos kind with h0 | h0
          · exact .inl h0
          · exact .inr (.inr (by rw [decide_eq_true h0, decide_eq_true h]; decide))
        · exact .inr (.inl h)
      · rw [e.memReport_learns k q r hr opAbortNotice hp (by omega) hs (by rw [decide_eq_false (Nat.not_lt.mpr h1), Bool.and_false]; rfl), if_pos h1]
        rfl
    · rw [exec_resend_after s k p hw hk, s.ep.collArrive_brings _ _ _ q _ hp hb]
      have hp := hq.trans hp
      obtain ⟨hc, hl, hn⟩ := e.memResend_keeps k q r hr hp
      exact ⟨_, rfl, hc, hl, hn, e.memResend_recs k q r hr hp⟩
  case wait =>
    intro s id hw
    rw [exec_collWaitExpired, execCollWaitExpired, onEp_after s _ hw]
    refine ⟨fun h => ?_, fun r h => ⟨fun hd => ?_, fun ⟨hl, t0, ht, hp⟩ => ?_⟩⟩
    · rw [s.ep.collWaitExpired_none id h]
    · rw [s.ep.collWaitExpired_early id r h hd]
    · rw [s.ep.collWaitExpired_due id r h hl t0 ht hp]

end Sys2Proof.Machine
end

section
/-!
PROOF. The translation commands under the operations of the end-point that are not theirs: a rule for each, for all that a command of the end-point ends with.
-/

namespace Sys2Proof.Machine

/-- The translation commands that are fetched or in progress. -/
def EpState.cmds (s : EpState) : List XqCmd := s.xlt.cmds

@[simp] theorem EpState.xlt_cmds (s : EpState) : s.xlt.cmds = s.cmds := rfl

theorem cmds_of_xlt {s t : EpState} (h : t.xlt = s.xlt) : t.cmds = s.cmds := congrArg Xlt.cmds h

/-! ### What leaves the translation commands alone: changes of the other parts of the state -/

@[simp] theorem EpState.cmds_mod (s : EpState) (f) : (s.mod f).cmds = s.cmds := cmds_of_xlt rfl
@[simp] theorem EpState.cmds_modSrc (s : EpState) (f) : (s.modSrc f).cmds = s.cmds := cmds_of_xlt rfl
@[simp] theorem EpState.cmds_modXlt (s : EpState) (f) : (s.modXlt f).cmds = (f s.xlt).cmds := rfl
@[simp] theorem EpState.cmds_modLha (s : EpState) (f) : (s.modLha f).cmds = s.cmds := rfl
@[simp] theorem EpState.cmds_modCe (s : EpState) (e f) : (s.modCe e f).cmds = s.cmds := cmds_of_xlt rfl
@[simp] theorem EpState.cmds_modColl (s : EpState) (f) : (s.modColl f).cmds = s.cmds := cmds_of_xlt rfl
@[simp] theorem EpState.cmds_modPiece (s : EpState) (id f) : (s.modPiece id f).cmds = s.cmds := cmds_of_xlt rfl
@[simp] theorem EpState.cmds_modFlow (s : EpState) (k f) : (s.modFlow k f).cmds = s.cmds := cmds_of_xlt rfl
@[simp] theorem EpState.cmds_modRec (s : EpState) (k f) : (s.modRec k f).cmds = s.cmds := cmds_of_xlt rfl
@[simp] theorem EpState.cmds_modReq (s : EpState) (k f) : (s.modReq k f).cmds = s.cmds := cmds_of_xlt rfl
@[simp] theorem EpState.cmds_addReq (s : EpState) (r) : (s.addReq r).cmds = s.cmds := cmds_of_xlt rfl
@[simp] theorem EpState.cmds_modSrcReq (s : EpState) (k f) : (s.modSrcReq k f).cmds = s.cmds := cmds_of_xlt rfl
@[simp] theorem EpState.cmds_modJob (s : EpState) (e k f) : (s.modJob e k f).cmds = s.cmds := cmds_of_xlt rfl
@[simp] theorem EpState.cmds_modMem (s : EpState) (k f) : (s.modMem k f).cmds = s.cmds := cmds_of_xlt rfl
@[simp] theorem EpState.cmds_modMemPlane (s : EpState) (i k f) : (s.modMemPlane i k f).cmds = s.cmds := cmds_of_xlt rfl
@[simp] theorem EpState.cmds_refuseFills (s : EpState) (f) : (s.refuseFills f).cmds = s.cmds := by simp [EpState.refuseFills]
@[simp] theorem EpState.cmds_rlcPurge (s : EpState) (f) : (s.rlcPurge f).cmds = s.cmds := (EpState.cmds_refuseFills ..).trans (cmds_of_xlt rfl)
@[simp] theorem EpState.cmds_rlcDrop (s : EpState) (f) : (s.rlcDrop f).cmds = s.cmds := by simp [EpState.rlcDrop]
@[simp] theorem EpState.cmds_rlcStore (s : EpState) (r) : (s.rlcStore r).cmds = s.cmds := (EpState.cmds_mod ..).trans ((EpState.cmds_refuseFills ..).trans (cmds_of_xlt rfl))
@[simp] theorem EpState.cmds_fillMicro (s : EpState) (u l) : (s.fillMicro u l).cmds = s.cmds := by simp [EpState.fillMicro]
@[simp] theorem EpState.cmds_winFault (s : EpState) (p f) : (s.winFault p f).cmds = s.cmds := by simp [EpState.winFault]
@[simp] theorem EpState.cmds_markPlane (s : EpState) (k d w c) : (s.markPlane k d w c).cmds = s.cmds := (EpState.cmds_mod ..).trans (cmds_of_xlt rfl)
@[simp] theorem EpState.cmds_ceFault (s : EpState) (e k) : (s.ceFault e k).cmds = s.cmds := by simp [EpState.ceFault]
@[simp] theorem EpState.cmds_storeDone (s : EpState) (e k d) : (s.storeDone e k d).cmds = s.cmds := by simp [EpState.storeDone]
@[simp] theorem EpState.cmds_backArrive (s : EpState) (e k a d o st du re) : (s.backArrive e k a d o st du re).cmds = s.cmds := by simp [EpState.backArrive]
@[simp] theorem EpState.cmds_memEvent (s : EpState) (k) : (s.memEvent k).cmds = s.cmds := by simp [EpState.memEvent]
@[simp] theorem EpState.cmds_memRefuse (s : EpState) (k) : (s.memRefuse k).cmds = s.cmds := by simp [EpState.memRefuse]
@[simp] theorem EpState.cmds_memRead (s : EpState) (r k u) : (s.memRead r k u).cmds = s.cmds := by simp [EpState.memRead]

/-- A run of steps that each leave the translation commands alone leaves them alone. -/
theorem cmds_each {α : Type} {l : List α} {s : EpState} {f : EpState → α → EpState} (h : ∀ s x, (f s x).cmds = s.cmds) : (each l s f).cmds = s.cmds :=
  each_keep EpState.cmds l s f h

/-- A choice between two states that both leave the translation commands alone. -/
theorem cmds_ite {c : Prop} [Decidable c] {s x y : EpState} (hx : x.cmds = s.cmds) (hy : y.cmds = s.cmds) : (if c then x else y).cmds = s.cmds := by
  split
  · exact hx
  · exact hy

/-! ### What leaves the translation commands alone: packets out and the source side -/

theorem EpState.cmds_toWire {s : EpState} {p : Packet} {r : Packet × EpState} (h : s.toWire p = some r) : r.2.cmds = s.cmds := by
  unfold EpState.toWire at h
  split at h
  · split at h <;> simp only [Option.some.injEq, reduceCtorEq] at h
    subst h; rfl
  · simp only [Option.some.injEq] at h
    subst h; rfl

@[simp] theorem EpState.cmds_egress (s : EpState) (k q e) : (s.egress k q e).cmds = s.cmds := by
  unfold EpState.egress
  split
  next r hr => rw [EpState.cmds_mod]; exact EpState.cmds_toWire hr
  next => rfl

@[simp] theorem EpState.cmds_putPacket (s : EpState) (k p x) : (s.putPacket k p x).cmds = s.cmds := EpState.cmds_egress ..

@[simp] theorem EpState.cmds_sendResponse (s : EpState) (k p) : (s.sendResponse k p).cmds = s.cmds := by
  unfold EpState.sendResponse
  split
  · rfl
  · split
    · split <;> simp
    · simp

@[simp] theorem EpState.cmds_rlcFill (s : EpState) (k l) : (s.rlcFill k l).cmds = s.cmds := by
  unfold EpState.rlcFill
  split
  · rfl
  · simp only; split <;> rfl

@[simp] theorem EpState.cmds_rlcAnswer (s : EpState) (r d) : (s.rlcAnswer r d).cmds = s.cmds := by
  unfold EpState.rlcAnswer
  split
  · rfl
  · split
    · rw [EpState.cmds_mod]
    · rw [EpState.cmds_mod]; exact cmds_each fun s x => s.cmds_rlcFill ..

@[simp] theorem EpState.cmds_issue (s : EpState) (r) : (s.issue r).cmds = s.cmds := by
  simp only [EpState.issue, EpState.cmds_modSrc]
  split <;> split <;> simp

@[simp] theorem EpState.cmds_complete (s : EpState) (r st a) : (s.complete r st a).cmds = s.cmds := by
  unfold EpState.complete
  simp only
  split
  · simp
  · split <;> simp

@[simp] theorem EpState.cmds_freeReissues (s : EpState) : s.freeReissues.cmds = s.cmds :=
  cmds_each fun s k => by split <;> simp

@[simp] theorem EpState.cmds_unqueue (s : EpState) (r) : (s.unqueue r).cmds = s.cmds := by
  unfold EpState.unqueue
  extract_lets mine s0 s1
  have dropped : s1.cmds = s.cmds := (EpState.cmds_mod ..).trans (cmds_of_xlt rfl)
  split <;> simp [dropped]

@[simp] theorem EpState.cmds_dropUnsent (s : EpState) : s.dropUnsent.cmds = s.cmds :=
  cmds_each fun s r => by simp

/-! ### What leaves the translation commands alone: messages out and engines -/

@[simp] theorem EpState.cmds_notice (s : EpState) (k n a b) : (s.notice k n a b).cmds = s.cmds := by
  unfold EpState.notice
  split <;> rfl

@[simp] theorem EpState.cmds_enterFenced (s : EpState) (k) : (s.enterFenced k).cmds = s.cmds := by
  unfold EpState.enterFenced
  simp only
  split <;> split <;> simp

@[simp] theorem EpState.cmds_endAreq (s : EpState) (i st d x) : (s.endAreq i st d x).cmds = s.cmds := by
  unfold EpState.endAreq
  split <;> rfl

@[simp] theorem EpState.cmds_areqFault (s : EpState) (a d) : (s.areqFault a d).cmds = s.cmds := by simp [EpState.areqFault]

@[simp] theorem EpState.cmds_areqDone (s : EpState) (i d) : (s.areqDone i d).cmds = s.cmds := EpState.cmds_endAreq ..

@[simp] theorem EpState.cmds_ceStop (s : EpState) (e k c v) : (s.ceStop e k c v).cmds = s.cmds := by
  unfold EpState.ceStop
  simp only
  split <;> simp

@[simp] theorem EpState.cmds_ceSettle (s : EpState) (e) : (s.ceSettle e).cmds = s.cmds := by
  unfold EpState.ceSettle
  simp only
  split
  · split <;> simp
  · split <;> simp
  · rfl

@[simp] theorem EpState.cmds_ceReserved (s : EpState) (e) : (s.ceReserved e).cmds = s.cmds := by
  unfold EpState.ceReserved
  split
  · split <;> simp
  · rfl

@[simp] theorem EpState.cmds_quRun (s : EpState) (n f) : (s.quRun n f).cmds = s.cmds := by
  refine (cmds_each fun s u => ?_).trans (EpState.cmds_mod ..)
  simp only
  split
  · rfl
  · split <;> simp

@[simp] theorem EpState.cmds_qQuantise (s : EpState) (e k j) : (s.qQuantise e k j).cmds = s.cmds := by
  unfold EpState.qQuantise
  simp only
  split <;> simp

@[simp] theorem EpState.cmds_throughFor (s : EpState) (sp u p) : (s.throughFor sp u p).cmds = s.cmds := cmds_of_xlt rfl

@[simp] theorem EpState.cmds_through (s : EpState) (sp u) : (s.through sp u).cmds = s.cmds := s.cmds_throughFor ..

/-! ### What leaves the translation commands alone: the member of collectives -/

@[simp] theorem EpState.cmds_toSwitch (s : EpState) (r k o c d) : (s.toSwitch r k o c d).cmds = s.cmds := s.cmds_putPacket ..

@[simp] theorem EpState.cmds_memAbort (s : EpState) (r k x c) : (s.memAbort r k x c).cmds = s.cmds := s.cmds_toSwitch ..

@[simp] theorem EpState.cmds_abortPlanes (s : EpState) (i c w) : (s.abortPlanes i c w).cmds = s.cmds := by
  unfold EpState.abortPlanes
  split
  · rfl
  · exact cmds_each fun s k => by simp

@[simp] theorem EpState.cmds_memFault (s : EpState) (i) : (s.memFault i).cmds = s.cmds := s.cmds_abortPlanes ..

@[simp] theorem EpState.cmds_memBegin (s : EpState) (r) : (s.memBegin r).cmds = s.cmds := by
  unfold EpState.memBegin
  extract_lets down r1 s1 s2
  have sent : s2.cmds = s.cmds := cmds_each (s := s1) fun s k => s.cmds_toSwitch ..
  refine cmds_ite sent ?_
  rw [EpState.cmds_abortPlanes]
  exact (cmds_each fun s _ => s.cmds_memEvent 4).trans sent

@[simp] theorem EpState.cmds_memImage (s : EpState) (r k u) : (s.memImage r k u).cmds = s.cmds := by
  unfold EpState.memImage
  extract_lets p done stop b x f sc xs rs i o s1 s2 back
  split
  · simp [done]
  split
  · simp [done]
  have run : s1.cmds = s.cmds := by simp [s1]
  split
  · simp [stop, run]
  split
  · simp [stop, run]
  have counted : s2.cmds = s.cmds := cmds_ite run (by simp [run])
  simp [done, counted]

@[simp] theorem EpState.cmds_memReceived (s : EpState) (i k) : (s.memReceived i k).cmds = s.cmds := by
  unfold EpState.memReceived
  split
  · rfl
  · extract_lets p due
    exact cmds_ite (by simp) rfl

@[simp] theorem EpState.cmds_memForm (s : EpState) (i) : (s.memForm i).cmds = s.cmds := by
  unfold EpState.memForm
  split
  · rfl
  · split
    · rfl
    · split
      · simp
      · split
        · rfl
        · split
          · simp
          · simp only; split <;> simp

@[simp] theorem EpState.cmds_memQueries (s : EpState) : s.memQueries.cmds = s.cmds :=
  cmds_each fun s r => cmds_each fun s k => by simp

@[simp] theorem EpState.cmds_memPortLost (s : EpState) (k) : (s.memPortLost k).cmds = s.cmds := by
  refine (cmds_each fun s r => ?_).trans (EpState.cmds_modColl ..)
  simp only
  split <;> simp

@[simp] theorem EpState.cmds_afterPorts (s : EpState) (b) : (s.afterPorts b).cmds = s.cmds := cmds_each fun s k => s.cmds_memPortLost k

@[simp] theorem EpState.cmds_flushReplies (s : EpState) : s.flushReplies.cmds = s.cmds :=
  (cmds_each fun s _ => s.cmds_putPacket ..).trans (EpState.cmds_mod ..)

@[simp] theorem EpState.cmds_takeXlt (s : EpState) : s.takeXlt.cmds = s.cmds :=
  (cmds_each fun s d => by simp).trans (EpState.cmds_modXlt ..)

@[simp] theorem EpState.cmds_drainModules (s : EpState) : s.drainModules.cmds = s.cmds :=
  cmds_each fun s m => by
    split
    · rfl
    · exact EpState.cmds_notice ..

end Sys2Proof.Machine
end

section
/-!
PROOF. The translation commands through the rest of what a command of the end-point ends with: requests, translations, copy engines, direct accesses and the member of collectives leave them alone.
-/

namespace Sys2Proof.Machine

variable {s : EpState}

/-! ### Sending what waits -/

@[simp] theorem EpState.cmds_sendEreq (s : EpState) (e m) : (s.sendEreq e m).cmds = s.cmds := cmds_of_xlt rfl

@[simp] theorem EpState.cmds_beginWait (s : EpState) (e) : (s.beginWait e).cmds = s.cmds := by
  unfold EpState.beginWait
  split <;> rfl

@[simp] theorem EpState.cmds_endWait (s : EpState) (e) : (s.endWait e).cmds = s.cmds := by
  unfold EpState.endWait
  split <;> simp

@[simp] theorem EpState.cmds_pumpEreq (l : List Ereq) (s : EpState) (k : List Nat) : (s.pumpEreq l k).cmds = s.cmds := by
  induction l generalizing s k with
  | nil => rfl
  | cons e r ih =>
    unfold EpState.pumpEreq
    split
    · exact ih ..
    · split
      · rfl
      · dsimp only
        split <;> simp [ih]

@[simp] theorem EpState.cmds_pumpErsp (l : List LhaMsg) (s : EpState) (k : List Nat) : (s.pumpErsp l k).cmds = s.cmds := by
  induction l generalizing s k with
  | nil => rfl
  | cons m r ih =>
    unfold EpState.pumpErsp
    split
    · exact ih ..
    · dsimp only
      split
      · exact ih ..
      · rw [ih, EpState.cmds_modLha]

@[simp] theorem EpState.cmds_pumpNotes (l : List Note) (s : EpState) : (s.pumpNotes l).cmds = s.cmds := by
  induction l generalizing s with
  | nil => rfl
  | cons n r ih =>
    unfold EpState.pumpNotes
    split
    · rfl
    · dsimp only
      split
      · rfl
      · rw [ih, EpState.cmds_modLha]

@[simp] theorem EpState.cmds_pump (s : EpState) : s.pump.cmds = s.cmds := by
  unfold EpState.pump
  extract_lets s1 s2 s3
  have sent : s1.cmds = s.cmds := cmds_ite rfl (s.cmds_pumpEreq ..)
  calc s3.cmds = s2.cmds := EpState.cmds_pumpNotes ..
    _ = s1.cmds := EpState.cmds_pumpErsp ..
    _ = s.cmds := sent

/-! ### Asking -/

@[simp] theorem EpState.cmds_ereq (s : EpState) (p o n l d) : (s.ereq p o n l d).cmds = s.cmds := cmds_of_xlt rfl
@[simp] theorem EpState.cmds_mrd (s : EpState) (p n l) : (s.mrd p n l).cmds = s.cmds := s.cmds_ereq ..
@[simp] theorem EpState.cmds_mwr (s : EpState) (p n d) : (s.mwr p n d).cmds = s.cmds := s.cmds_ereq ..
@[simp] theorem EpState.cmds_mwrMasked (s : EpState) (p n d k) : (s.mwrMasked p n d k).cmds = s.cmds := s.cmds_ereq ..
@[simp] theorem EpState.cmds_mat (s : EpState) (p n d) : (s.mat p n d).cmds = s.cmds := s.cmds_ereq ..
@[simp] theorem EpState.cmds_mwrBytes (s : EpState) (p n d) : (s.mwrBytes p n d).cmds = s.cmds := s.cmds_mwrMasked ..

/-- A choice between two steps that say whether to go on and both leave the translation commands alone. -/
theorem cmds_ite_fst {c : Prop} [Decidable c] {x y : EpState × Bool} (hx : x.1.cmds = s.cmds) (hy : y.1.cmds = s.cmds) : (if c then x else y).1.cmds = s.cmds := by
  split
  · exact hx
  · exact hy

/-- A run of steps that carry a result beside the state. -/
theorem cmds_each_fst {α β : Type} {l : List α} {f : EpState × β → α → EpState × β} (h : ∀ p x, (f p x).1.cmds = p.1.cmds) (p : EpState × β) : (each l p f).1.cmds = p.1.cmds :=
  each_keep (fun p => p.1.cmds) l p f h

/-! ### Requests at home and answers at the source -/

@[simp] theorem EpState.cmds_startReq (s : EpState) (r) : (s.startReq r).cmds = s.cmds := by
  unfold EpState.startReq
  dsimp only
  split
  · simp
  · split
    · simp
    · split
      · simp
      · split
        · split <;> simp
        · simp

@[simp] theorem EpState.cmds_startWaiting (l : List HomeReq) (s : EpState) : (s.startWaiting l).cmds = s.cmds := by
  induction l generalizing s with
  | nil => rfl
  | cons r l ih =>
    unfold EpState.startWaiting
    rw [ih]
    exact cmds_ite (s.cmds_startReq _) rfl

@[simp] theorem EpState.cmds_answerDup (s : EpState) (r) : (s.answerDup r).cmds = s.cmds := by
  unfold EpState.answerDup
  dsimp only
  split
  · simp
  · split
    · simp
    · split <;> simp

@[simp] theorem EpState.cmds_homeArrive (s : EpState) (k p) : (s.homeArrive k p).cmds = s.cmds := by
  unfold EpState.homeArrive
  split
  · simp
  · dsimp only
    split
    · simp
    · split <;> simp

@[simp] theorem EpState.cmds_reissue (s : EpState) (r) : (s.reissue r).cmds = s.cmds := by
  unfold EpState.reissue
  dsimp only
  split
  · simp
  · split
    · simp
    · split <;> simp

@[simp] theorem EpState.cmds_answerReq (s : EpState) (r p) : (s.answerReq r p).cmds = s.cmds := by
  unfold EpState.answerReq
  extract_lets st s1 s2
  split
  · have filled : s1.cmds = s.cmds := cmds_ite (s.cmds_rlcAnswer ..) rfl
    have purged : s2.cmds = s.cmds := cmds_ite ((s1.cmds_rlcPurge _).trans filled) filled
    simp [purged]
  · split
    · simp
    · split <;> simp

@[simp] theorem EpState.cmds_response (s : EpState) (p) : (s.response p).cmds = s.cmds := by
  unfold EpState.response
  split
  · simp
  · split <;> simp

@[simp] theorem EpState.cmds_takeLoop (s : EpState) : s.takeLoop.cmds = s.cmds := cmds_each fun s p => s.cmds_response p

/-! ### Translation -/

@[simp] theorem EpState.cmds_startWalk (s : EpState) (n v u k r) : (s.startWalk n v u k r).cmds = s.cmds := by simp [EpState.startWalk, EpState.readEntry]

@[simp] theorem EpState.cmds_translate (s : EpState) (u n v) : (s.translate u n v).2.cmds = s.cmds := by
  unfold EpState.translate
  split
  · rfl
  · split
    · rfl
    · split
      · rfl
      · split
        · rfl
        · split
          · simp
          · split
            · rfl
            · split
              · rfl
              · dsimp only; split <;> simp

/-- The state that a translation leaves, whatever it found. -/
theorem cmds_translated {u n v} {t : Trans} {s1 : EpState} (e : s.translate u n v = (t, s1)) : s1.cmds = s.cmds := by
  rw [← s.cmds_translate u n v, e]

@[simp] theorem EpState.cmds_prefetchRun (l : List (Nat × Nat)) (s : EpState) : (s.prefetchRun l).cmds = s.cmds := by
  induction l generalizing s with
  | nil => rfl
  | cons x l ih =>
    unfold EpState.prefetchRun
    dsimp only
    split
    · simp [ih]
    · split
      · simp [ih]
      · split
        · rfl
        · simp [ih]

@[simp] theorem EpState.cmds_prefetchGo (s : EpState) : s.prefetchGo.cmds = s.cmds := s.cmds_prefetchRun ..

@[simp] theorem EpState.cmds_xqRecords (s : EpState) (n) : (s.xqRecords n).cmds = s.cmds := by
  induction n generalizing s with
  | zero => rfl
  | succ n ih =>
    unfold EpState.xqRecords
    split
    · rfl
    · dsimp only
      split
      · rfl
      · split
        · rfl
        · simp [ih]

/-! ### Copy engines -/

@[simp] theorem EpState.cmds_ceFetch (s : EpState) (e) : (s.ceFetch e).cmds = s.cmds := by
  unfold EpState.ceFetch
  extract_lets c half ctl base slot idx
  split
  · rfl
  · simp

@[simp] theorem EpState.cmds_unitOn (s : EpState) (p u) : (s.unitOn p u).1.cmds = s.cmds := by
  unfold EpState.unitOn
  dsimp only
  split
  · split <;> simp
  · split
    · rfl
    · split
      · simp
      · split <;> simp

@[simp] theorem EpState.cmds_pieceLines (s : EpState) (i f n d) : (s.pieceLines i f n d).cmds = s.cmds := by
  unfold EpState.pieceLines
  extract_lets s1
  split
  · simp [s1]
  · extract_lets r
    have hr : r.1.cmds = s.cmds := by
      refine (cmds_each_fst (fun p u => ?_) _).trans (s.cmds_modPiece ..)
      exact p.1.cmds_unitOn ..
    split
    · exact hr
    · simp [hr]

@[simp] theorem EpState.cmds_issuePiece (s : EpState) (e j sl dl sv dv at_ len last) : (s.issuePiece e j sl dl sv dv at_ len last).cmds = s.cmds := by
  unfold EpState.issuePiece
  extract_lets sa da id us nl rs p s0 s1 r1 s2 s3
  have hr : r1.1.cmds = s.cmds := by
    refine (cmds_each_fst (fun x r => ?_) _).trans (cmds_of_xlt rfl)
    dsimp only
    split
    · split <;> simp
    · simp
  have h2 : s2.1.cmds = s.cmds := by
    refine (cmds_each_fst (fun x u => ?_) _).trans hr
    dsimp only
    split <;> simp
  refine (cmds_each fun s x => s.cmds_pieceLines ..).trans ?_
  simp [s3, h2]

@[simp] theorem EpState.cmds_copyStep (s : EpState) (e k) : (s.copyStep e k).1.cmds = s.cmds := by
  unfold EpState.copyStep
  split
  · rfl
  · split
    · rfl
    · dsimp only
      split
      next s1 h1 => simp [cmds_translated h1]
      next s1 h1 => simp [cmds_translated h1]
      next sl s1 h1 =>
        have m1 := cmds_translated h1
        split
        next s2 h2 => exact (cmds_translated h2).trans m1
        next s2 h2 => simp [cmds_translated h2, m1]
        next dl s2 h2 =>
          have m2 := (cmds_translated h2).trans m1
          refine cmds_ite_fst ?_ (cmds_ite_fst ?_ ?_)
          · simp [m2]
          · simp [m2]
          · simp [m2]

@[simp] theorem EpState.cmds_copyRun (s : EpState) (e k n) : (s.copyRun e k n).cmds = s.cmds := by
  induction n generalizing s with
  | zero => rfl
  | succ n ih =>
    have step := s.cmds_copyStep e k
    unfold EpState.copyRun
    split <;> rename_i hs <;> rw [hs] at step
    · exact (ih _).trans step
    · exact step

@[simp] theorem EpState.cmds_atomicTry (s : EpState) (e k) : (s.atomicTry e k).cmds = s.cmds := by
  unfold EpState.atomicTry
  split
  · rfl
  · dsimp only
    split
    next s1 h1 => simp [cmds_translated h1]
    next s1 h1 => simp [cmds_translated h1]
    next sl s1 h1 =>
      have m1 := cmds_translated h1
      split
      next s2 h2 => exact (cmds_translated h2).trans m1
      next s2 h2 => simp [cmds_translated h2, m1]
      next dl s2 h2 =>
        have m2 := (cmds_translated h2).trans m1
        split
        · simp [m2]
        · split
          · simp [m2]
          · split
            · simp [m2]
            · rw [EpState.cmds_throughFor, EpState.cmds_mrd]
              exact (EpState.cmds_issue ..).trans m2

@[simp] theorem EpState.cmds_flagTry (s : EpState) (e k) : (s.flagTry e k).cmds = s.cmds := by
  unfold EpState.flagTry
  split
  · rfl
  · dsimp only
    split
    next s1 h1 => exact cmds_translated h1
    next s1 h1 => simp [cmds_translated h1]
    next l s1 h1 =>
      have m1 := cmds_translated h1
      split
      · simp [m1]
      · split
        · split <;> simp [m1]
        · simp [m1]

@[simp] theorem EpState.cmds_pieceRead (s : EpState) (p f n d) : (s.pieceRead p f n d).cmds = s.cmds := by
  unfold EpState.pieceRead
  split <;> simp

@[simp] theorem EpState.cmds_atomicDone (s : EpState) (e k d) : (s.atomicDone e k d).cmds = s.cmds := by
  unfold EpState.atomicDone
  split
  · rfl
  · dsimp only
    split <;> simp

@[simp] theorem EpState.cmds_backStep (s : EpState) (e k) : (s.backStep e k).1.cmds = s.cmds := by
  unfold EpState.backStep
  split
  · rfl
  · split
    · rfl
    · dsimp only
      split
      next s1 h1 => exact cmds_translated h1
      next s1 h1 => simp [cmds_translated h1]
      next l s1 h1 =>
        have m1 := cmds_translated h1
        split <;> simp [m1]

@[simp] theorem EpState.cmds_backRun (s : EpState) (e k n) : (s.backRun e k n).cmds = s.cmds := by
  induction n generalizing s with
  | zero => rfl
  | succ n ih =>
    have step := s.cmds_backStep e k
    unfold EpState.backRun
    split <;> rename_i hs <;> rw [hs] at step
    · exact (ih _).trans step
    · exact step

@[simp] theorem EpState.cmds_backSettle (s : EpState) (e) : (s.backSettle e).cmds = s.cmds := by
  refine cmds_each fun s j => ?_
  dsimp only
  split
  · split
    · simp
    · split
      · split <;> simp
      · rfl
  · split <;> simp

@[simp] theorem EpState.cmds_qStep (s : EpState) (e k) : (s.qStep e k).1.cmds = s.cmds := by
  unfold EpState.qStep
  split
  · rfl
  · extract_lets asid i st va n
    split
    · rfl
    · split
      · split
        next s1 h1 => exact cmds_translated h1
        next s1 h1 => simp [cmds_translated h1]
        next l s1 h1 =>
          have m1 := cmds_translated h1
          split
          · simp [m1]
          · split
            · simp [m1]
            · split
              · simp [m1]
              · split
                next s2 h2 => exact (cmds_translated h2).trans m1
                next s2 h2 => simp [cmds_translated h2, m1]
                next r s2 h2 =>
                  have m2 := (cmds_translated h2).trans m1
                  split
                  · simp [m2]
                  · split <;> simp [m2]
      · split
        · split
          · simp
          · split
            next s1 h1 => exact cmds_translated h1
            next s1 h1 => simp [cmds_translated h1]
            next l s1 h1 =>
              have m1 := cmds_translated h1
              split <;> simp [m1]
        · split
          · split
            · rfl
            · split <;> simp
          · split
            · simp
            · split
              next s1 h1 => exact cmds_translated h1
              next s1 h1 => simp [cmds_translated h1]
              next l s1 h1 =>
                have m1 := cmds_translated h1
                extract_lets b last us s2
                have m2 : s2.cmds = s.cmds := (EpState.cmds_modJob ..).trans m1
                split
                · simp [m1]
                · split
                  · simp [m1]
                  · refine (cmds_each fun s u => ?_).trans m2
                    extract_lets bs p whole op ln
                    split
                    · split <;> simp
                    · simp

@[simp] theorem EpState.cmds_qRun (s : EpState) (e k n) : (s.qRun e k n).cmds = s.cmds := by
  induction n generalizing s with
  | zero => rfl
  | succ n ih =>
    have step := s.cmds_qStep e k
    unfold EpState.qRun
    split <;> rename_i hs <;> rw [hs] at step
    · exact (ih _).trans step
    · exact step

@[simp] theorem EpState.cmds_ceRun (s : EpState) (e) : (s.ceRun e).cmds = s.cmds := by
  refine cmds_each fun s j => ?_
  split
  · rfl
  · split <;> simp

@[simp] theorem EpState.cmds_engineGo (s : EpState) (e) : (s.engineGo e).cmds = s.cmds := by simp [EpState.engineGo]

/-! ### Direct accesses -/

@[simp] theorem EpState.cmds_startAreq (s : EpState) (m) : (s.startAreq m).cmds = s.cmds := by
  unfold EpState.startAreq
  extract_lets msg unit go op
  have began (t : EpState) : (go t).cmds = t.cmds := rfl
  split
  · exact began s
  · split
    next s1 h1 => exact cmds_translated h1
    next s1 h1 => simp [cmds_translated h1]
    next l s1 h1 =>
      have m1 := cmds_translated h1
      extract_lets pa q s2 s3
      split
      · simp [m1]
      · split
        · split
          · simp [m1]
          · rw [EpState.cmds_issue, began, m1]
        · split
          · simp [m1]
          · split
            · simp [m1]
            · have m2 : s2.cmds = s.cmds := (began s1).trans m1
              simp only [EpState.cmds_through, s3]
              split
              · simp [m2]
              · split
                · simp [m2]
                · split <;> simp [m2]

@[simp] theorem EpState.cmds_tryAreqs (l : List Areq) (s : EpState) (k) : (s.tryAreqs l k).cmds = s.cmds := by
  induction l generalizing s k with
  | nil => rfl
  | cons m l ih =>
    unfold EpState.tryAreqs
    split
    · exact ih ..
    · split
      · exact ih ..
      · simp [ih]

/-! ### The member of collectives -/

@[simp] theorem EpState.cmds_collFetch (s : EpState) : s.collFetch.cmds = s.cmds := by
  unfold EpState.collFetch
  dsimp only
  split
  · rfl
  · simp

@[simp] theorem EpState.cmds_memCheck (s : EpState) (i n) : (s.memCheck i n).cmds = s.cmds := by
  induction n generalizing s with
  | zero => rfl
  | succ n ih =>
    unfold EpState.memCheck
    split
    · rfl
    · split
      · rfl
      · split
        · simp
        · split
          next s1 h1 => exact cmds_translated h1
          next s1 h1 => simp [cmds_translated h1]
          next l s1 h1 =>
            have m1 := cmds_translated h1
            split
            · simp [ih, m1]
            · split
              · simp [m1]
              · simp [ih, m1]

@[simp] theorem EpState.cmds_memAsk (s : EpState) (i k n) : (s.memAsk i k n).cmds = s.cmds := by
  induction n generalizing s with
  | zero => rfl
  | succ n ih =>
    unfold EpState.memAsk
    split
    · rfl
    · dsimp only
      split
      · split
        · simp
        · rfl
      · split
        next s1 h1 => exact cmds_translated h1
        next s1 h1 => simp [cmds_translated h1]
        next l s1 h1 =>
          have m1 := cmds_translated h1
          split
          · simp [m1]
          · simp [ih, m1]
      · rfl

@[simp] theorem EpState.cmds_memSend (s : EpState) (i k n) : (s.memSend i k n).cmds = s.cmds := by
  induction n generalizing s with
  | zero => rfl
  | succ n ih =>
    unfold EpState.memSend
    split
    · rfl
    · dsimp only
      split
      · rfl
      · split
        · simp [ih]
        · split
          · rfl
          · split
            · simp [ih]
            · split <;> simp

/-- A block written in units, each an access of the member's. -/
theorem cmds_units {α : Type} (l : List α) (s : EpState) {p : Purp} {q : α → Nat} {b : α → List Byte} {c : α → Prop} [DecidablePred c] {sp u} :
    (each l s (fun s x => (if c x then s.mwr p (q x) (b x) else s.mwrBytes p (q x) (b x)).through sp u)).cmds = s.cmds :=
  cmds_each fun s x => by split <;> simp

@[simp] theorem EpState.cmds_memWrite (s : EpState) (i k n) : (s.memWrite i k n).cmds = s.cmds := by
  induction n generalizing s with
  | zero => rfl
  | succ n ih =>
    unfold EpState.memWrite
    split
    · rfl
    · split
      · rfl
      · dsimp only
        split
        next s1 h1 => exact cmds_translated h1
        next s1 h1 => simp [cmds_translated h1]
        next l s1 h1 =>
          have m1 := cmds_translated h1
          split
          · simp [m1]
          · rw [ih, cmds_units, EpState.cmds_modMemPlane, m1]

@[simp] theorem EpState.cmds_memResid (s : EpState) (i n) : (s.memResid i n).cmds = s.cmds := by
  induction n generalizing s with
  | zero => rfl
  | succ n ih =>
    unfold EpState.memResid
    split
    · rfl
    · split
      · rfl
      · dsimp only
        split
        next s1 h1 => exact cmds_translated h1
        next s1 h1 => simp [cmds_translated h1]
        next l s1 h1 =>
          have m1 := cmds_translated h1
          split
          · simp [m1]
          · rw [ih, cmds_units, EpState.cmds_modMem, m1]

@[simp] theorem EpState.cmds_memRecord (s : EpState) : s.memRecord.cmds = s.cmds := by
  unfold EpState.memRecord
  split
  · rfl
  · dsimp only
    split <;> simp

@[simp] theorem EpState.cmds_memGo (s : EpState) (r) : (s.memGo r).cmds = s.cmds := by
  unfold EpState.memGo
  extract_lets s1 s2
  have h1 : s1.cmds = s.cmds := by
    simp only [s1]
    split <;> simp
  have h2 : s2.cmds = s.cmds := (cmds_each fun s k => by simp).trans h1
  simp [h2]

@[simp] theorem EpState.cmds_memSettle (s : EpState) : s.memSettle.cmds = s.cmds :=
  (EpState.cmds_memRecord _).trans ((cmds_each fun s r => s.cmds_memGo r).trans (by simp))

/-! ### Requests that have ended -/

@[simp] theorem EpState.cmds_requestDone (s : EpState) (d) : (s.requestDone d).cmds = s.cmds := by
  unfold EpState.requestDone
  split <;> simp

@[simp] theorem EpState.cmds_takeDone (s : EpState) : s.takeDone.cmds = s.cmds :=
  (cmds_each fun s d => s.cmds_requestDone d).trans (by simp)

end Sys2Proof.Machine
end

section
/-!
PROOF. Two commands of one slot: a copy that is complete rewrites each of them by its own leaves, not by the leaves of the first.
-/

namespace Sys2Proof.Machine

/-- Every command of a slot rewrites, with so many leaves left. -/
def Rewriting (slot n : Nat) (l : List XqCmd) : Prop := ∀ d ∈ l, d.slot = slot → d.st = .rewriting ∧ d.left = n

section
variable {slot n : Nat} {s : EpState}

theorem Rewriting.endCmd (h : Rewriting slot n s.cmds) (c : XqCmd) (status unit detail : Nat) : Rewriting slot n (s.endCmd c status unit detail).cmds := by
  have left : (s.endCmd c status unit detail).cmds = s.cmds.filter (fun d => d.slot != c.slot) := by
    rw [EpState.endCmd, EpState.cmds_modXlt]
    cases c.fromMgmt <;> rfl
  rw [left]
  exact fun d hd => h d (List.mem_of_mem_filter hd)

theorem Rewriting.noLeaves (h : Rewriting slot n s.cmds) (c : XqCmd) : Rewriting slot n (s.noLeaves c).cmds := by
  unfold EpState.noLeaves
  split <;> exact h.endCmd _ _ _ _

/-- The block point of a command of another slot changes commands of that slot only. -/
theorem Rewriting.blockCmd (h : Rewriting slot n s.cmds) (c : XqCmd) (hc : c.slot ≠ slot) : Rewriting slot n (s.blockCmd c).cmds := by
  intro d hd hs
  obtain ⟨b, hb, rfl⟩ := List.mem_map.mp hd
  by_cases hk : b.slot = c.slot
  · rw [if_pos hk] at hs
    exact absurd (hk.symm.trans hs) hc
  · rw [if_neg hk] at hs ⊢
    exact h b hb hs

theorem Rewriting.cmdNext (h : Rewriting slot n s.cmds) (k : Nat) (hk : k ≠ slot) : Rewriting slot n (s.cmdNext k).cmds := by
  unfold EpState.cmdNext
  split
  · exact h
  next c hc =>
    have hs : c.slot = k := by simpa using List.find?_some hc
    split
    · split
      · split
        · exact h.noLeaves c
        · split
          · exact h
          · rw [EpState.cmds_startWalk]
            exact h
      · exact h.noLeaves c
    · split
      · exact h.endCmd _ _ _ _
      · dsimp only
        split
        · exact h.endCmd _ _ _ _
        · split
          · exact h.endCmd _ _ _ _
          · split
            · exact h.endCmd _ _ _ _
            · exact h.blockCmd c (hs ▸ hk)

/-- A command that rewrites does not walk, so that those that wait for a walk slot are of other slots. -/
theorem Rewriting.walkCmds (h : Rewriting slot n s.cmds) : Rewriting slot n s.walkCmds.cmds := by
  have steps : ∀ (l : List XqCmd) (t : EpState), (∀ c ∈ l, c.slot ≠ slot) → Rewriting slot n t.cmds → Rewriting slot n (each l t fun t c => t.cmdNext c.slot).cmds := by
    intro l
    induction l with
    | nil => exact fun t _ ht => ht
    | cons c l ih =>
      intro t hl ht
      rw [each_cons]
      exact ih _ (fun d hd => hl d (List.mem_cons_of_mem _ hd)) (ht.cmdNext _ (hl c List.mem_cons_self))
  refine steps _ s (fun c hc hs => ?_) h
  obtain ⟨hc, walks⟩ := List.mem_filter.mp hc
  simp [(h c hc hs).1] at walks

theorem Rewriting.xqRefuse (h : Rewriting slot n s.cmds) (k : Nat) : Rewriting slot n (s.xqRefuse k).cmds := by
  induction k generalizing s with
  | zero => exact h
  | succ k ih =>
    unfold EpState.xqRefuse
    split
    · split
      · exact ih (h.endCmd _ _ _ _)
      · exact h
    · exact h

theorem Rewriting.settle (h : Rewriting slot n s.cmds) : Rewriting slot n s.settle.cmds := by
  unfold EpState.settle
  extract_lets s1 s2 s3 s4 s5
  have h3 : s3.cmds = s.cmds := (cmds_each fun s x => s.cmds_engineGo _).trans (by simp [s2, s1])
  have h4 : Rewriting slot n s4.cmds := by
    rw [EpState.cmds_prefetchGo]
    refine Rewriting.walkCmds ?_
    rw [EpState.cmds_takeDone, EpState.cmds_memSettle, h3]
    exact h
  have h5 : Rewriting slot n s5.cmds := by
    rw [EpState.cmds_takeXlt, EpState.cmds_xqRecords]
    exact h4.xqRefuse 64
  simpa using h5

/-- What a command of the end-point ends with leaves the commands of a slot rewriting. -/
theorem Rewriting.finish (h : Rewriting slot n s.cmds) (b : EpState) : Rewriting slot n (s.finish b).cmds := by
  rw [EpState.finish, EpState.cmds_flushReplies]
  refine Rewriting.settle ?_
  rw [EpState.cmds_afterPorts]
  exact h

end

/-- A command of slot 0 that has copied its empty range, with one leaf. -/
def copied : XqCmd := { slot := 0, st := .copying, leaves := [{ asid := 0, va := 0, bytes := 65536, global_ := false, w := true, at_ := 0, target := 0 }] }

/-- An end-point that works, whose second command has the slot of the first and no leaf. -/
def copiedTwice : State := { ep := { c := { part := .ep, biv := { st := .awake, booted := true } }, xlt := { cmds := [copied, { slot := 0, st := .copying }] } } }

theorem copiedTwice_works : copiedTwice.heldPart .ep = false := by decide +kernel

theorem copiedTwice_finds : copiedTwice.ep.xlt.cmds.find? (fun d => d.slot == copied.slot) = some copied := by decide +kernel

/-- The second command is left with no leaf to rewrite. -/
theorem copiedTwice_ends : ∃ d ∈ ((copiedTwice.ep.migrateCopyDone 0).finish copiedTwice.ep).cmds, d.slot = 0 ∧ d.left = 0 := by decide +kernel

theorem copiedTwice_done : exec (.migrateCopyDone 0) copiedTwice = .next (copiedTwice.afterEp (copiedTwice.ep.migrateCopyDone 0)) :=
  (exec_migrateCopyDone 0 copiedTwice).trans (onEp_after copiedTwice _ copiedTwice_works)

/-- No end-point whose commands of slot 0 all have one leaf to rewrite ends in the same state. -/
theorem copiedTwice_ne {t : EpState} (h : Rewriting 0 1 t.cmds) : exec (.migrateCopyDone 0) copiedTwice ≠ .next (copiedTwice.afterEp t) := by
  rw [copiedTwice_done]
  intro same
  have ends := congrArg State.ep (Host.Outcome.next.inj same)
  rw [State.afterEp_ep, State.afterEp_ep] at ends
  obtain ⟨d, hd, slot, left⟩ := copiedTwice_ends
  rw [ends] at hd
  have one : d.left = 1 := (h.finish _ d hd slot).2
  omega

/-- Refutes O44, in its clause about the end of a copy: nothing in a state keeps two commands apart in their slots, and MIGRATE_COPY_DONE makes every command of
the slot rewrite its own leaves. Beside a first command of one leaf, a second one without leaves is left with none to rewrite, while the statement wants one. -/
theorem not_translationCommandsBlockDropAndEnd : ¬ Obligations.TranslationCommandsBlockDropAndEnd := by
  unfold Obligations.TranslationCommandsBlockDropAndEnd
  rintro ⟨-, -, -, -, -, -, progress⟩
  obtain ⟨-, -, -, -, -, -, complete⟩ := progress copiedTwice copied copiedTwice_works copiedTwice_finds
  obtain ⟨t, ends, -, -, -, -, rewrites⟩ := complete rfl (by decide)
  exact copiedTwice_ne (rewrites (by decide)) ends

end Sys2Proof.Machine
end

section
/-!
PROOF. The modules of the accelerator: how one is offered, accepted and given credits, how one is lost and rejoins, and the quiesce that the accelerator or the last loss begins (R251 to R258).
-/

namespace Sys2Proof.Machine

/-! ### What the begin of a quiesce leaves of the host attachment -/

theorem EpState.toWire_encrypts (e : EpState) (p : Packet) (r : Packet × EpState) (h : e.toWire p = some r) : ∃ c, r.2 = { e with c := c } := by
  unfold EpState.toWire at h
  split at h
  · split at h
    · exact ⟨_, congrArg Prod.snd (Option.some.inj h).symm⟩
    · contradiction
  · exact ⟨e.c, congrArg Prod.snd (Option.some.inj h).symm⟩

/-- A packet put into an egress queue changes what both parts hold and what waits for the cipher, and nothing else. -/
theorem EpState.egress_sends (e : EpState) (k q : Nat) (x : QEntry) : ∃ c clear, e.egress k q x = { e with c := c, clear := clear } := by
  unfold EpState.egress
  split
  case h_1 r h =>
    obtain ⟨c, hc⟩ := e.toWire_encrypts _ r h
    exact ⟨_, e.clear, by rw [hc]; rfl⟩
  case h_2 => exact ⟨e.c, _, rfl⟩

theorem EpState.lha_putPacket (e : EpState) (k : Nat) (p : Packet) (x : Bool) : (e.putPacket k p x).lha = e.lha := by
  unfold EpState.putPacket
  extract_lets paced
  obtain ⟨c, clear, h⟩ := e.egress_sends k (e.c.queueOf k p x) { pkt := p, at_ := e.c.now, released := !paced }
  rw [h]

theorem EpState.lha_abortPlanes (e : EpState) (id cause : Nat) (which : Nat → MemPlane → Bool) : (e.abortPlanes id cause which).lha = e.lha := by
  unfold EpState.abortPlanes
  split
  · rfl
  · exact each_keep EpState.lha _ _ _ fun s _ => s.lha_putPacket ..

theorem EpState.lha_memQuiesce (e : EpState) : e.memQuiesce.lha = e.lha := each_keep EpState.lha _ _ _ fun s _ => s.lha_abortPlanes ..

theorem EpState.lha_ceAbort (e : EpState) (n : Nat) : (e.ceAbort n).lha = e.lha := by
  unfold EpState.ceAbort
  split <;> rfl

/-- The begin of a quiesce marks it, and whether QUIESCE_DONE is owed; the rest of the host attachment stays. -/
theorem EpState.beginQuiesce_lha (e : EpState) (done : Bool) : (e.beginQuiesce done).lha = { e.lha with quiescing := true, owesDone := done } := by
  unfold EpState.beginQuiesce
  extract_lets s1 s2 s3 arms s4
  have h1 : s1.lha = e.lha := EpState.lha_memQuiesce _
  have h2 : s2.lha = s1.lha := each_keep EpState.lha _ _ _ fun s n => s.lha_ceAbort n
  have h3 : s3.lha = s2.lha := each_keep EpState.lha _ _ _ fun _ _ => rfl
  have h4 : s4.lha = s3.lha := each_keep EpState.lha _ _ _ fun _ _ => rfl
  rw [EpState.modLha_lha, h4, h3, h2, h1]

theorem EpState.beginQuiesce_keeps (e : EpState) (done : Bool) :
    let l := (e.beginQuiesce done).lha
    l.attached = e.lha.attached ∧ l.trained = e.lha.trained ∧ l.pauseEnd = e.lha.pauseEnd ∧ l.lost = e.lha.lost ∧ l.draining = e.lha.draining := by
  rw [EpState.beginQuiesce_lha]
  exact ⟨rfl, rfl, rfl, rfl, rfl⟩

/-! ### `MODULE_TRAINED` and `OFFER_RETRY` (R252) -/

section
variable (e : EpState) (m : Nat)

/-- A module has trained, and runs at 32 GT/s or not. -/
def EpState.noteTrained (e : EpState) (m : Nat) (fast : Bool) : EpState :=
  e.modLha (fun l => { l with trained := if l.trained.contains m then l.trained else l.trained ++ [m], fast := l.fast.filter (· != m) ++ (if fast then [m] else []) })

theorem EpState.noteTrained_trained (fast : Bool) : (e.noteTrained m fast).lha.trained.contains m = true := by
  simp only [EpState.noteTrained, EpState.modLha_lha]
  split
  · assumption
  · simp

theorem EpState.noteTrained_fast (fast : Bool) : (e.noteTrained m fast).lha.fast.contains m = fast := by
  cases fast <;> simp [EpState.noteTrained]

theorem EpState.moduleTrained_offers (fast : Bool) (hm : e.mayAttach m = true) (ha : e.lha.attached.contains m = false) :
    e.moduleTrained m fast = (e.noteTrained m fast).sendOffer m := if_pos (by rw [hm, ha]; rfl)

theorem EpState.moduleTrained_silent (fast : Bool) (h : e.mayAttach m ≠ true ∨ e.lha.attached.contains m = true) :
    e.moduleTrained m fast = e.noteTrained m fast := by
  refine if_neg ?_
  rcases h with h | h <;> simp_all

/-- What `t` shows of an end-point `e` that has learnt that a module trained: one that may attach and is not attached is offered. -/
def EpState.Trained (e t : EpState) (m : Nat) (fast : Bool) : Prop :=
  t.lha.trained.contains m = true ∧ t.lha.fast.contains m = fast ∧ t.lha.attached = e.lha.attached ∧ t.c = e.c ∧
  ((¬flag (e.c.rd 0x80000) (4 + m) = true ∨ e.lha.attached.contains m = true) → t.lha.out = e.lha.out) ∧
  (flag (e.c.rd 0x80000) (4 + m) = true → e.lha.attached.contains m = false →
    Tab.find t.lha.offered m = some e.c.pick ∧ ∃ o : LhaMsg, t.lha.out = e.lha.out ++ [o] ∧ o.module = m ∧ o.chan = 7 ∧ o.mop = 0x72 ∧ o.len = 1)

theorem EpState.moduleTrained_shows (fast : Bool) : e.Trained (e.moduleTrained m fast) m fast := by
  have trained := e.noteTrained_trained m fast
  have speed := e.noteTrained_fast m fast
  by_cases h : e.mayAttach m ≠ true ∨ e.lha.attached.contains m = true
  · rw [e.moduleTrained_silent m fast h]
    refine ⟨trained, speed, rfl, rfl, fun _ => rfl, fun hm ha => ?_⟩
    rcases h with h | h
    · exact absurd hm h
    · exact absurd (ha.symm.trans h) Bool.false_ne_true
  · obtain ⟨hm, ha⟩ := not_or.mp h
    rw [e.moduleTrained_offers m fast (not_not.mp hm) (Bool.eq_false_iff.mpr ha)]
    exact ⟨trained, speed, rfl, rfl, fun k => absurd k h, fun _ _ => ⟨Tab.find_put_same _ _ _, _, rfl, rfl, rfl, rfl, rfl⟩⟩

theorem EpState.offerRetry_unoffered (h : Tab.find e.lha.offered m = none) : e.offerRetry m = e := by
  simp only [EpState.offerRetry, h]

variable (at_ : Nat) (h : Tab.find e.lha.offered m = some at_)
include h

theorem EpState.offerRetry_offered : e.offerRetry m =
    if flag (e.c.rd 0x80000) (4 + m) = true ∧ e.lha.trained.contains m = true ∧ e.lha.attached.contains m = false ∧ e.lha.joining.contains m = false ∧ at_ + 1000 ≤ e.c.pick
    then e.sendOffer m else e := by
  simp only [EpState.offerRetry, h, EpState.mayAttach, Bool.not_eq_true']

end

/-! ### `ACCEPT` (R252, R258) -/

/-- How the model asks whether a message is not a legal one of a kind. -/
theorem notOfKind_iff (m : LhaMsg) (mop : Nat) : ¬(lhaOther m = true ∧ m.mop = mop) ↔ (!(lhaOther m && m.mop == mop)) = true := by
  rw [Bool.not_eq_true', Bool.eq_false_iff, Ne, Bool.and_eq_true, beq_iff_eq]

theorem ofKind (m : LhaMsg) (mop : Nat) (ho : lhaOther m = true) (hp : m.mop = mop) : ¬(!(lhaOther m && m.mop == mop)) = true :=
  (notOfKind_iff m mop).not.mp (not_not.mpr ⟨ho, hp⟩)

/-- A module joins the attached ones, in ascending order, with its notice. -/
theorem EpState.attach_eq (e : EpState) (m : Nat) :
    ∃ notes, e.attach m = e.modLha (fun l => { l with attached := (List.range 4).filter (fun k => k == m || l.attached.contains k), notes := notes }) :=
  (EpState.notice_eq ..).imp fun _ h => h

theorem EpState.attach_attached (e : EpState) (m k : Nat) (hk : k < 4) : (e.attach m).lha.attached.contains k = (k == m || e.lha.attached.contains k) := by
  obtain ⟨notes, h⟩ := e.attach_eq m
  rw [h, EpState.modLha_lha, Bool.eq_iff_iff]
  simp [hk]

theorem EpState.lhaEvent_eq (e : EpState) (cause m : Nat) (hm : m < 4) : e.lhaEvent cause m = e.mod (fun c => c.event 0x80008 (cause * 256 + m)) := by
  rw [EpState.lhaEvent, Nat.mod_eq_of_lt hm]

/-- The end-point awaits the answer of a module to its OFFER. -/
def EpState.awaits (e : EpState) (m : Nat) : Prop :=
  flag (e.c.rd 0x80000) (4 + m) = true ∧ (Tab.find e.lha.offered m).isSome = true ∧ e.lha.trained.contains m = true ∧ e.lha.attached.contains m = false ∧
    e.lha.joining.contains m = false

/-- The cell of an ACCEPT names its module and has nothing in its reserved bits (Table 6.10). -/
def LhaMsg.acceptCell (m : LhaMsg) : Prop := bits (cellOf m.data 0) 123 122 = m.module ∧ bits (cellOf m.data 0) 121 96 = 0

/-- The credits that an ACCEPT grants to a channel, from the bit of its cell at which they stand. -/
def LhaMsg.grant (m : LhaMsg) (lo : Nat) : ChanCred := { hdr := bits (cellOf m.data 0) (lo + 31) (lo + 16), cells := bits (cellOf m.data 0) (lo + 15) lo }

/-- The end-point has taken the version and the credits of an ACCEPT. -/
def EpState.granted (e : EpState) (m : LhaMsg) (version : Nat) : EpState :=
  e.modLha (fun l =>
    { l with
      offered := Tab.del l.offered m.module, version := version,
      cred := Tab.put (Tab.put (Tab.put l.cred (3 * m.module) (m.grant 64)) (3 * m.module + 1) (m.grant 32)) (3 * m.module + 2) (m.grant 0) })

/-- A module that was lost has been accepted again: it rejoins when a pause of 100 picks ends. -/
def EpState.rejoining (e : EpState) (m : Nat) : EpState :=
  (e.modLha (fun l => { l with lost := l.lost.filter (· != m), joining := l.joining ++ [m], pauseEnd := some (e.c.pick + 100) })).lhaEvent 4 m

theorem EpState.not_awaits_iff (e : EpState) (m : Nat) : ¬e.awaits m ↔
    (!e.mayAttach m) = true ∨ (Tab.find e.lha.offered m).isNone = true ∨ (!e.lha.trained.contains m) = true ∨ e.lha.attached.contains m = true ∨
      e.lha.joining.contains m = true := by
  simp only [EpState.awaits, EpState.mayAttach, not_and_or, Bool.not_eq_true', Bool.not_eq_true, Bool.not_eq_false, Option.isSome_eq_false_iff]

section
variable (e : EpState) (m : LhaMsg)

theorem EpState.accept_bad (h : ¬(lhaOther m = true ∧ m.mop = 0x73)) : e.accept m = e.lhaBad m :=
  if_pos ((notOfKind_iff m _).mp h)

variable (hm : m.module < 4) (ho : lhaOther m = true) (hp : m.mop = 0x73)
include hm ho hp

theorem EpState.accept_malformed (hc : ¬m.acceptCell) : e.accept m = e.malformed m 0 := by
  refine (if_neg (ofKind m _ ho hp)).trans (if_pos ?_)
  rw [Nat.mod_eq_of_lt hm]
  exact not_and_or.mp hc

variable (hc : m.acceptCell)
include hc

theorem EpState.accept_unawaited (ha : ¬e.awaits m.module) : e.accept m = e := by
  refine (if_neg (ofKind m _ ho hp)).trans ((if_neg ?_).trans (if_pos ?_)) <;> rw [Nat.mod_eq_of_lt hm]
  · exact not_or.mpr (hc.imp not_not.mpr not_not.mpr)
  · exact (e.not_awaits_iff m.module).mp ha

variable (ha : e.awaits m.module)
include ha

theorem EpState.accept_awaited : e.accept m =
    if min 1 (bits (cellOf m.data 0) 127 124) = 0 then (e.modLha (fun l => { l with offered := Tab.del l.offered m.module })).lhaEvent 3 m.module
    else if e.lha.lost.contains m.module then (e.granted m (min 1 (bits (cellOf m.data 0) 127 124))).rejoining m.module
    else (e.granted m (min 1 (bits (cellOf m.data 0) 127 124))).attach m.module := by
  unfold EpState.accept
  simp only [Nat.mod_eq_of_lt hm]
  refine (if_neg (ofKind m _ ho hp)).trans ((if_neg ?_).trans (if_neg ?_))
  · exact not_or.mpr (hc.imp not_not.mpr not_not.mpr)
  · exact fun h => (e.not_awaits_iff m.module).mpr h ha

/-- An ACCEPT of version 0 leaves its module unattached, with an event. -/
theorem EpState.accept_declined (hv : bits (cellOf m.data 0) 127 124 = 0) :
    e.accept m = (e.modLha (fun l => { l with offered := Tab.del l.offered m.module })).lhaEvent 3 m.module := by
  rw [e.accept_awaited m hm ho hp hc ha, if_pos (by rw [hv]; rfl)]

variable (hv : bits (cellOf m.data 0) 127 124 ≠ 0)
include hv

theorem EpState.accept_rejoins (hl : e.lha.lost.contains m.module = true) : e.accept m = (e.granted m 1).rejoining m.module := by
  rw [e.accept_awaited m hm ho hp hc ha, min_eq_left (Nat.one_le_iff_ne_zero.mpr hv), if_neg one_ne_zero, if_pos hl]

theorem EpState.accept_attaches (hl : e.lha.lost.contains m.module = false) : e.accept m = (e.granted m 1).attach m.module := by
  rw [e.accept_awaited m hm ho hp hc ha, min_eq_left (Nat.one_le_iff_ne_zero.mpr hv), if_neg one_ne_zero, if_neg (by simp only [hl, Bool.false_eq_true, not_false_eq_true])]

end

/-! ### Credits (R237) -/

/-- Three changes of neighbouring entries of a table, each of its own entry. -/
theorem Tab.get_upd_three {α : Type} (t : Tab α) (d : α) (k : Nat) (f g h : α → α) :
    let u := Tab.upd (Tab.upd (Tab.upd t d k f) d (k + 1) g) d (k + 2) h
    Tab.get u d k = f (Tab.get t d k) ∧ Tab.get u d (k + 1) = g (Tab.get t d (k + 1)) ∧ Tab.get u d (k + 2) = h (Tab.get t d (k + 2)) := by
  have h1 : k + 1 ≠ k := by omega
  have h2 : k + 2 ≠ k := by omega
  have h3 : k + 2 ≠ k + 1 := by omega
  refine ⟨?_, ?_, ?_⟩
  · rw [Tab.get_upd_other _ _ _ _ _ h2.symm, Tab.get_upd_other _ _ _ _ _ h1.symm, Tab.get_upd_same]
  · rw [Tab.get_upd_other _ _ _ _ _ h3.symm, Tab.get_upd_same, Tab.get_upd_other _ _ _ _ _ h1]
  · rw [Tab.get_upd_same, Tab.get_upd_other _ _ _ _ _ h3, Tab.get_upd_other _ _ _ _ _ h2]

/-- What `t` shows of an end-point `e` that has taken the version and the credits of an ACCEPT. -/
def EpState.Granted (e t : EpState) (m : LhaMsg) : Prop :=
  t.lha.version = 1 ∧ t.lha.offered = Tab.del e.lha.offered m.module ∧ t.lha.credit (3 * m.module) = m.grant 64 ∧ t.lha.credit (3 * m.module + 1) = m.grant 32 ∧
    t.lha.credit (3 * m.module + 2) = m.grant 0

section
variable {e t : EpState} {m : LhaMsg}

theorem EpState.granted_granted : e.Granted (e.granted m 1) m :=
  ⟨rfl, rfl, Tab.get_upd_three e.lha.cred {} (3 * m.module) (fun _ => m.grant 64) (fun _ => m.grant 32) (fun _ => m.grant 0)⟩

variable (h : e.Granted t m) (k : Nat)
include h

theorem EpState.Granted.attach : e.Granted (t.attach k) m := by
  obtain ⟨notes, eq⟩ := t.attach_eq k
  rw [eq]
  exact h

theorem EpState.Granted.rejoining : e.Granted (t.rejoining k) m := by
  unfold EpState.rejoining EpState.lhaEvent EpState.Granted
  rw [EpState.mod_lha, EpState.modLha_lha]
  exact h

end

section
variable (e : EpState) (m : LhaMsg)

theorem EpState.takeCredit_bad (h : ¬(lhaOther m = true ∧ m.mop = 0x71)) : e.takeCredit m = e.lhaBad m :=
  if_pos ((notOfKind_iff m _).mp h)

/-- Credits `h` and `n` come to those of a channel. -/
def ChanCred.more (h n : Nat) (c : ChanCred) : ChanCred := { hdr := c.hdr + h, cells := c.cells + n }

theorem EpState.takeCredit_adds (ho : lhaOther m = true) (hp : m.mop = 0x71) :
    e.takeCredit m = e.modLha (fun l =>
      { l with
        cred := Tab.upd (Tab.upd (Tab.upd l.cred {} (3 * m.module) (ChanCred.more (bits m.addr 59 52) (bits m.addr 51 40))) {} (3 * m.module + 1)
          (ChanCred.more (bits m.addr 39 32) (bits m.addr 31 20))) {} (3 * m.module + 2) (ChanCred.more (bits m.addr 19 12) (bits m.addr 11 0)) }) :=
  if_neg (ofKind m _ ho hp)

end

/-! ### The loss of a module (R231, R256) -/

/-- The link of a module is lost: counted as lasting, and the module is not trained any more. -/
def EpState.unlinked (e : EpState) (m : Nat) : EpState :=
  (e.mod (fun c => c.bumpHi 0x80010)).modLha (fun l =>
    { l with
      trained := l.trained.filter (· != m), fast := l.fast.filter (· != m), offered := Tab.del l.offered m, joining := l.joining.filter (· != m),
      lost := if e.lha.attached.contains m || l.joining.contains m then l.lost.filter (· != m) ++ [m] else l.lost })

/-- An attached module is taken out: the others go on after a pause of 100 picks, and its credits are void. -/
def EpState.takenOut (e : EpState) (m : Nat) : EpState :=
  (e.unlinked m).modLha (fun l =>
    { l with
      attached := l.attached.filter (· != m), draining := l.draining ++ [m], pauseEnd := some (e.c.pick + 100),
      cred := Tab.del (Tab.del (Tab.del l.cred (3 * m)) (3 * m + 1)) (3 * m + 2), due := Tab.del (Tab.del l.due (2 * m)) (2 * m + 1) })

/-- An attached module is taken out, with its notice, its event and its record of loss. -/
def EpState.detached (e : EpState) (m : Nat) : EpState :=
  (((e.takenOut m).notice 0x07 (1091 + m) 0x100 0).lhaEvent 1 m).mod (fun c => c.unitLost 0xA m)

/-- An event stores its register and counts its sequence. -/
theorem Common.event_stores (c : Common) (a low : Nat) : ∃ v seqs, c.event a low = { c.wr a v with rf := { (c.wr a v).rf with seqs := seqs } } := ⟨_, _, rfl⟩

theorem Common.rd_event_other (c : Common) (a b low : Nat) (h : b ≠ a) : (c.event a low).rd b = c.rd b := by
  obtain ⟨v, seqs, eq⟩ := c.event_stores a low
  rw [eq]
  exact Common.rd_wr_other c a b v h

theorem Common.rd_ledger (c : Common) (l : Ledger) (a : Nat) : ({ c with ledger := l } : Common).rd a = c.rd a := rfl

/-- The loss of a unit is recorded in a register of its own and in the ledger. -/
theorem Common.unitLost_stores (c : Common) (kind unit : Nat) :
    ∃ low ledger, c.unitLost kind unit = { (c.event (resA c.part 4) low).errLasting kind with ledger := ledger } := ⟨_, _, rfl⟩

theorem Common.rd_unitLost_other (c : Common) (kind unit a : Nat) (h : a ≠ resA c.part 4) : (c.unitLost kind unit).rd a = c.rd a := by
  obtain ⟨low, ledger, eq⟩ := c.unitLost_stores kind unit
  rw [eq, Common.rd_ledger, Common.errLasting, Common.rd_ledger, Common.rd_event_other c _ a low h]

section
variable (e : EpState) (m : Nat)

theorem EpState.loseModule_unattached (h : e.lha.attached.contains m = false) : e.loseModule m 1 = e.unlinked m := if_pos (by rw [h]; rfl)

theorem EpState.unlinked_c : (e.unlinked m).c = e.c.bumpHi 0x80010 := by
  rw [EpState.unlinked, EpState.modLha_c, EpState.mod_c]

theorem EpState.unlinked_keeps :
    (e.unlinked m).lha.attached = e.lha.attached ∧ (e.unlinked m).lha.trained = e.lha.trained.filter (· != m) ∧ (e.unlinked m).lha.ereqs = e.lha.ereqs ∧
      (e.unlinked m).lha.pauseEnd = e.lha.pauseEnd := by
  rw [EpState.unlinked, EpState.modLha_lha, EpState.mod_lha]
  exact ⟨rfl, rfl, rfl, rfl⟩

theorem EpState.detached_lha : ∃ notes, (e.detached m).lha =
    { e.lha with
      attached := e.lha.attached.filter (· != m), trained := e.lha.trained.filter (· != m), fast := e.lha.fast.filter (· != m), offered := Tab.del e.lha.offered m,
      joining := e.lha.joining.filter (· != m),
      lost := if e.lha.attached.contains m || e.lha.joining.contains m then e.lha.lost.filter (· != m) ++ [m] else e.lha.lost,
      draining := e.lha.draining ++ [m], pauseEnd := some (e.c.pick + 100),
      cred := Tab.del (Tab.del (Tab.del e.lha.cred (3 * m)) (3 * m + 1)) (3 * m + 2), due := Tab.del (Tab.del e.lha.due (2 * m)) (2 * m + 1), notes := notes } := by
  obtain ⟨notes, h⟩ := (e.takenOut m).notice_eq 0x07 (1091 + m) 0x100 0
  refine ⟨notes, ?_⟩
  rw [EpState.detached, EpState.mod_lha, EpState.lhaEvent, EpState.mod_lha, h, EpState.modLha_lha, EpState.takenOut, EpState.modLha_lha, EpState.unlinked,
    EpState.modLha_lha, EpState.mod_lha]

theorem EpState.detached_home : (e.detached m).home = e.home := by
  obtain ⟨-, home, -, -⟩ := (e.takenOut m).notice_keeps 0x07 (1091 + m) 0x100 0
  rw [EpState.detached, EpState.mod_home, EpState.lhaEvent, EpState.mod_home, home, EpState.takenOut, EpState.modLha_home,
    EpState.unlinked, EpState.modLha_home, EpState.mod_home]

theorem EpState.detached_src : (e.detached m).src = e.src := by
  obtain ⟨src, -, -, -⟩ := (e.takenOut m).notice_keeps 0x07 (1091 + m) 0x100 0
  rw [EpState.detached, EpState.mod_src, EpState.lhaEvent, EpState.mod_src, src, EpState.takenOut, EpState.modLha_src,
    EpState.unlinked, EpState.modLha_src, EpState.mod_src]

theorem EpState.detached_retries : (e.detached m).c.rd 0x80010 = (e.c.bumpHi 0x80010).rd 0x80010 := by
  have far : ∀ p : Part, 0x80010 ≠ resA p 4 := fun p => by cases p <;> decide
  rw [EpState.detached, EpState.mod_c, Common.rd_unitLost_other _ _ _ _ (far _), EpState.lhaEvent, EpState.mod_c, Common.rd_event_other _ _ _ _ (by decide),
    EpState.notice_c]
  rfl

variable (ha : e.lha.attached.contains m = true)
include ha

theorem EpState.loseModule_attached : e.loseModule m 1 =
    (let t := each ((e.detached m).lha.ereqs.filter (fun x => x.sent && x.module == m)) (e.detached m) (fun s x => s.answerEreq x 1 [])
     if t.lha.attached.isEmpty then t.beginQuiesce false else t) := if_neg (by rw [ha]; exact Bool.false_ne_true)

theorem EpState.detached_takesOut :
    let l := (e.detached m).lha
    l.attached = e.lha.attached.filter (· != m) ∧ l.trained = e.lha.trained.filter (· != m) ∧ l.pauseEnd = some (e.c.pick + 100) ∧ l.lost.contains m = true ∧
      l.draining = e.lha.draining ++ [m] := by
  obtain ⟨notes, hl⟩ := e.detached_lha m
  rw [hl, ha]
  exact ⟨rfl, rfl, rfl, by simp, rfl⟩

variable (hq : ∀ x, x ∈ e.lha.ereqs → x.sent = true → x.module ≠ m)
include hq

/-- Where a lost module has nothing to answer, its loss takes it out, and begins a quiesce if it was the last. -/
theorem EpState.loseModule_idle :
    e.loseModule m 1 = if (e.detached m).lha.attached.isEmpty then (e.detached m).beginQuiesce false else e.detached m := by
  have none_due : (e.detached m).lha.ereqs.filter (fun x => x.sent && x.module == m) = [] := by
    obtain ⟨notes, hl⟩ := e.detached_lha m
    refine List.filter_eq_nil_iff.mpr fun x hx k => ?_
    rw [hl] at hx
    obtain ⟨sent, own⟩ := (Bool.and_eq_true _ _).mp k
    exact hq x hx sent (beq_iff_eq.mp own)
  rw [e.loseModule_attached m ha, none_due, each_nil]

theorem EpState.loseModule_last (h : ∀ k, k ∈ e.lha.attached → k = m) : e.loseModule m 1 = (e.detached m).beginQuiesce false := by
  obtain ⟨notes, hl⟩ := e.detached_lha m
  rw [e.loseModule_idle m ha hq, if_pos]
  rw [hl, List.isEmpty_iff, List.filter_eq_nil_iff]
  exact fun k hk => by simp [h k hk]

theorem EpState.loseModule_others (h : ∃ k, k ∈ e.lha.attached ∧ k ≠ m) : e.loseModule m 1 = e.detached m := by
  obtain ⟨notes, hl⟩ := e.detached_lha m
  obtain ⟨k, hk, other⟩ := h
  rw [e.loseModule_idle m ha hq, if_neg]
  rw [hl, List.isEmpty_iff, List.filter_eq_nil_iff]
  exact fun none => none k hk (bne_iff_ne.mpr other)

/-- Exactly the lost module is out, and a pause of 100 picks has begun. -/
theorem EpState.loseModule_takesOut :
    let l := (e.loseModule m 1).lha
    l.attached = e.lha.attached.filter (· != m) ∧ l.trained = e.lha.trained.filter (· != m) ∧ l.pauseEnd = some (e.c.pick + 100) ∧ l.lost.contains m = true ∧
      l.draining = e.lha.draining ++ [m] := by
  have out := e.detached_takesOut m ha
  by_cases h : ∀ k, k ∈ e.lha.attached → k = m
  · obtain ⟨attached, trained, pause, lost, draining⟩ := out
    obtain ⟨attached', trained', pause', lost', draining'⟩ := (e.detached m).beginQuiesce_keeps false
    rw [e.loseModule_last m ha hq h]
    exact ⟨attached'.trans attached, trained'.trans trained, pause'.trans pause, (congrArg (fun l => l.contains m) lost').trans lost, draining'.trans draining⟩
  · rw [e.loseModule_others m ha hq (by simpa using h)]
    exact out

end

theorem EpState.ereqTimeout_young (e : EpState) (m : Nat) (h : e.lha.ereqs.any (fun x => x.sent && x.module == m && decide (x.sentPick + 200 ≤ e.c.pick)) = false) :
    e.ereqTimeout m = e := if_neg (by rw [h]; exact Bool.false_ne_true)

theorem EpState.ereqTimeout_old (e : EpState) (m : Nat) (h : e.lha.ereqs.any (fun x => x.sent && x.module == m && decide (x.sentPick + 200 ≤ e.c.pick)) = true) :
    e.ereqTimeout m = e.loseModule m 2 := if_pos h

/-! ### `EREQ_PAUSE_END` (R256, R258) -/

/-- Modules that attach one after the other join those that are attached. -/
theorem EpState.each_attach (l : List Nat) (e : EpState) :
    ∃ attached notes, each l e (fun s m => s.attach m) = e.modLha (fun h => { h with attached := attached, notes := notes }) ∧
      ∀ k, k < 4 → attached.contains k = (e.lha.attached.contains k || l.contains k) := by
  induction l generalizing e with
  | nil => exact ⟨e.lha.attached, e.lha.notes, rfl, fun k _ => by simp⟩
  | cons m l ih =>
    obtain ⟨attached, notes, run, joined⟩ := ih (e.attach m)
    refine ⟨attached, notes, ?_, fun k hk => ?_⟩
    · obtain ⟨_, eq⟩ := e.attach_eq m
      rw [each_cons, run, eq]
      rfl
    · rw [joined k hk, e.attach_attached m k hk, List.contains_cons, Bool.or_comm (k == m), Bool.or_assoc]

section
variable (e : EpState)

theorem EpState.pauseEnds_none (h : e.lha.pauseEnd = none) : e.pauseEnds = e := by
  simp only [EpState.pauseEnds, h]

theorem EpState.pauseEnds_early (p : Nat) (h : e.lha.pauseEnd = some p) (hp : e.c.pick < p) : e.pauseEnds = e := by
  simp only [EpState.pauseEnds, h]
  exact if_neg (not_le.mpr hp)

variable (p : Nat) (h : e.lha.pauseEnd = some p) (hp : p ≤ e.c.pick)
include h hp

theorem EpState.pauseEnds_due : e.pauseEnds = each e.lha.joining (e.modLha (fun l => { l with pauseEnd := none, joining := [] })) (fun s m => s.attach m) := by
  simp only [EpState.pauseEnds, h]
  exact if_pos hp

theorem EpState.pauseEnds_alone (hj : e.lha.joining = []) : e.pauseEnds.lha = { e.lha with pauseEnd := none } := by
  rw [e.pauseEnds_due p h hp, hj, each_nil, EpState.modLha_lha, ← hj]

/-- The modules that rejoin are attached when the pause ends. -/
theorem EpState.pauseEnds_joins :
    ∃ attached notes, e.pauseEnds = e.modLha (fun l => { l with pauseEnd := none, joining := [], attached := attached, notes := notes }) ∧
      ∀ k, k < 4 → attached.contains k = (e.lha.attached.contains k || e.lha.joining.contains k) := by
  obtain ⟨attached, notes, run, joined⟩ := EpState.each_attach e.lha.joining (e.modLha (fun l => { l with pauseEnd := none, joining := [] }))
  exact ⟨attached, notes, (e.pauseEnds_due p h hp).trans run, joined⟩

end

/-! ### `QUIESCE` and `QUIESCE_COMPLETE` (R255, R633) -/

section
variable (e : EpState) (m : LhaMsg)

theorem EpState.quiesce_bad (h : ¬(lhaOther m = true ∧ m.mop = 0x74)) : e.quiesce m = e.lhaBad m :=
  if_pos ((notOfKind_iff m _).mp h)

variable (ho : lhaOther m = true) (hp : m.mop = 0x74)
include ho hp

theorem EpState.quiesce_unattached (h : e.lha.attached.contains m.module = false) : e.quiesce m = e :=
  (if_neg (ofKind m _ ho hp)).trans (if_pos (by rw [h]; rfl))

theorem EpState.quiesce_attached (h : e.lha.attached.contains m.module = true) : e.quiesce m = e.beginQuiesce true :=
  (if_neg (ofKind m _ ho hp)).trans (if_neg (by rw [h]; exact Bool.false_ne_true))

end

/-- The answer that a quiesce has completed, on every attached module where it is owed. -/
def Lha.doneMsgs (l : Lha) : List LhaMsg := if l.owesDone then l.attached.map (fun m => { module := m, chan := 7, mop := 0x75 }) else []

/-- A quiesce has completed. -/
def EpState.quiesceEnded (e : EpState) : EpState :=
  e.modLha (fun l => { l with quiescing := false, quiesced := l.quiesced || l.owesDone || e.c.sec.scrubTo.isNone, out := l.out ++ e.lha.doneMsgs })

section
variable (e : EpState)

theorem EpState.allAnswered_iff : e.allAnswered = true ↔ e.lha.ereqs = [] ∧ e.lha.areqs = [] ∧ (e.lha.ersp = [] ∨ e.lha.attached = []) := by
  simp only [EpState.allAnswered, Bool.and_eq_true, Bool.or_eq_true, List.isEmpty_iff, and_assoc]

theorem EpState.quiesceComplete_waits (h : ¬(e.lha.quiescing = true ∧ e.allAnswered = true)) : e.quiesceComplete = e := by
  refine if_pos ?_
  rcases not_and_or.mp h with h | h <;> simp [h]

theorem EpState.quiesceComplete_ends (hq : e.lha.quiescing = true) (ha : e.allAnswered = true) : e.quiesceComplete =
    if e.c.sec.scrubTo.isSome then e.quiesceEnded.mod (fun c => { c with sec := { c.sec with scrubOn := true } }) else e.quiesceEnded :=
  if_neg (by simp [hq, ha])

end

/-! ### `NOTICE_SEND` (R250, R251) -/

section
variable (e : EpState) (m : Nat) (ms : List Nat) (n : Note) (ns : List Note) (ha : e.lha.attached = m :: ms)

/-- The first notice leaves on a module, for one credit, and the others wait. -/
def EpState.noticeSent (e : EpState) (m : Nat) (n : Note) (ns : List Note) : EpState :=
  e.modLha (fun l =>
    { (l.spend (3 * m + 2) 1) with
      notes := ns, out := l.out ++ [{ module := m, chan := 4, mop := 0x41, len := 1, data := n.cell (e.c.rf' (0x84000 + 4 * n.source) 15 8) }] })

include ha

theorem EpState.pumpNotes_cons : e.pumpNotes (n :: ns) =
    if (e.lha.credit (3 * m + 2)).hdr = 0 ∨ (e.lha.credit (3 * m + 2)).cells = 0 then e else (e.noticeSent m n ns).pumpNotes ns := by
  rw [EpState.pumpNotes, ha]
  rfl

end

theorem EpState.noticeSent_credit (e : EpState) (m : Nat) (n : Note) (ns : List Note) : (e.noticeSent m n ns).lha.credit (3 * m + 2) =
    { hdr := (e.lha.credit (3 * m + 2)).hdr - 1, cells := (e.lha.credit (3 * m + 2)).cells - 1 } :=
  Tab.get_upd_same e.lha.cred {} (3 * m + 2) (fun c => { hdr := c.hdr - 1, cells := c.cells - 1 })

/-! ### `SERVE_WRITE` (R253, R255) -/

theorem flag_setFld_one (r : Reg) : flag (setFld r 0 0 1) 0 = true := by
  have hr := r.isLt
  simp only [flag, bit, setFld, bits, BitVec.toNat_ofNat, beq_iff_eq]
  omega

theorem Common.rd_swStore_same (c : Common) (edge : Bool) (a : Nat) (v : Reg) : (c.swStore edge a v).rd a = v := Common.rd_wr_same _ a v

/-! ### The commands -/

section
variable (s : State) (hw : s.heldPart .ep = false)
include hw

theorem exec_ofModule (m : Nat) (hm : m < 4) :
    (∀ fast, exec (.moduleTrained m fast) s = .next (s.afterEp (s.ep.moduleTrained m fast))) ∧ exec (.offerRetry m) s = .next (s.afterEp (s.ep.offerRetry m)) ∧
      exec (.ereqTimeout m) s = .next (s.afterEp (s.ep.ereqTimeout m)) ∧ exec (.moduleLinkLost m) s = .next (s.afterEp (s.ep.loseModule m 1)) := by
  have on := fun f => onEpIf_after s (epModule m) f hw (decide_eq_true hm)
  exact ⟨fun fast => on (fun e => e.moduleTrained m fast), on (fun e => e.offerRetry m), on (fun e => e.ereqTimeout m), on (fun e => e.loseModule m 1)⟩

theorem exec_ofMessage (m : LhaMsg) (hm : m.module < 4) :
    exec (.accept m) s = .next (s.afterEp (s.ep.accept m)) ∧ exec (.credit m) s = .next (s.afterEp (s.ep.takeCredit m)) ∧
      exec (.quiesce m) s = .next (s.afterEp (s.ep.quiesce m)) ∧ exec (.lhaMalformedMessage m) s = .next (s.afterEp (s.ep.lhaBad m)) := by
  have on := fun f => onModule_after s m f hw hm
  exact ⟨on (fun e => e.accept m), on (fun e => e.takeCredit m), on (fun e => e.quiesce m), on (fun e => e.lhaBad m)⟩

theorem exec_ofAttachment :
    exec .quiesceComplete s = .next (s.afterEp s.ep.quiesceComplete) ∧ exec .ereqPauseEnd s = .next (s.afterEp s.ep.pauseEnds) ∧
      exec .noticeSend s = .next (s.afterEp (s.ep.pumpNotes s.ep.lha.notes)) ∧ exec .serveWrite s = .next (s.afterEp s.ep.serveWrite) := by
  have on := fun f => onEp_after s f hw
  exact ⟨on EpState.quiesceComplete, on EpState.pauseEnds, on (fun e => e.pumpNotes e.lha.notes), on EpState.serveWrite⟩

end

/-- Settles O41: what each command makes of a module, of its credits, of a quiesce and of a notice is said above. -/
theorem modulesAttachAndAreLost : Obligations.ModulesAttachAndAreLost := by
  unfold Obligations.ModulesAttachAndAreLost
  refine ⟨?_, ?_, ?_⟩
  · intro s m fast hw hm l may old
    obtain ⟨trained, retry, timeout, linkLost⟩ := exec_ofModule s hw m hm
    refine ⟨⟨_, trained fast, s.ep.moduleTrained_shows m fast⟩, fun h => ?_, fun at_ h => ⟨fun hd => ?_, fun hd => ?_⟩, fun h => ?_, fun h => ?_,
      ⟨_, linkLost, rfl, fun h => ?_, fun ha hq => ?_⟩⟩
    · rw [retry, s.ep.offerRetry_unoffered m h]
    · rw [retry, s.ep.offerRetry_offered m at_ h, if_neg hd]
    · rw [retry, s.ep.offerRetry_offered m at_ h, if_pos hd]
    · rw [timeout, s.ep.ereqTimeout_young m h]
    · rw [timeout, s.ep.ereqTimeout_old m h]
    · rw [s.ep.loseModule_unattached m h]
      exact ⟨s.ep.unlinked_c m, s.ep.unlinked_keeps m⟩
    · obtain ⟨attached, untrained, pause, lost, draining⟩ := s.ep.loseModule_takesOut m ha hq
      refine ⟨attached, untrained, pause, lost, draining, fun h => ?_, fun h => ?_⟩
      · obtain ⟨notes, lha⟩ := s.ep.detached_lha m
        rw [s.ep.loseModule_others m ha hq h, lha]
        exact ⟨rfl, s.ep.detached_home m, s.ep.detached_src m, rfl, s.ep.detached_retries m⟩
      · rw [s.ep.loseModule_last m ha hq h, EpState.beginQuiesce_lha]
        exact ⟨rfl, rfl⟩
  · intro s m hw hm c l good cell awaited
    obtain ⟨accept, credit, quiesce, malformed⟩ := exec_ofMessage s hw m hm
    refine ⟨fun h => ?_, fun ⟨ho, hp⟩ hc => ?_, fun ⟨ho, hp⟩ hc ha => ?_, fun ⟨ho, hp⟩ hc ha => ⟨fun hv => ?_, fun hv => ?_⟩, fun h => ?_, fun ho hp => ?_, fun h => ?_,
      fun ho hp => ⟨fun h => ?_, fun h => ⟨_, quiesce, ?_⟩⟩⟩
    · rw [accept, malformed, s.ep.accept_bad m h]
    · rw [accept, s.ep.accept_malformed m hm ho hp hc]
    · rw [accept, s.ep.accept_unawaited m hm ho hp hc ha]
    · rw [accept, s.ep.accept_declined m hm ho hp hc ha hv, EpState.lhaEvent_eq _ _ _ hm]
      exact ⟨_, rfl, rfl, by rw [EpState.mod_c, EpState.modLha_c]⟩
    · cases hl : s.ep.lha.lost.contains m.module
      case false =>
        obtain ⟨version, offered, c0, c1, c2⟩ := (EpState.granted_granted (e := s.ep) (m := m)).attach m.module
        have joined := (s.ep.granted m 1).attach_attached m.module
        rw [accept, s.ep.accept_attaches m hm ho hp hc ha hv hl]
        refine ⟨_, rfl, version, offered, c0, c1, c2, fun _ => ⟨?_, fun k hk held => ?_⟩, nofun⟩
        · rw [joined _ hm, beq_self_eq_true, Bool.true_or]
        · rw [joined k hk, show (s.ep.granted m 1).lha.attached.contains k = true from held, Bool.or_true]
      case true =>
        obtain ⟨version, offered, c0, c1, c2⟩ := (EpState.granted_granted (e := s.ep) (m := m)).rejoining m.module
        rw [accept, s.ep.accept_rejoins m hm ho hp hc ha hv hl]
        exact ⟨_, rfl, version, offered, c0, c1, c2, nofun, fun _ => ⟨rfl, rfl, rfl⟩⟩
    · rw [credit, malformed, s.ep.takeCredit_bad m h]
    · rw [credit, s.ep.takeCredit_adds m ho hp]
      exact ⟨_, rfl, rfl, rfl, Tab.get_upd_three ..⟩
    · rw [quiesce, malformed, s.ep.quiesce_bad m h]
    · rw [quiesce, s.ep.quiesce_unattached m ho hp h]
    · rw [s.ep.quiesce_attached m ho hp h, EpState.beginQuiesce_lha]
      exact ⟨rfl, rfl, rfl⟩
  · intro s hw l idle
    obtain ⟨complete, pauseEnd, notice, serve⟩ := exec_ofAttachment s hw
    have answered : s.ep.allAnswered = true ↔ idle := s.ep.allAnswered_iff
    refine ⟨fun h => ?_, fun hq hi => ?_, fun h => ?_, fun p h => ⟨fun hp => ?_, fun hp => ?_⟩, fun h => ?_, fun m ms n ns ha hn => ⟨fun h => ?_, fun hh hc => ?_⟩, ?_⟩
    · rw [complete, s.ep.quiesceComplete_waits (by rwa [answered])]
    · rw [complete, s.ep.quiesceComplete_ends hq (answered.mpr hi)]
      cases hs : s.ep.c.sec.scrubTo.isSome
      case false => exact ⟨_, rfl, rfl, rfl, rfl, rfl⟩
      case true => exact ⟨_, rfl, rfl, rfl, rfl, rfl⟩
    · rw [pauseEnd, s.ep.pauseEnds_none h]
    · rw [pauseEnd, s.ep.pauseEnds_early p h hp]
    · obtain ⟨attached, notes, run, joined⟩ := s.ep.pauseEnds_joins p h hp
      have alone := s.ep.pauseEnds_alone p h hp
      rw [run] at pauseEnd alone
      exact ⟨_, pauseEnd, rfl, rfl, rfl, alone, joined⟩
    · rcases h with h | h
      · rw [notice, s.ep.pumpNotes_none _ h]
      · rw [notice, h]
        rfl
    · rw [notice, hn, s.ep.pumpNotes_cons m ms n ns ha, if_pos h]
    · refine ⟨s.ep.noticeSent m n ns, ?_, rfl, rfl, s.ep.noticeSent_credit m n ns, rfl⟩
      rw [notice, hn, s.ep.pumpNotes_cons m ms n ns ha, if_neg (not_or.mpr ⟨hh, hc⟩)]
    · refine ⟨_, serve, ?_, ?_⟩
      · rw [EpState.serveWrite, EpState.modLha_lha, EpState.mod_lha]
      · rw [EpState.serveWrite, EpState.modLha_c, EpState.mod_c, Common.rd_swStore_same]
        exact flag_setFld_one _

end Sys2Proof.Machine
end

section
/-!
PROOF. The shared buffer of the switch: what BUFFER_ADMISSION makes of the packets in the input stage of a port, one of them or several (R262, R264, R266).
-/

namespace Sys2Proof.Machine

/-! ### Blocks of one packet -/

/-- Blocks are taken one by one, or none at all. -/
theorem SwState.takeBlocks_length (s : SwState) (input vc pitch m : Nat) (got bs : List BlockKind) (h : s.takeBlocks input vc pitch m got = some bs) :
    bs.length = got.length + m := by
  induction m generalizing got with
  | zero =>
    obtain rfl : got = bs := Option.some.inj h
    rfl
  | succ m ih =>
    unfold SwState.takeBlocks at h
    split at h
    · rw [ih _ h, List.length_append, List.length_singleton]
      omega
    · contradiction

section
variable (s : SwState) (p : CorePkt)

/-- The blocks that a packet of the input stage would take now, if every one is free. -/
def SwState.blocksOf : Option (List BlockKind) := s.takeBlocks p.input p.pkt.vc (s.c.pitchOf p.input p.pkt) (packetBlocks p.pkt) []

/-- A packet with its blocks, parked where it must wait. -/
def SwState.admitted (bs : List BlockKind) : CorePkt := { p with admitted := true, blocks := bs, parked := s.mustPark p }

theorem SwState.blocksOf_length (bs : List BlockKind) (h : s.blocksOf p = some bs) : bs.length = packetBlocks p.pkt :=
  (s.takeBlocks_length _ _ _ _ _ _ h).trans (Nat.zero_add _)

theorem SwState.admitOne_none (h : s.blocksOf p = none) : s.admitOne p = s := by
  unfold SwState.blocksOf at h
  simp only [SwState.admitOne, h]

theorem SwState.admitOne_some (bs : List BlockKind) (h : s.blocksOf p = some bs) :
    s.admitOne p = (s.modCore (fun k => if s.mustPark p = true then k.modPkt p.id (fun _ => s.admitted p bs)
      else (k.modPkt p.id (fun _ => s.admitted p bs)).queueCells (s.admitted p bs))).mod (fun c => c.freeCells p.input p.pkt.vc p.pkt.cellCount) := by
  unfold SwState.blocksOf at h
  simp only [SwState.admitOne, h]
  rfl

/-- The packets of the core after one of them is admitted, whether it enters its queue or is parked. -/
theorem SwState.admitOne_pkts (bs : List BlockKind) (h : s.blocksOf p = some bs) :
    (s.admitOne p).core.pkts = s.core.pkts.map (fun x => if x.id = p.id then s.admitted p bs else x) := by
  rw [s.admitOne_some p bs h, SwState.mod_core, SwState.modCore_core]
  split <;> rfl

end

/-! ### What admission at a port changes -/

/-- What admission at a port leaves of the core: every packet stays, one that changes is of the port and has its blocks, and nothing on its way moves. -/
structure Core.AdmitsAt (n : Nat) (a b : Core) : Prop where
  ids : b.pkts.map (·.id) = a.pkts.map (·.id)
  fresh : ∀ q ∈ b.pkts, q ∉ a.pkts → q.input = n ∧ q.admitted = true ∧ q.blocks.length = packetBlocks q.pkt
  reeds : b.reeds = a.reeds
  wire : b.wire = a.wire
  receipts : b.receipts = a.receipts
  shafts : b.shafts = a.shafts

theorem Core.AdmitsAt.refl (n : Nat) (a : Core) : Core.AdmitsAt n a a := ⟨rfl, fun _ h k => absurd h k, rfl, rfl, rfl, rfl⟩

theorem Core.AdmitsAt.trans {n : Nat} {a b c : Core} (h : Core.AdmitsAt n a b) (k : Core.AdmitsAt n b c) : Core.AdmitsAt n a c where
  ids := k.ids.trans h.ids
  fresh q hq ha := by
    by_cases hb : q ∈ b.pkts
    · exact h.fresh q hb ha
    · exact k.fresh q hq hb
  reeds := k.reeds.trans h.reeds
  wire := k.wire.trans h.wire
  receipts := k.receipts.trans h.receipts
  shafts := k.shafts.trans h.shafts

/-- The core of a packet's admission, apart from its packets and queues. -/
theorem SwState.admitOne_keeps {β : Type} (s : SwState) (p : CorePkt) (g : Core → β) (hg : ∀ k l v, g { k with pkts := l, voqs := v } = g k) :
    g (s.admitOne p).core = g s.core := by
  cases h : s.blocksOf p with
  | none => rw [s.admitOne_none p h]
  | some bs =>
    rw [s.admitOne_some p bs h, SwState.mod_core, SwState.modCore_core]
    split
    · exact hg s.core _ s.core.voqs
    · exact hg s.core _ _

theorem SwState.admitOne_admitsAt (s : SwState) (p : CorePkt) (n : Nat) (hp : p.input = n) : Core.AdmitsAt n s.core (s.admitOne p).core where
  ids := by
    cases h : s.blocksOf p with
    | none => rw [s.admitOne_none p h]
    | some bs =>
      rw [s.admitOne_pkts p bs h, List.map_map]
      refine List.map_congr_left fun x _ => ?_
      by_cases hx : x.id = p.id
      · simp [hx, SwState.admitted]
      · simp [hx]
  fresh q hq hs := by
    cases h : s.blocksOf p with
    | none =>
      rw [s.admitOne_none p h] at hq
      exact absurd hq hs
    | some bs =>
      rw [s.admitOne_pkts p bs h] at hq
      obtain ⟨x, hx, rfl⟩ := List.mem_map.mp hq
      split at hs
      next hi =>
        rw [if_pos hi]
        exact ⟨hp, rfl, s.blocksOf_length p bs h⟩
      next => exact absurd hx hs
  reeds := s.admitOne_keeps p Core.reeds fun _ _ _ => rfl
  wire := s.admitOne_keeps p Core.wire fun _ _ _ => rfl
  receipts := s.admitOne_keeps p Core.receipts fun _ _ _ => rfl
  shafts := s.admitOne_keeps p Core.shafts fun _ _ _ => rfl

/-! ### The input stage of a port -/

/-- A packet waits in the input stage of a port. -/
def CorePkt.waitsAt (n : Nat) (p : CorePkt) : Bool := p.input == n && !p.admitted

/-- The packets that head their VC in the input stage of a port. -/
def Core.heads (k : Core) (n : Nat) : List CorePkt := (List.range 8).filterMap (fun vc => k.pkts.find? (fun p => p.waitsAt n && p.pkt.vc == vc))

theorem SwState.admitPort_succ (s : SwState) (n fuel : Nat) :
    s.admitPort n (fuel + 1) =
      let s1 := each (s.core.heads n) s (fun s p => s.admitOne p)
      if s1.core.pkts.any (CorePkt.waitsAt n) && s1.core != s.core then s1.admitPort n fuel else s1 := rfl

theorem Core.input_of_mem_heads (k : Core) (n : Nat) (p : CorePkt) (h : p ∈ k.heads n) : p.input = n := by
  obtain ⟨vc, _, hv⟩ := List.mem_filterMap.mp h
  have hw := List.find?_some hv
  simp only [CorePkt.waitsAt, Bool.and_eq_true, beq_iff_eq] at hw
  exact hw.1.1

/-- Admission takes away and adds no packet, and changes only packets of its port, each with all of its blocks. -/
theorem SwState.admitPort_admitsAt (s : SwState) (n fuel : Nat) : Core.AdmitsAt n s.core (s.admitPort n fuel).core := by
  induction fuel generalizing s with
  | zero => exact .refl n _
  | succ fuel ih =>
    have round : Core.AdmitsAt n s.core (each (s.core.heads n) s (fun s p => s.admitOne p)).core :=
      List.foldlRecOn (motive := fun t : SwState => Core.AdmitsAt n s.core t.core) _ _ (.refl n _)
        fun t ht p hp => ht.trans (t.admitOne_admitsAt p n (s.core.input_of_mem_heads n p hp))
    rw [SwState.admitPort_succ]
    dsimp only
    split
    · exact round.trans (ih _)
    · exact round

/-- Heads are looked for among the packets that wait. -/
theorem Core.heads_eq (k : Core) (n : Nat) : k.heads n = (List.range 8).filterMap (fun vc => (k.pkts.filter (CorePkt.waitsAt n)).find? (fun p => p.pkt.vc == vc)) := by
  simp only [Core.heads, List.find?_filter, Bool.decide_and, Bool.decide_eq_true]

/-- With none that waits, nothing is admitted. -/
theorem SwState.admitPort_none (s : SwState) (n fuel : Nat) (h : s.core.pkts.filter (CorePkt.waitsAt n) = []) : s.admitPort n fuel = s := by
  cases fuel with
  | zero => rfl
  | succ fuel =>
    have hh : s.core.heads n = [] := by simp [Core.heads_eq, h]
    simp [SwState.admitPort_succ, hh]

/-- One that waits alone heads its VC. -/
theorem Core.heads_single (k : Core) (n : Nat) (p : CorePkt) (h : k.pkts.filter (CorePkt.waitsAt n) = [p]) (hv : p.pkt.vc < 8) : k.heads n = [p] := by
  have own : ∀ v < 8, (List.range 8).filter (fun vc => v == vc) = [v] := by decide
  calc k.heads n = (List.range 8).filterMap (fun vc => if (p.pkt.vc == vc) = true then some p else none) := by simp only [k.heads_eq, h, List.find?_singleton]
    _ = ((List.range 8).filter (fun vc => p.pkt.vc == vc)).map (fun _ => p) := by rw [← List.filterMap_eq_map, List.filterMap_filter]; rfl
    _ = [p] := by rw [own _ hv]; rfl

/-- Once the only packet that waits has its blocks, none waits. -/
theorem SwState.admitOne_lastWaiting (s : SwState) (n : Nat) (p : CorePkt) (bs : List BlockKind) (h : s.core.pkts.filter (CorePkt.waitsAt n) = [p])
    (hb : s.blocksOf p = some bs) : (s.admitOne p).core.pkts.any (CorePkt.waitsAt n) = false := by
  rw [s.admitOne_pkts p bs hb, List.any_eq_false]
  intro q hq
  obtain ⟨x, hx, rfl⟩ := List.mem_map.mp hq
  split
  · simp [CorePkt.waitsAt, SwState.admitted]
  next hi =>
    intro hw
    have only : x ∈ [p] := h ▸ List.mem_filter.mpr ⟨hx, hw⟩
    exact hi (congrArg CorePkt.id (List.mem_singleton.mp only))

/-- One that waits alone is admitted where it has its blocks, and no other round follows. -/
theorem SwState.admitPort_single (s : SwState) (n fuel : Nat) (p : CorePkt) (h : s.core.pkts.filter (CorePkt.waitsAt n) = [p]) (hv : p.pkt.vc < 8) :
    s.admitPort n (fuel + 1) = s.admitOne p := by
  rw [SwState.admitPort_succ, s.core.heads_single n p h hv]
  refine if_neg ?_
  rw [each_cons, each_nil]
  cases hb : s.blocksOf p with
  | none => simp [s.admitOne_none p hb]
  | some bs => simp [s.admitOne_lastWaiting n p bs h hb]

/-! ### The command -/

theorem exec_bufferAdmission_after (s : State) (n : Nat) (hw : s.heldPart .sw = false) (hn : n < 288) :
    exec (.bufferAdmission n) s = .next (s.afterSw (s.sw.admitPort n 64)) := by
  rw [exec_bufferAdmission, execBufferAdmission, onSwIf_after s (swPort n) _ hw (decide_eq_true hn)]

/-- Settles O31: what admission leaves of the core, and what it makes of one packet that waits, are said above. -/
theorem packetsEnterTheBufferWhole : Obligations.PacketsEnterTheBufferWhole := by
  intro s n hw hn
  rw [exec_bufferAdmission_after s n hw hn]
  refine ⟨?_, fun h => ?_, fun p h hv => ?_⟩
  · obtain ⟨ids, fresh, reeds, wire, receipts, shafts⟩ := s.sw.admitPort_admitsAt n 64
    exact ⟨_, rfl, ids, fresh, reeds, wire, receipts, shafts⟩
  · rw [s.sw.admitPort_none n 64 (List.filter_eq_nil_iff.mpr fun p hp => ?_)]
    by_cases hi : p.input = n
    · simp [CorePkt.waitsAt, h p hp hi]
    · simp [CorePkt.waitsAt, hi]
  · have waits : p ∈ s.sw.core.pkts.filter (CorePkt.waitsAt n) := by
      rw [show s.sw.core.pkts.filter (CorePkt.waitsAt n) = [p] from h]
      exact List.mem_singleton_self p
    obtain rfl : p.input = n := by
      have hp := (List.mem_filter.mp waits).2
      simp only [CorePkt.waitsAt, Bool.and_eq_true, beq_iff_eq] at hp
      exact hp.1
    rw [s.sw.admitPort_single p.input 63 p h hv]
    refine ⟨fun hb => ?_, fun bs hb => ⟨s.sw.blocksOf_length p bs hb, ?_⟩⟩
    · rw [s.sw.admitOne_none p hb]
    · rw [s.sw.admitOne_some p bs hb]
      rfl

end Sys2Proof.Machine
end

section
/-!
PROOF. The matchers of the switch core: the match of a shaft, the transfer of what it pairs, and the work of a slot (R269, R273, R277 to R279).
-/

namespace Sys2Proof.Machine

/-! ### Requests -/

/-- What a request of a shaft says: a unit of its queue waits for the shaft, and the reed has a credit left (R277, R279). -/
theorem Core.creditLeft_of_mem_requests (k : Core) (shaft : Nat) (r : MatchReq) (h : r ∈ k.requests shaft) : 0 < k.creditLeft shaft r.o := by
  obtain ⟨e, _, he⟩ := List.mem_filterMap.mp h
  dsimp only at he
  split at he
  next hc =>
    obtain rfl := Option.some.inj he
    exact hc.2
  next => contradiction

/-! ### One round of grants and accepts -/

/-- Those among which a pointer chooses: the candidates of the high class, if there are any. -/
def highFirst (l : List MatchReq) : List MatchReq := if l.any (·.high) then l.filter (·.high) else l

theorem mem_of_mem_highFirst {l : List MatchReq} {r : MatchReq} (h : r ∈ highFirst l) : r ∈ l := by
  unfold highFirst at h
  split at h
  · exact List.mem_of_mem_filter h
  · exact h

/-- The nearest candidate is one of them. -/
theorem mem_of_nearest {ptr : Nat} {port : MatchReq → Nat} {l : List MatchReq} {r : MatchReq} (h : nearest ptr port l = some r) : r ∈ l := by
  refine mem_of_mem_highFirst (List.foldlRecOn (motive := fun b : Option MatchReq => ∀ x, b = some x → x ∈ highFirst l) (highFirst l) _ ?_ ?_ r h)
  · exact fun x hx => absurd hx.symm (Option.some_ne_none x)
  · intro b hb a ha x hx
    split at hx
    · exact Option.some.inj hx ▸ ha
    · split at hx
      · exact Option.some.inj hx ▸ ha
      · exact hb x hx

/-- Two requests share no port. -/
def MatchReq.apart (a b : MatchReq) : Prop := a.i ≠ b.i ∧ a.o ≠ b.o

section
variable (k : Core) (shaft : Nat) (reqs done : List MatchReq)

/-- The requests of a round: those of which no port is matched. -/
def liveRequests : List MatchReq := reqs.filter (fun r => !done.any (fun d => d.i == r.i || d.o == r.o))

/-- What an output grants in a round. -/
def Core.grantAt (o : Nat) : Option MatchReq := nearest (Tab.get k.grant 0 (shaft * 512 + o)) (·.i) ((liveRequests reqs done).filter (fun r => r.o == o))

/-- The grants of a round. -/
def Core.grants : List MatchReq := ((List.range 288).filter (fun o => (liveRequests reqs done).any (fun r => r.o == o))).filterMap (k.grantAt shaft reqs done)

/-- What an input accepts in a round. -/
def Core.acceptAt (i : Nat) : Option MatchReq := nearest (Tab.get k.accept 0 (shaft * 512 + i)) (·.o) ((k.grants shaft reqs done).filter (fun r => r.i == i))

theorem Core.matchRound_eq : k.matchRound shaft reqs done =
    ((List.range 288).filter (fun i => (k.grants shaft reqs done).any (fun r => r.i == i))).filterMap (k.acceptAt shaft reqs done) := rfl

variable {k shaft reqs done}

theorem Core.grantAt_some {o : Nat} {r : MatchReq} (h : k.grantAt shaft reqs done o = some r) : r ∈ liveRequests reqs done ∧ r.o = o := by
  obtain ⟨live, ho⟩ := List.mem_filter.mp (mem_of_nearest h)
  exact ⟨live, eq_of_beq ho⟩

theorem Core.acceptAt_some {i : Nat} {r : MatchReq} (h : k.acceptAt shaft reqs done i = some r) : r ∈ k.grants shaft reqs done ∧ r.i = i := by
  obtain ⟨granted, hi⟩ := List.mem_filter.mp (mem_of_nearest h)
  exact ⟨granted, eq_of_beq hi⟩

/-- Each output has granted one request at most. -/
theorem Core.grantAt_of_mem_grants {r : MatchReq} (h : r ∈ k.grants shaft reqs done) : k.grantAt shaft reqs done r.o = some r := by
  obtain ⟨o, _, ho⟩ := List.mem_filterMap.mp h
  rwa [(grantAt_some ho).2]

/-- A round pairs live requests only. -/
theorem Core.live_of_mem_matchRound {r : MatchReq} (h : r ∈ k.matchRound shaft reqs done) : r ∈ liveRequests reqs done := by
  rw [matchRound_eq] at h
  obtain ⟨i, _, hi⟩ := List.mem_filterMap.mp h
  exact (grantAt_some (grantAt_of_mem_grants (acceptAt_some hi).1)).1

theorem Core.request_of_mem_matchRound {r : MatchReq} (h : r ∈ k.matchRound shaft reqs done) : r ∈ reqs := List.mem_of_mem_filter (live_of_mem_matchRound h)

theorem Core.apart_of_mem_matchRound {d r : MatchReq} (hd : d ∈ done) (h : r ∈ k.matchRound shaft reqs done) : d.apart r := by
  have free := (List.mem_filter.mp (live_of_mem_matchRound h)).2
  simp only [Bool.not_eq_true', List.any_eq_false, Bool.or_eq_true, beq_iff_eq, not_or] at free
  exact free d hd

variable (k shaft reqs done)

/-- The pairs of one round share no port: each input accepts once, and each output has granted once. -/
theorem Core.matchRound_apart : (k.matchRound shaft reqs done).Pairwise MatchReq.apart := by
  rw [matchRound_eq, List.pairwise_filterMap]
  refine (List.nodup_range.filter _).imp ?_
  intro i j hij r hr q hq
  obtain ⟨hgr, rfl⟩ := acceptAt_some hr
  obtain ⟨hgq, rfl⟩ := acceptAt_some hq
  refine ⟨hij, fun ho => hij ?_⟩
  have same := grantAt_of_mem_grants hgr
  rw [ho, grantAt_of_mem_grants hgq] at same
  rw [Option.some.inj same]

/-- A round added to earlier pairs that share no port gives such pairs again. -/
theorem Core.append_matchRound_apart (h : done.Pairwise MatchReq.apart) : (done ++ k.matchRound shaft reqs done).Pairwise MatchReq.apart :=
  List.pairwise_append.mpr ⟨h, k.matchRound_apart shaft reqs done, fun _ hd _ hr => apart_of_mem_matchRound hd hr⟩

end

/-! ### The match of a slot -/

/-- A list of pairs names no input twice and no output twice. -/
def OneToOne (m : List (Nat × Nat)) : Prop := (m.map (·.1)).Nodup ∧ (m.map (·.2)).Nodup

theorem OneToOne.nil : OneToOne [] := ⟨List.nodup_nil, List.nodup_nil⟩

section
variable (k : Core) (shaft : Nat)

/-- The pairs that a shaft has matched after two rounds of a slot. -/
def Core.twoRounds : List MatchReq :=
  let first := k.matchRound shaft (k.requests shaft) []
  first ++ k.matchRound shaft (k.requests shaft) first

/-- The pairs of a slot, three rounds of them (R277). -/
def Core.matching : List MatchReq := k.twoRounds shaft ++ k.matchRound shaft (k.requests shaft) (k.twoRounds shaft)

theorem Core.twoRounds_apart : (k.twoRounds shaft).Pairwise MatchReq.apart := k.append_matchRound_apart shaft _ _ (k.matchRound_apart shaft _ [])

theorem Core.matching_apart : (k.matching shaft).Pairwise MatchReq.apart := k.append_matchRound_apart shaft _ _ (k.twoRounds_apart shaft)

theorem Core.request_of_mem_matching (r : MatchReq) (h : r ∈ k.matching shaft) : r ∈ k.requests shaft := by
  simp only [matching, twoRounds, List.mem_append] at h
  rcases h with (h | h) | h <;> exact request_of_mem_matchRound h

theorem Core.computeMatch_shafts :
    (k.computeMatch shaft).shafts = Tab.upd k.shafts {} shaft (fun x => { x with match_ := (k.matching shaft).map (fun r => (r.i, r.o)) }) := rfl

theorem Core.computeMatch_match : (Tab.get (k.computeMatch shaft).shafts {} shaft).match_ = (k.matching shaft).map (fun r => (r.i, r.o)) := by
  rw [computeMatch_shafts, Tab.get_upd_same]

theorem Core.computeMatch_oneToOne : OneToOne (Tab.get (k.computeMatch shaft).shafts {} shaft).match_ := by
  rw [computeMatch_match, OneToOne, List.map_map, List.map_map]
  exact ⟨List.pairwise_map.mpr ((k.matching_apart shaft).imp And.left), List.pairwise_map.mpr ((k.matching_apart shaft).imp And.right)⟩

end

/-! ### Transfers -/

section
variable (k : Core) (shaft i o : Nat)

/-- The unit of a pair and class that goes next on a shaft. -/
def Core.waiting (high : Bool) : Option SprayUnitRec := (Tab.get k.voqs {} (tripleKey i o high)).units.find? (fun u => u.shaft == shaft && !u.sent)

theorem Core.transferOne_unit (high : Bool) (u : SprayUnitRec) (hu : k.waiting shaft i o high = some u) (hh : high = true ∨ k.waiting shaft i o true = none) :
    k.transferOne shaft i o =
      { k with
        voqs := Tab.upd k.voqs {} (tripleKey i o high) (fun v => { v with units := v.units.map (fun x => if x.seq = u.seq then { x with sent := true } else x) }),
        wire := k.wire ++ [{ key := tripleKey i o high, seq := u.seq, shaft := shaft, cells := u.cells }] } := by
  unfold Core.waiting at hu hh
  cases high with
  | true => simp only [Core.transferOne, hu, Option.map_some]
  | false =>
    have none_high := hh.resolve_left Bool.false_ne_true
    simp only [Core.transferOne, none_high, hu, Option.map_some, Option.map_none]

theorem Core.transferOne_none (hh : k.waiting shaft i o true = none) (hn : k.waiting shaft i o false = none) : k.transferOne shaft i o = k.returnCredit shaft o := by
  unfold Core.waiting at hh hn
  simp only [Core.transferOne, hh, hn, Option.map_none]

/-- A transfer leaves the shafts. -/
theorem Core.transferOne_shafts : (k.transferOne shaft i o).shafts = k.shafts := by
  unfold Core.transferOne
  dsimp only
  split <;> rfl

end

/-! ### A shaft in its slot -/

/-- A shaft with one more transient error in a pick: 16 within 1,000 picks declare it failed (R273). -/
def Shaft.noteTransient (x : Shaft) (pick cause : Nat) : Shaft :=
  let es := (pick :: x.errs).take 16
  let many := decide (es.length = 16) && es.all (fun e => decide (pick < e + 1000))
  { x with errs := es, due := if many && x.due.isNone then some cause else x.due }

@[simp] theorem Common.errTransient_time (c : Common) (kind : Nat) : (c.errTransient kind).time = c.time := rfl
@[simp] theorem Common.errLasting_time (c : Common) (kind : Nat) : (c.errLasting kind).time = c.time := rfl

section
variable (s : SwState) (shaft cause : Nat)

theorem SwState.shaftTransient_time : (s.shaftTransient shaft cause).c.time = s.c.time := by
  rw [SwState.shaftTransient, SwState.modCore_c, SwState.mod_c, Common.errTransient_time, Common.bumpLo_time]

theorem SwState.shaftLasting_time : (s.shaftLasting shaft cause).c.time = s.c.time := by
  rw [SwState.shaftLasting, SwState.modCore_c, SwState.mod_c, Common.errLasting_time, Common.bumpHi_time]

theorem SwState.shaftTransient_shafts :
    (s.shaftTransient shaft cause).core.shafts = Tab.upd s.core.shafts {} shaft (fun x => x.noteTransient s.c.pick cause) := rfl

/-- A lasting error declares the shaft failed, and its match goes. -/
theorem SwState.shaftLasting_shafts :
    (s.shaftLasting shaft cause).core.shafts = Tab.upd s.core.shafts {} shaft (fun x => { x with due := if x.due.isNone then some cause else x.due, match_ := [] }) := by
  rw [SwState.shaftLasting, SwState.modCore_core, SwState.mod_core]

end

section
variable (s : SwState) (shaft : Nat)

/-- The switch with the pairs of a shaft transferred and counted, before its next match. -/
def SwState.carried : SwState :=
  (each (Tab.get s.core.shafts {} shaft).match_ s (fun v m => (v.modCore (fun k => k.transferOne shaft m.1 m.2)).mod (fun c => c.wrapBy (shaftA shaft 8) 1))).modCore
    (fun k => { k with shafts := Tab.upd k.shafts {} shaft (fun x => { x with match_ := [], retry := false }) })

/-- A shaft notes that its result fails parity, and has no match. -/
def SwState.retrying : SwState := s.modCore (fun k => { k with shafts := Tab.upd k.shafts {} shaft (fun x => { x with retry := true }) })

theorem SwState.retrying_shafts : (s.retrying shaft).core.shafts = Tab.upd s.core.shafts {} shaft (fun x => { x with retry := true }) := rfl

theorem SwState.carried_time : (s.carried shaft).c.time = s.c.time :=
  each_keep (fun v : SwState => v.c.time) _ _ _ fun _ _ => rfl

theorem SwState.carried_shafts : (s.carried shaft).core.shafts = Tab.upd s.core.shafts {} shaft (fun x => { x with match_ := [], retry := false }) := by
  rw [carried, SwState.modCore_core]
  dsimp only
  rw [each_keep (fun v : SwState => v.core.shafts) _ _ _ fun v m => v.core.transferOne_shafts shaft m.1 m.2]

variable (bad : List Nat)

theorem SwState.shaftSlot_failed (h : (Tab.get s.core.shafts {} shaft).due ≠ none) : s.shaftSlot bad shaft = s :=
  if_pos (Option.isSome_iff_ne_none.mpr h)

variable (hd : (Tab.get s.core.shafts {} shaft).due = none)
include hd

theorem SwState.shaftSlot_parity (hb : shaft ∈ bad) (hr : (Tab.get s.core.shafts {} shaft).retry = false) :
    s.shaftSlot bad shaft = (s.carried shaft).retrying shaft := by
  simp only [SwState.shaftSlot, hd, hr, List.contains_iff_mem.mpr hb, Option.isSome_none, Bool.false_eq_true, if_false, if_true]
  rfl

theorem SwState.shaftSlot_parity_again (hb : shaft ∈ bad) (hr : (Tab.get s.core.shafts {} shaft).retry = true) :
    s.shaftSlot bad shaft = (s.carried shaft).shaftLasting shaft 2 := by
  simp only [SwState.shaftSlot, hd, hr, List.contains_iff_mem.mpr hb, Option.isSome_none, Bool.false_eq_true, if_false, if_true]
  rfl

theorem SwState.shaftSlot_good (hb : shaft ∉ bad) :
    s.shaftSlot bad shaft =
      (if (Tab.get s.core.shafts {} shaft).retry = true then (s.carried shaft).shaftTransient shaft 2 else s.carried shaft).modCore (fun k => k.computeMatch shaft) := by
  have hc : bad.contains shaft = false := Bool.eq_false_iff.mpr fun h => hb (List.contains_iff_mem.mp h)
  simp only [SwState.shaftSlot, hd, hc, Option.isSome_none, Bool.false_eq_true, if_false]
  rfl

end

/-- What the slot of a shaft can be: nothing for one declared failed, else its transfers and then one of the three results. -/
theorem SwState.shaftSlot_cases (s : SwState) (bad : List Nat) (shaft : Nat) :
    (Tab.get s.core.shafts {} shaft).due ≠ none ∧ s.shaftSlot bad shaft = s ∨
    s.shaftSlot bad shaft = (s.carried shaft).retrying shaft ∨
    s.shaftSlot bad shaft = (s.carried shaft).shaftLasting shaft 2 ∨
    s.shaftSlot bad shaft = ((s.carried shaft).shaftTransient shaft 2).modCore (fun k => k.computeMatch shaft) ∨
    s.shaftSlot bad shaft = (s.carried shaft).modCore (fun k => k.computeMatch shaft) := by
  by_cases hd : (Tab.get s.core.shafts {} shaft).due = none
  · by_cases hb : shaft ∈ bad
    · cases hr : (Tab.get s.core.shafts {} shaft).retry with
      | false => exact .inr (.inl (s.shaftSlot_parity shaft bad hd hb hr))
      | true => exact .inr (.inr (.inl (s.shaftSlot_parity_again shaft bad hd hb hr)))
    · have good := s.shaftSlot_good shaft bad hd hb
      split at good
      · exact .inr (.inr (.inr (.inl good)))
      · exact .inr (.inr (.inr (.inr good)))
  · exact .inl ⟨hd, s.shaftSlot_failed shaft bad hd⟩

theorem SwState.shaftSlot_time (s : SwState) (bad : List Nat) (shaft : Nat) : (s.shaftSlot bad shaft).c.time = s.c.time := by
  rcases s.shaftSlot_cases bad shaft with ⟨_, h⟩ | h | h | h | h <;> rw [h]
  · exact s.carried_time shaft
  · rw [SwState.shaftLasting_time, s.carried_time]
  · rw [SwState.modCore_c, SwState.shaftTransient_time, s.carried_time]
  · exact s.carried_time shaft

/-- The slot of a shaft leaves the other shafts. -/
theorem SwState.shaftSlot_other (s : SwState) (bad : List Nat) (shaft n : Nat) (hn : n ≠ shaft) :
    Tab.get (s.shaftSlot bad shaft).core.shafts {} n = Tab.get s.core.shafts {} n := by
  have carried : Tab.get (s.carried shaft).core.shafts {} n = Tab.get s.core.shafts {} n := by rw [s.carried_shafts, Tab.get_upd_other _ _ _ _ _ hn]
  rcases s.shaftSlot_cases bad shaft with ⟨_, h⟩ | h | h | h | h <;> rw [h]
  · rw [SwState.retrying_shafts, Tab.get_upd_other _ _ _ _ _ hn, carried]
  · rw [SwState.shaftLasting_shafts, Tab.get_upd_other _ _ _ _ _ hn, carried]
  · rw [SwState.modCore_core, Core.computeMatch_shafts, Tab.get_upd_other _ _ _ _ _ hn, SwState.shaftTransient_shafts, Tab.get_upd_other _ _ _ _ _ hn, carried]
  · rw [SwState.modCore_core, Core.computeMatch_shafts, Tab.get_upd_other _ _ _ _ _ hn, carried]

/-- A shaft not declared failed has a match that is one to one behind its slot, whatever it had before. -/
theorem SwState.shaftSlot_oneToOne (s : SwState) (bad : List Nat) (shaft : Nat) (hd : (Tab.get s.core.shafts {} shaft).due = none) :
    OneToOne (Tab.get (s.shaftSlot bad shaft).core.shafts {} shaft).match_ := by
  rcases s.shaftSlot_cases bad shaft with ⟨due, _⟩ | h | h | h | h
  · exact absurd hd due
  · rw [h, SwState.retrying_shafts, Tab.get_upd_same, s.carried_shafts, Tab.get_upd_same]
    exact .nil
  · rw [h, SwState.shaftLasting_shafts, Tab.get_upd_same]
    exact .nil
  · rw [h]
    exact Core.computeMatch_oneToOne _ shaft
  · rw [h]
    exact Core.computeMatch_oneToOne _ shaft

/-- Slots of shafts keep a match that is one to one. -/
theorem SwState.shaftSlot_keeps_oneToOne (s : SwState) (bad : List Nat) (shaft n : Nat) (h : OneToOne (Tab.get s.core.shafts {} n).match_) :
    OneToOne (Tab.get (s.shaftSlot bad shaft).core.shafts {} n).match_ := by
  by_cases hn : n = shaft
  · subst hn
    by_cases hd : (Tab.get s.core.shafts {} n).due = none
    · exact s.shaftSlot_oneToOne bad n hd
    · rwa [s.shaftSlot_failed n bad hd]
  · rwa [s.shaftSlot_other bad shaft n hn]

/-- Each shaft of a list that is not declared failed has a match that is one to one once all have worked. -/
theorem SwState.each_shaftSlot_oneToOne (l : List Nat) (s : SwState) (bad : List Nat) (n : Nat) (hn : n ∈ l) (hd : (Tab.get s.core.shafts {} n).due = none) :
    OneToOne (Tab.get (each l s (fun s m => s.shaftSlot bad m)).core.shafts {} n).match_ := by
  induction l generalizing s with
  | nil => exact absurd hn List.not_mem_nil
  | cons m l ih =>
    rw [each_cons]
    by_cases hm : n = m
    · subst hm
      exact List.foldlRecOn (motive := fun t : SwState => OneToOne (Tab.get t.core.shafts {} n).match_) l _ (s.shaftSlot_oneToOne bad n hd)
        fun t ht k _ => t.shaftSlot_keeps_oneToOne bad k n ht
    · exact ih _ ((List.mem_cons.mp hn).resolve_left hm) (by rwa [s.shaftSlot_other bad m n hm])

/-! ### The work before the shafts -/

/-- The switch at the instant of a slot: the later of it and the present. -/
def SwState.atSlot (s : SwState) (slot : Nat) : SwState := s.mod (fun c => { c with time := { c.time with ns := max c.time.ns (min 999 (slot * 16)) } })

/-- Open units close for a slot. -/
def SwState.closed (s : SwState) : SwState := s.modCore (fun k => { k with voqs := k.voqs.map (fun e => (e.1, k.closeAtSlot (e.1 / 1024) e.2)) })

theorem SwState.matcherSlot_eq (s : SwState) (slot : Nat) (bad : List Nat) :
    s.matcherSlot slot bad =
      let t := (((s.atSlot slot).pumpLane s.core.lane [] []).unpark).closed
      each t.core.active t (fun s n => s.shaftSlot bad n) := rfl

/-- Packets that leave by the injection lanes change neither time nor shafts. -/
theorem SwState.pumpLane_keeps (s : SwState) (l : List LaneJob) (rows ports : List Nat) :
    (s.pumpLane l rows ports).c.time = s.c.time ∧ (s.pumpLane l rows ports).core.shafts = s.core.shafts := by
  induction l generalizing s rows ports with
  | nil => exact ⟨rfl, rfl⟩
  | cons e l ih =>
    unfold SwState.pumpLane
    split
    · exact ih ..
    · split
      · exact ih ..
      · exact ⟨(ih ..).1.trans (Common.sent_enqueue ..).time, (ih ..).2⟩

/-- Packets that wait no longer change neither time nor shafts. -/
theorem SwState.unpark_keeps (s : SwState) : s.unpark.c.time = s.c.time ∧ s.unpark.core.shafts = s.core.shafts := by
  refine Prod.mk.inj (each_keep (fun t : SwState => (t.c.time, t.core.shafts)) _ s _ fun t p => ?_)
  dsimp only
  split <;> rfl

/-- With none parked, none goes on. -/
theorem SwState.unpark_none (s : SwState) (h : ∀ p ∈ s.core.pkts, p.parked = false) : s.unpark = s := by
  have none : s.core.pkts.filter (·.parked) = [] := List.filter_eq_nil_iff.mpr fun p hp => by simp [h p hp]
  rw [SwState.unpark, none, each_nil]

theorem SwState.matcherSlot_time (s : SwState) (slot : Nat) (bad : List Nat) : (s.matcherSlot slot bad).c.time = (s.atSlot slot).c.time := by
  rw [SwState.matcherSlot_eq]
  dsimp only
  rw [each_keep (fun t : SwState => t.c.time) _ _ _ fun t n => t.shaftSlot_time bad n]
  exact (SwState.unpark_keeps _).1.trans (SwState.pumpLane_keeps ..).1

theorem SwState.matcherSlot_oneToOne (s : SwState) (slot : Nat) (bad : List Nat) (shaft : Nat) (ha : shaft ∈ s.core.active) (hd : (Tab.get s.core.shafts {} shaft).due = none) :
    OneToOne (Tab.get (s.matcherSlot slot bad).core.shafts {} shaft).match_ := by
  rw [SwState.matcherSlot_eq]
  dsimp only
  have shafts : ((((s.atSlot slot).pumpLane s.core.lane [] []).unpark).closed).core.shafts = s.core.shafts := (SwState.unpark_keeps _).2.trans (SwState.pumpLane_keeps ..).2
  refine SwState.each_shaftSlot_oneToOne _ _ bad shaft ?_ ?_
  · rwa [Core.active, shafts]
  · rwa [shafts]

/-- One active shaft, with no lane and no parked packet to go first: its slot is all that happens. -/
theorem SwState.matcherSlot_single (s : SwState) (slot : Nat) (bad : List Nat) (shaft : Nat) (ha : s.core.active = [shaft]) (hl : s.core.lane = [])
    (hp : ∀ p ∈ s.core.pkts, p.parked = false) : s.matcherSlot slot bad = (s.atSlot slot).closed.shaftSlot bad shaft := by
  have lane : (s.atSlot slot).pumpLane s.core.lane [] [] = s.atSlot slot := by rw [hl]; rfl
  rw [SwState.matcherSlot_eq, lane, (s.atSlot slot).unpark_none hp]
  dsimp only
  rw [show (s.atSlot slot).closed.core.active = [shaft] from ha]
  rfl

/-! ### The command -/

theorem exec_matcherSlot_after (s : State) (slot : Nat) (bad : List Nat) (hw : s.heldPart .sw = false) :
    exec (.matcherSlot slot bad) s = .next (s.afterSw (s.sw.matcherSlot slot bad)) := by
  rw [exec_matcherSlot, execMatcherSlot, onSw_after s _ hw]

/-- Settles O32: the match, a transfer and the slot of a shaft are said above. -/
theorem matchersMatchOneToOne : Obligations.MatchersMatchOneToOne := by
  refine ⟨fun k shaft => ?_, fun k shaft r => k.creditLeft_of_mem_requests shaft r, fun k shaft i o => ?_, fun s slot bad hw => ?_, fun s slot shaft bad hw ha hl hp => ?_⟩
  · obtain ⟨inputs, outputs⟩ := k.computeMatch_oneToOne shaft
    refine ⟨inputs, outputs, fun x hx => ?_⟩
    rw [k.computeMatch_match shaft] at hx
    obtain ⟨r, hr, rfl⟩ := List.mem_map.mp hx
    exact ⟨r, k.request_of_mem_matching shaft r hr, rfl, rfl⟩
  · refine ⟨fun h u hu hh => ?_, k.transferOne_none shaft i o⟩
    rw [k.transferOne_unit shaft i o h u hu hh]
    exact ⟨rfl, rfl⟩
  · refine ⟨_, exec_matcherSlot_after s slot bad hw, ?_, fun shaft ha hd => s.sw.matcherSlot_oneToOne slot bad shaft ha hd⟩
    rw [s.sw.matcherSlot_time]
    rfl
  · intro x hd w w1 w2
    have due : (Tab.get (s.sw.atSlot slot).closed.core.shafts {} shaft).due = none := hd
    rw [exec_matcherSlot_after s slot bad hw, s.sw.matcherSlot_single slot bad shaft ha hl hp]
    refine ⟨fun hb hr => ?_, fun hb hr => ?_, fun hb => ?_⟩
    · rw [SwState.shaftSlot_parity _ shaft bad due hb hr]
      rfl
    · rw [SwState.shaftSlot_parity_again _ shaft bad due hb hr]
      rfl
    · rw [SwState.shaftSlot_good _ shaft bad due hb]
      rfl

end Sys2Proof.Machine
end

section
/-!
PROOF. Units at the reed and their receipts: what SPRAY_UNIT_ARRIVAL releases, holds or turns away, and what REED_RECEIPT makes of a unit (R270, R273, R281 to R283).
-/

namespace Sys2Proof.Machine

/-! ### What the release of packets leaves -/

/-- What the core holds of units on their way: reeds, wire, receipts and credits. -/
def Core.carriage (k : Core) : Tab Reed × List WireUnit × List (Nat × Nat × Bool) × Tab Nat := (k.reeds, k.wire, k.receipts, k.credit)

theorem SwState.carriage_closeBatch (s : SwState) (o : Nat) (b : CombBatch) : (s.closeBatch o b).core.carriage = s.core.carriage :=
  each_keep (fun t : SwState => t.core.carriage) b.receipts _ _ fun _ _ => rfl

theorem SwState.carriage_closeWhere (s : SwState) (o : Nat) (f : CombBatch → Bool) : (s.closeWhere o f).core.carriage = s.core.carriage :=
  each_keep (fun t : SwState => t.core.carriage) _ _ _ fun t b => t.carriage_closeBatch o b

theorem SwState.carriage_tryMerge (s : SwState) (o input : Nat) (p : Packet) : (s.tryMerge o input p).1.core.carriage = s.core.carriage := by
  unfold SwState.tryMerge
  dsimp only
  split
  · split
    · rfl
    · split <;> exact s.carriage_closeWhere o _
  · rfl

/-- A packet released at an output goes to its combiner or its egress queue; no unit moves. -/
theorem SwState.carriage_release (s : SwState) (q : CorePkt) : (s.release q).core.carriage = s.core.carriage := by
  unfold SwState.release
  extract_lets p on counted s1 joinsOpen near s2
  have watched : s1.core.carriage = s.core.carriage := by
    change (if counted = true then _ else s).core.carriage = _
    split <;> rfl
  have merged : (s2.tryMerge q.output q.input p).1.core.carriage = s.core.carriage :=
    (s2.carriage_tryMerge q.output q.input p).trans ((s1.carriage_closeWhere q.output _).trans watched)
  split
  · split
    next s3 h => rwa [h] at merged
    next s3 h => rwa [h] at merged
  · exact watched

theorem SwState.carriage_releaseCells (s : SwState) (cells : List CellRun) : (s.releaseCells cells).core.carriage = s.core.carriage := by
  refine each_keep (fun t : SwState => t.core.carriage) cells s _ fun t e => ?_
  dsimp only
  split
  · rfl
  · split
    · exact SwState.carriage_release _ _
    · rfl

section
variable (s : SwState) (cells : List CellRun)

theorem SwState.releaseCells_reeds : (s.releaseCells cells).core.reeds = s.core.reeds := congrArg (·.1) (s.carriage_releaseCells cells)
theorem SwState.releaseCells_wire : (s.releaseCells cells).core.wire = s.core.wire := congrArg (·.2.1) (s.carriage_releaseCells cells)
theorem SwState.releaseCells_receipts : (s.releaseCells cells).core.receipts = s.core.receipts := congrArg (·.2.2.1) (s.carriage_releaseCells cells)
theorem SwState.releaseCells_credit : (s.releaseCells cells).core.credit = s.core.credit := congrArg (·.2.2.2) (s.carriage_releaseCells cells)

end

/-! ### The reed -/

/-- The reed does not hold the unit that it expects next. -/
def Reed.settled (r : Reed) : Prop := ∀ v ∈ r.held, v.seq ≠ r.next

/-- The reed with a unit released. -/
def Reed.passed (r : Reed) (u : WireUnit) : Reed := { r with next := (r.next + 1) % 4096, held := r.held.filter (fun v => v.seq != u.seq) }

section
variable (s : SwState) (key fuel : Nat)

/-- A unit of a triple is released in sequence: its credit goes back, and the reed expects the next. -/
def SwState.releaseUnit (u : WireUnit) : SwState :=
  (s.modCore (fun k => { (k.returnCredit u.shaft (key / 2 % 512)) with reeds := Tab.put k.reeds key ((Tab.get k.reeds {} key).passed u) })).releaseCells u.cells

theorem SwState.releaseUnit_reed (u : WireUnit) : Tab.get (s.releaseUnit key u).core.reeds {} key = (Tab.get s.core.reeds {} key).passed u := by
  rw [SwState.releaseUnit, SwState.releaseCells_reeds, SwState.modCore_core, Tab.get_put_same]

theorem SwState.releaseUnit_wire (u : WireUnit) : (s.releaseUnit key u).core.wire = s.core.wire := SwState.releaseCells_wire ..
theorem SwState.releaseUnit_receipts (u : WireUnit) : (s.releaseUnit key u).core.receipts = s.core.receipts := SwState.releaseCells_receipts ..
theorem SwState.releaseUnit_credit (u : WireUnit) : (s.releaseUnit key u).core.credit = (s.core.returnCredit u.shaft (key / 2 % 512)).credit := SwState.releaseCells_credit ..

theorem SwState.reedRun_settled (h : (Tab.get s.core.reeds {} key).settled) : s.reedRun key fuel = s := by
  cases fuel with
  | zero => rfl
  | succ fuel =>
    have none_next : (Tab.get s.core.reeds {} key).held.find? (fun u => u.seq == (Tab.get s.core.reeds {} key).next) = none :=
      List.find?_eq_none.mpr fun u hu => by simpa using h u hu
    simp only [SwState.reedRun, none_next]

theorem SwState.reedRun_next (u : WireUnit) (h : (Tab.get s.core.reeds {} key).held.find? (fun u => u.seq == (Tab.get s.core.reeds {} key).next) = some u) :
    s.reedRun key (fuel + 1) = (s.releaseUnit key u).reedRun key fuel := by
  simp only [SwState.reedRun, h]
  rfl

/-- Each round of the reed releases one unit that it holds at least, so as many rounds as units leave it settled. -/
theorem SwState.reedRun_settles (h : (Tab.get s.core.reeds {} key).held.length ≤ fuel) : (Tab.get (s.reedRun key fuel).core.reeds {} key).settled := by
  induction fuel generalizing s with
  | zero =>
    have empty : (Tab.get s.core.reeds {} key).held = [] := List.length_eq_zero_iff.mp (Nat.le_zero.mp h)
    intro v hv
    rw [SwState.reedRun, empty] at hv
    exact absurd hv List.not_mem_nil
  | succ fuel ih =>
    cases hu : (Tab.get s.core.reeds {} key).held.find? (fun u => u.seq == (Tab.get s.core.reeds {} key).next) with
    | none =>
      have settled : (Tab.get s.core.reeds {} key).settled := fun v hv => by simpa using List.find?_eq_none.mp hu v hv
      rwa [s.reedRun_settled key _ settled]
    | some u =>
      rw [s.reedRun_next key fuel u hu]
      refine ih _ ?_
      have fewer : ((Tab.get s.core.reeds {} key).passed u).held.length < (Tab.get s.core.reeds {} key).held.length :=
        List.length_filter_lt_length_iff_exists.mpr ⟨u, List.mem_of_find?_eq_some hu, by simp⟩
      rw [s.releaseUnit_reed]
      omega

end

/-! ### Errors of a shaft -/

/-- Errors of shafts change neither queues nor units on their way. -/
theorem SwState.each_shaftTransient (s : SwState) (n shaft : Nat) :
    (each (List.range n) s (fun w _ => w.shaftTransient shaft 1)).core.carriage = s.core.carriage :=
  each_keep (fun t : SwState => t.core.carriage) _ s _ fun _ _ => rfl

/-! ### `SPRAY_UNIT_ARRIVAL` -/

section
variable (s : SwState) (i o q : Nat) (high : Bool) (check : UnitCheck)

/-- The unit of a triple and sequence on the wire. -/
def SwState.onWire : Option WireUnit := s.core.wire.find? (fun x => x.key == tripleKey i o high && x.seq == q)

/-- The switch with a unit off the wire, its corrected errors counted and its receipt under way. -/
def SwState.landed (u : WireUnit) : SwState :=
  (each (List.range check.corrected) s (fun w _ => w.shaftTransient u.shaft 1)).modCore
    (fun k => { k with wire := k.wire.erase u, receipts := k.receipts ++ [(tripleKey i o high, q, check.bad)] })

theorem SwState.landed_carriage (u : WireUnit) :
    (s.landed i o q high check u).core.carriage = (s.core.reeds, s.core.wire.erase u, s.core.receipts ++ [(tripleKey i o high, q, check.bad)], s.core.credit) := by
  obtain ⟨reeds, wire, receipts, credit⟩ : _ ∧ _ ∧ _ ∧ _ := by
    simpa only [Core.carriage, Prod.mk.injEq] using s.each_shaftTransient check.corrected u.shaft
  simp only [SwState.landed, SwState.modCore_core, Core.carriage, reeds, wire, receipts, credit]

/-- The reed with one more unit held. -/
def Reed.heldToo (r : Reed) (u : WireUnit) : Reed := { r with held := r.held ++ [u] }

/-- The switch with a unit held by its reed. -/
def SwState.holdUnit (key : Nat) (r : Reed) (u : WireUnit) : SwState := s.modCore (fun k => { k with reeds := Tab.put k.reeds key (r.heldToo u) })

theorem SwState.unitArrival_none (h : s.onWire i o q high = none) : s.unitArrival i o q high check = s := by
  unfold SwState.onWire at h
  simp only [SwState.unitArrival, h]

/-- The reed has no use for a unit: it is bad, released already or held already (R273, R281). -/
def Reed.refuses (r : Reed) (q : Nat) (bad : Bool) : Bool := bad || behindSeq r.next q || r.held.any (fun v => v.seq == q)

theorem SwState.unitArrival_some (u : WireUnit) (h : s.onWire i o q high = some u) :
    s.unitArrival i o q high check =
      if (Tab.get s.core.reeds {} (tripleKey i o high)).refuses q check.bad = true then (s.landed i o q high check u).modCore (fun k => k.returnCredit u.shaft o)
      else ((s.landed i o q high check u).holdUnit (tripleKey i o high) (Tab.get s.core.reeds {} (tripleKey i o high)) { u with at_ := s.c.now }).reedRun (tripleKey i o high) 1025 := by
  have reeds : (s.landed i o q high check u).core.reeds = s.core.reeds := congrArg (·.1) (s.landed_carriage i o q high check u)
  rw [← reeds]
  unfold SwState.onWire at h
  simp only [SwState.unitArrival, h]
  rfl

theorem Reed.refuses_iff (r : Reed) (bad : Bool) : r.refuses q bad = true ↔ bad = true ∨ behindSeq r.next q = true ∨ r.held.any (fun v => v.seq == q) = true := by
  simp [Reed.refuses, or_assoc]

theorem SwState.holdUnit_reed (key : Nat) (r : Reed) (u : WireUnit) : Tab.get (s.holdUnit key r u).core.reeds {} key = r.heldToo u := by
  rw [SwState.holdUnit, SwState.modCore_core, Tab.get_put_same]

/-- A unit that the wire brings has the sequence asked for. -/
theorem SwState.seq_of_onWire (u : WireUnit) (h : s.onWire i o q high = some u) : u.seq = q := by
  have found := List.find?_some h
  simp only [Bool.and_eq_true, beq_iff_eq] at found
  exact found.2

end

/-- The output of a triple, from its key. -/
theorem tripleKey_output (i o : Nat) (high : Bool) (ho : o < 512) : tripleKey i o high / 2 % 512 = o := by
  cases high <;> simp only [tripleKey, b2n, if_true, if_false, Bool.false_eq_true] <;> omega

/-- The next sequence is not one of those released already. -/
theorem behindSeq_self (q : Nat) : behindSeq q q = false := by
  simp [behindSeq]

/-- A unit next in sequence, with none held, is released, and nothing else that the reed holds moves. -/
theorem SwState.reedRun_only (s : SwState) (key fuel : Nat) (u : WireUnit) (h : Tab.get s.core.reeds {} key = { next := u.seq, held := [u] }) :
    s.reedRun key (fuel + 1) = s.releaseUnit key u ∧ Tab.get (s.releaseUnit key u).core.reeds {} key = { next := (u.seq + 1) % 4096, held := [] } := by
  have reed : Tab.get (s.releaseUnit key u).core.reeds {} key = { next := (u.seq + 1) % 4096, held := [] } := by
    rw [s.releaseUnit_reed, h]
    simp [Reed.passed]
  refine ⟨?_, reed⟩
  rw [s.reedRun_next key fuel u (by rw [h]; simp)]
  refine (s.releaseUnit key u).reedRun_settled key fuel ?_
  rw [reed]
  exact fun v hv => absurd hv List.not_mem_nil

/-! ### `REED_RECEIPT` -/

section
variable (s : SwState) (i o q : Nat) (high : Bool) (u : SprayUnitRec)

/-- The switch with a receipt taken. -/
def SwState.receiptTaken (key : Nat) (negative : Bool) : SwState := s.modCore (fun k => { k with receipts := k.receipts.erase (key, q, negative) })

/-- A unit that has failed before declares both shafts failed (R273). -/
def SwState.blameBoth : SwState :=
  match u.failedOn with
  | some first => (s.shaftLasting first 1).shaftLasting u.shaft 1
  | none => s

/-- A unit that arrives after a failed attempt counts a transient error of the shaft that failed (R273). -/
def SwState.blameFirst : SwState :=
  match u.failedOn with
  | some first => s.shaftTransient first 1
  | none => s

/-- The unit of a queue with a sequence. -/
def SwState.unreceipted : Option SprayUnitRec := (Tab.get s.core.voqs {} (tripleKey i o high)).units.find? (fun x => x.seq == q)

theorem SwState.receipt_unknown (negative : Bool) (h : s.core.receipts.contains (tripleKey i o high, q, negative) = false) : s.receipt i o q high negative = s := by
  simp only [SwState.receipt, h, Bool.not_false, if_true]

theorem SwState.receipt_none (negative : Bool) (h : s.core.receipts.contains (tripleKey i o high, q, negative) = true) (hu : s.unreceipted i o q high = none) :
    s.receipt i o q high negative = s.receiptTaken q (tripleKey i o high) negative := by
  unfold SwState.unreceipted at hu
  simp only [SwState.receipt, h, hu, Bool.not_true, Bool.false_eq_true, if_false]
  rfl

theorem SwState.receipt_negative (h : s.core.receipts.contains (tripleKey i o high, q, true) = true) (hu : s.unreceipted i o q high = some u) :
    s.receipt i o q high true = ((s.receiptTaken q (tripleKey i o high) true).blameBoth u).modCore (fun k =>
      { k with voqs := Tab.upd k.voqs {} (tripleKey i o high) (fun v => v.assign q (fun x => { x with sent := false, failedOn := some u.shaft, shaft := s.core.nextActive u.shaft })) }) := by
  unfold SwState.unreceipted at hu
  simp only [SwState.receipt, SwState.blameBoth, h, hu, Bool.not_true, Bool.false_eq_true, if_false, if_true]
  cases u.failedOn <;> rfl

theorem SwState.receipt_positive (h : s.core.receipts.contains (tripleKey i o high, q, false) = true) (hu : s.unreceipted i o q high = some u) :
    s.receipt i o q high false = ((((s.receiptTaken q (tripleKey i o high) false).blameFirst u).modCore (fun k =>
      { (k.receiptCells u.cells) with voqs := Tab.upd k.voqs {} (tripleKey i o high) (fun v => k.closeFull i 1024 { v with units := v.units.filter (fun x => x.seq != q) }) })).admitPort i 64) := by
  unfold SwState.unreceipted at hu
  simp only [SwState.receipt, SwState.blameFirst, h, hu, Bool.not_true, Bool.false_eq_true, if_false]
  cases u.failedOn <;> rfl

end

/-! ### The commands -/

section
variable (s : State) (i o q : Nat) (high : Bool) (hw : s.heldPart .sw = false) (hi : i < 288) (ho : o < 288)
include hw hi ho

theorem exec_sprayUnitArrival_after (check : UnitCheck) : exec (.sprayUnitArrival i o q high check) s = .next (s.afterSw (s.sw.unitArrival i o q high check)) := by
  rw [exec_sprayUnitArrival, execSprayUnitArrival, onSwIf_after s _ _ hw (by simp [swPort, hi, ho])]

theorem exec_reedReceipt_after (negative : Bool) : exec (.reedReceipt i o q high negative) s = .next (s.afterSw (s.sw.receipt i o q high negative)) := by
  rw [exec_reedReceipt, execReedReceipt, onSwIf_after s _ _ hw (by simp [swPort, hi, ho])]

end

/-- Settles O33: what the reed makes of a unit, and what becomes of one that has its receipt, are said above. -/
theorem unitsArriveInSequence : Obligations.UnitsArriveInSequence := by
  refine ⟨fun s i o q k high bad hw hi ho => ?_, fun s i o q high negative hw hi ho => ?_⟩
  · intro key r find
    rw [exec_sprayUnitArrival_after s i o q high hw hi ho]
    refine ⟨fun h => by rw [s.sw.unitArrival_none i o q high _ h], fun u h => ?_⟩
    have arrival := s.sw.unitArrival_some i o q high { corrected := k, bad := bad } u h
    have landed := s.sw.landed_carriage i o q high { corrected := k, bad := bad } u
    obtain rfl := s.sw.seq_of_onWire i o q high u h
    have kept : bad = false → behindSeq r.next u.seq = false → r.held.any (fun v => v.seq == u.seq) = false → r.refuses u.seq bad ≠ true := fun hb hq hh => by
      simp [Reed.refuses, hb, hq, hh]
    intro w
    refine ⟨fun hr => ?_, fun hb hh hn _ _ => ?_, fun hb hn hq hh _ => ?_, fun hb hq hh hl => ?_⟩
    · rw [arrival, if_pos ((r.refuses_iff u.seq bad).mpr hr)]
      rfl
    · have start : r = { next := u.seq, held := [] } := by rw [← hh, ← hn]
      rw [arrival, if_neg (kept hb (by rw [hn, behindSeq_self]) (by rw [hh]; rfl))]
      obtain ⟨run, reed⟩ := SwState.reedRun_only _ key 1024 { u with at_ := s.sw.c.now } ((SwState.holdUnit_reed _ key r _).trans (by rw [start]; rfl))
      refine ⟨_, congrArg _ (congrArg _ run), ?_, ?_, reed, ?_⟩
      · exact (SwState.releaseUnit_wire ..).trans (congrArg (·.2.1) landed)
      · rw [← hb]
        exact (SwState.releaseUnit_receipts ..).trans (congrArg (·.2.2.1) landed)
      · rw [SwState.releaseUnit_credit, tripleKey_output i o high (by omega)]
        exact congrArg (fun c => Tab.upd c 0 (u.shaft * 512 + o) (· - 1)) (congrArg (·.2.2.2) landed)
    · have held : r.held.any (fun v => v.seq == u.seq) = false := List.any_eq_false.mpr fun v hv => by simpa using (hh v hv).1
      rw [arrival, if_neg (kept hb hq held), SwState.reedRun_settled]
      · rfl
      · rw [SwState.holdUnit_reed]
        intro v hv
        rcases List.mem_append.mp hv with hv | hv
        · exact (hh v hv).2
        · rw [List.mem_singleton.mp hv]
          exact Ne.symm hn
    · rw [arrival, if_neg (kept hb hq hh)]
      refine ⟨_, rfl, SwState.reedRun_settles _ key 1025 ?_⟩
      rw [SwState.holdUnit_reed, Reed.heldToo, List.length_append, List.length_singleton]
      exact Nat.add_le_add_right hl 1
  · intro key w find
    rw [exec_reedReceipt_after s i o q high hw hi ho]
    refine ⟨fun h => by rw [s.sw.receipt_unknown i o q high negative h], fun h hu => ?_, fun u h hu => ⟨?_, ?_⟩⟩
    · rw [s.sw.receipt_none i o q high negative h hu]
      rfl
    · rintro rfl
      rw [s.sw.receipt_negative i o q high u h hu]
      rfl
    · rintro rfl
      rw [s.sw.receipt_positive i o q high u h hu]
      rfl

end Sys2Proof.Machine
end

section
/-!
PROOF. The timebase: what an on-time pulse of `PICK_SYNC` leaves of its input, the frame that locks an acquiring switch, and the end of trust in a held count (R302 to R307, R310, Tables 8.1 and 8.2).
-/

namespace Sys2Proof.Machine

/-! ### The state of an input -/

@[simp] theorem Timebase.inp_setInp (t : Timebase) (i : SyncInput) (x : SyncState) : (t.setInp i x).inp i = x := by cases i <;> rfl
@[simp] theorem Timebase.setInp_setInp (t : Timebase) (i : SyncInput) (x y : SyncState) : (t.setInp i x).setInp i y = t.setInp i y := by cases i <;> rfl
@[simp] theorem Timebase.setInp_st (t : Timebase) (i : SyncInput) (x : SyncState) : (t.setInp i x).st = t.st := by cases i <;> rfl
@[simp] theorem Timebase.setInp_source (t : Timebase) (i : SyncInput) (x : SyncState) : (t.setInp i x).source = t.source := by cases i <;> rfl

@[simp] theorem Common.pickEvent_time (c : Common) (cause low : Nat) : (c.pickEvent cause low).time = c.time := Common.event_time ..
@[simp] theorem Common.pickEvent_stage (c : Common) (cause low : Nat) : (c.pickEvent cause low).stage = c.stage := Common.event_stage ..

/-- Put a state in the place of an input's. -/
def Common.putInp (c : Common) (i : SyncInput) (x : SyncState) : Common := { c with time := c.time.setInp i x }

@[simp] theorem Common.inp_putInp (c : Common) (i : SyncInput) (x : SyncState) : (c.putInp i x).time.inp i = x := Timebase.inp_setInp ..
@[simp] theorem Common.putInp_putInp (c : Common) (i : SyncInput) (x y : SyncState) : (c.putInp i x).putInp i y = c.putInp i y := by simp [Common.putInp]
@[simp] theorem Common.putInp_st (c : Common) (i : SyncInput) (x : SyncState) : (c.putInp i x).time.st = c.time.st := Timebase.setInp_st ..

/-- A change of one input's state alone. -/
theorem Common.modTime_setInp (c : Common) (i : SyncInput) (g : Timebase → SyncState) : c.modTime (fun t => t.setInp i (g t)) = c.putInp i (g c.time) := rfl

/-- Renumbering changes nothing of the timebase but the number. -/
theorem Common.renumber_time (c : Common) (new : Nat) : (c.renumber new).time = { c.time with pick := new } := rfl

/-- Shifting both inputs' edges keeps how far each frame has come. -/
theorem Timebase.pos_shift (t : Timebase) (i : SyncInput) (d : Int) : ({ t with inA := t.inA.shift d, inB := t.inB.shift d }.inp i).pos = (t.inp i).pos := by
  cases i <;> rfl

/-! ### A pulse on time -/

section
variable (c : Common) (i : SyncInput) (width due k : Nat) (offset : Int)

/-- When the edge of a pulse comes, in nanoseconds of the own count: `offset` from the nearest boundary. -/
def Common.edgeAt : Int := ((if offset < 0 then c.time.pick + 1 else c.time.pick : Nat) : Int) * 1000 + offset

/-- What the edge of an on-time pulse leaves of its input, whatever its symbol: in a switch that has a pick, the end of a run of missed edges too. -/
def Common.heard : SyncState :=
  { c.time.inp i with lastEdge := some (c.edgeAt offset), slipped := false, offset := some offset, misses := if c.time.st = .acquiring then (c.time.inp i).misses else 0 }

theorem Common.heard_acquiring (h : c.time.st = .acquiring) :
    c.heard i offset = { c.time.inp i with lastEdge := some (c.edgeAt offset), slipped := false, offset := some offset } := by
  rw [Common.heard, if_pos h]

theorem Common.heard_locked (h : c.time.st = .locked) :
    c.heard i offset = { c.time.inp i with lastEdge := some (c.edgeAt offset), slipped := false, offset := some offset, misses := 0 } := by
  simp [Common.heard, h]

/-- Within 100 ns of its place, a pulse's width alone makes its symbol (Table 8.1). -/
theorem symbolOf_onTime (off : Int) (h : off.natAbs ≤ 100) : symbolOf width off = symbolOf width 0 := by
  simp [symbolOf, Nat.not_lt.mpr h]

/-- An on-time pulse comes one pick after the last, so that no symbol was skipped. -/
theorem picksSince_onTime (gap : Int) (h : (gap - 1000).natAbs ≤ 100) : max 1 ((gap + 500) / 1000).toNat = 1 := by omega

theorem Common.skipSymbols_zero : c.skipSymbols i 0 = c := by
  unfold Common.skipSymbols
  split <;> rfl

/-- A pulse on time, in a switch that acquires or finds it at its own boundary, is one symbol of the width's kind. -/
theorem Common.syncPulse_onTime (onTime : ∀ l, (c.time.inp i).lastEdge = some l → (c.edgeAt offset - l - 1000).natAbs ≤ 100)
    (hst : c.time.st = .acquiring ∨ c.time.st = .locked ∧ offset.natAbs ≤ 20) :
    c.syncPulse i width offset = (c.putInp i (c.heard i offset)).frameSymbol i (symbolOf width 0) (if offset < 0 then c.pick + 1 else c.pick) offset := by
  unfold Common.syncPulse
  extract_lets due x at_ gap n off steady c1 source c2 behind c3
  have near : (gap - 1000).natAbs ≤ 100 := by
    cases last : x.lastEdge with
    | none => simp [gap, last]
    | some l =>
      simp only [gap, last]
      exact onTime l last
  have one : n = 1 := picksSince_onTime gap near
  have close : off.natAbs ≤ 100 := by simpa [off, one] using near
  have edge : c1 = c.putInp i { x with lastEdge := some at_, slipped := false, offset := some offset } := by
    simp [c1, one, Common.skipSymbols_zero, steady, close, Common.modTime_setInp, x]
  have place : c2 = c.putInp i (c.heard i offset) := by
    rcases hst with hst | ⟨hst, here⟩
    · simp [c2, edge, hst, Common.heard, x, at_, due, Common.pick, Common.edgeAt]
    · simp [c2, edge, source, hst, here, Common.modTime_setInp, Common.heard, x, at_, due, Common.pick, Common.edgeAt]
  have still : c3 = c2 := by
    refine if_neg fun slews => ?_
    rw [place, Common.putInp_st] at slews
    rcases hst with hst | hst <;> simp [hst] at slews
  rw [still, place, symbolOf_onTime width off close]

/-! ### The symbols of a frame -/

variable (x : SyncState)

/-- A frame start where no frame runs begins one. -/
theorem Common.frameSymbol_start (h : x.pos = none) : (c.putInp i x).frameSymbol i 2 due offset = c.putInp i { x with pos := some 1, acc := 0, bad := false } := by
  simp [Common.frameSymbol, h, Common.modTime_setInp]

/-- Outside a frame a symbol other than a frame start is dropped. -/
theorem Common.frameSymbol_idle (sym : Nat) (hs : sym ≠ 2) (h : x.pos = none) : (c.putInp i x).frameSymbol i sym due offset = c.putInp i x := by
  simp [Common.frameSymbol, hs, h]

/-- Within a frame a symbol adds its bit, or spoils the frame, and the next is awaited. -/
theorem Common.frameSymbol_bit (sym : Nat) (hs : sym ≠ 2) (h : x.pos = some k) (hk : k < 72) :
    (c.putInp i x).frameSymbol i sym due offset = c.putInp i { x with pos := some (k + 1), acc := 2 * x.acc + sym % 2, bad := x.bad || sym == 3 } := by
  simp [Common.frameSymbol, hs, h, hk, Nat.mul_comm 2, Common.modTime_setInp]

/-- The last bit of a frame without an error, whose CRC-8 is right, ends it with the number it names (R303). -/
theorem Common.frameSymbol_last (bit q : Nat) (hb : bit < 2) (h : x.pos = some 72) (good : x.bad = false) (frame : 2 * x.acc + bit = 256 * q + crc8 q) (crc : crc8 q < 256) :
    (c.putInp i x).frameSymbol i bit due offset = (c.putInp i { x with pos := none, acc := 256 * q + crc8 q }).validFrame i q due offset := by
  have bits : x.acc * 2 + bit % 2 = 256 * q + crc8 q := by omega
  have number : (256 * q + crc8 q) / 256 = q := by omega
  have check : (256 * q + crc8 q) % 256 = crc8 q := by omega
  have noStart : bit ≠ 2 := by omega
  have noError : (bit == 3) = false := by simp; omega
  simp [Common.frameSymbol, noStart, h, bits, number, check, good, noError, Common.modTime_setInp]

/-- A valid frame locks an acquiring switch on its input, with the pick that it announces (R306, Table 8.2). -/
theorem Common.validFrame_locks (q : Nat) (hst : c.time.st = .acquiring) :
    let d := (c.putInp i x).validFrame i q due offset
    d.time.st = .locked ∧ d.time.pick = q + 72 ∧ d.time.source = some i ∧ (d.time.inp i).qualified = true ∧ (d.time.inp i).pos = x.pos := by
  simp only [Common.validFrame, Common.putInp_st, hst, Common.pickEvent_time, Common.modTime_time, Common.renumber_time, Timebase.setInp_st, Timebase.setInp_pick,
    Timebase.setInp_source, Timebase.inp_setInp, true_and]
  cases i <;> rfl

end

/-! ### Widths -/

/-- A pulse of 550 to 650 ns is a frame start (Table 8.1). -/
theorem symbolOf_start (width : Nat) (h : 550 ≤ width ∧ width ≤ 650) : symbolOf width 0 = 2 := by
  have no0 : ¬(150 ≤ width ∧ width ≤ 250) := by omega
  have no1 : ¬(350 ≤ width ∧ width ≤ 450) := by omega
  simp [symbolOf, no0, no1, h]

/-- A pulse of any other width is a bit or an error (Table 8.1). -/
theorem symbolOf_noStart (width : Nat) (h : ¬(550 ≤ width ∧ width ≤ 650)) :
    symbolOf width 0 = if 150 ≤ width ∧ width ≤ 250 then 0 else if 350 ≤ width ∧ width ≤ 450 then 1 else 3 := by
  simp [symbolOf, h]

/-- No pulse of another width is a frame start. -/
theorem symbolOf_ne_start (width : Nat) (h : ¬(550 ≤ width ∧ width ≤ 650)) : symbolOf width 0 ≠ 2 := by
  rw [symbolOf_noStart width h]
  split
  · decide
  · split <;> decide

/-- The bit of a pulse (Table 8.1). -/
theorem symbolOf_bit (width : Nat) (h : 150 ≤ width ∧ width ≤ 250 ∨ 350 ≤ width ∧ width ≤ 450) : symbolOf width 0 = if width ≤ 250 then 0 else 1 := by
  rcases h with h | h
  · simp [symbolOf, h]
  · have no0 : ¬width ≤ 250 := by omega
    simp [symbolOf, h, no0]

/-! ### The end of trust -/

/-- What cancelling sets leaves of the state of each: the cancelled ones are CANCELLED, every other stands. -/
theorem Common.st_each_cancel (l : List Nat) (c : Common) (cause k : Nat) :
    (Tab.get (each l c (fun c k => (c.closeSet k .cancelled).stageEvent cause k)).stage.sets {} k).st = if k ∈ l then .cancelled else (Tab.get c.stage.sets {} k).st := by
  induction l generalizing c with
  | nil => simp
  | cons j l ih =>
    have one : (Tab.get ((c.closeSet j .cancelled).stageEvent cause j).stage.sets {} k).st = if k = j then .cancelled else (Tab.get c.stage.sets {} k).st := by
      rw [Common.stageEvent, Common.event_stage, Common.closeSet]
      split
      · rename_i same
        rw [same, Tab.get_upd_same]
      · rename_i other
        rw [Tab.get_upd_other _ _ _ _ _ other]
    rw [each_cons, ih, one]
    by_cases tail : k ∈ l <;> by_cases head : k = j <;> simp [tail, head]

/-- After a cancellation no set stays scheduled (R310, R692). -/
theorem Common.cancelScheduled_none (c : Common) (cause k : Nat) : (Tab.get (c.cancelScheduled cause).stage.sets {} k).st ≠ .scheduled := by
  simp only [Common.cancelScheduled, Common.st_each_cancel]
  split
  · decide
  · rename_i unlisted
    intro scheduled
    cases found : Tab.find c.stage.sets k with
    | none => simp [Tab.get, found] at scheduled
    | some x =>
      refine unlisted (List.mem_map.mpr ⟨(k, x), List.mem_filter.mpr ⟨Tab.mem_of_find found, ?_⟩, rfl⟩)
      simpa [Tab.get, found] using scheduled

theorem Common.cancelScheduled_time (c : Common) (cause : Nat) : (c.cancelScheduled cause).time = c.time :=
  each_keep Common.time _ c _ fun d k => (d.closeSet k .cancelled).event_time _ _

/-- A part in HOLDOVER that may still trust no source keeps its pick, with nothing scheduled (R306, R310). -/
theorem Common.expire_holdover (c : Common) (hst : c.time.st = .holdover) (hm : c.time.mismatch = false) :
    c.expire.time = { c.time with st := .expired } ∧ c.expire.stage.memb = [] ∧ (∀ k, (Tab.get c.expire.stage.sets {} k).st ≠ .scheduled) ∧ c.expire.ports = c.ports := by
  have expires : ∃ d : Common, c.expire = d.cancelScheduled 3 ∧ d.time = { c.time with st := .expired } := by
    refine ⟨_, if_neg (by simp [hst, hm]), ?_⟩
    split <;> rw [Common.pickEvent_time] <;> rfl
  have ports : c.expire.steady.ports = c.steady.ports := congrArg Common.ports c.steady_expire
  obtain ⟨d, hd, time⟩ := expires
  refine ⟨?_, ?_, ?_, ports⟩ <;> rw [hd]
  · rw [Common.cancelScheduled_time, time]
  · rfl
  · exact d.cancelScheduled_none 3

/-- In any other state nothing expires. -/
theorem Common.expire_other (c : Common) (h : c.time.st ≠ .holdover ∨ c.time.mismatch = true) : c.expire = c := if_pos h

/-! ### The commands -/

theorem exec_pickSyncPulse_after (s : State) (i : SyncInput) (width : Nat) (offset : Int) (hw : s.heldPart .sw = false) :
    exec (.pickSyncPulse .sw i width offset) s = .next (s.after .sw (s.sw.c.syncPulse i width offset)) := by
  rw [exec_pickSyncPulse, execPickSyncPulse, onPart_after s .sw _ hw]
  rfl

theorem exec_holdoverExpired_after (s : State) (part : Part) (hw : s.heldPart part = false) :
    exec (.holdoverExpired part) s = .next (s.after part (s.common part).expire) := by
  rw [exec_holdoverExpired, execHoldoverExpired, onPart_after s part _ hw]

/-- Settles O14: an on-time pulse is one symbol of its width's kind, and what each symbol does, and the end of trust, are said above. -/
theorem framesLockTheTimebase : Obligations.FramesLockTheTimebase := by
  refine ⟨fun s i width offset hw hst onTime => ?_, fun s i width offset hw hst onTime here idle noStart => ?_, fun s part hw hst hm => ?_, fun s part hw h => ?_⟩
  · rw [exec_pickSyncPulse_after s i width offset hw, s.sw.c.syncPulse_onTime i width offset onTime (.inl hst)]
    have kept := s.sw.c.heard_acquiring i offset hst
    refine ⟨fun wide narrow idle => ?_, fun k noStart pos hk => ?_, fun q bit pos good frame crc => ?_⟩
    · rw [symbolOf_start width ⟨wide, narrow⟩, Common.frameSymbol_start _ _ _ _ (s.sw.c.heard i offset) idle, kept]
      rfl
    · intro sym
      rw [Common.frameSymbol_bit _ _ _ k _ (s.sw.c.heard i offset) _ (symbolOf_ne_start width noStart) pos hk, symbolOf_noStart width noStart, kept]
      rfl
    · rw [symbolOf_bit width bit, Common.frameSymbol_last _ _ _ _ (s.sw.c.heard i offset) _ q (by split <;> decide) pos good frame crc]
      exact ⟨_, rfl, Common.validFrame_locks _ _ _ _ _ q hst⟩
  · rw [exec_pickSyncPulse_after s i width offset hw, s.sw.c.syncPulse_onTime i width offset onTime (.inr ⟨hst, here⟩),
      Common.frameSymbol_idle _ _ _ _ (s.sw.c.heard i offset) _ (symbolOf_ne_start width noStart) idle, s.sw.c.heard_locked i offset hst]
    rfl
  · rw [exec_holdoverExpired_after s part hw]
    exact ⟨_, rfl, (s.common part).expire_holdover hst hm⟩
  · rw [exec_holdoverExpired_after s part hw, (s.common part).expire_other h]

end Sys2Proof.Machine
end

section
/-!
PROOF. Staked packets: what acceptance takes into the pick's budget, and what a slot of the timing wheel releases (R311, R323, R325, R337, Table 8.6).
-/

namespace Sys2Proof.Machine

/-! ### Folds that act once -/

/-- A fold of which no step acts. -/
theorem each_idle {α σ : Type} (l : List α) (s : σ) (f : σ → α → σ) (h : ∀ a ∈ l, f s a = s) : each l s f = s := by
  induction l with
  | nil => rfl
  | cons a l ih => rw [each_cons, h a List.mem_cons_self, ih fun b hb => h b (List.mem_cons_of_mem a hb)]

/-- A fold that acts at one element alone. -/
theorem each_only {α σ : Type} (l : List α) (s t : σ) (f : σ → α → σ) (a : α) (once : l.Nodup) (mem : a ∈ l) (acts : f s a = t)
    (before : ∀ b ∈ l, b ≠ a → f s b = s) (after : ∀ b ∈ l, b ≠ a → f t b = t) : each l s f = t := by
  induction l with
  | nil => cases mem
  | cons b l ih =>
    obtain ⟨fresh, once⟩ := List.nodup_cons.mp once
    have later : ∀ d ∈ l, d ∈ b :: l := fun d hd => List.mem_cons_of_mem b hd
    rw [each_cons]
    rcases List.mem_cons.mp mem with rfl | mem
    · rw [acts]
      exact each_idle l t f fun d hd => after d (later d hd) fun same => fresh (same ▸ hd)
    · rw [before b List.mem_cons_self fun same => fresh (same ▸ mem)]
      exact ih once mem (fun d hd => before d (later d hd)) (fun d hd => after d (later d hd))

/-! ### Acceptance -/

section
variable (s : EpState) (f : Nat) (w : Packet × Option Nat) (rest : List (Packet × Option Nat))

/-- The cells that a packet takes of its flow's budget: an encrypted one is a cell longer. -/
def EpState.stakedCells : Nat := w.1.cellCount + b2n (s.mustEncrypt w.1)

/-- A request among the packets counts as sent in a pick. -/
def EpState.sentIn (pick : Nat) : EpState :=
  match w.2 with
  | some id => s.modSrcReq id (fun r => { r with st := .sent, lastIssue := pick })
  | none => s

/-- The head packet of a flow is accepted: it leaves the flow, and its cells leave the budget. -/
def EpState.accepts : EpState := s.modFlow f (fun g => { g with budget := g.budget - s.stakedCells w, wait := rest })

theorem EpState.stakedAccept_none (h : (Tab.get s.dropFlows.src.flows {} f).wait = []) : s.stakedAccept f = s.dropFlows := by
  simp only [EpState.stakedAccept, h]

variable (h : (Tab.get s.dropFlows.src.flows {} f).wait = w :: rest)
include h

/-- A quiet pick, or a budget too small, leaves the head packet where it is. -/
theorem EpState.stakedAccept_waits (late : quiet s.dropFlows.c.pick = true ∨ (Tab.get s.dropFlows.src.flows {} f).budget < s.dropFlows.stakedCells w) :
    s.stakedAccept f = s.dropFlows := by
  simp only [EpState.stakedAccept, h]
  exact if_pos late

/-- Outside quiet picks a packet within the budget joins the staked queue of the flow's plane, to wait for its slot of the wheel. -/
theorem EpState.stakedAccept_takes (loud : quiet s.dropFlows.c.pick = false) (room : s.dropFlows.stakedCells w ≤ (Tab.get s.dropFlows.src.flows {} f).budget) :
    s.stakedAccept f =
      (let t := (s.dropFlows.accepts f w rest).sentIn w s.c.pick
       t.egress (fld (s.dropFlows.c.rd (flowA f)) 5 3) 1 { pkt := w.1, at_ := t.c.now, released := false, flow := some f }) := by
  simp only [EpState.stakedAccept, h]
  exact if_neg (by simpa [loud, EpState.stakedCells] using room)

end

/-! ### What a release changes -/

theorem Egress.queue_setQueue_same (g : Egress) (q : Nat) (l : List QEntry) : (g.setQueue q l).queue q = l := Tab.get_set_same ..
theorem Egress.queue_setQueue_other (g : Egress) (q r : Nat) (l : List QEntry) (h : r ≠ q) : (g.setQueue q l).queue r = g.queue r := Tab.get_set_other _ _ _ _ _ h

theorem Common.port_modEgress_other (c : Common) (n k : Nat) (f : Egress → Egress) (h : k ≠ n) : (c.modEgress n f).port k = c.port k := c.port_modPort_other n k _ h

section
variable (s : EpState) (k q now f : Nat) (e : QEntry)

/-- An entry of a queue is released. -/
def EpState.freed : EpState :=
  s.mod (fun c => c.modEgress k (fun g => g.setQueue q ((g.queue q).map (fun x => if x = e then { x with released := true } else x))))

/-- The flow of a packet that leaves at `now` is charged for it: its next eligible time is that of the packet's cells at RATE (R325). -/
def EpState.chargeFlow : EpState := s.modFlow f (fun g => { g with elig := nextElig g.elig now 0 56 e.pkt.cellCount (s.flowRate f) })

/-- The loose limit of a plane in force: that of its congestion level within that of gate GL (R337). -/
def EpState.looseLimit : Nat := min ((s.c.port k).eg.loose.getD 7500) (gateCells s.c.pwr.gl (s.c.port k).width)

/-- A plane is charged for a loose packet that leaves at `now`, with a burst of 64 slots (R337). -/
def EpState.chargeLoose (limit : Nat) : EpState :=
  s.mod (fun c => c.modEgress k (fun g => { g with looseElig := nextElig g.looseElig now (64 * 1024) 64 e.pkt.cellCount limit }))

/-- The only entry of its queue is released there. -/
theorem EpState.queue_freed_same (h : (s.c.port k).eg.queue q = [e]) : ((s.freed k q e).c.port k).eg.queue q = [{ e with released := true }] := by
  simp [EpState.freed, Egress.queue_setQueue_same, h]

/-- A release leaves every other queue. -/
theorem EpState.queue_freed_other (j r : Nat) (h : ¬(j = k ∧ r = q)) : ((s.freed k q e).c.port j).eg.queue r = (s.c.port j).eg.queue r := by
  by_cases port : j = k
  · have other : r ≠ q := fun same => h ⟨port, same⟩
    simp [EpState.freed, port, Egress.queue_setQueue_other _ _ _ _ other]
  · simp [EpState.freed, Common.port_modEgress_other _ _ _ _ port]

theorem EpState.port_freed_other (j : Nat) (h : j ≠ k) : (s.freed k q e).c.port j = s.c.port j := s.c.port_modEgress_other k j _ h

theorem EpState.looseElig_freed : ((s.freed k q e).c.port k).eg.looseElig = (s.c.port k).eg.looseElig := by
  simp [EpState.freed, Egress.setQueue]

/-- Charging a plane leaves its queues. -/
theorem EpState.queue_chargeLoose (limit j r : Nat) : ((s.chargeLoose k now e limit).c.port j).eg.queue r = (s.c.port j).eg.queue r := by
  by_cases port : j = k
  · simp [EpState.chargeLoose, port, Egress.queue]
  · simp [EpState.chargeLoose, Common.port_modEgress_other _ _ _ _ port]

theorem EpState.port_chargeLoose_other (limit j : Nat) (h : j ≠ k) : (s.chargeLoose k now e limit).c.port j = s.c.port j := s.c.port_modEgress_other k j _ h

theorem EpState.looseElig_chargeLoose (limit : Nat) :
    ((s.chargeLoose k now e limit).c.port k).eg.looseElig = nextElig (s.c.port k).eg.looseElig now (64 * 1024) 64 e.pkt.cellCount limit := by
  simp [EpState.chargeLoose]

theorem EpState.elig_chargeFlow : (Tab.get (s.chargeFlow now f e).src.flows {} f).elig = nextElig (Tab.get s.src.flows {} f).elig now 0 56 e.pkt.cellCount (s.flowRate f) := by
  simp only [EpState.chargeFlow, EpState.modFlow, Tab.get_upd_same]

theorem EpState.flow_chargeFlow_other (g : Nat) (h : g ≠ f) : Tab.get (s.chargeFlow now f e).src.flows {} g = Tab.get s.src.flows {} g := by
  simp only [EpState.chargeFlow, EpState.modFlow, Tab.get_upd_other _ _ _ _ _ h]

/-! ### A slot of the wheel -/

/-- When a slot of the wheel begins in this pick, in 1/1,024 slots. -/
def EpState.slotStart (slot : Nat) : Nat := s.c.pick * 65536 + slot % 64 * 1024

/-- No packet of a queue waits for the wheel. -/
def EpState.rests : Prop := ∀ x ∈ (s.c.port k).eg.queue q, x.released = true ∨ x.reissue = true

/-- What a slot does with one queue. -/
def EpState.turn : EpState := s.releaseQueue k q now ((s.c.port k).eg.queue q)

theorem EpState.releaseQueue_idle (l : List QEntry) (h : ∀ x ∈ l, x.released = true ∨ x.reissue = true) : s.releaseQueue k q now l = s := by
  induction l with
  | nil => rfl
  | cons x l ih =>
    rw [EpState.releaseQueue, if_pos (by simpa using h x List.mem_cons_self)]
    exact ih fun y hy => h y (List.mem_cons_of_mem x hy)

theorem EpState.turn_rests (h : s.rests k q) : s.turn k q now = s := s.releaseQueue_idle k q now _ h

variable (h : (s.c.port k).eg.queue q = [e]) (hr : e.released = false) (hi : e.reissue = false)
include h hr hi

/-- A staked packet leaves by the end of the slot in which its flow's eligible time falls (R325). -/
theorem EpState.turn_staked (hf : e.flow = some f) :
    s.turn k q now = if (Tab.get s.src.flows {} f).elig ≤ now + 1023 then (s.freed k q e).chargeFlow now f e else s := by
  simp only [EpState.turn, h, EpState.releaseQueue, hr, hi, hf, Bool.or_self, Bool.false_eq_true, if_false]
  rfl

/-- A loose packet of a node without a loose flow leaves by the end of the slot in which the plane's eligible time falls (R337). -/
theorem EpState.turn_loose (hf : e.flow = none) (hl : s.looseFlow k e.pkt = none) :
    s.turn k q now = if (s.c.port k).eg.looseElig ≤ now + 1023 then (s.freed k q e).chargeLoose k now e (s.looseLimit k) else s := by
  simp only [EpState.turn, h, EpState.releaseQueue, hr, hi, hf, hl, Bool.or_self, Bool.false_eq_true, if_false, Bool.and_true, decide_eq_true_eq]
  rfl

end

section
variable (s : EpState) (slot : Nat)

/-- A slot in which nothing waits changes nothing. -/
theorem EpState.wheelSlot_rests (h : ∀ k q, s.rests k q) : s.wheelSlot slot = s :=
  each_idle _ _ _ fun k _ => each_idle _ _ _ fun q _ => s.turn_rests k q _ (h k q)

/-- A slot in which one queue has packets that wait is that queue's turn alone, if the others rest then too. -/
theorem EpState.wheelSlot_only (n q : Nat) (hn : n < 8) (hq : q ∈ [1, 3, 5, 6]) (others : ∀ k r, ¬(k = n ∧ r = q) → s.rests k r)
    (after : ∀ k r, ¬(k = n ∧ r = q) → (s.turn n q (s.slotStart slot)).rests k r) : s.wheelSlot slot = s.turn n q (s.slotStart slot) := by
  have port : ∀ t : EpState, (∀ k r, ¬(k = n ∧ r = q) → t.rests k r) → ∀ k, k ≠ n → each [1, 3, 5, 6] t (fun t r => t.turn k r (s.slotStart slot)) = t :=
    fun t ht k hk => each_idle _ _ _ fun r _ => t.turn_rests k r _ (ht k r fun same => hk same.1)
  refine each_only _ _ _ _ n List.nodup_range (List.mem_range.mpr hn) ?_ (fun k _ hk => port s others k hk) (fun k _ hk => port _ after k hk)
  exact each_only _ _ _ _ q (by decide) hq rfl (fun r _ hr => s.turn_rests n r _ (others n r fun same => hr same.2))
    (fun r _ hr => EpState.turn_rests _ n r _ (after n r fun same => hr same.2))

variable (now n q : Nat) (e : QEntry) (h : (s.c.port n).eg.queue q = [e]) (hr : e.released = false) (hi : e.reissue = false) (hn : n < 8)
  (hq : q ∈ [1, 3, 5, 6]) (others : ∀ k r, ¬(k = n ∧ r = q) → s.rests k r)
include h hr hi hn hq others

/-- A slot in which one staked packet waits. -/
theorem EpState.wheelSlot_staked (f : Nat) (hf : e.flow = some f) :
    s.wheelSlot slot = if (Tab.get s.src.flows {} f).elig ≤ s.slotStart slot + 1023 then (s.freed n q e).chargeFlow (s.slotStart slot) f e else s := by
  have turn := s.turn_staked n q (s.slotStart slot) f e h hr hi hf
  rw [← turn]
  refine s.wheelSlot_only slot n q hn hq others fun k r other => ?_
  rw [turn]
  split
  · intro x hx
    exact others k r other x (s.queue_freed_other n q e k r other ▸ hx)
  · exact others k r other

/-- A slot in which one loose packet waits, of a node without a loose flow. -/
theorem EpState.wheelSlot_loose (hf : e.flow = none) (hl : s.looseFlow n e.pkt = none) :
    s.wheelSlot slot =
      if (s.c.port n).eg.looseElig ≤ s.slotStart slot + 1023 then (s.freed n q e).chargeLoose n (s.slotStart slot) e (s.looseLimit n) else s := by
  have turn := s.turn_loose n q (s.slotStart slot) e h hr hi hf hl
  rw [← turn]
  refine s.wheelSlot_only slot n q hn hq others fun k r other => ?_
  rw [turn]
  split
  · intro x hx
    rw [EpState.queue_chargeLoose, s.queue_freed_other n q e k r other] at hx
    exact others k r other x hx
  · exact others k r other

end

/-! ### The commands -/

theorem exec_stakedAccept_after (s : State) (f : Nat) (hw : s.heldPart .ep = false) (hf : f < 2048) : exec (.stakedAccept f) s = .next (s.afterEp (s.ep.stakedAccept f)) := by
  rw [exec_stakedAccept, execStakedAccept, onEpIf_after s _ _ hw (by simp [hf])]

theorem exec_wheelSlot_after (s : State) (slot : Nat) (hw : s.heldPart .ep = false) (hs : slot < 1024) : exec (.wheelSlot slot) s = .next (s.afterEp (s.ep.wheelSlot slot)) := by
  rw [exec_wheelSlot, execWheelSlot, onEpIf_after s _ _ hw (by simp [hs])]

/-- Settles O17: what acceptance makes of a flow's head packet, and a slot of the wheel of the one packet that waits, are said above. -/
theorem stakedPacketsArePaced : Obligations.StakedPacketsArePaced := by
  refine ⟨fun s f hw hf => ?_, fun s slot hw hs => ?_⟩
  · intro e g
    rw [exec_stakedAccept_after s f hw hf]
    refine ⟨fun h => by rw [s.ep.stakedAccept_none f h], fun w rest h => ⟨fun late => ?_, fun loud room => ?_⟩⟩
    · rw [s.ep.stakedAccept_waits f w rest h late]
    · rw [s.ep.stakedAccept_takes f w rest h loud room]
      rfl
  · intro now
    have start : s.ep.slotStart slot = now := rfl
    rw [exec_wheelSlot_after s slot hw hs]
    refine ⟨fun h => by rw [s.ep.wheelSlot_rests slot h], fun n f e hn waits h hr hi hf => ?_, fun n q e hn hq waits h hr hi hf hl => ?_⟩
    · have others : ∀ k r, ¬(k = n ∧ r = 1) → s.ep.rests k r := fun k r other x hx => (or_assoc.mpr (waits k r x hx)).resolve_right other
      rw [s.ep.wheelSlot_staked slot n 1 e h hr hi hn (by decide) others f hf, start]
      refine ⟨fun due => ?_, fun early => ?_⟩
      · rw [if_pos due]
        exact ⟨_, rfl, s.ep.queue_freed_same n 1 e h, EpState.elig_chargeFlow .., fun g other => EpState.flow_chargeFlow_other _ _ _ _ g other⟩
      · rw [if_neg (Nat.not_le.mpr early)]
    · have others : ∀ k r, ¬(k = n ∧ r = q) → s.ep.rests k r := fun k r other x hx => (or_assoc.mpr (waits k r x hx)).resolve_right other
      have served : q ∈ [1, 3, 5, 6] := by rcases hq with rfl | rfl | rfl <;> decide
      rw [s.ep.wheelSlot_loose slot n q e h hr hi hn served others hf hl, start]
      refine ⟨fun due => ?_, fun early => ?_⟩
      · rw [if_pos due]
        refine ⟨_, rfl, ?_, ?_, rfl, fun k other => ?_⟩
        · rw [EpState.queue_chargeLoose, s.ep.queue_freed_same n q e h]
        · rw [EpState.looseElig_chargeLoose, EpState.looseElig_freed]
          rfl
        · rw [EpState.port_chargeLoose_other _ _ _ _ _ _ other, s.ep.port_freed_other n q e k other]
      · rw [if_neg (Nat.not_le.mpr early)]

end Sys2Proof.Machine
end

section
/-!
PROOF. Sets, ports, collectives and relays: what STAGE_WRITE, CHECK, COMMIT_AT, CANCEL and STAGE_STATUS make of a staged set, what COLL_ABORT leaves of a collective, which way a RELAY goes and how a command that waits ends.
-/

namespace Sys2Proof.Machine

/-! ### A staged set that changes -/

section
variable (c : Common) (k : Nat) (f : StagedSet → StagedSet)

theorem Common.set_modSet_same : (c.modSet k f).set k = f (c.set k) := Tab.get_upd_same c.stage.sets {} k f

theorem Common.set_modSet_other (j : Nat) (h : j ≠ k) : (c.modSet k f).set j = c.set j := Tab.get_upd_other c.stage.sets {} k j f h

/-- A set that leaves its state forgets its entries and keeps their count. -/
theorem Common.closeSet_eq_modSet (st : SetState) : c.closeSet k st = c.modSet k (fun x => { x with st := st, held := x.entries.length, entries := [] }) := rfl

theorem Common.set_stageEvent (cause n j : Nat) : (c.stageEvent cause n).set j = c.set j := by
  rw [Common.set, Common.stageEvent, Common.event_stage, Common.set]

theorem Common.mgmt_stageEvent (cause n : Nat) : (c.stageEvent cause n).mgmt = c.mgmt := Common.event_mgmt c _ _

end

/-! ### `STAGE_WRITE` (R687, R688) -/

/-- The entries that a packet brings. -/
def ZPacket.stageEntries (z : ZPacket) : List StageEntry :=
  (List.range (pn z.payload 2 2)).map (fun i => { addr := pn z.payload (8 + 12 * i) 4, value := pn z.payload (8 + 12 * i + 4) 4, mask := pn z.payload (8 + 12 * i + 8) 4 })

theorem ZPacket.stageEntries_eq (z : ZPacket) : z.stageEntries =
    (List.range (pn z.payload 2 2)).map (fun j => { addr := pn z.payload (8 + 12 * j) 4, value := pn z.payload (12 + 12 * j) 4, mask := pn z.payload (16 + 12 * j) 4 }) := by
  have place (j m : Nat) : 8 + 12 * j + m = 8 + m + 12 * j := Nat.add_right_comm 8 (12 * j) m
  simp only [ZPacket.stageEntries, place]

/-- The place of the first entry of a list that no set may hold. -/
def Common.unstageable (c : Common) (l : List StageEntry) : Option Nat := l.findIdx? (fun e => !stageable c.part e.addr)

section
variable (c : Common) (l : List StageEntry)

theorem Common.unstageable_none (h : ∀ e, e ∈ l → stageable c.part e.addr = true) : c.unstageable l = none := by
  rw [Common.unstageable, List.findIdx?_eq_none_iff]
  intro e he
  rw [h e he]
  rfl

theorem Common.unstageable_first (j : Nat) (e : StageEntry) (hj : l[j]? = some e) (he : stageable c.part e.addr = false)
    (before : ∀ m x, m < j → l[m]? = some x → stageable c.part x.addr = true) : c.unstageable l = some j := by
  obtain ⟨hl, rfl⟩ := List.getElem?_eq_some_iff.mp hj
  rw [Common.unstageable, List.findIdx?_eq_some_iff_getElem]
  refine ⟨hl, by rw [he]; rfl, fun m hm => ?_⟩
  rw [before m l[m] hm (List.getElem?_eq_getElem _)]
  decide

end

section
variable (c : Common) (z : ZPacket)

theorem Common.stageWrite_scheduled (h : (c.set (pb z.payload 0)).st = .scheduled) : c.stageWrite z = c.zAnswer 0x0101 z 0x0113 2 [] := if_pos h

variable (h : (c.set (pb z.payload 0)).st ≠ .scheduled)
include h

theorem Common.stageWrite_refused (j : Nat) (hu : c.unstageable z.stageEntries = some j) : c.stageWrite z = c.zAnswer 0x0101 z 0x0115 j [] := by
  unfold Common.unstageable ZPacket.stageEntries at hu
  simp only [Common.stageWrite, if_neg h, hu]

variable (hu : c.unstageable z.stageEntries = none)
include hu

theorem Common.stageWrite_full (hr : c.stageRoom < pn z.payload 2 2) : c.stageWrite z = c.zAnswer 0x0101 z 0x0114 (min 0xFFFF c.stageRoom) [] := by
  unfold Common.unstageable ZPacket.stageEntries at hu
  simp only [Common.stageWrite, if_neg h, hu, if_pos hr]

theorem Common.stageWrite_joins (hr : pn z.payload 2 2 ≤ c.stageRoom) : c.stageWrite z =
    (c.modSet (pb z.payload 0) (fun x => { st := .opened, entries := x.entries ++ z.stageEntries, held := 0, pick := 0, tag := z.tag })).zOk 0x0101 z [] := by
  unfold Common.unstageable ZPacket.stageEntries at hu
  simp only [Common.stageWrite, if_neg h, hu, if_neg (Nat.not_lt.mpr hr), ZPacket.stageEntries]

end

/-! ### `CHECK` and `COMMIT_AT` (R689, R690) -/

/-- How a part finds the conflicts of a set, what both parts hold being `c`. -/
def State.conflictsOf (s : State) (part : Part) (c : Common) : Checking → List Conflict :=
  match part with
  | .sw => ({ s.sw with c := c } : SwState).conflicts
  | .ep => ({ s.ep with c := c } : EpState).conflicts

theorem State.conflictsOf_eq (s : State) (part : Part) (c : Common) (k : Checking) (l : List Conflict)
    (h : part = .sw ∧ l = ({ s.sw with c := c } : SwState).conflicts k ∨ part = .ep ∧ l = ({ s.ep with c := c } : EpState).conflicts k) : s.conflictsOf part c k = l := by
  rcases h with ⟨rfl, hl⟩ | ⟨rfl, hl⟩ <;> exact hl.symm

section
variable (c : Common) (z : ZPacket) (eval : Checking → List Conflict)

theorem Common.stageCheck_idle (h : (c.set (pb z.payload 0)).st ≠ .opened ∧ (c.set (pb z.payload 0)).st ≠ .scheduled) :
    c.stageCheck z eval = c.zAnswer 0x0102 z 0x0113 (c.set (pb z.payload 0)).st.code [] := if_pos h

theorem Common.stageCheck_lists (h : (c.set (pb z.payload 0)).st = .opened ∨ (c.set (pb z.payload 0)).st = .scheduled) (l : List Conflict)
    (hl : eval (c.checking (pb z.payload 0) (c.checkPick (pb z.payload 0))) = l) :
    c.stageCheck z eval = c.zAnswer 0x0102 z (if l = [] then 0 else 0x0110) (min 0xFFFF l.length) (conflictBytes z l) := by
  subst hl
  exact if_neg fun idle => h.elim idle.1 idle.2

theorem Common.commitAt_idle (h : (c.set (pb z.payload 0)).st ≠ .opened) : c.commitAt z eval = c.zAnswer 0x0103 z 0x0113 (c.set (pb z.payload 0)).st.code [] := if_pos h

variable (h : (c.set (pb z.payload 0)).st = .opened)
include h

theorem Common.commitAt_pick (e : Nat × Nat) (hp : c.pickBad (pn z.payload 4 8) (c.lead (c.set (pb z.payload 0))) = some e) : c.commitAt z eval = c.zAnswer 0x0103 z e.1 e.2 [] := by
  refine (if_neg (not_not_intro h)).trans ?_
  rw [hp]

variable (hp : c.pickBad (pn z.payload 4 8) (c.lead (c.set (pb z.payload 0))) = none)
include hp

theorem Common.commitAt_conflicts (l : List Conflict) (hl : eval (c.checking (pb z.payload 0) (pn z.payload 4 8)) = l) (hn : l ≠ []) :
    c.commitAt z eval = c.zAnswer 0x0103 z 0x0110 (min 0xFFFF l.length) [] := by
  subst hl
  refine (if_neg (not_not_intro h)).trans ?_
  rw [hp]
  exact if_pos hn

theorem Common.commitAt_schedules (hl : eval (c.checking (pb z.payload 0) (pn z.payload 4 8)) = []) : c.commitAt z eval =
    (c.modSet (pb z.payload 0) (fun x => { x with st := .scheduled, pick := pn z.payload 4 8, tag := z.tag })).zOk 0x0103 z [] := by
  refine (if_neg (not_not_intro h)).trans ?_
  rw [hp]
  exact if_neg (not_not_intro hl)

end

/-! ### `CANCEL` (R692) -/

/-- A set scheduled for a later pick. -/
def Common.laterSet (c : Common) (pick : Nat) : Option Nat := (List.range 8).find? (fun j => (c.set j).st == .scheduled && decide (pick < (c.set j).pick))

theorem Common.laterSet_none (c : Common) (pick : Nat) : c.laterSet pick = none ↔ ∀ j, j < 8 → (c.set j).st = .scheduled → (c.set j).pick ≤ pick := by
  simp [Common.laterSet]

theorem Common.laterSet_some (c : Common) (pick j : Nat) (h : c.laterSet pick = some j) : j < 8 ∧ (c.set j).st = .scheduled ∧ pick < (c.set j).pick := by
  have hj := List.find?_some h
  simp only [Bool.and_eq_true, beq_iff_eq, decide_eq_true_eq] at hj
  exact ⟨List.mem_range.mp (List.mem_of_find?_eq_some h), hj⟩

/-- A part in which a set has been taken back by a command. -/
def Common.recallSet (c : Common) (k tag : Nat) : Common := ((c.closeSet k .cancelled).modSet k (fun x => { x with tag := tag })).stageEvent 2 k

section
variable (c : Common) (k tag : Nat)

theorem Common.recallSet_mgmt : (c.recallSet k tag).mgmt = c.mgmt := Common.mgmt_stageEvent _ _ _

theorem Common.set_recallSet_same : (c.recallSet k tag).set k = { c.set k with st := .cancelled, held := (c.set k).entries.length, entries := [], tag := tag } := by
  rw [Common.recallSet, Common.set_stageEvent, Common.set_modSet_same, Common.closeSet_eq_modSet, Common.set_modSet_same]

theorem Common.set_recallSet_other (j : Nat) (h : j ≠ k) : (c.recallSet k tag).set j = c.set j := by
  rw [Common.recallSet, Common.set_stageEvent, Common.set_modSet_other _ _ _ _ h, Common.closeSet_eq_modSet, Common.set_modSet_other _ _ _ _ h]

end

section
variable (c : Common) (z : ZPacket)

theorem Common.cancelSet_again (h : (c.set (pb z.payload 0)).st = .empty ∨ (c.set (pb z.payload 0)).st = .cancelled) : c.cancelSet z = c.zSame 0x0104 z [] := by
  rcases h with h | h <;> simp only [Common.cancelSet, h]

theorem Common.cancelSet_committed (h : (c.set (pb z.payload 0)).st = .committed) : c.cancelSet z = c.zAnswer 0x0104 z 0x0113 3 [] := by
  simp only [Common.cancelSet, h, zSetState]

theorem Common.cancelSet_opened (h : (c.set (pb z.payload 0)).st = .opened) : c.cancelSet z = (c.recallSet (pb z.payload 0) z.tag).zOk 0x0104 z [] := by
  simp only [Common.cancelSet, h, Common.recallSet]

variable (h : (c.set (pb z.payload 0)).st = .scheduled)
include h

theorem Common.cancelSet_followed (j : Nat) (hj : c.laterSet (c.set (pb z.payload 0)).pick = some j) : c.cancelSet z = c.zAnswer 0x0104 z 0x0116 j [] := by
  unfold Common.laterSet at hj
  simp only [Common.cancelSet, h, hj]

theorem Common.cancelSet_last (hj : c.laterSet (c.set (pb z.payload 0)).pick = none) : c.cancelSet z = (c.recallSet (pb z.payload 0) z.tag).zOk 0x0104 z [] := by
  unfold Common.laterSet at hj
  simp only [Common.cancelSet, h, hj, Common.recallSet]

end

/-! ### `STAGE_STATUS` (R693) -/

theorem length_leBytes (v n : Nat) : (leBytes v n).length = n := by
  induction n generalizing v with
  | zero => rfl
  | succ n ih => rw [leBytes, List.length_cons, ih]

theorem length_beBytes (v n : Nat) : (beBytes v n).length = n := by rw [beBytes, List.length_reverse, length_leBytes]

/-- Of pieces of one length put together, each is found at its place. -/
theorem piece_of_flatMap {α β : Type} (f : α → List β) (n : Nat) (hf : ∀ a, (f a).length = n) (l : List α) (k : Nat) (x : α) (hk : l[k]? = some x) :
    ((l.flatMap f).drop (n * k)).take n = f x := by
  induction l generalizing k with
  | nil => simp at hk
  | cons a l ih =>
    rw [List.flatMap_cons]
    cases k with
    | zero =>
      obtain rfl : a = x := Option.some.inj hk
      exact List.take_left' (hf a)
    | succ k =>
      rw [Nat.mul_succ, Nat.add_comm, ← List.drop_drop, List.drop_left' (hf a)]
      exact ih k hk

/-- What STAGE_STATUS tells of a set: its state, its count of entries, its pick and the tag of the command that changed it last (Table 17.6). -/
def StagedSet.told (x : StagedSet) : List Byte :=
  beBytes x.st.code 1 ++ [0] ++ beBytes (if x.st = .committed ∨ x.st = .cancelled then x.held else x.entries.length) 2 ++
    beBytes (if x.st = .scheduled ∨ x.st = .committed then x.pick else 0) 8 ++ beBytes x.tag 4

theorem StagedSet.told_length (x : StagedSet) : x.told.length = 16 := by
  simp only [StagedSet.told, List.length_append, length_beBytes, List.length_singleton]

/-- What STAGE_STATUS tells of the eight sets. -/
def Common.toldSets (c : Common) : List Byte := (List.range 8).flatMap (fun k => (c.set k).told)

theorem Common.toldSets_length (c : Common) : c.toldSets.length = 128 := by
  simp only [Common.toldSets, List.length_flatMap, StagedSet.told_length, List.map_const', List.sum_replicate_nat, List.length_range]

theorem Common.toldSets_piece (c : Common) (k : Nat) (hk : k < 8) : (c.toldSets.drop (16 * k)).take 16 = (c.set k).told :=
  piece_of_flatMap _ 16 (fun j => (c.set j).told_length) _ k k (List.getElem?_range hk)

theorem Common.stageStatus_tells (c : Common) (z : ZPacket) : c.stageStatus z = c.zOk 0x0105 z c.toldSets := rfl

/-! ### Ports (R582, R698) -/

section
variable (c : Common) (z : ZPacket)

theorem Common.zRaise_again (h : (c.port z.index).t.st ≠ .struck) : c.zRaise z = c.zSame 0x0201 z (beBytes (c.port z.index).t.st.code 1 ++ [0, 0, 0]) := if_pos h

theorem Common.zRaise_struck (h : (c.port z.index).t.st = .struck) :
    c.zRaise z = (c.cmdRaise z.index).zOk 0x0201 z (beBytes (c.port z.index).t.st.code 1 ++ [0, 0, 0]) := if_neg (not_not_intro h)

theorem Common.zStrike_again (h : (c.port z.index).t.st = .struck) : c.zStrike z = c.zSame 0x0202 z [] := if_pos h

theorem Common.zStrike_strikes (h : (c.port z.index).t.st ≠ .struck) :
    c.zStrike z = (c.strikeOrderly z.index causeCommand (bit (pb z.payload 0) 0)).zOk 0x0202 z [] := if_neg h

end

/-! ### Collectives (R377, R379, R697) -/

theorem CollRec.abort_cause (r : CollRec) (k : CollCause) : (r.abort k).cause.isSome = true := by
  unfold CollRec.abort
  split
  next h => exact h
  next => rfl

/-- The abort cause of the manager reaches a collective that is open, unless another came before. -/
theorem SwState.managerStop_cause (w : SwState) (r x : CollRec) (hx : x ∈ (w.managerStop r).colls) (hg : x.group = r.group) (hs : x.seq = r.seq) (hc : x.st ≠ .committed) :
    x.cause.isSome = true := by
  obtain ⟨y, -, rfl⟩ := List.mem_map.mp hx
  by_cases h : y.group = r.group ∧ y.seq = r.seq ∧ y.st ≠ .committed
  · rw [if_pos h]
    exact y.abort_cause _
  · rw [if_neg h] at hg hs hc
    exact absurd ⟨hg, hs, hc⟩ h

section
variable (w : SwState) (g seq : Nat)

theorem SwState.openColl_names (r : CollRec) (h : w.openColl g seq = some r) : r.group = g ∧ r.seq = seq := by
  have hr := List.find?_some h
  simp only [Bool.and_eq_true, beq_iff_eq] at hr
  exact hr.1

variable (h : Nat)

theorem SwState.collKnown_open (r : CollRec) (hr : w.openColl g seq = some r) :
    w.collKnown h g seq = if r.handle = h then some (beBytes (if r.st = .running then 2 else 3) 1 ++ List.replicate 35 0, true) else none := by
  simp only [SwState.collKnown, hr]

theorem SwState.collKnown_kept (k : CollKept) (hr : w.openColl g seq = none) (hk : (w.grp g).record seq = some k) :
    w.collKnown h g seq = if k.handle = h then some (beBytes 1 1 ++ [0, 0, 0] ++ beBytes k.c0 16 ++ beBytes k.c1 16, false) else none := by
  simp only [SwState.collKnown, hr, hk]

theorem SwState.collKnown_none (hr : w.openColl g seq = none) (hk : (w.grp g).record seq = none) : w.collKnown h g seq = none := by
  simp only [SwState.collKnown, hr, hk]

/-- A collective that is known as open is one of those that run. -/
theorem SwState.collKnown_running (d : List Byte) (hd : w.collKnown h g seq = some (d, true)) : ∃ r, w.openColl g seq = some r := by
  cases hr : w.openColl g seq with
  | some r => exact ⟨r, rfl⟩
  | none =>
    cases hk : (w.grp g).record seq with
    | none => simp [w.collKnown_none g seq h hr hk] at hd
    | some k => simp [w.collKnown_kept g seq h k hr hk] at hd

end

section
variable (w : SwState) (z : ZPacket)

theorem SwState.zAbort_unknown (h : w.collKnown (pn z.payload 0 2) (pn z.payload 2 2) (pn z.payload 4 4) = none) : w.zAbort z = w.mod (fun c => c.zAnswer 0x0501 z 0x0018 0 []) := by
  simp only [SwState.zAbort, h, zNotFound]

theorem SwState.zAbort_settled (d : List Byte) (h : w.collKnown (pn z.payload 0 2) (pn z.payload 2 2) (pn z.payload 4 4) = some (d, false)) :
    w.zAbort z = w.mod (fun c => c.zSame 0x0501 z d) := by
  simp only [SwState.zAbort, h]

theorem SwState.zAbort_open (d : List Byte) (r : CollRec) (h : w.collKnown (pn z.payload 0 2) (pn z.payload 2 2) (pn z.payload 4 4) = some (d, true))
    (hr : w.openColl (pn z.payload 2 2) (pn z.payload 4 4) = some r) :
    w.zAbort z = (w.managerStop r).mod (fun c => c.zHold 0x0501 z 0 (some (pn z.payload 0 2, pn z.payload 2 2, pn z.payload 4 4))) := by
  simp only [SwState.zAbort, h, hr]

/-- A tenant asks for a collective whose handle is of another pitch (R697). -/
def SwState.statusForeign : Bool :=
  match w.c.sessionOf z with
  | some (.tenant p) => flag (w.c.handleA (pn z.payload 0 2)) 0 && fld (w.c.handleA (pn z.payload 0 2)) 7 4 != p
  | _ => false

theorem SwState.statusForeign_iff : w.statusForeign z = true ↔
    ∃ p, w.c.sessionOf z = some (.tenant p) ∧ flag (w.c.handleA (pn z.payload 0 2)) 0 = true ∧ fld (w.c.handleA (pn z.payload 0 2)) 7 4 ≠ p := by
  unfold SwState.statusForeign
  split
  next p hp => simp [hp]
  next other =>
    refine iff_of_false Bool.false_ne_true ?_
    rintro ⟨p, hp, -⟩
    exact other p hp

theorem SwState.zStatus_foreign (h : w.statusForeign z = true) : w.zStatus z = w.mod (fun c => c.zAnswer 0x0502 z 0x16 0 []) := if_pos h

variable (h : w.statusForeign z = false)
include h

theorem SwState.zStatus_unknown (hk : w.collKnown (pn z.payload 0 2) (pn z.payload 2 2) (pn z.payload 4 4) = none) :
    w.zStatus z = w.mod (fun c => c.zAnswer 0x0502 z 0x0018 0 []) := by
  refine (if_neg (Bool.eq_false_iff.mp h)).trans ?_
  rw [hk]
  rfl

theorem SwState.zStatus_known (d : List Byte × Bool) (hk : w.collKnown (pn z.payload 0 2) (pn z.payload 2 2) (pn z.payload 4 4) = some d) :
    w.zStatus z = w.mod (fun c => c.zOk 0x0502 z d.1) := by
  refine (if_neg (Bool.eq_false_iff.mp h)).trans ?_
  rw [hk]

end

/-! ### Relays (R677) -/

/-- The command that waits for what a packet's `RELAY` encloses. -/
def ZPacket.relayed (z : ZPacket) : ZExec := { op := 5, tag := z.tag, kind := z.kind, index := z.index, ret := z.ret, inner := z.innerTag }

theorem SwState.zRelay_leaves (w : SwState) (z : ZPacket) (h : pb z.payload 0 = w.c.plane ∧ pb z.payload 1 = 1) : w.zRelay z =
    (w.mod (fun c => c.zHold 5 z z.innerTag none)).toNode (pb z.payload 2)
      (mgmtPacket 0 (pb z.payload 2) (((w.c.aliasOf (pb z.payload 2)).map (fun o => w.c.portPitch o)).getD 0) 1 (z.payload.drop 4)) := if_pos h

theorem SwState.zRelay_stays (w : SwState) (z : ZPacket) (h : ¬(pb z.payload 0 = w.c.plane ∧ pb z.payload 1 = 1)) :
    w.zRelay z = w.mod (fun c => c.zHold 5 z z.innerTag none) := if_neg h

theorem EpState.zRelay_leaves (e : EpState) (z : ZPacket) (h : (e.c.port (pb z.payload 0)).inService = true) : e.zRelay z =
    (e.mod (fun c => c.zHold 5 z z.innerTag none)).putPacket (pb z.payload 0)
      (mgmtPacket e.node (if pb z.payload 1 = 0 then 0 else pb z.payload 2) e.pitch (pb z.payload 1) (z.payload.drop 4)) false := if_pos h

theorem EpState.zRelay_stays (e : EpState) (z : ZPacket) (h : (e.c.port (pb z.payload 0)).inService = false) :
    e.zRelay z = e.mod (fun c => c.zHold 5 z z.innerTag none) := if_neg (Bool.eq_false_iff.mp h)

theorem Common.relayBack_stray (c : Common) (tag : Nat) (enclosed : List Byte) (h : c.mgmt.executing.find? (fun e => e.op == 5 && e.inner == tag) = none) :
    c.relayBack tag enclosed = c.zReject := by
  simp only [Common.relayBack, h]

theorem Common.relayBack_waited (c : Common) (tag : Nat) (enclosed : List Byte) (e : ZExec) (h : c.mgmt.executing.find? (fun e => e.op == 5 && e.inner == tag) = some e) :
    c.relayBack tag enclosed = c.endExec 5 e.tag 0 0 enclosed := by
  simp only [Common.relayBack, h]

/-! ### The end of a command that waits (R681) -/

theorem Mgmt.put_executing (m : Mgmt) (r : ZReply) : (m.put r).executing = m.executing := by
  unfold Mgmt.put
  split <;> rfl

/-- What a reply leaves of a part: the commands that run, and the registers. -/
def Common.besideReply (c : Common) : List ZExec × RegFile := (c.mgmt.executing, c.rf)

theorem Common.besideReply_modMgmt (c : Common) (f : Mgmt → Mgmt) (h : (f c.mgmt).executing = c.mgmt.executing) : (c.modMgmt f).besideReply = c.besideReply :=
  congrArg (·, c.rf) h

theorem Common.besideReply_sendReply (c : Common) (r : ZReply) : (c.sendReply r).besideReply = c.besideReply := by
  unfold Common.sendReply
  split
  · rfl
  · split
    · exact Common.besideReply_modMgmt { c with free := c.free + 1 } _ (Mgmt.put_executing _ _)
    · exact c.besideReply_modMgmt _ (Mgmt.put_executing _ _)

theorem Common.besideReply_keepReply (c : Common) (r : ZReply) : (c.keepReply r).besideReply = c.besideReply := by
  unfold Common.keepReply
  split
  · exact c.besideReply_modMgmt _ rfl
  · rfl

section
variable (c : Common) (op tag status detail : Nat) (data : List Byte)

theorem Common.endExec_none (h : c.mgmt.executing.find? (fun e => e.op == op && e.tag == tag) = none) : c.endExec op tag status detail data = c := by
  simp only [Common.endExec, h]

/-- A command that ends is no longer among those that run, whatever replies go out. -/
theorem Common.besideReply_endExec (e : ZExec) (h : c.mgmt.executing.find? (fun e => e.op == op && e.tag == tag) = some e) :
    (c.endExec op tag status detail data).besideReply = (c.mgmt.executing.erase e, c.rf) := by
  simp only [Common.endExec, h]
  rw [Common.besideReply_keepReply, each_keep Common.besideReply _ _ _ fun t ret => t.besideReply_sendReply _]
  rfl

end

/-! ### The commands -/

section
variable (s : State) (z : ZPacket)

theorem exec_stageWrite_accepted (h : s.accepts 0x0101 z = true) : exec (.stageWrite z) s = .next (s.afterZ z ((s.gated 0x0101 z).stageWrite z)) := by
  rw [exec_stageWrite, execStageWrite, onZc_accepted 0x0101 z s _ h]

theorem exec_check_accepted (h : s.accepts 0x0102 z = true) :
    exec (.check z) s = .next (s.afterZ z ((s.gated 0x0102 z).stageCheck z (s.conflictsOf z.part (s.gated 0x0102 z)))) := by
  rw [exec_check, execCheck, onZ_accepted 0x0102 z s _ _ h]
  unfold State.afterZ
  cases z.part <;> rfl

theorem exec_commitAt_accepted (h : s.accepts 0x0103 z = true) :
    exec (.commitAt z) s = .next (s.afterZ z ((s.gated 0x0103 z).commitAt z (s.conflictsOf z.part (s.gated 0x0103 z)))) := by
  rw [exec_commitAt, execCommitAt, onZ_accepted 0x0103 z s _ _ h]
  unfold State.afterZ
  cases z.part <;> rfl

theorem exec_cancel_accepted (h : s.accepts 0x0104 z = true) : exec (.cancel z) s = .next (s.afterZ z ((s.gated 0x0104 z).cancelSet z)) := by
  rw [exec_cancel, execCancel, onZc_accepted 0x0104 z s _ h]

theorem exec_stageStatus_accepted (h : s.accepts 0x0105 z = true) : exec (.stageStatus z) s = .next (s.afterZ z ((s.gated 0x0105 z).stageStatus z)) := by
  rw [exec_stageStatus, execStageStatus, onZc_accepted 0x0105 z s _ h]

theorem exec_portRaise_accepted (h : s.accepts 0x0201 z = true) : exec (.portRaise z) s = .next (s.afterZ z ((s.gated 0x0201 z).zRaise z)) := by
  rw [exec_portRaise, execPortRaise, onZc_accepted 0x0201 z s _ h]

theorem exec_portStrike_accepted (h : s.accepts 0x0202 z = true) : exec (.portStrike z) s = .next (s.afterZ z ((s.gated 0x0202 z).zStrike z)) := by
  rw [exec_portStrike, execPortStrike, onZc_accepted 0x0202 z s _ h]

theorem exec_collAbort_accepted (hp : z.part = .sw) (h : s.accepts 0x0501 z = true) :
    exec (.collAbort z) s = .next (s.afterSw (({ s.sw with c := s.gated 0x0501 z } : SwState).zAbort z)) := by
  rw [exec_collAbort, execCollAbort, onZ_accepted 0x0501 z s _ _ h, hp]

theorem exec_collStatus_accepted (hp : z.part = .sw) (h : s.accepts 0x0502 z = true) :
    exec (.collStatus z) s = .next (s.afterSw (({ s.sw with c := s.gated 0x0502 z } : SwState).zStatus z)) := by
  rw [exec_collStatus, execCollStatus, onZ_accepted 0x0502 z s _ _ h, hp]

/-- The state after an accepted RELAY. -/
def State.relayed : State :=
  match z.part with
  | .sw => s.afterSw (({ s.sw with c := s.gated 5 z } : SwState).zRelay z)
  | .ep => s.afterEp (({ s.ep with c := s.gated 5 z } : EpState).zRelay z)

theorem State.relayed_sw (hp : z.part = .sw) : s.relayed z = s.afterSw (({ s.sw with c := s.gated 5 z } : SwState).zRelay z) := by simp only [State.relayed, hp]

theorem State.relayed_ep (hp : z.part = .ep) : s.relayed z = s.afterEp (({ s.ep with c := s.gated 5 z } : EpState).zRelay z) := by simp only [State.relayed, hp]

theorem exec_relay_accepted (h : s.accepts 5 z = true) : exec (.relay z) s = .next (s.relayed z) := by
  rw [exec_relay, execRelay, onZ_accepted 5 z s _ _ h]
  cases hp : z.part with
  | sw => exact congrArg Host.Outcome.next (s.relayed_sw z hp).symm
  | ep => exact congrArg Host.Outcome.next (s.relayed_ep z hp).symm

theorem exec_relayReply_after (part : Part) (tag : Nat) (enclosed : List Byte) (h : s.heldPart part = false) :
    exec (.relayReply part tag enclosed) s = .next (s.after part ((s.common part).relayBack tag enclosed)) := by
  rw [exec_relayReply, execRelayReply, onPart_after s part _ h]

theorem exec_relayTimeout_after (part : Part) (tag : Nat) (h : s.heldPart part = false) :
    exec (.relayTimeout part tag) s = .next (s.after part ((s.common part).endExec 5 tag 0x30 0 [])) := by
  rw [exec_relayTimeout, execRelayTimeout, onPart_after s part _ h]

theorem exec_xltCmd_accepted (hp : z.part = .ep) (h : s.accepts 0x0701 z = true) :
    exec (.xltCmd z) s = .next (s.afterEp ((({ s.ep with c := s.gated 0x0701 z } : EpState).mod (fun c => c.zHold 0x0701 z 0 none)).xqFromMgmt z.tag z.payload)) := by
  rw [exec_xltCmd, execXltCmd, onZ_accepted 0x0701 z s _ _ h, hp]

end

section
variable (s : State) (z : ZPacket) (c : Common)

theorem State.afterZ_sw (hp : z.part = .sw) : s.afterZ z c = s.afterSw { s.sw with c := c } := by simp only [State.afterZ, hp]

theorem State.afterZ_ep (hp : z.part = .ep) : s.afterZ z c = s.afterEp { s.ep with c := c } := by simp only [State.afterZ, hp]

end

/-- Settles O60: what each command makes of a set, a port or a collective, which way a RELAY goes and how it ends, are said above. -/
theorem setsPortsCollectivesAndRelaysAreCommanded : Obligations.SetsPortsCollectivesAndRelaysAreCommanded := by
  refine ⟨?_, ?_, ?_, ?_, ?_, ?_, ?_, ?_, ?_, ?_, ?_, ?_, ?_⟩
  · intro s z hz c k n l
    have hl : l = z.stageEntries := z.stageEntries_eq.symm
    rw [exec_stageWrite_accepted s z hz]
    refine ⟨fun h => ?_, fun h => ⟨fun j e hj he before => ?_, fun ok => ?_⟩⟩
    · rw [c.stageWrite_scheduled z h]
    · rw [c.stageWrite_refused z h j (hl ▸ c.unstageable_first l j e hj he before)]
    · have hu : c.unstageable z.stageEntries = none := hl ▸ c.unstageable_none l ok
      refine ⟨fun hr => ?_, fun hr => ?_⟩
      · rw [c.stageWrite_full z h hu hr]
      · rw [c.stageWrite_joins z h hu hr, hl]
        exact ⟨_, rfl, rfl, rfl, c.set_modSet_same k _, c.set_modSet_other k _⟩
  · intro s z hz c k
    rw [exec_check_accepted s z hz]
    refine ⟨fun h => ?_, fun l h hl => ?_⟩
    · rw [c.stageCheck_idle z _ h]
    · rw [c.stageCheck_lists z _ h l (s.conflictsOf_eq z.part c _ l hl)]
  · intro s z hz c k pick lead
    rw [exec_commitAt_accepted s z hz]
    refine ⟨fun h => ?_, fun h => ⟨fun ht => ?_, fun ht hp => ?_, fun ht hp hf => ?_, fun l ht hp hf hl => ?_⟩⟩
    · rw [c.commitAt_idle z _ h]
    · rw [c.commitAt_pick z _ h _ (c.pickBad_expired pick lead ht)]
    · rw [c.commitAt_pick z _ h _ (c.pickBad_soon pick lead ht hp)]
    · rw [c.commitAt_pick z _ h _ (c.pickBad_far pick lead ht hp hf)]
    · have free := c.pickBad_none pick lead ht hp hf
      have found := s.conflictsOf_eq z.part c _ l hl
      refine ⟨fun hn => ?_, fun hn => ?_⟩
      · rw [c.commitAt_conflicts z _ h free l found hn]
      · rw [c.commitAt_schedules z _ h free (found.trans hn)]
        exact ⟨_, rfl, rfl, rfl, c.set_modSet_same k _, c.set_modSet_other k _⟩
  · intro s z hz c k x last
    have hlast : c.laterSet x.pick = none ↔ last := c.laterSet_none x.pick
    rw [exec_cancel_accepted s z hz]
    refine ⟨fun h => ?_, fun h => ?_, fun h hn => ?_, fun h => ?_⟩
    · rw [c.cancelSet_again z h]
    · rw [c.cancelSet_committed z h]
    · obtain ⟨j, hj⟩ := Option.ne_none_iff_exists'.mp (mt hlast.mp hn)
      obtain ⟨hj8, hst, hpick⟩ := c.laterSet_some x.pick j hj
      exact ⟨j, hj8, hst, hpick, by rw [c.cancelSet_followed z h j hj]⟩
    · have taken : c.cancelSet z = (c.recallSet k z.tag).zOk 0x0104 z [] :=
        h.elim (c.cancelSet_opened z) fun ⟨hst, hl⟩ => c.cancelSet_last z hst (hlast.mpr hl)
      rw [taken]
      exact ⟨_, rfl, c.recallSet_mgmt k z.tag, c.set_recallSet_same k z.tag, c.set_recallSet_other k z.tag⟩
  · intro s z hz
    rw [exec_stageStatus_accepted s z hz, Common.stageStatus_tells]
    exact ⟨_, Common.toldSets_length _, rfl, fun k hk => Common.toldSets_piece _ k hk⟩
  · intro s z
    refine ⟨fun hz => ?_, fun hz => ?_⟩
    · rw [exec_portRaise_accepted s z hz]
      exact ⟨fun h => by rw [Common.zRaise_again _ z h], fun h => by rw [Common.zRaise_struck _ z h]⟩
    · rw [exec_portStrike_accepted s z hz]
      exact ⟨fun h => by rw [Common.zStrike_again _ z h], fun h => by rw [Common.zStrike_strikes _ z h]⟩
  · intro s z hp hz c w g seq known
    rw [exec_collAbort_accepted s z hp hz]
    refine ⟨fun h => ?_, fun d h => ?_, fun d h => ?_⟩
    · rw [s.afterZ_sw z _ hp, w.zAbort_unknown z h]
      rfl
    · rw [s.afterZ_sw z _ hp, w.zAbort_settled z d h]
      rfl
    · obtain ⟨r, hr⟩ := w.collKnown_running g seq _ d h
      obtain ⟨hg, hs⟩ := w.openColl_names g seq r hr
      rw [w.zAbort_open z d r h hr]
      exact ⟨_, rfl, rfl, rfl, fun x hx xg xs => w.managerStop_cause r x hx (xg.trans hg.symm) (xs.trans hs.symm)⟩
  · intro s z hp hz c known a
    let w : SwState := { s.sw with c := c }
    rw [exec_collStatus_accepted s z hp hz]
    refine ⟨fun p hs hv ho => ?_, fun own => ?_⟩
    · rw [s.afterZ_sw z _ hp, w.zStatus_foreign z ((w.statusForeign_iff z).mpr ⟨p, hs, hv, ho⟩)]
      rfl
    · have hf : w.statusForeign z = false := by
        refine Bool.eq_false_iff.mpr fun foreign => ?_
        obtain ⟨p, hs, hv, ho⟩ := (w.statusForeign_iff z).mp foreign
        exact (own p hs).elim (fun hn => Bool.false_ne_true (hn.symm.trans hv)) ho
      refine ⟨fun h => ?_, fun d h => ?_⟩
      · rw [s.afterZ_sw z _ hp, w.zStatus_unknown z hf h]
        rfl
      · rw [s.afterZ_sw z _ hp, w.zStatus_known z hf d h]
        rfl
  · exact fun w h g seq => ⟨w.collKnown_open g seq h, w.collKnown_kept g seq h, w.collKnown_none g seq h⟩
  · intro s z hz c b
    let w : SwState := { s.sw with c := c }
    let e : EpState := { s.ep with c := c }
    refine ⟨s.relayed z, z.relayed, exec_relay_accepted s z hz, rfl, rfl, rfl, rfl, fun hp h => ?_, fun hp h0 h1 => ?_, fun hp h => ?_, fun hp h => ?_⟩
    · rw [s.relayed_sw z hp, s.afterZ_sw z _ hp, w.zRelay_stays z (not_and_or.mpr h)]
      rfl
    · rw [s.relayed_sw z hp, w.zRelay_leaves z ⟨h0, h1⟩]
      rfl
    · rw [s.relayed_ep z hp, s.afterZ_ep z _ hp, e.zRelay_stays z h]
      rfl
    · rw [s.relayed_ep z hp, e.zRelay_leaves z h]
      rfl
  · intro s part tag enclosed hw c
    rw [exec_relayReply_after s part tag enclosed hw]
    refine ⟨fun h => ?_, fun e h => ?_, exec_relayTimeout_after s part tag hw⟩
    · rw [c.relayBack_stray tag enclosed h]
    · rw [c.relayBack_waited tag enclosed e h]
  · intro c op tag status detail data
    refine ⟨c.endExec_none op tag status detail data, fun e h => ?_⟩
    have beside := c.besideReply_endExec op tag status detail data e h
    exact ⟨congrArg (·.1) beside, congrArg (·.2) beside⟩
  · intro s z hp hz c old runs
    exact ⟨_, _, exec_xltCmd_accepted s z hp hz, rfl, rfl, rfl, rfl, rfl⟩

end Sys2Proof.Machine
end

section
/-!
PROOF. What a context's scalar instructions do: a change of one context in its core, a word that a context may not issue, and the value that each instruction of Table 10.5 writes to its register.
-/

namespace Sys2Proof.Machine

/-! ### A change of one context -/

theorem Tab.find_map_at {α : Type} (t : Tab α) (k : Nat) (f : α → α) :
    Tab.find (t.map (fun e => if e.1 = k then (e.1, f e.2) else e)) k = (Tab.find t k).map f := by
  induction t with
  | nil => rfl
  | cons e t ih =>
    by_cases h : e.1 = k
    · simp [Tab.find, h]
    · simp [Tab.find, h, ih]

section
variable (w : SwState) (k cx : Nat) (f : BarCtx → BarCtx)

theorem SwState.find_modCtx_same : Tab.find ((w.modCtx k cx f).core' k).ctxs cx = (Tab.find (w.core' k).ctxs cx).map f := by
  rw [SwState.modCtx, SwState.core'_modBar_same]
  exact Tab.find_map_at _ cx f

theorem SwState.core'_modCtx_other (m : Nat) (h : m ≠ k) : (w.modCtx k cx f).core' m = w.core' m := Tab.get_upd_other w.cores {} k m (fun b => { b with ctxs := b.ctxs.map (fun e => if e.1 = cx then (e.1, f e.2) else e) }) h

end

section
variable (b : BarRun) (i : Nat) (v : Word64)

/-- The context stands in its core as it runs. -/
def BarRun.Stands (b : BarRun) : Prop := Tab.find (b.s.core' b.k).ctxs b.cx = some b.x

variable {b} in
theorem BarRun.Stands.ctx (h : b.Stands) (f : BarCtx → BarCtx) : (b.ctx f).Stands := by
  have moved := b.s.find_modCtx_same b.k b.cx f
  rw [h] at moved
  exact moved

theorem BarRun.set_zero (h : i % 32 = 0) : b.set i v = b := if_pos h

theorem BarRun.set_pos (h : i % 32 ≠ 0) : b.set i v = b.ctx (fun x => { x with regs := Tab.set x.regs 0 (i % 32) v }) := if_neg h

end

/-- A value goes to one register, unless that is x0, and the counter goes on by a word; nothing else changes (R400). -/
theorem BarRun.alu_writes (b : BarRun) (rd : Nat) (v : Word64) (hb : b.Stands) :
    ∃ x : BarCtx, Tab.find ((b.alu rd v).core' b.k).ctxs b.cx = some x ∧ x.pc = b.x.pc + 1 ∧ x.wait = b.x.wait ∧ x.stopped = b.x.stopped ∧
      (∀ i, i < 32 → Tab.get x.regs 0 i = if i = rd % 32 ∧ i ≠ 0 then v else Tab.get b.x.regs 0 i) ∧
      (b.alu rd v).c = b.s.c ∧ (b.alu rd v).dram = b.s.dram ∧ (b.alu rd v).colls = b.s.colls ∧ ∀ m, m ≠ b.k → (b.alu rd v).core' m = b.s.core' m := by
  unfold BarRun.alu
  by_cases h0 : rd % 32 = 0
  · rw [b.set_zero rd v h0]
    refine ⟨_, hb.ctx _, rfl, rfl, rfl, fun i _ => ?_, rfl, rfl, rfl, fun m hm => b.s.core'_modCtx_other b.k b.cx _ m hm⟩
    rw [if_neg (by omega)]
    rfl
  · rw [b.set_pos rd v h0]
    refine ⟨_, (hb.ctx _).ctx _, rfl, rfl, rfl, fun i _ => ?_, rfl, rfl, rfl, fun m hm => ?_⟩
    · by_cases hi : i = rd % 32
      · rw [if_pos ⟨hi, by omega⟩, hi]
        exact Tab.get_set_same b.x.regs 0 _ v
      · rw [if_neg (fun h => hi h.1)]
        exact Tab.get_set_other b.x.regs 0 _ i v hi
    · exact (SwState.core'_modCtx_other _ b.k b.cx _ m hm).trans (b.s.core'_modCtx_other b.k b.cx _ m hm)

/-! ### Words that issue and words that do not -/

theorem barUnit_of_lt {k cx : Nat} (hk : k < 64) (hx : cx < 16) : barUnit k cx = true := by simp [barUnit, hk, hx]

section
variable {s : State} {k cx word : Nat}

theorem SwState.issue_of_none {w : SwState} (f : BarRun → SwState) (h : w.issuer k cx word = none) : w.issue k cx word f = w := by
  simp only [SwState.issue, h]

theorem SwState.issuer_legal {w : SwState} {b : BarRun} (h : w.issuer k cx word = some b) : legalWord word = true := by
  simp only [SwState.issuer] at h
  split at h
  · cases h
  · split at h
    · cases h
    · exact (Option.ite_none_right_eq_some.mp h).1.1

theorem State.issuing_illegal (h : legalWord word = false) : s.issuing k cx word = none := by
  rw [Option.eq_none_iff_forall_ne_some]
  intro b hb
  have legal := SwState.issuer_legal (State.issuing_eq_some hb).2.2
  rw [h] at legal
  contradiction

/-- A command whose word no context issues changes nothing. -/
theorem onSwIf_unissued (hw : s.heldPart .sw = false) (hu : barUnit k cx = true) (h : s.issuing k cx word = none) (f : BarRun → SwState) :
    onSwIf (barUnit k cx) s (fun w => w.issue k cx word f) = .next (s.afterSw s.sw) := by
  have idle : s.sw.issuer k cx word = none := by simpa [State.issuing, hw, hu] using h
  rw [onSwIf_after s _ _ hw hu, SwState.issue_of_none f idle]

/-- A command that writes a register runs in the context that issues its word. -/
theorem onSwIf_alu {b : BarRun} {rd : Nat} {v : Word64} {f : BarRun → Word64} (h : s.issuing k cx word = some b) (hv : f b.issued = v) :
    onSwIf (barUnit k cx) s (fun w => w.issue k cx word (fun g => g.alu rd (f g))) = .next (s.afterSw (b.issued.alu rd v)) := by
  rw [onSwIf_issue h, hv]

end

/-! ### Values (Table 10.5) -/

section
variable {x y v : Word64}

theorem eq_sub_of_toNat (h : v.toNat = (x.toNat + 2 ^ 64 - y.toNat) % 2 ^ 64) : x - y = v := by
  apply BitVec.eq_of_toNat_eq
  rw [h, BitVec.toNat_sub', Nat.add_sub_assoc y.isLt.le x.toNat]

theorem eq_mulhu_of_toNat (h : v.toNat = x.toNat * y.toNat / 2 ^ 64) : BitVec.ofNat 64 (x.toNat * y.toNat / 2 ^ 64) = v := by
  rw [← h, BitVec.ofNat_toNat, BitVec.setWidth_eq]

theorem eq_shiftLeft_of_toNat {n : Nat} (h : v.toNat = x.toNat * 2 ^ n % 2 ^ 64) : x <<< n = v := by
  apply BitVec.eq_of_toNat_eq
  rw [h, BitVec.toNat_shiftLeft, Nat.shiftLeft_eq]

theorem eq_ushiftRight_of_toNat {n : Nat} (h : v.toNat = x.toNat / 2 ^ n) : x >>> n = v := by
  apply BitVec.eq_of_toNat_eq
  rw [h, BitVec.toNat_ushiftRight, Nat.shiftRight_eq_div_pow]

theorem eq_sshiftRight_of_toInt {n : Nat} (h : v.toInt = x.toInt / 2 ^ n) : x.sshiftRight n = v := by
  apply BitVec.eq_of_toInt_eq
  rw [h, BitVec.toInt_sshiftRight, Int.shiftRight_eq_div_pow]
  push_cast
  rfl

theorem eq_zero_iff_toNat : y = 0 ↔ y.toNat = 0 := BitVec.toNat_eq

theorem eq_divu_of_toNat (h : v.toNat = if y.toNat = 0 then 2 ^ 64 - 1 else x.toNat / y.toNat) : (if y = 0 then BitVec.allOnes 64 else x / y) = v := by
  apply BitVec.eq_of_toNat_eq
  rw [h]
  by_cases hy : y.toNat = 0
  · rw [if_pos hy, if_pos (eq_zero_iff_toNat.mpr hy), BitVec.toNat_allOnes]
  · rw [if_neg hy, if_neg (mt eq_zero_iff_toNat.mp hy), BitVec.toNat_udiv]

theorem eq_remu_of_toNat (h : v.toNat = if y.toNat = 0 then x.toNat else x.toNat % y.toNat) : (if y = 0 then x else x % y) = v := by
  apply BitVec.eq_of_toNat_eq
  rw [h]
  by_cases hy : y.toNat = 0
  · rw [if_pos hy, if_pos (eq_zero_iff_toNat.mpr hy)]
  · rw [if_neg hy, if_neg (mt eq_zero_iff_toNat.mp hy), BitVec.toNat_umod]

/-- The comparison of a truth with a word of 0 or 1. -/
theorem eq_bool_of_toNat {p : Prop} [Decidable p] {c : Bool} (hc : c = true ↔ p) (h : v.toNat = if p then 1 else 0) : (if c then (1 : Word64) else 0) = v := by
  apply BitVec.eq_of_toNat_eq
  rw [h]
  by_cases hp : p
  · rw [if_pos hp, if_pos (hc.mpr hp)]
    rfl
  · rw [if_neg hp, if_neg (mt hc.mp hp)]
    rfl

theorem eq_min_of_toInt (h : v.toInt = min x.toInt y.toInt) : (if x.slt y then x else y) = v := by
  apply BitVec.eq_of_toInt_eq
  rw [h]
  split
  next hlt => exact (min_eq_left (BitVec.slt_iff_toInt_lt.mp hlt).le).symm
  next hge => exact (min_eq_right (not_lt.mp (mt BitVec.slt_iff_toInt_lt.mpr hge))).symm

theorem eq_max_of_toInt (h : v.toInt = max x.toInt y.toInt) : (if x.slt y then y else x) = v := by
  apply BitVec.eq_of_toInt_eq
  rw [h]
  split
  next hlt => exact (max_eq_right (BitVec.slt_iff_toInt_lt.mp hlt).le).symm
  next hge => exact (max_eq_left (not_lt.mp (mt BitVec.slt_iff_toInt_lt.mpr hge))).symm

theorem eq_ofInt_of_toNat {z : Int} (h : (v.toNat : Int) = z % 2 ^ 64) : BitVec.ofInt 64 z = v := by
  apply BitVec.eq_of_toNat_eq
  rw [BitVec.toNat_ofInt]
  omega

theorem eq_add_ofInt_of_toNat {z : Int} (h : (v.toNat : Int) = ((x.toNat : Int) + z) % 2 ^ 64) : x + BitVec.ofInt 64 z = v := by
  rw [← eq_ofInt_of_toNat h, BitVec.ofInt_add, BitVec.ofInt_natCast, BitVec.ofNat_toNat, BitVec.setWidth_eq]

variable {n : Nat} (hn : n < 2 ^ 64)
include hn

theorem eq_and_ofNat_of_toNat (h : v.toNat = x.toNat &&& n) : x &&& BitVec.ofNat 64 n = v := by
  apply BitVec.eq_of_toNat_eq
  rw [h, BitVec.toNat_and, BitVec.toNat_ofNat, Nat.mod_eq_of_lt hn]

theorem eq_or_ofNat_of_toNat (h : v.toNat = x.toNat ||| n) : x ||| BitVec.ofNat 64 n = v := by
  apply BitVec.eq_of_toNat_eq
  rw [h, BitVec.toNat_or, BitVec.toNat_ofNat, Nat.mod_eq_of_lt hn]

theorem eq_xor_ofNat_of_toNat (h : v.toNat = x.toNat ^^^ n) : x ^^^ BitVec.ofNat 64 n = v := by
  apply BitVec.eq_of_toNat_eq
  rw [h, BitVec.toNat_xor, BitVec.toNat_ofNat, Nat.mod_eq_of_lt hn]

end

/-- Issuing an instruction leaves the pick. -/
theorem BarRun.issued_pick (b : BarRun) : b.issued.s.c.pick = b.s.c.pick := congrArg Timebase.pick (Common.wr_time b.s.c _ _)

theorem imm_mod_lt (imm : Nat) : imm % 65536 < 2 ^ 64 := by omega

/-- Settles O47: what a written value changes, the words that no context issues, and then each instruction's value by the lemma on its operation. -/
theorem scalarsWriteOneRegister : Obligations.ScalarsWriteOneRegister := by
  unfold Obligations.ScalarsWriteOneRegister
  refine ⟨?written, ?unissued, ?illegal, ?registers, ?immediates, ?pick⟩
  case written => exact fun b rd v hb => b.alu_writes rd v hb
  case unissued =>
    intro s i k cx rd ra rb rn imm mode fails word hw hk hx hi h
    have idle := onSwIf_unissued hw (barUnit_of_lt hk hx) h
    -- One disjunct for each instruction of Table 10.5: whichever it is, its command issues its word.
    iterate 57
      rcases hi with ⟨rfl, rfl⟩ | hi
      · exact idle _
    obtain ⟨rfl, rfl⟩ := hi
    exact idle _
  case illegal => exact fun s k cx word => State.issuing_illegal
  case registers =>
    intro s k cx rd ra rb func b i v h x y xs ys hi
    rcases hi with ⟨rfl, rfl, hv⟩ | ⟨rfl, rfl, hv⟩ | ⟨rfl, rfl, hv⟩ | ⟨rfl, rfl, hv⟩ | ⟨rfl, rfl, hv⟩ | ⟨rfl, rfl, hv⟩ | ⟨rfl, rfl, hv⟩ | ⟨rfl, rfl, hv⟩ |
      ⟨rfl, rfl, hv⟩ | ⟨rfl, rfl, hv⟩ | ⟨rfl, rfl, hv⟩ | ⟨rfl, rfl, hv⟩ | ⟨rfl, rfl, hv⟩ | ⟨rfl, rfl, hv⟩ | ⟨rfl, rfl, hv⟩ | ⟨rfl, rfl, hv⟩
    · exact onSwIf_alu h (BitVec.eq_of_toNat_eq ((BitVec.toNat_add _ _).trans hv.symm))
    · exact onSwIf_alu h (eq_sub_of_toNat hv)
    · exact onSwIf_alu h (BitVec.eq_of_toNat_eq ((BitVec.toNat_and _ _).trans hv.symm))
    · exact onSwIf_alu h (BitVec.eq_of_toNat_eq ((BitVec.toNat_or _ _).trans hv.symm))
    · exact onSwIf_alu h (BitVec.eq_of_toNat_eq ((BitVec.toNat_xor _ _).trans hv.symm))
    · exact onSwIf_alu h (eq_shiftLeft_of_toNat hv)
    · exact onSwIf_alu h (eq_ushiftRight_of_toNat hv)
    · exact onSwIf_alu h (eq_sshiftRight_of_toInt hv)
    · exact onSwIf_alu h (BitVec.eq_of_toNat_eq ((BitVec.toNat_mul _ _).trans hv.symm))
    · exact onSwIf_alu h (eq_mulhu_of_toNat hv)
    · exact onSwIf_alu h (eq_divu_of_toNat hv)
    · exact onSwIf_alu h (eq_remu_of_toNat hv)
    · exact onSwIf_alu h (eq_bool_of_toNat BitVec.slt_iff_toInt_lt hv)
    · exact onSwIf_alu h (eq_bool_of_toNat BitVec.ult_iff_toNat_lt hv)
    · exact onSwIf_alu h (eq_min_of_toInt hv)
    · exact onSwIf_alu h (eq_max_of_toInt hv)
  case immediates =>
    intro s k cx rd ra imm major b i v h x hi
    rcases hi with ⟨rfl, rfl, hv⟩ | ⟨rfl, rfl, hv⟩ | ⟨rfl, rfl, hv⟩ | ⟨rfl, rfl, hv⟩ | ⟨rfl, rfl, hv⟩ | ⟨rfl, rfl, hv⟩ | ⟨rfl, rfl, hv⟩
    · exact onSwIf_alu h (eq_add_ofInt_of_toNat hv)
    · exact onSwIf_alu h (eq_and_ofNat_of_toNat (imm_mod_lt imm) hv)
    · exact onSwIf_alu h (eq_or_ofNat_of_toNat (imm_mod_lt imm) hv)
    · exact onSwIf_alu h (eq_xor_ofNat_of_toNat (imm_mod_lt imm) hv)
    · exact onSwIf_alu h (eq_ofInt_of_toNat hv)
    · exact onSwIf_alu h (eq_shiftLeft_of_toNat hv)
    · exact onSwIf_alu h (eq_ushiftRight_of_toNat hv)
  case pick =>
    intro s k cx rd ra rb b v h hv
    obtain ⟨-, -, hb⟩ := State.issuing_eq_some h
    obtain ⟨hs, -, -⟩ := SwState.issuer_eq_some hb
    refine onSwIf_alu h (BitVec.eq_of_toNat_eq ?_)
    rw [BitVec.toNat_ofNat, b.issued_pick, hs, hv]

end Sys2Proof.Machine
end

section
/-!
PROOF. Where a context goes next: jumps inside the code and outside it, the stop of a context and of its collective, the branches, and the watchdog (R408, R415, R416).
-/

namespace Sys2Proof.Machine

/-! ### Jumps and stops -/

section
variable (b : BarRun)

theorem BarRun.jump_inside (dest : Int) (h0 : 0 ≤ dest) (hin : ∀ p, b.prog = some p → dest < p.code.length) :
    b.jump dest = (b.ctx (fun x => { x with pc := dest.toNat })).s := by
  refine if_pos ⟨h0, ?_⟩
  cases hp : b.prog with
  | none => rfl
  | some p => exact decide_eq_true (hin p hp)

theorem BarRun.jump_outside (dest : Int) (h : dest < 0 ∨ ∃ p, b.prog = some p ∧ (p.code.length : Int) ≤ dest) : b.jump dest = b.stop 1 := by
  refine if_neg fun inside => ?_
  rcases h with neg | ⟨p, hp, past⟩
  · exact not_lt.mpr inside.1 neg
  · have hin := inside.2
    rw [hp] at hin
    exact not_lt.mpr past (of_decide_eq_true hin)

variable {b} in
/-- A stopped context is marked so in its core, and nothing else of it changes. -/
theorem BarRun.Stands.stop (h : b.Stands) (cause : Nat) : Tab.find ((b.stop cause).core' b.k).ctxs b.cx = some { b.x with stopped := true } :=
  h.ctx (fun x => { x with stopped := true })

theorem BarRun.stop_c (cause : Nat) : (b.stop cause).c = b.s.c.event (barA b.k 0x00C) (cause * 4096 + b.cx * 256) := rfl

theorem BarRun.stop_cause (cause : Nat) (x : CollRec) (hx : x ∈ (b.stop cause).colls) (hg : x.group = b.r.group) (hs : x.seq = b.r.seq) (hc : x.st ≠ .committed) :
    x.cause.isSome = true := SwState.managerStop_cause _ b.r x hx hg hs hc

end

/-! ### Branches -/

section
variable {s : State} {k cx word : Nat} {b : BarRun}

/-- A conditional branch, run in the context that issues its word: it jumps where its condition holds, and goes to the next word otherwise. -/
theorem onSwIf_branch {imm : Nat} {c : BarRun → Bool} {taken : Prop} (h : s.issuing k cx word = some b) (hc : c b.issued = true ↔ taken) :
    let run := onSwIf (barUnit k cx) s (fun w => w.issue k cx word (fun g => g.branch (c g) imm))
    (taken → run = .next (s.afterSw (b.issued.jump ((b.x.pc : Int) + imm16 imm)))) ∧ (¬taken → run = .next (s.afterSw b.issued.next)) := by
  simp only [onSwIf_issue h, BarRun.branch]
  exact ⟨fun yes => by rw [if_pos (hc.mpr yes)]; rfl, fun no => by rw [if_neg (mt hc.mp no)]⟩

theorem not_slt_iff_toInt_le {x y : Word64} : (!x.slt y) = true ↔ y.toInt ≤ x.toInt := by rw [Bool.not_eq_true', ← Bool.not_eq_true, BitVec.slt_iff_toInt_lt, not_lt]

theorem not_ult_iff_toNat_le {x y : Word64} : (!x.ult y) = true ↔ y.toNat ≤ x.toNat := by rw [Bool.not_eq_true', ← Bool.not_eq_true, BitVec.ult_iff_toNat_lt, not_lt]

end

/-! ### The watchdog -/

section
variable (w : SwState) (k cx : Nat)

section
variable {x : BarCtx} {r : CollRec} {p : Prog} (hx : Tab.find (w.core' k).ctxs cx = some x) (hr : w.slotColl x.slot = some r) (hp : w.userProg r.op = some p)
include hx hr hp

theorem SwState.watchdog_fires (full : p.wdog ≤ x.wdog) (hs : x.stopped = false) (he : x.ended = false) : w.watchdog k cx = w.stopCtx k cx 3 r := by
  simp only [SwState.watchdog, hx, hr, hp]
  exact if_pos ⟨full, by rw [hs]; rfl, by rw [he]; rfl⟩

theorem SwState.watchdog_waits (h : x.wdog < p.wdog ∨ x.stopped = true ∨ x.ended = true) : w.watchdog k cx = w := by
  simp only [SwState.watchdog, hx, hr, hp]
  refine if_neg fun ⟨full, hs, he⟩ => ?_
  rcases h with early | stopped | ended
  · exact not_lt.mpr full early
  · rw [stopped] at hs
    contradiction
  · rw [ended] at he
    contradiction

end

theorem SwState.watchdog_unloaded (h : ∀ x r, Tab.find (w.core' k).ctxs cx = some x → w.slotColl x.slot = some r → w.userProg r.op = none) : w.watchdog k cx = w := by
  unfold SwState.watchdog
  cases hx : Tab.find (w.core' k).ctxs cx with
  | none => rfl
  | some x =>
    cases hr : w.slotColl x.slot with
    | none => simp only [hr]
    | some r => simp only [hr, h x r hx hr]

end

theorem exec_watchdogFire_after (s : State) (k cx : Nat) (hw : s.heldPart .sw = false) (hk : k < 64) (hx : cx < 16) :
    exec (.watchdogFire k cx) s = .next (s.afterSw (s.sw.watchdog k cx)) := (exec_watchdogFire ..).trans (onSwIf_after s _ _ hw (barUnit_of_lt hk hx))

/-- Settles O48: jumps, stops and the watchdog by the lemmas above, and each branch by the comparison that it makes. -/
theorem branchesStayInTheCode : Obligations.BranchesStayInTheCode := by
  unfold Obligations.BranchesStayInTheCode
  refine ⟨?jumps, ?stops, ?branches, ?jal, ?jr, ?loaded, ?unloaded⟩
  case jumps =>
    intro b dest hb
    refine ⟨fun h0 hin => ?_, b.jump_outside dest⟩
    rw [b.jump_inside dest h0 hin]
    exact ⟨BarRun.Stands.ctx hb _, rfl, rfl⟩
  case stops => exact fun b cause hb => ⟨BarRun.Stands.stop hb cause, b.stop_c cause, b.stop_cause cause⟩
  case branches =>
    intro s k cx rd ra imm major b i taken h g hi
    rcases hi with ⟨rfl, rfl, ht⟩ | ⟨rfl, rfl, ht⟩ | ⟨rfl, rfl, ht⟩ | ⟨rfl, rfl, ht⟩ | ⟨rfl, rfl, ht⟩ | ⟨rfl, rfl, ht⟩
    · exact onSwIf_branch h (beq_iff_eq.trans ht.symm)
    · exact onSwIf_branch h (bne_iff_ne.trans ht.symm)
    · exact onSwIf_branch h (BitVec.slt_iff_toInt_lt.trans ht.symm)
    · exact onSwIf_branch h (not_slt_iff_toInt_le.trans ht.symm)
    · exact onSwIf_branch h (BitVec.ult_iff_toNat_lt.trans ht.symm)
    · exact onSwIf_branch h (not_ult_iff_toNat_le.trans ht.symm)
  case jal => exact fun s k cx off b h => onSwIf_issue h _
  case jr => exact fun s k cx rd ra rb b => ⟨fun h => onSwIf_issue h _, fun h => onSwIf_issue h _⟩
  case loaded =>
    intro s k cx x r p hw hk hcx hx hr hp
    rw [exec_watchdogFire_after s k cx hw hk hcx]
    exact ⟨fun full hs he => by rw [s.sw.watchdog_fires k cx hx hr hp full hs he], fun h => by rw [s.sw.watchdog_waits k cx hx hr hp h]⟩
  case unloaded =>
    intro s k cx hw hk hcx h
    rw [exec_watchdogFire_after s k cx hw hk hcx, s.sw.watchdog_unloaded k cx h]

end Sys2Proof.Machine
end

section
/-!
PROOF. Contexts that wait: SWAIT and SALL for staged chunks, SREL and SCNT of the chunks that a context works, RCAST and RSEND of results, RWAIT and END, and CONTEXT_RESUME of a context that has blocked (R404, R408 to R413).
-/

namespace Sys2Proof.Machine

/-! ### Waiting for chunks (R410, R415) -/

section
variable (g : BarRun) (ra rb : Nat)

section
variable (rank idx : Nat) (hr : (g.reg ra).toNat = rank) (hi : (g.reg rb).toNat = idx)
include hr hi

theorem BarRun.swait_outside (h : g.inPart rank idx = false) : g.swait ra rb = g.stop 1 := by
  simp only [BarRun.swait, hr, hi, h, Bool.not_false, if_true]

variable (h : g.inPart rank idx = true)
include h

theorem BarRun.swait_staged (hs : g.r.hasStaged rank idx = true) : g.swait ra rb = (g.ctx (fun x => x.show_ rank idx)).next := by
  simp only [BarRun.swait, hr, hi, h, hs, Bool.not_true, Bool.false_eq_true, if_true, if_false]

theorem BarRun.swait_blocks (hs : g.r.hasStaged rank idx = false) : g.swait ra rb = g.block (.chunk rank idx) := by
  simp only [BarRun.swait, hr, hi, h, hs, Bool.not_true, Bool.false_eq_true, if_false]

end

section
variable (idx : Nat) (hi : (g.reg rb).toNat = idx)
include hi

theorem BarRun.sall_outside (h : ∃ j, j < g.r.m ∧ g.inPart j idx = false) : g.sall rb = g.stop 1 := by
  obtain ⟨j, hj, out⟩ := h
  have some_out : ((List.range g.r.m).all fun k => g.inPart k idx) = false := List.all_eq_false.mpr ⟨j, List.mem_range.mpr hj, by rw [out]; exact Bool.false_ne_true⟩
  simp only [BarRun.sall, hi, some_out, Bool.not_false, if_true]

variable (h : ∀ j, j < g.r.m → g.inPart j idx = true)
include h

theorem BarRun.sall_inside :
    g.sall rb = if g.r.allStaged idx then (g.ctx (fun x => (List.range g.r.m).foldl (fun x j => x.show_ j idx) x)).next else g.block (.allChunk idx) := by
  have all_in : ((List.range g.r.m).all fun k => g.inPart k idx) = true := List.all_eq_true.mpr fun j hj => h j (List.mem_range.mp hj)
  simp only [BarRun.sall, hi, all_in, Bool.not_true, Bool.false_eq_true, if_false]

theorem BarRun.sall_staged (hs : ∀ j, j < g.r.m → g.r.hasStaged j idx = true) :
    g.sall rb = (g.ctx (fun x => (List.range g.r.m).foldl (fun x j => x.show_ j idx) x)).next := by
  rw [g.sall_inside rb idx hi h]
  exact if_pos (List.all_eq_true.mpr fun j hj => hs j (List.mem_range.mp hj))

theorem BarRun.sall_blocks (hs : ∃ j, j < g.r.m ∧ g.r.hasStaged j idx = false) : g.sall rb = g.block (.allChunk idx) := by
  obtain ⟨j, hj, missing⟩ := hs
  rw [g.sall_inside rb idx hi h]
  refine if_neg fun all => ?_
  have staged := List.all_eq_true.mp all j (List.mem_range.mpr hj)
  rw [missing] at staged
  contradiction

end

/-! ### Releasing and counting chunks (R408, R411) -/

/-- The chunks of a rank that SREL releases: those staged of this context's blocks, up to an index. -/
def BarRun.released (g : BarRun) (m : CollMember) (top : Nat) : List Nat := (m.staged.map (·.1)).filter (fun i => decide (i ≤ top) && g.owns i)

theorem BarRun.srel_one (h : g.reg ra ≠ BitVec.allOnes 64) : g.srel ra rb =
    (match g.r.members[(g.reg ra).toNat]? with
     | some m => g.petted.next.leaveStaging g.r.group g.r.seq (g.reg ra).toNat (g.released m (g.reg rb).toNat)
     | none => g.petted.next) := by
  simp only [BarRun.srel, if_neg h]
  rfl

theorem BarRun.srel_all (h : g.reg ra = BitVec.allOnes 64) : g.srel ra rb = each (List.range g.r.m) g.petted.next (fun w j =>
    match g.r.members[j]? with
    | some m => w.leaveStaging g.r.group g.r.seq j (g.released m (g.reg rb).toNat)
    | none => w) := by
  simp only [BarRun.srel, if_pos h]
  rfl

end

/-- The last number below a bound that passes a test. -/
def lastBelow (p : Nat → Bool) (n : Nat) : Option Nat := (List.range n).foldl (fun a i => if p i = true then some i else a) none

theorem lastBelow_succ (p : Nat → Bool) (n : Nat) : lastBelow p (n + 1) = if p n = true then some n else lastBelow p n := by
  rw [lastBelow, List.range_succ, List.foldl_concat, ← lastBelow]

theorem lastBelow_none (p : Nat → Bool) (n : Nat) (h : ∀ j, p j = false) : lastBelow p n = none := by
  induction n with
  | zero => rfl
  | succ n ih => rw [lastBelow_succ, h n, if_neg Bool.false_ne_true, ih]

theorem lastBelow_some (p : Nat → Bool) (n j : Nat) (hj : j < n) (h : p j = true) (last : ∀ i, j < i → p i = false) : lastBelow p n = some j := by
  induction n with
  | zero => contradiction
  | succ n ih =>
    rw [lastBelow_succ]
    rcases Nat.lt_succ_iff_lt_or_eq.mp hj with below | rfl
    · rw [last n below, if_neg Bool.false_ne_true, ih below]
    · rw [if_pos h]

/-- A chunk that is staged, or has been, lies below its member's mark. -/
theorem CollRec.lt_top_of_hasStaged (r : CollRec) (rank j : Nat) (h : r.hasStaged rank j = true) : j < ((r.members[rank]?).map (·.top)).getD 0 := by
  unfold CollRec.hasStaged at h
  split at h
  next m hm =>
    rw [hm]
    exact of_decide_eq_true (Bool.and_eq_true_iff.mp h).1
  next => contradiction

section
variable (g : BarRun) (ra : Nat)

/-- A chunk of a rank is staged, or has been, in a block that this context works. -/
def BarRun.hereStaged (rank j : Nat) : Bool := g.owns j && g.r.hasStaged rank j

/-- What SCNT writes. -/
def BarRun.counted : Word64 :=
  ((lastBelow (g.hereStaged (g.reg ra).toNat) (((g.r.members[(g.reg ra).toNat]?).map (·.top)).getD 0)).map (BitVec.ofNat 64)).getD (BitVec.allOnes 64)

theorem BarRun.scnt_writes (rd : Nat) : g.scnt rd ra = g.alu rd (g.counted ra) := by
  simp only [BarRun.scnt, BarRun.counted, lastBelow, BarRun.hereStaged, Bool.and_eq_true]
  congr 1
  split
  next i hi => rw [hi]; rfl
  next hn => rw [hn]; rfl

theorem BarRun.counted_none (h : ∀ j, g.hereStaged (g.reg ra).toNat j = false) : g.counted ra = BitVec.allOnes 64 := by
  rw [BarRun.counted, lastBelow_none _ _ h]
  rfl

theorem BarRun.counted_last (j : Nat) (h : g.hereStaged (g.reg ra).toNat j = true) (last : ∀ n, j < n → g.hereStaged (g.reg ra).toNat n = false) :
    g.counted ra = BitVec.ofNat 64 j := by
  have low := g.r.lt_top_of_hasStaged _ j (Bool.and_eq_true_iff.mp h).2
  rw [BarRun.counted, lastBelow_some _ _ j low h last]
  rfl

/-! ### Results (R413) -/

section
variable (dest : Option Nat) (rb rn : Nat)

theorem BarRun.send_unread (h : g.range (g.reg ra).toNat (256 * (g.reg rn).toNat) = none) : g.send dest ra rb rn = g.stop 1 := by
  simp only [BarRun.send, h]

/-- The chunks of bytes that can be read are noted as results; they are sent unless the context has met a special input under NAN_ABORT (R454). -/
theorem BarRun.send_read (l : List Byte) (h : g.range (g.reg ra).toNat (256 * (g.reg rn).toNat) = some l) :
    let cs := chunksFrom (g.reg rn).toNat (g.reg rb).toNat l
    ∃ t : SwState, g.send dest ra rb rn = t.modColl g.r.group g.r.seq (fun r => { r with results := r.results ++ cs.map (fun e => (g.x.idx, e.1)) }) ∧
      (g.x.tripped = true → t = g.petted.next) ∧ (g.x.tripped = false → t = each cs g.petted.next (fun w e => w.sendResult g.r dest e.1 e.2)) := by
  simp only [BarRun.send, h]
  exact ⟨_, rfl, fun trip => if_pos trip, fun calm => if_neg (by rw [calm]; exact Bool.false_ne_true)⟩

theorem BarRun.rsend_outside (rd : Nat) (h : g.r.m ≤ (g.reg rd).toNat) : g.rsend rd ra rb rn = g.stop 1 := if_neg (Nat.not_lt.mpr h)

theorem BarRun.rsend_inside (rd : Nat) (h : (g.reg rd).toNat < g.r.m) : g.rsend rd ra rb rn = g.send (some (g.reg rd).toNat) ra rb rn := if_pos h

end

/-! ### The end of a context (R412) -/

theorem BarRun.end_ends (h : g.s.ctxResultsLeft g.r g.x.idx = true) : g.end_ = g.petted.s.endCtx g.k g.cx g.x g.r := if_pos h

theorem BarRun.end_waits (h : g.s.ctxResultsLeft g.r g.x.idx = false) : g.end_ = (g.petted.ctx (fun x => { x with wait := some .finish })).s :=
  if_neg (by rw [h]; exact Bool.false_ne_true)

end

/-! ### What a context has been shown (R404) -/

section
variable (x : BarCtx)

theorem BarCtx.shown_show_same (rank idx : Nat) : idx < Tab.get (x.show_ rank idx).shown 0 rank := by
  have here : Tab.get (x.show_ rank idx).shown 0 rank = max (Tab.get x.shown 0 rank) (idx + 1) := Tab.get_upd_same x.shown 0 rank (fun n => max n (idx + 1))
  omega

theorem BarCtx.shown_show_other (rank idx j : Nat) (h : j ≠ rank) : Tab.get (x.show_ rank idx).shown 0 j = Tab.get x.shown 0 j :=
  Tab.get_upd_other x.shown 0 rank j (fun n => max n (idx + 1)) h

/-- A context that is shown a chunk of each of the first ranks. -/
def BarCtx.showAll (m idx : Nat) : BarCtx := (List.range m).foldl (fun x j => x.show_ j idx) x

theorem BarCtx.showAll_succ (m idx : Nat) : x.showAll (m + 1) idx = (x.showAll m idx).show_ m idx := by
  rw [BarCtx.showAll, List.range_succ, List.foldl_concat, ← BarCtx.showAll]

/-- Showing chunks changes only what has been shown. -/
theorem BarCtx.showAll_eq (m idx : Nat) : x.showAll m idx = { x with shown := (x.showAll m idx).shown } := by
  induction m with
  | zero => rfl
  | succ m ih =>
    rw [x.showAll_succ, BarCtx.show_, ih]

theorem BarCtx.shown_showAll (m idx rank : Nat) (h : rank < m) : idx < Tab.get (x.showAll m idx).shown 0 rank := by
  induction m with
  | zero => contradiction
  | succ m ih =>
    rw [x.showAll_succ]
    by_cases last : rank = m
    · rw [last]
      exact (x.showAll m idx).shown_show_same m idx
    · rw [(x.showAll m idx).shown_show_other m idx rank last]
      exact ih (by omega)

/-- A context of a group of `m` members as the end of its wait shows it chunks. -/
def BarCtx.shownBy (m : Nat) : BarWait → BarCtx
  | .chunk rank idx => x.show_ rank idx
  | .allChunk idx => x.showAll m idx
  | _ => x

theorem BarCtx.shownBy_eq (m : Nat) (w : BarWait) : x.shownBy m w = { x with shown := (x.shownBy m w).shown } := by
  cases w with
  | allChunk idx => exact x.showAll_eq m idx
  | _ => rfl

end

/-! ### `CONTEXT_RESUME` (R410, R412) -/

section
variable (w : SwState) (k cx : Nat)

theorem SwState.ctxResume_absent (h : Tab.find (w.core' k).ctxs cx = none) : w.ctxResume k cx = w := by
  simp only [SwState.ctxResume, h]

variable (x : BarCtx) (hx : Tab.find (w.core' k).ctxs cx = some x)
include hx

theorem SwState.ctxResume_idle (h : x.wait = none ∨ w.slotColl x.slot = none) : w.ctxResume k cx = w := by
  simp only [SwState.ctxResume, hx]
  split
  next wt r hw hr =>
    rw [hw, hr] at h
    rcases h with h | h <;> contradiction
  next => rfl

section
variable (wt : BarWait) (r : CollRec) (hw : x.wait = some wt) (hr : w.slotColl x.slot = some r)
include hw hr

theorem SwState.ctxResume_blocked (h : w.c.pwr.paused = true ∨ x.stopped = true ∨ w.waitOver k x cx r wt = false) : w.ctxResume k cx = w := by
  simp only [SwState.ctxResume, hx, hw, hr]
  exact if_pos (by rwa [Bool.not_eq_true'])

variable (hp : w.c.pwr.paused = false) (hs : x.stopped = false) (ho : w.waitOver k x cx r wt = true)
include hp hs ho

theorem SwState.ctxResume_finishes (hf : wt = .finish) : w.ctxResume k cx = w.endCtx k cx x r := by
  subst hf
  simp only [SwState.ctxResume, hx, hw, hr, hp, hs, ho, Bool.not_true, Bool.false_eq_true, or_self, if_false]

theorem SwState.ctxResume_goesOn (hf : wt ≠ .finish) : w.ctxResume k cx = w.modCtx k cx (fun x => { x.shownBy r.m wt with wait := none, ready := true }) := by
  simp only [SwState.ctxResume, hx, hw, hr, hp, hs, ho, Bool.not_true, Bool.false_eq_true, or_self, if_false]
  cases wt with
  | finish => contradiction
  | _ => rfl

end

end

theorem exec_contextResume_after (s : State) (k cx : Nat) (hw : s.heldPart .sw = false) (hk : k < 64) (hx : cx < 16) :
    exec (.contextResume k cx) s = .next (s.afterSw (s.sw.ctxResume k cx)) := (exec_contextResume ..).trans (onSwIf_after s _ _ hw (barUnit_of_lt hk hx))

/-! ### The instructions -/

section
variable {s : State} {k cx : Nat} {b : BarRun} {rd ra rb rn mode : Nat}

theorem exec_barSwait_issued (h : s.issuing k cx (wordA 0x30 rd ra rb 0) = some b) :
    exec (.barSwait k cx rd ra rb) s = .next (s.afterSw (b.issued.swait ra rb)) := onSwIf_issue h _

theorem exec_barSall_issued (h : s.issuing k cx (wordA 0x31 rd ra rb 0) = some b) :
    exec (.barSall k cx rd ra rb) s = .next (s.afterSw (b.issued.sall rb)) := onSwIf_issue h _

theorem exec_barSrel_issued (h : s.issuing k cx (wordA 0x32 rd ra rb 0) = some b) :
    exec (.barSrel k cx rd ra rb) s = .next (s.afterSw (b.issued.srel ra rb)) := onSwIf_issue h _

theorem exec_barScnt_issued (h : s.issuing k cx (wordA 0x33 rd ra rb 0) = some b) :
    exec (.barScnt k cx rd ra rb) s = .next (s.afterSw (b.issued.scnt rd ra)) := onSwIf_issue h _

theorem exec_barEnd_issued (h : s.issuing k cx (wordA 0x3F rd ra rb 0) = some b) :
    exec (.barEnd k cx rd ra rb) s = .next (s.afterSw b.issued.end_) := onSwIf_issue h _

theorem exec_barRcast_issued (h : s.issuing k cx (wordV 0x34 rd ra rb rn mode) = some b) :
    exec (.barRcast k cx rd ra rb rn mode) s = .next (s.afterSw (b.issued.send none ra rb rn)) := onSwIf_issue h _

theorem exec_barRsend_issued (h : s.issuing k cx (wordV 0x35 rd ra rb rn mode) = some b) :
    exec (.barRsend k cx rd ra rb rn mode) s = .next (s.afterSw (b.issued.rsend rd ra rb rn)) := onSwIf_issue h _

/-- RCAST, and RSEND to a rank that the group has, send their chunks. -/
theorem exec_send {i : Instr} {dest : Option Nat}
    (hi : i = .barRcast k cx rd ra rb rn mode ∧ s.issuing k cx (wordV 0x34 rd ra rb rn mode) = some b ∧ dest = none ∨
      i = .barRsend k cx rd ra rb rn mode ∧ s.issuing k cx (wordV 0x35 rd ra rb rn mode) = some b ∧ dest = some (b.reg rd).toNat)
    (inside : ∀ rank, dest = some rank → rank < b.r.m) : exec i s = .next (s.afterSw (b.issued.send dest ra rb rn)) := by
  rcases hi with ⟨rfl, h, rfl⟩ | ⟨rfl, h, rfl⟩
  · exact exec_barRcast_issued h
  · rw [exec_barRsend_issued h, b.issued.rsend_inside ra rb rn rd (inside _ rfl)]
    rfl

end

/-- Settles O51: each instruction runs in the context that issues it and ends as the lemmas above say; issuing leaves that context its registers and its collective. -/
theorem contextsWaitForChunksAndResults : Obligations.ContextsWaitForChunksAndResults := by
  unfold Obligations.ContextsWaitForChunksAndResults
  refine ⟨?swait, ?sall, ?block, ?chunks, ?results, ?absent, ?resume⟩
  case swait =>
    intro s k cx rd ra rb b h g rank idx
    rw [exec_barSwait_issued h]
    exact ⟨fun out => by rw [g.swait_outside ra rb rank idx rfl rfl out], fun inside hs => by rw [g.swait_staged ra rb rank idx rfl rfl inside hs],
      fun inside hs => by rw [g.swait_blocks ra rb rank idx rfl rfl inside hs]⟩
  case sall =>
    intro s k cx rd ra rb b h g idx
    rw [exec_barSall_issued h]
    refine ⟨fun out => by rw [g.sall_outside rb idx rfl out], fun all => ?_, fun inside missing => by rw [g.sall_blocks rb idx rfl inside missing]⟩
    rw [g.sall_staged rb idx rfl (fun j hj => (all j hj).1) (fun j hj => (all j hj).2)]
    rfl
  case block => exact fun b w hb => ⟨BarRun.Stands.ctx hb _, rfl, rfl⟩
  case chunks =>
    intro s k cx rd ra rb b
    refine ⟨fun h one => ?srel, fun h all => ?srelAll, fun h => ?scnt, fun h => onSwIf_issue h _, fun h => ?ends⟩
    case srel =>
      rw [exec_barSrel_issued h, b.issued.srel_one ra rb one]
      rfl
    case srelAll =>
      rw [exec_barSrel_issued h, b.issued.srel_all ra rb all]
      rfl
    case scnt =>
      rw [exec_barScnt_issued h, b.issued.scnt_writes ra rd]
      exact ⟨_, rfl, b.issued.counted_none ra, b.issued.counted_last ra⟩
    case ends =>
      rw [exec_barEnd_issued h]
      exact ⟨fun left => by rw [b.issued.end_ends left]; rfl, fun left => by rw [b.issued.end_waits left]⟩
  case results =>
    intro s k cx rd ra rb rn mode b i dest hi g
    refine ⟨fun rank hd out => ?outside, fun inside => ?inside⟩
    case outside =>
      rcases hi with ⟨-, -, rfl⟩ | ⟨rfl, h, rfl⟩
      · cases hd
      · cases hd
        rw [exec_barRsend_issued h, b.issued.rsend_outside ra rb rn rd out]
    case inside =>
      rw [exec_send hi inside]
      refine ⟨fun unread => by rw [g.send_unread ra dest rb rn unread], fun l hl => ?_⟩
      obtain ⟨t, sent, tripped, calm⟩ := g.send_read ra dest rb rn l hl
      exact ⟨t, by rw [sent]; rfl, tripped, calm⟩
  case absent =>
    intro s k cx hw hk hcx h
    rw [exec_contextResume_after s k cx hw hk hcx, s.sw.ctxResume_absent k cx h]
  case resume =>
    intro s k cx x hw hk hcx hx
    rw [exec_contextResume_after s k cx hw hk hcx]
    refine ⟨fun h => by rw [s.sw.ctxResume_idle k cx x hx h], fun w r hwt hr => ⟨fun h => by rw [s.sw.ctxResume_blocked k cx x hx w r hwt hr h], fun hp hs ho => ?_⟩⟩
    refine ⟨fun hf => by rw [s.sw.ctxResume_finishes k cx x hx w r hwt hr hp hs ho hf], fun hf => ?_⟩
    rw [s.sw.ctxResume_goesOn k cx x hx w r hwt hr hp hs ho hf]
    refine ⟨_, rfl, rfl, rfl, { x.shownBy r.m w with wait := none, ready := true }, ?_, rfl, ?_, ?_, ?_, ?_⟩
    · rw [SwState.find_modCtx_same, hx]; rfl
    · rw [x.shownBy_eq]
    · rw [x.shownBy_eq]
    · rintro rank idx rfl
      exact x.shown_show_same rank idx
    · rintro idx rank rfl hrank
      exact x.shown_showAll r.m idx rank hrank

end Sys2Proof.Machine
end

section
/-!
PROOF. Bartas programs as they are loaded and unloaded: what a piece of a container makes of its partial container, a whole container checked and placed, and what a program, a partial container, an engine or a DRAM stack leaves when it goes (R422 to R424, R559, R560, R696).
-/

namespace Sys2Proof.Machine

/-! ### Pieces (R696) -/

section
variable (w : SwState) (z : ZPacket)

/-- The partial container that a piece joins: a new one where it begins at 0, otherwise what its slot has. -/
def SwState.partialFor : Option ProgLoad := if pn z.payload 4 4 = 0 then some { pitch := pb z.payload 1 } else Tab.find w.loads (pb z.payload 0)

theorem SwState.progPiece_none (h : w.partialFor z = none) : w.progPiece z = w.mod (fun c => c.zAnswer 0x0601 z 0x0610 0 []) := by
  unfold SwState.partialFor at h
  simp only [SwState.progPiece, h]

variable (l : ProgLoad) (h : w.partialFor z = some l)
include h

theorem SwState.progPiece_stray (bad : pn z.payload 4 4 ≠ l.bytes.length ∨ l.pitch ≠ pb z.payload 1) :
    w.progPiece z = w.mod (fun c => c.zAnswer 0x0601 z 0x0610 (min 0xFFFF (l.bytes.length / 4)) []) := by
  unfold SwState.partialFor at h
  simp only [SwState.progPiece, h, if_pos bad]

variable (ho : pn z.payload 4 4 = l.bytes.length) (hp : l.pitch = pb z.payload 1)
include ho hp

theorem SwState.progPiece_joins (more : pb z.payload 2 ≠ 1) :
    w.progPiece z = ({ w with loads := Tab.put w.loads (pb z.payload 0) { pitch := pb z.payload 1, bytes := l.bytes ++ z.payload.drop 8, at_ := w.c.pick } } : SwState).mod
      (fun c => c.zOk 0x0601 z []) := by
  unfold SwState.partialFor at h
  simp only [SwState.progPiece, h, if_neg (not_or.mpr ⟨not_not_intro ho, not_not_intro hp⟩), if_neg more]

theorem SwState.progPiece_last (last : pb z.payload 2 = 1) :
    w.progPiece z = ({ w with loads := Tab.del w.loads (pb z.payload 0) } : SwState).progPlace z (pb z.payload 0) (pb z.payload 1) (l.bytes ++ z.payload.drop 8) := by
  unfold SwState.partialFor at h
  simp only [SwState.progPiece, h, if_neg (not_or.mpr ⟨not_not_intro ho, not_not_intro hp⟩), if_pos last]

end

/-! ### A whole container (Table 10.9) -/

section
variable (w : SwState) (z : ZPacket) (slot pitch : Nat) (l : List Byte)

/-- A container that passes every check goes to a slot that is empty (step 8). -/
theorem SwState.slot_empty_of_loadCheck (h : w.loadCheck slot pitch l = none) : Tab.find w.progs slot = none := by
  by_contra full
  unfold SwState.loadCheck at h
  split at h
  case h_1 => cases h
  dsimp only at h
  split at h
  case isTrue => cases h
  split at h
  case isTrue => cases h
  split at h
  case h_1 => cases h
  split at h
  case isTrue => cases h
  split at h
  case h_1 | h_2 | h_3 => cases h
  rw [if_pos (Option.isSome_iff_ne_none.mpr full)] at h
  cases h

theorem SwState.progPlace_refused (f : Nat × Nat) (h : w.loadCheck slot pitch l = some f) :
    w.progPlace z slot pitch l = w.mod (fun c => (c.loadEvent 2 slot f.1).zAnswer 0x0601 z f.1 (min 0xFFFF f.2) []) := by
  simp only [SwState.progPlace, h]

theorem SwState.progPlace_stored (h : w.loadCheck slot pitch l = none) :
    w.progPlace z slot pitch l = ({ w with progs := Tab.put w.progs slot (progOfBytes pitch l) } : SwState).mod (fun c => (c.loadEvent 1 slot 0).zOk 0x0601 z []) := by
  simp only [SwState.progPlace, h]

end

/-! ### A program that goes (R424) -/

section
variable (w : SwState) (z : ZPacket)

theorem SwState.progUnload_named (n : Nat) (h : lowest (w.c.handlesOf (0x80 + pb z.payload 0)) = some n) :
    w.progUnload z = w.mod (fun c => c.zAnswer 0x0602 z 0x060F n []) := by
  simp only [SwState.progUnload, h]

variable (h : lowest (w.c.handlesOf (0x80 + pb z.payload 0)) = none)
include h

theorem SwState.progUnload_empty (hp : Tab.find w.progs (pb z.payload 0) = none) : w.progUnload z = w.mod (fun c => c.zAnswer 0x0602 z zNotFound 0 []) := by
  simp only [SwState.progUnload, h, hp, Option.isNone_none, if_true]

theorem SwState.progUnload_removes (p : Prog) (hp : Tab.find w.progs (pb z.payload 0) = some p) :
    w.progUnload z = ({ w with progs := Tab.del w.progs (pb z.payload 0) } : SwState).mod (fun c => (c.loadEvent 3 (pb z.payload 0) 0).zOk 0x0602 z []) := by
  simp only [SwState.progUnload, h, hp, Option.isNone_some, Bool.false_eq_true, if_false]

end

/-! ### A partial container that is given up -/

section
variable (w : SwState) (n : Nat)

/-- The partial container of a slot has received no piece for 10,000,000 picks. -/
def SwState.PieceDue : Prop := ∃ l, Tab.find w.loads n = some l ∧ l.at_ + 10000000 ≤ w.c.pick

theorem SwState.progExpire_early (h : ¬w.PieceDue n) : w.progExpire n = w := by
  unfold SwState.progExpire
  cases hl : Tab.find w.loads n with
  | none => rfl
  | some l => exact if_neg fun late => h ⟨l, hl, late⟩

theorem SwState.progExpire_due (h : w.PieceDue n) : w.progExpire n = { w with loads := Tab.del w.loads n } := by
  obtain ⟨l, hl, late⟩ := h
  simp only [SwState.progExpire, hl, if_pos late]

end

theorem Common.engine_modEngine_other (c : Common) (n m : Nat) (f : Engine → Engine) (h : m ≠ n) : (c.modEngine n f).engine m = c.engine m :=
  Tab.get_upd_other c.opt.engines {} n m f h

/-! ### The commands -/

section
variable (s : State)

section
variable (z : ZPacket) (hp : z.part = .sw)
include hp

theorem exec_progLoad_accepted (h : s.accepts 0x0601 z = true) :
    exec (.progLoad z) s = .next (s.afterSw (({ s.sw with c := s.gated 0x0601 z } : SwState).progPiece z)) := by
  rw [exec_progLoad, execProgLoad, onZ_accepted 0x0601 z s _ _ h, hp]

theorem exec_progUnload_accepted (h : s.accepts 0x0602 z = true) :
    exec (.progUnload z) s = .next (s.afterSw (({ s.sw with c := s.gated 0x0602 z } : SwState).progUnload z)) := by
  rw [exec_progUnload, execProgUnload, onZ_accepted 0x0602 z s _ _ h, hp]

end

variable (n : Nat) (hw : s.heldPart .sw = false)
include hw

theorem exec_progPieceTimeout_after (hn : n < 64) : exec (.progPieceTimeout n) s = .next (s.afterSw (s.sw.progExpire n)) :=
  (exec_progPieceTimeout ..).trans (onSwIf_after s _ _ hw (decide_eq_true hn))

section
variable (hn : n < 18)
include hn

theorem exec_peFailure_again (h : (s.sw.c.engine n).failed = true) : exec (.peFailure n) s = .next (s.afterSw s.sw) := by
  rw [exec_peFailure, execPeFailure, onSwIf_after s _ _ hw (decide_eq_true hn), if_pos h]

theorem exec_peFailure_first (h : (s.sw.c.engine n).failed = false) :
    exec (.peFailure n) s = .next (s.afterSw (s.sw.mod (fun c => c.modEngine n (fun e => { e with failing := true })))) := by
  rw [exec_peFailure, execPeFailure, onSwIf_after s _ _ hw (decide_eq_true hn), if_neg (by rw [h]; exact Bool.false_ne_true)]

end

variable (row : Bool) (hn : n < 2)
include hn

theorem exec_dramStackFailure_again (h : s.sw.stacksLost.contains n = true ∨ s.sw.stacksDue.contains n = true) :
    exec (.dramStackFailure n row) s = .next (s.afterSw s.sw) := by
  rw [exec_dramStackFailure, execDramStackFailure, onSwIf_after s _ _ hw (decide_eq_true hn), if_pos h]

theorem exec_dramStackFailure_first (hl : s.sw.stacksLost.contains n = false) (hd : s.sw.stacksDue.contains n = false) :
    exec (.dramStackFailure n row) s = .next (s.afterSw
      (({ s.sw with stacksDue := s.sw.stacksDue ++ [n] } : SwState).mod (fun c => c.event 0x800004 ((if row then 2 else 1) * 256 + n)))) := by
  rw [exec_dramStackFailure, execDramStackFailure, onSwIf_after s _ _ hw (decide_eq_true hn), if_neg (by simp only [hl, hd, Bool.false_eq_true, or_self, not_false_iff])]

end

/-- Settles O52: each command runs its function, and the lemmas on that function say what each case leaves. -/
theorem programsAreCheckedBeforeTheyLoad : Obligations.ProgramsAreCheckedBeforeTheyLoad := by
  unfold Obligations.ProgramsAreCheckedBeforeTheyLoad
  refine ⟨?pieces, ?placed, ?unloaded, ?failures⟩
  case pieces =>
    intro s z hp hz c w slot had
    rw [exec_progLoad_accepted s z hp hz]
    refine ⟨fun l hl => ⟨fun bad => ?stray, fun ho hpitch more => ?joins, fun ho hpitch last => ?last⟩, fun hn => ?none⟩
    case stray => rw [s.afterZ_sw z _ hp, w.progPiece_stray z l hl bad]; rfl
    case joins =>
      rw [w.progPiece_joins z l hl ho hpitch more]
      exact ⟨_, rfl, rfl, rfl, Tab.find_put_same .., fun o other => Tab.find_put_other _ _ _ _ other⟩
    case last => rw [w.progPiece_last z l hl ho hpitch last]
    case none => rw [s.afterZ_sw z _ hp, w.progPiece_none z hn]; rfl
  case placed =>
    intro w z slot pitch l
    refine ⟨fun f hf => ?refused, fun hn => ?stored⟩
    case refused =>
      rw [w.progPlace_refused z slot pitch l f hf]
      exact ⟨rfl, rfl⟩
    case stored =>
      rw [w.progPlace_stored z slot pitch l hn]
      exact ⟨w.slot_empty_of_loadCheck slot pitch l hn, Tab.find_put_same .., rfl⟩
  case unloaded =>
    intro s z hp hz c slot
    let w : SwState := { s.sw with c := c }
    rw [exec_progUnload_accepted s z hp hz]
    refine ⟨fun n hn => ?named, fun hn empty => ?empty, fun p hn full => ?removed⟩
    case named => rw [s.afterZ_sw z _ hp, w.progUnload_named z n hn]; rfl
    case empty => rw [s.afterZ_sw z _ hp, w.progUnload_empty z hn empty]; rfl
    case removed =>
      rw [w.progUnload_removes z hn p full]
      exact ⟨_, rfl, Tab.find_del_same .., fun o other => Tab.find_del_other _ _ _ other, rfl⟩
  case failures =>
    intro s n hw
    refine ⟨fun hn => ?timeout, fun hn => ?engine, fun row hn => ?stack⟩
    case timeout =>
      rw [exec_progPieceTimeout_after s n hw hn]
      refine ⟨fun early => by rw [s.sw.progExpire_early n early], fun due => ?_⟩
      rw [s.sw.progExpire_due n due]
      exact ⟨_, rfl, Tab.find_del_same .., fun o other => Tab.find_del_other _ _ _ other, rfl, rfl⟩
    case engine =>
      refine ⟨exec_peFailure_again s n hw hn, fun sound => ⟨_, exec_peFailure_first s n hw hn sound, ?_, fun m other => Common.engine_modEngine_other _ n m _ other⟩⟩
      rw [SwState.mod_c, Common.engine_modEngine_same]
    case stack =>
      exact ⟨exec_dramStackFailure_again s n hw row hn, fun hl hd => ⟨_, exec_dramStackFailure_first s n hw row hn hl hd, rfl, rfl⟩⟩

end Sys2Proof.Machine
end

section
/-!
PROOF. The machine: the order of the queue, parts that are held, and the in-band replies that a step may leave waiting.
That none waits behind a command of a working part is said in Laws/Sending (`SwState.finish_outbox`, `EpState.finish_outbox`); here it is said of a held part and of the commands that reach one.
-/

namespace Sys2Proof.Machine

/-! ### The queue -/

/-- Settles O1: a step is the front command's `exec`, by definition. -/
theorem stepRunsTheFrontCommand : Obligations.StepRunsTheFrontCommand := fun _ _ _ => rfl

theorem step_idle (s : State) (h : s.pending = []) : step s = .next s := by simp only [step, h]

/-- Steps of a machine that idles leave it as it is. -/
theorem run_idle (k : Nat) (s : State) (h : s.pending = []) : core.run k s = .next s := by
  induction k with
  | zero => rfl
  | succ k ih =>
    have one : core.step s = .next s := step_idle s h
    simp only [Host.Core.run, one, ih]

/-- Settles O2: one step idles, and so does a run of such steps by induction on their number. -/
theorem emptyQueueIdles : Obligations.EmptyQueueIdles := fun s k h => ⟨step_idle s h, run_idle k s h⟩

/-- Settles O4: a command that does not reach a held part acts through its part, and a held part lets nothing through. -/
theorem heldPartDoesNothing : Obligations.HeldPartDoesNothing :=
  fun c s units r held => through_held s _ _ (exec_through c s units r) held

/-! ### Replies that wait -/

theorem State.inv_iff (s : State) : s.inv = true ↔ s.sw.c.mgmt.outbox = [] ∧ s.ep.c.mgmt.outbox = [] := by
  simp [State.inv]

/-- What the switch becomes has no say in the replies of the end-point. -/
theorem State.inv_sw (s : State) (w : SwState) (h : w.c.mgmt.outbox = []) (k : s.ep.c.mgmt.outbox = []) : ({ s with sw := w } : State).inv = true :=
  (State.inv_iff _).mpr ⟨h, k⟩

/-- What the end-point becomes has no say in the replies of the switch. -/
theorem State.inv_ep (s : State) (e : EpState) (k : s.sw.c.mgmt.outbox = []) (h : e.c.mgmt.outbox = []) : ({ s with ep := e } : State).inv = true :=
  (State.inv_iff _).mpr ⟨k, h⟩

/-- A command through its part leaves no reply waiting there, and what waits in the other part as it is. -/
theorem through_inv (s t : State) (part : Part) (o : Host.Outcome State Fault Refusal) (h : Through s part o) (k : s.inv = true) (ho : o = .next t) : t.inv = true := by
  obtain ⟨sw, ep⟩ := s.inv_iff.mp k
  cases held : s.heldPart part with
  | true =>
    rw [through_held s part o h held] at ho
    obtain rfl := Host.Outcome.next.inj ho
    exact k
  | false =>
    cases part with
    | sw =>
      obtain ⟨f, rfl⟩ := h
      rw [onSw_next s f held] at ho
      obtain rfl := Host.Outcome.next.inj ho
      exact s.inv_sw _ (SwState.finish_outbox _ _) ep
    | ep =>
      obtain ⟨f, rfl⟩ := h
      rw [onEp_next s f held] at ho
      obtain rfl := Host.Outcome.next.inj ho
      exact s.inv_ep _ sw (EpState.finish_outbox _ _)

/-- A change of a part that holds even in a held part keeps the invariant if no reply comes to wait in it. -/
theorem onRaw_inv (part : Part) (s t : State) (f : SwState → SwState) (g : EpState → EpState) (k : s.inv = true)
    (hf : s.sw.c.mgmt.outbox = [] → (f s.sw).c.mgmt.outbox = []) (hg : s.ep.c.mgmt.outbox = [] → (g s.ep).c.mgmt.outbox = [])
    (ho : onRaw part s f g = .next t) : t.inv = true := by
  obtain ⟨sw, ep⟩ := s.inv_iff.mp k
  cases part <;> obtain rfl := Host.Outcome.next.inj ho
  · exact s.inv_sw _ (hf sw) ep
  · exact s.inv_ep _ sw (hg ep)

theorem State.inv_laserLevel (s : State) (part : Part) (on : Bool) (k : s.inv = true) : (s.modPart part (fun c => c.laserLevel on)).inv = true := by
  cases part <;> exact k

/-! ### What the commands that reach a held part make of its replies -/

@[simp] theorem Common.warmComb_mgmt (c : Common) (k : Nat) : (c.warmComb k).mgmt = c.mgmt := by
  unfold Common.warmComb
  split <;> simp

@[simp] theorem Common.warmCombs_mgmt (c : Common) : c.warmCombs.mgmt = c.mgmt := each_keep Common.mgmt _ _ _ (fun c k => c.warmComb_mgmt k)

@[simp] theorem Common.markLost_mgmt (c : Common) : c.markLost.mgmt = c.mgmt :=
  (each_keep Common.mgmt _ _ _ (fun _ _ => Common.modEngine_mgmt ..)).trans (each_keep Common.mgmt _ _ _ (fun _ _ => Common.modComb_mgmt ..))

@[simp] theorem Common.pwrEvent_mgmt (c : Common) (cause : Nat) : (c.pwrEvent cause).mgmt = c.mgmt := Common.event_mgmt ..

@[simp] theorem Common.alertOn_mgmt (c : Common) : c.alertOn.mgmt = c.mgmt := by
  unfold Common.alertOn
  split <;> simp

@[simp] theorem Common.alertOff_mgmt (c : Common) : c.alertOff.mgmt = c.mgmt := rfl

@[simp] theorem Common.beginWake_mgmt (c : Common) : c.beginWake.mgmt = c.mgmt := by
  unfold Common.beginWake
  simp only
  split <;> simp

theorem Common.guyLand_outbox (c : Common) (lineB up : Bool) : (c.guyLand lineB up).mgmt.outbox = c.mgmt.outbox := by
  unfold Common.guyLand Common.guyChange
  split
  · cases lineB <;> rfl
  · simp only
    cases lineB <;> split_ifs <;> simp

theorem Common.afterReset_outbox (c : Common) (vaux : Bool) : (c.afterReset vaux).mgmt.outbox = [] := rfl

theorem SwState.restart_mgmt (s : SwState) : s.restart.c.mgmt = s.c.mgmt := by
  unfold SwState.restart
  split
  · rfl
  · exact Common.beginWake_mgmt _

theorem EpState.restart_mgmt (s : EpState) : s.restart.c.mgmt = s.c.mgmt := by
  unfold EpState.restart
  split
  · rfl
  · exact (Common.beginWake_mgmt _).trans (each_keep Common.mgmt _ _ _ (fun _ _ => Common.wrF_mgmt ..))

theorem SwState.alertLand_mgmt (s : SwState) (on : Bool) : (s.alertLand on).c.mgmt = s.c.mgmt := by
  unfold SwState.alertLand
  cases on <;> split <;> simp

theorem SwState.resetUnlessDead_outbox (s : SwState) (h : s.c.mgmt.outbox = []) : (if s.c.biv.dead then s else s.afterReset true).c.mgmt.outbox = [] := by
  split
  · exact h
  · rfl

theorem EpState.resetUnlessDead_outbox (s : EpState) (h : s.c.mgmt.outbox = []) : (if s.c.biv.dead then s else s.afterReset true).c.mgmt.outbox = [] := by
  split
  · exact h
  · rfl

/-- The commands that reach a held part keep the invariant. -/
theorem exec_reachesHeld_inv (c : Instr) (s t : State) (r : reachesHeld c = true) (k : s.inv = true) (ho : exec c s = .next t) : t.inv = true := by
  cases c
  case laserEnLow part => exact through_inv _ t part _ (through_part part _ _) (s.inv_laserLevel part false k) ho
  case laserEnHigh part => exact through_inv _ t part _ (through_part part _ _) (s.inv_laserLevel part true k) ho
  case guyLinkChange =>
    rw [exec_guyLinkChange, execGuyLinkChange] at ho
    exact onRaw_inv _ s t _ _ k (Common.guyLand_outbox _ _ _).trans (Common.guyLand_outbox _ _ _).trans ho
  case powerAlertAssert =>
    rw [exec_powerAlertAssert, execPowerAlertAssert] at ho
    exact onRaw_inv _ s t _ _ k (congrArg Mgmt.outbox (s.sw.alertLand_mgmt true)).trans id ho
  case powerAlertDeassert =>
    rw [exec_powerAlertDeassert, execPowerAlertDeassert] at ho
    exact onRaw_inv _ s t _ _ k (congrArg Mgmt.outbox (s.sw.alertLand_mgmt false)).trans id ho
  case resetAssert =>
    rw [exec_resetAssert, execResetAssert] at ho
    exact onRaw_inv _ s t _ _ k s.sw.resetUnlessDead_outbox s.ep.resetUnlessDead_outbox ho
  case resetRelease =>
    rw [exec_resetRelease, execResetRelease] at ho
    exact onRaw_inv _ s t _ _ k (congrArg Mgmt.outbox s.sw.restart_mgmt).trans (congrArg Mgmt.outbox s.ep.restart_mgmt).trans ho
  case suddenPowerLoss =>
    rw [exec_suddenPowerLoss, execSuddenPowerLoss] at ho
    exact onRaw_inv _ s t _ _ k (fun _ => Common.afterReset_outbox _ _) (fun _ => Common.afterReset_outbox _ _) ho
  all_goals exact absurd r Bool.false_ne_true

/-- Every command that answers a next state keeps the invariant: through its part, or reaching it held. -/
theorem exec_inv (c : Instr) (s t : State) (k : s.inv = true) (ho : exec c s = .next t) : t.inv = true := by
  cases u : unitsExist c with
  | false =>
    rw [exec_noUnit c s u] at ho
    cases ho
  | true =>
    cases r : reachesHeld c with
    | false => exact through_inv s t _ _ (exec_through c s u r) k ho
    | true => exact exec_reachesHeld_inv c s t r k ho

/-- Settles O7: a step idles or runs one command, and either way no reply comes to wait. -/
theorem everyStepSendsItsReplies : Obligations.EveryStepSendsItsReplies := by
  intro s t k ho
  unfold step at ho
  split at ho
  · cases ho
    exact k
  · rename_i c rest _
    exact exec_inv c { s with pending := rest } t k ho

/-- Settles O6: nothing is listed in any queue of the reset state. -/
theorem resetHoldsNoReply : Obligations.ResetHoldsNoReply := by
  refine ⟨rfl, rfl, ?_, rfl⟩
  have works : State.reset.heldPart .ep = false := rfl
  have empty : ∀ n, ((State.reset.ep.c.port n).eg.queue 3) = [] := fun _ => rfl
  simp [State.ready, works, Common.reissuesFree, empty, EpState.still]
  decide

/-- Settles O5: with no port lost, no reply and no re-issue waiting, each thing that follows a command leaves its part alone. -/
theorem nothingFollowsInAReadyPart : Obligations.NothingFollowsInAReadyPart := by
  intro s part c ready ports replies ep
  cases part with
  | sw => 
    exact congrArg (fun w => ({ s with sw := w } : State)) (SwState.finish_eq { s.sw with c := c } s.sw ports replies)
  | ep =>
    obtain ⟨markers, reissues⟩ := ep rfl
    simp only [State.ready, Bool.and_eq_true] at ready
    obtain ⟨-, -, still⟩ := ready
    have same : c.refollow s.ep.c = c := if_pos markers
    have fin := EpState.finish_eq { s.ep with c := c } s.ep ports replies (by rw [EpState.still_c]; exact still) reissues
    simp only [State.after, State.afterEp, same, fin, State.modPart]

end Sys2Proof.Machine
end

section
/-!
PROOF. Link ports, operation by operation: what each leaves of its own port, that it leaves every other port, and what it leaves of registers.
The statements on ports (spec/12, spec/13) are then read off with these rules.
-/

namespace Sys2Proof.Machine

/-- A command on a port that the part has. -/
theorem State.onPort_has (s : State) (part : Part) (n : Nat) (f : Common → Common) (h : s.hasPort part n = true) :
    onPort part n s f = .next (s.after part (f (s.common part))) :=
  let ⟨works, there⟩ := (s.hasPort_iff part n).mp h
  onPort_after s part n f works there

section
variable (c : Common) (n m a : Nat)

/-! ### Registers and the pick behind a change of a port -/

@[simp] theorem Common.rd_modPort (f : Port → Port) : (c.modPort n f).rd a = c.rd a := by cases c; rfl
@[simp] theorem Common.rd_modTrain (f : LinkTrain → LinkTrain) : (c.modTrain n f).rd a = c.rd a := by cases c; rfl
@[simp] theorem Common.rd_modFlit (f : FlitLayer → FlitLayer) : (c.modFlit n f).rd a = c.rd a := by cases c; rfl
@[simp] theorem Common.rd_modOptics (f : PortOptics → PortOptics) : (c.modOptics n f).rd a = c.rd a := by cases c; rfl
@[simp] theorem Common.pick_modPort (f : Port → Port) : (c.modPort n f).pick = c.pick := by cases c; rfl
@[simp] theorem Common.pick_modTrain (f : LinkTrain → LinkTrain) : (c.modTrain n f).pick = c.pick := by cases c; rfl
@[simp] theorem Common.pick_event (low : Nat) : (c.event a low).pick = c.pick := by simp [Common.pick]
@[simp] theorem Common.pick_linkEvent (cause stage : Nat) : (c.linkEvent m cause stage).pick = c.pick := c.pick_event _ _

/-! ### Other ports -/

section
variable {n m} (h : m ≠ n)
include h

@[simp] theorem Common.port_modTrain_other (f : LinkTrain → LinkTrain) : (c.modTrain n f).port m = c.port m := c.port_modPort_other n m _ h
@[simp] theorem Common.port_modFlit_other (f : FlitLayer → FlitLayer) : (c.modFlit n f).port m = c.port m := c.port_modPort_other n m _ h
@[simp] theorem Common.port_modOptics_other (f : PortOptics → PortOptics) : (c.modOptics n f).port m = c.port m := c.port_modPort_other n m _ h
@[simp] theorem Common.port_sendLane_other (k : LaneSet) : (c.sendLane n k).port m = c.port m := c.port_modPort_other n m _ h
@[simp] theorem Common.port_sendCtrl_other (k : LinkMsg) : (c.sendCtrl n k).port m = c.port m := c.port_modPort_other n m _ h
@[simp] theorem Common.port_leaveRaised_other : (c.leaveRaised n).port m = c.port m := c.port_modPort_other n m _ h
@[simp] theorem Common.port_completeStrike_other : (c.completeStrike n).port m = c.port m := c.port_modPort_other n m _ h
@[simp] theorem Common.port_enterStage12_other : (c.enterStage12 n).port m = c.port m := c.port_modPort_other n m _ h

@[simp] theorem Common.port_strikeRun_other (cause : Nat) (cold : Bool) : (c.strikeRun n cause cold).port m = c.port m := by
  simp [Common.strikeRun, h]

@[simp] theorem Common.port_failRaise_other (cause : Nat) : (c.failRaise n cause).port m = c.port m := by
  simp [Common.failRaise, h]

/-- Entering a stage is work on its own port alone. -/
@[simp] theorem Common.port_enterStage_other (k : Nat) : (c.enterStage n k).port m = c.port m := by
  unfold Common.enterStage
  split <;> simp [h, Common.port_modPort_other]

end

/-! ### The port itself -/

@[simp] theorem Common.port_sendLane_same (k : LaneSet) :
    (c.sendLane n k).port n = { c.port n with fl := (c.port n).fl.addLane (c.port n).t.check.isSome k } := c.port_modPort_same n _

@[simp] theorem Common.port_sendCtrl_same (k : LinkMsg) :
    (c.sendCtrl n k).port n = { c.port n with fl := { (c.port n).fl with ctrlOut := (c.port n).fl.ctrlOut ++ [k] } } := c.port_modPort_same n _

/-- The training state of a port that leaves service (Table 13.13 step 1). -/
def LinkTrain.left (t : LinkTrain) (kept : Bool) (hold : Nat) : LinkTrain :=
  { t with
    st := .struck, stage := 0, resume := false, exchange := none, widthEx := none, check := none, badChans := [], cleanChecks := [],
    drainSent := false, drainRecv := false, doneSent := false, doneRecv := false, drainLater := false, ringsKept := kept, raiseAsked := false, holdUntil := hold }

@[simp] theorem Common.port_leaveRaised_same : (c.leaveRaised n).port n =
    { c.port n with
      t := (c.port n).t.left ((c.port n).ringsLocked && (c.port n).t.st != .raising) (c.pick + c.holdOf n),
      far := { (c.port n).far with admitCode := 0 } } := c.port_modPort_same n _

/-- An orderly strike leaves the port struck, with STRIKE sent and its second step begun. -/
theorem Common.port_strikeRun_same (cause : Nat) (cold : Bool) : (c.strikeRun n cause cold).port n =
    { c.port n with
      t := { (c.port n).t.left ((c.port n).ringsLocked && (c.port n).t.st != .raising) (c.pick + c.holdOf n) with
        strike := some { step := 2, cause := cause, cold := cold, startPick := c.pick } },
      far := { (c.port n).far with admitCode := 0 },
      fl := (c.port n).fl.addLane false { cmd := 0x09, arg0 := cause } } := by
  simp [Common.strikeRun, LinkTrain.left]

/-- What a failed raise leaves of its port (R538). -/
theorem Common.port_failRaise_same (cause : Nat) : (c.failRaise n cause).port n =
    (let q := ((c.linkEvent n cause (c.port n).t.stage).strikeRun n cause false).port n
     { q with t := { q.t with failedRaises := q.t.failedRaises + 1, needCmd := q.t.needCmd || decide (2 ≤ q.t.failedRaises), warm := false } }) :=
  Common.port_modTrain_same _ n _

@[simp] theorem Common.rd_failRaise (cause : Nat) : (c.failRaise n cause).rd a = (c.linkEvent n cause (c.port n).t.stage).rd a := by cases c; rfl

/-- The training state of a port that enters a stage: stage 1 forgets its roles, stage 3 takes its reference mode. -/
theorem Common.port_enterStage_train (k : Nat) (h1 : k ≠ 1) (h3 : k ≠ 3) :
    ((c.enterStage n k).port n).t = { (c.port n).t with stage := k, ownExit := false, farExit := false } := by
  unfold Common.enterStage
  split <;> simp_all

theorem Common.port_enterStage_st (k : Nat) : ((c.enterStage n k).port n).t.st = (c.port n).t.st := by
  unfold Common.enterStage
  split <;> simp

theorem Common.port_enterStage_stage (k : Nat) : ((c.enterStage n k).port n).t.stage = k := by
  unfold Common.enterStage
  split <;> simp

theorem Common.port_enterStage_lane (k : Nat) (h1 : k ≠ 1) : ((c.enterStage n k).port n).lane = (c.port n).lane := by
  unfold Common.enterStage
  split <;> simp_all

end

end Sys2Proof.Machine
end

section
/-!
PROOF. Training (R528 to R531, R537, R538): what a set tells a port, when a stage ends, and how a raise fails.
-/

namespace Sys2Proof.Machine

/-! ### What a training set tells its port -/

/-- A port that has heard a training set: exit conditions, the far end's proposals, and the channel's polarity or skew. -/
def Port.heard (p : Port) (leading : Bool) (s : TrainingSet) (own : Bool) : Port :=
  { p with
    t := { p.t with
      ownExit := p.t.ownExit || own
      farExit := p.t.farExit || (s.exitMet && s.stage == p.t.stage)
      farOut := if p.t.stage = 4 ∧ s.role = 0x22 ∧ !p.t.farOut.contains s.chan then p.t.farOut ++ [s.chan] else p.t.farOut
      roles := if p.t.stage = 4 ∧ p.t.warm = false ∧ p.t.resume = false ∧ !leading then p.t.roles.set s.chan s.role else p.t.roles }
    lane :=
      if p.t.stage = 4 then Tab.upd p.lane 0 (64 + s.chan) (fun r => setFld r 0 0 (b2n s.inverted))
      else if p.t.stage = 6 then Tab.upd p.lane 0 (64 + s.chan) (fun r => setFld r 15 8 s.skew) else p.lane }

/-- The stages of training sets go on for this port: it raises, or resumes from a pause. -/
def LinkTrain.trains (t : LinkTrain) : Prop := t.st = .raising ∨ (t.st = .paused ∧ t.resume = true)

section
variable (c : Common) (n : Nat) (s : TrainingSet) (own : Bool)

theorem Common.trainingSet_idle (h : ¬(c.port n).t.trains ∨ (c.port n).t.stage < 3 ∨ 6 < (c.port n).t.stage) : c.trainingSet n s own = c := by
  unfold Common.trainingSet
  rcases h with h | h
  · rw [if_pos (by simpa [LinkTrain.trains, imp_iff_not_or] using h)]
  · simp [h]

theorem Common.trainingSet_mode (run : (c.port n).t.st = .raising) (fresh : (c.port n).t.resume = false) (stage : (c.port n).t.stage = 3)
    (differs : s.commonRef ≠ flag (c.rd (pePortA c.part n 0x058)) 0 ∨ s.spread ≠ flag (c.rd (pePortA c.part n 0x058)) 1) :
    c.trainingSet n s own = c.failRaise n causeMode := by
  simp [Common.trainingSet, run, fresh, stage, differs]

theorem Common.trainingSet_heard (run : (c.port n).t.trains) (low : 3 ≤ (c.port n).t.stage) (high : (c.port n).t.stage ≤ 6)
    (agrees : ¬((c.port n).t.stage = 3 ∧ (c.port n).t.resume = false ∧
      (s.commonRef ≠ flag (c.rd (pePortA c.part n 0x058)) 0 ∨ s.spread ≠ flag (c.rd (pePortA c.part n 0x058)) 1))) :
    c.trainingSet n s own = (c.modPort n (fun p => p.heard (c.leading n) s own)).stageDone n := by
  unfold Common.trainingSet
  rw [if_neg (by simpa [LinkTrain.trains, imp_iff_not_or] using run), if_neg (by omega), if_neg agrees]
  rfl

/-! ### The end of a stage -/

theorem Common.stageDone_waits (h : ((c.port n).t.ownExit && (c.port n).t.farExit) = false) : c.stageDone n = c := by
  simp [Common.stageDone, h]

variable (here : (c.port n).t.ownExit = true) (far : (c.port n).t.farExit = true)
include here far

theorem Common.stageDone_resume (back : (c.port n).t.resume = true) : c.stageDone n =
    if (c.port n).t.stage = 6 then c.modTrain n (fun t => { t with stage := 7, ownExit := false, farExit := false })
    else c.enterStage n (nextStage true (c.port n).t.stage) := by
  simp [Common.stageDone, here, far, back]

theorem Common.stageDone_next (fresh : (c.port n).t.resume = false) (h : (c.port n).t.stage = 3 ∨ (c.port n).t.stage = 5 ∨ (c.port n).t.stage = 6) :
    c.stageDone n = c.enterStage n ((c.port n).t.stage + 1) := by
  rcases h with h | h | h <;> simp [Common.stageDone, here, far, fresh, h]

/-- At stage 4 the roles are formed; the raise goes on to stage 5 with at least 8 data lanes. -/
theorem Common.stageDone_roles (fresh : (c.port n).t.resume = false) (h : (c.port n).t.stage = 4) :
    ∃ roles rev, c.stageDone n =
      (let d := c.modTrain n (fun t => { t with roles := roles, laneRev := rev })
       if dataLanes roles < 8 then d.failRaise n causeLanes else d.enterStage n 5) := by
  let roles := if (c.port n).t.warm || !c.leading n then (c.port n).t.roles else formRoles ((c.port n).ownOut ++ (c.port n).t.farOut) (c.port n).t.commonRef
  refine ⟨roles, laneReversed roles, ?_⟩
  simp [Common.stageDone, here, far, fresh, h, roles]

end

/-! ### The statement -/

theorem flag_setFld_b2n (r : Reg) (b : Bool) : flag (setFld r 0 0 (b2n b)) 0 = b := by
  cases b
  · exact flag_setFld_zero r
  · exact flag_setFld_one r

theorem Common.stageTimeout_fails (c : Common) (n : Nat) (run : (c.port n).t.trains) (low : 1 ≤ (c.port n).t.stage) (high : (c.port n).t.stage ≤ 11) :
    c.stageTimeout n = c.failRaise n causeTimeout := if_pos ⟨run, low, high⟩

theorem Common.stageTimeout_idle (c : Common) (n : Nat) (h : ¬(c.port n).t.trains ∨ (c.port n).t.stage = 0 ∨ 11 < (c.port n).t.stage) : c.stageTimeout n = c := by
  refine if_neg fun ⟨run, low, high⟩ => ?_
  rcases h with h | h | h
  · exact h run
  · omega
  · omega

/-- A raise whose stage 3, 5 or 6 hears a set goes to the next stage once both ends have met their conditions, and waits otherwise. -/
theorem Common.stageDone_heard (c : Common) (n : Nat) (s : TrainingSet) (own : Bool) (run : (c.port n).t.st = .raising) (fresh : (c.port n).t.resume = false)
    (h : (c.port n).t.stage = 3 ∨ (c.port n).t.stage = 5 ∨ (c.port n).t.stage = 6) :
    let here := (c.port n).t.ownExit || own
    let far := (c.port n).t.farExit || (s.exitMet && s.stage == (c.port n).t.stage)
    let d := (c.modPort n (fun p => p.heard (c.leading n) s own)).stageDone n
    (d.port n).t.st = .raising ∧ (∀ m, m ≠ n → d.port m = c.port m) ∧
      (if here && far then (d.port n).t.stage = (c.port n).t.stage + 1 ∧ (d.port n).t.ownExit = false ∧ (d.port n).t.farExit = false
       else (d.port n).t.stage = (c.port n).t.stage ∧ (d.port n).t.ownExit = here ∧ (d.port n).t.farExit = far) := by
  intro here far
  cases e : here && far with
  | false =>
    have waits := Common.stageDone_waits (c.modPort n (fun p => p.heard (c.leading n) s own)) n (by simpa [Port.heard, here, far] using e)
    simp only [waits]
    refine ⟨by simpa [Port.heard] using run, fun m hm => c.port_modPort_other n m _ hm, ?_⟩
    simp [Port.heard, here, far]
  | true =>
    obtain ⟨eh, ef⟩ := (Bool.and_eq_true _ _).mp e
    have goes := Common.stageDone_next (c.modPort n (fun p => p.heard (c.leading n) s own)) n (by simpa [Port.heard, here, far] using eh) (by simpa [Port.heard, here, far] using ef)
      (by simpa [Port.heard] using fresh) (by simpa [Port.heard] using h)
    simp only [goes]
    refine ⟨by simpa [Common.port_enterStage_st, Port.heard] using run, fun m hm => by simp [hm, Common.port_modPort_other], ?_⟩
    rw [if_pos trivial, Common.port_enterStage_train _ _ _ (by simp [Port.heard]; omega) (by simp [Port.heard]; omega)]
    simp [Port.heard]

/-- Stage 4 records the channel's polarity, and ends once both ends have met their conditions: with the roles formed, at stage 5 or in a failed raise. -/
theorem Common.stageDone_heard_roles (c : Common) (n : Nat) (s : TrainingSet) (own : Bool) (run : (c.port n).t.st = .raising) (fresh : (c.port n).t.resume = false)
    (h : (c.port n).t.stage = 4) :
    let here := (c.port n).t.ownExit || own
    let far := (c.port n).t.farExit || (s.exitMet && s.stage == 4)
    let d := (c.modPort n (fun p => p.heard (c.leading n) s own)).stageDone n
    (∀ m, m ≠ n → d.port m = c.port m) ∧ flag (Tab.get (d.port n).lane 0 (64 + s.chan)) 0 = s.inverted ∧
      (if here && far then (if dataLanes (d.port n).t.roles < 8 then (d.port n).t.st = .struck else (d.port n).t.st = .raising ∧ (d.port n).t.stage = 5)
       else (d.port n).t.st = .raising ∧ (d.port n).t.stage = 4 ∧ (d.port n).t.ownExit = here ∧ (d.port n).t.farExit = far) := by
  intro here far
  cases e : here && far with
  | false =>
    have waits := Common.stageDone_waits (c.modPort n (fun p => p.heard (c.leading n) s own)) n (by simpa [Port.heard, h, here, far] using e)
    simp only [waits]
    refine ⟨fun m hm => c.port_modPort_other n m _ hm, ?_, ?_⟩
    · simp [Port.heard, h, flag_setFld_b2n]
    · simp [Port.heard, here, far, h, run]
  | true =>
    obtain ⟨eh, ef⟩ := (Bool.and_eq_true _ _).mp e
    obtain ⟨roles, rev, goes⟩ := Common.stageDone_roles (c.modPort n (fun p => p.heard (c.leading n) s own)) n (by simpa [Port.heard, here, far] using eh)
      (by simpa [Port.heard, h, here, far] using ef) (by simpa [Port.heard] using fresh) (by simpa [Port.heard] using h)
    simp only [goes, if_true]
    split
    · rename_i few
      have kept : ((((c.modPort n (fun p => p.heard (c.leading n) s own)).modTrain n (fun t => { t with roles := roles, laneRev := rev })).failRaise n causeLanes).port n).t.roles = roles := by
        simp [Common.port_failRaise_same, Common.port_strikeRun_same, LinkTrain.left]
      refine ⟨fun m hm => by simp [hm, Common.port_modPort_other], ?_, ?_⟩
      · simp [Common.port_failRaise_same, Common.port_strikeRun_same, Port.heard, h, flag_setFld_b2n]
      · rw [kept, if_pos few]
        simp [Common.port_failRaise_same, Common.port_strikeRun_same, LinkTrain.left]
    · rename_i many
      refine ⟨fun m hm => by simp [hm, Common.port_modPort_other], ?_, ?_⟩
      · simp [Common.port_enterStage_lane, Port.heard, h, flag_setFld_b2n]
      · rw [Common.port_enterStage_train _ _ _ (by decide) (by decide)]
        simpa [many, Port.heard] using run

/-- A warm re-raise that hears the last set of its stage goes to the next one of 3, 5, 6 and 7. -/
theorem Common.stageDone_heard_resume (c : Common) (n : Nat) (s : TrainingSet) (run : (c.port n).t.st = .paused) (back : (c.port n).t.resume = true)
    (met : s.exitMet = true) (mine : s.stage = (c.port n).t.stage) (h : (c.port n).t.stage = 3 ∨ (c.port n).t.stage = 5 ∨ (c.port n).t.stage = 6) :
    let d := (c.modPort n (fun p => p.heard (c.leading n) s true)).stageDone n
    (d.port n).t.st = .paused ∧ (d.port n).t.stage = (if (c.port n).t.stage = 3 then 5 else (c.port n).t.stage + 1) ∧ ∀ m, m ≠ n → d.port m = c.port m := by
  have goes := Common.stageDone_resume (c.modPort n (fun p => p.heard (c.leading n) s true)) n (by simp [Port.heard]) (by simp [Port.heard, met, mine])
    (by simpa [Port.heard] using back)
  simp only [goes]
  rcases h with h | h | h <;>
    simp +contextual [Port.heard, h, run, nextStage, Common.port_enterStage_st, Common.port_enterStage_stage, Common.port_modPort_other]

/-- CAPS at stage 7 settles it where the far end has been heard and the own message is acknowledged. -/
theorem Common.recvCaps_settles (c : Common) (n : Nat) (k : Caps) (run : (c.port n).t.st = .raising) (stage : (c.port n).t.stage = 7) (v : k.lverMax ≠ 0) :
    let d := c.modPort n (fun p => { p with far := { p.far with caps := some k }, t := { p.t with version := min 1 k.lverMax } })
    c.recvCaps n k = if (c.port n).ctrlAcked then d.enterStage n 8 else d := by
  have one : ¬ min 1 k.lverMax = 0 := by omega
  have acked : ∀ (t : LinkTrain) (f : FarEnd), ({ c.port n with t := t, far := f } : Port).ctrlAcked = (c.port n).ctrlAcked := fun _ _ => rfl
  simp only [Common.recvCaps, run, stage, and_self, if_true, one, if_false, Common.ctrlSettled, Common.port_modPort_same, acked]
  cases (c.port n).ctrlAcked <;> simp

/-- Settles O20: what a failed raise leaves, and each command by the stage at which it comes. -/
theorem stagesGoOnOrFail : Obligations.StagesGoOnOrFail := by
  refine ⟨fun c n cause => ?_, fun s part port has => ?_⟩
  · refine ⟨?_, ?_, ?_, ?_, rfl, fun m hm => c.port_failRaise_other hm cause⟩ <;> simp [Common.port_failRaise_same, Common.port_strikeRun_same, LinkTrain.left]
  simp only [exec_trainingSet, exec_stageTimeout, exec_caps, execTrainingSet, execStageTimeout, execCaps, s.onPort_has part port _ has]
  generalize s.common part = c
  refine ⟨fun h t own => ?_, fun live run fresh => ⟨fun t own stage differs => ?_, fun t own h => ?_, fun t own h => ?_⟩, fun live run back t met mine h => ?_,
    fun live run low high => ?_, fun h => ?_, fun k => ⟨fun h => ?_, fun run stage v => ?_, fun run stage v => ?_⟩⟩
  · rcases h with h | h
    · simp only [h, if_true]
    · rw [Common.trainingSet_idle _ _ _ _ h, ite_self]
  · rw [if_neg (by simp [live]), Common.trainingSet_mode _ _ _ _ run fresh stage differs]
  · refine ⟨_, by rw [if_neg (by simp [live])], ?_⟩
    have stage : (c.port port).t.stage = 3 ∨ (c.port port).t.stage = 5 ∨ (c.port port).t.stage = 6 := h.imp_left And.left
    rw [Common.trainingSet_heard _ _ _ _ (.inl run) (by omega) (by omega)
      (fun ⟨three, _, differs⟩ => by
        rcases h with ⟨_, same, alike⟩ | h
        · exact differs.elim (· same) (· alike)
        · omega)]
    exact Common.stageDone_heard _ _ _ _ run fresh stage
  · refine ⟨_, by rw [if_neg (by simp [live])], ?_⟩
    rw [Common.trainingSet_heard _ _ _ _ (.inl run) (by omega) (by omega) (fun ⟨three, _⟩ => by omega)]
    exact Common.stageDone_heard_roles _ _ _ _ run fresh h
  · refine ⟨_, by rw [if_neg (by simp [live])], ?_⟩
    rw [Common.trainingSet_heard _ _ _ _ (.inr ⟨run, back⟩) (by omega) (by omega) (fun ⟨_, fresh, _⟩ => by simp_all)]
    exact Common.stageDone_heard_resume _ _ _ run back met mine h
  · rw [if_neg (by simp [live]), Common.stageTimeout_fails _ _ run low high]
  · rcases h with h | h
    · simp only [h, if_true]
    · rw [Common.stageTimeout_idle _ _ h, ite_self]
  · rw [Common.recvCaps, if_neg h]
  · rw [Common.recvCaps, if_pos ⟨run, stage⟩, if_pos (by simp [v])]
  · rw [Common.recvCaps_settles _ _ _ run stage v]

end Sys2Proof.Machine
end

section
/-!
PROOF. Drains and pauses (R489, R544, R545): when a drained port answers, and what a pause leaves.
-/

namespace Sys2Proof.Machine

/-! ### Events of a port and changes of a port -/

/-- An event is recorded the same behind a change of a port. -/
@[simp] theorem Common.linkEvent_modPort (c : Common) (n m cause stage : Nat) (f : Port → Port) :
    (c.modPort n f).linkEvent m cause stage = (c.linkEvent m cause stage).modPort n f := by cases c; rfl

@[simp] theorem Common.linkEvent_modTrain (c : Common) (n m cause stage : Nat) (f : LinkTrain → LinkTrain) :
    (c.modTrain n f).linkEvent m cause stage = (c.linkEvent m cause stage).modTrain n f := by cases c; rfl

@[simp] theorem Common.linkEvent_sendLane (c : Common) (n m cause stage : Nat) (k : LaneSet) :
    (c.sendLane n k).linkEvent m cause stage = (c.linkEvent m cause stage).sendLane n k := by cases c; rfl

@[simp] theorem Common.rd_sendLane (c : Common) (n a : Nat) (k : LaneSet) : (c.sendLane n k).rd a = c.rd a := by cases c; rfl

@[simp] theorem Common.pick_sendLane (c : Common) (n : Nat) (k : LaneSet) : (c.sendLane n k).pick = c.pick := by cases c; rfl

@[simp] theorem Common.sendLane_part (c : Common) (n : Nat) (k : LaneSet) : (c.sendLane n k).part = c.part := rfl

/-! ### Pauses -/

/-- A port that pauses at a pick: its drain is over (R545). -/
def Port.pausedBy (p : Port) (pick : Nat) : Port :=
  { p with
    t := { p.t with
      st := .paused, pausedAt := pick, resume := false, stage := 0, drainSent := false, drainRecv := false, doneSent := false, doneRecv := false, drainLater := false }
    op := { p.op with ostate := .paused } }

section
variable (c : Common) (n : Nat)

theorem Common.pausePort_raised (h : (c.port n).t.st = .raised) : c.pausePort n = (c.linkEvent n 0x44 0).modPort n (fun p => p.pausedBy c.pick) := if_pos h

theorem Common.pausePort_other (h : (c.port n).t.st ≠ .raised) : c.pausePort n = c := if_neg h

/-- Pausing a port is work on that port alone. -/
@[simp] theorem Common.port_pausePort_other (m : Nat) (h : m ≠ n) : (c.pausePort n).port m = c.port m := by
  unfold Common.pausePort
  split <;> simp [Common.port_modPort_other, h]

/-- A port has paused, and its pause stands in its event register. -/
def Common.pauses (d : Common) : Prop :=
  (d.port n).t.st = .paused ∧ (d.port n).op.ostate = .paused ∧ (d.port n).t.drainSent = false ∧ (d.port n).t.drainRecv = false ∧ (d.port n).t.doneSent = false ∧
    (d.port n).t.doneRecv = false ∧ (d.port n).t.pausedAt = c.pick ∧ d.rd (linkA c.part n 0x008) = (c.linkEvent n 0x44 0).rd (linkA c.part n 0x008) ∧ ∀ m, m ≠ n → d.port m = c.port m

/-- A port that is changed in service and then pauses has paused as it would have at once. -/
theorem Common.pausePort_pauses (b : Common) (raised : (b.port n).t.st = .raised) (pick : b.pick = c.pick) (reg : (b.linkEvent n 0x44 0).rd (linkA c.part n 0x008) = (c.linkEvent n 0x44 0).rd (linkA c.part n 0x008))
    (others : ∀ m, m ≠ n → b.port m = c.port m) : c.pauses n (b.pausePort n) := by
  refine ⟨?_, ?_, ?_, ?_, ?_, ?_, ?_, ?_, fun m hm => (b.port_pausePort_other n m hm).trans (others m hm)⟩
  case refine_8 => rw [b.pausePort_raised n raised, Common.rd_modPort, reg]
  all_goals simp [b.pausePort_raised n raised, Port.pausedBy, pick]

/-! ### Drains -/

/-- A drain runs on the port: asked for by one of its ends (R545). -/
def LinkTrain.drains (t : LinkTrain) : Prop := t.drainSent = true ∨ t.drainRecv = true

/-- A drained port answers once, with nothing held for replay. -/
theorem Common.drainStep_answers (h : (c.port n).t.drains) (first : (c.port n).t.doneSent = false) (empty : (c.port n).fl.replay = []) :
    c.drainStep n = (c.modTrain n (fun t => { t with doneSent := true })).sendLane n { cmd := 0x08 } := by
  unfold Common.drainStep
  rw [if_pos ⟨by simpa [LinkTrain.drains] using h, first, empty⟩]

theorem Common.drainStep_waits (h : (c.port n).t.doneSent = true ∨ (c.port n).fl.replay ≠ []) : c.drainStep n = c := by
  refine if_neg fun ⟨_, first, empty⟩ => ?_
  rcases h with h | h
  · simp [first] at h
  · exact h empty

/-- While flits are held for replay, a drain goes no further. -/
theorem Common.drainSettled_waits (first : (c.port n).t.doneSent = false) (held : (c.port n).fl.replay ≠ []) : c.drainSettled n = c := by
  simp [Common.drainSettled, c.drainStep_waits n (.inr held), first]

/-- A port that has answered, or answers now, pauses if the far end has answered too. -/
theorem Common.drainSettled_pauses (raised : (c.port n).t.st = .raised) (h : (c.port n).t.drains) (far : (c.port n).t.doneRecv = true)
    (own : (c.port n).t.doneSent = true ∨ (c.port n).fl.replay = []) : c.pauses n (c.drainSettled n) := by
  unfold Common.drainSettled
  cases first : (c.port n).t.doneSent with
  | true =>
    simp only [c.drainStep_waits n (.inl first), first, far, Bool.and_self, if_true]
    exact c.pausePort_pauses n c raised rfl rfl (fun _ _ => rfl)
  | false =>
    have empty := own.resolve_left (by simp [first])
    simp only [c.drainStep_answers n h first empty]
    rw [if_pos (by simpa using far)]
    exact c.pausePort_pauses n _ (by simpa using raised) (by simp) (by simp) (fun m hm => by simp [hm])

/-- A port that answers before the far end has, goes on waiting for it. -/
theorem Common.drainSettled_answers (h : (c.port n).t.drains) (first : (c.port n).t.doneSent = false) (empty : (c.port n).fl.replay = []) (far : (c.port n).t.doneRecv = false) :
    c.drainSettled n = (c.modTrain n (fun t => { t with doneSent := true })).sendLane n { cmd := 0x08 } := by
  unfold Common.drainSettled
  simp only [c.drainStep_answers n h first empty]
  rw [if_neg (by simpa using far)]

/-- A port that was changed in service before has paused as one that was not. -/
theorem Common.pauses_modTrain (f : LinkTrain → LinkTrain) (d : Common) (h : (c.modTrain n f).pauses n d) : c.pauses n d := by
  obtain ⟨h1, h2, h3, h4, h5, h6, h7, h8, h9⟩ := h
  exact ⟨h1, h2, h3, h4, h5, h6, by simpa using h7, by simpa using h8, fun m hm => (h9 m hm).trans (c.port_modTrain_other hm f)⟩

/-- A drain request that a raised port has not answered yet waits for the pick of an exchange, or is noted. -/
theorem Common.recvDrain_raised (first : (c.port n).t.doneSent = false) (raised : (c.port n).t.st = .raised) : c.recvDrain n =
    if (c.port n).t.exchanges ≠ [] then c.modTrain n (fun t => { t with drainLater := true }) else (c.modTrain n (fun t => { t with drainRecv := true })).drainSettled n := by
  unfold Common.recvDrain
  rw [if_neg (by simp [first, raised]), if_neg (not_not.mpr raised)]

theorem Common.recvDrainDone_drains (raised : (c.port n).t.st = .raised) (h : (c.port n).t.drains) :
    c.recvDrainDone n = (c.modTrain n (fun t => { t with doneRecv := true })).drainSettled n := if_pos ⟨raised, h⟩

end

/-- Settles O23: a drain that comes, and a far end that has drained, are settled as said above. -/
theorem drainedPortsPause : Obligations.DrainedPortsPause := by
  intro s part port has
  simp only [exec_drain, exec_drainDone, execDrain, execDrainDone, s.onPort_has part port _ has]
  generalize s.common part = c
  refine ⟨fun h => ?_, fun first out idle => ?_, fun first raised => ⟨fun busy => ?_, fun free held => ?_, fun free empty far => ?_, fun free empty far => ?_⟩,
    fun raised drains => ⟨fun own => ⟨_, rfl, ?_⟩, fun first held => ?_⟩, fun h => ?_⟩
  · rw [Common.recvDrain, if_pos h]
  · rw [Common.recvDrain, if_neg (not_or.mpr ⟨by simp [first], out⟩), if_pos idle]
  · rw [c.recvDrain_raised port first raised, if_pos busy]
  · rw [c.recvDrain_raised port first raised, if_neg (not_not.mpr free), Common.drainSettled_waits _ _ (by simpa using first) (by simpa using held)]
  · rw [c.recvDrain_raised port first raised, if_neg (not_not.mpr free),
      Common.drainSettled_answers _ _ (by simp [LinkTrain.drains]) (by simpa using first) (by simpa using empty) (by simpa using far)]
    simp [Common.modTrain]
  · refine ⟨_, by rw [c.recvDrain_raised port first raised, if_neg (not_not.mpr free)], ?_⟩
    exact c.pauses_modTrain port _ _ (Common.drainSettled_pauses _ _ (by simpa using raised) (by simp [LinkTrain.drains]) (by simpa using far) (.inr (by simpa using empty)))
  · rw [c.recvDrainDone_drains port raised drains]
    exact c.pauses_modTrain port _ _ (Common.drainSettled_pauses _ _ (by simpa using raised) (by simpa [LinkTrain.drains] using drains) (by simp) (by simpa using own))
  · rw [c.recvDrainDone_drains port raised drains, Common.drainSettled_waits _ _ (by simpa using first) (by simpa using held)]
  · rw [Common.recvDrainDone, if_neg (by simpa using h)]

end Sys2Proof.Machine
end

section
/-!
PROOF. Strikes (R546 to R549, Table 13.13): what each step leaves of its port, and which command takes which step.
-/

namespace Sys2Proof.Machine

section
variable (c : Common) (n : Nat)

@[simp] theorem Common.now_modPort (f : Port → Port) : (c.modPort n f).now = c.now := by cases c; rfl
@[simp] theorem Common.rd_leaveRaised (a : Nat) : (c.leaveRaised n).rd a = c.rd a := by cases c; rfl
@[simp] theorem Common.rd_completeStrike (a : Nat) : (c.completeStrike n).rd a = c.rd a := by cases c; rfl
@[simp] theorem Common.now_completeStrike : (c.completeStrike n).now = c.now := by cases c; rfl
@[simp] theorem Common.rd_strikeRun (a cause : Nat) (cold : Bool) : (c.strikeRun n cause cold).rd a = c.rd a := by cases c; rfl

/-- What a completed strike leaves of its port: flits and credits are gone, and a cold strike shuts out light. -/
theorem Common.port_completeStrike_same : (c.completeStrike n).port n =
    (let cold := ((c.port n).t.strike.map (·.cold)).getD false
     { c.port n with
       t := { (c.port n).t with strike := none, ringsKept := (c.port n).t.ringsKept && !cold }
       fl := (c.port n).fl.cleared
       cred := []
       mark := {}
       op := if cold then { (c.port n).op with shutter := false, ostate := .probe } else (c.port n).op }) := c.port_modPort_same n _

/-- Step 1 of a strike (Table 13.13). -/
theorem Common.leaveRaised_leaves : let q := (c.leaveRaised n).port n
    q.t.st = .struck ∧ q.t.stage = 0 ∧ q.t.exchanges = [] ∧ q.t.check = none ∧ q.t.drainSent = false ∧ q.t.drainRecv = false ∧
      q.t.holdUntil = c.pick + c.holdOf n ∧ 128 ≤ c.holdOf n ∧ q.fl = (c.port n).fl := by
  simp [LinkTrain.left, LinkTrain.exchanges, Common.holdOf]

/-- Step 4 of a strike (R548). -/
theorem Common.completeStrike_ends : let q := (c.completeStrike n).port n
    q.t.strike = none ∧ q.fl.replay = [] ∧ q.fl.txNext = 0 ∧ q.cred = [] ∧ q.fl.laneOut = (c.port n).fl.laneOut ∧
      (∀ k, (c.port n).t.strike = some k → k.cold = true → q.op.shutter = false ∧ q.op.ostate = .probe ∧ q.t.ringsKept = false) := by
  simp only [c.port_completeStrike_same n]
  refine ⟨trivial, rfl, rfl, trivial, rfl, fun k run cold => ?_⟩
  simp [run, cold]

/-! ### A strike settles -/

theorem Common.strikeSettled_none (h : (c.port n).t.strike = none) : c.strikeSettled n = c := by
  simp [Common.strikeSettled, h]

theorem Common.strikeSettled_some (k : StrikeRun) (h : (c.port n).t.strike = some k) :
    c.strikeSettled n = if k.step = 3 ∧ (c.port n).fl.replay = [] then c.completeStrike n else c := by
  simp [Common.strikeSettled, h]

@[simp] theorem Common.port_strikeSettled_other (m : Nat) (hm : m ≠ n) : (c.strikeSettled n).port m = c.port m := by
  cases h : (c.port n).t.strike with
  | none => rw [c.strikeSettled_none n h]
  | some k =>
    rw [c.strikeSettled_some n k h]
    split <;> simp [hm]

@[simp] theorem Common.rd_strikeSettled (a : Nat) : (c.strikeSettled n).rd a = c.rd a := by
  cases h : (c.port n).t.strike with
  | none => rw [c.strikeSettled_none n h]
  | some k =>
    rw [c.strikeSettled_some n k h]
    split <;> simp

/-! ### STRIKE and STRIKE_DONE -/

@[simp] theorem FlitLayer.addLane_replay (f : FlitLayer) (checking : Bool) (k : LaneSet) : (f.addLane checking k).replay = f.replay := by
  unfold FlitLayer.addLane
  split
  · rfl
  · split <;> rfl

/-- A port that has answered the far end's strike, before its replay buffer is looked at. -/
def Common.struckFar : Common :=
  (((c.linkEvent n causeFar (c.port n).t.stage).leaveRaised n).modTrain n (fun t => { t with strike := some { step := 3, cause := causeFar, startPick := c.pick } })).sendLane n { cmd := 0x0A }

theorem Common.port_struckFar_same : (c.struckFar n).port n =
    { c.port n with
      t := { (c.port n).t.left ((c.port n).ringsLocked && (c.port n).t.st != .raising) (c.pick + (c.linkEvent n causeFar (c.port n).t.stage).holdOf n) with
        strike := some { step := 3, cause := causeFar, startPick := c.pick } }
      far := { (c.port n).far with admitCode := 0 }
      fl := (c.port n).fl.addLane false { cmd := 0x0A } } := by
  simp [Common.struckFar, LinkTrain.left]

theorem Common.port_struckFar_other (m : Nat) (hm : m ≠ n) : (c.struckFar n).port m = c.port m := by simp [Common.struckFar, hm]

theorem Common.rd_struckFar (a : Nat) : (c.struckFar n).rd a = (c.linkEvent n causeFar (c.port n).t.stage).rd a := by simp [Common.struckFar]

theorem Common.recvStrike_struck (h : (c.port n).t.st = .struck) : c.recvStrike n = c.sendLane n { cmd := 0x0A } := if_pos h

/-- A port in service that the far end strikes answers, and is done at once with nothing held for replay. -/
theorem Common.recvStrike_serving (h : (c.port n).t.st ≠ .struck) : let d := c.recvStrike n
    (d.port n).t.st = .struck ∧ (d.port n).fl.laneOut = ((c.port n).fl.addLane false { cmd := 0x0A }).laneOut ∧
      (d.port n).t.strike = (if (c.port n).fl.replay = [] then none else some { step := 3, cause := causeFar, startPick := c.pick }) ∧
      (d.port n).fl.replay = (c.port n).fl.replay ∧ d.rd (linkA c.part n 0x008) = (c.linkEvent n causeFar (c.port n).t.stage).rd (linkA c.part n 0x008) ∧
      ∀ m, m ≠ n → d.port m = c.port m := by
  have settles : c.recvStrike n = (c.struckFar n).strikeSettled n := if_neg h
  have third := (c.struckFar n).strikeSettled_some n _ (by rw [c.port_struckFar_same n])
  simp only [settles]
  refine ⟨?_, ?_, ?_, ?_, by rw [Common.rd_strikeSettled, c.rd_struckFar], fun m hm => by rw [Common.port_strikeSettled_other _ _ _ hm, c.port_struckFar_other n m hm]⟩
  all_goals
    rw [third]
    simp only [c.port_struckFar_same n, FlitLayer.addLane_replay, true_and]
    by_cases empty : (c.port n).fl.replay = []
    · simp [empty, Common.port_completeStrike_same, c.port_struckFar_same n, FlitLayer.cleared, LinkTrain.left]
    · simp [empty, c.port_struckFar_same n, LinkTrain.left]

theorem Common.recvStrikeDone_none (h : (c.port n).t.strike = none) : c.recvStrikeDone n = c := by
  simp [Common.recvStrikeDone, h]

theorem Common.recvStrikeDone_some (k : StrikeRun) (h : (c.port n).t.strike = some k) : c.recvStrikeDone n =
    if k.step = 2 then (c.modTrain n (fun t => { t with strike := some { k with step := 3 } })).strikeSettled n else c := by
  simp [Common.recvStrikeDone, h]

/-- A strike that has reached its third step is over once nothing is held for replay. -/
theorem Common.strikeSettled_third (k : StrikeRun) : let b := c.modTrain n (fun t => { t with strike := some { k with step := 3 } })
    b.strikeSettled n = if (c.port n).fl.replay = [] then b.completeStrike n else b := by
  intro b
  rw [b.strikeSettled_some n { k with step := 3 } (by simp [b])]
  simp [b]

/-! ### Strike commands and time-outs -/

theorem Common.strikeOrderly_serving (cause : Nat) (cold : Bool) (h : (c.port n).t.st ≠ .struck) :
    c.strikeOrderly n cause cold = (c.linkEvent n cause (c.port n).t.stage).strikeRun n cause cold := if_neg h

theorem Common.strikeOrderly_running (cause : Nat) (cold : Bool) (k : StrikeRun) (h : (c.port n).t.st = .struck) (run : (c.port n).t.strike = some k) :
    c.strikeOrderly n cause cold = c.modTrain n (fun t => { t with strike := some { k with cold := k.cold || cold } }) := by
  simp [Common.strikeOrderly, h, run]

theorem Common.strikeOrderly_struck (cause : Nat) (cold : Bool) (h : (c.port n).t.st = .struck) (run : (c.port n).t.strike = none) :
    c.strikeOrderly n cause cold =
      if cold then c.modPort n (fun p => { p with t := { p.t with ringsKept := false }, op := { p.op with shutter := false, ostate := .probe } }) else c := by
  simp [Common.strikeOrderly, h, run]

theorem Common.strikeTimeout_none (h : (c.port n).t.strike = none) : c.strikeTimeout n = c := by
  simp [Common.strikeTimeout, h]

theorem Common.strikeTimeout_some (k : StrikeRun) (h : (c.port n).t.strike = some k) : c.strikeTimeout n =
    if (c.port n).op.shutter then (c.completeStrike n).tellStrike n k.cause else c.completeStrike n := by
  simp [Common.strikeTimeout, h]

theorem Common.tellStrike_eq (cause : Nat) : c.tellStrike n cause = (c.modTrain n (fun t => { t with telling := some (cause, c.now) })).sendLane n { cmd := 0x09, arg0 := cause } := rfl

end

/-- Settles O24: the steps of a strike, and the commands that take them, are said above. -/
theorem struckPortsLeaveService : Obligations.StruckPortsLeaveService := by
  refine ⟨fun c n => ⟨c.leaveRaised_leaves n, c.completeStrike_ends n⟩, fun s part port has => ?_⟩
  simp only [exec_strike, exec_strikeDone, exec_strikeComplete, exec_strikeStepTimeout, exec_linkCmdStrike, execStrike, execStrikeDone, execStrikeComplete,
    execStrikeStepTimeout, execLinkCmdStrike, s.onPort_has part port _ has]
  generalize s.common part = c
  refine ⟨fun serving => ⟨⟨_, rfl, c.recvStrike_serving port serving⟩, fun cold => ⟨_, rfl, ?_⟩⟩, fun struck => ⟨?_, fun k cold run => ?_, fun ended => ⟨?_, ?_⟩⟩,
    fun k run => ⟨fun second held => ?_, fun second empty => ?_, fun h => ?_, fun third empty => ?_, fun h => ?_, fun closed => ?_, fun bright => ?_⟩, fun ended => ⟨?_, ?_, ?_⟩⟩
  · rw [c.strikeOrderly_serving port _ _ serving]
    refine ⟨?_, ?_, ?_, ?_, fun m hm => by simp [hm]⟩ <;> simp [Common.port_strikeRun_same, LinkTrain.left]
  · rw [c.recvStrike_struck port struck]
  · rw [c.strikeOrderly_running port _ _ k struck run]
  · rw [c.strikeOrderly_struck port _ _ struck ended, if_neg Bool.false_ne_true]
  · rw [c.strikeOrderly_struck port _ _ struck ended, if_pos rfl]
  · rw [c.recvStrikeDone_some port k run, if_pos second, c.strikeSettled_third port, if_neg held]
  · rw [c.recvStrikeDone_some port k run, if_pos second, c.strikeSettled_third port, if_pos empty]
  · rw [c.recvStrikeDone_some port k run, if_neg h]
  · rw [c.strikeSettled_some port k run, if_pos ⟨third, empty⟩]
  · rw [c.strikeSettled_some port k run, if_neg h]
  · rw [c.strikeTimeout_some port k run, if_neg (by simp [closed])]
  · rw [c.strikeTimeout_some port k run, if_pos bright, Common.tellStrike_eq, Common.now_completeStrike]
  · rw [c.recvStrikeDone_none port ended]
  · rw [c.strikeSettled_none port ended]
  · rw [c.strikeTimeout_none port ended]

end Sys2Proof.Machine
end

section
/-!
PROOF. What software asks of a port: PORT_LINK_CMD and PORT_EYE_CMD (Tables 13.14 and 13.17).
-/

namespace Sys2Proof.Machine

section
variable (c : Common) (n : Nat)

/-- Only what a change makes of the port as it stands counts. -/
theorem Common.modPort_congr (f g : Port → Port) (h : f (c.port n) = g (c.port n)) : c.modPort n f = c.modPort n g := by
  have h : f (Tab.get c.ports {} n) = g (Tab.get c.ports {} n) := h
  simp only [Common.modPort, Tab.upd, h]

/-! ### Raises and checks -/

theorem Common.askRaise_serving (h : (c.port n).t.st ≠ .struck) : c.askRaise n = c := if_pos h

theorem Common.askRaise_struck (h : (c.port n).t.st = .struck) : c.askRaise n =
    if c.mayRaise n = true ∧ (c.port n).t.holdUntil ≤ c.pick then c.startRaise n else c.modTrain n (fun t => { t with raiseAsked := true }) := by
  unfold Common.askRaise
  rw [if_neg (not_not.mpr h)]
  simp only [Bool.and_eq_true, decide_eq_true_eq]

/-- A port on which a lane check may begin: raised or standby, with none under way (R540). -/
def LinkTrain.checks (t : LinkTrain) : Prop := (t.st = .raised ∨ t.st = .standby) ∧ t.check = none

theorem Common.startCheck_begins (own : Bool) (h : (c.port n).t.checks) : c.startCheck n own =
    (let d := (c.bumpLo (linkA c.part n 0x020)).modTrain n (fun t => { t with check := some c.pick, checkBad := false })
     if own then d.sendLane n { cmd := 0x01 } else d) := by
  obtain ⟨serves, idle⟩ := h
  exact if_neg (by simpa [idle, imp_iff_not_or] using serves)

theorem Common.startCheck_idle (own : Bool) (h : ¬(c.port n).t.checks) : c.startCheck n own = c := by
  refine if_pos ?_
  by_contra out
  obtain ⟨idle, serves⟩ := not_or.mp out
  exact h ⟨by simpa [imp_iff_not_or] using serves, by simpa using idle⟩

/-! ### Eye scans -/

theorem Common.eyeDone_idle (results : List (Nat × Nat × Nat)) (counts : List Nat) (h : c.eyeScanning n = false) : c.eyeDone n results counts = c :=
  if_pos (by simp [h])

/-- The result of a channel as lane table 0x2 keeps it (R551). -/
def eyeWord (pick w h : Nat) : Reg := BitVec.ofNat 32 (pick % 65536 * 65536 + min 63 h * 256 + min 63 w)

/-- A commanded scan ends with the result of a channel that it covered. -/
theorem Common.eyeDone_records (k w h : Nat) (counts : List Nat) (busy : (c.port n).eyeBusy = true) (covered : (c.port n).eyeChan = some k ∨ (c.port n).eyeChan = none) (hk : k < 34) :
    let d := c.eyeDone n [(k, w, h)] counts
    (d.port n).eyeBusy = false ∧ ((c.port n).eyeChan = some k → (d.port n).eyeLast = k) ∧ (d.port n).lane = Tab.put (c.port n).lane (128 + k) (eyeWord c.pick w h) ∧
      (d.port n).t = (c.port n).t ∧ ∀ m, m ≠ n → d.port m = c.port m := by
  have scanning : c.eyeScanning n = true := by simp [Common.eyeScanning, busy]
  rcases covered with chan | chan <;>
    simp +contextual [Common.eyeDone, scanning, busy, chan, hk, eyeWord, Common.port_modPort_other]

end

/-- Settles O25: each command is one operation on its port, said above or here at once. -/
theorem portCommandsAct : Obligations.PortCommandsAct := by
  intro s part port has
  simp only [exec_linkCmdRaise, exec_linkCmdCheck, exec_linkCmdClrLane, exec_eyeStart, exec_eyeStop, exec_eyeScanDone, execLinkCmdRaise, execLinkCmdCheck,
    execLinkCmdClrLane, execEyeStart, execEyeStop, execEyeScanDone, s.onPort_has part port _ has]
  generalize s.common part = c
  refine ⟨fun serving => ?_, fun struck may elapsed => ?_, fun struck waits => ?_, fun serves idle => ?_, fun h => ?_, ⟨_, rfl, ?_, fun e => ?_⟩, fun v start => ?_,
    fun v start => ?_, rfl, fun k w h counts busy covered hk => ⟨_, rfl, ?_⟩, fun results counts idle => ?_⟩
  · rw [Common.cmdRaise, Common.askRaise_serving _ _ (by simpa using serving)]
  · rw [Common.cmdRaise, Common.askRaise_struck _ _ (by simpa using struck), if_pos ⟨may, by simpa using elapsed⟩]
  · rw [Common.cmdRaise, Common.askRaise_struck _ _ (by simpa using struck), if_neg (fun ⟨may, elapsed⟩ => waits ⟨may, by simpa using elapsed⟩)]
    simp [Common.modTrain]
  · rw [c.startCheck_begins port true ⟨serves, idle⟩, if_pos rfl]
  · rw [c.startCheck_idle port true h]
  · exact Common.modPort_congr _ _ _ _ (by simp [Common.clrLane])
  · simp [Common.clrLane]
  · exact congrArg _ (congrArg _ (if_pos start))
  · exact congrArg _ (congrArg _ (if_neg (by simp [start])))
  · obtain ⟨ends, last, lane, train, others⟩ := c.eyeDone_records port k w h counts busy covered hk
    refine ⟨ends, last, ?_, fun j hj => ?_, train, others⟩
    · rw [lane, Tab.find_put_same, eyeWord]
    · rw [lane, Tab.find_put_other _ _ _ _ hj]
  · rw [c.eyeDone_idle port results counts idle]

end Sys2Proof.Machine
end

section
/-!
PROOF. Lane checks and exchanges (R540 to R544): what a bad channel, a request, an answer and a repetition change.
-/

namespace Sys2Proof.Machine

section
variable (c : Common) (n : Nat)

@[simp] theorem Common.port_bumpLo (a : Nat) : (c.bumpLo a).port n = c.port n := Common.port_wr ..
@[simp] theorem Common.port_bumpHi (a : Nat) : (c.bumpHi a).port n = c.port n := Common.port_wr ..
@[simp] theorem Common.pick_bumpLo (a : Nat) : (c.bumpLo a).pick = c.pick := by simp [Common.pick]

/-! ### Requests of the own end -/

/-- A request for a width is work on its own port alone. -/
@[simp] theorem Common.port_strikeOrderly_other (m cause : Nat) (cold : Bool) (h : m ≠ n) : (c.strikeOrderly n cause cold).port m = c.port m := by
  unfold Common.strikeOrderly
  simp only
  split
  · split
    · simp [h]
    · split <;> simp [Common.port_modPort_other _ _ _ _ h]
  · simp [h]

/-- However a strike is asked for, its port is struck. -/
theorem Common.strikeOrderly_strikes (cause : Nat) (cold : Bool) : ((c.strikeOrderly n cause cold).port n).t.st = .struck := by
  by_cases serving : (c.port n).t.st = .struck
  · cases run : (c.port n).t.strike with
    | none =>
      rw [c.strikeOrderly_struck n cause cold serving run]
      cases cold <;> simp [serving]
    | some k =>
      rw [c.strikeOrderly_running n cause cold k serving run]
      simp [serving]
  · rw [c.strikeOrderly_serving n cause cold serving]
    simp [Common.port_strikeRun_same, LinkTrain.left]

@[simp] theorem Common.port_requestWidth_other (m : Nat) (h : m ≠ n) : (c.requestWidth n).port m = c.port m := by
  unfold Common.requestWidth
  simp only
  split
  · simp [h]
  · split <;> simp [h]

/-- A request for a width strikes the port, or changes nothing of its training but the request. -/
theorem Common.requestWidth_train : ((c.requestWidth n).port n).t.st = .struck ∨ ∃ x, ((c.requestWidth n).port n).t = { (c.port n).t with widthEx := x } := by
  unfold Common.requestWidth
  simp only
  split
  · exact .inl (c.strikeOrderly_strikes n _ _)
  · split
    · exact .inr ⟨(c.port n).t.widthEx, rfl⟩
    · exact .inr ⟨_, by simp; rfl⟩

/-- The channel of a request is bad. -/
def LinkTrain.withBad (t : LinkTrain) (ch : Nat) : LinkTrain := { t with badChans := if t.badChans.contains ch then t.badChans else t.badChans ++ [ch] }

@[simp] theorem Common.port_requestMove_other (m ch cause : Nat) (h : m ≠ n) : (c.requestMove n ch cause).port m = c.port m := by
  unfold Common.requestMove
  simp only
  split
  · simp [h]
  · split
    · split <;> simp [h]
    · simp [h]

/-- A request for a move marks its channel, and strikes the port or changes nothing else of its training but the requests. -/
theorem Common.requestMove_train (ch cause : Nat) : ((c.requestMove n ch cause).port n).t.st = .struck ∨
    ∃ x w, ((c.requestMove n ch cause).port n).t = { (c.port n).t.withBad ch with exchange := x, widthEx := w } := by
  unfold Common.requestMove
  simp only
  split
  · exact .inr ⟨(c.port n).t.exchange, (c.port n).t.widthEx, by simp [LinkTrain.withBad]⟩
  · split
    · split
      · exact .inr ⟨_, (c.port n).t.widthEx, by simp [LinkTrain.withBad]; rfl⟩
      · refine (Common.requestWidth_train _ n).imp_right fun ⟨w, train⟩ => ⟨(c.port n).t.exchange, w, ?_⟩
        rw [train]
        simp [LinkTrain.withBad]
    · exact .inr ⟨(c.port n).t.exchange, (c.port n).t.widthEx, by simp [LinkTrain.withBad]⟩

theorem LinkTrain.mem_withBad (t : LinkTrain) (ch k : Nat) (h : k ∈ t.badChans) : k ∈ (t.withBad ch).badChans := by
  unfold LinkTrain.withBad
  simp only
  split <;> simp [h]

/-! ### Lane checks -/

/-- Bad channels as a check marks them (R540). -/
def LinkTrain.marked (t : LinkTrain) (pick : Nat) (bad : List Nat) : LinkTrain :=
  { t with
    checkBad := t.checkBad || !bad.isEmpty
    chanErr := bad.foldl (fun m ch => Tab.put m ch pick) t.chanErr
    badChans := t.badChans ++ bad.filter (fun ch => !t.badChans.contains ch) }

theorem LinkTrain.mem_marked (t : LinkTrain) (pick : Nat) (bad : List Nat) (k : Nat) (h : k ∈ bad) : k ∈ (t.marked pick bad).badChans := by
  by_cases old : k ∈ t.badChans <;> simp [LinkTrain.marked, h, old]

@[simp] theorem Common.port_markBad_other (m : Nat) (bad : List Nat) (cause : Nat) (h : m ≠ n) : (c.markBad n bad cause).port m = c.port m := by
  unfold Common.markBad
  simp only
  split <;> simp [h]

/-- Marking channels strikes the port, or leaves them marked and the check as it is. -/
theorem Common.markBad_train (bad : List Nat) (cause : Nat) : let t := ((c.markBad n bad cause).port n).t
    t.st = .struck ∨ (t.check = (c.port n).t.check ∧ t.checkBad = ((c.port n).t.checkBad || !bad.isEmpty) ∧ ∀ k ∈ bad, k ∈ t.badChans) := by
  unfold Common.markBad
  simp only
  split
  · refine (Common.requestMove_train _ n _ cause).imp_right fun ⟨x, w, train⟩ => ?_
    rw [train]
    refine ⟨by simp [LinkTrain.withBad], by simp [LinkTrain.withBad], fun k hk => LinkTrain.mem_withBad _ _ _ ?_⟩
    rw [Common.port_modTrain_same]
    exact (c.port n).t.mem_marked c.pick bad k hk
  · refine .inr ?_
    rw [Common.port_modTrain_same]
    exact ⟨rfl, rfl, (c.port n).t.mem_marked c.pick bad⟩

/-- A check with no bad channel marks nothing. -/
theorem Common.markBad_nil (cause : Nat) (f : LinkTrain → LinkTrain) : (c.modTrain n f).markBad n [] cause = c.modTrain n f := by
  simp [Common.markBad, Common.modTrain]

/-- A lane check that begins at the far end's word. -/
def Common.checkBegun : Common := (c.bumpLo (linkA c.part n 0x020)).modTrain n (fun t => { t with check := some c.pick, checkBad := false })

theorem Common.laneCheck_clean (h : (c.port n).t.checks) : c.laneCheck n [] = c.checkBegun n := by
  simp only [Common.laneCheck, c.startCheck_begins n false h, Bool.false_eq_true, if_false]
  have begun : (((c.checkBegun n).port n).t.check.isNone) = false := by simp [Common.checkBegun]
  rw [← Common.checkBegun, begun, if_neg Bool.false_ne_true]
  have same : (c.checkBegun n).modPort n (fun p => { p with lane := p.lane }) = c.checkBegun n := by simp [Common.checkBegun, Common.modTrain]
  exact (congrArg (fun d => d.markBad n [] 0) same).trans (Common.markBad_nil _ n 0 _)

theorem Common.laneCheck_idle (bad : List (Nat × Bool)) (h : ¬(c.port n).t.checks) (idle : (c.port n).t.check = none) : c.laneCheck n bad = c := by
  simp [Common.laneCheck, c.startCheck_idle n false h, idle]

/-- Channels in use that a check shows bad are marked, unless too few lanes are left. -/
theorem Common.laneCheck_marks (bad : List (Nat × Bool)) (h : (c.port n).t.checks) (some_ : bad ≠ []) (used : ∀ e ∈ bad, roleOf (c.port n).t.roles e.1 < 0x22) :
    let d := c.laneCheck n bad
    (∀ m, m ≠ n → d.port m = c.port m) ∧
      ((d.port n).t.st = .struck ∨ ((d.port n).t.check = some c.pick ∧ (d.port n).t.checkBad = true ∧ ∀ e ∈ bad, e.1 ∈ (d.port n).t.badChans)) := by
  have begun : c.startCheck n false = c.checkBegun n := by simp [c.startCheck_begins n false h, Common.checkBegun]
  have check : ((c.checkBegun n).port n).t.check = some c.pick := by simp [Common.checkBegun]
  have roles : ((c.checkBegun n).port n).t.roles = (c.port n).t.roles := by simp [Common.checkBegun]
  have live : bad.filter (fun e => decide (roleOf (c.port n).t.roles e.1 < 0x22)) = bad := List.filter_eq_self.mpr (by simpa using used)
  simp only [Common.laneCheck, begun, check, roles, live]
  rw [if_neg (by simp)]
  refine ⟨fun m hm => by simp [Common.checkBegun, Common.port_modPort_other, hm], ?_⟩
  refine (Common.markBad_train _ n _ 0).imp_right fun ⟨same, marks, all⟩ => ⟨by rw [same]; simp [check], by rw [marks]; simp [some_], fun e he => all e.1 ?_⟩
  exact List.mem_map_of_mem he

/-! ### Requests received -/

/-- The exchange that a MOVE set asks for (Table 13.12). -/
def LaneSet.moves (k : LaneSet) (pick : Nat) : Exchange :=
  { role := k.arg0, fromCh := k.arg1, toCh := k.arg2 % 64, cause := k.arg2 / 64 % 4, pickE := pickNear pick k.arg3, mine := false, answered := true }

/-- A port that answers lane-control requests: raised or standby. -/
def LinkTrain.serves (t : LinkTrain) : Prop := t.st = .raised ∨ t.st = .standby

/-- How a MOVE is answered: by the exchange that is pending, or else by its target and its pick (R543). -/
theorem Common.recvMove_serves (k : LaneSet) (h : (c.port n).t.serves) : c.recvMove n k =
    (let x := k.moves c.pick
     match (c.port n).t.exchange with
     | some y =>
       if y.mine = false ∧ y.isWidth = false ∧ y.fromCh = x.fromCh ∧ y.toCh = x.toCh then c.sendLane n { k with cmd := 0x03 }
       else if y.mine = true ∧ y.isWidth = false ∧ y.fromCh = x.fromCh then
         if c.leading n then c else (c.modTrain n (fun t => { t with exchange := some x })).sendLane n { k with cmd := 0x03 }
       else c.sendLane n { k with cmd := 0x04 }
     | none =>
       if c.goodTarget n x.toCh = true ∧ c.pick ≤ x.pickE then (c.modTrain n (fun t => { t with exchange := some x })).sendLane n { k with cmd := 0x03 }
       else c.sendLane n { k with cmd := 0x04 }) :=
  if_neg (by simpa [LinkTrain.serves, imp_iff_not_or] using h)

theorem Common.recvMove_idle (k : LaneSet) (h : ¬(c.port n).t.serves) : c.recvMove n k = c :=
  if_pos (by simpa [LinkTrain.serves] using h)

/-- The own request for a width stands against the far end's. -/
def Common.widthStands : Prop := ∃ y, (c.port n).t.widthEx = some y ∧ y.mine = true ∧ c.leading n = true

theorem Common.recvWidth_idle (k : LaneSet) (h : ¬(c.port n).t.serves ∨ c.widthStands n) : c.recvWidth n k = c := by
  unfold Common.recvWidth
  simp only
  refine if_pos ?_
  rcases h with h | ⟨y, asked, mine, leads⟩
  · simp only [LinkTrain.serves, not_or] at h
    simp [h]
  · simp [asked, mine, leads]

theorem Common.recvWidth_serves (k : LaneSet) (h : (c.port n).t.serves) (free : ¬c.widthStands n) : c.recvWidth n k =
    (c.modTrain n (fun t => { t with widthEx := some { isWidth := true, lanes := k.arg0, pickE := pickNear c.pick k.arg3, mine := false, answered := true } })).sendLane
      n { k with cmd := 0x06 } := by
  unfold Common.recvWidth
  simp only
  refine if_neg ?_
  have serving : (!((c.port n).t.st == .raised || (c.port n).t.st == .standby)) = false := by simpa [LinkTrain.serves, imp_iff_not_or] using h
  rw [serving, Bool.false_or]
  cases asked : (c.port n).t.widthEx with
  | none => simp
  | some y =>
    intro stands
    exact free ⟨y, asked, by simpa using stands⟩

/-! ### Answers received -/

/-- A set carries the arguments of a request of the own end. -/
def Exchange.answeredBy (x : Exchange) (isWidth : Bool) (k : LaneSet) : Prop :=
  x.mine = true ∧ x.isWidth = isWidth ∧ k.arg0 = x.set.arg0 ∧ k.arg1 = x.set.arg1 ∧ k.arg2 = x.set.arg2 ∧ k.arg3 = x.set.arg3

/-- A set refuses the own move. -/
def Exchange.refusedBy (x : Exchange) (k : LaneSet) : Prop := x.mine = true ∧ x.isWidth = false ∧ k.arg1 = x.fromCh ∧ k.arg2 = x.set.arg2

theorem Common.recvAnswer_move (k : LaneSet) (x : Exchange) (h : (c.port n).t.exchange = some x) (a : x.answeredBy false k) :
    c.recvAnswer n false k = c.modTrain n (fun t => { t with exchange := some { x with answered := true } }) := by
  simp only [Common.recvAnswer, Bool.false_eq_true, if_false, h]
  exact if_pos a

theorem Common.recvAnswer_width (k : LaneSet) (x : Exchange) (h : (c.port n).t.widthEx = some x) (a : x.answeredBy true k) :
    c.recvAnswer n true k = c.modTrain n (fun t => { t with widthEx := some { x with answered := true } }) := by
  simp only [Common.recvAnswer, if_true, h]
  exact if_pos a

/-- An answer to nothing that the own end asks for changes nothing. -/
theorem Common.recvAnswer_stray (isWidth : Bool) (k : LaneSet)
    (h : ∀ x, (if isWidth then (c.port n).t.widthEx else (c.port n).t.exchange) = some x → ¬x.answeredBy isWidth k) : c.recvAnswer n isWidth k = c := by
  unfold Common.recvAnswer
  split
  · rename_i x asked
    exact if_neg (h x asked)
  · rfl

theorem Common.recvMoveNo_refused (k : LaneSet) (x : Exchange) (h : (c.port n).t.exchange = some x) (r : x.refusedBy k) :
    c.recvMoveNo n k = (c.modTrain n (fun t => { t with exchange := none })).requestWidth n := by
  simp only [Common.recvMoveNo, h]
  exact if_pos r

theorem Common.recvMoveNo_stray (k : LaneSet) (h : ∀ x, (c.port n).t.exchange = some x → ¬x.refusedBy k) : c.recvMoveNo n k = c := by
  unfold Common.recvMoveNo
  split
  · rename_i x asked
    exact if_neg (h x asked)
  · rfl

/-! ### Repetitions -/

/-- Sets sent one after another go out of their port in order, and nothing else changes. -/
theorem Common.each_sendLane (l : List LaneSet) : let d := each l c (fun c k => c.sendLane n k)
    d = { c with ports := d.ports } ∧ (∀ m, m ≠ n → d.port m = c.port m) ∧
      d.port n = { c.port n with fl := l.foldl (fun f k => f.addLane (c.port n).t.check.isSome k) (c.port n).fl } := by
  induction l generalizing c with
  | nil => exact ⟨rfl, fun _ _ => rfl, rfl⟩
  | cons k l ih =>
    obtain ⟨whole, others, port⟩ := ih (c.sendLane n k)
    simp only [each_cons]
    refine ⟨?_, fun m hm => by rw [others m hm, c.port_sendLane_other hm], by rw [port]; simp⟩
    rw [whole]
    rfl

end

/-- Settles O22: each lane-control set that is received, and the repetition of those sent, are said above. -/
theorem lanesMoveByAgreement : Obligations.LanesMoveByAgreement := by
  intro s part port has
  simp only [exec_laneCtrlCheck, exec_move, exec_moveOk, exec_moveNo, exec_width, exec_widthOk, exec_laneCtrlRetry, execLaneCtrlCheck, execMove, execMoveOk, execMoveNo,
    execWidth, execWidthOk, execLaneCtrlRetry, s.onPort_has part port _ has]
  generalize s.common part = c
  refine ⟨fun serves idle k => ?_, fun serves idle k bad some_ used => ⟨_, rfl, c.laneCheck_marks port bad ⟨serves, idle⟩ some_ used⟩, fun out idle k bad => ?_,
    fun k => ⟨fun out => ?_, fun serves free good early => ?_, fun serves free bad => ?_, fun y serves pending repeated => ?_, fun y serves pending crossed => ?_,
      fun y serves pending new apart => ?_⟩,
    fun k => ⟨fun h => ?_, fun serves free => ?_⟩, fun k => ⟨fun x asked answers => ?_, fun stray => ?_, fun x asked answers => ?_, fun stray => ?_, fun x asked refuses => ?_, fun stray => ?_⟩,
    ⟨_, rfl, c.each_sendLane port _⟩⟩
  · rw [c.laneCheck_clean port ⟨serves, idle⟩, Common.checkBegun]
  · rw [c.laneCheck_idle port bad (fun h => out h.1) idle]
  · rw [c.recvMove_idle port k out]
  · simp only [c.recvMove_serves port k serves, free]
    exact congrArg _ (congrArg _ (if_pos ⟨good, early⟩))
  · simp only [c.recvMove_serves port k serves, free]
    exact congrArg _ (congrArg _ (if_neg bad))
  · simp only [c.recvMove_serves port k serves, pending]
    exact congrArg _ (congrArg _ (if_pos repeated))
  · simp only [c.recvMove_serves port k serves, pending]
    exact congrArg _ (congrArg _ ((if_neg (fun h => by simp [crossed.1] at h)).trans (if_pos crossed)))
  · simp only [c.recvMove_serves port k serves, pending]
    exact congrArg _ (congrArg _ ((if_neg new).trans (if_neg apart)))
  · rw [c.recvWidth_idle port k h]
  · rw [c.recvWidth_serves port k serves free]
  · rw [c.recvAnswer_move port k x asked answers]
  · rw [c.recvAnswer_stray port false k stray]
  · rw [c.recvAnswer_width port k x asked answers]
  · rw [c.recvAnswer_stray port true k stray]
  · rw [c.recvMoveNo_refused port k x asked refuses]
  · rw [c.recvMoveNo_stray port k stray]

end Sys2Proof.Machine
end

section
/-!
PROOF. The far end of a raise (R526, R527, R532 to R537): its messages, stage by stage, and ADMIT at an end-point.
-/

namespace Sys2Proof.Machine

section
variable (c : Common) (n : Nat)

/-! ### Stages that end with link-control messages -/

theorem Common.ctrlSettled_out (h : (c.port n).t.st ≠ .raising) : c.ctrlSettled n = c := if_neg fun ⟨run, _⟩ => h run

theorem Common.ctrlSettled_waits (h : (c.port n).ctrlAcked = false) : c.ctrlSettled n = c := if_neg fun ⟨_, acked⟩ => by simp [h] at acked

theorem Common.ctrlSettled_acked (run : (c.port n).t.st = .raising) (acked : (c.port n).ctrlAcked = true) : c.ctrlSettled n =
    if (c.port n).t.stage = 7 ∧ (c.port n).far.caps.isSome = true then c.enterStage n 8
    else if (c.port n).t.stage = 8 ∧ (c.port n).far.ident.isSome = true then (c.enterStage n 9).wiringCheck n
    else if (c.port n).t.stage = 10 ∧ (c.port n).far.credits = true then c.enterStage n 11
    else c := if_pos ⟨run, acked⟩

/-- Other stages do not end with a message. -/
theorem Common.ctrlSettled_elsewhere (h7 : (c.port n).t.stage ≠ 7) (h8 : (c.port n).t.stage ≠ 8) (h10 : (c.port n).t.stage ≠ 10) : c.ctrlSettled n = c := by
  simp [Common.ctrlSettled, h7, h8, h10]

/-! ### IDENT -/

/-- What IDENT records (R532, R537). -/
def Common.identified (i : Ident) : Common :=
  c.modPort n (fun p => { p with far := { p.far with ident := some i, bound := if (c.port n).t.st == .raised || (c.port n).t.st == .standby then some i else p.far.bound } })

/-- The identity that does not match the one recorded, on a port that resumes. -/
def Port.impostor (p : Port) (i : Ident) : Prop := p.t.st = .paused ∧ p.t.resume = true ∧ p.far.bound ≠ some i

/-- Whether the port is settled is a matter of the port itself. -/
theorem Common.identified_eq (i : Ident) : c.modPort n (fun p => { p with far := { p.far with ident := some i, bound := if p.t.st == .raised || p.t.st == .standby then some i else p.far.bound } }) =
    c.identified n i := c.modPort_congr n _ _ rfl

theorem Common.recvIdent_impostor (i : Ident) (h : (c.port n).impostor i) : c.recvIdent n i = c.strikeOrderly n causeIdentity false := if_pos h

theorem Common.recvIdent_records (i : Ident) (h : ¬(c.port n).impostor i) : c.recvIdent n i = (c.identified n i).ctrlSettled n := if_neg h

theorem Common.port_identified (i : Ident) : let q := (c.identified n i).port n
    q.t = (c.port n).t ∧ q.ctrlAcked = (c.port n).ctrlAcked ∧ q.far.ident = some i ∧ q.far.caps = (c.port n).far.caps ∧ q.far.credits = (c.port n).far.credits := by
  simp [Common.identified, Port.ctrlAcked]

/-! ### WIRE -/

/-- What WIRE records. -/
def Common.wired (r : Nat) : Common := c.modPort n (fun p => { p with far := { p.far with wire := some r } })

theorem Common.recvWire_checks (r o : Nat) (run : (c.port n).t.st = .raising) (stage : (c.port n).t.stage = 9) : c.recvWire n r o =
    if r = 0 then (c.wired n r).enterStage n 10
    else ((c.wired n r).linkEvent n (if r = 2 then causePair else causeWiring) 9).modTrain n (fun t => { t with st := .quarantined, stage := 0 }) :=
  if_pos ⟨run, stage⟩

theorem Common.recvWire_quarantined (o : Nat) (h : (c.port n).t.st = .quarantined) : c.recvWire n 0 o = (c.wired n 0).recheck n := by
  simp [Common.recvWire, h, Common.wired]

theorem Common.recvWire_records (r o : Nat) (h : ¬((c.port n).t.st = .raising ∧ (c.port n).t.stage = 9)) (k : ¬((c.port n).t.st = .quarantined ∧ r = 0)) :
    c.recvWire n r o = c.wired n r := by
  unfold Common.recvWire
  simp only
  rw [if_neg h, if_neg k, Common.wired]

/-- A port that enters stage 10 sends its grants (R526). -/
theorem Common.port_enterStage_grants : (c.enterStage n 10).port n =
    { c.port n with
      t := { (c.port n).t with stage := 10, ownExit := false, farExit := false }
      fl := { (c.port n).fl with ctrlOut := (c.port n).fl.ctrlOut ++ [.creditInit (ownGrants c.part n)] } } := by
  simp [Common.enterStage]

/-! ### CREDIT_INIT -/

/-- The credits of a port with the grants of a CREDIT_INIT stored (R526). -/
def granted (t : Tab VcCredit) (g : List Nat) : Tab VcCredit :=
  (List.range 8).foldl (fun t v => Tab.upd t {} v (fun x => { x with grant := g.getD v 0 % 16384 })) t

theorem grant_foldl (g : Nat → Nat) (l : List Nat) (t : Tab VcCredit) (v : Nat) :
    (Tab.get (l.foldl (fun t v => Tab.upd t {} v (fun x => { x with grant := g v })) t) {} v).grant = if v ∈ l then g v else (Tab.get t {} v).grant := by
  induction l generalizing t with
  | nil => simp
  | cons w l ih =>
    rw [List.foldl_cons, ih]
    by_cases hw : v = w
    · subst hw
      simp
    · simp [hw, Tab.get_upd_other]

theorem grant_granted (t : Tab VcCredit) (g : List Nat) (v : Nat) (h : v < 8) : (Tab.get (granted t g) {} v).grant = g.getD v 0 % 16384 := by
  rw [granted, grant_foldl (fun v => g.getD v 0 % 16384), if_pos (List.mem_range.mpr h)]

/-- What CREDIT_INIT records. -/
def Common.credited (g : List Nat) : Common := c.modPort n (fun p => { p with far := { p.far with credits := true }, cred := granted p.cred g })

theorem Common.recvCredits_records (g : List Nat) (run : (c.port n).t.st = .raising) (low : 7 ≤ (c.port n).t.stage) (high : (c.port n).t.stage ≤ 10) :
    c.recvCredits n g = (c.credited n g).ctrlSettled n := if_pos ⟨run, low, high⟩

theorem Common.recvCredits_idle (g : List Nat) (h : ¬((c.port n).t.st = .raising ∧ 7 ≤ (c.port n).t.stage ∧ (c.port n).t.stage ≤ 10)) : c.recvCredits n g = c := if_neg h

/-- A change of any port that keeps its credits keeps those of this one. -/
theorem Common.cred_modPort (m : Nat) (f : Port → Port) (h : ∀ p, (f p).cred = p.cred) : ((c.modPort m f).port n).cred = (c.port n).cred := by
  by_cases hm : n = m
  · rw [hm, Common.port_modPort_same, h]
  · rw [Common.port_modPort_other _ _ _ _ hm]

theorem Common.cred_enterStage (k : Nat) (h : k ≠ 7) : ((c.enterStage n k).port n).cred = (c.port n).cred := by
  unfold Common.enterStage
  split <;> simp_all

theorem Common.cred_quarantine : ((c.quarantine n).port n).cred = (c.port n).cred := by
  unfold Common.quarantine
  simp only
  split
  · simp [Common.sendCtrl, Common.modFlit, Common.cred_modPort]
  · cases c.part <;> simp

/-- The wiring check keeps the credits of its port. -/
theorem Common.cred_wiringCheck : ((c.wiringCheck n).port n).cred = (c.port n).cred := by
  unfold Common.wiringCheck
  split
  · simp only
    split
    · rw [Common.cred_enterStage _ _ _ (by decide)]
      simp
    · simp
    · simp
  · exact c.cred_quarantine n

theorem Common.cred_ctrlSettled : ((c.ctrlSettled n).port n).cred = (c.port n).cred := by
  unfold Common.ctrlSettled
  simp only
  split
  · split
    · exact c.cred_enterStage n 8 (by decide)
    · split
      · rw [Common.cred_wiringCheck, Common.cred_enterStage _ _ _ (by decide)]
      · split
        · exact c.cred_enterStage n 11 (by decide)
        · rfl
  · rfl

/-- But for the wiring check behind stage 8, the end of a stage is work on its port alone. -/
theorem Common.port_ctrlSettled_other (m : Nat) (hm : m ≠ n) (h : (c.port n).t.stage ≠ 8) : (c.ctrlSettled n).port m = c.port m := by
  unfold Common.ctrlSettled
  simp only [h, false_and, if_false]
  split
  · split
    · simp [hm]
    · split <;> simp [hm]
  · rfl

/-! ### ADMIT (R536) -/

/-- A port that ADMIT takes into service or into standby. -/
def Port.admits (p : Port) (code : Nat) : Prop :=
  (code = 1 ∧ (p.t.st = .standby ∨ (p.t.st = .raising ∧ p.t.stage = 12))) ∨ (code = 2 ∧ (p.t.st = .raised ∨ (p.t.st = .raising ∧ p.t.stage = 12)))

theorem Common.recvAdmit_admits (code : Nat) (h : (c.port n).admits code) : let d := c.recvAdmit n code
    (d.port n).t.st = (if code = 1 then .raised else .standby) ∧ (d.port n).t.stage = 0 ∧ (d.port n).op.ostate = .lit ∧ (d.port n).far.admitCode = code ∧
      ∀ m, m ≠ n → d.port m = c.port m := by
  rcases h with ⟨rfl, st | ⟨st, stage⟩⟩ | ⟨rfl, st | ⟨st, stage⟩⟩ <;>
    simp +contextual [Common.recvAdmit, *, Common.modEgress, Common.port_modPort_other]

theorem Common.recvAdmit_records (code : Nat) (h : ¬(c.port n).admits code) :
    c.recvAdmit n code = c.modPort n (fun p => { p with far := { p.far with admitCode := code } }) := by
  unfold Common.recvAdmit
  simp only
  split <;> simp_all [Port.admits]

end

/-- Settles O21: each message of the far end, by the state and the stage at which it comes. -/
theorem farEndIsCheckedAndAdmitted : Obligations.FarEndIsCheckedAndAdmitted := by
  refine ⟨fun s part port has => ?_, fun s port has => ?_⟩
  · simp only [exec_ident, exec_wire, exec_creditInit, execIdent, execWire, execCreditInit, s.onPort_has part port _ has]
    generalize s.common part = c
    refine ⟨fun i => ⟨fun st back differs => ⟨_, rfl, ?_⟩, fun same => ?_⟩, fun r o => ⟨fun run stage fails => ⟨_, rfl, ?_⟩, fun run stage passes => ⟨_, rfl, ?_⟩, fun st passes => ?_, fun h k => ?_⟩,
      fun g => ⟨fun run low high => ⟨_, rfl, ?_⟩, fun h => ?_⟩⟩
    · rw [c.recvIdent_impostor port i ⟨st, back, differs⟩, c.strikeOrderly_serving port _ _ (by simp [st])]
      refine ⟨by simp [Common.port_strikeRun_same, LinkTrain.left], by simp, fun m hm => by simp [hm]⟩
    · obtain ⟨train, acked, ident, caps, credits⟩ := c.port_identified port i
      simp only [c.recvIdent_records port i same, c.identified_eq port i]
      refine ⟨fun out => ?_, fun run stage ack => ?_, fun run stage ack => ?_, fun run stage ack => ?_, fun run h => ?_⟩
      · rw [Common.ctrlSettled_out _ _ (by rw [train]; exact out)]
      · rw [Common.ctrlSettled_acked _ _ (by rw [train]; exact run) (by rw [acked]; exact ack)]
        simp [train, ident, stage]
      · rw [Common.ctrlSettled_acked _ _ (by rw [train]; exact run) (by rw [acked]; exact ack)]
        simp [train, caps, stage]
      · rw [Common.ctrlSettled_acked _ _ (by rw [train]; exact run) (by rw [acked]; exact ack)]
        simp [train, credits, stage]
      · rcases h with ⟨h7, h8, h10⟩ | ack
        · rw [Common.ctrlSettled_elsewhere] <;> rw [train] <;> assumption
        · rw [Common.ctrlSettled_waits _ _ (by rw [acked]; exact ack)]
    · rw [c.recvWire_checks port r o run stage, if_neg fails]
      refine ⟨?_, ?_, ?_, ?_, fun m hm => ?_⟩ <;> simp [Common.wired, Common.port_modPort_other, *]
    · rw [c.recvWire_checks port r o run stage, if_pos passes]
      refine ⟨?_, ?_, ?_, fun m hm => ?_⟩
      case refine_4 => simp [Common.wired, Common.port_modPort_other, hm]
      all_goals simp [Common.port_enterStage_grants, Common.wired, run]
    · rw [passes, c.recvWire_quarantined port o st, Common.wired]
    · rw [c.recvWire_records port r o h k, Common.wired]
    · rw [c.recvCredits_records port g run low high]
      refine ⟨fun v hv => ?_, fun stage ack => ?_, fun stage m hm => ?_⟩
      · rw [Common.cred_ctrlSettled, Common.credited, Common.port_modPort_same]
        exact grant_granted _ g v hv
      · rw [Common.ctrlSettled_acked _ _ (by simpa [Common.credited] using run) (by simpa [Common.credited, Port.ctrlAcked] using ack)]
        simp [Common.credited, stage, Common.port_enterStage_stage]
      · rw [Common.port_ctrlSettled_other _ _ _ hm (by simpa [Common.credited] using stage), Common.credited, Common.port_modPort_other _ _ _ _ hm]
    · rw [c.recvCredits_idle port g h]
  · simp only [exec_admitMsg, execAdmitMsg, s.onPort_has .ep port _ has]
    exact ⟨fun code h => ⟨_, rfl, Common.recvAdmit_admits _ port code h⟩, fun code h => congrArg (fun d => Host.Outcome.next (s.after .ep d)) (Common.recvAdmit_records _ port code h)⟩

end Sys2Proof.Machine
end

section
/-!
PROOF. Pick markers at a port (R309, R512 to R515, R535): what a marker records, and when it ends stage 11.
-/

namespace Sys2Proof.Machine

section
variable (c : Common) (n : Nat)

/-! ### The timebase leaves the ports -/

@[simp] theorem Common.port_pickEvent (cause low k : Nat) : (c.pickEvent cause low).port k = c.port k := c.port_event ..

@[simp] theorem Common.port_enterHoldover (k : Nat) : c.enterHoldover.port k = c.port k := rfl

@[simp] theorem Common.port_followRef (k : Nat) : c.followRef.port k = c.port k := by
  unfold Common.followRef
  split
  · rfl
  · dsimp only
    split
    · split <;> simp
    · repeat' split
      all_goals simp

@[simp] theorem Common.port_noteOffset (m : Nat) (off : Int) (k : Nat) : (c.noteOffset m off).port k = c.port k := by
  unfold Common.noteOffset
  repeat' split
  all_goals simp

/-! ### What a marker records -/

/-- The port after a marker: its fields, the echo among those seen, and the round trip. -/
def Port.marked (p : Port) (m : Marker) (sent : Nat) (rtt : Int) : Port :=
  { p with
    t := { p.t with farRolesSeen := if m.roles = p.t.farRoles then p.t.farRolesSeen + 1 else 1, farRoles := m.roles },
    mark := { p.mark with
      lastFar := m.pn % 256, farState := m.state, farPick := m.pn, farLocked := m.state == 1,
      echoes := if p.mark.echoes.contains sent then p.mark.echoes else p.mark.echoes ++ [sent],
      rtts := (rtt :: p.mark.rtts).take 16 } }

/-- Stage 11 with settled round trips (R535). -/
def Port.aligned (p : Port) : Prop := p.t.st = .raising ∧ p.t.stage = 11 ∧ rttSettled p.mark.rtts = true

/-- The offset that a marker shows of an end-point's pick (R309), in half nanoseconds. -/
def Common.markerOffset (m : Marker) : Int :=
  (m.arrival - (c.rf' (linkA c.part n 0x024) 15 0 : Nat)) / 2 - ((m.pn : Int) - c.pick) * 1000

/-- The offset is kept but on a struck port and in a raise before stage 12. -/
def Common.offsetNoted (t : LinkTrain) (offset : Int) : Common :=
  if t.st = .struck ∨ (t.st = .raising ∧ t.stage < 12) then c else c.noteOffset n offset

/-- The spread of 16 round trips is shown. -/
def Common.spreadShown (a : Nat) : Common :=
  if (c.port n).mark.rtts.length = 16 then c.wrF a 31 16 (min 65535 (rttSpread (c.port n).mark.rtts)) else c

@[simp] theorem Common.port_offsetNoted (t : LinkTrain) (offset : Int) (k : Nat) : (c.offsetNoted n t offset).port k = c.port k := by
  unfold Common.offsetNoted
  split <;> simp

@[simp] theorem Common.port_spreadShown (a k : Nat) : (c.spreadShown n a).port k = c.port k := by
  unfold Common.spreadShown Common.wrF
  split <;> simp

@[simp] theorem Common.part_spreadShown (a : Nat) : (c.spreadShown n a).part = c.part := by
  unfold Common.spreadShown
  split <;> simp

@[simp] theorem Common.time_spreadShown (a : Nat) : (c.spreadShown n a).time = c.time := by
  unfold Common.spreadShown
  split <;> simp

/-- What a marker leaves before stage 11 is looked at: its records, the offset where one is kept, and the spread of the round trips. -/
def Common.markerKept (m : Marker) (sent : Nat) (rtt : Int) : Common :=
  ((c.modPort n (fun q => q.marked m sent rtt)).offsetNoted n (c.port n).t (c.markerOffset n m)).spreadShown n (linkA c.part n 0x024)

theorem Common.port_markerKept_same (m : Marker) (sent : Nat) (rtt : Int) : (c.markerKept n m sent rtt).port n = (c.port n).marked m sent rtt := by
  simp [Common.markerKept]

theorem Common.port_markerKept_other (m : Marker) (sent : Nat) (rtt : Int) (k : Nat) (h : k ≠ n) : (c.markerKept n m sent rtt).port k = c.port k := by
  simp [Common.markerKept, Common.port_modPort_other _ _ _ _ h]

/-- In a raise before stage 12 no offset is kept: the timebase stays. -/
theorem Common.markerKept_raising (m : Marker) (sent : Nat) (rtt : Int) (run : (c.port n).t.st = .raising) (stage : (c.port n).t.stage < 12) :
    (c.markerKept n m sent rtt).part = c.part ∧ (c.markerKept n m sent rtt).time = c.time := by
  simp [Common.markerKept, Common.offsetNoted, run, stage]

/-- Identity signs on a port in service: a lane check, and the ring that slipped is parked (R515). -/
def Common.identityTold (t : LinkTrain) (m : Marker) : Common :=
  if t.st = .raised ∨ t.st = .standby then
    each (m.wrongIds.filter (fun w => w.2 + 1 == w.1 || w.2 == w.1 + 1)) c (fun c w => (c.startCheck n true).parkRing n { tx := false, chan := w.1 } 1)
  else c

theorem Common.identityTold_calm (t : LinkTrain) (m : Marker) (calm : t.st = .raised ∨ t.st = .standby → ∀ w ∈ m.wrongIds, w.2 + 1 ≠ w.1 ∧ w.2 ≠ w.1 + 1) :
    c.identityTold n t m = c := by
  unfold Common.identityTold
  split
  · next serves =>
    have none : m.wrongIds.filter (fun w => w.2 + 1 == w.1 || w.2 == w.1 + 1) = [] := by
      refine List.filter_eq_nil_iff.mpr fun w hw => ?_
      obtain ⟨h1, h2⟩ := calm serves w hw
      simp [h1, h2]
    rw [none, each_nil]
  · rfl

/-- A marker, step by step. -/
theorem Common.recvMarker_steps (m : Marker) :
    let back := (c.pick + 256 - m.echo % 256) % 256
    c.recvMarker n m =
      ((((((c.modPort n (fun q => q.marked m (c.pick - back) (m.arrival + 2000 * (back : Int) - 8 * (m.turn : Int)))).offsetNoted n (c.port n).t
        (c.markerOffset n m)).identityTold n (c.port n).t m).spreadShown n (linkA c.part n 0x024)).alignDone n m (c.markerOffset n m)).followRef) := by
  intro back
  unfold Common.recvMarker
  extract_lets p _ sent rtt offset roles c1 c2 slipped c3 c4
  have first : c1 = c.modPort n (fun q => q.marked m (c.pick - back) (m.arrival + 2000 * (back : Int) - 8 * (m.turn : Int))) := rfl
  have second : c2 = c1.offsetNoted n p.t offset := rfl
  have third : c3 = c2.identityTold n p.t m := rfl
  have fourth : c4 = c3.spreadShown n (linkA c.part n 0x024) := rfl
  rw [fourth, third, second, first]
  rfl

/-- A marker with no identity sign on a port in service is recorded, then stage 11 and the reference port are looked at. -/
theorem Common.recvMarker_eq (m : Marker) (echo : m.echo < 256)
    (calm : (c.port n).t.st = .raised ∨ (c.port n).t.st = .standby → ∀ w ∈ m.wrongIds, w.2 + 1 ≠ w.1 ∧ w.2 ≠ w.1 + 1) :
    c.recvMarker n m =
      ((c.markerKept n m (c.pick - (c.pick + 256 - m.echo) % 256)
        (m.arrival + 2000 * (((c.pick + 256 - m.echo) % 256 : Nat) : Int) - 8 * (m.turn : Int))).alignDone n m (c.markerOffset n m)).followRef := by
  rw [Common.recvMarker_steps, Nat.mod_eq_of_lt echo, Common.identityTold_calm _ _ _ _ calm, Common.markerKept]

/-! ### The end of stage 11 -/

theorem Common.alignDone_idle (m : Marker) (offset : Int) (h : ¬(c.port n).aligned) : c.alignDone n m offset = c := by
  refine if_pos ?_
  simp only [Port.aligned, not_and_or] at h
  simpa using h

/-- Round trips that have settled show the length of the link. -/
def Common.measured : Common :=
  c.wr (linkA c.part n 0x024) (BitVec.ofNat 32 (min 65535 (rttDelay (c.port n).mark.rtts) + 65536 * min 65535 (rttSpread (c.port n).mark.rtts)))

theorem Common.alignDone_far (m : Marker) (offset : Int) (h : (c.port n).aligned) (far : reachMax c.part n < rttDelay (c.port n).mark.rtts) :
    c.alignDone n m offset = (c.measured n).failRaise n causeReach := by
  obtain ⟨run, stage, set⟩ := h
  unfold Common.alignDone Common.measured
  dsimp only
  rw [if_neg (by simp [run, stage, set]), if_pos far]

theorem Common.alignDone_near (m : Marker) (offset : Int) (h : (c.port n).aligned) (near : rttDelay (c.port n).mark.rtts ≤ reachMax c.part n)
    (part : c.part = .sw) (ready : selvedge .sw n = true ∨ c.time.st ≠ .acquiring) :
    c.alignDone n m offset = ((c.measured n).enterStage12 n).baselines n Config.powerSum := by
  obtain ⟨run, stage, set⟩ := h
  unfold Common.alignDone Common.measured
  dsimp only
  rw [if_neg (by simp [run, stage, set]), if_neg (Nat.not_lt.mpr near), part]
  exact if_pos ready

@[simp] theorem Common.port_measured (k : Nat) : (c.measured n).port k = c.port k := c.port_wr ..

@[simp] theorem Common.port_baselines_other (sum : List Int → Int) (k : Nat) (h : k ≠ n) : (c.baselines n sum).port k = c.port k := c.port_modPort_other n k _ h

@[simp] theorem Common.train_baselines (sum : List Int → Int) : ((c.baselines n sum).port n).t = (c.port n).t := by
  simp [Common.baselines, Common.modOptics]

end

/-- Settles O15: a marker is recorded in its port; then stage 11 ends where the round trips have settled. -/
theorem markersAreMeasured : Obligations.MarkersAreMeasured := by
  unfold Obligations.MarkersAreMeasured
  intro s part n m works there echo
  simp only [exec_pickMarker, execPickMarker, onPort_after s part n _ works there]
  generalize s.common part = c
  refine ⟨fun calm out => ?_, fun settles far => ?_, fun settles near sw ready => ?_⟩
  · have e := c.recvMarker_eq n m echo calm
    rw [Common.alignDone_idle _ _ _ _ (by rw [Common.port_markerKept_same]; exact out)] at e
    refine ⟨_, rfl, fun k hk => ?_, ?_⟩
    · rw [e, Common.port_followRef, Common.port_markerKept_other _ _ _ _ _ _ hk]
    · rw [e, Common.port_followRef, Common.port_markerKept_same]
      rfl
  · obtain ⟨run, stage, -⟩ := id settles
    have e := c.recvMarker_eq n m echo (by simp [run])
    have frame sent rtt := c.markerKept_raising n m sent rtt run (by omega)
    have mine := c.port_markerKept_same n m
    rw [Common.alignDone_far _ _ _ _ (by rw [mine]; exact settles) (by rw [mine, (frame _ _).1]; exact far)] at e
    refine ⟨_, rfl, ?_, ?_, fun k hk => ?_⟩
    · rw [e, Common.port_followRef, Common.port_failRaise_same, Common.port_strikeRun_same]
      rfl
    · rw [e, Common.port_followRef, Common.port_failRaise_same, Common.port_strikeRun_same]
      simp [LinkTrain.left, mine, Port.marked]
    · rw [e, Common.port_followRef, Common.port_failRaise_other _ hk, Common.port_measured, Common.port_markerKept_other _ _ _ _ _ _ hk]
  · obtain ⟨run, stage, -⟩ := id settles
    have e := c.recvMarker_eq n m echo (by simp [run])
    have frame sent rtt := c.markerKept_raising n m sent rtt run (by omega)
    have mine := c.port_markerKept_same n m
    rw [Common.alignDone_near _ _ _ _ (by rw [mine]; exact settles) (by rw [mine, (frame _ _).1]; exact near) ((frame _ _).1.trans sw) (by rw [(frame _ _).2]; exact ready)] at e
    refine ⟨_, rfl, ?_, ?_, ?_, fun k hk => ?_⟩
    · rw [e, Common.port_followRef, Common.train_baselines]
      simp [Common.enterStage12, mine, Port.marked, run]
    · rw [e, Common.port_followRef, Common.train_baselines]
      simp [Common.enterStage12]
    · rw [e, Common.port_followRef, Common.train_baselines]
      simp [Common.enterStage12]
    · rw [e, Common.port_followRef, Common.port_baselines_other _ _ _ _ hk, Common.port_enterStage12_other _ hk, Common.port_measured,
        Common.port_markerKept_other _ _ _ _ _ _ hk]

end Sys2Proof.Machine
end

section
/-!
PROOF. Combs (R470, R472, R493, R497): they go dark and warm one by one, one locks, one is retired.
-/

namespace Sys2Proof.Machine

/-- A fold of which every step is work at its own place alone: each place holds what its own step makes of it. -/
theorem each_own {α σ β : Type} [DecidableEq α] (get : σ → α → β) (F : α → β → β) (P : σ → Prop) (f : σ → α → σ) (own : ∀ s a, P s → get (f s a) a = F a (get s a))
    (other : ∀ s a b, b ≠ a → get (f s a) b = get s b) (stays : ∀ s a, P s → P (f s a)) (l : List α) (once : l.Nodup) (s : σ) (h : P s) (b : α) :
    get (each l s f) b = if b ∈ l then F b (get s b) else get s b := by
  induction l generalizing s with
  | nil => rfl
  | cons a l ih =>
    obtain ⟨fresh, once⟩ := List.nodup_cons.mp once
    rw [each_cons, ih once (f s a) (stays s a h)]
    by_cases same : b = a
    · subst same
      rw [if_neg fresh, if_pos List.mem_cons_self, own s b h]
    · rw [other s a b same]
      simp [same]

/-! ### The pin -/

/-- Its level leaves a part as it is held. -/
theorem State.heldPart_laserLevel (s : State) (part : Part) (on : Bool) : (s.modPart part (fun c => c.laserLevel on)).heldPart part = s.heldPart part := by
  cases part <;> rfl

theorem State.common_modPart (s : State) (part : Part) (f : Common → Common) : (s.modPart part f).common part = f (s.common part) := by
  cases part <;> rfl

section
variable (c : Common) (k n : Nat)

/-! ### Combs behind other work -/

@[simp] theorem Common.comb_event (a low : Nat) : (c.event a low).comb k = c.comb k := by simp [Common.comb]
@[simp] theorem Common.comb_combEvent (j cause : Nat) : (c.combEvent j cause).comb k = c.comb k := c.comb_event ..
@[simp] theorem Common.comb_linkEvent (cause stage : Nat) : (c.linkEvent n cause stage).comb k = c.comb k := c.comb_event ..
@[simp] theorem Common.comb_peEvent (g cause pos port : Nat) : (c.peEvent g cause pos port).comb k = c.comb k := c.comb_event ..
@[simp] theorem Common.comb_modPort (f : Port → Port) : (c.modPort n f).comb k = c.comb k := rfl
@[simp] theorem Common.comb_modTrain (f : LinkTrain → LinkTrain) : (c.modTrain n f).comb k = c.comb k := rfl
@[simp] theorem Common.comb_modOptics (f : PortOptics → PortOptics) : (c.modOptics n f).comb k = c.comb k := rfl
@[simp] theorem Common.comb_sendLane (x : LaneSet) : (c.sendLane n x).comb k = c.comb k := rfl
@[simp] theorem Common.comb_sendCtrl (x : LinkMsg) : (c.sendCtrl n x).comb k = c.comb k := rfl
@[simp] theorem Common.comb_modEngine (f : Engine → Engine) : (c.modEngine n f).comb k = c.comb k := rfl

@[simp] theorem Common.comb_unitLost (kind unit : Nat) : (c.unitLost kind unit).comb k = c.comb k := by
  obtain ⟨low, ledger, eq⟩ := c.unitLost_stores kind unit
  rw [eq]
  exact c.comb_event k (resA c.part 4) low

@[simp] theorem Common.port_unitLost (kind unit : Nat) : (c.unitLost kind unit).port n = c.port n := by
  obtain ⟨low, ledger, eq⟩ := c.unitLost_stores kind unit
  rw [eq]
  exact c.port_event (resA c.part 4) low n

@[simp] theorem Common.port_peEvent (g cause pos port : Nat) : (c.peEvent g cause pos port).port n = c.port n := c.port_event ..
@[simp] theorem Common.port_combEvent (cause : Nat) : (c.combEvent k cause).port n = c.port n := c.port_event ..

@[simp] theorem Common.comb_pausePort : (c.pausePort n).comb k = c.comb k := by
  unfold Common.pausePort
  split <;> simp

@[simp] theorem Common.comb_strikeOrderly (cause : Nat) (cold : Bool) : (c.strikeOrderly n cause cold).comb k = c.comb k := by
  unfold Common.strikeOrderly
  dsimp only
  repeat' split
  all_goals simp [Common.strikeRun, Common.leaveRaised]

@[simp] theorem Common.comb_enterStage (x : Nat) : (c.enterStage n x).comb k = c.comb k := by
  unfold Common.enterStage
  split <;> simp

@[simp] theorem Common.comb_ringsSettled : (c.ringsSettled n).comb k = c.comb k := by
  unfold Common.ringsSettled
  dsimp only
  split <;> simp

@[simp] theorem Common.comb_startResume : (c.startResume n).comb k = c.comb k := by
  unfold Common.startResume
  split <;> simp

/-! ### The interlock -/

theorem Common.comb_darkCombs (interlock : Bool) (h : k < combCount c.part) :
    ((c.darkCombs interlock).comb k).st = if (c.comb k).st = .retired then .retired else .dark := by
  unfold Common.darkCombs
  refine (each_own (fun (c : Common) k => (c.comb k).st) (fun _ st => if st = .retired then .retired else .dark) (fun _ => True) _ ?own ?other
    (fun _ _ _ => trivial) _ List.nodup_range c trivial k).trans (if_pos (List.mem_range.mpr h))
  case own =>
    intro c k _
    dsimp only
    split
    · next out => rcases out with out | out <;> simp [out]
    · next lit => split <;> simp_all
  case other =>
    intro c a b hb
    dsimp only
    repeat' split
    all_goals simp [Common.comb_modComb_other _ _ _ _ hb]

theorem Common.darkCombs_laserEn (interlock : Bool) : (c.darkCombs interlock).opt.laserEn = c.opt.laserEn :=
  each_keep (fun (c : Common) => c.opt.laserEn) _ _ _ fun c k => by
    dsimp only
    repeat' split
    all_goals simp [Common.modComb, Common.combEvent]

theorem Common.mayLight_laserLevel : (c.laserLevel true).mayLight = true ↔ c.biv.st = .awake ∨ c.biv.st = .waking := by
  simp [Common.mayLight, Common.laserLevel]

theorem Common.warmComb_keeps : (c.warmComb k).mayLight = c.mayLight ∧ (c.warmComb k).part = c.part ∧ (c.warmComb k).rf = c.rf := by
  unfold Common.warmComb
  split <;> exact ⟨rfl, rfl, rfl⟩

/-- A register of another part's state with the same part, settings and file reads the same. -/
theorem Common.flag_comb (d : Common) (hp : d.part = c.part) (hr : d.rf = c.rf) : flag (d.rd (combA d.part k 0x004)) 0 = flag (c.rd (combA c.part k 0x004)) 0 := by
  simp [Common.rd, hp, hr]

theorem Common.comb_warmCombs (h : k < combCount c.part) : (c.warmCombs.comb k).st =
    if (c.comb k).st = .dark ∧ c.mayLight = true ∧ flag (c.rd (combA c.part k 0x004)) 0 = true then .warming else (c.comb k).st := by
  unfold Common.warmCombs
  refine (each_own (fun (c : Common) k => (c.comb k).st)
    (fun k st => if st = .dark ∧ c.mayLight = true ∧ flag (c.rd (combA c.part k 0x004)) 0 = true then .warming else st)
    (fun d => d.mayLight = c.mayLight ∧ d.part = c.part ∧ d.rf = c.rf) _ ?own ?other ?stays _ List.nodup_range c ⟨rfl, rfl, rfl⟩ k).trans (if_pos (List.mem_range.mpr h))
  case own =>
    rintro d a ⟨hl, hp, hr⟩
    unfold Common.warmComb
    rw [c.flag_comb a d hp hr, hl]
    split
    · simp
    · rfl
  case other =>
    intro d a b hb
    unfold Common.warmComb
    split
    · rw [Common.comb_modComb_other _ _ _ _ hb]
    · rfl
  case stays =>
    rintro d a ⟨hl, hp, hr⟩
    obtain ⟨wl, wp, wr⟩ := d.warmComb_keeps a
    exact ⟨wl.trans hl, wp.trans hp, wr.trans hr⟩

/-! ### A comb locks -/

/-- A port whose light has come leaves DARK. -/
def Port.lightened (p : Port) : Port := if p.op.ostate = .dark then { p with op := { p.op with ostate := .probe } } else p

/-- The ports of a position leave DARK. -/
def Common.lightens (l : List Nat) : Common := each l c (fun c n => if (c.port n).op.ostate = .dark then c.modOptics n (fun o => { o with ostate := .probe }) else c)

theorem Common.comb_lightens (l : List Nat) : (c.lightens l).comb k = c.comb k :=
  each_keep (fun (c : Common) => c.comb k) _ _ _ fun c n => by
    split <;> rfl

theorem Common.port_lightens (l : List Nat) (once : l.Nodup) : (c.lightens l).port n = if n ∈ l then (c.port n).lightened else c.port n := by
  unfold Common.lightens
  refine each_own Common.port (fun _ p => p.lightened) (fun _ => True) _ ?own ?other (fun _ _ _ => trivial) l once c trivial n
  case own =>
    intro c n _
    unfold Port.lightened Common.modOptics
    split <;> simp
  case other =>
    intro c a b hb
    split <;> simp [hb]

theorem posPorts_nodup (part : Part) (g pos : Nat) : (posPorts part g pos).Nodup := by
  cases part <;> exact List.Nodup.map (fun i j h => by simpa using h) List.nodup_range

theorem Common.combLocked_position (g pos : Nat) (warm : (c.comb k).st = .warming) (place : combPlace c.part k = (g, some pos)) :
    c.combLocked k = (c.modComb k (fun b => { b with st := .lit, pos := pos, locked := true })).lightens (posPorts c.part g pos) := by
  unfold Common.combLocked
  rw [if_neg (not_not.mpr warm), place]
  rfl

theorem Common.combLocked_spare (warm : (c.comb k).st = .warming) (place : (combPlace c.part k).2 = none) :
    c.combLocked k = c.modComb k (fun b => { b with st := .standby, locked := true }) := by
  unfold Common.combLocked
  rw [if_neg (not_not.mpr warm)]
  generalize combPlace c.part k = at_ at place
  obtain ⟨g, pos⟩ := at_
  obtain rfl : pos = none := place
  rfl

/-! ### A comb is retired -/

/-- A comb as it is retired, with its event and its loss. -/
def Common.combOut : Common := ((c.modComb k (fun b => { b with st := .retired, bias := 0, locked := false })).combEvent k 0x05).unitLost 0x6 k

@[simp] theorem Common.comb_combOut : (c.combOut k).comb k = { c.comb k with st := .retired, bias := 0, locked := false } := by
  simp [Common.combOut]

@[simp] theorem Common.port_combOut : (c.combOut k).port n = c.port n := by
  simp [Common.combOut]

@[simp] theorem Common.comb_spareGone (g : Nat) : (c.spareGone g).comb k = c.comb k := by
  unfold Common.spareGone
  repeat' split
  all_goals try rfl
  · rw [each_keep (fun (c : Common) => c.comb k) _ _ _ (fun c n => by simp)]
    rfl
  · rw [Common.comb_peEvent, each_keep (fun (c : Common) => c.comb k) _ _ _ (fun c n => by simp)]
    rfl

/-- Whatever follows for its ports, a comb is left retired. -/
theorem Common.comb_retireComb (h : (c.comb k).st ≠ .retired) : (c.retireComb k).comb k = (c.combOut k).comb k := by
  unfold Common.retireComb
  rw [if_neg h]
  dsimp only
  split
  · exact Common.comb_spareGone _ _ _
  · repeat' split
    · rfl
    · rw [Common.comb_modEngine, each_keep (fun (c : Common) => c.comb k) _ _ _ (fun c n => by simp)]
      rfl
    · rw [each_keep (fun (c : Common) => c.comb k) _ _ _ (fun c n => by simp)]
      rfl
    · rw [Common.comb_peEvent, each_keep (fun (c : Common) => c.comb k) _ _ _ (fun c n => by simp)]
      rfl

/-- Where the spare stands by, the ports of a lit comb's position pause and a swap begins (R493). -/
theorem Common.retireComb_spare (g pos : Nat) (place : combPlace c.part k = (g, some pos)) (lit : (c.comb k).st = .lit) (spare : (c.comb (spareOf c.part g)).st = .standby) :
    c.retireComb k = (each (posPorts c.part g pos) (c.combOut k) (fun c n => c.pausePort n)).modEngine g
      (fun e => { e with swap := some { pos := pos, start := c.pick, phase := 1, urgent := true } }) := by
  unfold Common.retireComb
  rw [if_neg (by simp [lit])]
  simp only [place, spare, lit]
  rfl

/-- A raised port among those that are paused is paused. -/
theorem Common.each_pausePort (l : List Nat) (once : l.Nodup) (mem : n ∈ l) (raised : (c.port n).t.st = .raised) :
    ((each l c (fun c n => c.pausePort n)).port n).t.st = .paused := by
  have := each_own (fun c n => (c.port n).t.st) (fun _ st => if st = .raised then LinkState.paused else st) (fun _ => True) (fun c n => c.pausePort n)
    (fun c n _ => by
      split
      · next up => simp [Common.pausePort_raised _ _ up, Port.pausedBy]
      · next up => rw [Common.pausePort_other _ _ up])
    (fun c a b hb => by simp [hb]) (fun _ _ _ => trivial) l once c trivial n
  rw [this, if_pos mem, if_pos raised]

end

/-- A comb that the part has. -/
theorem State.onComb_has (s : State) (part : Part) (k : Nat) (f : Common → Common) (h : s.hasComb part k = true) :
    onComb part k s f = .next (s.after part (f (s.common part))) := by
  simp only [State.hasComb, Bool.and_eq_true, Bool.not_eq_true', decide_eq_true_eq] at h
  exact onComb_after s part k f h.1 h.2

/-- Settles O26: the pin acts comb by comb; a comb locks, or is retired. -/
theorem combsLightAndGoDark : Obligations.CombsLightAndGoDark := by
  unfold Obligations.CombsLightAndGoDark
  refine ⟨fun s part held => ?_, fun s part works => ⟨?_, ?_⟩, fun s part k has => ?_, fun c k live => ?_, fun c k g pos n place lit spare mem raised => ?_⟩
  · exact ⟨through_held _ part _ (through_part part _ _) ((s.heldPart_laserLevel part false).trans held),
      through_held _ part _ (through_part part _ _) ((s.heldPart_laserLevel part true).trans held)⟩
  · refine ⟨?_, Common.darkCombs_laserEn _ true, fun k hk => Common.comb_darkCombs _ k true hk⟩
    rw [exec_laserEnLow, execLaserEnLow, onPart_after _ part _ ((s.heldPart_laserLevel part false).trans works), State.common_modPart]
  · refine ⟨?_, ?_, fun k hk => ?_⟩
    · rw [exec_laserEnHigh, execLaserEnHigh, onPart_after _ part _ ((s.heldPart_laserLevel part true).trans works), State.common_modPart]
    · exact each_keep (fun (c : Common) => c.opt.laserEn) _ _ _ fun c k => by
        unfold Common.warmComb
        split <;> rfl
    · rw [Common.comb_warmCombs _ k hk]
      simp only [Common.mayLight_laserLevel]
      rfl
  · simp only [exec_combLocked, exec_combWarmTimeout, exec_combLockerLost, exec_combOutputLow, execCombLocked, execCombWarmTimeout, execCombLockerLost, execCombOutputLow,
      s.onComb_has part k _ has]
    generalize s.common part = c
    refine ⟨fun warm g pos place => ⟨_, by rw [c.combLocked_position k g pos warm place], ?_, fun n hn => ?_, fun n hn => ?_⟩, fun warm place => ?_, fun warm => ?_, fun burns => ?_,
      fun cold => ?_, fun out => ?_⟩
    · rw [Common.comb_lightens, Common.comb_modComb_same]
    · rw [Common.port_lightens _ _ _ (posPorts_nodup _ _ _), if_pos hn, Common.port_modComb, Port.lightened]
      split <;> rfl
    · rw [Common.port_lightens _ _ _ (posPorts_nodup _ _ _), if_neg hn, Common.port_modComb]
    · rw [c.combLocked_spare k warm place]
    · rw [if_pos warm]
    · simp [burns]
    · rw [Common.combLocked, if_pos cold, if_neg cold]
      exact ⟨rfl, rfl⟩
    · simp [out]
  · rw [Common.comb_retireComb c k live, Common.comb_combOut]
    exact ⟨rfl, rfl, rfl⟩
  · rw [c.retireComb_spare k g pos place lit spare, Common.port_modEngine]
    exact Common.each_pausePort _ n _ (posPorts_nodup _ _ _) mem (by rw [Common.port_combOut]; exact raised)

end Sys2Proof.Machine
end

section
/-!
PROOF. Rings (R476 to R481, R485, R540): locks and their loss, slips and relocks, heaters, far reports, the spare's light.
-/

namespace Sys2Proof.Machine

section
variable (c : Common) (n : Nat) (r : RingId)

/-! ### Rings of a port -/

/-- A ring after it was changed. -/
@[simp] theorem Common.ring_modRing_same (f : Ring → Ring) : ((c.modRing n r f).port n).ring r = f ((c.port n).ring r) := by
  unfold Common.modRing Common.modOptics Port.ring
  rw [Common.port_modPort_same]
  cases r.tx <;> simp

@[simp] theorem Common.port_modRing_other (f : Ring → Ring) (m : Nat) (h : m ≠ n) : (c.modRing n r f).port m = c.port m := c.port_modOptics_other h _

@[simp] theorem Common.train_modRing (f : Ring → Ring) : ((c.modRing n r f).port n).t = (c.port n).t := by
  simp [Common.modRing, Common.modOptics]

@[simp] theorem Common.rd_modRing (f : Ring → Ring) (a : Nat) : (c.modRing n r f).rd a = c.rd a := c.rd_modOptics n a _

/-- A ring is read off the optics of its port. -/
theorem Port.ring_congr (p q : Port) (h : p.op = q.op) : p.ring r = q.ring r := by simp only [Port.ring, h]

theorem Common.ring_modTrain (f : LinkTrain → LinkTrain) : ((c.modTrain n f).port n).ring r = (c.port n).ring r :=
  Port.ring_congr r _ _ (by simp)

/-! ### Work that leaves the optics -/

@[simp] theorem Common.op_strikeOrderly (cause : Nat) : ((c.strikeOrderly n cause false).port n).op = (c.port n).op := by
  unfold Common.strikeOrderly
  dsimp only
  split
  · split <;> simp
  · simp [Common.port_strikeRun_same]

@[simp] theorem Common.op_requestWidth : ((c.requestWidth n).port n).op = (c.port n).op := by
  unfold Common.requestWidth
  dsimp only
  split
  · simp
  · split <;> simp

@[simp] theorem Common.op_requestMove (ch cause : Nat) : ((c.requestMove n ch cause).port n).op = (c.port n).op := by
  unfold Common.requestMove
  dsimp only
  split
  · simp
  · split
    · split <;> simp
    · simp

@[simp] theorem Common.op_startCheck (own : Bool) : ((c.startCheck n own).port n).op = (c.port n).op := by
  unfold Common.startCheck
  dsimp only
  split
  · rfl
  · split <;> simp

@[simp] theorem Common.port_startCheck_other (own : Bool) (m : Nat) (h : m ≠ n) : (c.startCheck n own).port m = c.port m := by
  unfold Common.startCheck
  dsimp only
  split
  · rfl
  · split <;> simp [h]

@[simp] theorem Common.pick_startCheck (own : Bool) : (c.startCheck n own).pick = c.pick := by
  unfold Common.startCheck
  dsimp only
  split
  · rfl
  · split <;> simp

/-- Stage 2 ends with stage 3 or not at all. -/
theorem Common.ringsSettled_cases : c.ringsSettled n = c.enterStage n 3 ∨ c.ringsSettled n = c := by
  unfold Common.ringsSettled
  dsimp only
  split
  · exact .inl rfl
  · exact .inr rfl

/-- Stage 3 takes a reference mode, and leaves the port's optics and roles and every register. -/
theorem Common.enterStage3_keeps : ((c.enterStage n 3).port n).op = (c.port n).op ∧ ((c.enterStage n 3).port n).t.roles = (c.port n).t.roles ∧ ∀ a, (c.enterStage n 3).rd a = c.rd a := by
  simp [Common.enterStage]

theorem Common.ringsSettled_keeps :
    ((c.ringsSettled n).port n).op = (c.port n).op ∧ ((c.ringsSettled n).port n).t.roles = (c.port n).t.roles ∧ ∀ a, (c.ringsSettled n).rd a = c.rd a := by
  rcases c.ringsSettled_cases n with e | e <;> rw [e]
  · exact c.enterStage3_keeps n
  · exact ⟨rfl, rfl, fun _ => rfl⟩

@[simp] theorem Common.port_ringsSettled_other (m : Nat) (h : m ≠ n) : (c.ringsSettled n).port m = c.port m := by
  rcases c.ringsSettled_cases n with e | e <;> simp [e, h]

/-- A ring that locks has no slip left (R476). -/
@[simp] theorem Common.ring_lockRing : ((c.lockRing n r).port n).ring r = { (c.port n).ring r with locked := true, slipAt := none } :=
  (Port.ring_congr r _ _ (Common.ringsSettled_keeps _ n).1).trans (c.ring_modRing_same n r _)

@[simp] theorem Common.roles_lockRing : ((c.lockRing n r).port n).t.roles = (c.port n).t.roles :=
  (Common.ringsSettled_keeps _ n).2.1.trans (congrArg LinkTrain.roles (c.train_modRing n r _))

@[simp] theorem Common.rd_lockRing (a : Nat) : (c.lockRing n r).rd a = c.rd a := ((Common.ringsSettled_keeps _ n).2.2 a).trans (c.rd_modRing n r _ a)

@[simp] theorem Common.port_lockRing_other (m : Nat) (h : m ≠ n) : (c.lockRing n r).port m = c.port m := by simp [Common.lockRing, h]

/-! ### A lock is lost -/

/-- A ring that has slipped at a pick. -/
def Ring.slipped (g : Ring) (pick : Nat) : Ring := { g with locked := false, slipAt := some pick }

theorem Common.ringLost_serving (h : (c.port n).t.st = .raised ∨ (c.port n).t.st = .standby) : c.ringLost n r = (c.startCheck n true).parkRing n r 3 := if_pos h

theorem Common.ringLost_out (h : ¬((c.port n).t.st = .raised ∨ (c.port n).t.st = .standby)) : c.ringLost n r = c.modRing n r (fun g => { g with locked := false }) := if_neg h

/-- Parking a ring leaves it slipped at this pick. -/
theorem Common.ring_parkRing (cause : Nat) : ((c.parkRing n r cause).port n).ring r = ((c.port n).ring r).slipped c.pick := by
  unfold Common.parkRing
  rw [Port.ring_congr r _ _ (Common.op_requestMove _ _ _ _), Port.ring_congr r _ ((c.modRing n r (fun g => g.slipped c.pick)).port n) (by simp; rfl), Common.ring_modRing_same]

@[simp] theorem Common.port_parkRing_other (cause m : Nat) (h : m ≠ n) : (c.parkRing n r cause).port m = c.port m := by
  simp [Common.parkRing, h]

/-- Parking a ring while a check runs fails the check. -/
theorem Common.parkRing_checking (cause : Nat) (h : (c.port n).t.check.isSome = true) : c.parkRing n r cause =
    ((c.modRing n r (fun g => g.slipped c.pick)).modTrain n (fun t => { t with checkBad := true })).requestMove n r.chan cause := by
  unfold Common.parkRing
  refine congrArg (fun d => Common.requestMove d n r.chan cause) (Common.modPort_congr _ n _ _ ?_)
  simp [h]

/-- A calm port can begin a check. -/
theorem Port.calm_checks (p : Port) (h : p.calm = true) : p.t.checks := by
  simp only [Port.calm, Bool.and_eq_true, beq_iff_eq] at h
  obtain ⟨⟨⟨⟨⟨⟨⟨raised, -⟩, -⟩, check⟩, -⟩, -⟩, -⟩, -⟩ := h
  exact ⟨.inl raised, by simpa using check⟩

/-- A check that began stands. -/
theorem Common.check_startCheck (h : (c.port n).t.checks) : ((c.startCheck n true).port n).t.check.isSome = true := by
  simp [c.startCheck_begins n true h]

/-! ### Slips -/

theorem Common.relockRing_intact (h : ((c.port n).ring r).slipAt = none) : c.relockRing n r = c.lockRing n r := by
  simp only [Common.relockRing, h]

theorem Common.relockRing_late (t : Nat) (h : ((c.port n).ring r).slipAt = some t) (late : t + 10000 < c.pick) : c.relockRing n r = c := by
  simp only [Common.relockRing, h]
  exact if_neg (Nat.not_le.mpr late)

theorem Common.relockRing_soon (t : Nat) (h : ((c.port n).ring r).slipAt = some t) (soon : c.pick ≤ t + 10000) : c.relockRing n r =
    (((c.bumpLo (peA c.part (engineOf c.part n).1 0x030)).errTransient 0x1).lockRing n r).modTrain n
      (fun t => { t with roles := if roleOf t.roles r.chan = 0x23 then t.roles.set r.chan 0x21 else t.roles }) := by
  simp only [Common.relockRing, h]
  exact if_pos soon

theorem Common.slipLasting_intact (h : ((c.port n).ring r).slipAt = none) : c.slipLasting n r = c := by
  simp only [Common.slipLasting, h]

theorem Common.slipLasting_soon (t : Nat) (h : ((c.port n).ring r).slipAt = some t) (soon : c.pick < t + 10000) : c.slipLasting n r = c := by
  simp only [Common.slipLasting, h]
  exact if_neg (Nat.not_le.mpr soon)

/-- A slip that lasts, with its count, its event and its loss. -/
def Common.slipTold : Common :=
  ((c.bumpHi (peA c.part (engineOf c.part n).1 0x030)).peEvent (engineOf c.part n).1 0x9 (posOf c.part n).2 (engineOf c.part n).2).unitLost 0x1 n

theorem Common.slipLasting_late (t : Nat) (h : ((c.port n).ring r).slipAt = some t) (late : t + 10000 ≤ c.pick) : c.slipLasting n r =
    ((c.slipTold n).modRing n r (fun g => { g with slipAt := none })).modTrain n
      (fun t => { t with roles := if roleOf t.roles r.chan = 0x23 ∨ roleOf t.roles r.chan = 0x21 then t.roles.set r.chan 0x22 else t.roles }) := by
  simp only [Common.slipLasting, h]
  exact if_pos late

@[simp] theorem Common.port_slipTold (m : Nat) : (c.slipTold n).port m = c.port m := by simp [Common.slipTold]

@[simp] theorem Common.port_errTransient (kind m : Nat) : (c.errTransient kind).port m = c.port m := rfl

@[simp] theorem Common.rd_errTransient (kind a : Nat) : (c.errTransient kind).rd a = c.rd a := by cases c; rfl

/-- A unit that is lost is out. -/
theorem Common.unitLost_out (kind unit : Nat) : (Tab.get (c.unitLost kind unit).ledger.loss {} (unitKey kind unit)).out = true := by
  simp [Common.unitLost]

theorem Common.slipTold_out : (Tab.get (c.slipTold n).ledger.loss {} (unitKey 0x1 n)).out = true := Common.unitLost_out _ 0x1 n

/-- The count of slips stands apart from the events of its engine and of its part. -/
theorem peA_slips_ne (part : Part) (g : Nat) : peA part g 0x030 ≠ peA part g 0x00C ∧ peA part g 0x030 ≠ resA part 4 := by
  cases part <;> simp only [peA, resA] <;> omega

theorem Common.rd_slipTold : (c.slipTold n).rd (peA c.part (engineOf c.part n).1 0x030) =
    (c.bumpHi (peA c.part (engineOf c.part n).1 0x030)).rd (peA c.part (engineOf c.part n).1 0x030) := by
  obtain ⟨apart, lost⟩ := peA_slips_ne c.part (engineOf c.part n).1
  rw [Common.slipTold, Common.rd_unitLost_other _ _ _ _ (by simpa [Common.peEvent] using lost), Common.peEvent, Common.rd_event_other _ _ _ _ (by simpa using apart)]

/-! ### Heaters -/

/-- Rings that each change by their own place alone. -/
theorem heaters_moved (F : Ring → Ring) (l : List Nat) (once : l.Nodup) (t : Tab Ring) (ch : Nat) (h : ch ∈ l) :
    Tab.get (l.foldl (fun t ch => Tab.upd t {} ch F) t) {} ch = F (Tab.get t {} ch) :=
  (each_own (fun (t : Tab Ring) ch => Tab.get t ({} : Ring) ch) (fun _ g => F g) (fun _ => True) (fun t ch => Tab.upd t {} ch F) (fun t a _ => by simp)
    (fun t a b hb => Tab.get_upd_other _ _ _ _ _ hb) (fun _ _ _ => trivial) l once t trivial ch).trans (if_pos h)

/-- The move of a heater that a temperature brings (R477). -/
def Common.heated (temp : Int) (g : Ring) : Ring :=
  { g with heater := Config.heaterCode g.heater (-(fld (c.rd (pePortA c.part n 0x054)) 11 0 : Int) * (temp - (c.port n).op.sensorLast)) % 16384 }

/-- The rings of one side of a port after a feed-forward sample. -/
def Common.allHeated (temp : Int) (t : Tab Ring) : Tab Ring := (List.range 34).foldl (fun t ch => Tab.upd t {} ch (c.heated n temp)) t

theorem Common.feedForward_eq (temp : Int) : ∃ f, c.feedForward n temp =
    (c.modOptics n (fun o => { o with tx := c.allHeated n temp o.tx, rx := c.allHeated n temp o.rx, sensorLast := temp })).modEngine (engineOf c.part n).1 f :=
  ⟨_, by unfold Common.feedForward Common.allHeated Common.heated; rfl⟩

/-- The optics of a port after a feed-forward sample. -/
theorem Common.port_feedForward_same (temp : Int) : (c.feedForward n temp).port n =
    { c.port n with op := { (c.port n).op with tx := c.allHeated n temp (c.port n).op.tx, rx := c.allHeated n temp (c.port n).op.rx, sensorLast := temp } } := by
  obtain ⟨f, e⟩ := c.feedForward_eq n temp
  rw [e, Common.port_modEngine, Common.modOptics, Common.port_modPort_same]

theorem Common.get_allHeated (temp : Int) (t : Tab Ring) (ch : Nat) (h : ch < 34) : Tab.get (c.allHeated n temp t) {} ch = c.heated n temp (Tab.get t {} ch) :=
  heaters_moved _ _ List.nodup_range t ch (List.mem_range.mpr h)

theorem Common.feedForward_sensor (temp : Int) : ((c.feedForward n temp).port n).op.sensorLast = temp := by rw [Common.port_feedForward_same]

theorem Common.feedForward_train (temp : Int) : ((c.feedForward n temp).port n).t = (c.port n).t := by rw [Common.port_feedForward_same]

theorem Common.feedForward_heater (temp : Int) (tx : Bool) (ch : Nat) (h : ch < 34) : (((c.feedForward n temp).port n).ring { tx := tx, chan := ch }).heater =
    Config.heaterCode ((c.port n).ring { tx := tx, chan := ch }).heater
      (-(fld (c.rd (pePortA c.part n 0x054)) 11 0 : Int) * (temp - (c.port n).op.sensorLast)) % 16384 := by
  simp only [Port.ring, Common.port_feedForward_same]
  cases tx
  all_goals
    simp only [if_true, Bool.false_eq_true, if_false, c.get_allHeated n temp _ ch h]
    rfl

theorem Common.port_feedForward_other (temp : Int) (m : Nat) (h : m ≠ n) : (c.feedForward n temp).port m = c.port m := by
  obtain ⟨f, e⟩ := c.feedForward_eq n temp
  rw [e, Common.port_modEngine, Common.port_modOptics_other _ h]

end

/-- Settles O27: rings lock and slip, heaters move, the spare's light arrives. -/
theorem ringsLockAndSlip : Obligations.RingsLockAndSlip := by
  unfold Obligations.RingsLockAndSlip
  refine ⟨fun s part port r has => ?_, fun s part port temp has => ?_, fun s part port r has => ?_, fun s part g works there => ?_⟩
  · simp only [exec_ringsLocked, exec_ringLockLost, exec_ringRelock, exec_slipRelockTimeout, execRingsLocked, execRingLockLost, execRingRelock, execSlipRelockTimeout,
      s.onPort_has part port _ has]
    generalize s.common part = c
    refine ⟨rfl, fun serving => ⟨_, by rw [c.ringLost_serving port r serving], ?_, fun m hm => ?_⟩, fun calm => ?_, fun down idle => ?_, fun intact => ?_, fun t slip => ⟨fun late => ?_,
      fun soon => ?_, fun soon => ⟨_, by rw [c.relockRing_soon port r t slip soon], ?_⟩, fun late => ⟨_, by rw [c.slipLasting_late port r t slip late], ?_⟩⟩⟩
    · rw [Common.ring_parkRing, Port.ring_congr r _ _ (Common.op_startCheck _ _ _), Common.pick_startCheck, Ring.slipped]
    · simp [hm]
    · have checks := (c.port port).calm_checks calm
      rw [c.ringLost_serving port r checks.1, Common.parkRing_checking _ _ _ _ (c.check_startCheck port checks), Common.pick_startCheck]
      rfl
    · rw [c.ringLost_out port r (by simp [down, idle])]
    · rw [c.relockRing_intact port r intact, c.slipLasting_intact port r intact]
      exact ⟨rfl, rfl⟩
    · rw [c.relockRing_late port r t slip late]
    · rw [c.slipLasting_soon port r t slip soon]
    · refine ⟨?_, by simp, by simp, fun m hm => by simp [hm]⟩
      rw [Common.ring_modTrain, Common.ring_lockRing]
      simp
    · refine ⟨?_, ?_, ?_, by simpa [Common.modRing] using c.slipTold_out port, fun m hm => ?_⟩
      · rw [Common.ring_modTrain, Common.ring_modRing_same, Common.port_slipTold]
      · simp
      · rw [Common.rd_modTrain, Common.rd_modRing, Common.rd_slipTold]
      · simp [hm]
  · refine ⟨_, by rw [exec_feedforwardSample, execFeedforwardSample, s.onPort_has part port _ has], ?_⟩
    generalize s.common part = c
    exact ⟨c.feedForward_sensor port temp, c.feedForward_train port temp, c.feedForward_heater port temp, c.port_feedForward_other port temp⟩
  · rw [exec_opticalReport, execOpticalReport, s.onPort_has part port _ has]
  · rw [exec_spareLightArrived, execSpareLightArrived, if_pos there, onPart_after s part _ works]
    generalize s.common part = c
    refine ⟨fun w swap phase => ?_, fun none_ => ?_⟩
    · simp only [Common.spareArrived, swap, phase, if_true]
    · unfold Common.spareArrived
      split
      · next w swap => rw [if_neg (none_ w swap)]
      · rfl

end Sys2Proof.Machine
end

section
/-!
PROOF. Monitors, probe light and eye safety (R483, R489, R498 to R500, R537).
-/

namespace Sys2Proof.Machine

section
variable (c : Common) (n : Nat)

/-! ### What a sample stores -/

/-- The optics of a port with the readings of a sample. -/
def PortOptics.sampled (o : PortOptics) (m : MonitorIn) : PortOptics :=
  { o with
    tap := m.tap.getD o.tap, dist := m.dist.getD o.dist, rxIn := m.rxIn.getD o.rxIn,
    drop := m.drop.foldl (fun d e => Tab.put d e.1 e.2) o.drop,
    tx := keepErr o.tx m.txErr, rx := keepErr o.rx m.rxErr }

/-- A comb with the readings of a sample. -/
def Comb.sampled (b : Comb) (m : MonitorIn) : Comb := { b with out := m.combOut.getD b.out, bias := m.combBias.getD b.bias, lockErr := m.combLockErr.getD b.lockErr }

/-- The comb that feeds a port. -/
def Common.combOf : Nat := c.feeding (posOf c.part n).1 (posOf c.part n).2

/-- The readings of a comb are stored where the sample brings any. -/
def Common.combSampled (k : Nat) (m : MonitorIn) : Common :=
  if m.combOut.isNone ∧ m.combBias.isNone ∧ m.combLockErr.isNone then c else c.modComb k (fun b => b.sampled m)

/-- A comb's output falls more than 1.0 dB below its setpoint (Table 12.16). -/
def Common.outputWatched (k : Nat) (m : MonitorIn) (old : Comb) (set : Int) : Common :=
  match m.combOut with
  | some v => if v < set - 100 ∧ ¬ old.out < set - 100 ∧ old.st ≠ .dark then c.combEvent k 0x02 else c
  | none => c

/-- A comb's bias reaches its maximum (Table 12.16). -/
def Common.biasWatched (k : Nat) (m : MonitorIn) (old : Comb) (bol : Nat) : Common :=
  match m.combBias with
  | some v => if 0 < bol ∧ 16 * bol ≤ 10 * v ∧ 10 * old.bias < 16 * bol then c.combEvent k 0x03 else c
  | none => c

/-- All light gone at once pauses a port (R489). -/
def Common.darkWatched (m : MonitorIn) : Common := if m.allDark then c.pausePort n else c

/-- Light that is back starts the warm re-raise of a port that has none under way (R489). -/
def Common.lightWatched (m : MonitorIn) : Common := if m.lightBack ∧ (c.port n).t.resume = false then c.startResume n else c

/-- A port in stage 1 sees the far end's light through its open shutter, bright for 100 us. -/
abbrev Port.bright (p : Port) (m : MonitorIn) : Prop :=
  p.t.st = .raising ∧ p.t.stage = 1 ∧ p.op.farLight = true ∧ p.op.shutter = true ∧ 100 ≤ m.brightUs


/-- What a sample stores of its port and comb. -/
def Common.sampled (m : MonitorIn) : Common :=
  ((((c.modOptics n (fun o => o.sampled m)).combSampled (c.combOf n) m).outputWatched (c.combOf n) m (c.comb (c.combOf n))
    (power16 (c.rf' (combA c.part (c.combOf n) 0x014) 15 0))).biasWatched (c.combOf n) m (c.comb (c.combOf n)) (c.bol (c.combOf n)))

/-- A sample, step by step. -/
theorem Common.monitor_steps (m : MonitorIn) : c.monitor n m =
    (let d := ((c.sampled n m).darkWatched n m).lightWatched n m
     if (d.port n).bright m then (d.enterStage n 2).ringsSettled n else d) := by
  unfold Common.monitor
  extract_lets w k old c1 c2 set c3 c4 c5 c6 d
  have first : c2 = (c.modOptics n (fun o => o.sampled m)).combSampled k m := rfl
  have second : c3 = c2.outputWatched k m old set := rfl
  have third : c4 = c3.biasWatched k m old (c.bol k) := rfl
  have fourth : c4 = c.sampled n m := by rw [third, second, first]; rfl
  have fifth : c6 = d := by
    have : c6 = (c4.darkWatched n m).lightWatched n m := rfl
    rw [this, fourth]
  rw [fifth]

@[simp] theorem Common.port_combSampled (k : Nat) (m : MonitorIn) (j : Nat) : (c.combSampled k m).port j = c.port j := by
  unfold Common.combSampled
  split <;> simp

@[simp] theorem Common.port_outputWatched (k : Nat) (m : MonitorIn) (old : Comb) (set : Int) (j : Nat) : (c.outputWatched k m old set).port j = c.port j := by
  unfold Common.outputWatched
  repeat' split
  all_goals simp

@[simp] theorem Common.port_biasWatched (k : Nat) (m : MonitorIn) (old : Comb) (bol j : Nat) : (c.biasWatched k m old bol).port j = c.port j := by
  unfold Common.biasWatched
  repeat' split
  all_goals simp

@[simp] theorem Common.comb_outputWatched (k : Nat) (m : MonitorIn) (old : Comb) (set : Int) (j : Nat) : (c.outputWatched k m old set).comb j = c.comb j := by
  unfold Common.outputWatched
  repeat' split
  all_goals simp

@[simp] theorem Common.comb_biasWatched (k : Nat) (m : MonitorIn) (old : Comb) (bol j : Nat) : (c.biasWatched k m old bol).comb j = c.comb j := by
  unfold Common.biasWatched
  repeat' split
  all_goals simp

theorem Common.comb_combSampled (k : Nat) (m : MonitorIn) : (c.combSampled k m).comb k = (c.comb k).sampled m := by
  unfold Common.combSampled
  split
  · next none_ =>
    obtain ⟨out, bias, err⟩ := none_
    simp only [Option.isNone_iff_eq_none] at out bias err
    simp [Comb.sampled, out, bias, err]
  · simp

theorem Common.port_sampled_same (m : MonitorIn) : (c.sampled n m).port n = { c.port n with op := (c.port n).op.sampled m } := by
  simp [Common.sampled, Common.modOptics]

theorem Common.port_sampled_other (m : MonitorIn) (j : Nat) (h : j ≠ n) : (c.sampled n m).port j = c.port j := by
  simp [Common.sampled, h]

theorem Common.comb_sampled (m : MonitorIn) : (c.sampled n m).comb (c.combOf n) = (c.comb (c.combOf n)).sampled m := by
  rw [Common.sampled, Common.comb_biasWatched, Common.comb_outputWatched, Common.comb_combSampled, Common.comb_modOptics]

/-! ### What follows from a sample -/

/-- What a sample reads of the optics of a port. -/
def PortOptics.readings (o : PortOptics) := (o.tap, o.dist, o.rxIn, o.drop, o.tx, o.rx)

@[simp] theorem Common.readings_pausePort : ((c.pausePort n).port n).op.readings = (c.port n).op.readings := by
  unfold Common.pausePort
  split
  · simp [PortOptics.readings]
  · rfl

@[simp] theorem Common.readings_enterStage2 : ((c.enterStage n 2).port n).op.readings = (c.port n).op.readings := by
  simp [Common.enterStage, PortOptics.readings]

@[simp] theorem Common.readings_ringsSettled : ((c.ringsSettled n).port n).op.readings = (c.port n).op.readings :=
  congrArg PortOptics.readings (c.ringsSettled_keeps n).1

@[simp] theorem Common.readings_startResume : ((c.startResume n).port n).op.readings = (c.port n).op.readings := by
  unfold Common.startResume
  split <;> simp

theorem Common.port_startResume_other (m : Nat) (h : m ≠ n) : (c.startResume n).port m = c.port m := by
  unfold Common.startResume
  split <;> simp [h]

theorem Common.startResume_out (h : (c.port n).t.st ≠ .paused) : c.startResume n = c := if_neg h

theorem Common.ringsSettled_st : ((c.ringsSettled n).port n).t.st = (c.port n).t.st := by
  rcases c.ringsSettled_cases n with e | e <;> simp [e, Common.port_enterStage_st]

theorem Common.ringsSettled_resume : ((c.ringsSettled n).port n).t.resume = (c.port n).t.resume := by
  rcases c.ringsSettled_cases n with e | e <;> simp [e, Common.enterStage]

/-- A paused port that starts to resume stays paused, and its warm re-raise is under way. -/
theorem Common.startResume_paused (h : (c.port n).t.st = .paused) : ((c.startResume n).port n).t.st = .paused ∧ ((c.startResume n).port n).t.resume = true := by
  unfold Common.startResume
  rw [if_pos h, Common.ringsSettled_st, Common.ringsSettled_resume]
  simp [Common.enterStage, h]

/-- The light of a port is watched: readings and combs stay. -/
theorem Common.darkWatched_keeps (m : MonitorIn) : ((c.darkWatched n m).port n).op.readings = (c.port n).op.readings ∧ (∀ k, (c.darkWatched n m).comb k = c.comb k) ∧
    ∀ j, j ≠ n → (c.darkWatched n m).port j = c.port j := by
  unfold Common.darkWatched
  split
  · exact ⟨by simp, by simp, fun j hj => by simp [hj]⟩
  · exact ⟨rfl, fun _ => rfl, fun _ _ => rfl⟩

theorem Common.lightWatched_keeps (m : MonitorIn) : ((c.lightWatched n m).port n).op.readings = (c.port n).op.readings ∧ (∀ k, (c.lightWatched n m).comb k = c.comb k) ∧
    ∀ j, j ≠ n → (c.lightWatched n m).port j = c.port j := by
  unfold Common.lightWatched
  split
  · exact ⟨by simp, by simp, c.port_startResume_other n⟩
  · exact ⟨rfl, fun _ => rfl, fun _ _ => rfl⟩

theorem Common.darkWatched_st (m : MonitorIn) : ((c.darkWatched n m).port n).t.st = if m.allDark = true ∧ (c.port n).t.st = .raised then .paused else (c.port n).t.st := by
  unfold Common.darkWatched
  by_cases dark : m.allDark = true
  · by_cases up : (c.port n).t.st = .raised
    · simp [dark, up, c.pausePort_raised n up, Port.pausedBy]
    · simp [dark, up, c.pausePort_other n up]
  · simp [dark]

theorem Common.darkWatched_out (m : MonitorIn) (h : m.allDark = false ∨ (c.port n).t.st ≠ .raised) : c.darkWatched n m = c := by
  unfold Common.darkWatched
  split
  · next dark => exact c.pausePort_other n (h.resolve_left (by simp [dark]))
  · rfl

theorem Common.lightWatched_st (m : MonitorIn) : ((c.lightWatched n m).port n).t.st = (c.port n).t.st := by
  unfold Common.lightWatched
  split
  · by_cases paused : (c.port n).t.st = .paused
    · rw [(c.startResume_paused n paused).1, paused]
    · rw [c.startResume_out n paused]
  · rfl

theorem Common.lightWatched_out (m : MonitorIn) (h : m.lightBack = false ∨ (c.port n).t.st ≠ .paused) : c.lightWatched n m = c := by
  unfold Common.lightWatched
  split
  · next back => exact c.startResume_out n (h.resolve_left (by simp [back.1]))
  · rfl

/-- With light back, a paused port has its warm re-raise under way. -/
theorem Common.lightWatched_resume (m : MonitorIn) (back : m.lightBack = true) (paused : ((c.lightWatched n m).port n).t.st = .paused) :
    ((c.lightWatched n m).port n).t.resume = true := by
  rw [c.lightWatched_st n m] at paused
  unfold Common.lightWatched
  split
  · exact (c.startResume_paused n paused).2
  · next running => simpa [back] using running

/-- The port behind a sample, before stage 1 is looked at. -/
def Common.watched (m : MonitorIn) : Common := ((c.sampled n m).darkWatched n m).lightWatched n m

theorem Common.watched_st (m : MonitorIn) : ((c.watched n m).port n).t.st = if m.allDark = true ∧ (c.port n).t.st = .raised then .paused else (c.port n).t.st := by
  rw [Common.watched, Common.lightWatched_st, Common.darkWatched_st, Common.port_sampled_same]

/-- Where no light goes or comes back, and in a raise, the port has its readings and nothing else has changed. -/
theorem Common.watched_calm (m : MonitorIn) (dark : m.allDark = false ∨ (c.port n).t.st ≠ .raised) (back : m.lightBack = false ∨ (c.port n).t.st ≠ .paused) :
    c.watched n m = c.sampled n m := by
  have same := c.port_sampled_same n m
  rw [Common.watched, Common.darkWatched_out _ _ _ (by rw [same]; exact dark), Common.lightWatched_out _ _ _ (by rw [same]; exact back)]

theorem Common.watched_keeps (m : MonitorIn) : ((c.watched n m).port n).op.readings = ((c.port n).op.sampled m).readings ∧
    (c.watched n m).comb (c.combOf n) = (c.comb (c.combOf n)).sampled m ∧ ∀ j, j ≠ n → (c.watched n m).port j = c.port j := by
  obtain ⟨dr, dc, dp⟩ := (c.sampled n m).darkWatched_keeps n m
  obtain ⟨lr, lc, lp⟩ := ((c.sampled n m).darkWatched n m).lightWatched_keeps n m
  refine ⟨?_, (lc _).trans ((dc _).trans (c.comb_sampled n m)), fun j hj => (lp j hj).trans ((dp j hj).trans (c.port_sampled_other n m j hj))⟩
  rw [Common.watched, lr, dr, c.port_sampled_same]

theorem Common.monitor_bright (m : MonitorIn) (h : ((c.watched n m).port n).bright m) : c.monitor n m = ((c.watched n m).enterStage n 2).ringsSettled n :=
  (c.monitor_steps n m).trans (if_pos h)

theorem Common.monitor_dim (m : MonitorIn) (h : ¬((c.watched n m).port n).bright m) : c.monitor n m = c.watched n m :=
  (c.monitor_steps n m).trans (if_neg h)

/-- Whether the rings of a port are locked is read off its optics and its roles. -/
theorem Port.ringsLocked_congr (p q : Port) (op : p.op = q.op) (roles : p.t.roles = q.t.roles) : p.ringsLocked = q.ringsLocked := by
  simp only [Port.ringsLocked, Port.chanLocked, op, roles]

/-- A port in stage 2 of a raise goes on to stage 3 if its rings are locked. -/
theorem Common.ringsSettled_stage (run : (c.port n).t.st = .raising) (stage : (c.port n).t.stage = 2) :
    ((c.ringsSettled n).port n).t.stage = if ((c.ringsSettled n).port n).ringsLocked = true then 3 else 2 := by
  obtain ⟨op, roles, -⟩ := c.ringsSettled_keeps n
  rw [Port.ringsLocked_congr _ _ op roles]
  unfold Common.ringsSettled
  dsimp only
  by_cases locked : (c.port n).ringsLocked = true
  · rw [if_pos ⟨.inl run, stage, locked⟩, if_pos locked, Common.port_enterStage_stage]
  · rw [if_neg (fun h => locked h.2.2), if_neg locked, stage]

/-- A raise that leaves stage 1. -/
theorem Common.leaves_stage1 (run : (c.port n).t.st = .raising) : let q := ((c.enterStage n 2).ringsSettled n).port n
    q.t.st = .raising ∧ q.t.stage = if q.ringsLocked = true then 3 else 2 :=
  ⟨(Common.ringsSettled_st _ n).trans ((c.port_enterStage_st n 2).trans run),
    Common.ringsSettled_stage _ n ((c.port_enterStage_st n 2).trans run) (c.port_enterStage_stage n 2)⟩

/-- What the readings of a port are, one by one. -/
theorem PortOptics.readings_eq (o p : PortOptics) (h : o.readings = p.readings) :
    o.tap = p.tap ∧ o.dist = p.dist ∧ o.rxIn = p.rxIn ∧ o.drop = p.drop ∧ o.tx = p.tx ∧ o.rx = p.rx := by
  simpa [PortOptics.readings] using h

/-- A port that sees light in stage 1 is read as it was before the sample. -/
theorem Common.watched_bright (m : MonitorIn) (run : (c.port n).t.st = .raising) : ((c.watched n m).port n).bright m ↔ (c.port n).bright m := by
  rw [c.watched_calm n m (.inr (by simp [run])) (.inr (by simp [run])), c.port_sampled_same]
  rfl

/-- A port that is seen bright is in a raise. -/
theorem Common.bright_raising (m : MonitorIn) (h : ((c.watched n m).port n).bright m) : (c.port n).t.st = .raising := by
  have run := h.1
  rw [c.watched_st n m] at run
  split at run
  · cases run
  · exact run

theorem Common.monitor_other (m : MonitorIn) (j : Nat) (h : j ≠ n) : (c.monitor n m).port j = c.port j := by
  have same := (c.watched_keeps n m).2.2 j h
  by_cases bright : ((c.watched n m).port n).bright m
  · rw [c.monitor_bright n m bright]
    simpa [h] using same
  · rwa [c.monitor_dim n m bright]

theorem Common.monitor_readings (m : MonitorIn) : ((c.monitor n m).port n).op.readings = ((c.port n).op.sampled m).readings := by
  have same := (c.watched_keeps n m).1
  by_cases bright : ((c.watched n m).port n).bright m
  · rw [c.monitor_bright n m bright]
    simpa using same
  · rwa [c.monitor_dim n m bright]

theorem Common.monitor_comb (m : MonitorIn) : (c.monitor n m).comb (c.combOf n) = (c.comb (c.combOf n)).sampled m := by
  have same := (c.watched_keeps n m).2.1
  by_cases bright : ((c.watched n m).port n).bright m
  · rw [c.monitor_bright n m bright]
    simpa using same
  · rwa [c.monitor_dim n m bright]

theorem Common.monitor_st (m : MonitorIn) : ((c.monitor n m).port n).t.st = if m.allDark = true ∧ (c.port n).t.st = .raised then .paused else (c.port n).t.st := by
  by_cases bright : ((c.watched n m).port n).bright m
  · rw [c.monitor_bright n m bright, (Common.leaves_stage1 _ n bright.1).1, c.bright_raising n m bright]
    simp
  · rw [c.monitor_dim n m bright, c.watched_st n m]

theorem Common.monitor_resume (m : MonitorIn) (back : m.lightBack = true) (paused : ((c.monitor n m).port n).t.st = .paused) : ((c.monitor n m).port n).t.resume = true := by
  by_cases bright : ((c.watched n m).port n).bright m
  · rw [c.monitor_bright n m bright, (Common.leaves_stage1 _ n bright.1).1] at paused
    cases paused
  · rw [c.monitor_dim n m bright] at paused ⊢
    exact Common.lightWatched_resume _ n m back paused

theorem Common.monitor_train (m : MonitorIn) (dark : m.allDark = false) (back : m.lightBack = false) (out : (c.port n).t.st ≠ .raising ∨ (c.port n).t.stage ≠ 1) :
    ((c.monitor n m).port n).t = (c.port n).t := by
  have dim : ¬((c.watched n m).port n).bright m := fun bright => by
    have run := c.bright_raising n m bright
    obtain ⟨-, stage, -⟩ := (c.watched_bright n m run).mp bright
    exact out.elim (fun h => h run) (fun h => h stage)
  rw [c.monitor_dim n m dim, c.watched_calm n m (.inl dark) (.inl back), c.port_sampled_same]

theorem Common.monitor_stage1 (m : MonitorIn) (run : (c.port n).t.st = .raising) (stage : (c.port n).t.stage = 1) : ((c.monitor n m).port n).t.stage =
    if (c.port n).op.farLight = true ∧ (c.port n).op.shutter = true ∧ 100 ≤ m.brightUs then (if ((c.monitor n m).port n).ringsLocked = true then 3 else 2) else 1 := by
  have seen := c.watched_bright n m run
  by_cases bright : ((c.watched n m).port n).bright m
  · rw [if_pos (seen.mp bright).2.2, c.monitor_bright n m bright]
    exact (Common.leaves_stage1 _ n bright.1).2
  · rw [if_neg (fun h => bright (seen.mpr ⟨run, stage, h⟩)), c.monitor_dim n m bright, c.watched_calm n m (.inr (by simp [run])) (.inr (by simp [run])),
      c.port_sampled_same, stage]

/-! ### Eye safety -/

/-- A port that is struck abruptly is struck, with no orderly strike left; with its shutter closed its optics stay. -/
theorem Common.strikeAbrupt_closed (cause : Nat) (closed : (c.port n).op.shutter = false) :
    ((c.strikeAbrupt n cause).port n).t.st = .struck ∧ ((c.strikeAbrupt n cause).port n).t.strike = none ∧ ((c.strikeAbrupt n cause).port n).op = (c.port n).op := by
  unfold Common.strikeAbrupt
  dsimp only
  split
  · next struck => exact ⟨struck.1, struck.2, rfl⟩
  · rw [if_neg (by simp [closed])]
    split
    · next struck => simp [Common.port_completeStrike_same, struck]
    · simp [Common.port_completeStrike_same, LinkTrain.left]

theorem Common.port_strikeAbrupt_other (cause m : Nat) (h : m ≠ n) : (c.strikeAbrupt n cause).port m = c.port m := by
  unfold Common.strikeAbrupt
  dsimp only
  repeat' split
  all_goals simp [Common.tellStrike, h]

theorem Common.lightStrike_other (cause m : Nat) (h : m ≠ n) : (c.lightStrike n cause).port m = c.port m := by
  simp [Common.lightStrike, Common.shutterStrike, Common.port_modPort_other _ _ _ _ h, Common.port_strikeAbrupt_other _ _ _ _ h, h]

/-- What light struck leaves of its port (R498, R499). -/
theorem Common.lightStrike_shuts (cause : Nat) : let q := (c.lightStrike n cause).port n
    q.t.st = .struck ∧ q.t.strike = none ∧ q.op.shutter = false ∧ q.op.ostate = .probe ∧ (cause = 7 → q.op.opened = true) ∧ (cause ≠ 7 → q.op.limit = true) := by
  obtain ⟨st, strike, op⟩ := Common.strikeAbrupt_closed
    ((c.peEvent (engineOf c.part n).1 cause (posOf c.part n).2 (engineOf c.part n).2).modOptics n (fun o => { o with shutter := false })) n causeLight (by simp [Common.modOptics])
  by_cases seven : cause = 7
  all_goals simp [Common.lightStrike, Common.shutterStrike, Common.modOptics, seven] at st strike op ⊢
  all_goals simp [st, strike, op]

/-! ### Probe light -/

/-- The port may be raised by itself (R500): struck, at PROBE, with its automatic raise on, its strike and its hold over. -/
abbrev Common.raisable : Prop :=
  (c.port n).t.st = .struck ∧ (c.port n).op.ostate = .probe ∧ flag (c.rd (linkA c.part n 0x000)) 1 = true ∧ (c.port n).t.needCmd = false ∧ c.mayRaise n = true ∧
    (c.port n).t.holdUntil ≤ c.pick

/-- A pulse opens the shutter and leaves what a raise looks at. -/
theorem Common.probePulse_keeps : ((c.probePulse n).port n).t = (c.port n).t ∧ ((c.probePulse n).port n).op.ostate = (c.port n).op.ostate ∧
    (c.probePulse n).mayRaise n = c.mayRaise n ∧ ∀ m, m ≠ n → (c.probePulse n).port m = c.port m := by
  unfold Common.probePulse
  split
  · refine ⟨by simp [Common.modOptics], by simp [Common.modOptics], ?_, fun m hm => by simp [hm]⟩
    simp [Common.mayRaise, Common.lit, Common.feeding, Common.modOptics]
  · exact ⟨rfl, rfl, rfl, fun _ _ => rfl⟩

/-- A raise by the port itself is cold: it begins at stage 1. -/
theorem Common.startRaise_cold (kept : (c.port n).t.ringsKept = false) : c.startRaise n =
    ((c.modTrain n (fun t => { t with st := .raising, warm := false, raiseAsked := false })).modOptics n (fun o => { o with ostate := .probe })).enterStage n 1 := by
  simp [Common.startRaise, kept]

theorem Common.port_startRaise_other (kept : (c.port n).t.ringsKept = false) (m : Nat) (h : m ≠ n) : (c.startRaise n).port m = c.port m := by
  simp [c.startRaise_cold n kept, h]

theorem Common.train_startRaise (kept : (c.port n).t.ringsKept = false) : ((c.startRaise n).port n).t.st = .raising ∧ ((c.startRaise n).port n).t.stage = 1 ∧
    ((c.startRaise n).port n).t.warm = false ∧ ((c.startRaise n).port n).t.roles = defaultRoles := by
  simp [c.startRaise_cold n kept, Common.enterStage, Common.modOptics]

/-- Stage 1 sees the far light: the shutter opens fully. -/
def Common.seen : Common := c.modOptics n (fun o => { o with shutter := true, pulseEnd := none, farLight := true })

/-- A port that may be raised by itself starts a raise with its rings unlocked. -/
def Common.raisedCold : Common := (c.modTrain n (fun t => { t with ringsKept := false })).startRaise n

/-- What follows a pulse that the far light brings (R500). -/
theorem Common.probeSeen_eq : c.probeSeen n =
    (let d := if c.raisable n then (c.probePulse n).raisedCold n else c.probePulse n
     if (d.port n).t.st = .raising ∧ (d.port n).t.stage = 1 then d.seen n else d) := by
  obtain ⟨train, ostate, may, -⟩ := c.probePulse_keeps n
  unfold Common.probeSeen
  dsimp only
  rw [train, ostate, may]
  rfl

theorem Common.probeSeen_raisable (h : c.raisable n) : c.probeSeen n = ((c.probePulse n).raisedCold n).seen n := by
  obtain ⟨st, stage, -⟩ := Common.train_startRaise ((c.probePulse n).modTrain n (fun t => { t with ringsKept := false })) n (by simp)
  rw [Common.probeSeen_eq, if_pos h]
  exact if_pos ⟨st, stage⟩

theorem Common.probeSeen_waits (h : ¬c.raisable n) : c.probeSeen n =
    if (c.port n).t.st = .raising ∧ (c.port n).t.stage = 1 then (c.probePulse n).seen n else c.probePulse n := by
  rw [Common.probeSeen_eq, if_neg h]
  dsimp only
  rw [(c.probePulse_keeps n).1]

theorem Common.port_seen_other (m : Nat) (h : m ≠ n) : (c.seen n).port m = c.port m := c.port_modOptics_other h _

theorem Common.port_seen_same : (c.seen n).port n = { c.port n with op := { (c.port n).op with shutter := true, pulseEnd := none, farLight := true } } := c.port_modPort_same n _

/-! ### A warm re-raise ends -/

theorem Common.reraiseDone_out (i : Ident) (h : ¬((c.port n).t.st = .paused ∧ (c.port n).t.resume = true)) : c.reraiseDone n i = c := if_neg h

theorem Common.reraiseDone_resumes (i : Ident) (paused : (c.port n).t.st = .paused) (resume : (c.port n).t.resume = true) : c.reraiseDone n i =
    if (c.port n).far.bound = some i then (c.sendCtrl n (.ident (c.ownIdent n))).resumePort n
    else (c.sendCtrl n (.ident (c.ownIdent n))).strikeOrderly n causeIdentity false := if_pos ⟨paused, resume⟩

end

/-- Settles O28: what a sample, the probe light and the end of a warm re-raise leave of their port. -/
theorem lightIsWatched : Obligations.LightIsWatched := by
  intro s part n has
  simp only [exec_monitorSample, exec_openFibre, exec_launchLimit, exec_probePulse, exec_probeSet, exec_warmReraiseDone, execMonitorSample, execOpenFibre, execLaunchLimit,
    execProbePulse, execProbeSet, execWarmReraiseDone, s.onPort_has part n _ has]
  generalize s.common part = c
  refine ⟨fun m => ⟨_, rfl, c.monitor_other n m, ?_⟩, ⟨_, rfl, ?_⟩, ⟨_, rfl, ?_⟩, rfl, fun may => ?_, fun idle out => ?_, fun i => ⟨fun h => ?_, fun paused resume => ⟨fun same => ⟨_, rfl, ?_⟩,
    fun other => ⟨_, rfl, ?_⟩⟩⟩⟩
  · obtain ⟨tap, dist, rxIn, drop, tx, rx⟩ := PortOptics.readings_eq _ _ (c.monitor_readings n m)
    exact ⟨tap, dist, rxIn, drop, tx, rx, c.monitor_comb n m, c.monitor_st n m, c.monitor_resume n m, c.monitor_train n m, c.monitor_stage1 n m⟩
  · obtain ⟨st, strike, shutter, ostate, opened, -⟩ := c.lightStrike_shuts n 0x7
    exact ⟨st, strike, shutter, ostate, opened rfl, c.lightStrike_other n 0x7⟩
  · obtain ⟨st, strike, shutter, ostate, -, limit⟩ := c.lightStrike_shuts n 0x8
    exact ⟨st, strike, shutter, ostate, limit (by decide), c.lightStrike_other n 0x8⟩
  · obtain ⟨train, -, -, others⟩ := c.probePulse_keeps n
    by_cases ready : c.raisable n
    · obtain ⟨st, stage, warm, roles⟩ := Common.train_startRaise ((c.probePulse n).modTrain n (fun t => { t with ringsKept := false })) n (by simp)
      refine ⟨_, by rw [c.probeSeen_raisable n ready], ?_⟩
      rw [Common.port_seen_same]
      refine ⟨st, stage, rfl, rfl, rfl, fun run => absurd run (by simp [ready.1]), fun _ => ⟨warm, roles⟩, fun m hm => ?_⟩
      rw [Common.port_seen_other _ _ _ hm, Common.raisedCold, Common.port_startRaise_other _ _ (by simp) _ hm, Common.port_modTrain_other _ hm, others m hm]
    · obtain ⟨run, stage⟩ := may.resolve_left ready
      refine ⟨_, by rw [c.probeSeen_waits n ready, if_pos ⟨run, stage⟩], ?_⟩
      rw [Common.port_seen_same, train]
      exact ⟨run, stage, rfl, rfl, rfl, fun _ => rfl, fun struck => absurd struck (by simp [run]), fun m hm => (Common.port_seen_other _ n m hm).trans (others m hm)⟩
  · rw [c.probeSeen_waits n idle, if_neg out]
  · rw [c.reraiseDone_out n i h]
  · rw [c.reraiseDone_resumes n i paused resume, if_pos same]
    refine ⟨by simp [Common.resumePort], by simp [Common.resumePort], by simp [Common.resumePort], by simp [Common.resumePort], fun m hm => ?_⟩
    simp [Common.resumePort, hm, Common.port_modPort_other]
  · rw [c.reraiseDone_resumes n i paused resume, if_neg other, Common.strikeOrderly_serving _ _ _ _ (by simp [paused])]
    refine ⟨?_, ?_, fun m hm => by simp [hm]⟩
    · simp [Common.port_strikeRun_same, LinkTrain.left]
    · rw [Common.port_strikeRun_same]
      rfl

end Sys2Proof.Machine
end

section
/-!
PROOF. Registers bit by bit: a field that is replaced, the RW fields of a write through a view (R17, R706), and events (R716).
-/

namespace Sys2Proof.Machine

/-! ### Fields, bit by bit -/

/-- A number with its bits from `lo`, `w` of them, replaced. -/
theorem testBit_replaced (v x lo w j : Nat) :
    (v - v / 2 ^ lo % 2 ^ w * 2 ^ lo + x % 2 ^ w * 2 ^ lo).testBit j = if lo ≤ j ∧ j < lo + w then x.testBit (j - lo) else v.testBit j := by
  have low : v % 2 ^ lo < 2 ^ lo := Nat.mod_lt _ (Nat.two_pow_pos lo)
  have new : x % 2 ^ w < 2 ^ w := Nat.mod_lt _ (Nat.two_pow_pos w)
  have split_ : v - v / 2 ^ lo % 2 ^ w * 2 ^ lo + x % 2 ^ w * 2 ^ lo = 2 ^ lo * (2 ^ w * (v / 2 ^ lo / 2 ^ w) + x % 2 ^ w) + v % 2 ^ lo := by
    have whole := Nat.div_add_mod v (2 ^ lo)
    have middle := Nat.div_add_mod (v / 2 ^ lo) (2 ^ w)
    have expand : 2 ^ lo * (v / 2 ^ lo) = 2 ^ lo * (2 ^ w * (v / 2 ^ lo / 2 ^ w)) + v / 2 ^ lo % 2 ^ w * 2 ^ lo := by
      rw [← Nat.mul_comm (2 ^ lo) (v / 2 ^ lo % 2 ^ w), ← Nat.mul_add, middle]
    rw [Nat.mul_add, Nat.mul_comm (2 ^ lo) (x % 2 ^ w)]
    omega
  rw [split_, Nat.testBit_two_pow_mul_add _ low]
  by_cases below : j < lo
  · rw [if_pos below, if_neg (by omega), Nat.testBit_mod_two_pow]
    simp [below]
  · rw [if_neg below, Nat.testBit_two_pow_mul_add _ new]
    by_cases inside : j - lo < w
    · rw [if_pos inside, if_pos (by omega), Nat.testBit_mod_two_pow]
      simp [inside]
    · rw [if_neg inside, if_neg (by omega), Nat.testBit_div_two_pow, Nat.testBit_div_two_pow]
      congr 1
      omega

/-- A bit of a register with a field replaced. -/
theorem getLsbD_setFld (v : Reg) (hi lo x j : Nat) (hj : j < 32) : (setFld v hi lo x).getLsbD j = if lo ≤ j ∧ j ≤ hi then x.testBit (j - lo) else v.getLsbD j := by
  simp only [setFld, bits, BitVec.getLsbD_ofNat, hj, decide_true, Bool.true_and, testBit_replaced, BitVec.testBit_toNat]
  by_cases inside : lo ≤ j ∧ j ≤ hi
  · rw [if_pos inside, if_pos (by omega)]
  · rw [if_neg inside, if_neg (by omega)]

/-! ### Rows -/

/-- A row that is found stands in the list. -/
theorem findRow_mem (rows : List RegRow) (a i : Nat) (row : RegRow) (h : findRow rows a = some (row, i)) : row ∈ rows := by
  induction rows with
  | nil => cases h
  | cons r rows ih =>
    unfold findRow at h
    split at h
    · cases h
      exact List.mem_cons_self
    · exact List.mem_cons_of_mem r (ih h)

/-- RW fields lie in the 32 bits of a register. -/
theorem rowsOf_rw (part : Part) : (rowsOf part).all (fun r => decide (r.rw < 2 ^ 32)) = true := by cases part <;> decide +kernel

theorem regAt_rw (part : Part) (a i : Nat) (row : RegRow) (h : regAt part a = some (row, i)) : row.rw < 2 ^ 32 :=
  of_decide_eq_true (List.all_eq_true.mp (rowsOf_rw part) row (findRow_mem _ _ _ _ h))

/-- `EP_LHA_STEER` latches no events. -/
theorem steer_re : (regAt .ep 0x8000C).all (fun r => !r.1.re) = true := by decide +kernel

theorem State.not_steering_of_re (s : State) (part : Part) (a i : Nat) (row : RegRow) (hr : regAt part a = some (row, i)) (re : row.re = true) : ¬s.steering part a := by
  rintro ⟨rfl, rfl, -⟩
  have := steer_re
  rw [hr] at this
  simp [re] at this

/-! ### RW fields -/

/-- A bit outside a mask of 32 bits. -/
theorem testBit_outside (m j : Nat) (h : m < 2 ^ 32) (hj : j < 32) : (2 ^ 32 - 1 - m).testBit j = !m.testBit j := by
  rw [show 2 ^ 32 - 1 - m = 2 ^ 32 - (m + 1) by omega, Nat.testBit_two_pow_sub_succ h]
  simp [hj]

/-- Bits put in the place of RW fields. -/
theorem testBit_placed (old new rw j : Nat) (h : rw < 2 ^ 32) (hj : j < 32) :
    ((old &&& (2 ^ 32 - 1 - rw)) ||| (new &&& rw)).testBit j = if rw.testBit j then new.testBit j else old.testBit j := by
  rw [Nat.testBit_or, Nat.testBit_and, Nat.testBit_and, testBit_outside rw j h hj]
  cases rw.testBit j <;> simp

/-- What a view makes of the RW fields, bit by bit (R706). -/
theorem testBit_mergeBits (view : View) (rw old v j : Nat) (hv : v < 2 ^ 32) (hj : j < 32) (field : rw.testBit j = true) :
    (mergeBits view rw old v).testBit j = viewBit view (old.testBit j) (v.testBit j) := by
  have named : v &&& rw < 2 ^ 32 := Nat.lt_of_le_of_lt Nat.and_le_left hv
  have bit : (v &&& rw).testBit j = v.testBit j := by simp [Nat.testBit_and, field]
  have kept : (old &&& rw).testBit j = old.testBit j := by simp [Nat.testBit_and, field]
  cases view with
  | normal => exact bit
  | setBits => rw [mergeBits, Nat.testBit_or, bit, kept, viewBit]
  | clearBits => rw [mergeBits, Nat.testBit_and, testBit_outside _ j named hj, bit, kept, viewBit]
  | toggle => rw [mergeBits, Nat.testBit_xor, bit, kept, viewBit]

section
variable (c : Common) (row : RegRow) (a v : Nat)

/-- Storing RW fields, bit by bit. -/
theorem Common.setRw_bits (staged : Bool) (h : row.rw < 2 ^ 32) (j : Nat) (hj : j < 32) :
    ((c.setRw staged row a v).rd a).getLsbD j = if row.rw.testBit j then v.testBit j else (c.rd a).getLsbD j := by
  unfold Common.setRw
  split
  · next none_ => simp [none_]
  · rw [Common.rd_swStore_same, w32, BitVec.getLsbD_ofNat, testBit_placed _ _ _ _ h hj, BitVec.testBit_toNat]
    simp [hj]

/-- The file before a store: the value in force may be kept beside. -/
theorem Common.swStore_eq (edge : Bool) (x : Reg) :
    ∃ old, c.swStore edge a x = ({ c with rf := { c.rf with old := old } } : Common).wr a x ∧ (edge = false → old = c.rf.old) := by
  unfold Common.swStore
  cases edge with
  | false => exact ⟨c.rf.old, rfl, fun _ => rfl⟩
  | true =>
    simp only [Bool.true_and]
    split
    · exact ⟨_, rfl, fun h => absurd h (by decide)⟩
    · exact ⟨c.rf.old, rfl, fun _ => rfl⟩

theorem Common.setRw_other (staged : Bool) (b : Nat) (h : b ≠ a) : (c.setRw staged row a v).rd b = c.rd b := by
  unfold Common.setRw
  split
  · rfl
  · obtain ⟨old, eq, -⟩ := c.swStore_eq a (row.edge && !staged) (w32 (((c.rd a).toNat &&& (2 ^ 32 - 1 - row.rw)) ||| (v &&& row.rw)))
    rw [eq, Common.rd_wr_other _ _ _ _ h]
    rfl

/-- Storing RW fields changes the file alone. -/
theorem Common.setRw_file (staged : Bool) : c.setRw staged row a v =
    { c with rf := { c.rf with cur := (c.setRw staged row a v).rf.cur, old := (c.setRw staged row a v).rf.old } } := by
  unfold Common.setRw
  split
  · rfl
  · obtain ⟨old, eq, -⟩ := c.swStore_eq a (row.edge && !staged) (w32 (((c.rd a).toNat &&& (2 ^ 32 - 1 - row.rw)) ||| (v &&& row.rw)))
    rw [eq]
    rfl

/-- A committing set keeps no value beside (R690). -/
theorem Common.setRw_staged_file : c.setRw true row a v = { c with rf := { c.rf with cur := (c.setRw true row a v).rf.cur } } := by
  unfold Common.setRw
  split
  · rfl
  · obtain ⟨old, eq, keeps⟩ := c.swStore_eq a (row.edge && !true) (w32 (((c.rd a).toNat &&& (2 ^ 32 - 1 - row.rw)) ||| (v &&& row.rw)))
    rw [eq, keeps (by simp)]
    rfl

/-! ### Writable registers -/

/-- Bits that a write hands to WO fields, and bits that it names. -/
def actedBits (view : View) (row : RegRow) (v : Nat) : Nat := if view = .normal then v &&& row.wo else 0
def namedBits (view : View) (v : Nat) : Nat := if view = .normal then 2 ^ 32 - 1 else v

end

/-- A write of a register that software may write now is planned to store. -/
theorem State.plan_writable (s : State) (part : Part) (row : RegRow) (a v : Nat) (view : View) (shown : Reg) (h : s.writable part row a view = true) :
    (s.common part).plan row a view shown v = .store (mergeBits view row.rw shown.toNat v) (actedBits view row v) (namedBits view v) ∧ ¬s.steering part a := by
  simp only [State.writable, Bool.and_eq_true, Bool.not_eq_true', Bool.or_eq_false_iff, Bool.and_eq_false_imp, beq_eq_false_iff_ne, beq_iff_eq, Bool.or_eq_true, bne_iff_ne] at h
  obtain ⟨⟨⟨⟨⟨⟨always, admitted⟩, re⟩, wp⟩, mark⟩, fields⟩, steer⟩ := h
  refine ⟨?_, fun ⟨ep, at_, serve⟩ => ?_⟩
  · unfold Common.plan actedBits namedBits
    rw [if_neg (by rintro (h | ⟨h, k⟩); exacts [always h, by simp [admitted h] at k]), if_neg (by simp [re]), if_neg (by simp [wp]), if_neg (by simp [mark]),
      if_neg (by rintro ⟨rw0, h | h⟩; exacts [fields.elim (fun k => k rw0) (fun k => k.1 h), fields.elim (fun k => k rw0) (fun k => h k.2)])]
  · simp [steer ⟨ep, at_⟩] at serve

/-- A write that is planned to store puts the RW fields in place, and the register's own action follows. -/
theorem State.regWrite_stores (s : State) (part : Part) (a0 a v i : Nat) (view : View) (row : RegRow)
    (works : s.heldPart part = false) (decode : decodeAddr part a0 = .reg a view) (at_ : regAt part a = some (row, i)) (h : s.writable part row a view = true) :
    s.regWrite part a0 v = .next (s.afterWrite part ((s.common part).setRw false row a (mergeBits view row.rw (s.shownReg part a).toNat (v % 2 ^ 32))) a
      (actedBits view row (v % 2 ^ 32)) (namedBits view (v % 2 ^ 32))) := by
  obtain ⟨plan, free⟩ := s.plan_writable part row a (v % 2 ^ 32) view (s.shownReg part a) h
  cases part with
  | sw =>
    have plan : s.sw.c.plan row a view (s.sw.reg a) (v % 2 ^ 32) = _ := plan
    rw [State.regWrite, onSw_after _ _ works]
    simp only [SwState.write, decode, at_, plan, SwState.carry]
    rfl
  | ep =>
    have plan : s.ep.c.plan row a view (s.ep.reg a) (v % 2 ^ 32) = _ := plan
    rw [State.regWrite, onEp_after _ _ works]
    simp only [EpState.write, decode, at_, if_neg (show ¬(a = 0x8000C ∧ flag (s.ep.c.rd 0x80000) 0 = true) from fun k => free ⟨rfl, k⟩), plan, EpState.carry]
    rfl

/-- Settles O9: a write through a view merges into the RW fields bit by bit. -/
theorem writesFollowTheirViews : Obligations.WritesFollowTheirViews := by
  intro s part a0 a v i view row works decode at_ free
  have e := s.regWrite_stores part a0 a v i view row works decode at_ free
  refine ⟨_, fun j hj => ?_, fun b hb => Common.setRw_other _ _ _ _ _ b hb, Common.setRw_file _ _ _ _ _, e, e, e⟩
  rw [Common.setRw_bits _ _ _ _ _ (regAt_rw part a i row at_) j hj]
  split
  · next field =>
    rw [testBit_mergeBits view _ _ _ j (Nat.mod_lt _ (by decide)) hj field, BitVec.testBit_toNat, Nat.testBit_mod_two_pow]
    simp [hj]
  · rfl

/-! ### Events -/

section
variable (c : Common) (a low : Nat)

/-- The register of an event that was just latched (R716). -/
theorem Common.rd_event_same : (c.event a low).rd a = BitVec.ofNat 32 (nextSeq (Tab.get c.rf.seqs 0 a) * 65536 + low % 65536) := Common.rd_wr_same c a _

/-- The count of an event that was just latched. -/
theorem Common.seq_event : Tab.get (c.event a low).rf.seqs 0 a = nextSeq (Tab.get c.rf.seqs 0 a) := by
  unfold Common.event
  exact Tab.get_put_same _ _ _ _

/-- A count and fields that fit their halves of a register are read back. -/
theorem fld_event (seq low : Nat) (hs : seq < 65536) (hl : low < 65536) :
    fld (BitVec.ofNat 32 (seq * 65536 + low % 65536)) 31 16 = seq ∧ fld (BitVec.ofNat 32 (seq * 65536 + low % 65536)) 15 0 = low := by
  simp only [fld, bits, BitVec.toNat_ofNat]
  omega

theorem nextSeq_lt (seq : Nat) (h : seq < 65536) : nextSeq seq < 65536 := by
  unfold nextSeq
  split <;> omega

/-- How a write of an RE register is planned (R716). -/
theorem Common.plan_event (row : RegRow) (view : View) (shown : Reg) (v : Nat) (free : row.staged = .never) (re : row.re = true) :
    c.plan row a view shown v = if view = .normal ∧ fld (c.rd a) 31 16 ≠ 0 ∧ bits v 31 16 = fld (c.rd a) 31 16 then .clearEvent else .ignore .readOnly := by
  unfold Common.plan
  rw [if_neg (by simp [free]), if_pos re]

end

/-- A write of an RE register clears it where it carries its sequence, and else changes nothing. -/
theorem State.regWrite_event (s : State) (part : Part) (a0 a v i : Nat) (view : View) (row : RegRow) (works : s.heldPart part = false)
    (decode : decodeAddr part a0 = .reg a view) (at_ : regAt part a = some (row, i)) (free : row.staged = .never) (re : row.re = true) (hv : v < 2 ^ 32) :
    s.regWrite part a0 v = .next (s.after part
      (if view = .normal ∧ fld ((s.common part).rd a) 31 16 ≠ 0 ∧ v / 2 ^ 16 = fld ((s.common part).rd a) 31 16 then (s.common part).wr a 0 else s.common part)) := by
  have e := s.regWrite_unstored part a0 a v i view row _ works decode at_ (s.not_steering_of_re part a i row at_ re) ((s.common part).plan_event a row view _ _ free re)
  rw [Nat.mod_eq_of_lt hv, show bits v 31 16 = v / 2 ^ 16 by simp only [bits]; omega] at e
  split at e
  · next carries => rw [if_pos carries, e rfl]; rfl
  · next other => rw [if_neg other, e rfl, Common.unstored_readOnly]

/-- Settles O10: an event latches the next count, and only a write that carries it clears the register. -/
theorem eventsClearOnTheirSequence : Obligations.EventsClearOnTheirSequence := by
  refine ⟨fun c a low hl hs => ?_, fun s part a0 a v i view row works decode at_ free re hv => ?_⟩
  · obtain ⟨seq, fields⟩ := fld_event (nextSeq (Tab.get c.rf.seqs 0 a)) low (nextSeq_lt _ hs) hl
    rw [Common.seq_event, Common.rd_event_same]
    exact ⟨rfl, seq, fields, fun b hb => c.rd_event_other a b low hb⟩
  · have e := s.regWrite_event part a0 a v i view row works decode at_ free re hv
    exact ⟨e, e, e⟩

end Sys2Proof.Machine
end

section
/-!
PROOF. Counts and marks that software clears (R339, R623, R723): bit by bit in the file, and nothing besides.
-/

namespace Sys2Proof.Machine

/-- A field is zero when its bits are. -/
theorem fld_eq_zero_iff (v : Reg) (hi lo : Nat) (ord : lo ≤ hi) : fld v hi lo = 0 ↔ ∀ j, lo ≤ j → j ≤ hi → v.getLsbD j = false := by
  have bitAt (k : Nat) : (fld v hi lo).testBit k = (decide (k < hi + 1 - lo) && v.getLsbD (k + lo)) := by
    rw [fld, bits, Nat.testBit_mod_two_pow, Nat.testBit_div_two_pow, BitVec.testBit_toNat]
  constructor
  · intro zero j above below
    have := bitAt (j - lo)
    rw [zero, Nat.zero_testBit, Nat.sub_add_cancel above, decide_eq_true (show j - lo < hi + 1 - lo by omega)] at this
    simpa using this.symm
  · intro clear
    refine Nat.eq_of_testBit_eq fun k => ?_
    rw [bitAt, Nat.zero_testBit]
    by_cases inside : k < hi + 1 - lo
    · rw [clear (k + lo) (by omega) (by omega), Bool.and_false]
    · simp [inside]

/-- A bit of a register lies in a saturating field. -/
def satBit (part : Part) (a j : Nat) : Bool :=
  match regAt part a with
  | some (row, _) => row.sat.any (fun x => decide (x.2 ≤ j) && decide (j ≤ x.1))
  | none => false

/-- A part without what `ID_CNT_CLEAR` may change: the present values of registers, its ports, and the bases of holdover and key age. -/
def Common.countless (c : Common) : Common :=
  { c with rf := { c.rf with cur := [] }, ports := [], time := { c.time with holdBase := 0 }, sec := { c.sec with ageBase := 0 } }

/-- A part with what `ID_CNT_CLEAR` may change taken from another. -/
def Common.countsFrom (c d : Common) : Common :=
  { c with rf := { c.rf with cur := d.rf.cur }, ports := d.ports, time := { c.time with holdBase := d.time.holdBase }, sec := { c.sec with ageBase := d.sec.ageBase } }

/-- Two parts that differ in nothing else. -/
theorem Common.eq_countsFrom (c d : Common) (h : d.countless = c.countless) : d = c.countsFrom d :=
  calc d = d.countless.countsFrom d := rfl
    _ = c.countless.countsFrom d := by rw [h]
    _ = c.countsFrom d := rfl

section
variable (c : Common)

/-- The fields of a list in one register read 0. -/
def Common.zeroed (a : Nat) (l : List (Nat × Nat)) : Common := each l c (fun c x => c.wrF a x.1 x.2 0)

theorem Common.zeroed_bits (a j : Nat) (l : List (Nat × Nat)) (hj : j < 32) :
    ((c.zeroed a l).rd a).getLsbD j = ((c.rd a).getLsbD j && !l.any (fun x => decide (x.2 ≤ j) && decide (j ≤ x.1))) := by
  unfold Common.zeroed
  induction l generalizing c with
  | nil => simp
  | cons x l ih =>
    rw [each_cons, ih, Common.wrF, Common.rd_wr_same, getLsbD_setFld _ _ _ _ _ hj]
    by_cases inside : x.2 ≤ j ∧ j ≤ x.1
    · simp [inside]
    · simp only [if_neg inside, List.any_cons]
      have : (decide (x.2 ≤ j) && decide (j ≤ x.1)) = false := by simpa using inside
      rw [this, Bool.false_or]

theorem Common.zeroed_other (a b : Nat) (l : List (Nat × Nat)) (h : b ≠ a) : (c.zeroed a l).rd b = c.rd b :=
  each_keep (fun (c : Common) => c.rd b) l c _ fun c _ => c.rd_wr_other a b _ h

theorem Common.zeroed_keeps (a : Nat) (l : List (Nat × Nat)) : (c.zeroed a l).countless = c.countless ∧ (c.zeroed a l).part = c.part ∧ (c.zeroed a l).ports = c.ports :=
  ⟨each_keep Common.countless l c _ fun _ _ => rfl, each_keep Common.part l c _ fun _ _ => rfl, each_keep Common.ports l c _ fun _ _ => rfl⟩

/-- The saturating fields of the register at an address read 0. -/
def Common.satZeroed (a : Nat) : Common := match regAt c.part a with | some (row, _) => c.zeroed a row.sat | none => c

theorem Common.satZeroed_bits (a b j : Nat) (hj : j < 32) : ((c.satZeroed a).rd b).getLsbD j = ((c.rd b).getLsbD j && !(a == b && satBit c.part b j)) := by
  unfold Common.satZeroed satBit
  by_cases same : a = b
  · subst same
    cases regAt c.part a with
    | none => simp
    | some at_ => simp [c.zeroed_bits a j _ hj]
  · have others : (c.satZeroed a).rd b = c.rd b := by
      unfold Common.satZeroed
      split
      · exact c.zeroed_other a b _ (Ne.symm same)
      · rfl
    rw [Common.satZeroed] at others
    simp [others, same]

theorem Common.satZeroed_keeps (a : Nat) : (c.satZeroed a).countless = c.countless ∧ (c.satZeroed a).part = c.part ∧ (c.satZeroed a).ports = c.ports := by
  unfold Common.satZeroed
  split
  · exact c.zeroed_keeps a _
  · exact ⟨rfl, rfl, rfl⟩

/-- The registers of a list lose the bits of their saturating fields. -/
theorem Common.each_satZeroed_bits (l : List (Nat × Reg)) (b j : Nat) (hj : j < 32) :
    ((each l c (fun c e => c.satZeroed e.1)).rd b).getLsbD j = ((c.rd b).getLsbD j && !(l.any (fun e => e.1 == b) && satBit c.part b j)) := by
  induction l generalizing c with
  | nil => simp
  | cons e l ih =>
    rw [each_cons, ih, c.satZeroed_bits e.1 b j hj, (c.satZeroed_keeps e.1).2.1, List.any_cons]
    cases (c.rd b).getLsbD j <;> cases e.1 == b <;> cases l.any (fun e => e.1 == b) <;> cases satBit c.part b j <;> rfl

theorem Common.clearSat_eq (f : Nat → Bool) : c.clearSat f = each (c.rf.cur.filter (fun e => f e.1)) c (fun c e => c.satZeroed e.1) := rfl

theorem Common.clearSat_keeps (f : Nat → Bool) : (c.clearSat f).countless = c.countless ∧ (c.clearSat f).part = c.part ∧ (c.clearSat f).ports = c.ports := by
  rw [c.clearSat_eq f]
  exact ⟨each_keep Common.countless _ c _ fun c e => (c.satZeroed_keeps e.1).1, each_keep Common.part _ c _ fun c e => (c.satZeroed_keeps e.1).2.1,
    each_keep Common.ports _ c _ fun c e => (c.satZeroed_keeps e.1).2.2⟩

/-- A register that differs from its reset value stands in the file. -/
theorem Tab.find_any (t : Tab Reg) (a : Nat) (v : Reg) (h : Tab.find t a = some v) : t.any (fun e => e.1 == a) = true := by
  induction t with
  | nil => cases h
  | cons e t ih =>
    obtain ⟨k, w⟩ := e
    by_cases same : k = a
    · simp [same]
    · rw [Tab.find, if_neg same] at h
      simp [ih h]

/-- A bit of a saturating field of a register that is cleared is 0, or as it is after reset. -/
theorem Common.clearSat_sat (f : Nat → Bool) (a j : Nat) (hj : j < 32) (mem : f a = true) (sat : satBit c.part a j = true) (zero : (resetOf c.part a).getLsbD j = false) :
    ((c.clearSat f).rd a).getLsbD j = false := by
  rw [c.clearSat_eq f, c.each_satZeroed_bits _ a j hj, sat, Bool.and_true]
  cases held : Tab.find c.rf.cur a with
  | none => simp [Common.rd, held, zero]
  | some v =>
    have listed : (c.rf.cur.filter (fun e => f e.1)).any (fun e => e.1 == a) = true := by
      obtain ⟨e, he, same⟩ := List.any_eq_true.mp (Tab.find_any _ a v held)
      exact List.any_eq_true.mpr ⟨e, List.mem_filter.mpr ⟨he, by rw [beq_iff_eq.mp same]; exact mem⟩, same⟩
    simp [listed]

theorem Common.clearSat_unsat (f : Nat → Bool) (a j : Nat) (hj : j < 32) (h : satBit c.part a j = false) : ((c.clearSat f).rd a).getLsbD j = (c.rd a).getLsbD j := by
  rw [c.clearSat_eq f, c.each_satZeroed_bits _ a j hj, h, Bool.and_false, Bool.not_false, Bool.and_true]

theorem Common.clearSat_unnamed (f : Nat → Bool) (a : Nat) (h : f a = false) : (c.clearSat f).rd a = c.rd a := by
  refine BitVec.eq_of_getLsbD_eq fun j hj => ?_
  have none_ : (c.rf.cur.filter (fun e => f e.1)).any (fun e => e.1 == a) = false := by
    refine List.any_eq_false.mpr fun e he same => ?_
    have := (List.mem_filter.mp he).2
    rw [beq_iff_eq.mp same, h] at this
    cases this
  rw [c.clearSat_eq f, c.each_satZeroed_bits _ a j hj, none_, Bool.false_and, Bool.not_false, Bool.and_true]

/-! ### Counts outside the register file -/

/-- The counts of ports on a list are cleared. -/
def Common.portsCleared (l : List Nat) : Common := each l c (fun c n => c.clearPortCounts n)

theorem Common.portsCleared_keeps (l : List Nat) : (c.portsCleared l).countless = c.countless ∧ (c.portsCleared l).part = c.part ∧ (c.portsCleared l).rf = c.rf :=
  ⟨each_keep Common.countless l c _ fun _ _ => rfl, each_keep Common.part l c _ fun _ _ => rfl, each_keep Common.rf l c _ fun _ _ => rfl⟩

theorem Common.port_portsCleared (l : List Nat) (n : Nat) :
    (c.portsCleared l).port n = { c.port n with lane := ((c.portsCleared l).port n).lane, eyeMap := ((c.portsCleared l).port n).eyeMap } := by
  have kept : { (c.portsCleared l).port n with lane := [], eyeMap := [] } = { c.port n with lane := [], eyeMap := [] } :=
    each_keep (fun (c : Common) => { c.port n with lane := [], eyeMap := [] }) l c _ fun c m => by
      by_cases same : n = m
      · simp [same, Common.clearPortCounts]
      · simp [Common.clearPortCounts, Common.port_modPort_other _ _ _ _ same]
  calc (c.portsCleared l).port n
      = { ({ (c.portsCleared l).port n with lane := [], eyeMap := [] } : Port) with lane := ((c.portsCleared l).port n).lane, eyeMap := ((c.portsCleared l).port n).eyeMap } := rfl
    _ = _ := by rw [kept]

/-! ### `ID_CNT_CLEAR` -/

/-- The pages that a value names. -/
def Common.countsNamed (v a : Nat) : Bool := bit v 0 || a / 0x1000 * 0x1000 == pageOf c.part (v / 0x1000 * 0x1000)

/-- The register file and the ports after `ID_CNT_CLEAR`. -/
def Common.fileCleared (v : Nat) : Common :=
  let c1 := c.clearSat (c.countsNamed v)
  c1.portsCleared (c1.listed.filter (fun n => bit v 0 || pageOf c.part (v / 0x1000 * 0x1000) == linkA c.part n 0))

/-- Only the bases of holdover and of key age change besides. -/
theorem Common.clearCounts_keeps (v : Nat) : (c.clearCounts v).countless = (c.fileCleared v).countless ∧ (c.clearCounts v).part = (c.fileCleared v).part ∧
    (c.clearCounts v).rf = (c.fileCleared v).rf ∧ (c.clearCounts v).ports = (c.fileCleared v).ports := by
  unfold Common.clearCounts
  extract_lets all page hit c1 c2 c3
  have same : c2 = c.fileCleared v := rfl
  rw [← same]
  have third : c3.countless = c2.countless ∧ c3.part = c2.part ∧ c3.rf = c2.rf ∧ c3.ports = c2.ports := by
    unfold c3
    split <;> exact ⟨rfl, rfl, rfl, rfl⟩
  split
  · exact third
  · exact third

/-- A register is read off the part and its register file. -/
theorem Common.rd_congr (d : Common) (part : d.part = c.part) (rf : d.rf = c.rf) (a : Nat) : d.rd a = c.rd a := by simp only [Common.rd, part, rf]

theorem Common.clearCounts_rd (v a : Nat) : (c.clearCounts v).rd a = (c.clearSat (c.countsNamed v)).rd a := by
  obtain ⟨-, part, rf, -⟩ := c.clearCounts_keeps v
  obtain ⟨-, part', rf'⟩ := (c.clearSat (c.countsNamed v)).portsCleared_keeps
    ((c.clearSat (c.countsNamed v)).listed.filter (fun n => bit v 0 || pageOf c.part (v / 0x1000 * 0x1000) == linkA c.part n 0))
  exact (Common.rd_congr _ _ part rf a).trans (Common.rd_congr _ _ part' rf' a)

theorem Common.clearCounts_port (v n : Nat) :
    (c.clearCounts v).port n = { c.port n with lane := ((c.clearCounts v).port n).lane, eyeMap := ((c.clearCounts v).port n).eyeMap } := by
  obtain ⟨-, -, -, ports⟩ := c.clearCounts_keeps v
  have mine : (c.clearCounts v).port n = (c.fileCleared v).port n := by simp only [Common.port, ports]
  have before : (c.clearSat (c.countsNamed v)).port n = c.port n := by simp only [Common.port, (c.clearSat_keeps _).2.2]
  have cleared := (c.clearSat (c.countsNamed v)).port_portsCleared
    ((c.clearSat (c.countsNamed v)).listed.filter (fun n => bit v 0 || pageOf c.part (v / 0x1000 * 0x1000) == linkA c.part n 0)) n
  rw [before] at cleared
  rw [mine]
  exact cleared

theorem Common.clearCounts_countless (v : Nat) : (c.clearCounts v).countless = c.countless :=
  (c.clearCounts_keeps v).1.trans ((Common.portsCleared_keeps _ _).1.trans (c.clearSat_keeps _).1)

/-- A bit that lies in no saturating field of its register. -/
theorem satBit_out (part : Part) (a i j : Nat) (row : RegRow) (at_ : regAt part a = some (row, i)) (out : ∀ x ∈ row.sat, ¬(x.2 ≤ j ∧ j ≤ x.1)) : satBit part a j = false := by
  simpa [satBit, at_] using out

theorem satBit_in (part : Part) (a i j : Nat) (row : RegRow) (x : Nat × Nat) (at_ : regAt part a = some (row, i)) (mem : x ∈ row.sat) (lo : x.2 ≤ j) (hi : j ≤ x.1) :
    satBit part a j = true := by
  simp only [satBit, at_]
  exact List.any_eq_true.mpr ⟨x, mem, by simp [lo, hi]⟩

/-! ### High-water marks -/

/-- Registers of a list that read 0. -/
theorem Common.rd_each_zero (l : List Nat) (g : Nat → Nat) (a : Nat) : (each l c (fun c q => c.wr (g q) 0)).rd a = if l.any (fun q => a == g q) then 0 else c.rd a := by
  induction l generalizing c with
  | nil => rfl
  | cons q l ih =>
    rw [each_cons, ih, List.any_cons]
    by_cases same : a = g q
    · subst same
      simp
    · simp [same, Common.rd_wr_other]

/-- Storing registers changes the file alone. -/
theorem Common.each_wr_file (l : List Nat) (g : Nat → Nat) : let d := each l c (fun c q => c.wr (g q) 0)
    d = { c with rf := { c.rf with cur := d.rf.cur } } := by
  induction l generalizing c with
  | nil => rfl
  | cons q l ih =>
    rw [each_cons]
    exact ih (c.wr (g q) 0)

/-- The address of a mark is one of its port in this part. -/
theorem Common.hwmClr_eq (n v : Nat) : c.hwmClr n v = each ((List.range 11).filter (fun q => bit v q)) c (fun c' q => c'.wr (telA c.part n (0x040 + 4 * q)) 0) := by
  unfold Common.hwmClr
  generalize (List.range 11).filter (fun q => bit v q) = l
  have go : ∀ d : Common, d.part = c.part → each l d (fun c q => c.wr (telA c.part n (0x040 + 4 * q)) 0) = each l d (fun c' q => c'.wr (telA c.part n (0x040 + 4 * q)) 0) := by
    induction l with
    | nil => exact fun _ _ => rfl
    | cons q l ih =>
      intro d part
      rw [each_cons, each_cons, part]
      exact ih _ ((d.wr_part _ _).trans part)
  exact go c rfl

end

/-- Settles O12: counts and marks read 0, and all else is kept. -/
theorem countsAndMarksClear : Obligations.CountsAndMarksClear := by
  refine ⟨fun s part v works => ?_, fun s part port v works there => ?_, fun s part v works => ?_⟩
  · simp only [exec_idCntClear, execIdCntClear, onPart_after s part _ works]
    generalize s.common part = c
    refine ⟨_, rfl, fun a i row x at_ mem sat ord in_ zero => ?_, fun a i j row at_ hj out => ?_, fun a out => ?_, c.clearCounts_port v,
      Common.eq_countsFrom c _ (c.clearCounts_countless v)⟩
    · rw [c.clearCounts_rd v a]
      refine (fld_eq_zero_iff _ _ _ ord).mpr fun j lo hi => ?_
      exact c.clearSat_sat _ a j (by omega) mem (satBit_in _ a i j row x at_ sat lo hi) ((fld_eq_zero_iff _ _ _ ord).mp zero j lo hi)
    · rw [c.clearCounts_rd v a, c.clearSat_unsat _ a j hj (satBit_out _ a i j row at_ fun x hx => (out x hx).2.2)]
    · rw [c.clearCounts_rd v a, c.clearSat_unnamed _ a out]
  · simp only [exec_telHwmClr, execTelHwmClr, onPort_after s part port _ works there]
    generalize s.common part = c
    refine ⟨_, by rw [c.hwmClr_eq], fun a => ?_, c.each_wr_file _ _⟩
    rw [c.rd_each_zero, List.any_filter]
  · simp only [exec_thermHwmClear, execThermHwmClear, onPart_after s part _ works]
    generalize s.common part = c
    refine ⟨_, rfl, fun a => ?_, c.wr_eq _ _⟩
    split
    · next same => rw [same, Common.rd_wr_same]
    · next other => exact c.rd_wr_other _ a _ other

end Sys2Proof.Machine
end

section
/-!
PROOF. Scheduled changes commit (R571, R573, R576, R688, R691, R763): a staged set entry by entry, a fence and a takeover register by register.
-/

namespace Sys2Proof.Machine

/-! ### Fields of registers -/

/-- A flag is a bit. -/
theorem flag_eq (v : Reg) (j : Nat) : flag v j = v.getLsbD j := by
  rw [flag, bit, ← BitVec.testBit_toNat, Nat.testBit_eq_decide_div_mod_eq]
  rfl

/-- A field is read off its bits. -/
theorem testBit_fld (v : Reg) (hi lo k : Nat) : (fld v hi lo).testBit k = (decide (k < hi + 1 - lo) && v.getLsbD (k + lo)) := by
  rw [fld, bits, Nat.testBit_mod_two_pow, Nat.testBit_div_two_pow, BitVec.testBit_toNat]

/-- A field that was replaced. -/
theorem fld_setFld_same (v : Reg) (hi lo x : Nat) (in_ : hi < 32) (ord : lo ≤ hi) : fld (setFld v hi lo x) hi lo = x % 2 ^ (hi + 1 - lo) := by
  refine Nat.eq_of_testBit_eq fun k => ?_
  rw [testBit_fld, Nat.testBit_mod_two_pow]
  by_cases inside : k < hi + 1 - lo
  · rw [getLsbD_setFld _ _ _ _ _ (by omega), if_pos (by omega), Nat.add_sub_cancel]
  · simp [inside]

/-- A field beside one that was replaced. -/
theorem fld_setFld_apart (v : Reg) (hi lo x hi' lo' : Nat) (in_ : hi' < 32) (apart : hi' < lo ∨ hi < lo') : fld (setFld v hi lo x) hi' lo' = fld v hi' lo' := by
  refine Nat.eq_of_testBit_eq fun k => ?_
  rw [testBit_fld, testBit_fld]
  by_cases inside : k < hi' + 1 - lo'
  · rw [getLsbD_setFld _ _ _ _ _ (by omega), if_neg (by omega)]
  · simp [inside]

/-! ### Entries of a set -/

/-- A staged value, bit by bit (R688). -/
theorem StageEntry.testBit_put (e : StageEntry) (old j : Nat) (hj : j < 32) : (e.put old).testBit j = if e.mask.testBit j then e.value.testBit j else old.testBit j := by
  rw [StageEntry.put, Nat.testBit_or, Nat.testBit_and, Nat.testBit_and, testBit_outside _ j (Nat.mod_lt _ (by decide)) hj, Nat.testBit_mod_two_pow]
  cases e.mask.testBit j <;> simp [hj]

/-- An entry stored in the RW fields of its register. -/
theorem Common.setRw_put (c : Common) (row : RegRow) (e : StageEntry) (old : Reg) (rw_ : row.rw < 2 ^ 32) (j : Nat) (hj : j < 32) :
    ((c.setRw true row e.addr (e.put old.toNat)).rd e.addr).getLsbD j =
      if row.rw.testBit j then (if e.mask.testBit j then e.value.testBit j else old.getLsbD j) else (c.rd e.addr).getLsbD j := by
  rw [Common.setRw_bits _ _ _ _ _ rw_ j hj, e.testBit_put _ j hj, BitVec.testBit_toNat]

theorem SwState.commitEntry_stores (w : SwState) (e : StageEntry) (row : RegRow) (i : Nat) (at_ : regAt .sw e.addr = some (row, i)) (wp : row.wp = 0) :
    w.commitEntry e =
      ({ w with c := w.c.setRw true row e.addr (e.put (w.reg e.addr).toNat) } : SwState).acted e.addr (w.reg e.addr) (e.put (w.reg e.addr).toNat &&& row.wo) := by
  simp only [SwState.commitEntry, at_]
  rw [if_neg (not_not.mpr wp)]
  rfl

theorem EpState.commitEntry_stores (p : EpState) (e : StageEntry) (row : RegRow) (i : Nat) (at_ : regAt .ep e.addr = some (row, i)) (wp : row.wp = 0)
    (inval : e.addr ≠ 0x42004) (pitch : e.addr ≠ 0xF0000) : p.commitEntry e =
      ({ p with c := p.c.setRw true row e.addr (e.put (p.reg e.addr).toNat) } : EpState).acted e.addr (p.reg e.addr) (e.put (p.reg e.addr).toNat &&& row.wo) (2 ^ 32 - 1) := by
  simp only [EpState.commitEntry, at_]
  rw [if_neg inval, if_neg (not_not.mpr wp), if_neg pitch]
  rfl

/-- A set that has committed. -/
theorem Common.set_committed (c : Common) (k : Nat) : (((c.closeSet k .committed).stageEvent 1 k).set k).st = .committed ∧
    (((c.closeSet k .committed).stageEvent 1 k).set k).entries = [] := by
  rw [Common.set_stageEvent, Common.closeSet_eq_modSet, Common.set_modSet_same]
  exact ⟨rfl, rfl⟩

theorem SwState.commitSet_committed (w : SwState) (k : Nat) : ((w.commitSet k).c.set k).st = .committed ∧ ((w.commitSet k).c.set k).entries = [] :=
  Common.set_committed _ k

theorem EpState.commitSet_committed (p : EpState) (k : Nat) : ((p.commitSet k).c.set k).st = .committed ∧ ((p.commitSet k).c.set k).entries = [] :=
  Common.set_committed _ k

/-! ### Membership changes -/

section
variable (c : Common) (m : MembChange)

/-- The registers and the list behind a membership change, before what follows from it. -/
def Common.membLaid : Common :=
  { c.layMemb m with stage := { (c.layMemb m).stage with memb := (c.layMemb m).stage.memb.erase m, last := some m } }

theorem Common.rd_membLaid (a : Nat) : (c.membLaid m).rd a = (c.layMemb m).rd a := rfl

/-- The words of a fenced set (R571). -/
def Common.fencedLaid (set : Nat) (l : List Nat) : Common := each l c (fun c j => c.wr (0xA00044 + 4 * j) (BitVec.ofNat 32 (set / 2 ^ (32 * j))))

theorem Common.rd_fencedLaid (set : Nat) (l : List Nat) (a : Nat) (out : ∀ j ∈ l, a ≠ 0xA00044 + 4 * j) : (c.fencedLaid set l).rd a = c.rd a := by
  unfold Common.fencedLaid
  induction l generalizing c with
  | nil => rfl
  | cons j l ih => rw [each_cons, ih _ fun k hk => out k (List.mem_cons_of_mem j hk), Common.rd_wr_other _ _ _ _ (out j List.mem_cons_self)]

theorem Common.rd_fencedLaid_word (set : Nat) (l : List Nat) (once : l.Nodup) (j : Nat) (mem : j ∈ l) :
    (c.fencedLaid set l).rd (0xA00044 + 4 * j) = BitVec.ofNat 32 (set / 2 ^ (32 * j)) :=
  (each_own (fun (c : Common) j => c.rd (0xA00044 + 4 * j)) (fun j _ => BitVec.ofNat 32 (set / 2 ^ (32 * j))) (fun _ => True)
    (fun c j => c.wr (0xA00044 + 4 * j) (BitVec.ofNat 32 (set / 2 ^ (32 * j)))) (fun c j _ => c.rd_wr_same _ _)
    (fun c j k hk => c.rd_wr_other _ _ _ (by omega)) (fun _ _ _ => trivial) l once c trivial j).trans (if_pos mem)

theorem Common.fencedLaid_keeps (set : Nat) (l : List Nat) : (c.fencedLaid set l).stage = c.stage ∧ (c.fencedLaid set l).ports = c.ports :=
  ⟨each_keep Common.stage l c _ fun _ _ => rfl, each_keep Common.ports l c _ fun _ _ => rfl⟩

theorem Common.layMemb_fence (fence : m.move = none) : c.layMemb m = (c.wr 0xA00040 (BitVec.ofNat 32 m.epoch)).fencedLaid m.fenced (List.range 8) := by
  unfold Common.layMemb
  rw [fence]
  rfl

/-- What a fence leaves (R571, R763). -/
theorem Common.membLaid_fence (fence : m.move = none) : let d := c.membLaid m
    d.rd 0xA00040 = BitVec.ofNat 32 m.epoch ∧ (∀ j, j < 8 → d.rd (0xA00044 + 4 * j) = BitVec.ofNat 32 (m.fenced / 2 ^ (32 * j))) ∧
    (∀ a, (a < 0xA00040 ∨ 0xA00064 ≤ a) → d.rd a = c.rd a) ∧ d.stage = { c.stage with memb := c.stage.memb.erase m, last := some m } ∧ d.ports = c.ports := by
  obtain ⟨stage, ports⟩ := (c.wr 0xA00040 (BitVec.ofNat 32 m.epoch)).fencedLaid_keeps m.fenced (List.range 8)
  refine ⟨?_, fun j hj => ?_, fun a out => ?_, ?_, ?_⟩
  · rw [c.rd_membLaid m, c.layMemb_fence m fence, Common.rd_fencedLaid _ _ _ _ (fun j _ => by omega), Common.rd_wr_same]
  · rw [c.rd_membLaid m, c.layMemb_fence m fence, Common.rd_fencedLaid_word _ _ _ List.nodup_range j (List.mem_range.mpr hj)]
  · rw [c.rd_membLaid m, c.layMemb_fence m fence, Common.rd_fencedLaid _ _ _ _ (fun j hj => by have := List.mem_range.mp hj; omega), Common.rd_wr_other _ _ _ _ (by omega)]
  · unfold Common.membLaid
    rw [c.layMemb_fence m fence, stage]
    rfl
  · unfold Common.membLaid
    rw [c.layMemb_fence m fence]
    exact ports

theorem Common.layMemb_move (node port pitch : Nat) (move : m.move = some (node, port, pitch)) : c.layMemb m =
    (((c.wr 0xA00040 (BitVec.ofNat 32 m.epoch)).wrF (0xA00044 + node / 32 * 4) (node % 32) (node % 32) 0).wr (0x504000 + node * 4) (BitVec.ofNat 32 (2 ^ 31 + port % 256))).wrF
      (0x900200 + port / 8 * 4) (4 * (port % 8) + 3) (4 * (port % 8)) pitch := by
  unfold Common.layMemb
  rw [move]

/-- A field of a register that was changed in one field. -/
theorem Common.rd_wrF (a hi lo x b : Nat) : (c.wrF a hi lo x).rd b = if b = a then setFld (c.rd a) hi lo x else c.rd b := by
  split
  · next same => rw [same, Common.wrF, Common.rd_wr_same]
  · next other => rw [Common.wrF, Common.rd_wr_other _ _ _ _ other]

section
variable (node port pitch : Nat) (move : m.move = some (node, port, pitch)) (hn : node < 256) (hp : port < 256)
include move hn hp

/-- The registers of a takeover, one by one (R576). -/
theorem Common.rd_takeover (a : Nat) : (c.membLaid m).rd a =
    if a = 0x900200 + port / 8 * 4 then setFld (c.rd a) (4 * (port % 8) + 3) (4 * (port % 8)) pitch
    else if a = 0x504000 + node * 4 then BitVec.ofNat 32 (2 ^ 31 + port % 256)
    else if a = 0xA00044 + node / 32 * 4 then setFld (c.rd a) (node % 32) (node % 32) 0
    else if a = 0xA00040 then BitVec.ofNat 32 m.epoch else c.rd a := by
  rw [c.rd_membLaid m, c.layMemb_move m node port pitch move, Common.rd_wrF]
  split
  · next same =>
    rw [same, Common.rd_wr_other _ _ _ _ (by omega), Common.rd_wrF, if_neg (by omega), Common.rd_wr_other _ _ _ _ (by omega)]
  · split
    · next same => rw [same, Common.rd_wr_same]
    · next other =>
      rw [Common.rd_wr_other _ _ _ _ other, Common.rd_wrF]
      split
      · next same => rw [same, Common.rd_wr_other _ _ _ _ (by omega)]
      · split
        · next same => rw [same, Common.rd_wr_same]
        · next other => rw [Common.rd_wr_other _ _ _ _ other]

theorem Common.takeover_epoch : (c.membLaid m).rd 0xA00040 = BitVec.ofNat 32 m.epoch := by
  rw [c.rd_takeover m node port pitch move hn hp, if_neg (by omega), if_neg (by omega), if_neg (by omega), if_pos rfl]

/-- A node that is taken over is not fenced any more; any other is as it was. -/
theorem Common.takeover_fenced (i : Nat) : (c.membLaid m).fenced i = if i = node then false else c.fenced i := by
  unfold Common.fenced
  rw [c.rd_takeover m node port pitch move hn hp, if_neg (by omega), if_neg (by omega)]
  by_cases word : i / 32 = node / 32
  · rw [if_pos (by omega), flag_eq, getLsbD_setFld _ _ _ _ _ (by omega), flag_eq]
    by_cases same : i = node
    · subst same
      simp
    · rw [if_neg (by omega), if_neg same]
  · rw [if_neg (by omega), if_neg (by omega), if_neg (fun same => word (by rw [same]))]

/-- The stand-in entry of a node that is taken over names the spare's port; any other is as it was. -/
theorem Common.takeover_alias (i : Nat) (hi : i < 256) : (c.membLaid m).aliasOf i = if i = node then some port else c.aliasOf i := by
  have word : (c.membLaid m).rd (0x504000 + i * 4) = if i = node then BitVec.ofNat 32 (2 ^ 31 + port % 256) else c.rd (0x504000 + i * 4) := by
    rw [c.rd_takeover m node port pitch move hn hp, if_neg (by omega)]
    by_cases same : i = node
    · rw [if_pos (by omega), if_pos same]
    · rw [if_neg (by omega), if_neg (by omega), if_neg (by omega), if_neg same]
  unfold Common.aliasOf
  rw [word]
  by_cases same : i = node
  · have set : flag (BitVec.ofNat 32 (2 ^ 31 + port % 256)) 31 = true := by simp only [flag, bit, BitVec.toNat_ofNat, beq_iff_eq]; omega
    have named : fld (BitVec.ofNat 32 (2 ^ 31 + port % 256)) 7 0 = port := by simp only [fld, bits, BitVec.toNat_ofNat]; omega
    simp only [same, if_true, set, named]
  · simp only [same, if_false]

/-- The spare's port has the pitch; any other is as it was. -/
theorem Common.takeover_pitch (h : pitch < 16) (n : Nat) (hn' : n < 256) : (c.membLaid m).portPitch n = if n = port then pitch else c.portPitch n := by
  unfold Common.portPitch Common.rf'
  rw [c.rd_takeover m node port pitch move hn hp]
  by_cases word : n / 8 = port / 8
  · rw [if_pos (by omega)]
    by_cases same : n = port
    · subst same
      rw [fld_setFld_same _ _ _ _ (by omega) (by omega), if_pos rfl, show 4 * (n % 8) + 3 + 1 - 4 * (n % 8) = 4 by omega]
      exact Nat.mod_eq_of_lt h
    · rw [fld_setFld_apart _ _ _ _ _ _ (by omega) (by omega), if_neg same]
  · rw [if_neg (by omega), if_neg (by omega), if_neg (by omega), if_neg (by omega), if_neg (fun same => word (by rw [same]))]

omit hn hp in
theorem Common.takeover_list : (c.membLaid m).stage = { c.stage with memb := c.stage.memb.erase m, last := some m } ∧ (c.membLaid m).ports = c.ports := by
  unfold Common.membLaid
  rw [c.layMemb_move m node port pitch move]
  exact ⟨rfl, rfl⟩

end
end

/-- One change that is due commits alone. -/
theorem SwState.commitMembs_one (w : SwState) (m : MembChange) (one : w.c.stage.memb = [m]) (due : m.pick ≤ w.c.pick) : w.commitMembs = w.commitMemb m := by
  unfold SwState.commitMembs
  rw [one, List.filter_cons_of_pos (by simpa using due), List.filter_nil]
  rfl

theorem SwState.commitMembs_none (w : SwState) (later : ∀ m ∈ w.c.stage.memb, w.c.pick < m.pick) : w.commitMembs = w := by
  unfold SwState.commitMembs
  rw [List.filter_eq_nil_iff.mpr fun m hm => by simpa using later m hm]
  rfl

theorem SwState.commitMemb_fence (w : SwState) (m : MembChange) (fence : m.move = none) : w.commitMemb m = ({ w with c := w.c.membLaid m } : SwState).membChanged w.c := by
  unfold SwState.commitMemb
  rw [fence]
  rfl

theorem SwState.commitMemb_move (w : SwState) (m : MembChange) (node port pitch : Nat) (move : m.move = some (node, port, pitch)) : w.commitMemb m =
    (({ w with c := w.c.membLaid m } : SwState).portsMoved (port / 8) (w.c.rd (portMapA port))).membChanged w.c := by
  unfold SwState.commitMemb
  rw [move]
  rfl

/-- Settles O16: sets and membership changes commit when they are due, register by register. -/
theorem scheduledChangesCommit : Obligations.ScheduledChangesCommit := by
  refine ⟨fun s k works hk => ?_, fun s k works hk => ?_, fun w e row i at_ wp => ?_, fun p e row i at_ wp inval pitch => ?_, fun s m works one due fence => ?_,
    fun s m node port pitch works one due move hn hp hq => ?_, fun s works later => ?_, fun s works => ?_⟩
  · simp only [exec_stagedSetCommit, execStagedSetCommit, onSwIf_after s _ _ works (decide_eq_true hk)]
    refine ⟨fun due => ?_, fun idle => by simp [idle]⟩
    obtain ⟨st, entries⟩ := s.sw.commitMembs.commitSet_committed k
    exact ⟨_, by rw [if_pos due], rfl, st, entries⟩
  · simp only [exec_stagedSetCommit, execStagedSetCommit, onEpIf_after s _ _ works (decide_eq_true hk)]
    refine ⟨fun due => ?_, fun idle => by simp [idle]⟩
    obtain ⟨st, entries⟩ := s.ep.commitSet_committed k
    exact ⟨_, by rw [if_pos due], rfl, st, entries⟩
  · exact ⟨_, w.commitEntry_stores e row i at_ wp, w.c.setRw_put row e (w.reg e.addr) (regAt_rw .sw e.addr i row at_), w.c.setRw_other row e.addr _ true,
      w.c.setRw_staged_file row e.addr _⟩
  · exact ⟨_, p.commitEntry_stores e row i at_ wp inval pitch, p.c.setRw_put row e (p.reg e.addr) (regAt_rw .ep e.addr i row at_), p.c.setRw_other row e.addr _ true,
      p.c.setRw_staged_file row e.addr _⟩
  · obtain ⟨epoch, set, others, stage, ports⟩ := s.sw.c.membLaid_fence m fence
    refine ⟨_, ?_, epoch, set, others, by rw [stage, one, List.erase_cons_head], ports⟩
    rw [exec_membershipCommit, execMembershipCommit, onSw_after s _ works, s.sw.commitMembs_one m one due, s.sw.commitMemb_fence m fence]
  · have fenced := s.sw.c.takeover_fenced m node port pitch move hn hp
    have alias_ := s.sw.c.takeover_alias m node port pitch move hn hp
    have pitches := s.sw.c.takeover_pitch m node port pitch move hn hp hq
    obtain ⟨stage, ports⟩ := s.sw.c.takeover_list m node port pitch move
    refine ⟨_, ?_, s.sw.c.takeover_epoch m node port pitch move hn hp, (fenced node).trans (if_pos rfl), fun i _ other => (fenced i).trans (if_neg other),
      (alias_ node hn).trans (if_pos rfl), fun i hi other => (alias_ i hi).trans (if_neg other), (pitches port hp).trans (if_pos rfl),
      fun n hn' other => (pitches n hn').trans (if_neg other), by rw [stage, one, List.erase_cons_head], ports⟩
    rw [exec_membershipCommit, execMembershipCommit, onSw_after s _ works, s.sw.commitMembs_one m one due, s.sw.commitMemb_move m node port pitch move]
  · rw [exec_membershipCommit, execMembershipCommit, onSw_after s _ works, s.sw.commitMembs_none later]
  · rw [exec_membershipCommit, execMembershipCommit, onEp_after s _ works]

end Sys2Proof.Machine
end

section
/-!
PROOF. Firmware (R587 to R591, R647, R648, R694, R695), the ledger's commands (R557, R700) and the guy lines (R580).
-/

namespace Sys2Proof.Machine

/-! ### What an answer leaves -/

/-- What no reply touches: everything but the management executor and the free values drawn. -/
def Common.unanswered (c : Common) : Common := { c with mgmt := {}, free := 0 }

theorem Common.unanswered_modMgmt (c : Common) (f : Mgmt → Mgmt) : (c.modMgmt f).unanswered = c.unanswered := rfl

theorem Common.unanswered_sendReply (c : Common) (r : ZReply) : (c.sendReply r).unanswered = c.unanswered := by
  unfold Common.sendReply
  split
  · rfl
  · split
    · exact Common.unanswered_modMgmt { c with free := c.free + 1 } _
    · exact c.unanswered_modMgmt _

theorem Common.unanswered_keepReply (c : Common) (r : ZReply) : (c.keepReply r).unanswered = c.unanswered := by
  unfold Common.keepReply
  split
  · exact c.unanswered_modMgmt _
  · rfl

theorem Common.unanswered_zAnswer (c : Common) (op : Nat) (z : ZPacket) (status detail : Nat) (data : List Byte) :
    (c.zAnswer op z status detail data).unanswered = c.unanswered := by
  rw [Common.zAnswer, Common.unanswered_keepReply, Common.unanswered_sendReply]

theorem Common.unanswered_endExec (c : Common) (op tag status detail : Nat) (data : List Byte) : (c.endExec op tag status detail data).unanswered = c.unanswered := by
  unfold Common.endExec
  split
  · rfl
  · rw [Common.unanswered_keepReply, each_keep Common.unanswered _ _ _ fun t ret => t.unanswered_sendReply _]
    rfl

/-! ### A list of commands that end -/

/-- The first command that runs with an opcode, and what its end leaves. -/
theorem Common.executing_endExec (c : Common) (op status detail : Nat) (data : List Byte) (pre post : List ZExec) (e : ZExec) (he : c.mgmt.executing = pre ++ e :: post)
    (first : ∀ x ∈ pre, ¬(x.op == op) = true) (ends : (e.op == op) = true) : (c.endExec op e.tag status detail data).mgmt.executing = pre ++ post := by
  have found : c.mgmt.executing.find? (fun x => x.op == op && x.tag == e.tag) = some e := by
    rw [he, List.find?_append, List.find?_eq_none.mpr fun x hx => by simp [first x hx], List.find?_cons_of_pos (by simp [ends])]
    rfl
  have fresh : e ∉ pre := fun hp => first e hp ends
  exact (congrArg Prod.fst (c.besideReply_endExec op e.tag status detail data e found)).trans (by
    rw [he, List.erase_append_right _ fresh, List.erase_cons_head])

/-- The commands of one opcode end one after the other, and no other. -/
theorem Common.executing_each_endExec (op status detail : Nat) (data : List Byte) (tags : List Nat) (c : Common)
    (all : (c.mgmt.executing.filter (fun x => x.op == op)).map (·.tag) = tags) :
    (each tags c (fun c tag => c.endExec op tag status detail data)).mgmt.executing = c.mgmt.executing.filter (fun x => x.op != op) := by
  induction tags generalizing c with
  | nil =>
    have none_ := List.filter_eq_nil_iff.mp (List.map_eq_nil_iff.mp all)
    exact (List.filter_eq_self.mpr fun x hx => by simpa using none_ x hx).symm
  | cons t ts ih =>
    obtain ⟨e, l, found, rfl, rest⟩ := List.map_eq_cons_iff.mp all
    obtain ⟨pre, post, he, first, ends, rfl⟩ := List.filter_eq_cons_iff.mp found
    have left := c.executing_endExec op status detail data pre post e he first ends
    have before : pre.filter (fun x => x.op == op) = [] := List.filter_eq_nil_iff.mpr first
    rw [each_cons, ih _ (by rw [left, List.filter_append, before, List.nil_append, rest]), left, he]
    simp [List.filter_append, eq_of_beq ends]

/-! ### Firmware slots -/

theorem Firmware.img_put_same (f : Firmware) (b : Bool) (i : FwImage) : (f.put b i).img b = i := by
  cases b <;> rfl

theorem Firmware.img_put_other (f : Firmware) (b : Bool) (i : FwImage) : (f.put (!b) i).img b = f.img b := by
  cases b <;> rfl

theorem Firmware.put_slotB (f : Firmware) (b : Bool) (i : FwImage) : (f.put b i).slotB = f.slotB := by
  cases b <;> rfl

/-! ### Staging -/

section
variable (c : Common) (z : ZPacket)

theorem Common.fwBegin_busy (d : Nat) (busy : c.stageBusy = some d) : c.fwBegin z = c.zAnswer 0x0801 z zBusy d [] := by
  simp only [Common.fwBegin, busy]

theorem Common.fwBegin_large (idle : c.stageBusy = none) (large : 14 * 2 ^ 20 < pn z.payload 0 4) : c.fwBegin z = c.zAnswer 0x0801 z 0x0804 0 [] := by
  simp only [Common.fwBegin, idle]
  exact if_pos large

theorem Common.fwBegin_kind (idle : c.stageBusy = none) (fits : pn z.payload 0 4 ≤ 14 * 2 ^ 20) (wrong : pb z.payload 4 ≠ imageKind c.part) :
    c.fwBegin z = c.zAnswer 0x0801 z 0x0801 0x11 [] := by
  simp only [Common.fwBegin, idle]
  exact (if_neg (Nat.not_lt.mpr fits)).trans (if_pos wrong)

/-- The firmware state once a staging has begun. -/
def Firmware.begun (f : Firmware) (z : ZPacket) : Firmware :=
  { f.put (!f.slotB) {} with staged := none, staging := some { total := pn z.payload 0 4, kind := pb z.payload 4, svn := pb z.payload 5 } }

theorem Common.fwBegin_begins (idle : c.stageBusy = none) (fits : pn z.payload 0 4 ≤ 14 * 2 ^ 20) (right : pb z.payload 4 = imageKind c.part) :
    c.fwBegin z = (c.modFw (fun f => f.begun z)).zHold 0x0801 z 0 none := by
  simp only [Common.fwBegin, idle]
  exact (if_neg (Nat.not_lt.mpr fits)).trans (if_neg (not_not_intro right))

theorem Firmware.begun_slots (f : Firmware) : (f.begun z).slotB = f.slotB ∧ (f.begun z).img f.slotB = f.img f.slotB ∧ (f.begun z).img (!f.slotB) = {} :=
  ⟨f.put_slotB _ _, f.img_put_other _ _, f.img_put_same _ _⟩

theorem Common.eraseDone_idle (idle : ∀ g, c.fw.staging = some g → g.erased = true ∨ g.suspended = true) : c.eraseDone = c := by
  unfold Common.eraseDone
  split
  · next g hg => exact if_pos (idle g hg)
  · rfl

theorem Common.eraseDone_erases (g : FwStaging) (hg : c.fw.staging = some g) (runs : g.erased = false) (on : g.suspended = false) :
    c.eraseDone = each ((c.mgmt.executing.filter (fun e => e.op == 0x0801)).map (·.tag)) (c.modFw (fun f => { f with staging := some { g with erased := true } }))
      (fun c tag => c.endExec 0x0801 tag 0 0 []) := by
  simp only [Common.eraseDone, hg]
  exact if_neg (by simp [runs, on])

theorem Common.fwData_busy (d : Nat) (busy : c.stageBusy = some d) : c.fwData z = c.zAnswer 0x0802 z zBusy d [] := by
  simp only [Common.fwData, busy]

theorem Common.fwData_unbegun (idle : c.stageBusy = none) (hg : c.fw.staging = none) : c.fwData z = c.zAnswer 0x0802 z 0x0803 0 [] := by
  simp only [Common.fwData, idle, hg]

theorem Common.fwData_misplaced (g : FwStaging) (idle : c.stageBusy = none) (hg : c.fw.staging = some g)
    (bad : g.erased = false ∨ pn z.payload 0 4 ≠ g.data.length ∨ g.total < pn z.payload 0 4 + pn z.payload 4 2) :
    c.fwData z = c.zAnswer 0x0802 z 0x0803 (g.data.length / 256) [] := by
  simp only [Common.fwData, idle, hg]
  exact if_pos (by simpa using bad)

theorem Common.fwData_appends (g : FwStaging) (idle : c.stageBusy = none) (hg : c.fw.staging = some g) (erased : g.erased = true) (here : pn z.payload 0 4 = g.data.length)
    (fits : pn z.payload 0 4 + pn z.payload 4 2 ≤ g.total) :
    c.fwData z = (c.modFw (fun f => { f with staging := some { g with data := g.data ++ (z.payload.drop 8).take (pn z.payload 4 2) } })).zOk 0x0802 z [] := by
  simp only [Common.fwData, idle, hg]
  exact if_neg (by simpa [erased, here] using here ▸ fits)

/-! ### The end of a staging -/

theorem Common.fwEnd_busy (d : Nat) (busy : c.stageBusy = some d) : c.fwEnd z = c.zAnswer 0x0803 z zBusy d [] := by
  simp only [Common.fwEnd, busy]

theorem Common.fwEnd_unbegun (idle : c.stageBusy = none) (hg : c.fw.staging = none) : c.fwEnd z = (c.fwEvent 5).zAnswer 0x0803 z 0x0801 0x10 [] := by
  simp only [Common.fwEnd, idle, hg]

theorem Common.fwEnd_bad (g : FwStaging) (k : Nat) (idle : c.stageBusy = none) (hg : c.fw.staging = some g) (bad : c.imageBad g (z.payload.take 48) = some k) :
    c.fwEnd z = ((c.modFw (fun f => { f with staging := none })).fwEvent 5).zAnswer 0x0803 z 0x0801 k [] := by
  simp only [Common.fwEnd, idle, hg, bad]

/-- A verified image is staged, and the command answered; what a part that no image has booted does then is `tryImage`. -/
def Common.fwVerified (c : Common) (z : ZPacket) (i : FwImage) : Common :=
  ((c.modFw (fun f => { f.put (!f.slotB) i with staging := none, staged := some i })).fwEvent 1).zOk 0x0803 z []

theorem Common.fwEnd_good (g : FwStaging) (idle : c.stageBusy = none) (hg : c.fw.staging = some g) (good : c.imageBad g (z.payload.take 48) = none) :
    c.fwEnd z = (c.fwVerified z (imageOf g.data)).tryImage := by
  simp only [Common.fwEnd, idle, hg, good]
  cases h : c.fw.slotB <;> simp [Common.fwVerified, Common.modFw, Firmware.put, h]

theorem Common.unanswered_fwVerified (i : FwImage) :
    (c.fwVerified z i).unanswered = ((c.modFw (fun f => { f.put (!f.slotB) i with staging := none, staged := some i })).fwEvent 1).unanswered :=
  Common.unanswered_zAnswer _ _ _ _ _ _

theorem Common.failedBoot_fwVerified (i : FwImage) : (c.fwVerified z i).failedBoot = c.failedBoot := by
  calc (c.fwVerified z i).failedBoot
    _ = (c.fwVerified z i).unanswered.failedBoot := rfl
    _ = ((c.modFw (fun f => { f.put (!f.slotB) i with staging := none, staged := some i })).fwEvent 1).failedBoot := by rw [c.unanswered_fwVerified z i]; rfl
    _ = c.failedBoot := by simp only [Common.failedBoot, Common.fwEvent, Common.event_biv, Common.event_sec, Common.modFw_biv, Common.modFw_sec]

theorem Common.tryImage_booted (h : c.failedBoot = false) : c.tryImage = c := by
  simp [Common.tryImage, h]

theorem Common.warmComb_fw (k : Nat) : (c.warmComb k).fw = c.fw ∧ (c.warmComb k).biv = c.biv := by
  unfold Common.warmComb
  split <;> exact ⟨rfl, rfl⟩

theorem Common.warmCombs_fw : c.warmCombs.fw = c.fw := each_keep Common.fw _ _ _ fun c k => (c.warmComb_fw k).1

theorem Common.warmCombs_biv : c.warmCombs.biv = c.biv := each_keep Common.biv _ _ _ fun c k => (c.warmComb_fw k).2

theorem Common.tryImage_failed (h : c.failedBoot = true) :
    c.tryImage.fw = c.fw ∧ c.tryImage.biv = { c.biv with wakeAt := c.pick, booted := false, st := .waking, cause := 3 } := by
  have eq : c.tryImage = (({ c with biv := { c.biv with wakeAt := c.pick, booted := false } } : Common).setBiv .waking 3).warmCombs := if_pos h
  rw [eq, Common.warmCombs_fw, Common.warmCombs_biv, Common.setBiv, Common.event_fw, Common.event_biv]
  exact ⟨rfl, rfl⟩

theorem Common.fwVerified_keeps (i : FwImage) : (c.fwVerified z i).fw = { c.fw.put (!c.fw.slotB) i with staging := none, staged := some i } ∧ (c.fwVerified z i).pick = c.pick := by
  have kept := c.unanswered_fwVerified z i
  refine ⟨?_, ?_⟩
  · exact (congrArg Common.fw kept).trans (by simp only [Common.unanswered, Common.fwEvent, Common.event_fw, Common.modFw_fw])
  · exact (congrArg Common.pick kept).trans (by simp only [Common.unanswered, Common.pick, Common.fwEvent, Common.event_time, Common.modFw_time])

/-- What an image has passed that verifies. -/
theorem Common.imageBad_none (g : FwStaging) (d : List Byte) (h : c.imageBad g d = none) :
    let b := g.data
    let size := ln b 8 4
    let block := b.drop (256 + size)
    (b.length = g.total ∧ sha384 b = d) ∧ (ln b 0 4 = 0x46574D47 ∧ pb b 4 = 1 ∧ size % 4096 = 0 ∧ g.total = 648 + size) ∧ pb b 5 = imageKind c.part ∧
      (∃ h, h ∈ c.sec.vendorHashes ∧ h.1 = sha384 (block.take 97) ∧ h.2 = false) ∧
      (ecdsaOk (block.take 97) ((block.drop 97).take 97) (pn block 194 48) (pn block 242 48) = true ∧
        ecdsaOk ((block.drop 97).take 97) (b.take (256 + size)) (pn block 292 48) (pn block 340 48) = true) ∧ c.sec.svnFloor ≤ pb b 6 := by
  intro b size block
  simp only [Common.imageBad] at h
  split_ifs at h with digest layout kind root sign svn
  simp only [not_or, not_not] at digest layout kind
  obtain ⟨magic, form, pages, whole, -⟩ := layout
  refine ⟨digest, ⟨magic, form, pages, whole⟩, kind, ?_, ?_, Nat.not_lt.mp svn⟩
  · simp only [Bool.not_eq_true', Bool.not_eq_false] at root
    obtain ⟨h, listed, ok⟩ := List.any_eq_true.mp root
    simp only [Bool.and_eq_true, Bool.not_eq_true', beq_iff_eq] at ok
    exact ⟨h, listed, ok.2, ok.1⟩
  · simpa only [Bool.not_eq_true', Bool.not_eq_false, Bool.and_eq_true] using sign

/-! ### Activation and trial -/

theorem Common.fwActivate_same (same : c.fwSame ((z.payload.drop 8).take 8) = true) : c.fwActivate z = c.zSame 0x0804 z [] := if_pos same

section
variable (other : c.fwSame ((z.payload.drop 8).take 8) = false)
include other

theorem Common.fwActivate_unstaged (hi : c.fw.staged = none) : c.fwActivate z = c.zAnswer 0x0804 z 0x0802 0 [] := by
  simp [Common.fwActivate, other, hi]

variable (i : FwImage) (hi : c.fw.staged = some i)
include hi

theorem Common.fwActivate_digest (wrong : i.digest.take 8 ≠ (z.payload.drop 8).take 8) : c.fwActivate z = c.zAnswer 0x0804 z 0x0801 0x10 [] := by
  simp [Common.fwActivate, other, hi, wrong]

variable (right : i.digest.take 8 = (z.payload.drop 8).take 8)
include right

theorem Common.fwActivate_soon (soon : pn z.payload 0 8 < c.pick + 1000) : c.fwActivate z = c.zAnswer 0x0804 z 0x0112 1 [] := by
  simp [Common.fwActivate, other, hi, right, soon]

theorem Common.fwActivate_test (late : c.pick + 1000 ≤ pn z.payload 0 8) (test : c.test.isSome = true) : c.fwActivate z = c.zAnswer 0x0804 z zBusy 0x16 [] := by
  simp [Common.fwActivate, other, hi, right, Nat.not_lt.mpr late, test]

theorem Common.fwActivate_schedules (late : c.pick + 1000 ≤ pn z.payload 0 8) (test : c.test = none) :
    c.fwActivate z = (c.modFw (fun f => { f with pending := some (pn z.payload 0 8) })).zOk 0x0804 z [] := by
  simp [Common.fwActivate, other, hi, right, Nat.not_lt.mpr late, test]

end

theorem Common.fwPick_waits (later : ∀ a, c.fw.pending = some a → c.pick < a) : c.fwPick = c := by
  unfold Common.fwPick
  split
  · next a ha => exact if_neg (Nat.not_le.mpr (later a ha))
  · rfl

/-- A change of the firmware state that leaves the part running the image of the other slot, with the keys derived for it. -/
theorem Common.restarts (f : Firmware → Firmware) (cause : Nat) (runs : (f c.fw).running = c.fw.img (!c.fw.slotB)) :
    let c1 := (c.modFw f).fwEvent cause
    { c1 with sec := c1.sec.derive c1.fw.running.digest } = { c1 with sec := c.sec.derive (c.fw.img (!c.fw.slotB)).digest } := by
  intro c1
  have sec : c1.sec = c.sec := Common.event_sec _ _ _
  have fw : c1.fw = f c.fw := Common.event_fw _ _ _
  rw [sec, fw, runs]

theorem Common.fwPick_comes (a : Nat) (ha : c.fw.pending = some a) (due : a ≤ c.pick) :
    c.fwPick = { (c.modFw (fun f => { f with slotB := !f.slotB, pending := none, staged := none, restart := true, trial := true, fellBack := false })).fwEvent 2 with
      sec := c.sec.derive (c.fw.img (!c.fw.slotB)).digest } := by
  simp only [Common.fwPick, ha]
  exact (if_pos due).trans (c.restarts _ 2 rfl)

theorem Common.trialEnd_none (passed : Bool) (h : c.fw.trial = false) : c.trialEnd passed = c := by
  simp [Common.trialEnd, h]

theorem Common.trialEnd_failed (h : c.fw.trial = true) :
    c.trialEnd false = { (c.modFw (fun f => { f with slotB := !f.slotB, trial := false, restart := true, fellBack := true })).fwEvent 4 with
      sec := c.sec.derive (c.fw.img (!c.fw.slotB)).digest } :=
  ((if_neg (by simp [h])).trans (if_neg Bool.false_ne_true)).trans (c.restarts _ 4 rfl)

/-- The security state once the running image stays: its SVN is the floor where it asks for it. -/
def Common.svnRaised (c : Common) : Security :=
  { c.sec with svnFloor := if (c.fw.img c.fw.slotB).bump = true then max c.sec.svnFloor (c.fw.img c.fw.slotB).svn else c.sec.svnFloor }

theorem Common.trialEnd_passed (h : c.fw.trial = true) :
    c.trialEnd true = { (c.modFw (fun f => { f with trial := false })).fwEvent 3 with sec := c.svnRaised } := by
  let c1 := (c.modFw (fun f => { f with trial := false })).fwEvent 3
  have steps : c.trialEnd true = if (c.fw.img c.fw.slotB).bump = true then { c1 with sec := { c1.sec with svnFloor := max c1.sec.svnFloor (c.fw.img c.fw.slotB).svn } } else c1 :=
    (if_neg (by simp [h])).trans (if_pos rfl)
  have sec : c1.sec = c.sec := Common.event_sec _ _ _
  rw [steps, Common.svnRaised, sec]
  split
  · rfl
  · rw [← sec]

/-! ### Guy lines and the ledger -/

/-- A guy line is as its lands say. -/
def Common.guyNoted (c : Common) (lineB up : Bool) : Common := { c with mgmt := if lineB then { c.mgmt with lineB := up } else { c.mgmt with lineA := up } }

theorem Common.guyNoted_same (lineB up : Bool) (same : (if lineB then c.mgmt.lineB else c.mgmt.lineA) = up) : c.guyNoted lineB up = c := by
  subst same
  cases lineB <;> rfl

theorem Common.guyLand_same (lineB up : Bool) (same : (if lineB then c.mgmt.lineB else c.mgmt.lineA) = up) : c.guyLand lineB up = c := by
  unfold Common.guyLand
  split
  · exact c.guyNoted_same lineB up same
  · exact if_pos same

theorem Common.guyLand_held (lineB up : Bool) (held : c.held = true) : c.guyLand lineB up = c.guyNoted lineB up := if_pos held

theorem Common.guyLand_changes (lineB up : Bool) (works : c.held = false) (other : (if lineB then c.mgmt.lineB else c.mgmt.lineA) ≠ up) :
    c.guyLand lineB up = (c.guyNoted lineB up).event (resA c.part 0x014) ((if up then 2 else 1) * 256 + b2n lineB) :=
  (if_neg (by simp [works])).trans (if_neg other)

theorem Common.ledgerRead_none (none_ : c.ledger.records[pn z.payload 0 2]? = none) : c.ledgerRead z = c.zAnswer 0x0321 z zNotFound 0 [] := by
  simp only [Common.ledgerRead, none_]

theorem Common.ledgerRead_some (r : LedgerRec) (hr : c.ledger.records[pn z.payload 0 2]? = some r) :
    c.ledgerRead z = c.zOk 0x0321 z ((r.bytes.drop (128 * pb z.payload 2)).take 128) := by
  simp only [Common.ledgerRead, hr]

end

theorem LedgerRec.length_bytes (r : LedgerRec) : r.bytes.length = 256 := by
  unfold LedgerRec.bytes
  extract_lets body
  have whole : body.length = 252 := by
    unfold body
    simp only [leSigned, List.length_append, length_leBytes, List.length_flatMap, List.length_replicate, List.map_const', List.length_range, List.sum_replicate_nat]
  rw [List.length_append, length_leBytes, whole]

/-- The loss record of a unit with its counts at zero, where it has one. -/
def lossZeroed (t : Tab LossRec) (k : Nat) : Tab LossRec := if (Tab.find t k).isSome then Tab.upd t {} k (fun r => { r with times := 0, back := 0 }) else t

theorem lossZeroed_other (t : Tab LossRec) (k j : Nat) (h : j ≠ k) : Tab.find (lossZeroed t k) j = Tab.find t j := by
  unfold lossZeroed
  split
  · exact Tab.find_put_other _ _ _ _ h
  · rfl

theorem lossZeroed_same (t : Tab LossRec) (k : Nat) : (Tab.get (lossZeroed t k) {} k).times = 0 := by
  unfold lossZeroed
  split
  · rw [Tab.get_upd_same]
  · next h => simp [Tab.get, Option.not_isSome_iff_eq_none.mp h]

theorem lossesZeroed_other (keys : List Nat) (t : Tab LossRec) (j : Nat) (h : j ∉ keys) : Tab.find (keys.foldl lossZeroed t) j = Tab.find t j := by
  induction keys generalizing t with
  | nil => rfl
  | cons k ks ih =>
    obtain ⟨hk, hs⟩ := not_or.mp (mt List.mem_cons.mpr h)
    rw [List.foldl_cons, ih _ hs, lossZeroed_other t k j hk]

theorem lossesZeroed_in (keys : List Nat) (t : Tab LossRec) (j : Nat) (h : j ∈ keys) : (Tab.get (keys.foldl lossZeroed t) {} j).times = 0 := by
  induction keys generalizing t with
  | nil => exact absurd h List.not_mem_nil
  | cons k ks ih =>
    by_cases later : j ∈ ks
    · exact ih _ later
    · obtain rfl := (List.mem_cons.mp h).resolve_right later
      rw [List.foldl_cons, Tab.get, lossesZeroed_other ks _ j later]
      exact lossZeroed_same t j

theorem le_foldl_max (l : List Nat) (a : Nat) : a ≤ l.foldl max a ∧ ∀ x ∈ l, x ≤ l.foldl max a := by
  induction l generalizing a with
  | nil => exact ⟨le_refl a, by simp⟩
  | cons y ys ih =>
    obtain ⟨start, rest⟩ := ih (max a y)
    refine ⟨(le_max_left a y).trans start, fun x hx => ?_⟩
    obtain rfl | hx := List.mem_cons.mp hx
    · exact (le_max_right a x).trans start
    · exact rest x hx

/-- The keys of the loss records that a command names. -/
def ZPacket.lossKeys (z : ZPacket) : List Nat := (lossKinds z.kind).map (fun k => unitKey k z.index)

/-- The most times that one of them was lost. -/
def Common.mostLost (c : Common) (z : ZPacket) : Nat := (z.lossKeys.map (fun k => (Tab.get c.ledger.loss {} k).times)).foldl max 0

theorem Common.ledgerClear_clears (c : Common) (z : ZPacket) :
    c.ledgerClear z = (c.modLedger (fun l => { l with loss := z.lossKeys.foldl lossZeroed l.loss })).zOk 0x0320 z [BitVec.ofNat 8 (min 255 (c.mostLost z)), 0, 0, 0] := rfl

theorem Common.mostLost_bounds (c : Common) (z : ZPacket) (k : Nat) (hk : k ∈ z.lossKeys) :
    min 255 (Tab.get c.ledger.loss {} k).times ≤ (BitVec.ofNat 8 (min 255 (c.mostLost z))).toNat := by
  have bound : (Tab.get c.ledger.loss {} k).times ≤ c.mostLost z := (le_foldl_max _ 0).2 _ (List.mem_map_of_mem hk)
  rw [BitVec.toNat_ofNat, Nat.mod_eq_of_lt (by omega)]
  omega

/-! ### The commands -/

section
variable (s : State)

/-- Two next states of a command are one where what both parts hold is. -/
theorem nextZ (z : ZPacket) {c d : Common} (h : c = d) : (.next (s.afterZ z c) : Host.Outcome State Fault Refusal) = .next (s.afterZ z d) := by rw [h]

theorem nextAfter (part : Part) {c d : Common} (h : c = d) : (.next (s.after part c) : Host.Outcome State Fault Refusal) = .next (s.after part d) := by rw [h]

theorem nextMod (part : Part) (f : Common → Common) {c : Common} (h : f (s.common part) = c) :
    (.next (s.modPart part f) : Host.Outcome State Fault Refusal) = .next (s.modPart part (fun _ => c)) := by
  subst h
  cases part <;> rfl

variable (z : ZPacket)

theorem exec_fwStageBegin_accepted (h : s.accepts 0x0801 z = true) : exec (.fwStageBegin z) s = .next (s.afterZ z ((s.gated 0x0801 z).fwBegin z)) := by
  rw [exec_fwStageBegin, execFwStageBegin, onZc_accepted 0x0801 z s _ h]

theorem exec_fwStageData_accepted (h : s.accepts 0x0802 z = true) : exec (.fwStageData z) s = .next (s.afterZ z ((s.gated 0x0802 z).fwData z)) := by
  rw [exec_fwStageData, execFwStageData, onZc_accepted 0x0802 z s _ h]

theorem exec_fwStageEnd_accepted (h : s.accepts 0x0803 z = true) : exec (.fwStageEnd z) s = .next (s.afterZ z ((s.gated 0x0803 z).fwEnd z)) := by
  rw [exec_fwStageEnd, execFwStageEnd, onZc_accepted 0x0803 z s _ h]

theorem exec_fwActivate_accepted (h : s.accepts 0x0804 z = true) : exec (.fwActivate z) s = .next (s.afterZ z ((s.gated 0x0804 z).fwActivate z)) := by
  rw [exec_fwActivate, execFwActivate, onZc_accepted 0x0804 z s _ h]

theorem exec_ledgerRead_accepted (h : s.accepts 0x0321 z = true) : exec (.ledgerRead z) s = .next (s.afterZ z ((s.gated 0x0321 z).ledgerRead z)) := by
  rw [exec_ledgerRead, execLedgerRead, onZc_accepted 0x0321 z s _ h]

theorem exec_ledgerClear_accepted (h : s.accepts 0x0320 z = true) : exec (.ledgerClear z) s = .next (s.afterZ z ((s.gated 0x0320 z).ledgerClear z)) := by
  rw [exec_ledgerClear, execLedgerClear, onZc_accepted 0x0320 z s _ h]

theorem exec_guyLinkChange_land (part : Part) (lineB up : Bool) : exec (.guyLinkChange part lineB up) s = .next (s.modPart part (fun c => c.guyLand lineB up)) := by
  rw [exec_guyLinkChange]
  cases part <;> rfl

end

/-- Settles O53: firmware is staged, activated, tried and kept or dropped; the ledger and the guy lines. -/
theorem firmwareStagesRunsOnTrialAndStays : Obligations.FirmwareStagesRunsOnTrialAndStays := by
  refine ⟨fun s z h => ?_, fun s part works => ?_, fun s z h => ?_, fun s z h => ?_, fun c g d good => ?_, fun s z h => ?_,
    fun s part works => ?_, fun s part lineB up => ?_, fun s z h => ?_, LedgerRec.length_bytes, fun s z h => ?_⟩
  · intro c total kind
    rw [exec_fwStageBegin_accepted s z h]
    refine ⟨fun d busy => nextZ s z (c.fwBegin_busy z d busy), fun idle large => nextZ s z (c.fwBegin_large z idle large), fun idle fits wrong => nextZ s z (c.fwBegin_kind z idle fits wrong),
      fun idle fits right => ⟨_, nextZ s z (c.fwBegin_begins z idle fits right), ?_⟩⟩
    obtain ⟨slot, running, other⟩ := c.fw.begun_slots z
    exact ⟨rfl, rfl, slot, running, other, _, rfl, rfl, rfl, rfl⟩
  · intro c
    rw [exec_flashEraseComplete, execFlashEraseComplete, onPart_after s part _ works]
    refine ⟨fun idle => nextAfter s part (c.eraseDone_idle idle), fun g hg runs on => ⟨_, nextAfter s part (c.eraseDone_erases g hg runs on), ?_⟩⟩
    refine ⟨?_, Common.executing_each_endExec 0x0801 0 0 [] _ (c.modFw (fun f => { f with staging := some { g with erased := true } })) rfl, fun no => ?_⟩
    · exact congrArg Common.fw (each_keep Common.unanswered _ _ _ fun t tag => t.unanswered_endExec 0x0801 tag 0 0 [])
    · rw [List.filter_eq_nil_iff.mpr fun x hx => by simpa using List.any_eq_false.mp no x hx]
      rfl
  · intro c off n
    rw [exec_fwStageData_accepted s z h]
    exact ⟨fun d busy => nextZ s z (c.fwData_busy z d busy), fun idle hg => nextZ s z (c.fwData_unbegun z idle hg), fun g idle hg =>
      ⟨fun bad => nextZ s z (c.fwData_misplaced z g idle hg bad), fun erased here fits => nextZ s z (c.fwData_appends z g idle hg erased here fits)⟩⟩
  · intro c
    rw [exec_fwStageEnd_accepted s z h]
    refine ⟨fun d busy => nextZ s z (c.fwEnd_busy z d busy), fun idle hg => nextZ s z (c.fwEnd_unbegun z idle hg), fun g idle hg =>
      ⟨fun k bad => nextZ s z (c.fwEnd_bad z g k idle hg bad), fun good booted => nextZ s z ?_, fun good failed => ⟨_, nextZ s z (c.fwEnd_good z g idle hg good), ?_⟩⟩⟩
    · exact (c.fwEnd_good z g idle hg good).trans (Common.tryImage_booted _ ((c.failedBoot_fwVerified z _).trans booted))
    · obtain ⟨fw, biv⟩ := (c.fwVerified z (imageOf g.data)).tryImage_failed ((c.failedBoot_fwVerified z _).trans failed)
      obtain ⟨staged, pick⟩ := c.fwVerified_keeps z (imageOf g.data)
      rw [biv]
      exact ⟨fw.trans staged, rfl, rfl, pick, rfl⟩
  · obtain ⟨⟨whole, digest⟩, ⟨magic, form, pages, size⟩, kind, root, ⟨sign, image⟩, svn⟩ := c.imageBad_none g d good
    exact ⟨whole, digest, magic, form, kind, svn, pages, size, root, sign, image⟩
  · intro c a d
    rw [exec_fwActivate_accepted s z h]
    exact ⟨fun same => nextZ s z (c.fwActivate_same z same), fun other hi => nextZ s z (c.fwActivate_unstaged z other hi), fun i other hi =>
      ⟨fun wrong => nextZ s z (c.fwActivate_digest z other i hi wrong), fun right soon => nextZ s z (c.fwActivate_soon z other i hi right soon),
        fun right late test => nextZ s z (c.fwActivate_test z other i hi right late test), fun right late test => nextZ s z (c.fwActivate_schedules z other i hi right late test)⟩⟩
  · intro c
    refine ⟨fun later => ?_, fun a ha due => ?_, ?_, fun passed no => ?_, fun trial => ?_, fun trial => ?_⟩
    · rw [exec_fwActivationPick, execFwActivationPick, onPart_after s part _ works]
      exact nextAfter s part (c.fwPick_waits later)
    · rw [exec_fwActivationPick, execFwActivationPick, onPart_after s part _ works]
      exact nextAfter s part (c.fwPick_comes a ha due)
    · rw [exec_fwRestartDone, execFwRestartDone, onPart_after s part _ works]
      rfl
    · rw [exec_fwTrialEnd, execFwTrialEnd, onPart_after s part _ works]
      exact nextAfter s part (c.trialEnd_none passed no)
    · rw [exec_fwTrialEnd, execFwTrialEnd, onPart_after s part _ works]
      exact ⟨_, nextAfter s part (c.trialEnd_passed trial), rfl, rfl⟩
    · rw [exec_fwTrialEnd, execFwTrialEnd, onPart_after s part _ works]
      exact nextAfter s part (c.trialEnd_failed trial)
  · intro c noted with_
    rw [exec_guyLinkChange_land]
    have set_ : ∀ x, with_ x = s.modPart part (fun _ => x) := fun x => by cases part <;> rfl
    rw [set_, set_]
    exact ⟨fun same => (nextMod s part _ (c.guyLand_same lineB up same)).trans (by cases part <;> rfl), fun _ held => nextMod s part _ (c.guyLand_held lineB up held),
      fun other works => nextMod s part _ (c.guyLand_changes lineB up works other)⟩
  · intro c
    rw [exec_ledgerRead_accepted s z h]
    exact ⟨fun none_ => nextZ s z (c.ledgerRead_none z none_), fun r hr => nextZ s z (c.ledgerRead_some z r hr)⟩
  · intro c keys
    rw [exec_ledgerClear_accepted s z h]
    exact ⟨_, _, nextZ s z (c.ledgerClear_clears z), rfl, fun k hk => ⟨lossesZeroed_in _ _ k hk, c.mostLost_bounds z k hk⟩, fun k hk => lossesZeroed_other _ _ k hk⟩

end Sys2Proof.Machine
end

section
/-!
PROOF. The SPDM responder and its sessions (R652 to R656), SPDM_MSG (R678).
-/

namespace Sys2Proof.Machine

/-! ### Answers of the responder (R652) -/

/-- A response is kept. -/
def Common.rspKept (c : Common) (x : SpdmRsp) : Common := c.modSec (fun y => { y with rsp := y.rsp ++ [x] })

theorem Common.spdmSend_none (c : Common) (x : SpdmRsp) (h : ∀ e, e ∈ c.mgmt.executing → e.op ≠ 0x0901) : c.spdmSend x = c.rspKept x := by
  have none_ : c.mgmt.executing.find? (fun e => e.op == 0x0901) = none := List.find?_eq_none.mpr fun e he => by simpa using h e he
  simp only [Common.spdmSend, Common.modSec_mgmt, none_, Option.map_none]
  rfl

theorem Common.spdmSend_some (c : Common) (x : SpdmRsp) (e : ZExec) (h : c.mgmt.executing.find? (fun e => e.op == 0x0901) = some e) :
    c.spdmSend x = ({ c.rspKept x with free := c.free + 1 } : Common).endExec 0x0901 e.tag 0 0 (spdmForm x.session (c.spdmBytes x.session)) := by
  simp only [Common.spdmSend, Common.modSec_mgmt, h, Option.map_some]
  rfl

/-- The first command of an opcode is the first of them with its tag. -/
theorem find_op_tag (l : List ZExec) (op : Nat) (e : ZExec) (h : l.find? (fun e => e.op == op) = some e) : l.find? (fun x => x.op == op && x.tag == e.tag) = some e := by
  obtain ⟨ends, pre, post, rfl, first⟩ := List.find?_eq_some_iff_append.mp h
  refine List.find?_eq_some_iff_append.mpr ⟨by simpa using ends, pre, post, rfl, fun x hx => ?_⟩
  have other := first x hx
  simp only [Bool.not_eq_true', beq_eq_false_iff_ne] at other
  simp [other]

theorem Common.spdmSend_ends (c : Common) (x : SpdmRsp) (e : ZExec) (h : c.mgmt.executing.find? (fun e => e.op == 0x0901) = some e) :
    (c.spdmSend x).sec = (c.rspKept x).sec ∧ (c.spdmSend x).mgmt.executing = c.mgmt.executing.erase e := by
  rw [c.spdmSend_some x e h]
  have kept := Common.unanswered_endExec ({ c.rspKept x with free := c.free + 1 } : Common) 0x0901 e.tag 0 0 (spdmForm x.session (c.spdmBytes x.session))
  refine ⟨(congrArg Common.sec kept :), ?_⟩
  exact congrArg Prod.fst (Common.besideReply_endExec ({ c.rspKept x with free := c.free + 1 } : Common) 0x0901 e.tag 0 0 _ e (find_op_tag _ _ e h))

/-! ### Requests of the negotiation (R652) -/

section
variable (s : State) (r : SpdmReq) (works : s.heldPart r.part = false)
include works

theorem onSpdm_up (f : Common → Common) (up : (s.common r.part).spdmUp = true) : onSpdm r s f = .next (s.after r.part (f (s.common r.part))) := by
  rw [onSpdm, onPart_after s r.part _ works, if_pos up]

theorem onSpdm_down (f : Common → Common) (down : (s.common r.part).spdmUp = false) : onSpdm r s f = .next (s.after r.part (s.common r.part)) := by
  rw [onSpdm, onPart_after s r.part _ works, if_neg (by simp [down])]

end

section
variable (c : Common) (r : SpdmReq)

theorem Common.spdmStep_follows (req : String) (stage : Nat) (h : c.sec.negotiated + 1 = stage ∨ c.sec.negotiated = stage) :
    c.spdmStep req r stage = (c.modSec (fun x => { x with negotiated := stage })).spdmAnswer req r true [] := if_pos h

theorem Common.spdmStep_early (req : String) (stage : Nat) (h : c.sec.negotiated + 1 ≠ stage) (k : c.sec.negotiated ≠ stage) :
    c.spdmStep req r stage = c.spdmAnswer req r false [] := if_neg (not_or.mpr ⟨h, k⟩)

/-- The answer to GET_CERTIFICATE. -/
def Common.certAnswer (c : Common) (r : SpdmReq) : Common :=
  if r.index = 0 then c.spdmSend { req := "GET_CERTIFICATE", session := r.session, ok := decide (3 ≤ c.sec.negotiated), certs := if 3 ≤ c.sec.negotiated then c.chain0 else [] }
  else c.spdmAnswer "GET_CERTIFICATE" r false []

/-- The answer to CHALLENGE. -/
def Common.challengeAnswer (c : Common) (r : SpdmReq) : Common :=
  if r.index = 0 then c.spdmSigned "CHALLENGE" r (decide (3 ≤ c.sec.negotiated)) [] else c.spdmAnswer "CHALLENGE" r false []

theorem Common.certAnswer_refused (h : ¬(r.index = 0 ∧ 3 ≤ c.sec.negotiated)) : c.certAnswer r = c.spdmAnswer "GET_CERTIFICATE" r false [] := by
  unfold Common.certAnswer
  split
  · next slot =>
    have early : ¬3 ≤ c.sec.negotiated := fun k => h ⟨slot, k⟩
    rw [if_neg early, decide_eq_false early]
    rfl
  · rfl

theorem Common.challengeAnswer_refused (h : ¬(r.index = 0 ∧ 3 ≤ c.sec.negotiated)) : c.challengeAnswer r = c.spdmAnswer "CHALLENGE" r false [] := by
  unfold Common.challengeAnswer
  split
  · next slot =>
    rw [decide_eq_false fun k => h ⟨slot, k⟩]
    rfl
  · rfl

theorem Common.certAnswer_sends (slot : r.index = 0) (late : 3 ≤ c.sec.negotiated) :
    c.certAnswer r = c.spdmSend { req := "GET_CERTIFICATE", session := r.session, ok := true, certs := c.chain0 } := by
  rw [Common.certAnswer, if_pos slot, if_pos late, decide_eq_true late]

theorem Common.challengeAnswer_signs (slot : r.index = 0) (late : 3 ≤ c.sec.negotiated) :
    c.challengeAnswer r = c.spdmSend { req := "CHALLENGE", session := r.session, ok := true, signer := c.sec.keysAtBoot.cert.subject } := by
  rw [Common.challengeAnswer, if_pos slot, decide_eq_true late]
  rfl

/-! ### Sessions (R652, R653) -/

/-- KEY_EXCHANGE may open the session that it names. -/
abbrev Common.mayOpen (c : Common) (r : SpdmReq) : Prop :=
  3 ≤ c.sec.negotiated ∧ r.good = true ∧ r.session ≠ 0 ∧ Tab.find c.sec.sessions r.session = none ∧ c.sec.sessions.length < 8

theorem Common.mayOpen_iff : (decide (3 ≤ c.sec.negotiated) && r.good && r.session != 0 && (Tab.find c.sec.sessions r.session).isNone && decide (c.sec.sessions.length < 8)) = true ↔
    c.mayOpen r := by
  simp [Common.mayOpen, and_assoc]

/-- A session opens, and the event says so. -/
def Common.opened (c : Common) (r : SpdmReq) : Common :=
  (c.modSec (fun x => { x with sessions := Tab.put x.sessions r.session { role := c.roleOfChain r.chain, chain := r.chain } })).secEvent 3 (c.roleOfChain r.chain).pitch

theorem Common.opened_sec : (c.opened r).sec = { c.sec with sessions := Tab.put c.sec.sessions r.session { role := c.roleOfChain r.chain, chain := r.chain } } ∧ (c.opened r).mgmt = c.mgmt :=
  ⟨Common.event_sec _ _ _, Common.event_mgmt _ _ _⟩

theorem Common.keyExchange_opens (h : c.mayOpen r) : c.keyExchange r = (c.opened r).spdmSigned "KEY_EXCHANGE" r true [] :=
  if_neg (by rw [(c.mayOpen_iff r).mpr h]; exact Bool.false_ne_true)

theorem Common.keyExchange_refuses (h : ¬c.mayOpen r) : c.keyExchange r = c.spdmAnswer "KEY_EXCHANGE" r false [] :=
  if_pos (by rw [Bool.eq_false_iff.mpr (mt (c.mayOpen_iff r).mp h)]; rfl)

theorem Common.finishSession_refuses (h : ∀ x, Tab.find c.sec.sessions r.session = some x → x.established = true) :
    c.finishSession r = c.spdmAnswer "FINISH" r false [] := by
  unfold Common.finishSession
  split
  · next x hx => exact if_pos (h x hx)
  · rfl

theorem Common.finishSession_good (x : Session) (hx : Tab.find c.sec.sessions r.session = some x) (open_ : x.established = false) (good : r.good = true) :
    c.finishSession r = (c.modSec (fun y => { y with sessions := Tab.put y.sessions r.session { x with established := true } })).spdmAnswer "FINISH" r true [] := by
  simp [Common.finishSession, hx, open_, good]

theorem Common.finishSession_bad (x : Session) (hx : Tab.find c.sec.sessions r.session = some x) (open_ : x.established = false) (bad : r.good = false) :
    c.finishSession r = (c.closeSession r.session).spdmAnswer "FINISH" r false [] := by
  simp [Common.finishSession, hx, open_, bad]

theorem Common.sessionUp_established (k : Nat) (x : Session) (hx : Tab.find c.sec.sessions k = some x) (est : x.established = true) : c.sessionUp k = true := by
  simp [Common.sessionUp, hx, est]

theorem Common.keyUpdate_updates (up : c.sessionUp r.session = true) :
    c.keyUpdate r = (c.modSec (fun x => { x with sessions := Tab.upd x.sessions {} r.session (fun y => { y with keyGen := y.keyGen + 1 }) })).spdmAnswer "KEY_UPDATE" r true [] := if_pos up

theorem Common.keyUpdate_refuses (down : c.sessionUp r.session = false) : c.keyUpdate r = c.spdmAnswer "KEY_UPDATE" r false [] := if_neg (by simp [down])

theorem Common.endSession_ends (up : c.sessionUp r.session = true) : c.endSession r = (c.spdmAnswer "END_SESSION" r true []).closeSession r.session := if_pos up

theorem Common.endSession_refuses (down : c.sessionUp r.session = false) : c.endSession r = c.spdmAnswer "END_SESSION" r false [] := if_neg (by simp [down])

theorem Common.find_closeSession_same (k : Nat) : Tab.find (c.closeSession k).sec.sessions k = none := by
  unfold Common.closeSession
  split
  · exact (congrArg (fun x : Security => Tab.find x.sessions k) (Common.event_sec _ _ _)).trans (Tab.find_del_same _ _)
  · assumption

theorem Common.find_closeSession_other (k j : Nat) (h : j ≠ k) : Tab.find (c.closeSession k).sec.sessions j = Tab.find c.sec.sessions j := by
  unfold Common.closeSession
  split
  · exact (congrArg (fun x : Security => Tab.find x.sessions j) (Common.event_sec _ _ _)).trans (Tab.find_del_other _ _ _ h)
  · rfl

theorem Common.closeSession_keys (k : Nat) : (c.closeSession k).sec.keys = c.sec.keys := by
  unfold Common.closeSession
  split
  · rw [Common.secEvent, Common.event_sec]
    rfl
  · rfl

end

/-! ### Measurement blocks (R655, R656) -/

theorem Common.mem_bootBlocks (c : Common) (n : Nat) : n ∈ c.bootBlocks.map (·.1) ↔ 1 ≤ n ∧ n ≤ 4 := by
  simp only [Common.bootBlocks, List.map_cons, List.map_nil, List.mem_cons, List.not_mem_nil, or_false]
  omega

/-- Blocks numbered from a base, one for each of the first indices. -/
theorem mem_numbered (base m n : Nat) (f : Nat → Nat × List Byte) (h : ∀ k, (f k).1 = base + k) : n ∈ ((List.range m).map f).map (·.1) ↔ base ≤ n ∧ n < base + m := by
  simp only [List.map_map, List.mem_map, List.mem_range, Function.comp_apply, h]
  constructor
  · rintro ⟨k, hk, rfl⟩
    omega
  · intro ⟨low, high⟩
    exact ⟨n - base, by omega, by omega⟩

theorem SwState.mem_blocks_boot (w : SwState) (n : Nat) : n ∈ (w.blocks .boot).map (·.1) ↔ 1 ≤ n ∧ n ≤ 4 := by
  rw [SwState.blocks, List.append_nil, Common.mem_bootBlocks]

theorem SwState.mem_blocks_pitch (w : SwState) (p n : Nat) : n ∈ (w.blocks (.pitch p)).map (·.1) ↔ 1 ≤ n ∧ n ≤ 4 ∨ n = 0x20 + p ∨ 0x40 ≤ n ∧ n < 0x80 := by
  rw [SwState.blocks, List.map_append, List.mem_append, Common.mem_bootBlocks, List.map_cons, List.mem_cons, mem_numbered 0x40 64 n _ fun k => rfl]
  rfl

theorem SwState.mem_blocks_all (w : SwState) (n : Nat) : n ∈ (w.blocks .all).map (·.1) ↔ 1 ≤ n ∧ n ≤ 4 ∨ 0x20 ≤ n ∧ n < 0x30 ∨ 0x40 ≤ n ∧ n < 0x80 := by
  rw [SwState.blocks, List.map_append, List.mem_append, Common.mem_bootBlocks, List.map_append, List.mem_append, mem_numbered 0x20 16 n _ fun k => rfl,
    mem_numbered 0x40 64 n _ fun k => rfl]

theorem EpState.mem_blocks_boot (w : EpState) (n : Nat) : n ∈ (w.blocks .boot).map (·.1) ↔ 1 ≤ n ∧ n ≤ 4 := by
  rw [EpState.blocks, List.append_nil, Common.mem_bootBlocks]

/-- The measurement slots of a pitch. -/
theorem EpState.mem_measBlocks (w : EpState) (p n : Nat) :
    n ∈ (((List.range 16).filter (fun m => (Tab.get w.meas {} m).pitch == p)).map (fun m => w.measBlock m)).map (·.1) ↔
      0x80 ≤ n ∧ n < 0x90 ∧ (Tab.get w.meas {} (n - 0x80)).pitch = p := by
  simp only [List.map_map, List.mem_map, List.mem_filter, List.mem_range, beq_iff_eq, Function.comp_apply, EpState.measBlock]
  constructor
  · rintro ⟨m, ⟨hm, own⟩, rfl⟩
    exact ⟨by omega, by omega, by rwa [Nat.add_sub_cancel_left]⟩
  · intro ⟨low, high, own⟩
    exact ⟨n - 0x80, ⟨by omega, own⟩, by omega⟩

theorem EpState.mem_blocks_pitch (w : EpState) (p n : Nat) : n ∈ (w.blocks (.pitch p)).map (·.1) ↔
    1 ≤ n ∧ n ≤ 4 ∨ n = 0x20 + p ∨ 0x80 ≤ n ∧ n < 0x90 ∧ (Tab.get w.meas {} (n - 0x80)).pitch = p ∨ n = 0x90 ∧ w.c.rf' 0xF0000 3 0 = p := by
  have rx : ∀ b : List Byte, n ∈ (if w.c.rf' 0xF0000 3 0 = p then [(0x90, b)] else []).map (·.1) ↔ n = 0x90 ∧ w.c.rf' 0xF0000 3 0 = p := fun b => by
    split <;> simp [*]
  rw [EpState.blocks, List.map_append, List.mem_append, Common.mem_bootBlocks, List.cons_append, List.map_cons, List.mem_cons, List.map_append, List.mem_append,
    EpState.mem_measBlocks, rx]
  rfl

theorem EpState.mem_blocks_all (w : EpState) (n : Nat) : n ∈ (w.blocks .all).map (·.1) ↔ 1 ≤ n ∧ n ≤ 4 ∨ 0x20 ≤ n ∧ n < 0x30 ∨ 0x80 ≤ n ∧ n ≤ 0x90 := by
  rw [EpState.blocks, List.map_append, List.mem_append, Common.mem_bootBlocks, List.map_append, List.mem_append, List.map_append, List.mem_append,
    mem_numbered 0x20 16 n _ fun k => rfl, mem_numbered 0x80 16 n _ fun k => rfl, List.map_cons, List.map_nil, List.mem_singleton]
  omega

/-! ### `SPDM_MSG` (R678) -/

section
variable (c : Common) (op : Nat) (z : ZPacket)

theorem Common.gate_dup (d : Common) (reply : z.noReply = false) (hd : (c.i3cClear z).zDup z = some d) : (c.gate op z).2 = false := by
  unfold Common.gate
  simp only [reply, hd]
  split
  · rfl
  · split <;> rfl

theorem Common.i3cClear_tags : (c.i3cClear z).mgmt.kept = c.mgmt.kept ∧ (c.i3cClear z).mgmt.executing = c.mgmt.executing := by
  unfold Common.i3cClear
  split <;> exact ⟨rfl, rfl⟩

theorem Common.zDup_some (h : c.mgmt.kept.any (fun k => k.tag == z.tag) = true ∨ c.mgmt.executing.any (fun e => e.tag == z.tag) = true) : ∃ d, c.zDup z = some d := by
  unfold Common.zDup
  split
  · exact ⟨_, rfl⟩
  · next none_ =>
    obtain kept | runs := h
    · obtain ⟨k, hk, tag⟩ := List.any_eq_true.mp kept
      exact absurd tag (List.find?_eq_none.mp none_ k hk)
    · exact ⟨_, if_pos runs⟩

/-- A command that passes its checks is no duplicate, whatever it encloses. -/
theorem Common.repeatsInner_executes (enclosed : Option Nat) (h : (c.gate op z).2 = true) : c.repeatsInner z enclosed = false := by
  by_contra repeats
  simp only [Common.repeatsInner, Bool.not_eq_false, Bool.and_eq_true, Bool.or_eq_true, Bool.not_eq_true'] at repeats
  obtain ⟨⟨-, reply⟩, dup⟩ := repeats
  obtain ⟨kept, runs⟩ := c.i3cClear_tags z
  have known : (c.i3cClear z).mgmt.kept.any (fun k => k.tag == z.tag) = true ∨ (c.i3cClear z).mgmt.executing.any (fun e => e.tag == z.tag) = true := by
    rw [kept, runs]
    obtain ⟨k, hk, same⟩ | ⟨e, he, same⟩ := dup.imp List.any_eq_true.mp List.any_eq_true.mp
    · exact .inl (List.any_eq_true.mpr ⟨k, hk, ((Bool.and_eq_true _ _).mp same).1⟩)
    · exact .inr (List.any_eq_true.mpr ⟨e, he, ((Bool.and_eq_true _ _).mp same).1⟩)
  obtain ⟨d, hd⟩ := (c.i3cClear z).zDup_some z known
  exact absurd (h.symm.trans (c.gate_dup op z d reply hd)) (by decide)

theorem Common.spdmMsg_unopened (enclosed : Option Nat) (h : pn z.payload 0 4 ≠ 0) (none_ : Tab.find c.sec.sessions (pn z.payload 0 4) = none) :
    c.spdmMsg z enclosed = c.zAnswer 0x0901 z 0x0904 0 [] := if_pos ⟨h, by rw [none_]; rfl⟩

variable (open_ : pn z.payload 0 4 = 0 ∨ (Tab.find c.sec.sessions (pn z.payload 0 4)).isSome = true)
include open_

theorem Common.spdmMsg_opened (enclosed : Option Nat) : c.spdmMsg z enclosed =
    match enclosed with
    | some t => if t = z.tag then c else c.zAnswer 0x0901 z zMalformed 32 []
    | none => c.zHold 0x0901 z 0 none :=
  if_neg fun ⟨other, none_⟩ => open_.elim other fun some_ => absurd (Option.isSome_iff_ne_none.mp some_) (not_not_intro (Option.isNone_iff_eq_none.mp none_))

theorem Common.spdmMsg_same : c.spdmMsg z (some z.tag) = c := (c.spdmMsg_opened z open_ _).trans (if_pos rfl)

theorem Common.spdmMsg_malformed (t : Nat) (h : t ≠ z.tag) : c.spdmMsg z (some t) = c.zAnswer 0x0901 z 0x0010 32 [] := (c.spdmMsg_opened z open_ _).trans (if_neg h)

theorem Common.spdmMsg_waits : c.spdmMsg z none = c.zHold 0x0901 z 0 none := c.spdmMsg_opened z open_ _

end

section
variable (s : State) (z : ZPacket) (enclosed : Option Nat)

theorem exec_spdmMsg_repeats (works : s.heldPart z.part = false) (h : (s.common z.part).repeatsInner z enclosed = true) :
    exec (.spdmMsg z enclosed) s = .next (s.afterZ z (s.common z.part)) := by
  rw [exec_spdmMsg, execSpdmMsg]
  unfold onBoth State.afterZ
  cases e : z.part <;> rw [e] at works h <;> simp only [State.common] at h ⊢
  · rw [onSw_after s _ works, if_pos h]
  · rw [onEp_after s _ works, if_pos h]

/-- A new SPDM_MSG goes through the checks, and acts where it passes them. -/
theorem exec_spdmMsg_new (works : s.heldPart z.part = false) (h : (s.common z.part).repeatsInner z enclosed = false) :
    exec (.spdmMsg z enclosed) s = .next (s.afterZ z (if s.accepts 0x0901 z then (s.gated 0x0901 z).spdmMsg z enclosed else s.gated 0x0901 z)) := by
  rw [exec_spdmMsg, execSpdmMsg]
  unfold onBoth State.afterZ
  cases e : z.part <;> rw [e] at works h <;> simp only [State.common] at h ⊢
  · rw [onSw_after s _ works, if_neg (by simp [h])]
    simp only [SwState.zRun, State.accepts, State.gated, State.common, e, works, Bool.not_false, Bool.true_and]
    split <;> rfl
  · rw [onEp_after s _ works, if_neg (by simp [h])]
    simp only [EpState.zRun, State.accepts, State.gated, State.common, e, works, Bool.not_false, Bool.true_and]
    split <;> rfl

theorem exec_spdmMsg_refused (works : s.heldPart z.part = false) (h : (s.common z.part).repeatsInner z enclosed = false) (refused : s.accepts 0x0901 z = false) :
    exec (.spdmMsg z enclosed) s = .next (s.afterZ z (s.gated 0x0901 z)) := by
  rw [exec_spdmMsg_new s z enclosed works h, if_neg (by simp [refused])]

theorem exec_spdmMsg_accepted (h : s.accepts 0x0901 z = true) : exec (.spdmMsg z enclosed) s = .next (s.afterZ z ((s.gated 0x0901 z).spdmMsg z enclosed)) := by
  have passes : ((s.common z.part).gate 0x0901 z).2 = true := ((Bool.and_eq_true _ _).mp h).2
  rw [exec_spdmMsg_new s z enclosed (s.accepts_held _ z h) (Common.repeatsInner_executes _ _ z enclosed passes), if_pos h]

end

/-! ### The requests -/

section
variable (s : State) (r : SpdmReq) (works : s.heldPart r.part = false)
include works

theorem exec_getMeasurements_down (down : (s.common r.part).spdmUp = false) : exec (.getMeasurements r) s = .next (s.after r.part (s.common r.part)) := by
  rw [exec_getMeasurements, execGetMeasurements]
  unfold onBoth
  cases e : r.part <;> rw [e] at works down <;> simp only [State.common] at down ⊢
  · rw [onSw_after s _ works, after_sw_same]
    simp [SwState.mod, down]
  · rw [onEp_after s _ works, after_ep_same]
    simp [EpState.mod, down]

/-- The answer to GET_MEASUREMENTS, with the blocks that the session may read. -/
def Common.blocksAnswer (c : Common) (r : SpdmReq) (l : List (Nat × List Byte)) : Common :=
  let ok := decide (3 ≤ c.sec.negotiated)
  c.spdmSend { req := "GET_MEASUREMENTS", session := r.session, ok := ok, blocks := if ok then askedBlocks r.index l else [], signer := if ok then c.sec.keysAtBoot.cert.subject else [] }

omit works in
theorem Common.blocksAnswer_eq (c : Common) (l : List (Nat × List Byte)) :
    c.spdmSigned "GET_MEASUREMENTS" r (decide (3 ≤ c.sec.negotiated)) (if 3 ≤ c.sec.negotiated then askedBlocks r.index l else []) = c.blocksAnswer r l := by
  simp only [Common.spdmSigned, Common.blocksAnswer, decide_eq_true_eq]

variable (up : (s.common r.part).spdmUp = true)
include up

theorem exec_getMeasurements_sw (hp : r.part = .sw) :
    exec (.getMeasurements r) s = .next (s.afterSw { s.sw with c := s.sw.c.blocksAnswer r (s.sw.blocks (s.sw.c.scope r.session)) }) := by
  rw [hp] at works up
  have up : s.sw.c.spdmUp = true := up
  rw [exec_getMeasurements, execGetMeasurements, hp]
  simp only [onBoth, onSw_after s _ works, SwState.mod, up, if_true, Common.blocksAnswer_eq]

theorem exec_getMeasurements_ep (hp : r.part = .ep) :
    exec (.getMeasurements r) s = .next (s.afterEp { s.ep with c := s.ep.c.blocksAnswer r (s.ep.blocks (s.ep.c.scope r.session)) }) := by
  rw [hp] at works up
  have up : s.ep.c.spdmUp = true := up
  rw [exec_getMeasurements, execGetMeasurements, hp]
  simp only [onBoth, onEp_after s _ works, EpState.mod, up, if_true, Common.blocksAnswer_eq]

end

/-- Settles O58: the responder's requests, the sessions they open and close, the blocks a session reads, and SPDM_MSG. -/
theorem sessionsOpenUpdateAndClose : Obligations.SessionsOpenUpdateAndClose := by
  refine ⟨fun c x => ?_, fun s r i works down hi => ?_, fun s r works up => ?_, fun c k => ⟨c.find_closeSession_same k, c.find_closeSession_other k, c.closeSession_keys k⟩, fun s r works up => ?_,
    fun w p n => ⟨w.mem_blocks_boot n, w.mem_blocks_pitch p n, w.mem_blocks_all n⟩, fun w p n _ => ⟨w.mem_blocks_boot n, w.mem_blocks_pitch p n, w.mem_blocks_all n⟩,
    fun s z enclosed works => ⟨exec_spdmMsg_repeats s z enclosed works, exec_spdmMsg_refused s z enclosed works⟩, fun s z h => ?_⟩
  · exact ⟨c.spdmSend_none x, fun e he => ⟨c.spdmSend_some x e he, c.spdmSend_ends x e he⟩⟩
  · obtain rfl | rfl | rfl | rfl | rfl | rfl | rfl | rfl | rfl | rfl | rfl | rfl := hi
    · exact onSpdm_down s r works _ down
    · exact onSpdm_down s r works _ down
    · exact onSpdm_down s r works _ down
    · exact onSpdm_down s r works _ down
    · exact onSpdm_down s r works _ down
    · exact onSpdm_down s r works _ down
    · exact exec_getMeasurements_down s r works down
    · exact onSpdm_down s r works _ down
    · exact onSpdm_down s r works _ down
    · exact onSpdm_down s r works _ down
    · exact onSpdm_down s r works _ down
    · exact onSpdm_down s r works _ down
  · intro c n signer
    have acts : ∀ (f : Common → Common) {d : Common}, f c = d → onSpdm r s f = .next (s.after r.part d) := fun f d h => (onSpdm_up s r works f up).trans (nextAfter s r.part h)
    refine ⟨acts _ rfl, fun i req stage hi => ?_, fun i req ok hi => ?_, fun slot late => ⟨acts _ (c.certAnswer_sends r slot late), acts _ (c.challengeAnswer_signs r slot late)⟩,
      fun may => ?_, fun may => acts _ (c.keyExchange_refuses r may), fun h => acts _ (c.finishSession_refuses r h),
      fun x hx open_ => ⟨fun good => acts _ (c.finishSession_good r x hx open_ good), fun bad => acts _ (c.finishSession_bad r x hx open_ bad)⟩,
      fun closed => ⟨acts _ (c.keyUpdate_refuses r closed), acts _ (c.endSession_refuses r closed)⟩, fun open_ => acts _ (c.endSession_ends r open_), fun x hx est => ?_⟩
    · obtain ⟨rfl, rfl, rfl⟩ | ⟨rfl, rfl, rfl⟩ := hi
      · exact ⟨fun h => acts _ (c.spdmStep_follows r _ _ h), fun h k => acts _ (c.spdmStep_early r _ _ h k)⟩
      · exact ⟨fun h => acts _ (c.spdmStep_follows r _ _ h), fun h k => acts _ (c.spdmStep_early r _ _ h k)⟩
    · obtain ⟨rfl, rfl, iff⟩ | ⟨rfl, rfl, refused, rfl⟩ | ⟨rfl, rfl, refused, rfl⟩ | ⟨rfl, rfl, iff⟩ := hi
      · have eq : decide (3 ≤ n) = ok := Bool.eq_iff_iff.mpr (decide_eq_true_iff.trans iff.symm)
        exact acts _ (congrArg (fun ok => c.spdmAnswer "GET_DIGESTS" r ok []) eq)
      · exact acts _ (c.certAnswer_refused r refused)
      · exact acts _ (c.challengeAnswer_refused r refused)
      · exact acts _ (congrArg (fun ok => c.spdmAnswer "HEARTBEAT" r ok []) (Bool.eq_iff_iff.mpr iff.symm))
    · obtain ⟨sec, mgmt⟩ := c.opened_sec r
      refine ⟨c.opened r, acts _ ((c.keyExchange_opens r may).trans ?_), mgmt, by rw [sec], ?_, fun k other => ?_⟩
      · rw [Common.spdmSigned, sec, if_pos rfl]
      · rw [sec]
        exact Tab.find_put_same _ _ _
      · rw [sec]
        exact Tab.find_put_other _ _ _ _ other
    · refine ⟨_, acts _ (c.keyUpdate_updates r (c.sessionUp_established _ x hx est)), rfl, ?_, fun k other => Tab.find_put_other _ _ _ _ other⟩
      refine (Tab.find_put_same _ _ _).trans ?_
      rw [Tab.get, hx]
      rfl
  · intro ok
    refine ⟨fun hp => ?_, fun hp => ?_⟩
    · have own : s.common r.part = s.sw.c := by rw [hp]; rfl
      simp only [ok, own, exec_getMeasurements_sw s r works up hp, Common.blocksAnswer]
    · have own : s.common r.part = s.ep.c := by rw [hp]; rfl
      simp only [ok, own, exec_getMeasurements_ep s r works up hp, Common.blocksAnswer]
  · intro c k
    exact ⟨fun enclosed other none_ => (exec_spdmMsg_accepted s z _ h).trans (nextZ s z (c.spdmMsg_unopened z enclosed other none_)), fun open_ =>
      ⟨(exec_spdmMsg_accepted s z _ h).trans (nextZ s z (c.spdmMsg_same z open_)), fun t other => (exec_spdmMsg_accepted s z _ h).trans (nextZ s z (c.spdmMsg_malformed z open_ t other)),
        (exec_spdmMsg_accepted s z _ h).trans (nextZ s z (c.spdmMsg_waits z open_))⟩⟩

end Sys2Proof.Machine
end

section
/-!
PROOF. Scrubs of the switch and of the end-point (R632 to R635), the debug unlock (R651), owners (R650, R703) and the keys of a pitch (R654, R664).
-/

namespace Sys2Proof.Machine

/-! ### The end of scrubs (R632, R634) -/

theorem Memory.byte_zero_out (m : Memory) (a n c : Nat) (h : c < a ∨ a + n ≤ c) : (m.zero a n).byte c = m.byte c := by
  have same : Tab.find (m.filter (fun e => e.1 < a || a + n ≤ e.1)) c = Tab.find m c := by
    induction m with
    | nil => rfl
    | cons e r ih =>
      obtain ⟨j, w⟩ := e
      by_cases hj : j < a ∨ a + n ≤ j
      · rw [List.filter_cons_of_pos (by simpa using hj), Tab.find, Tab.find, ih]
      · have other : j ≠ c := by omega
        rw [List.filter_cons_of_neg (by simpa using hj), ih, Tab.find, if_neg other]
  rw [Memory.byte, Memory.zero, Tab.get, same]
  rfl

/-- The first byte of a DRAM unit that scrubs. -/
def Scrub.base (x : Scrub) : Nat := x.unit / 65536 * 2 ^ 36 + x.unit % 65536 * 2 ^ 26

/-- A byte of DRAM lies in the unit that scrubs. -/
def Scrub.inside (x : Scrub) (a : Nat) : Prop := x.kind = .dram ∧ x.base ≤ a ∧ a < x.base + 2 ^ 26

/-- A core holds nothing of the pitch that it had. -/
def BarCore.blank (b : BarCore) : Prop := b.pad = [] ∧ b.ctxs = [] ∧ b.lines = [] ∧ b.scrub = false

/-- A core that its scrub has emptied. -/
def BarCore.cleared (b : BarCore) : BarCore := { b with ctxs := [], pad := [], lines := [], scrub := false }

/-- What no end of a scrub touches. -/
def SwState.besideScrubs (s : SwState) : List Scrub × Tab PitchSt × Tab Prog × List CollRec := (s.scrubs, s.pitches, s.progs, s.colls)

theorem SwState.core_modBar_same (s : SwState) (k : Nat) (f : BarCore → BarCore) : (s.modBar k f).core' k = f (s.core' k) := Tab.get_upd_same _ _ _ _

theorem SwState.core_modBar_other (s : SwState) (k j : Nat) (f : BarCore → BarCore) (h : j ≠ k) : (s.modBar k f).core' j = s.core' j := Tab.get_upd_other _ _ _ _ _ h

section
variable (s : SwState) (x : Scrub)

theorem SwState.besideScrubs_mod (f : Common → Common) : (s.mod f).besideScrubs = s.besideScrubs := rfl

theorem SwState.core_mod (f : Common → Common) (k : Nat) : (s.mod f).core' k = s.core' k := rfl

theorem SwState.besideScrubs_scrubbed : (s.scrubbed x).besideScrubs = s.besideScrubs := by
  unfold SwState.scrubbed
  split
  · exact SwState.besideScrubs_mod _ _
  · rfl
  · rfl

theorem SwState.core_scrubbed (k : Nat) (h : x.kind = .core) : (s.scrubbed x).core' k = (s.modBar x.unit BarCore.cleared).core' k := by
  unfold SwState.scrubbed
  rw [h]
  exact SwState.core_mod _ _ _

theorem SwState.core_scrubbed_same (h : x.kind = .core) : ((s.scrubbed x).core' x.unit).blank := by
  rw [s.core_scrubbed x _ h, SwState.core_modBar_same]
  exact ⟨rfl, rfl, rfl, rfl⟩

theorem SwState.core_scrubbed_other (k : Nat) (h : x.kind = .core → x.unit ≠ k) : (s.scrubbed x).core' k = s.core' k := by
  by_cases core : x.kind = .core
  · rw [s.core_scrubbed x k core, s.core_modBar_other _ _ _ (h core).symm]
  · unfold SwState.scrubbed
    split
    · next kind => exact absurd kind core
    · rfl
    · rfl

theorem SwState.blank_scrubbed (k : Nat) (h : (s.core' k).blank) : ((s.scrubbed x).core' k).blank := by
  by_cases own : x.kind = .core ∧ x.unit = k
  · obtain ⟨core, rfl⟩ := own
    exact s.core_scrubbed_same x core
  · rw [s.core_scrubbed_other x k fun core unit => own ⟨core, unit⟩]
    exact h

theorem SwState.dram_scrubbed_in (a : Nat) (h : x.inside a) : (s.scrubbed x).dram.byte a = 0 := by
  obtain ⟨kind, low, high⟩ := h
  simp only [SwState.scrubbed, kind]
  exact Memory.byte_zero_in _ _ _ _ low high

theorem SwState.dram_scrubbed_out (a : Nat) (h : ¬x.inside a) : (s.scrubbed x).dram.byte a = s.dram.byte a := by
  unfold SwState.scrubbed
  split
  · rw [SwState.mod_dram, SwState.modBar_dram]
  · next kind =>
    refine Memory.byte_zero_out _ _ _ _ (Decidable.or_iff_not_not_and_not.mpr fun ⟨low, high⟩ => h ⟨kind, Nat.not_lt.mp low, Nat.not_le.mp high⟩)
  · rfl

theorem SwState.zero_scrubbed (a : Nat) (h : s.dram.byte a = 0) : (s.scrubbed x).dram.byte a = 0 := by
  by_cases own : x.inside a
  · exact s.dram_scrubbed_in x a own
  · rw [s.dram_scrubbed_out x a own, h]

end

/-- Scrubs that end one after the other. -/
def SwState.scrubbedAll (s : SwState) (l : List Scrub) : SwState := each l s (fun s x => s.scrubbed x)

section
variable (l : List Scrub) (s : SwState)

theorem SwState.besideScrubs_scrubbedAll : (s.scrubbedAll l).besideScrubs = s.besideScrubs :=
  each_keep SwState.besideScrubs _ _ _ fun s x => s.besideScrubs_scrubbed x

theorem SwState.blank_scrubbedAll (k : Nat) (h : (s.core' k).blank) : ((s.scrubbedAll l).core' k).blank := by
  induction l generalizing s with
  | nil => exact h
  | cons x l ih => exact ih _ (s.blank_scrubbed x k h)

theorem SwState.core_scrubbedAll_in (x : Scrub) (hx : x ∈ l) (core : x.kind = .core) : ((s.scrubbedAll l).core' x.unit).blank := by
  induction l generalizing s with
  | nil => exact absurd hx List.not_mem_nil
  | cons y l ih =>
    obtain rfl | later := List.mem_cons.mp hx
    · exact SwState.blank_scrubbedAll l _ _ (s.core_scrubbed_same x core)
    · exact ih _ later

theorem SwState.core_scrubbedAll_out (k : Nat) (h : ∀ x ∈ l, x.kind = .core → x.unit ≠ k) : (s.scrubbedAll l).core' k = s.core' k := by
  induction l generalizing s with
  | nil => rfl
  | cons y l ih =>
    obtain ⟨first, rest⟩ := List.forall_mem_cons.mp h
    exact (ih _ rest).trans (s.core_scrubbed_other y k first)

theorem SwState.zero_scrubbedAll (a : Nat) (h : s.dram.byte a = 0) : (s.scrubbedAll l).dram.byte a = 0 := by
  induction l generalizing s with
  | nil => exact h
  | cons y l ih => exact ih _ (s.zero_scrubbed y a h)

theorem SwState.dram_scrubbedAll_in (a : Nat) (x : Scrub) (hx : x ∈ l) (own : x.inside a) : (s.scrubbedAll l).dram.byte a = 0 := by
  induction l generalizing s with
  | nil => exact absurd hx List.not_mem_nil
  | cons y l ih =>
    obtain rfl | later := List.mem_cons.mp hx
    · exact SwState.zero_scrubbedAll l _ a (s.dram_scrubbed_in x a own)
    · exact ih _ later

theorem SwState.dram_scrubbedAll_out (a : Nat) (h : ∀ x ∈ l, ¬x.inside a) : (s.scrubbedAll l).dram.byte a = s.dram.byte a := by
  induction l generalizing s with
  | nil => rfl
  | cons y l ih =>
    obtain ⟨first, rest⟩ := List.forall_mem_cons.mp h
    exact (ih _ rest).trans (s.dram_scrubbed_out y a first)

end

/-- The scrubs that end leave the list and zero what they scrub; beside that only a register changes. -/
theorem SwState.endScrubs_eq (s : SwState) (f : Scrub → Bool) :
    ∃ c : Common, s.endScrubs f = { ({ s with scrubs := s.scrubs.filter (fun x => !f x) } : SwState).scrubbedAll (s.scrubs.filter f) with c := c } := by
  unfold SwState.endScrubs
  extract_lets gone s1 own
  split
  · exact ⟨_, rfl⟩
  · split
    · exact ⟨_, rfl⟩
    · exact ⟨_, rfl⟩

/-! ### The end-point's scrub (R633, R635) -/

/-- What a packet on its way out leaves of the end-point: the keys, caches, slots and records. -/
def EpState.besideSends (e : EpState) : Tab TrafficKey × Tab (List Byte) × Tab MeasSlot × Home := (e.c.sec.keys, e.rlc, e.meas, e.home)

theorem Common.sec_markDepth (c : Common) (n q : Nat) : (c.markDepth n q).sec = c.sec := by
  unfold Common.markDepth
  simp only
  split
  · exact Common.wrF_sec _ _ _ _ _
  · rfl

theorem Common.sec_noteLevel (c : Common) (n v : Nat) : (c.noteLevel n v).sec = c.sec := by
  unfold Common.noteLevel
  split <;> rfl

theorem Common.sec_enqueue (c : Common) (n q : Nat) (e : QEntry) : (c.enqueue n q e).sec = c.sec := by
  unfold Common.enqueue
  rw [Common.sec_noteLevel, Common.sec_markDepth]
  rfl

section
variable (e : EpState)

theorem EpState.besideSends_mod (f : Common → Common) (h : (f e.c).sec.keys = e.c.sec.keys) : (e.mod f).besideSends = e.besideSends :=
  congrArg (·, e.rlc, e.meas, e.home) h

theorem EpState.besideSends_toWire (p : Packet) (r : Packet × EpState) (h : e.toWire p = some r) : r.2.besideSends = e.besideSends := by
  unfold EpState.toWire at h
  split at h
  · unfold Common.encrypt at h
    split at h
    · next x hx =>
      obtain rfl := Option.some.inj h
      split at hx
      · exact absurd hx (by simp)
      · split at hx
        · exact absurd hx (by simp)
        · obtain rfl := Option.some.inj hx
          rfl
    · exact absurd h (by simp)
  · obtain rfl := Option.some.inj h
    rfl

theorem EpState.besideSends_egress (plane q : Nat) (x : QEntry) : (e.egress plane q x).besideSends = e.besideSends := by
  unfold EpState.egress
  split
  · next r h =>
    refine (r.2.besideSends_mod _ ?_).trans (e.besideSends_toWire _ r h)
    split
    · rw [Common.sec_noteLevel, Common.sec_markDepth]
      rfl
    · rw [Common.sec_enqueue]
  · rfl

theorem EpState.besideSends_unstake (plane : Nat) (w : Packet × Option Nat) : (e.unstake plane w).besideSends = e.besideSends := by
  unfold EpState.unstake
  split
  · exact e.besideSends_egress _ _ _
  · exact EpState.besideSends_egress _ _ _ _

theorem EpState.besideSends_dropFlows : e.dropFlows.besideSends = e.besideSends := by
  refine each_keep EpState.besideSends _ _ _ fun d x => ?_
  simp only
  split
  · exact each_keep EpState.besideSends _ _ _ fun d w => d.besideSends_unstake _ w
  · rfl

/-- What an end-point scrub erases. -/
theorem EpState.scrubAll_erases : e.scrubAll.c.sec.keys = [] ∧ e.scrubAll.rlc = [] ∧ e.scrubAll.meas = [] ∧ e.scrubAll.home.recs = [] ∧ e.scrubAll.home.senders = [] := by
  have beside : e.scrubAll.besideSends = ([], [], [], { e.home with recs := [], senders := [] }) := EpState.besideSends_dropFlows _
  obtain ⟨keys, rest⟩ := Prod.mk.inj beside
  obtain ⟨rlc, rest⟩ := Prod.mk.inj rest
  obtain ⟨meas, home⟩ := Prod.mk.inj rest
  exact ⟨keys, rlc, meas, by rw [home], by rw [home]⟩

theorem Common.sayIdent_keeps (c : Common) : c.sayIdent.sec = c.sec ∧ c.sayIdent.rf = c.rf ∧ c.sayIdent.part = c.part :=
  ⟨each_keep Common.sec _ _ _ fun _ _ => rfl, each_keep Common.rf _ _ _ fun _ _ => rfl, each_keep Common.part _ _ _ fun _ _ => rfl⟩

/-- The end-point is in the pitch that waited for its scrub. -/
def Common.tookPitch (c : Common) (v : Nat) : Common := ({ c with sec := { c.sec with scrubTo := none, scrubOn := false } } : Common).wr 0xF0000 (BitVec.ofNat 32 v)

theorem EpState.scrubDone_idle (h : e.c.sec.scrubTo = none ∨ e.c.sec.scrubOn = false) : e.scrubDone = e := by
  unfold EpState.scrubDone
  split
  · next v hv => exact if_pos (by simpa [hv] using h)
  · rfl

theorem EpState.scrubDone_ends (v : Nat) (hv : e.c.sec.scrubTo = some v) (on : e.c.sec.scrubOn = true) : e.scrubDone = e.scrubAll.mod (fun c => (c.tookPitch v).sayIdent) := by
  simp only [EpState.scrubDone, hv]
  exact if_neg (by simp [on])

theorem Common.tookPitch_sayIdent (c : Common) (v : Nat) :
    (c.tookPitch v).sayIdent.sec = { c.sec with scrubTo := none, scrubOn := false } ∧ (c.tookPitch v).sayIdent.rd 0xF0000 = BitVec.ofNat 32 v := by
  obtain ⟨sec, rf, part⟩ := (c.tookPitch v).sayIdent_keeps
  refine ⟨sec.trans (Common.wr_sec _ _ _), ?_⟩
  rw [(c.tookPitch v).rd_congr _ part rf]
  exact Common.rd_wr_same _ _ _

end

/-! ### The debug unlock (R651) -/

theorem Common.unlock_sec (c : Common) : c.unlock.sec = { c.sec with keys := [], unlocked := true } := Common.event_sec _ _ _

section
variable (s : SwState)

/-- Every open collective is stopped. -/
def SwState.stopAll (s : SwState) : SwState := each (s.colls.filter (fun r => r.st != .committed)) s (fun s r => s.managerStop r)

/-- What a record is known by. -/
def CollRec.key (r : CollRec) : Nat × Nat × Bool := (r.group, r.seq, r.st == .committed)

theorem CollRec.abort_keeps (y : CollRec) (k : CollCause) : y.key = (y.abort k).key ∧ (y.cause.isSome = true → (y.abort k).cause.isSome = true) := by
  unfold CollRec.abort
  split
  · exact ⟨rfl, id⟩
  · exact ⟨rfl, fun _ => rfl⟩

/-- A stop leaves of each record what it is known by, and its cause where it has one. -/
theorem SwState.managerStop_from (r x : CollRec) (hx : x ∈ (s.managerStop r).colls) : ∃ y ∈ s.colls, y.key = x.key ∧ (y.cause.isSome = true → x.cause.isSome = true) := by
  obtain ⟨y, hy, rfl⟩ := List.mem_map.mp hx
  refine ⟨y, hy, ?_⟩
  split
  · exact y.abort_keeps _
  · exact ⟨rfl, id⟩

/-- Collectives that are stopped one after the other have a cause, and keep it. -/
theorem SwState.each_managerStop_cause (l : List CollRec) (x : CollRec) (hx : x ∈ (each l s (fun s r => s.managerStop r)).colls) (open_ : x.st ≠ .committed)
    (all : ∀ y ∈ s.colls, y.st ≠ .committed → y.cause.isSome = true ∨ ∃ r ∈ l, r.group = y.group ∧ r.seq = y.seq) : x.cause.isSome = true := by
  induction l generalizing s with
  | nil => exact (all x hx open_).elim id fun ⟨r, hr, _⟩ => absurd hr List.not_mem_nil
  | cons r l ih =>
    refine ih (s.managerStop r) hx fun z hz zOpen => ?_
    obtain ⟨y, hy, key, cause⟩ := s.managerStop_from r z hz
    simp only [CollRec.key, Prod.mk.injEq] at key
    obtain ⟨group, seq, st⟩ := key
    have yOpen : y.st ≠ .committed := fun h => zOpen (eq_of_beq (st ▸ beq_iff_eq.mpr h))
    obtain had | ⟨q, hq, qg, qs⟩ := all y hy yOpen
    · exact .inl (cause had)
    · obtain rfl | later := List.mem_cons.mp hq
      · exact .inl (s.managerStop_cause q z hz (group.symm.trans qg.symm) (seq.symm.trans qs.symm) zOpen)
      · exact .inr ⟨q, later, qg.trans group, qs.trans seq⟩

theorem SwState.stopAll_cause (x : CollRec) (hx : x ∈ s.stopAll.colls) (open_ : x.st ≠ .committed) : x.cause.isSome = true :=
  s.each_managerStop_cause _ x hx open_ fun y hy yOpen => .inr ⟨y, List.mem_filter.mpr ⟨hy, bne_iff_ne.mpr yOpen⟩, rfl, rfl⟩

/-- Every port but the selvedge is cleared. -/
def SwState.clearPorts (s : SwState) : SwState := each (List.range 288) s (fun s n => if selvedge .sw n then s else s.clearPort n)

/-- The ports are cleared, then the tables of every pitch. -/
def SwState.clearAll (s : SwState) : SwState := each (List.range 16) s.clearPorts (fun s p => s.clearTables p)

theorem SwState.colls_combClear (n : Nat) : (s.combClear n).colls = s.colls := each_keep SwState.colls _ _ _ fun s _ => s.mod_colls _

theorem SwState.colls_clearPorts : s.clearPorts.colls = s.colls := by
  refine each_keep SwState.colls _ _ _ fun s n => ?_
  split
  · rfl
  · exact s.colls_combClear n

theorem SwState.colls_clearAll : s.clearAll.colls = s.colls :=
  (each_keep SwState.colls _ _ (fun s p => s.clearTables p) fun _ _ => rfl).trans s.colls_clearPorts

theorem SwState.enrol_clearTables_same (p : Nat) : Tab.find (s.clearTables p).c.sec.enrol p = none := Tab.find_del_same _ _

theorem SwState.enrol_clearTables_none (p q : Nat) (h : Tab.find s.c.sec.enrol q = none) : Tab.find (s.clearTables p).c.sec.enrol q = none := by
  by_cases own : q = p
  · subst own
    exact s.enrol_clearTables_same q
  · exact (Tab.find_del_other _ _ _ own).trans h

theorem SwState.enrol_each_clearTables (l : List Nat) (p : Nat) (h : p ∈ l ∨ Tab.find s.c.sec.enrol p = none) :
    Tab.find (each l s (fun s p => s.clearTables p)).c.sec.enrol p = none := by
  induction l generalizing s with
  | nil => exact h.resolve_left List.not_mem_nil
  | cons q l ih =>
    refine ih (s.clearTables q) ?_
    obtain now | gone := h
    · obtain rfl | later := List.mem_cons.mp now
      · exact .inr (s.enrol_clearTables_same p)
      · exact .inl later
    · exact .inr (s.enrol_clearTables_none q p gone)

theorem SwState.enrol_clearAll (p : Nat) (h : p < 16) : Tab.find s.clearAll.c.sec.enrol p = none := SwState.enrol_each_clearTables _ _ p (.inl (List.mem_range.mpr h))

/-- The switch once its debug unlock has scrubbed it. -/
def SwState.unlocked (s : SwState) : SwState :=
  { s with c := s.c.unlock, scrubs := [], dram := [], cores := s.cores.map (fun (e : Nat × BarCore) => (e.1, e.2.cleared)) }

theorem SwState.unlocked_sec : s.unlocked.c.sec = { s.c.sec with keys := [], unlocked := true } := s.c.unlock_sec

theorem SwState.unlocked_enrol : s.unlocked.c.sec.enrol = s.c.sec.enrol := by rw [s.unlocked_sec]

theorem SwState.unlocked_bare : s.unlocked.scrubs = [] ∧ s.unlocked.dram = [] := by
  cases s
  exact ⟨rfl, rfl⟩

theorem SwState.unlocked_colls : s.unlocked.colls = s.colls := by cases s; rfl

theorem SwState.unlock_eq : s.unlock = s.stopAll.clearAll.unlocked := by
  unfold SwState.unlock
  extract_lets s0 s1 s2
  have all : s2 = s.stopAll.clearAll := rfl
  rw [all]
  rfl

/-- A core of a table whose entries were all changed. -/
theorem Tab.get_map {α : Type} (t : Tab α) (d : α) (f : α → α) (k : Nat) : Tab.get (t.map (fun e => (e.1, f e.2))) d k = ((Tab.find t k).map f).getD d := by
  unfold Tab.get
  congr 1
  induction t with
  | nil => rfl
  | cons e r ih =>
    obtain ⟨j, w⟩ := e
    rw [List.map_cons, Tab.find, Tab.find, ih]
    split <;> rfl

theorem SwState.core_unlocked (k : Nat) : (s.unlocked.core' k).blank := by
  have core : s.unlocked.core' k = ((Tab.find s.cores k).map BarCore.cleared).getD {} := Tab.get_map _ _ _ _
  rw [core]
  cases Tab.find s.cores k <;> exact ⟨rfl, rfl, rfl, rfl⟩

end

/-! ### Owners (R650, R703) -/

section
variable (c : Common) (z : ZPacket)

theorem Common.ownerEnrol_owned (h : c.sec.owned = true) : c.ownerEnrol z = c.zAnswer 0x0902 z 0x0901 (c.sec.owners.length - 1) [] := if_pos h

theorem Common.ownerEnrol_full (h : c.sec.owned = false) (full : 8 ≤ c.sec.owners.length) : c.ownerEnrol z = c.zAnswer 0x0902 z 0x0903 0 [] :=
  (if_neg (by simp [h])).trans (if_pos full)

/-- An event that names no pitch. -/
theorem Common.secEvent_zero (cause : Nat) : c.secEvent cause 0 = c.event (secEventA c.part) (cause * 4096) := by
  simp [Common.secEvent]

/-- The security state with a new owner: the root key of the session. -/
def Common.ownerAdded (c : Common) (z : ZPacket) : Security := { c.sec with owners := c.sec.owners ++ [{ hash := sha384 (c.sessionAt z).chain }] }

theorem Common.ownerAdded_owned : (c.ownerAdded z).owned = true := by
  simp [Security.owned, Common.ownerAdded]

theorem Common.ownerEnrol_enrols (h : c.sec.owned = false) (room : c.sec.owners.length < 8) :
    c.ownerEnrol z = (({ c with sec := c.ownerAdded z } : Common).event (secEventA c.part) 0x8000).zOk 0x0902 z (beBytes c.sec.owners.length 1 ++ [0, 0, 0]) := by
  have event : (c.modSec (fun _ => c.ownerAdded z)).secEvent 8 0 = ({ c with sec := c.ownerAdded z } : Common).event (secEventA c.part) 0x8000 := Common.secEvent_zero _ 8
  have steps : c.ownerEnrol z = ((c.modSec (fun _ => c.ownerAdded z)).secEvent 8 0).zOk 0x0902 z
      (beBytes ((c.modSec (fun _ => c.ownerAdded z)).secEvent 8 0).sec.ownerSlot 1 ++ [0, 0, 0]) := (if_neg (by simp [h])).trans (if_neg (Nat.not_le.mpr room))
  rw [steps, event, Common.event_sec]
  simp [Security.ownerSlot, Common.ownerAdded]

/-- A release is signed by the owner of the slot in use. -/
def Common.releaseGood (c : Common) (z : ZPacket) : Bool :=
  c.sec.owned && (c.sec.owners.getLast?.map (·.hash)) == some (sha384 (c.sessionAt z).chain) &&
    ecdsaOk (c.sessionAt z).chain c.releaseText (pn z.payload 0 48) (pn z.payload 48 48)

theorem Common.releaseGood_iff : c.releaseGood z = true ↔ c.sec.owned = true ∧ (c.sec.owners.getLast?.map (·.hash)) = some (sha384 (c.sessionAt z).chain) ∧
    ecdsaOk (c.sessionAt z).chain c.releaseText (pn z.payload 0 48) (pn z.payload 48 48) = true := by
  simp only [Common.releaseGood, Bool.and_eq_true, beq_iff_eq, and_assoc]

theorem Common.ownerRelease_bad (h : ¬c.releaseGood z = true) : c.ownerRelease z = c.zAnswer 0x0903 z 0x0902 0 [] := if_neg h

/-- The owner slots with the one in use released. -/
def Security.slotsReleased (x : Security) : List OwnerSlot := x.owners.mapIdx (fun i o => if i = x.ownerSlot then { o with released := true } else o)

theorem Common.ownerRelease_good (h : c.releaseGood z = true) :
    c.ownerRelease z = (({ c with sec := { c.sec with owners := c.sec.slotsReleased } } : Common).event (secEventA c.part) 0x8000).zOk 0x0903 z [] := by
  have event : ({ c with sec := { c.sec with owners := c.sec.slotsReleased } } : Common).secEvent 8 0 =
      ({ c with sec := { c.sec with owners := c.sec.slotsReleased } } : Common).event (secEventA c.part) 0x8000 := Common.secEvent_zero _ 8
  rw [← event]
  exact if_pos h

theorem Security.slotsReleased_length (x : Security) : x.slotsReleased.length = x.owners.length := List.length_mapIdx

theorem Security.slotsReleased_hash (x : Security) : x.slotsReleased.map (·.hash) = x.owners.map (·.hash) := by
  refine List.ext_getElem (by simp [x.slotsReleased_length]) fun i hi hj => ?_
  simp only [Security.slotsReleased, List.getElem_map, List.getElem_mapIdx]
  split <;> rfl

theorem Security.slotsReleased_owned (x : Security) : ({ x with owners := x.slotsReleased } : Security).owned = false := by
  simp only [Security.owned, List.getLast?_eq_getElem?, x.slotsReleased_length]
  simp only [Security.slotsReleased, List.getElem?_mapIdx, Security.ownerSlot]
  cases x.owners[x.owners.length - 1]? <;> simp

/-! ### Keys of a pitch (R654, R664) -/

theorem Common.pitchKeySet_refuses (h : c.mayKey z = false) : c.pitchKeySet z = c.zAnswer 0x0905 z 0x0016 0 [] := if_pos (by simp [h])

/-- The keys with a new one in the inactive phase of a pitch. -/
def Common.keysSet (c : Common) (z : ZPacket) : Tab TrafficKey := Tab.put c.sec.keys (c.keySlot z.index (1 - c.phase z.index)) { key := z.payload.take 32 }

theorem Common.pitchKeySet_sets (h : c.mayKey z = true) :
    c.pitchKeySet z = (({ c with sec := { c.sec with keys := c.keysSet z } } : Common).event (secEventA c.part) (0x6000 + if c.part = .sw then z.index % 16 * 256 else 0)).zOk 0x0905 z
      (beBytes (1 - c.phase z.index) 1 ++ [0, 0, 0]) := if_neg (by simp [h])

theorem Common.mayKey_iff : c.mayKey z = true ↔ (c.sessionOf z = some .manager ∨ c.sessionOf z = some (.tenant z.index)) ∧ (c.part = .ep → z.index = c.rf' 0xF0000 3 0) := by
  unfold Common.mayKey
  rw [Bool.and_eq_true]
  refine and_congr ?_ ?_
  · obtain _ | role := c.sessionOf z
    · simp
    · cases role <;> simp
  · cases c.part <;> simp

end

section
variable (s : State) (z : ZPacket)

theorem exec_ownerEnrol_accepted (h : s.accepts 0x0902 z = true) : exec (.ownerEnrol z) s = .next (s.afterZ z ((s.gated 0x0902 z).ownerEnrol z)) := by
  rw [exec_ownerEnrol, execOwnerEnrol, onZc_accepted 0x0902 z s _ h]

theorem exec_ownerRelease_accepted (h : s.accepts 0x0903 z = true) : exec (.ownerRelease z) s = .next (s.afterZ z ((s.gated 0x0903 z).ownerRelease z)) := by
  rw [exec_ownerRelease, execOwnerRelease, onZc_accepted 0x0903 z s _ h]

theorem exec_pitchEnrol_accepted (h : s.accepts 0x0904 z = true) : exec (.pitchEnrol z) s = .next (s.afterZ z ((s.gated 0x0904 z).pitchEnrol z)) := by
  rw [exec_pitchEnrol, execPitchEnrol, onZc_accepted 0x0904 z s _ h]

theorem exec_pitchKeySet_accepted (h : s.accepts 0x0905 z = true) : exec (.pitchKeySet z) s = .next (s.afterZ z ((s.gated 0x0905 z).pitchKeySet z)) := by
  rw [exec_pitchKeySet, execPitchKeySet, onZc_accepted 0x0905 z s _ h]

end

/-- Two next states of the switch are one where the switch is. -/
theorem nextSw (s : State) {t u : SwState} (h : t = u) : (.next (s.afterSw t) : Host.Outcome State Fault Refusal) = .next (s.afterSw u) := by rw [h]

/-- A command that ends the scrubs that satisfy a test. -/
theorem exec_scrubDone (s : State) (p kind unit : Nat) (i : Instr) (f : Scrub → Bool) (works : s.heldPart .sw = false)
    (hi : i = .pitchScrubDone p ∧ p < 16 ∧ Tab.get s.sw.pitches .free p = .scrubbing ∧ f = (fun x => x.pitch == p) ∨
      i = .resourceScrubDone kind unit ∧ kind < 5 ∧ f = (fun x => x.kind.code == kind && x.unit == unit)) : exec i s = .next (s.afterSw (s.sw.endScrubs f)) := by
  obtain ⟨rfl, hp, closing, rfl⟩ | ⟨rfl, hk, rfl⟩ := hi
  · rw [exec_pitchScrubDone, execPitchScrubDone, onSwIf_after s _ _ works (decide_eq_true hp), if_pos closing]
  · rw [exec_resourceScrubDone, execResourceScrubDone, onSwIf_after s _ _ works (decide_eq_true hk)]

/-- Settles O57: scrubs erase what they name, and owners and keys follow their sessions. -/
theorem scrubsErasePitchesAndKeysHaveOwners : Obligations.ScrubsErasePitchesAndKeysHaveOwners := by
  refine ⟨fun s p kind unit i f works hi => ?_, fun s p works hp idle => ?_, fun s works => ⟨fun idle => ?_, fun v hv on => ?_⟩, fun s => ⟨fun works => ?_, fun works => ?_⟩,
    fun s z h => ?_, fun s z h => ?_, fun s z h => ?_, fun s z h => ?_⟩
  · intro inside
    obtain ⟨c, eq⟩ := s.sw.endScrubs_eq f
    let start : SwState := { s.sw with scrubs := s.sw.scrubs.filter (fun x => !f x) }
    let gone := s.sw.scrubs.filter f
    have beside := start.besideScrubs_scrubbedAll gone
    simp only [SwState.besideScrubs, Prod.mk.injEq] at beside
    obtain ⟨scrubs, pitches, progs, colls⟩ := beside
    refine ⟨_, (exec_scrubDone s p kind unit i f works hi).trans (nextSw s eq), scrubs, pitches, progs, colls, fun x hx own core => ?_, fun k none_ => ?_,
      fun a x hx own at_ => ?_, fun a none_ => ?_⟩
    · exact start.core_scrubbedAll_in gone x (List.mem_filter.mpr ⟨hx, own⟩) core
    · exact start.core_scrubbedAll_out gone k fun x hx => none_ x (List.mem_filter.mp hx).1 (List.mem_filter.mp hx).2
    · exact start.dram_scrubbedAll_in gone a x (List.mem_filter.mpr ⟨hx, own⟩) at_
    · exact start.dram_scrubbedAll_out gone a fun x hx => none_ x (List.mem_filter.mp hx).1 (List.mem_filter.mp hx).2
  · rw [exec_pitchScrubDone, execPitchScrubDone, onSwIf_after s _ _ works (decide_eq_true hp), if_neg idle]
  · rw [exec_epScrubDone, execEpScrubDone, onEp_after s _ works, s.ep.scrubDone_idle idle]
  · obtain ⟨keys, rlc, meas, recs, senders⟩ := s.ep.scrubAll_erases
    obtain ⟨sec, pitch⟩ := s.ep.scrubAll.c.tookPitch_sayIdent v
    rw [exec_epScrubDone, execEpScrubDone, onEp_after s _ works, s.ep.scrubDone_ends v hv on]
    refine ⟨_, rfl, ?_, ?_, ?_, pitch, (EpState.mod_rlc _ _).trans rlc, (EpState.mod_meas _ _).trans meas,
      (congrArg Home.recs (EpState.mod_home _ _)).trans recs, (congrArg Home.senders (EpState.mod_home _ _)).trans senders⟩
    · exact congrArg Security.scrubTo sec
    · exact congrArg Security.scrubOn sec
    · exact (congrArg Security.keys sec).trans keys
  · rw [exec_debugUnlock, execDebugUnlock]
    have sec := s.sw.stopAll.clearAll.unlocked_sec
    refine ⟨_, (onSw_after s _ works).trans (nextSw s s.sw.unlock_eq), congrArg Security.keys sec, congrArg Security.unlocked sec,
      s.sw.stopAll.clearAll.unlocked_bare.1, s.sw.stopAll.clearAll.unlocked_bare.2,
      fun k => ?_, fun p hp => ?_, fun r hr open_ => ?_⟩
    · obtain ⟨pad, ctxs, lines, -⟩ := s.sw.stopAll.clearAll.core_unlocked k
      exact ⟨pad, ctxs, lines⟩
    · rw [SwState.unlocked_enrol, SwState.enrol_clearAll _ p hp]
    · rw [SwState.unlocked_colls, SwState.colls_clearAll] at hr
      exact s.sw.stopAll_cause r hr open_
  · obtain ⟨-, rlc, meas, recs, -⟩ := s.ep.scrubAll_erases
    have sec := s.ep.scrubAll.c.unlock_sec
    rw [exec_debugUnlock, execDebugUnlock]
    exact ⟨_, onEp_after s _ works, congrArg Security.keys sec, congrArg Security.unlocked sec, (EpState.mod_rlc _ _).trans rlc, (EpState.mod_meas _ _).trans meas,
      (congrArg Home.recs (EpState.mod_home _ _)).trans recs⟩
  · intro c
    rw [exec_ownerEnrol_accepted s z h]
    exact ⟨fun owned => nextZ s z (c.ownerEnrol_owned z owned), fun free full => nextZ s z (c.ownerEnrol_full z free full), fun free room =>
      ⟨c.ownerAdded_owned z, nextZ s z (c.ownerEnrol_enrols z free room)⟩⟩
  · intro c key good
    rw [exec_ownerRelease_accepted s z h]
    refine ⟨fun bad => nextZ s z (c.ownerRelease_bad z (mt (c.releaseGood_iff z).mp bad)), fun ok => ⟨_, nextZ s z (c.ownerRelease_good z ((c.releaseGood_iff z).mpr ok)), ?_⟩, rfl⟩
    simp only [Common.event_sec]
    exact ⟨c.sec.slotsReleased_owned, c.sec.slotsReleased_length, c.sec.slotsReleased_hash, trivial⟩
  · intro c hash
    exact exec_pitchEnrol_accepted s z h
  · intro c ph
    rw [exec_pitchKeySet_accepted s z h]
    refine ⟨fun no => nextZ s z (c.pitchKeySet_refuses z no), fun may => ⟨_, nextZ s z (c.pitchKeySet_sets z may), ?_⟩, c.mayKey_iff z⟩
    simp only [Common.event_sec]
    exact ⟨trivial, Tab.find_put_same _ _ _, fun k other => Tab.find_put_other _ _ _ _ other⟩

end Sys2Proof.Machine
end

section
/-!
PROOF. What entry into bivouac, a trip, a rail fault, a wake and a boot leave of the island's state (R613, R619 to R622, R645, R648, R749).
-/

namespace Sys2Proof.Machine

/-! ### What leaves the island alone -/

section
variable (c : Common) (n : Nat)

theorem Common.biv_sendLane (k : LaneSet) : (c.sendLane n k).biv = c.biv := c.modPort_biv n _

theorem Common.biv_leaveRaised : (c.leaveRaised n).biv = c.biv := c.modPort_biv n _

theorem Common.biv_completeStrike : (c.completeStrike n).biv = c.biv := c.modPort_biv n _

theorem Common.biv_strikeRun (cause : Nat) (cold : Bool) : (c.strikeRun n cause cold).biv = c.biv := by
  rw [Common.strikeRun, Common.biv_sendLane, Common.modTrain_biv, Common.biv_leaveRaised]

theorem Common.biv_strikeOrderly (cause : Nat) (cold : Bool) : (c.strikeOrderly n cause cold).biv = c.biv := by
  unfold Common.strikeOrderly
  simp only
  split
  · split
    · exact c.modTrain_biv n _
    · split
      · exact c.modPort_biv n _
      · rfl
  · rw [Common.biv_strikeRun, Common.linkEvent_biv]

theorem Common.biv_tellStrike (cause : Nat) : (c.tellStrike n cause).biv = c.biv := by
  rw [Common.tellStrike, Common.biv_sendLane, Common.modTrain_biv]

theorem Common.biv_strikeAbrupt (cause : Nat) : (c.strikeAbrupt n cause).biv = c.biv := by
  unfold Common.strikeAbrupt
  extract_lets p c1 c2
  have first : c1.biv = c.biv := by
    unfold c1
    split
    · rfl
    · rw [Common.biv_leaveRaised, Common.linkEvent_biv]
  have second : c2.biv = c.biv := by rw [Common.biv_completeStrike, Common.modTrain_biv, first]
  split
  · rfl
  · split
    · rw [Common.biv_tellStrike, second]
    · exact second

theorem Common.island_darkCombs (interlock : Bool) : ((c.darkCombs interlock).biv, (c.darkCombs interlock).fw) = (c.biv, c.fw) := by
  refine each_keep (fun c : Common => (c.biv, c.fw)) _ _ _ fun d k => ?_
  simp only
  split
  · rfl
  · split
    · rw [Common.combEvent, Common.event_biv, Common.event_fw, Common.modComb_biv, Common.modComb_fw]
    · rfl

theorem Common.biv_darkCombs (interlock : Bool) : (c.darkCombs interlock).biv = c.biv := (Prod.mk.inj (c.island_darkCombs interlock)).1

theorem Common.fw_darkCombs (interlock : Bool) : (c.darkCombs interlock).fw = c.fw := (Prod.mk.inj (c.island_darkCombs interlock)).2

theorem Common.biv_unlightPorts : c.unlightPorts.biv = c.biv := each_keep Common.biv _ _ _ fun d n => d.modPort_biv n _

theorem Common.fw_unlightPorts : c.unlightPorts.fw = c.fw := each_keep Common.fw _ _ _ fun d n => d.modPort_fw n _

theorem Common.biv_cancelScheduled (cause : Nat) : (c.cancelScheduled cause).biv = c.biv :=
  each_keep Common.biv _ c (fun c k => (c.closeSet k .cancelled).stageEvent cause k) fun d k => (d.closeSet k .cancelled).event_biv _ _

theorem Common.biv_gateCore : c.gateCore.biv = c.biv := c.biv_cancelScheduled 4

theorem Common.setBiv_biv (st : BivState) (cause : Nat) : (c.setBiv st cause).biv = { c.biv with st := st, cause := cause } := Common.event_biv _ _ _

theorem Common.setBiv_ledger (st : BivState) (cause : Nat) : (c.setBiv st cause).ledger = c.ledger := Common.event_ledger _ _ _

theorem Common.biv_tripCommon : c.tripCommon.biv = { c.biv with st := .bivouac, cause := 2 } := by
  have struck : ∀ d : Common, d.strikeAll.biv = d.biv := fun d => each_keep Common.biv _ _ _ fun e n => e.biv_strikeAbrupt n _
  unfold Common.tripCommon
  extract_lets c1
  rw [Common.setBiv_biv, Common.biv_gateCore, struck, Common.biv_darkCombs]
  unfold c1
  split
  · rw [Common.setBiv_biv]
  · rfl

/-! ### Entry by command (R619) -/

theorem Common.biv_enterBiv : c.enterBiv.biv = { c.biv with entryPick := some c.pick, st := .entering, cause := 1 } :=
  (each_keep Common.biv _ _ _ fun d n => d.biv_strikeOrderly n _ _).trans (Common.setBiv_biv _ _ _)

theorem Common.biv_settleBiv : c.settleBiv.biv = { c.biv with st := .bivouac, cause := 1, entryPick := none } := by
  unfold Common.settleBiv
  extract_lets c1 c2
  have ended : c1.biv = c.biv := each_keep Common.biv _ _ _ fun d n => by
    split
    · exact d.biv_completeStrike n
    · rfl
  have settled : c2.biv = { c.biv with st := .bivouac, cause := 1 } := by rw [Common.setBiv_biv, Common.biv_gateCore, Common.biv_darkCombs, ended]
  exact congrArg (fun b : Bivouac => { b with entryPick := none }) settled

/-- The entry pick of a part that is awake has not come. -/
theorem Common.entryDue_early (awake : c.biv.st = .awake) (later : ∀ p, c.biv.entryPick = some p → c.pick < p) : c.entryDue = false := by
  unfold Common.entryDue
  cases h : c.biv.entryPick with
  | none => simp
  | some p => simpa [awake] using later p h

theorem Common.entryDue_comes (p : Nat) (awake : c.biv.st = .awake) (hp : c.biv.entryPick = some p) (due : p ≤ c.pick) : c.entryDue = true := by
  simp [Common.entryDue, awake, hp, due]

theorem Common.entryDue_left (h : c.biv.st ≠ .awake) : c.entryDue = false := by
  simp [Common.entryDue, h]

theorem Common.entryDone_outside (h : c.biv.st ≠ .entering) : c.entryDone = false := by
  simp [Common.entryDone, h]

theorem Common.entryDone_strikes (p : Nat) (hp : c.biv.entryPick = some p) (soon : c.pick < p + 1000) (strikes : ∃ e, e ∈ c.ports ∧ e.2.t.strike ≠ none) : c.entryDone = false := by
  obtain ⟨e, he, runs⟩ := strikes
  have some_ : c.ports.all (fun e => e.2.t.strike.isNone) = false := List.all_eq_false.mpr ⟨e, he, by simpa using runs⟩
  simp [Common.entryDone, hp, some_, soon]

theorem Common.entryDone_over (entering : c.biv.st = .entering) (ended : (∀ e, e ∈ c.ports → e.2.t.strike = none) ∨ ∀ p, c.biv.entryPick = some p → p + 1000 ≤ c.pick) :
    c.entryDone = true := by
  simp only [Common.entryDone, entering, beq_self_eq_true, Bool.true_and, Bool.or_eq_true]
  refine ended.imp (fun none_ => List.all_eq_true.mpr fun e he => by simp [none_ e he]) fun late => ?_
  cases h : c.biv.entryPick with
  | none => rfl
  | some p => exact decide_eq_true (late p h)

end

/-! ### The switch's collectives at an entry (R619) -/

/-- What the reports of collectives leave of the switch: the island and DRAM. -/
def SwState.unreported (s : SwState) : Bivouac × Memory := (s.c.biv, s.dram)

section
variable (s : SwState)

theorem SwState.unreported_modCore (f : Core → Core) : (s.modCore f).unreported = s.unreported := rfl

theorem SwState.unreported_enq (n : Nat) (p : Packet) (excess : Bool) (input : Option Nat) (age : Nat) (arrived tap : Option Nat) :
    (s.enq n p excess input age arrived tap).unreported = s.unreported :=
  congrArg (·, s.dram) (s.c.sent_enqueue n _ _).biv

theorem SwState.unreported_toNode (node : Nat) (p : Packet) : (s.toNode node p).unreported = s.unreported := by
  unfold SwState.toNode
  split
  · split
    · rfl
    · unfold SwState.originate
      split
      · rfl
      · split
        · exact s.unreported_enq _ _ _ _ _ _ _
        · exact s.unreported_modCore _
  · rfl

theorem SwState.unreported_castWait (bus : Nat) : (s.castWait bus).unreported = s.unreported := by
  unfold SwState.castWait
  split
  · rfl
  · split
    · rfl
    · exact s.unreported_modCore _

theorem SwState.unreported_toMembers (r : CollRec) (p : Packet) : (s.toMembers r p).unreported = s.unreported := by
  unfold SwState.toMembers
  simp only
  split
  · exact (each_keep SwState.unreported _ _ _ fun d b => d.unreported_castWait b).trans (s.unreported_modCore _)
  · exact each_keep SwState.unreported _ _ _ fun d n => d.unreported_toNode n _

theorem SwState.unreported_commitColl (r : CollRec) (k : CollCause) : (s.commitColl r k).unreported = s.unreported := by
  unfold SwState.commitColl
  extract_lets cells s1 s2 s3 s4
  have told : s3.unreported = s.unreported := SwState.unreported_toMembers _ _ _
  have four : s4.unreported = s.unreported := told
  split
  · exact (congrArg (·, s4.dram) (s4.c.event_biv _ _)).trans four
  · exact four

/-- The switch at its entry pick: its collectives end, its ports are struck. -/
def SwState.enters (s : SwState) : SwState :=
  (each (s.colls.filter (fun r => r.st != .committed)) s (fun s r => s.commitColl r { state := 0x17 })).mod (fun c => c.enterBiv)

theorem SwState.enters_island : s.enters.c.biv.st = .entering ∧ s.enters.c.biv.cause = 1 ∧ s.enters.dram = s.dram := by
  let ended := each (s.colls.filter (fun r => r.st != .committed)) s (fun s r => s.commitColl r { state := 0x17 })
  have kept : ended.unreported = s.unreported := each_keep SwState.unreported _ _ _ fun d r => d.unreported_commitColl r _
  have biv : s.enters.c.biv = { ended.c.biv with entryPick := some ended.c.pick, st := .entering, cause := 1 } := ended.c.biv_enterBiv
  rw [biv]
  exact ⟨rfl, rfl, (Prod.mk.inj kept).2⟩

/-- The switch at the end of its entry: it stands in bivouac, with its core gated. -/
def SwState.settles (s : SwState) : SwState := (s.mod (fun c => c.settleBiv)).loseCore

theorem SwState.biv_loseCore : s.loseCore.c.biv = { s.c.biv with selfRefresh := true } := rfl

theorem SwState.loseCore_keeps : s.loseCore.colls = [] ∧ s.loseCore.dram = s.dram ∧ s.loseCore.progs = s.progs := by
  cases s
  exact ⟨rfl, rfl, rfl⟩

theorem SwState.settles_biv : s.settles.c.biv = { s.c.biv with st := .bivouac, cause := 1, entryPick := none, selfRefresh := true } := by
  rw [SwState.settles, SwState.biv_loseCore, SwState.mod_c, Common.biv_settleBiv]

theorem SwState.settles_keeps : s.settles.colls = [] ∧ s.settles.dram = s.dram ∧ s.settles.progs = s.progs := by
  obtain ⟨colls, dram, progs⟩ := (s.mod (fun c => c.settleBiv)).loseCore_keeps
  rw [SwState.settles, colls, dram, progs, SwState.mod_dram, SwState.mod_progs]
  exact ⟨rfl, rfl, rfl⟩

theorem SwState.bivEntry_same (due : s.c.entryDue = false) (done : s.c.entryDone = false) : s.bivEntry = s := by
  simp [SwState.bivEntry, due, done]

theorem SwState.bivEntry_enters (due : s.c.entryDue = true) : s.bivEntry = if s.enters.c.entryDone then s.enters.settles else s.enters := by
  unfold SwState.bivEntry
  extract_lets s1
  have first : s1 = s.enters := if_pos due
  rw [first]
  rfl

theorem SwState.bivEntry_settles (due : s.c.entryDue = false) (done : s.c.entryDone = true) : s.bivEntry = s.settles := by
  unfold SwState.bivEntry
  extract_lets s1
  have first : s1 = s := if_neg (by simp [due])
  rw [first]
  exact if_pos done

theorem SwState.bivEntry_due (p : Nat) (awake : s.c.biv.st = .awake) (hp : s.c.biv.entryPick = some p) (due : p ≤ s.c.pick) :
    (s.bivEntry.c.biv.st = .entering ∨ s.bivEntry.c.biv.st = .bivouac) ∧ s.bivEntry.c.biv.cause = 1 ∧ s.bivEntry.dram = s.dram := by
  obtain ⟨st, cause, dram⟩ := s.enters_island
  rw [s.bivEntry_enters (s.c.entryDue_comes p awake hp due)]
  split
  · rw [SwState.settles_biv]
    exact ⟨.inr rfl, rfl, s.enters.settles_keeps.2.1.trans dram⟩
  · exact ⟨.inl st, cause, dram⟩

end

/-! ### The end-point's entry -/

section
variable (e : EpState)

/-- The end-point at the end of its entry. -/
def EpState.settles (e : EpState) : EpState := (e.mod (fun c => c.settleBiv)).loseCore

theorem EpState.biv_loseCore : e.loseCore.c.biv = e.c.biv := e.c.biv_unlightPorts

theorem EpState.settles_biv : e.settles.c.biv = { e.c.biv with st := .bivouac, cause := 1, entryPick := none } := by
  rw [EpState.settles, EpState.biv_loseCore, EpState.mod_c, Common.biv_settleBiv]

theorem EpState.loseCore_keeps : e.loseCore.rlc = [] ∧ e.loseCore.src.reqs = [] ∧ e.loseCore.home.reqs = [] ∧ e.loseCore.lha.attached = e.lha.attached := ⟨rfl, rfl, rfl, rfl⟩

theorem EpState.bivEntry_same (due : e.c.entryDue = false) (done : e.c.entryDone = false) : e.bivEntry = e := by
  simp [EpState.bivEntry, due, done]

theorem EpState.bivEntry_enters (due : e.c.entryDue = true) :
    e.bivEntry = if (e.mod (fun c => c.enterBiv)).c.entryDone then (e.mod (fun c => c.enterBiv)).settles else e.mod (fun c => c.enterBiv) := by
  unfold EpState.bivEntry
  extract_lets s1
  have first : s1 = e.mod (fun c => c.enterBiv) := if_pos due
  rw [first]
  rfl

theorem EpState.bivEntry_settles (due : e.c.entryDue = false) (done : e.c.entryDone = true) : e.bivEntry = e.settles := by
  unfold EpState.bivEntry
  extract_lets s1
  have first : s1 = e := if_neg (by simp [due])
  rw [first]
  exact if_pos done

theorem EpState.bivEntry_due (p : Nat) (awake : e.c.biv.st = .awake) (hp : e.c.biv.entryPick = some p) (due : p ≤ e.c.pick) :
    let t := e.bivEntry
    t.c.biv.cause = 1 ∧ t.lha.attached = e.lha.attached ∧ (t.c.biv.st = .entering ∧ t.src = e.src ∧ t.home = e.home ∨ t.c.biv.st = .bivouac ∧ t.src.reqs = [] ∧ t.home.reqs = []) := by
  have biv : (e.mod (fun c => c.enterBiv)).c.biv = { e.c.biv with entryPick := some e.c.pick, st := .entering, cause := 1 } := e.c.biv_enterBiv
  intro t
  have steps : t = _ := e.bivEntry_enters (e.c.entryDue_comes p awake hp due)
  rw [steps]
  split
  · rw [EpState.settles_biv]
    exact ⟨rfl, rfl, .inr ⟨rfl, rfl, rfl⟩⟩
  · rw [biv]
    exact ⟨rfl, rfl, .inl ⟨rfl, rfl, rfl⟩⟩

end

/-! ### Trips and rail faults (R613, R749) -/

section
variable (s : SwState)

theorem SwState.fall_fallen (h : s.c.biv.st = .bivouac) : s.fall = s := if_pos h

/-- The switch falls: its combs go dark, its ports are struck, its core is gated. -/
theorem SwState.fall_falls (h : s.c.biv.st ≠ .bivouac) : s.fall = (s.mod (fun c => c.tripCommon)).loseCore := if_neg h

theorem SwState.fall_biv (h : s.c.biv.st ≠ .bivouac) : s.fall.c.biv = { s.c.biv with st := .bivouac, cause := 2, selfRefresh := true } := by
  rw [s.fall_falls h, SwState.biv_loseCore, SwState.mod_c, Common.biv_tripCommon]

theorem SwState.fall_keeps (h : s.c.biv.st ≠ .bivouac) : s.fall.colls = [] ∧ s.fall.dram = s.dram := by
  obtain ⟨colls, dram, -⟩ := (s.mod (fun c => c.tripCommon)).loseCore_keeps
  rw [s.fall_falls h, colls, dram, SwState.mod_dram]
  exact ⟨rfl, rfl⟩

end

/-! ### Wakes (R621, R622) -/

section
variable (c : Common)

theorem Common.startWake_keeps (cause : Nat) :
    (c.startWake cause).biv = { c.biv with wakeAt := c.pick, booted := cause != 3, railFault := false, st := .waking, cause := cause } ∧ (c.startWake cause).mgmt = c.mgmt := by
  rw [Common.startWake, Common.warmCombs_biv, Common.warmCombs_mgmt, Common.setBiv_biv, Common.setBiv, Common.event_mgmt]
  exact ⟨rfl, rfl⟩

section
variable (z : ZPacket)

theorem Common.zWake_up (h : c.biv.st = .awake ∨ c.biv.st = .waking) : c.zWake z = c.zSame 0x0404 z [] := by
  obtain st | st := h <;> simp only [Common.zWake, st]

theorem Common.zWake_entering (h : c.biv.st = .entering) : c.zWake z = c.zAnswer 0x0404 z zBusy 0x13 [] := by
  simp only [Common.zWake, h]

theorem Common.zWake_barred (h : c.biv.st = .bivouac) (barred : c.wakeReady = false) : c.zWake z = c.zAnswer 0x0404 z zBusy 0x14 [] := by
  simp [Common.zWake, h, barred]

theorem Common.zWake_wakes (h : c.biv.st = .bivouac) (ready : c.wakeReady = true) : c.zWake z = (c.startWake 1).zOk 0x0404 z [] := by
  simp [Common.zWake, h, ready]

theorem Common.zBivouac_attached : c.zBivouac z true = c.zAnswer 0x0403 z zBusy 0x12 [] := by
  simp only [Common.zBivouac, if_true]

theorem Common.zBivouac_soon (soon : pn z.payload 0 8 < c.pick + 1000) : c.zBivouac z false = c.zAnswer 0x0403 z 0x0112 1 [] := by
  simp only [Common.zBivouac, Bool.false_eq_true, if_false, if_pos soon]

theorem Common.zBivouac_notes (late : c.pick + 1000 ≤ pn z.payload 0 8) :
    c.zBivouac z false = ({ c with biv := { c.biv with entryPick := some (pn z.payload 0 8) } } : Common).zOk 0x0403 z [] := by
  simp only [Common.zBivouac, Bool.false_eq_true, if_false, if_neg (Nat.not_lt.mpr late)]

end

theorem Common.biv_markLost : c.markLost.biv = c.biv ∧ c.markLost.time = c.time := by
  let c1 := each (c.ledger.outUnits 6) c (fun c k => c.modComb k (fun b => { b with st := .retired }))
  have first : (c1.biv, c1.time) = (c.biv, c.time) := each_keep (fun c : Common => (c.biv, c.time)) _ _ _ fun _ _ => rfl
  have second : (c.markLost.biv, c.markLost.time) = (c1.biv, c1.time) := each_keep (fun c : Common => (c.biv, c.time)) _ _ _ fun _ _ => rfl
  exact Prod.mk.inj (second.trans first)

theorem Common.biv_alertOn : c.alertOn.biv = c.biv := by
  unfold Common.alertOn
  split
  · rfl
  · exact Common.event_biv _ _ _

theorem Common.beginWake_biv : c.beginWake.biv = { c.biv with inReset := false, dead := false, st := .waking, cause := 3, wakeAt := c.pick, booted := false } := by
  unfold Common.beginWake
  extract_lets b c1 c2
  have warm : c2.biv = c1.biv := by rw [Common.warmCombs_biv, c1.biv_markLost.1]
  split
  · rw [Common.biv_alertOn]
    exact warm
  · exact warm

theorem EpState.restart_reset (e : EpState) (h : e.c.biv.inReset = true) :
    e.restart.c.biv = { e.c.biv with inReset := false, dead := false, st := .waking, cause := 3, wakeAt := e.c.pick, booted := false } := by
  let c1 := each (e.c.ledger.outUnits 9) e.c (fun c u => c.wrF 0x7000C u u 1)
  have kept : (c1.biv, c1.time) = (e.c.biv, e.c.time) := each_keep (fun c : Common => (c.biv, c.time)) _ _ _ fun d u => by rw [Common.wrF_biv, Common.wrF_time]
  obtain ⟨biv, time⟩ := Prod.mk.inj kept
  have steps : e.restart = { e with c := c1.beginWake } := if_neg (by simp [h])
  rw [steps]
  refine c1.beginWake_biv.trans ?_
  rw [biv, Common.pick, time]
  rfl

theorem SwState.restart_reset (w : SwState) (h : w.c.biv.inReset = true) :
    w.restart.c.biv = { w.c.biv with inReset := false, dead := false, st := .waking, cause := 3, wakeAt := w.c.pick, booted := false } ∧
      w.restart.core.rotation = ((List.range 9).filter (fun n => !(w.c.ledger.outUnits 3).contains n)).take 8 := by
  have steps : w.restart = { w with
      c := w.c.beginWake, core := { w.core with shafts := (shaftsAfter (w.c.ledger.outUnits 3)).1, rotation := (shaftsAfter (w.c.ledger.outUnits 3)).2 },
      cores := (w.c.ledger.outUnits 4).map (fun k => (k, ({ st := .retired } : BarCore))), stacksLost := w.c.ledger.outUnits 5 } := if_neg (by simp [h])
  rw [steps]
  exact ⟨w.c.beginWake_biv, rfl⟩

/-! ### Units that return (R557) -/

theorem Common.returns_iff (k u : Nat) : c.returns k u = true ↔ (Tab.get c.ledger.loss {} (unitKey k u)).out = true ∧ (Tab.get c.ledger.loss {} (unitKey k u)).times < 3 := by
  simp [Common.returns]

theorem Common.warmComb_ledger (k : Nat) : (c.warmComb k).ledger = c.ledger := by
  unfold Common.warmComb
  split <;> rfl

theorem Common.takeBack_ledger (k u : Nat) : (c.takeBack k u).ledger = (c.unitBack k u).ledger := by
  unfold Common.takeBack
  simp only
  split
  · rw [Common.warmComb_ledger, Common.modComb_ledger]
  · exact Common.modEngine_ledger _ _ _
  · rfl

theorem Common.unitBack_ledger (k u : Nat) : (c.unitBack k u).ledger.loss = Tab.upd c.ledger.loss {} (unitKey k u) (fun r => { r with back := r.back + 1, out := false }) := by
  have kept : (c.event (resA c.part 0x004) (k * 4096 + 2048 + u % 512)).ledger = c.ledger := Common.event_ledger _ _ _
  simp only [Common.unitBack, kept]

theorem Common.takeBack_out (k u key : Nat) : (Tab.get (c.takeBack k u).ledger.loss {} key).out = ((Tab.get c.ledger.loss {} key).out && !(unitKey k u == key)) := by
  rw [Common.takeBack_ledger, Common.unitBack_ledger]
  by_cases own : key = unitKey k u
  · subst own
    simp
  · rw [Tab.get_upd_other _ _ _ _ _ own, beq_false_of_ne (Ne.symm own)]
    simp

theorem Common.each_takeBack_out (l : List (Nat × Nat)) (key : Nat) :
    (Tab.get (each l c (fun c u => c.takeBack u.1 u.2)).ledger.loss {} key).out = ((Tab.get c.ledger.loss {} key).out && !l.any (fun u => unitKey u.1 u.2 == key)) := by
  induction l generalizing c with
  | nil => simp
  | cons u l ih => rw [each_cons, ih, Common.takeBack_out, List.any_cons, Bool.not_or, Bool.and_assoc]

/-- A fold seen through a view of its state that its steps respect. -/
theorem each_view {α σ τ : Type} (g : σ → τ) (f : σ → α → σ) (f' : τ → α → τ) (h : ∀ s a, g (f s a) = f' (g s) a) (l : List α) (s : σ) : g (each l s f) = each l (g s) f' := by
  induction l generalizing s with
  | nil => rfl
  | cons a l ih => rw [each_cons, each_cons, ih, h]

theorem SwState.takeBack_c (s : SwState) (k u : Nat) : (s.takeBack k u).c = s.c.takeBack k u := by
  unfold SwState.takeBack
  simp only
  split <;> rfl

/-- What a unit that returns leaves of the switch. -/
def SwState.stored (s : SwState) : Memory × List CollRec × Tab Prog := (s.dram, s.colls, s.progs)

theorem SwState.stored_mod (s : SwState) (f : Common → Common) : (s.mod f).stored = s.stored := rfl

theorem SwState.stored_takeBack (s : SwState) (k u : Nat) : (s.takeBack k u).stored = s.stored := by
  have back := s.stored_mod (fun c => c.takeBack k u)
  unfold SwState.takeBack
  simp only
  generalize s.mod (fun c => c.takeBack k u) = s1 at back ⊢
  split <;> exact back

theorem EpState.takeBack_out (e : EpState) (k u key : Nat) :
    (Tab.get (e.takeBack k u).c.ledger.loss {} key).out = ((Tab.get e.c.ledger.loss {} key).out && !(unitKey k u == key)) := by
  have same : (e.takeBack k u).c.ledger = (e.c.takeBack k u).ledger := by
    rw [EpState.takeBack, EpState.mod_c]
    split
    · exact Common.wrF_ledger _ _ _ _ _
    · rfl
  rw [same, Common.takeBack_out]

theorem EpState.each_takeBack_out (l : List (Nat × Nat)) (e : EpState) (key : Nat) :
    (Tab.get (each l e (fun e u => e.takeBack u.1 u.2)).c.ledger.loss {} key).out = ((Tab.get e.c.ledger.loss {} key).out && !l.any (fun u => unitKey u.1 u.2 == key)) := by
  induction l generalizing e with
  | nil => simp
  | cons u l ih => rw [each_cons, ih, EpState.takeBack_out, List.any_cons, Bool.not_or, Bool.and_assoc]

theorem Common.wakeDone_biv : c.wakeDone.biv = { c.biv with st := .awake, selfRefresh := false, entryPick := none } := by
  unfold Common.wakeDone
  extract_lets c1
  have awake : c1.biv = { c.biv with st := .awake } := by rw [Common.setBiv_biv, Common.wakeTime, Common.wr_biv]
  exact congrArg (fun b : Bivouac => { b with selfRefresh := false, entryPick := none }) awake

theorem Common.wakeDone_ledger : c.wakeDone.ledger = c.ledger := by
  unfold Common.wakeDone
  extract_lets c1
  have kept : c1.ledger = c.ledger := by rw [Common.setBiv_ledger, Common.wakeTime, Common.wr_ledger]
  exact kept

end

/-- The units told that may return, counted by key. -/
theorem any_returns (l : List (Nat × Nat)) (r : Nat → Nat → Bool) (key : Nat) :
    (l.filter (fun u => r u.1 u.2)).any (fun u => unitKey u.1 u.2 == key) = l.any (fun u => unitKey u.1 u.2 == key && r u.1 u.2) := by
  rw [List.any_filter]
  simp only [Bool.and_comm]

theorem SwState.awake_same (s : SwState) (l : List (Nat × Nat)) (h : s.c.wakeMayEnd = false) : s.awake l = s := if_pos (by simp [h])

theorem EpState.awake_same (e : EpState) (l : List (Nat × Nat)) (h : e.c.wakeMayEnd = false) : e.awake l = e := if_pos (by simp [h])

section
variable (s : SwState) (l : List (Nat × Nat)) (h : s.c.wakeMayEnd = true)
include h

theorem SwState.awake_ends : s.awake l = (each (l.filter (fun u => s.c.returns u.1 u.2)) s (fun s u => s.takeBack u.1 u.2)).mod (fun c => c.wakeDone) := if_neg (by simp [h])

theorem SwState.awake_biv : (s.awake l).c.biv.st = .awake ∧ (s.awake l).c.biv.selfRefresh = false ∧ (s.awake l).c.biv.entryPick = none := by
  rw [s.awake_ends l h, SwState.mod_c, Common.wakeDone_biv]
  exact ⟨rfl, rfl, rfl⟩

theorem SwState.awake_keeps : (s.awake l).dram = s.dram ∧ (s.awake l).colls = s.colls ∧ (s.awake l).progs = s.progs := by
  rw [s.awake_ends l h, SwState.mod_dram, SwState.mod_colls, SwState.mod_progs]
  have kept := each_keep SwState.stored (l.filter (fun u => s.c.returns u.1 u.2)) s (fun s u => s.takeBack u.1 u.2) fun d u => d.stored_takeBack u.1 u.2
  simpa only [SwState.stored, Prod.mk.injEq] using kept

theorem SwState.awake_out (key : Nat) :
    (Tab.get (s.awake l).c.ledger.loss {} key).out = ((Tab.get s.c.ledger.loss {} key).out && !l.any (fun u => unitKey u.1 u.2 == key && s.c.returns u.1 u.2)) := by
  rw [s.awake_ends l h, SwState.mod_c, Common.wakeDone_ledger, each_view SwState.c _ (fun c u => c.takeBack u.1 u.2) fun d u => d.takeBack_c u.1 u.2, Common.each_takeBack_out, any_returns]

end

section
variable (e : EpState) (l : List (Nat × Nat)) (h : e.c.wakeMayEnd = true)
include h

theorem EpState.awake_ends : e.awake l = (each (l.filter (fun u => e.c.returns u.1 u.2)) e (fun s u => s.takeBack u.1 u.2)).mod (fun c => c.wakeDone) := if_neg (by simp [h])

theorem EpState.awake_biv : (e.awake l).c.biv.st = .awake ∧ (e.awake l).c.biv.entryPick = none := by
  rw [e.awake_ends l h, EpState.mod_c, Common.wakeDone_biv]
  exact ⟨rfl, rfl⟩

theorem EpState.awake_keeps : (e.awake l).lha = e.lha ∧ (e.awake l).src = e.src := by
  rw [e.awake_ends l h, EpState.mod_lha, EpState.mod_src]
  exact ⟨each_keep EpState.lha _ _ _ fun d u => d.mod_lha _, each_keep EpState.src _ _ _ fun d u => d.mod_src _⟩

theorem EpState.awake_out (key : Nat) :
    (Tab.get (e.awake l).c.ledger.loss {} key).out = ((Tab.get e.c.ledger.loss {} key).out && !l.any (fun u => unitKey u.1 u.2 == key && e.c.returns u.1 u.2)) := by
  rw [e.awake_ends l h, EpState.mod_c, Common.wakeDone_ledger, EpState.each_takeBack_out, any_returns]

end

/-! ### Secure boot (R645, R648, R649) -/

section
variable (c : Common) (okA okB : Bool)

/-- A slot is good: its image verifies, and its SVN is not below the floor. -/
theorem Common.slotGood_iff (b : Bool) : c.slotGood okA okB b = true ↔ (if b then okB else okA) = true ∧ c.sec.svnFloor ≤ (c.fw.img b).svn := by
  simp [Common.slotGood]

theorem Common.slotFails_keeps (b : Bool) : (c.slotFails b).sec = c.sec ∧ (c.slotFails b).fw = c.fw ∧ (c.slotFails b).biv = c.biv :=
  ⟨Common.event_sec _ _ _, Common.event_fw _ _ _, Common.event_biv _ _ _⟩

theorem Common.slotGood_slotFails (a b : Bool) : (c.slotFails a).slotGood okA okB b = c.slotGood okA okB b := by
  obtain ⟨sec, fw, -⟩ := c.slotFails_keeps a
  rw [Common.slotGood, sec, fw, Common.slotGood]

theorem Common.secureBoot_idle (h : c.biv.st ≠ .waking ∨ c.biv.cause ≠ 3 ∨ c.biv.booted = true) : c.secureBoot okA okB = c := if_pos h

/-- Neither slot is good: the part goes back to bivouac with cause RESET. -/
def Common.bootFails (c : Common) : Common := ((((c.slotFails c.fw.slotB).slotFails (!c.fw.slotB)).darkCombs false).unlightPorts).setBiv .bivouac 3

variable (st : c.biv.st = .waking) (cause : c.biv.cause = 3) (fresh : c.biv.booted = false)
include st cause fresh

theorem Common.secureBoot_first (good : c.slotGood okA okB c.fw.slotB = true) : c.secureBoot okA okB = c.bootFrom c.fw.slotB :=
  (if_neg (by simp [st, cause, fresh])).trans (if_pos good)

variable (bad : ¬c.slotGood okA okB c.fw.slotB = true)
include bad

theorem Common.secureBoot_other (good : c.slotGood okA okB (!c.fw.slotB) = true) : c.secureBoot okA okB = (c.slotFails c.fw.slotB).bootFrom (!c.fw.slotB) :=
  ((if_neg (by simp [st, cause, fresh])).trans (if_neg bad)).trans (if_pos (by rw [Common.slotGood_slotFails, good]))

theorem Common.secureBoot_none (worse : ¬c.slotGood okA okB (!c.fw.slotB) = true) : c.secureBoot okA okB = { c.bootFails with sec := { c.bootFails.sec with bootOk := false } } :=
  ((if_neg (by simp [st, cause, fresh])).trans (if_neg bad)).trans (if_neg (by rw [Common.slotGood_slotFails]; exact worse))

end

theorem Common.bootFails_keeps (c : Common) : c.bootFails.biv.st = .bivouac ∧ c.bootFails.biv.cause = 3 ∧ c.bootFails.fw = c.fw := by
  have fw : c.bootFails.fw = c.fw := by
    rw [Common.bootFails, Common.setBiv, Common.event_fw]
    refine (Common.fw_unlightPorts _).trans ((Common.fw_darkCombs _ _).trans ?_)
    rw [(Common.slotFails_keeps _ _).2.1, (Common.slotFails_keeps _ _).2.1]
  rw [fw, Common.bootFails, Common.setBiv_biv]
  exact ⟨rfl, rfl, rfl⟩

end Sys2Proof.Machine
end

section
/-!
PROOF. The island through the work of the end-point that the loss of a module sets off: the answers that its accesses stand for, in every engine that waits for one, and the quiesce behind the last module (R255, R256, R621).
-/

namespace Sys2Proof.Machine

variable {s : EpState}

/-! ### Runs, choices and packets -/

/-- A run of steps that each leave the island alone leaves it alone. -/
theorem biv_each {α : Type} {l : List α} {s : EpState} {f : EpState → α → EpState} (h : ∀ s x, (f s x).c.biv = s.c.biv) : (each l s f).c.biv = s.c.biv :=
  each_keep (fun e : EpState => e.c.biv) l s f h

/-- The same for a run that carries a second value along. -/
theorem biv_each_fst {α β : Type} {l : List α} {f : EpState × β → α → EpState × β} (h : ∀ p x, (f p x).1.c.biv = p.1.c.biv) (p : EpState × β) :
    (each l p f).1.c.biv = p.1.c.biv :=
  each_keep (fun q : EpState × β => q.1.c.biv) l p f h

/-- A choice between two states that both leave the island alone. -/
theorem biv_ite {p : Prop} [Decidable p] {x y : EpState} {b : Bivouac} (hx : x.c.biv = b) (hy : y.c.biv = b) : (if p then x else y).c.biv = b := by
  split
  · exact hx
  · exact hy

/-- A change of the common part that leaves the island alone, whatever the part holds. -/
theorem EpState.biv_mod {f : Common → Common} (h : ∀ c, (f c).biv = c.biv) : (s.mod f).c.biv = s.c.biv := h s.c

@[simp] theorem EpState.biv_modFlow (k f) : (s.modFlow k f).c.biv = s.c.biv := rfl

@[simp] theorem EpState.biv_modJob (e k f) : (s.modJob e k f).c.biv = s.c.biv := rfl

@[simp] theorem EpState.biv_putPacket (k p x) : (s.putPacket k p x).c.biv = s.c.biv := (s.sent_putPacket k p x).biv

@[simp] theorem EpState.biv_sendResponse (k p) : (s.sendResponse k p).c.biv = s.c.biv := by
  unfold EpState.sendResponse
  split
  · rfl
  · split
    · split <;> simp
    · simp

/-! ### Accesses, notices and counters -/

@[simp] theorem EpState.biv_notice (k n a b) : (s.notice k n a b).c.biv = s.c.biv := by
  unfold EpState.notice
  split <;> rfl

theorem EpState.biv_fireSlot (w) : (s.fireSlot w).c.biv = s.c.biv :=
  (EpState.biv_notice ..).trans (EpState.biv_mod fun c => c.wr_biv ..)

/-- What every firing of a wait slot leaves alone, a look at all of them leaves alone. -/
theorem EpState.checkSlots_keeps {β : Type} (g : EpState → β) (h : ∀ s w, g (s.fireSlot w) = g s) (i : Nat) : g (s.checkSlots i) = g s :=
  each_keep g _ s _ fun s x => by
    dsimp only
    split
    · exact h s _
    · rfl

theorem EpState.biv_checkSlots (i) : (s.checkSlots i).c.biv = s.c.biv := s.checkSlots_keeps (fun s => s.c.biv) (fun s w => s.biv_fireSlot w) i

@[simp] theorem EpState.biv_addCounter (i n) : (s.addCounter i n).c.biv = s.c.biv :=
  (EpState.biv_checkSlots _).trans (EpState.biv_mod fun c => (Common.wr_biv ..).trans (c.wr_biv ..))

/-! ### Requests at home -/

@[simp] theorem EpState.biv_startReq (r) : (s.startReq r).c.biv = s.c.biv := by
  unfold EpState.startReq
  exact biv_ite rfl (biv_ite rfl (biv_ite rfl (biv_ite (biv_ite rfl rfl) rfl)))

@[simp] theorem EpState.biv_startWaiting (l : List HomeReq) (s : EpState) : (s.startWaiting l).c.biv = s.c.biv := by
  induction l generalizing s with
  | nil => rfl
  | cons r l ih => exact (ih _).trans (biv_ite (s.biv_startReq ..) rfl)

@[simp] theorem EpState.biv_answerDup (r) : (s.answerDup r).c.biv = s.c.biv :=
  biv_ite rfl (biv_ite (s.biv_sendResponse ..) (biv_ite rfl (s.biv_sendResponse ..)))

@[simp] theorem EpState.biv_answerCopies (n q st d) : (s.answerCopies n q st d).c.biv = s.c.biv :=
  biv_each fun s _ => biv_ite (s.biv_sendResponse ..) (s.biv_answerDup ..)

@[simp] theorem EpState.biv_finishReq (r st d x) : (s.finishReq r st d x).c.biv = s.c.biv := by
  unfold EpState.finishReq
  extract_lets p ok s0 s1 n v s2 first s3 s4
  have counted : s1.c.biv = s.c.biv := biv_ite (s0.biv_addCounter ..) rfl
  have measured : s2.c.biv = s.c.biv := biv_ite (by simp [counted]) counted
  have answered : s4.c.biv = s.c.biv := (s3.biv_sendResponse ..).trans measured
  exact biv_ite ((s4.biv_answerCopies ..).trans answered) answered

@[simp] theorem EpState.biv_answerAtomic (r) : (s.answerAtomic r).c.biv = s.c.biv := s.biv_finishReq ..

@[simp] theorem EpState.biv_atomDone (r) : (s.atomDone r).c.biv = s.c.biv := biv_ite rfl (s.biv_answerAtomic ..)

@[simp] theorem EpState.biv_writeEntries (r k o) : (s.writeEntries r k o).1.c.biv = s.c.biv := by
  unfold EpState.writeEntries
  extract_lets b c0 vals
  split
  · rfl
  · exact biv_each fun s x => rfl

@[simp] theorem EpState.biv_finishBatch (r k st) : (s.finishBatch r k st).c.biv = s.c.biv := by
  unfold EpState.finishBatch
  extract_lets b s2
  have marked : ∀ t : EpState, (t.markMembers b st 0).c.biv = t.c.biv := fun t => biv_each fun s e => EpState.biv_answerCopies ..
  have closed : s2.c.biv = s.c.biv := (EpState.biv_putPacket ..).trans (marked _)
  exact biv_ite ((Common.bump_biv ..).trans closed) closed

@[simp] theorem EpState.biv_homeArsp (i st d) : (s.homeArsp i st d).c.biv = s.c.biv := by
  unfold EpState.homeArsp
  split
  · rfl
  · rw [EpState.biv_startWaiting]
    split
    · exact s.biv_finishBatch ..
    · exact biv_ite (s.biv_finishReq ..) (s.biv_finishReq ..)

@[simp] theorem EpState.biv_atomReadDone (r d) : (s.atomReadDone r d).c.biv = s.c.biv := by
  unfold EpState.atomReadDone
  extract_lets p o r1 s1 x
  have written : x.1.c.biv = s.c.biv := by
    unfold x
    split
    · exact s1.biv_writeEntries ..
    · rfl
  exact biv_ite written rfl

@[simp] theorem EpState.biv_atomReadArsp (i st d) : (s.atomReadArsp i st d).c.biv = s.c.biv := by
  unfold EpState.atomReadArsp
  split
  · rfl
  · exact biv_ite (s.biv_atomReadDone ..) (s.biv_homeArsp ..)

@[simp] theorem EpState.biv_atomWriteArsp (i st) : (s.atomWriteArsp i st).c.biv = s.c.biv := by
  unfold EpState.atomWriteArsp
  split
  · rfl
  · exact biv_ite (s.biv_homeArsp ..) ((EpState.biv_startWaiting ..).trans (s.biv_atomDone ..))

@[simp] theorem EpState.biv_matArsp (i st d) : (s.matArsp i st d).c.biv = s.c.biv := by
  unfold EpState.matArsp
  split
  · rfl
  next r _ =>
    refine biv_ite (s.biv_homeArsp ..) ?_
    extract_lets r1 s1
    split
    · exact biv_ite (s1.biv_writeEntries ..) (s1.biv_homeArsp ..)
    · exact (EpState.biv_startWaiting ..).trans (s1.biv_atomDone ..)

@[simp] theorem EpState.biv_artWriteArsp (i st) : (s.artWriteArsp i st).c.biv = s.c.biv := by
  unfold EpState.artWriteArsp
  split
  · rfl
  · split
    · exact biv_ite (EpState.biv_homeArsp ..) (biv_ite rfl rfl)
    · exact (EpState.biv_startWaiting ..).trans (biv_ite (s.biv_answerAtomic ..) (s.biv_finishReq ..))

@[simp] theorem EpState.biv_artReadArsp (i st d) : (s.artReadArsp i st d).c.biv = s.c.biv := by
  unfold EpState.artReadArsp
  split
  · rfl
  · exact (EpState.biv_startWaiting ..).trans (biv_ite (s.biv_answerAtomic ..) (s.biv_finishReq ..))

/-! ### Translation and its commands -/

@[simp] theorem EpState.biv_modCmd (k f) : (s.modCmd k f).c.biv = s.c.biv := rfl

@[simp] theorem EpState.biv_rlcDrop (f) : (s.rlcDrop f).c.biv = s.c.biv := Common.bump_biv _ _

@[simp] theorem EpState.biv_setAdvice (k o) : (s.setAdvice k o).c.biv = s.c.biv := (EpState.biv_rlcDrop _).trans (Common.wrF_biv ..)

@[simp] theorem EpState.biv_noLeaves (c) : (s.noLeaves c).c.biv = s.c.biv := biv_ite rfl rfl

theorem EpState.biv_adviseLeaf {c l t} (h : s.adviseLeaf c l = some t) : t.c.biv = s.c.biv := by
  unfold EpState.adviseLeaf at h
  split at h
  · split_ifs at h <;> obtain rfl := Option.some.inj h <;> rfl
  all_goals obtain rfl := Option.some.inj h
  · exact biv_ite (s.biv_setAdvice ..) rfl
  · exact biv_ite (s.biv_rlcDrop ..) rfl
  · exact biv_ite (s.biv_setAdvice ..) rfl
  · rfl

@[simp] theorem EpState.biv_cmdNext (k) : (s.cmdNext k).c.biv = s.c.biv := by
  unfold EpState.cmdNext
  split
  · rfl
  · split
    · split
      · exact biv_ite (s.biv_noLeaves ..) (biv_ite rfl rfl)
      · exact s.biv_noLeaves ..
    · refine biv_ite rfl ?_
      extract_lets big bad windows inWin
      refine biv_ite rfl (biv_ite rfl ?_)
      split <;> rfl

@[simp] theorem EpState.biv_cmdWalked (k e) : (s.cmdWalked k e).c.biv = s.c.biv := by
  unfold EpState.cmdWalked
  split
  · rfl
  · extract_lets ends
    split
    · rfl
    · exact biv_ite rfl (EpState.biv_cmdNext _)
    · refine biv_ite rfl ?_
      extract_lets go
      have gone : ∀ t, (go t).c.biv = t.c.biv := fun t => EpState.biv_cmdNext _
      refine biv_ite (gone s) ?_
      split
      next t h => exact (gone t).trans (EpState.biv_adviseLeaf h)
      · rfl

@[simp] theorem EpState.biv_walkArsp (i st d) : (s.walkArsp i st d).c.biv = s.c.biv := by
  unfold EpState.walkArsp
  split
  · rfl
  next w _ =>
    extract_lets close s1 e
    have closed : ∀ t x, (close t x).c.biv = t.c.biv := fun t x => by
      unfold close
      extract_lets t1
      refine biv_ite (biv_ite (t1.biv_cmdNext ..) (t1.biv_cmdWalked ..)) (biv_ite rfl ?_)
      split
      · exact biv_ite (biv_ite rfl rfl) (biv_ite rfl rfl)
      · exact biv_ite (Common.bump_biv ..) rfl
    have counted : s1.c.biv = s.c.biv := biv_ite (Common.bumpLo_biv ..) rfl
    refine biv_ite (biv_ite ((closed _ _).trans (Common.bumpHi_biv ..)) rfl) ?_
    split
    · exact (closed _ _).trans counted
    · exact counted

theorem EpState.biv_moverStep (c o) : (s.moverStep c o).c.biv = s.c.biv := by
  unfold EpState.moverStep
  split
  · split <;> rfl
  · rfl

@[simp] theorem EpState.biv_moverReadArsp (k o st d) : (s.moverReadArsp k o st d).c.biv = s.c.biv := by
  unfold EpState.moverReadArsp
  split
  · exact biv_ite rfl (biv_ite rfl (EpState.biv_moverStep ..))
  · rfl

@[simp] theorem EpState.biv_moverWriteArsp (k o) : (s.moverWriteArsp k o).c.biv = s.c.biv := by
  unfold EpState.moverWriteArsp
  split
  · exact s.biv_moverStep ..
  · rfl

@[simp] theorem EpState.biv_leafWriteArsp (k) : (s.leafWriteArsp k).c.biv = s.c.biv := by
  unfold EpState.leafWriteArsp
  split
  · exact biv_ite rfl rfl
  · rfl

/-! ### Copy engines -/

@[simp] theorem EpState.biv_descArsp (e k st d) : (s.descArsp e k st d).c.biv = s.c.biv := biv_ite rfl rfl

@[simp] theorem EpState.biv_unitOn (p u) : (s.unitOn p u).1.c.biv = s.c.biv := by
  unfold EpState.unitOn
  extract_lets drop
  split
  · split <;> rfl
  · split
    · rfl
    · split
      · rfl
      · exact biv_ite (x := EpState.mwr _ _ _ _) rfl rfl

@[simp] theorem EpState.biv_pieceLines (i f n d) : (s.pieceLines i f n d).c.biv = s.c.biv := by
  unfold EpState.pieceLines
  extract_lets s1
  split
  · rfl
  next p _ =>
    extract_lets r
    have run : r.1.c.biv = s.c.biv := biv_each_fst (β := List (Nat × Nat × Option Nat)) (fun x u => x.1.biv_unitOn p u) (s1, [])
    exact biv_ite run run

@[simp] theorem EpState.biv_lineArsp (p f n st d) : (s.lineArsp p f n st d).c.biv = s.c.biv := by
  unfold EpState.lineArsp
  split
  · rfl
  · exact EpState.biv_pieceLines _ ..

@[simp] theorem EpState.biv_opReadArsp (e k a st d) : (s.opReadArsp e k a st d).c.biv = s.c.biv := by
  unfold EpState.opReadArsp
  split
  · rfl
  · exact biv_ite rfl rfl

@[simp] theorem EpState.biv_ceAbort (e) : (s.ceAbort e).c.biv = s.c.biv := by
  unfold EpState.ceAbort
  split <;> rfl

/-! ### Messages in, direct accesses and collectives -/

@[simp] theorem EpState.biv_areqArsp (i st d) : (s.areqArsp i st d).c.biv = s.c.biv := by
  unfold EpState.areqArsp EpState.endAreq
  split <;> rfl

theorem EpState.biv_rqBegin (q) : (s.rqBegin q).c.biv = s.c.biv := biv_ite rfl rfl

@[simp] theorem EpState.biv_rqEnd (q st) : (s.rqEnd q st).c.biv = s.c.biv := by
  unfold EpState.rqEnd
  split
  · rfl
  · extract_lets s1 k note s2 s3
    have noted : s2.c.biv = s.c.biv := biv_ite rfl rfl
    exact (EpState.biv_rqBegin q).trans ((biv_each fun s c => s.biv_putPacket ..).trans ((s2.biv_putPacket ..).trans noted))

@[simp] theorem EpState.biv_rqWrite (q j d) : (s.rqWrite q j d).c.biv = s.c.biv := by
  unfold EpState.rqWrite
  extract_lets x slot n lines s1 s2
  exact biv_each (s := s2) fun s i => biv_ite rfl rfl

@[simp] theorem EpState.biv_rqFault (q k) : (s.rqFault q k).c.biv = s.c.biv := Common.event_biv ..

@[simp] theorem EpState.biv_rqDescArsp (q a st d) : (s.rqDescArsp q a st d).c.biv = s.c.biv := by
  unfold EpState.rqDescArsp
  split
  · rfl
  · refine biv_ite (s.biv_rqEnd ..) ?_
    extract_lets on s1 dom size used
    split
    · exact (EpState.biv_rqEnd ..).trans (s1.biv_rqFault ..)
    · refine biv_ite (s1.biv_rqEnd ..) (biv_ite (s1.biv_rqEnd ..) (biv_ite ?_ (biv_ite (biv_ite (s1.biv_rqEnd ..) rfl) (s1.biv_rqWrite ..))))
      exact (EpState.biv_rqEnd ..).trans (s1.biv_rqFault ..)

@[simp] theorem EpState.biv_rqBodyArsp (q st) : (s.rqBodyArsp q st).c.biv = s.c.biv := by
  unfold EpState.rqBodyArsp
  split
  · rfl
  · exact biv_ite rfl (biv_ite (EpState.biv_rqEnd ..) rfl)

@[simp] theorem EpState.biv_rqHeadArsp (q st) : (s.rqHeadArsp q st).c.biv = s.c.biv := biv_ite (s.biv_rqEnd ..) rfl

@[simp] theorem EpState.biv_abortPlanes (i c w) : (s.abortPlanes i c w).c.biv = s.c.biv := by
  unfold EpState.abortPlanes
  split
  · rfl
  · exact biv_each fun s k => s.biv_putPacket ..

@[simp] theorem EpState.biv_memFault (i) : (s.memFault i).c.biv = s.c.biv := s.biv_abortPlanes ..

@[simp] theorem EpState.biv_collSrcArsp (i k j o st d) : (s.collSrcArsp i k j o st d).c.biv = s.c.biv := by
  unfold EpState.collSrcArsp
  split
  · rfl
  · split
    · rfl
    · exact biv_ite (EpState.biv_memFault ..) rfl

@[simp] theorem EpState.biv_collDstArsp (i k j st) : (s.collDstArsp i k j st).c.biv = s.c.biv := biv_ite rfl (EpState.biv_memFault ..)

@[simp] theorem EpState.biv_collResidArsp (i st) : (s.collResidArsp i st).c.biv = s.c.biv := biv_ite rfl (EpState.biv_memFault ..)

@[simp] theorem EpState.biv_collRecArsp (i) : (s.collRecArsp i).c.biv = s.c.biv := by
  unfold EpState.collRecArsp
  split
  · rfl
  · exact biv_ite (EpState.biv_notice ..) rfl

/-! ### The loss of a module -/

@[simp] theorem EpState.biv_cplArsp (e n x) : (s.cplArsp e n x).c.biv = s.c.biv := biv_ite (s.biv_notice ..) rfl

theorem EpState.biv_answerEreq (e st d) : (s.answerEreq e st d).c.biv = s.c.biv := by
  unfold EpState.answerEreq EpState.ereqAnswered
  cases e.purp <;> simp [EpState.localWriteArsp, EpState.qReadArsp, EpState.backArrive, EpState.xqDescArsp, EpState.rqProdArsp, EpState.collDescArsp]

/-- What the commands that a quiesce gives to the members, the engines and the registers leave alone, its begin leaves alone. -/
theorem EpState.beginQuiesce_keeps_of {β : Type} (g : EpState → β) (lha : ∀ s f, g (EpState.modLha s f) = g s) (abort : ∀ s n c w, g (EpState.abortPlanes s n c w) = g s)
    (stop : ∀ s e, g (EpState.ceAbort s e) = g s) (write : ∀ s a, g (EpState.mod s (fun c => c.wrF a 0 0 0)) = g s) (done : Bool) : g (s.beginQuiesce done) = g s := by
  unfold EpState.beginQuiesce
  extract_lets s1 s2 s3 arms s4
  have closed : g s1 = g s := (each_keep g _ _ _ fun s r => abort s ..).trans (write s _)
  have stopped : g s2 = g s1 := each_keep g _ _ _ fun s e => stop s e
  have cleared : g s3 = g s2 := each_keep g _ _ _ fun s i => write s _
  have disarmed : g s4 = g s3 := each_keep g _ _ _ fun s e => write s _
  rw [lha, disarmed, cleared, stopped, closed]

theorem EpState.biv_beginQuiesce (done) : (s.beginQuiesce done).c.biv = s.c.biv :=
  EpState.beginQuiesce_keeps_of (fun s => s.c.biv) (fun _ _ => rfl) (fun s => s.biv_abortPlanes) (fun s => s.biv_ceAbort) (fun _ _ => EpState.biv_mod fun c => c.wrF_biv ..) done

theorem Common.biv_unitLost (c : Common) (k u : Nat) : (c.unitLost k u).biv = c.biv := by simp only [Common.unitLost, Common.errLasting, Common.event_biv]

theorem EpState.biv_detached (m) : (s.detached m).c.biv = s.c.biv := by
  rw [EpState.detached, EpState.mod_c, Common.biv_unitLost, EpState.lhaEvent, EpState.mod_c, Common.event_biv, EpState.biv_notice, EpState.takenOut, EpState.modLha_c,
    EpState.unlinked_c, Common.bumpHi_biv]

/-- What the answers of 1 and the begin of a quiesce leave alone, the loss of an attached module leaves as it is once the module is taken out. -/
theorem EpState.loseModule_keeps_of {β : Type} (g : EpState → β) (answer : ∀ s e, g (EpState.answerEreq s e 1 []) = g s) (quiesce : ∀ s, g (EpState.beginQuiesce s false) = g s)
    (m : Nat) (h : s.lha.attached.contains m = true) : g (s.loseModule m 1) = g (s.detached m) := by
  rw [s.loseModule_attached m h]
  extract_lets t
  have answered : g t = g (s.detached m) := each_keep g _ _ _ fun s e => answer s e
  split
  · exact (quiesce t).trans answered
  · exact answered

theorem EpState.biv_loseModule (m) : (s.loseModule m 1).c.biv = s.c.biv := by
  cases h : s.lha.attached.contains m with
  | false => rw [s.loseModule_unattached m h, EpState.unlinked_c, Common.bumpHi_biv]
  | true => exact (s.loseModule_keeps_of (fun s => s.c.biv) (fun s e => s.biv_answerEreq e 1 []) (fun s => s.biv_beginQuiesce false) m h).trans (s.biv_detached m)

end Sys2Proof.Machine
end

section
/-!
PROOF. Bivouac, wake, reset and boot, command by command (R557, R591, R613, R619 to R622, R645, R648, R745, R748, R749).
-/

namespace Sys2Proof.Machine

/-! ### Rail faults of the end-point -/

section
variable (e : EpState)

theorem EpState.fall_fallen (h : e.c.biv.st = .bivouac) : e.fall = e := if_pos h

/-- The end-point falls: its modules are lost, its combs go dark, its ports are struck, its core is gated. -/
theorem EpState.fall_falls (h : e.c.biv.st ≠ .bivouac) : e.fall = ((each e.lha.attached e (fun s m => s.loseModule m 1)).mod (fun c => c.tripCommon)).loseCore := if_neg h

theorem EpState.fall_biv (h : e.c.biv.st ≠ .bivouac) : e.fall.c.biv = { e.c.biv with st := .bivouac, cause := 2 } := by
  have lost : (each e.lha.attached e (fun s m => s.loseModule m 1)).c.biv = e.c.biv := biv_each fun s m => s.biv_loseModule m
  rw [e.fall_falls h, EpState.biv_loseCore, EpState.mod_c, Common.biv_tripCommon, lost]

theorem EpState.fall_rlc (h : e.c.biv.st ≠ .bivouac) : e.fall.rlc = [] := by
  rw [e.fall_falls h, (EpState.loseCore_keeps _).1]

end

/-! ### What the commands do in a part that works -/

section
variable (s : State) (z : ZPacket)

/-- Two next states of the end-point are one where the end-point is. -/
theorem nextEp {t u : EpState} (h : t = u) : (.next (s.afterEp t) : Host.Outcome State Fault Refusal) = .next (s.afterEp u) := by rw [h]

/-- The end-point's modules bar an entry into bivouac. -/
def State.barred (s : State) : Part → Bool
  | .sw => false
  | .ep => !s.ep.lha.quiesced && !s.ep.lha.attached.isEmpty

theorem exec_bivouac_accepted (h : s.accepts 0x0403 z = true) : exec (.bivouac z) s = .next (s.afterZ z ((s.gated 0x0403 z).zBivouac z (s.barred z.part))) := by
  rw [exec_bivouac, execBivouac, onZ_accepted 0x0403 z s _ _ h]
  unfold State.afterZ State.barred
  cases z.part <;> rfl

theorem exec_wake_accepted (h : s.accepts 0x0404 z = true) : exec (.wake z) s = .next (s.afterZ z ((s.gated 0x0404 z).zWake z)) := by
  rw [exec_wake, execWake, onZc_accepted 0x0404 z s _ h]

theorem State.barred_attached (hz : z.part = .ep) (q : s.ep.lha.quiesced = false) (a : s.ep.lha.attached ≠ []) : s.barred z.part = true := by
  simp [State.barred, hz, q, a]

theorem State.barred_free (h : z.part = .sw ∨ s.ep.lha.quiesced = true ∨ s.ep.lha.attached = []) : s.barred z.part = false := by
  cases hz : z.part with
  | sw => rfl
  | ep =>
    obtain sw | quiesced | empty := h
    · cases hz.symm.trans sw
    · simp [State.barred, quiesced]
    · simp [State.barred, empty]

end

section
variable (s : State) (works : s.heldPart .sw = false)
include works

theorem exec_bivouacEntry_sw : exec (.bivouacEntry .sw) s = .next (s.afterSw s.sw.bivEntry) := by
  rw [exec_bivouacEntry, execBivouacEntry, onBoth, onSw_after s _ works]

theorem exec_wakeComplete_sw (l : List (Nat × Nat)) : exec (.wakeComplete .sw l) s = .next (s.afterSw (s.sw.awake l)) := by
  rw [exec_wakeComplete, execWakeComplete, onBoth, onSw_after s _ works]

theorem exec_railFault_sw : exec (.railFault .sw) s = .next (s.afterSw (s.sw.mod (fun c => c.noteRail)).fall) := by
  rw [exec_railFault, execRailFault, onBoth, onSw_after s _ works]

end

section
variable (s : State) (works : s.heldPart .ep = false)
include works

theorem exec_bivouacEntry_ep : exec (.bivouacEntry .ep) s = .next (s.afterEp s.ep.bivEntry) := by
  rw [exec_bivouacEntry, execBivouacEntry, onBoth, onEp_after s _ works]

theorem exec_wakeComplete_ep (l : List (Nat × Nat)) : exec (.wakeComplete .ep l) s = .next (s.afterEp (s.ep.awake l)) := by
  rw [exec_wakeComplete, execWakeComplete, onBoth, onEp_after s _ works]

theorem exec_railFault_ep : exec (.railFault .ep) s = .next (s.afterEp (s.ep.mod (fun c => c.noteRail)).fall) := by
  rw [exec_railFault, execRailFault, onBoth, onEp_after s _ works]

end

theorem exec_secureBootDone_after (s : State) (part : Part) (okA okB : Bool) (works : s.heldPart part = false) :
    exec (.secureBootDone part okA okB) s = .next (s.after part ((s.common part).secureBoot okA okB)) := onPart_after s part _ works

/-! ### Reset -/

section
variable (s : State) (part : Part) (vaux : Bool)

/-- A part held in reset, with power or without. -/
def State.afterReset (s : State) (part : Part) (vaux : Bool) : State :=
  match part with
  | .sw => { s with sw := s.sw.afterReset vaux }
  | .ep => { s with ep := s.ep.afterReset vaux }

theorem State.common_afterReset : (s.afterReset part vaux).common part = (s.common part).afterReset vaux := by cases part <;> rfl

theorem exec_resetAssert_dead (dead : (s.common part).biv.dead = true) : exec (.resetAssert part) s = .next s := by
  rw [exec_resetAssert, execResetAssert]
  cases part <;> simp only [State.common] at dead <;> simp only [onRaw, if_pos dead]

theorem exec_resetAssert_powered (powered : (s.common part).biv.dead = false) : exec (.resetAssert part) s = .next (s.afterReset part true) := by
  rw [exec_resetAssert, execResetAssert]
  cases part <;> simp only [State.common] at powered <;> simp only [onRaw, powered, Bool.false_eq_true, if_false, State.afterReset]

theorem exec_suddenPowerLoss_resets : exec (.suddenPowerLoss part) s = .next (s.afterReset part false) := by cases part <;> rfl

/-- What resets a part, with power or without. -/
theorem exec_resets (i : Instr) (h : i = .resetAssert part ∧ vaux = true ∧ (s.common part).biv.dead = false ∨ i = .suddenPowerLoss part ∧ vaux = false) :
    exec i s = .next (s.afterReset part vaux) := by
  obtain ⟨rfl, rfl, powered⟩ | ⟨rfl, rfl⟩ := h
  · exact exec_resetAssert_powered s part powered
  · exact exec_suddenPowerLoss_resets s part

theorem SwState.restart_free (w : SwState) (h : w.c.biv.inReset = false) : w.restart = w := if_pos (by simp [h])

theorem EpState.restart_free (e : EpState) (h : e.c.biv.inReset = false) : e.restart = e := if_pos (by simp [h])

/-- A part whose RESET_N is released. -/
def State.released (s : State) : Part → State
  | .sw => { s with sw := s.sw.restart }
  | .ep => { s with ep := s.ep.restart }

theorem exec_resetRelease_releases : exec (.resetRelease part) s = .next (s.released part) := by cases part <;> rfl

theorem State.released_free (h : (s.common part).biv.inReset = false) : s.released part = s := by
  cases part
  · exact congrArg (fun w => ({ s with sw := w } : State)) (s.sw.restart_free h)
  · exact congrArg (fun e => ({ s with ep := e } : State)) (s.ep.restart_free h)

theorem State.released_biv (h : (s.common part).biv.inReset = true) :
    ((s.released part).common part).biv = { (s.common part).biv with inReset := false, dead := false, st := .waking, cause := 3, wakeAt := (s.common part).pick, booted := false } := by
  cases part
  · exact (s.sw.restart_reset h).1
  · exact s.ep.restart_reset h

end

/-! ### The obligation -/

theorem Common.entry_idle (c : Common) (h : c.biv.st = .bivouac ∨ c.biv.st = .waking) : c.entryDue = false ∧ c.entryDone = false := by
  obtain st | st := h <;> exact ⟨c.entryDue_left (by simp [st]), c.entryDone_outside (by simp [st])⟩

/-- Settles O56: the commands and events of the island, by where it stands. -/
theorem partsSleepWakeAndReset : Obligations.PartsSleepWakeAndReset := by
  refine ⟨fun s z h => ?_, fun s works => ?_, fun s works => ?_, fun s z h => ?_, fun s l => ?_, Common.returns_iff, fun s => ?_, fun s part i vaux hi => ?_, fun s part => ?_,
    fun s part okA okB works => ?_, fun c slotB => ⟨rfl, rfl, rfl, rfl, rfl, rfl, rfl⟩⟩
  · intro c p
    rw [exec_bivouac_accepted s z h]
    refine ⟨fun hz q a => nextZ s z ?_, fun free => ⟨fun soon => nextZ s z ?_, fun late => nextZ s z ?_⟩⟩
    · rw [s.barred_attached z hz q a, Common.zBivouac_attached]
    · rw [s.barred_free z free, Common.zBivouac_soon _ z soon]
    · rw [s.barred_free z free, Common.zBivouac_notes _ z late]
  · intro c
    rw [exec_bivouacEntry_sw s works]
    refine ⟨fun awake later => nextSw s ?_, fun p awake hp due => ⟨_, rfl, s.sw.bivEntry_due p awake hp due⟩, fun p st hp soon strikes => nextSw s ?_, fun st ended => ?_,
      fun st => nextSw s (s.sw.bivEntry_same (c.entry_idle st).1 (c.entry_idle st).2)⟩
    · exact s.sw.bivEntry_same (c.entryDue_early awake later) (c.entryDone_outside (by simp [awake]))
    · exact s.sw.bivEntry_same (c.entryDue_left (by simp [st])) (c.entryDone_strikes p hp soon strikes)
    · refine ⟨_, nextSw s (s.sw.bivEntry_settles (c.entryDue_left (by simp [st])) (c.entryDone_over st ended)), ?_⟩
      rw [s.sw.settles_biv]
      exact ⟨rfl, rfl, rfl, rfl, s.sw.settles_keeps⟩
  · intro c
    rw [exec_bivouacEntry_ep s works]
    refine ⟨fun awake later => nextEp s ?_, fun p st hp soon strikes => nextEp s ?_, fun p awake hp due => ⟨_, rfl, s.ep.bivEntry_due p awake hp due⟩, fun st ended => ?_,
      fun st => nextEp s (s.ep.bivEntry_same (c.entry_idle st).1 (c.entry_idle st).2)⟩
    · exact s.ep.bivEntry_same (c.entryDue_early awake later) (c.entryDone_outside (by simp [awake]))
    · exact s.ep.bivEntry_same (c.entryDue_left (by simp [st])) (c.entryDone_strikes p hp soon strikes)
    · refine ⟨_, nextEp s (s.ep.bivEntry_settles (c.entryDue_left (by simp [st])) (c.entryDone_over st ended)), ?_⟩
      rw [s.ep.settles_biv]
      exact ⟨rfl, rfl, rfl, (s.ep.mod (fun c => c.settleBiv)).loseCore_keeps⟩
  · intro c w
    rw [exec_wake_accepted s z h]
    exact ⟨fun st => nextZ s z (c.zWake_up z st), fun st => nextZ s z (c.zWake_entering z st), fun st barred => nextZ s z (c.zWake_barred z st barred),
      fun st ready => ⟨nextZ s z (c.zWake_wakes z st ready), (c.startWake_keeps 1).1, (c.startWake_keeps 1).2⟩⟩
  · refine ⟨fun works no => ?_, fun works no => ?_, fun works may => ?_, fun works may => ?_⟩
    · rw [exec_wakeComplete_sw s works, s.sw.awake_same l no]
    · rw [exec_wakeComplete_ep s works, s.ep.awake_same l no]
    · obtain ⟨st, refresh, entry⟩ := s.sw.awake_biv l may
      obtain ⟨dram, colls, progs⟩ := s.sw.awake_keeps l may
      exact ⟨_, exec_wakeComplete_sw s works l, st, refresh, entry, dram, colls, progs, s.sw.awake_out l may⟩
    · obtain ⟨st, entry⟩ := s.ep.awake_biv l may
      obtain ⟨lha, src⟩ := s.ep.awake_keeps l may
      exact ⟨_, exec_wakeComplete_ep s works l, st, entry, lha, src, s.ep.awake_out l may⟩
  · refine ⟨fun works st => ?_, fun works st => ?_, fun works st => ?_, fun works st => ?_⟩
    · rw [exec_railFault_sw s works]
      exact nextSw s ((s.sw.mod (fun c => c.noteRail)).fall_fallen st)
    · have biv := (s.sw.mod (fun c => c.noteRail)).fall_biv st
      obtain ⟨colls, dram⟩ := (s.sw.mod (fun c => c.noteRail)).fall_keeps st
      refine ⟨_, exec_railFault_sw s works, ?_⟩
      rw [biv]
      exact ⟨rfl, rfl, rfl, colls, dram.trans (SwState.mod_dram _ _)⟩
    · rw [exec_railFault_ep s works]
      exact nextEp s ((s.ep.mod (fun c => c.noteRail)).fall_fallen st)
    · have biv := (s.ep.mod (fun c => c.noteRail)).fall_biv st
      refine ⟨_, exec_railFault_ep s works, ?_⟩
      rw [biv]
      exact ⟨rfl, rfl, rfl, (s.ep.mod (fun c => c.noteRail)).fall_rlc st⟩
  · refine ⟨_, exec_resets s part vaux i hi, ?_⟩
    intro c d
    have eq : d = c.afterReset vaux := s.common_afterReset part vaux
    clear_value d c
    subst eq
    refine ⟨rfl, rfl, rfl, rfl, rfl, rfl, rfl, rfl, rfl, rfl, rfl, rfl, rfl, rfl, rfl, rfl, rfl, rfl, rfl, rfl, rfl, fun h => ?_, fun h => ?_⟩
    · subst h
      exact ⟨rfl, rfl, rfl, rfl⟩
    · subst h
      exact ⟨rfl, rfl, rfl, rfl⟩
  · intro c
    refine ⟨exec_resetAssert_dead s part, fun free => ?_, fun inReset => ⟨_, exec_resetRelease_releases s part, s.released_biv part inReset, fun h => ?_, fun h => ?_⟩⟩
    · rw [exec_resetRelease_releases, s.released_free part free]
    · subst h
      exact ⟨rfl, (s.sw.restart_reset inReset).2⟩
    · subst h
      rfl
  · intro c first good
    rw [exec_secureBootDone_after s part okA okB works]
    have passes : ∀ b, good b ↔ c.slotGood okA okB b = true := fun b => (c.slotGood_iff okA okB b).symm
    refine ⟨fun idle => nextAfter s part (c.secureBoot_idle okA okB idle), fun st cause fresh => ⟨fun one => ?_, fun bad other => ?_, fun bad worse => ?_⟩⟩
    · exact nextAfter s part (c.secureBoot_first okA okB st cause fresh ((passes _).mp one))
    · exact nextAfter s part (c.secureBoot_other okA okB st cause fresh (mt (passes _).mpr bad) ((passes _).mp other))
    · obtain ⟨biv, why, fw⟩ := c.bootFails_keeps
      exact ⟨_, nextAfter s part (c.secureBoot_none okA okB st cause fresh (mt (passes _).mpr bad) (mt (passes _).mpr worse)), biv, why, rfl, fw⟩

end Sys2Proof.Machine
end
